-- ==== Sys2Proof/Word.lean ====
section
/-! DEFINITION. The plainest types of the model: bytes, words, sparse tables and byte memories.
A table lists (key, value) pairs by strictly rising key and lists no pair whose value is the
default of the value's type, so that equal contents are equal data. -/

namespace Sys2Proof

/-- Eight bits, the unit of every memory of the device. -/
abbrev Byte := BitVec 8

/-- Thirty-two bits: a register of the map (R492), or an element in Y32 (R54). -/
abbrev Word := BitVec 32

/-- Sparse data by key. -/
abbrev Tab (α : Type) := List (Nat × α)

/-- Memory by byte address; an unlisted byte reads as zero. -/
abbrev Memory := Tab Byte

end Sys2Proof
end

