-- ==== Sys2Proof/Syntax.lean ====
section
/-! DEFINITION. The commands of the Y25, one constructor for each row of the opcode table.
A command is something that reaches the device from outside or that one of its own engines, timers
or firmware cores completes; its operands carry what the device cannot know by itself: what a wire,
a sensor, an error-correcting code or a signature check delivered. -/

namespace Sys2Proof

/-- What an error-correcting code found at a read. -/
inductive Ecc where
  /-- No error. -/
  | good
  /-- An error the code corrects. -/
  | corrected
  /-- An error the code only detects. -/
  | uncorrectable
  deriving DecidableEq, Repr

/-- A clock divider of CLK_DIV. -/
inductive Divider where
  /-- BRIDGE_DIV. -/
  | bridge
  /-- MGT_BUS_DIV. -/
  | mgtBus
  /-- HBM_CTL_DIV. -/
  | hbmCtl (stack : Fin 16)
  deriving DecidableEq, Repr

/-- How a loop-kernel routine ends (R201, R400). -/
inductive RoutineEnd where
  /-- Success. -/
  | success
  /-- A failure that the routine reports. -/
  | failure
  /-- A trap with its RISC-V exception cause code. -/
  | trap (cause : Nat)
  deriving DecidableEq, Repr

/-- What the owner of a chunk sends on in the gather phase (R219, R222). -/
inductive FinalSums where
  /-- The final record of a block. -/
  | block (n : Nat) (header : BitVec 16) (payload : List (BitVec 32))
  /-- The final list of a chunk. -/
  | list (chunk : Nat) (header : BitVec 64) (entries : List (BitVec 32 × BitVec 16))
  deriving DecidableEq, Repr

/-- How a read of host memory ends (R336, Table 12.4). -/
inductive HostRead where
  /-- Its data returns sound. -/
  | data
  /-- Its completion is poisoned. -/
  | poisoned
  /-- Its completion fails ECRC, which is checked where ECRC Check Enable is set. -/
  | badEcrc
  /-- It reaches its completion timeout. -/
  | timedOut
  deriving DecidableEq, Repr

/-- What is wrong with a request or completion of PCI Express that arrives (Table 12.4). -/
inductive Tlp where
  /-- Nothing. -/
  | good
  /-- It is poisoned. -/
  | poisoned
  /-- Its ECRC fails. -/
  | badEcrc
  deriving DecidableEq, Repr

/-- What the environment decides about a boot (R407, R43, Table 18.2 step 4). -/
structure BootEnv where
  /-- The configuration record passes its HMAC-SM3 check. -/
  cfgOk : Bool
  /-- Die-to-die lanes that fail qualification: channel, group, lane (R12). -/
  badLanes : List (Fin 32 × Fin 8 × Fin 32)
  deriving DecidableEq, Repr

/-- What the checks of R408 find in a firmware image. -/
structure ImageCheck where
  /-- The certificate chain leads to the fused key and the signature verifies. -/
  chainOk : Bool
  /-- Both digests match. -/
  digestsOk : Bool
  /-- SVN of the header. -/
  svn : Fin 65
  /-- SM3 measurement of the header. -/
  measurement : List (BitVec 8)
  deriving DecidableEq, Repr

/-- A watched handshake (R39, R40). -/
inductive Watched where
  /-- Inside an engine of a grove die: 0-2 MA, 3-6 VE, 7 layout, 8 stash. -/
  | engine (gd : Fin 16) (e : Fin 9)
  /-- On a die-to-die channel, seen at its first or second end. -/
  | channel (ch : Fin 32) (first : Bool)
  /-- In a control core. -/
  | core (c : Fin 32)
  deriving DecidableEq, Repr

/-- What a transfer timeout ends (Table 17.6). -/
inductive TimedOut where
  /-- The transaction that holds a tag. -/
  | tag (t : Fin 8192)
  /-- The wait of an epoch for a peer of its schedule, which began at an SOSC time. -/
  | epoch (sched : Fin 256) (since : Nat)
  /-- The wait of a combining engine for the partials of a descriptor, which began at an SOSC time. -/
  | partials (ring : Fin 1024) (idx : Nat) (since : Nat)
  deriving DecidableEq, Repr

/-- What a register write names, for registers without a row of their own. -/
inductive RegTarget where
  /-- A 32-bit word of BAR0; an 8-byte write is two of them, the low word first (R330). -/
  | word (addr : BitVec 24) (v : BitVec 32)
  /-- A write of another size or alignment (R330). -/
  | odd
  /-- A word of the MSI-X table of a virtual function (Table 12.3). -/
  | vfMsix (vf : Fin 64) (off : BitVec 9) (v : BitVec 32)
  /-- NumVFs, VF Enable, ECRC Check Enable and 10-Bit Tag Requester Enable in configuration space. -/
  | numVfs (n : BitVec 16)
  | vfEnable (on : Bool)
  | ecrcCheck (on : Bool)
  | tenBitTag (on : Bool)
  /-- ECRC Generation Enable; Enable Relaxed Ordering of a function; Max Payload Size 128, 256 or 512 bytes and Max Read
  Request Size 128 to 4,096 bytes, as powers of two; Completion Timeout Value and Disable. -/
  | ecrcGen (on : Bool)
  | relaxed (func : Fin 64) (on : Bool)
  | payloads (mps : Fin 3) (mrrs : Fin 6)
  | cplTimeout (value : Fin 16) (disable : Bool)
  /-- A write of a BAR0 word whose TLP is bad (Table 12.4). -/
  | bad (what : Tlp) (addr : BitVec 24) (v : BitVec 32)
  deriving DecidableEq, Repr

/-- An upset of one copy of a triplicated field (R497). -/
inductive Upset where
  /-- A field of the register map by its key: copy 0 to 2 and the value it now holds. -/
  | field (key : Nat) (copy : Fin 3) (v : Nat)
  /-- PLOT of a slab entry. -/
  | slabPlot (entry : Fin 65536) (copy : Fin 3) (v : BitVec 6)
  /-- A firebreak mask or port permission that a grove or verge die holds (R498): one copy, or copies so
  that no two agree. -/
  | derived (die : Fin 24) (noMajority : Bool)
  deriving DecidableEq, Repr

/-- Where a plot command or a lease write comes from (R380, R389). -/
inductive PlotSource where
  /-- A write of a register on a path of R490. -/
  | path (p : Fin 6)
  /-- A control frame of the manager, under a lease identity that covers some nodes. -/
  | manager (lease : BitVec 32) (nodes : List (Fin 1024))
  deriving DecidableEq, Repr

/-- A table that the manager writes, whole; entries that it does not list are not valid (R313). -/
inductive TableWrite where
  /-- Route table: the ports that reach a node, an Ethernet port with the MAC address of the node's port of the same
  number (R297). -/
  | route (l : List (Fin 1024 × List (Fin 24 × BitVec 48)))
  /-- Routing table of expert dispatch: node, its LOCAL_EXP and the ports of the path to it by entry (R232). -/
  | routing (l : List (Fin 512 × Fin 1024 × Nat × List (Fin 24)))
  /-- Schedule table: nodes in order by entry, and the copse of each node (R205). -/
  | schedule (l : List (Fin 256 × List (Fin 1024))) (copses : List (Fin 1024 × Nat))
  /-- Tag caps that the manager sets for peers (R301). -/
  | tagCaps (l : List (Fin 1024 × Fin 8193))
  deriving DecidableEq, Repr

/-- The commands of the block. -/
inductive Instr where
  /-- `CHANNEL_PARITY_ERROR`, R11: A die-to-die transfer arrives with a parity error, so the receiver rejects it, the sender repeats it, and the error is attributed to a lane. -/
  | channelParityError (ch : Fin 32) (group : Fin 8) (lane : Fin 32) (first : Bool)
  /-- `LANE_RETEST`, R11: A lane-by-lane retest of a die-to-die channel group starts and completes within 10 µs. -/
  | laneRetest (ch : Fin 32) (group : Fin 8) (failed : List (Fin 32))
  /-- `HBM_READ_RETURN`, R17: An HBM read returns from the controller: correctable data is corrected, written back and counted as C0. -/
  | hbmReadReturn (stack : Fin 16) (unit : Fin 3221225472) (row : Nat) (ecc : Ecc)
  /-- `HBM_SCRUB_READ`, R19: Patrol scrub paced over HBM_PASS_H hours reads the next 32-byte unit at lowest priority and writes back any correction. -/
  | hbmScrubRead (stack : Fin 16) (row : Nat) (ecc : Ecc)
  /-- `ROW_REPAIR`, R21: Once the maintenance arbiter grants it, the controller copies a candidate row to its repair buffer and fuses a spare row, or marks the row's pages for retirement when no spare is left. -/
  | rowRepair (stack : Fin 16) (row : Nat) (pages : List (Fin 25165824)) (spare : Bool)
  /-- `ROW_REPAIR_COMPLETE`, R21: A row repair finishes writing the buffered data to the spare row, so stalled bank requests and patrol scrub resume. -/
  | rowRepairComplete (stack : Fin 16)
  /-- `TILE_SCRUB`, R24: Tile-memory scrub paced over TILE_PASS_S seconds reads the next line of a bank at lowest priority. -/
  | tileScrub (gd : Fin 16) (bank : Fin 64) (upper : Bool) (ecc : Ecc)
  /-- `FLASH_RECORD_WRITE`, R30: The flash interface writes the next pending lane-retirement, fault-log or life-counter record in priority order, and retries to the next sector on read-back failure. -/
  | flashRecordWrite (good sectorLeft : Bool)
  /-- `LIFE_COUNTER_APPEND`, R31: The life counters are appended to flash at most once every 60 s. -/
  | lifeCounterAppend
  /-- `RATE_WINDOW`, R38: At the end of each 8,192-period SOSC window, STS_GD_RATE is updated with the count of replica row-steps. -/
  | rateWindow (gd : Fin 16) (count : Nat)
  /-- `WATCHDOG_EXPIRY`, R40: A watched handshake reaches CFG_STALL_WDOG.PERIOD_US, so the collector latches a stall fault and the engine is reset or the channel retested. -/
  | watchdogExpiry (what : Watched) (since : Nat)
  /-- `SOSC_FAULT`, R43: A die's SOSC stops or departs by more than 25 % from its monitor, and a grove die is fenced while a verge or clearing die causes C3. -/
  | soscFault (die : Fin 25)
  /-- `FREQUENCY_CHANGE`, R47: A deferred or requested change of HBM pin rate, SerDes division or HBM spread starts once no droop response holds it (R426), and stalls the affected requests. -/
  | frequencyChange (target : Fin 28)
  /-- `FREQUENCY_CHANGE_COMPLETE`, R47: A frequency change completes within 2 µs, and stalled requests or paused ports resume. -/
  | frequencyChangeComplete (target : Fin 28)
  /-- `LOSS_OF_LOCK`, R48: A multiplying loop loses lock, so its islands stop at a word boundary, the lock bit clears, and a second loss within 1 s is C3. -/
  | lossOfLock (loop : Fin 15)
  /-- `RELOCK`, R48: A loop regains lock and traffic on its islands resumes. -/
  | relock (loop : Fin 15)
  /-- `REFERENCE_EDGE_TIMEOUT`, R48: XIN0, XIN1 or REFCLK shows no edge for 20 µs, so every loop it feeds is treated as having lost lock. -/
  | referenceEdgeTimeout (ref : Fin 3) (lastEdge : Nat)
  /-- `REFERENCE_EDGES_RETURN`, R48: Edges return on a reference input, and the loops it feeds relock. -/
  | referenceEdgesReturn (ref : Fin 3)
  /-- `DIVIDER_APPLY`, R51: A changed clock divider is applied at the next gated-idle point of its island. -/
  | dividerApply (which : Divider)
  /-- `HBM_PIN_RATE_WRITE`, R47: A write to CLK_HBM_RATE.HBM_PIN_RATE requests a frequency change loop by loop, and 0b11 is ignored. -/
  | hbmPinRateWrite (path : Fin 6) (v : BitVec 32)
  /-- `SPREAD_SPECTRUM_WRITE`, R49: A write to CLK_SSC sets depth, rate and targets of spread spectrum, and a change on an HBM loop is a frequency change. -/
  | spreadSpectrumWrite (path : Fin 6) (v : BitVec 32)
  /-- `MATMUL`, R85: A MATMUL descriptor issues: its fields are checked and C is divided into tiles for the arrays of the plot. -/
  | matmul (ring : Fin 1024) (idx : Nat)
  /-- `TILE_ASSIGN`, R93: When an array becomes free, the scheduler assigns it the next tile in row-major order, under the forward and backward sharing of R112. -/
  | tileAssign (array : Fin 48)
  /-- `ARRAY_PASS_ISSUE`, R96: A pass issues once its A rows, B slice and reserved space are present, after the early quality test of R124 on the staged counts. -/
  | arrayPassIssue (array : Fin 48) (tile : List (Fin 64 × Fin 131072 × Ecc))
  /-- `ARRAY_PASS_COMPLETE`, R99: The last pass of a tile completes, so the run is judged and the results and statistics are written to C, or a repeat is requested. -/
  | arrayPassComplete (array : Fin 48)
  /-- `REDUCE`, R104: A REDUCE descriptor issues on arrays or, with ENGINE = 1, on vector engines (R155), and sums or finds the maximum or minimum along one axis. -/
  | reduce (ring : Fin 1024) (idx : Nat)
  /-- `PARTIAL_ARRIVE`, R157: A Y32 partial of a split reduction arrives at the combining vector engine, and the results are written once the last one arrives. -/
  | partialArrive (ring : Fin 1024) (idx n : Nat)
  /-- `REPEAT_REQUEST`, R135: The plot's budget counter on the clearing die takes a repeat request, and grants it or declares the budget exhausted under R134. -/
  | repeatRequest (plot : Fin 64)
  /-- `REPEAT_ANSWER`, R136: The grove die receives the grant or fallback answer, discards the tile's stacks and begins the repeat at its new rung, or sets the tile aside during Sapling service. -/
  | repeatAnswer (array : Fin 48)
  /-- `ELEMENTWISE`, R148: An ELEMENTWISE descriptor issues and computes Z element by element in Y32. -/
  | elementwise (ring : Fin 1024) (idx : Nat)
  /-- `NORM_FWD`, R161: A NORM_FWD descriptor issues and normalises each row in two passes, storing μ and r. -/
  | normFwd (ring : Fin 1024) (idx : Nat)
  /-- `NORM_BWD`, R162: A NORM_BWD descriptor issues and writes dx and the split column sums dγ and dβ. -/
  | normBwd (ring : Fin 1024) (idx : Nat)
  /-- `SOFTMAX_FWD`, R165: A SOFTMAX_FWD descriptor issues and writes the soft maximum of each row, from two passes or from fused statistics. -/
  | softmaxFwd (ring : Fin 1024) (idx : Nat)
  /-- `SOFTMAX_BWD`, R168: A SOFTMAX_BWD descriptor issues and writes dx = SCALE × y × (dy − s). -/
  | softmaxBwd (ring : Fin 1024) (idx : Nat)
  /-- `RNG_RESEED`, R171: A lane generator reaches 2³² draws and is reseeded from the security root's DRBG. -/
  | rngReseed (gd : Fin 16) (ve : Fin 4)
  /-- `PATH_SWITCH`, R175: At a reduction epoch boundary, a port changes between link adders and the vector-engine path, and an epoch in flight is replayed on the new path. -/
  | pathSwitch (port : Fin 24)
  /-- `NOP`, R349: A NOP descriptor without STEP_OPEN issues and has no effect. -/
  | nop (ring : Fin 1024) (idx : Nat)
  /-- `STEP_OPEN`, R180: A NOP with STEP_OPEN opens a step once no step of the plot is open, checking the sequence and admitting or refusing its stash budget. -/
  | stepOpen (ring : Fin 1024) (idx : Nat)
  /-- `DESCRIPTOR_REACH_HEAD`, R355: A descriptor reaches the head of its ring, so its timer starts and its step membership is judged under R181. -/
  | descriptorReachHead (ring : Fin 1024) (idx : Nat)
  /-- `STEP_CLOSE`, R182: The closing member issues after every earlier member has retired, and the step completes under R183. -/
  | stepClose (ring : Fin 1024) (idx : Nat)
  /-- `STEP_TIMEOUT`, R187: The step timeout expires, so unissued members abort and the update is skipped, or the step is flagged if commit has begun. -/
  | stepTimeout (plot : Fin 64)
  /-- `UPDATE_GATE`, R184: The first UPDATE member issues once every earlier member has retired and any barrier has answered, checks the regions, computes the rate, and commits or skips the update phase. -/
  | updateGate (ring : Fin 1024) (idx : Nat)
  /-- `UPDATE`, R249: An UPDATE descriptor commits its regions in ascending order, block by block, under their rules. -/
  | update (ring : Fin 1024) (idx : Nat)
  /-- `STEP_BARRIER_ANSWER`, R142: The manager's step barrier answer arrives, with the summed non-finite totals and the failed or skipped state of devices. -/
  | stepBarrierAnswer (lease total : Nat) (failed : Bool)
  /-- `BARRIER_REPORT`, R142: The manager receives a device's barrier report for a multi-device step, and answers once every device has reported. -/
  | barrierReport (node : Fin 1024) (lease total : Nat) (failed : Bool)
  /-- `STASH_PUSH`, R193: A STASH_PUSH is placed in HBM, spills, or overflows under the plot's policy, and links its entries at retirement. -/
  | stashPush (ring : Fin 1024) (idx : Nat)
  /-- `STASH_POP`, R195: A STASH_POP checks each slot's top entry and restores the rows into H_DST, releasing the entries at retirement. -/
  | stashPop (ring : Fin 1024) (idx : Nat)
  /-- `CORE_CALL`, R200: A CORE_CALL issues when enough of the plot's loop-kernel cores are free, and the monitors load the routine and its argument block. -/
  | coreCall (ring : Fin 1024) (idx : Nat) (core : Fin 32) (tcm : Ecc)
  /-- `LOAD`, R397: A CORE_CALL with ROUTINE 0x0000 copies and checks a routine image from a slab and registers it. -/
  | load (ring : Fin 1024) (idx : Nat) (digestOk : Bool)
  /-- `UNLOAD`, R398: A CORE_CALL with ROUTINE 0x0001 removes a routine table entry. -/
  | unload (ring : Fin 1024) (idx : Nat)
  /-- `ROUTINE_END`, R201: A loop-kernel routine ends in success, failure or a trap, and its CORE_CALL completes with the returned value. -/
  | routineEnd (core : Fin 28) (how : RoutineEnd) (value : BitVec 32)
  /-- `STREAM_START`, R400: A routine starts an access-engine stream, which the monitor refuses if it names an unpassed handle or a slab outside the plot's DEVICE slabs. -/
  | streamStart (core : Fin 28) (glade : Bool) (target start count : Nat) (stride : Int) (tcm : Nat) (write : Bool) (fmt : Fin 16) (data : List (BitVec 64))
  /-- `EXCHANGE`, R203: An EXCHANGE issues, thins the gradient into H_SEND and H_ROUT, and starts sending its contribution along the schedule. -/
  | exchange (ring : Fin 1024) (idx : Nat)
  /-- `EXCHANGE_RECORD_ARRIVE`, R216: A dense block record arrives for the reduce phase, is checked for epoch and format, and is added, rescaled or escaped by the link adder. -/
  | exchangeRecordArrive (port : Fin 24) (sched : Fin 256) (src : Fin 1024) (epoch : Fin 65536) (head : Option (Nat × Nat)) (block : Nat) (header : BitVec 16) (payload : List (BitVec 32))
  /-- `EXCHANGE_LIST_ARRIVE`, R221: A sparse list arrives and is merged with the local entries into one list. -/
  | exchangeListArrive (port : Fin 24) (sched : Fin 256) (src : Fin 1024) (epoch : Fin 65536) (head : Option (Nat × Nat)) (chunk : Nat) (header : BitVec 64) (entries : List (BitVec 32 × BitVec 16))
  /-- `EXCHANGE_GATHER_RECORD`, R219: A final record arrives in the gather phase, is forwarded unchanged, and its sums are written to H_DST. -/
  | exchangeGatherRecord (port : Fin 24) (sched : Fin 256) (src : Fin 1024) (epoch : Fin 65536) (head : Option (Nat × Nat)) (final : FinalSums)
  /-- `EPOCH_COMPLETE`, R227: The exchange epoch completes once H_DST is written and the gather phase has acknowledged the send buffer, and H_EXPT is renewed. -/
  | epochComplete (sched : Fin 256)
  /-- `EPOCH_ABORT`, R230: An abort for the epoch arrives, so the device stops the epoch and discards what it holds. -/
  | epochAbort (sched : Fin 256) (epoch : Fin 65536) (sealFail : Bool)
  /-- `EPOCH_REPLAY`, R231: A failed epoch is replayed once with the same number from unchanged send buffers, or the EXCHANGE fails. -/
  | epochReplay (sched : Fin 256)
  /-- `DISPATCH`, R233: A DISPATCH issues, checks every route entry, and sends each choice within its quota, or sends by H_DREC under REUSE. -/
  | dispatch (ring : Fin 1024) (idx : Nat)
  /-- `DISPATCH_ROW_ARRIVE`, R235: A dispatched row arrives, and the receiver writes it and its H_META record. -/
  | dispatchRowArrive (port : Fin 24) (sched : Fin 256) (src : Fin 1024) (epoch : Fin 65536) (row : Nat) (rank : Fin 8) (token : BitVec 32) (values : List (BitVec 32))
  /-- `DISPATCH_STREAM_CLOSE`, R235: A sender closes its dispatch stream, and DISPATCH retires once every sender has closed. -/
  | dispatchStreamClose (port : Fin 24) (sched : Fin 256) (src : Fin 1024) (epoch : Fin 65536)
  /-- `COMBINE`, R237: A COMBINE issues and returns each non-empty row of H_Y to its source. -/
  | combine (ring : Fin 1024) (idx : Nat)
  /-- `COMBINE_ROW_ARRIVE`, R237: An expert output row arrives at its source and is weighted and added into out_t. -/
  | combineRowArrive (port : Fin 24) (sched : Fin 256) (src : Fin 1024) (epoch : Fin 65536) (rank : Fin 8) (token : BitVec 32) (values : List (BitVec 32))
  /-- `MODE_CHANGE`, R265: A write of LNK_PORT_CTL.MODE changes the port's mode as a frequency change, and retrains and re-admits the port. -/
  | modeChange (path : Fin 6) (port : Fin 24) (v : BitVec 32)
  /-- `PORT_RATE_UPGRADE`, R266: At full bring-up, a Xasin port configured for full rate changes from reduced rate as a frequency change and keeps its keys. -/
  | portRateUpgrade (port : Fin 24)
  /-- `PORT_TRAINED`, R282: Training of a port completes, and admission begins. -/
  | portTrained (port : Fin 24) (node : Fin 1024) (first : Bool)
  /-- `FLIT_RECEIVE`, R272: A flit arrives and is FEC-decoded and CRC-checked, then accepted in SEQ order or discarded with a NAK, while its ACK and credits are applied. -/
  | flitReceive (port : Fin 24) (bytes : List (BitVec 8)) (word : List (Fin 544)) (tagOk : Bool)
  /-- `NAK_RECEIVE`, R272: A NAK arrives, so the sender resumes from the named SEQ, and the retry is attributed to a lane or the port. -/
  | nakReceive (port : Fin 24) (node : Fin 1024) (seq : Fin 4096) (errs : List Nat)
  /-- `LINK_RETRY_TIMEOUT`, R272: The acknowledged SEQ has not advanced for the link retry timeout, so the sender resends from the oldest unacknowledged flit. -/
  | linkRetryTimeout (port : Fin 24) (node : Fin 1024)
  /-- `NAK_RESEND_TIMEOUT`, R272: A NAK has brought nothing within the link retry timeout, so the receiver sends it again. -/
  | nakResendTimeout (port : Fin 24) (node : Fin 1024)
  /-- `SER_WINDOW`, R270: A window of 8,192 SOSC periods ends, and each lane's pre-FEC symbol error rate is formed and checked against CFG_LNK_BER_HOLD. -/
  | serWindow (port : Fin 24)
  /-- `LANE_RETIRE`, R277: A LANE_RETIRE control frame is taken, so both ends stop, record the retirement, realign FEC and resume by go-back-N. -/
  | laneRetire (port : Fin 24) (lanes : List (Fin 4))
  /-- `REQUAL`, R279: A write of 1 to LNK_PORT_CTL.REQUAL requests re-qualification from the arbiter, and it is ignored for a HOSTILE port without authorisation. -/
  | requal (path : Fin 6) (port : Fin 24) (v : BitVec 32)
  /-- `REQUAL_START`, R279: Re-qualification starts once granted, and both ends drive the retired lanes with PRBS31 for 10 s. -/
  | requalStart (port : Fin 24) (remote : Bool)
  /-- `REQUAL_COMPLETE`, R279: The 10 s PRBS test ends, so passing lanes have their records removed and the port realigns onto them. -/
  | requalComplete (port : Fin 24) (errs : List Nat) (syms : Nat) (uncorr : List (Fin 4))
  /-- `LPI_IDLE_TIMEOUT`, R280: A native port has been idle for LPI_IDLE_US and proposes low-power idle by control frame. -/
  | lpiIdleTimeout (port : Fin 24)
  /-- `LPI_AGREEMENT`, R280: The partner's low-power idle control frame is taken, and the port enters LPI with the larger wake time. -/
  | lpiAgreement (port : Fin 24) (wakeNs : Fin 65536)
  /-- `LPI_WAKE`, R280: New traffic or a wake signal ends low-power idle, and the first flit follows one wake time later. -/
  | lpiWake (port : Fin 24)
  /-- `ADMIT_HELLO`, R282: A HELLO admission message with node number, nonce and ephemeral key is taken. -/
  | admitHello (port : Fin 24) (node : Fin 1024) (partnerPort : Fin 24) (assigned : Bool) (modes : Nat) (nonce : BitVec 256) (key : BitVec 512)
  /-- `ADMIT_CERT`, R283: A CERT admission message is taken and the partner's chain is verified to the system root. -/
  | admitCert (port : Fin 24) (node : Fin 1024) (chain : List (BitVec 8)) (chainOk : Bool) (devId : BitVec 64)
  /-- `ADMIT_PROOF`, R283: A PROOF admission message is taken and its SM2 signature over the transcript is verified. -/
  | admitProof (port : Fin 24) (node : Fin 1024) (signature : BitVec 512) (sigOk : Bool)
  /-- `ADMIT_FINISHED`, R283: A FINISHED tag is verified, session keys are installed, and the port is admitted or goes to ADMIT_FAILED. -/
  | admitFinished (port : Fin 24) (node : Fin 1024) (tagOk : Bool)
  /-- `ADMISSION_TIMEOUT`, R283: Admission has not completed within 50 ms, so the port goes to ADMIT_FAILED. -/
  | admissionTimeout (port : Fin 24) (node : Fin 1024)
  /-- `ADMISSION_RETRY`, R284: The back-off after a failed admission expires, and admission is tried again with the back-off doubled up to 6.4 s. -/
  | admissionRetry (port : Fin 24) (node : Fin 1024)
  /-- `SEAL_RECEIVE`, R286: A SEAL flit arrives and is verified, so the transfer's data becomes visible or the port is quarantined. -/
  | sealReceive (port : Fin 24) (src : Fin 1024) (tag : Fin 8192) (sealOk : Bool)
  /-- `PUT_RECEIVE`, R361: The first flit of a peer put arrives, the remote slab is checked and claimed, or the put is refused. -/
  | putReceive (port : Fin 24) (src : Fin 1024) (tag : Fin 8192) (addr : BitVec 36) (len : Nat) (flip : Option (Fin 4)) (data : List (BitVec 8))
  /-- `READ_REQ`, R300: A remote read request flit arrives and the device returns READ_DATA. -/
  | readReq (port : Fin 24) (src : Fin 1024) (tag : Fin 8192) (addr : BitVec 36) (len : Nat)
  /-- `READ_DATA`, R286: Remote read data arrives for a read the device initiated, becoming visible once sealed. -/
  | readData (port : Fin 24) (src : Fin 1024) (tag : Fin 8192) (data : List (BitVec 8))
  /-- `COMPLETION`, R361: A COMPLETION flit arrives after the remote flip, and the sender's COPY retires. -/
  | completion (port : Fin 24) (src : Fin 1024) (tag : Fin 8192) (status : BitVec 8)
  /-- `SIGNAL_LOST`, R288: Signal is lost on a port that is UP, so the port goes DOWN and transfers in flight are resent under R274. -/
  | signalLost (port : Fin 24)
  /-- `SIGNAL_PROBE`, R288: Every 100 ms, a DOWN port probes for a partner's signal. -/
  | signalProbe (port : Fin 24) (found : Bool)
  /-- `ETHERNET_FRAME_RECEIVE`, R291: An Ethernet frame arrives and is checked for FCS, EtherType, version and count, then its flits are passed to the path's link layer or the frame is dropped. -/
  | ethernetFrameReceive (port : Fin 24) (node : Fin 1024) (fcsOk unicast : Bool) (bytes : List (BitVec 8)) (tagOk : Bool)
  /-- `TAG_GRANT`, R302: A freed transaction tag goes to the oldest waiting transaction that may take it, which then starts. -/
  | tagGrant
  /-- `MGT_FRAME_RECEIVE`, R308: A management frame arrives, is checked for FCS, size, address, EtherType, version and tag, and is delivered or dropped. -/
  | mgtFrameReceive (aligned untagged tagOk : Bool) (src : Fin 1024) (frame : List (BitVec 8))
  /-- `COLLISION`, R306: A collision on the segment starts truncated binary back-off, or drops the frame on a late or 16th collision. -/
  | collision (late : Bool)
  /-- `BACKOFF_EXPIRY`, R306: The back-off delay expires and the MAC attempts the frame again. -/
  | backoffExpiry
  /-- `PLCA_BEACON`, R307: A PLCA beacon arrives, so PLCA status is restored and the node transmits in its opportunity. -/
  | plcaBeacon
  /-- `PLCA_STATUS_CHANGE`, R307: Clause 148 reports PLCA status not OK, and the MAC falls back to CSMA/CD. -/
  | plcaStatusChange
  /-- `JOIN_HELLO`, R310: An untagged JOIN_HELLO on the segment is taken and can only cause an admission attempt. -/
  | joinHello
  /-- `JOIN_REQ`, R314: The copse lead takes a JOIN_REQ and forwards it with its copse map to the manager. -/
  | joinReq (devId : BitVec 64) (partners : List (Fin 1024))
  /-- `JOIN_FORWARD`, R315: The manager takes a forwarded join request and decides it in order, assigning a node, role and copse key or refusing. -/
  | joinForward (devId : BitVec 64) (copse : Nat) (partners : List (Fin 1024))
  /-- `JOIN_ANSWER`, R314: The joining device receives the join answer, with its role and copse key or a refusal status. -/
  | joinAnswer (devId : BitVec 64) (status : Fin 7) (node : Fin 1024) (spare : Bool) (manager : Fin 1024) (copse : Nat) (key : BitVec 256)
  /-- `TABLE_WRITE`, R314: A route, routing or schedule table frame arrives, and is applied only if its membership epoch exceeds the one held. -/
  | tableWrite (epoch : BitVec 32) (table : TableWrite) (role : Fin 3) (lead substituted : Bool) (hb : BitVec 32) (key : BitVec 256) (mgrEpoch : BitVec 32) (mgrNode : Fin 1024)
  /-- `LEAVE_REQUEST`, R316: The manager takes a device's leave request and grants it at a new epoch once no cross-device lease includes the device. -/
  | leaveRequest (node : Fin 1024)
  /-- `HEARTBEAT_SEND`, R317: Once per device heartbeat period, a joined device sends a HEARTBEAT with its sequence number and fault summary. -/
  | heartbeatSend
  /-- `HEARTBEAT`, R317: The manager receives a device's HEARTBEAT and marks its current window as not empty. -/
  | heartbeat (node : Fin 1024) (summary : BitVec 32)
  /-- `HEARTBEAT_WINDOW`, R317: A manager window of 0.95 periods closes, and 5 consecutive empty windows declare the device failed. -/
  | heartbeatWindow
  /-- `FENCE_FRAME`, R318: A FENCE naming a node arrives, and a device naming itself stops its cross-device work and sends only admission messages. -/
  | fenceFrame (node : Fin 1024)
  /-- `MANAGER_HEARTBEAT`, R319: Once per manager heartbeat period, the manager sends a heartbeat to the standby. -/
  | managerHeartbeat
  /-- `STANDBY_WINDOW`, R319: A standby window closes, and after 5 empty windows the standby polls every copse lead. -/
  | standbyWindow
  /-- `LEAD_POLL`, R319: A copse lead receives the standby's poll and answers whether the manager is silent toward it. -/
  | leadPoll (node : Fin 1024) (silent : Bool)
  /-- `POLL_TIMEOUT`, R319: The 5 ms poll period ends, and the standby takes over with a majority or reports its isolation. -/
  | pollTimeout
  /-- `MANAGER_ANNOUNCE`, R320: A new manager's announcement arrives, so devices send pending reports to it and a lower-epoch manager stands down. -/
  | managerAnnounce (node : Fin 1024) (mgrEpoch : BitVec 32) (devId : BitVec 64)
  /-- `REQUAL_AUTH`, R321: A REQUAL_AUTH frame from the manager authorises one re-qualification of a HOSTILE port. -/
  | requalAuth (target : Option (Fin 1024)) (port : Fin 24) (node : Fin 1024)
  /-- `DEVICE_DOWN`, R449: The manager receives DEVICE_DOWN and treats it at once as a declared failure. -/
  | deviceDown (node : Fin 1024)
  /-- `STAND_DOWN`, R449: The standby receives STAND_DOWN from the manager and takes over without waiting or polling. -/
  | standDown
  /-- `SPARE_SUBSTITUTION`, R459: Once the system lock is granted, the manager gives the spare the failed worker's position, raises the epoch and writes tables. -/
  | spareSubstitution
  /-- `PCIE_LINK_DOWN`, R327: The PCI Express link goes down, which acts as an FLR of the physical function. -/
  | pcieLinkDown
  /-- `HOT_RESET`, R327: A hot reset arrives from upstream and acts as an FLR of the physical function. -/
  | hotReset
  /-- `VF_FLR`, R338: An FLR of a virtual function resets its bound plot and discards completions of its earlier requests. -/
  | vfFlr (vf : Fin 64)
  /-- `PF_FLR`, R340: An FLR of the physical function clears VF Enable, resets every bound plot and returns ring set-up and MSI-X tables to reset. -/
  | pfFlr
  /-- `D3HOT_ENTRY`, R324: A function enters D3hot and stops requests, and this is treated as an FLR if its rings hold unretired descriptors. -/
  | d3hotEntry (func : Fin 64)
  /-- `BAR2_ACCESS`, R331: A host access through BAR2 reaches a HOST slab of a PF plot, or is refused and counted. -/
  | bar2Access (addr : BitVec 36) (write : Option (List (BitVec 8))) (len : Nat) (tlp : Tlp)
  /-- `DOORBELL`, R345: A doorbell write of TAIL is accepted or refused under R332 and R345, and wakes the device from Fallow under AUTO_WAKE. -/
  | doorbell (func : Fin 64) (ring : Fin 1024) (value : BitVec 64) (tlp : Tlp)
  /-- `MSIX_UNMASK`, R333: A masked MSI-X vector with its pending bit set is unmasked, and one message is sent. -/
  | msixUnmask (func : Fin 64) (vector : Fin 2048)
  /-- `DMA_COMPLETION`, R336: A PCIe completion for a device read arrives, is checked for poison and ECRC, and is used or discarded. -/
  | dmaCompletion (tag : Fin 8192) (data : List (BitVec 8)) (tlp : Tlp)
  /-- `COMPLETION_TIMEOUT`, R336: A PCIe read reaches its completion timeout, so its descriptor fails with DMA_ERROR as C2. -/
  | completionTimeout (tag : Fin 8192)
  /-- `PCIE_FATAL_ERROR`, R337: A fatal PCIe error such as a malformed TLP or surprise down acts under R327 as C2 for every plot. -/
  | pcieFatalError (down : Bool)
  /-- `DOE_DISCOVERY`, R341: A DOE Discovery request is answered by the PF mailbox. -/
  | doeDiscovery
  /-- `DOE_ABORT`, R341: A DOE Abort stops the object in progress in the mailbox. -/
  | doeAbort
  /-- `GET_VERSION`, R341: An SPDM GET_VERSION request is answered with version 1.2. -/
  | getVersion
  /-- `GET_CAPABILITIES`, R341: An SPDM GET_CAPABILITIES request is answered. -/
  | getCapabilities
  /-- `NEGOTIATE_ALGORITHMS`, R341: An SPDM NEGOTIATE_ALGORITHMS request is answered with SM2 and SM3. -/
  | negotiateAlgorithms
  /-- `GET_DIGESTS`, R341: An SPDM GET_DIGESTS request is answered with the slot 0 digest. -/
  | getDigests
  /-- `GET_CERTIFICATE`, R341: An SPDM GET_CERTIFICATE request returns up to 1,024 bytes of the identity chain. -/
  | getCertificate (slot : Fin 8) (start len : Nat)
  /-- `CHALLENGE`, R341: An SPDM CHALLENGE is answered with a signature by the device identity key. -/
  | challenge (slot : Fin 8)
  /-- `GET_MEASUREMENTS`, R341: An SPDM GET_MEASUREMENTS request returns the recorded firmware measurements. -/
  | getMeasurements
  /-- `RING_ENABLE`, R344: A write of 1 to RING_CFG.ENABLE enables the ring if function, plot and vector check, or sets STATE REFUSED. -/
  | ringEnable (path : Fin 6) (ring : Fin 1024) (v : BitVec 31)
  /-- `RING_DISABLE`, R344: A write of 0 to RING_CFG.ENABLE disables the ring only if RING_RETIRED equals RING_TAIL. -/
  | ringDisable (path : Fin 6) (ring : Fin 1024) (v : BitVec 31)
  /-- `DESCRIPTOR_FETCH`, R346: A 64-byte descriptor read returns from host memory, and its header is checked under R348. -/
  | descriptorFetch (ring : Fin 1024) (raw : BitVec 512) (how : HostRead)
  /-- `DESCRIPTOR_RETIRE`, R366: A finished descriptor retires in ring order, writes its completion entry, advances RING_RETIRED and signals its vector. -/
  | descriptorRetire (ring : Fin 1024)
  /-- `DESCRIPTOR_TIMEOUT`, R355: The descriptor timeout expires, so the engines working for it stop, and it retires with TIMEOUT once its last write has landed. -/
  | descriptorTimeout (ring : Fin 1024) (idx : Nat)
  /-- `COPY`, R360: A COPY issues and moves LEN units between tensors, host memory and local or peer glade, optionally converting and flipping a slab. -/
  | copy (ring : Fin 1024) (idx : Nat)
  /-- `TENSOR_RECORD_COPY`, R351: A COPY with DST_KIND 0b100 checks and writes tensor records, resetting the maintained scale fields. -/
  | tensorRecordCopy (ring : Fin 1024) (idx : Nat)
  /-- `FENCE`, R370: A FENCE issues once every earlier descriptor of its ring has retired, and holds later ones until it retires. -/
  | fence (ring : Fin 1024) (idx : Nat)
  /-- `FLAG_SET`, R362: A FLAG_SET issues after earlier descriptors retire and the slab is unclaimed, then sets OWNER and increments GEN. -/
  | flagSet (ring : Fin 1024) (idx : Nat)
  /-- `FLAG_WAIT`, R363: A FLAG_WAIT issues and checks its slab's owner and generation, blocking later descriptors of its ring. -/
  | flagWait (ring : Fin 1024) (idx : Nat)
  /-- `FLAG_WAIT_MATCH`, R363: A slab's flag comes to match a waiting FLAG_WAIT, which retires and releases its ring. -/
  | flagWaitMatch (ring : Fin 1024) (idx : Nat)
  /-- `SLAB_ENTRY_WRITE`, R359: An aligned 8-byte host write to a slab entry is applied if the owner, size and lease checks pass, or is refused and counted. -/
  | slabEntryWrite (path : Fin 6) (entry : Fin 65536) (value : BitVec 64) (whole : Bool)
  /-- `BIND`, R381: The BIND command checks the lease against the owner tables and starts clearing, seeding and mask writing, or fails with ERR. -/
  | bind (plot : Fin 64) (src : PlotSource)
  /-- `BIND_COMPLETE`, R382: Clearing, clean-page setting and seeding finish, the masks are written, and the plot becomes BOUND. -/
  | bindComplete (plot : Fin 64)
  /-- `RELEASE`, R383: The RELEASE command returns a drained plot's resources and makes it UNBOUND, or resets it with clearing first. -/
  | release (plot : Fin 64) (src : PlotSource)
  /-- `RESET`, R384: The RESET command starts a plot reset without clearing: the rings stop and the engines stop at their boundaries. -/
  | reset (plot : Fin 64) (src : PlotSource)
  /-- `RESET_CLEAR`, R384: The RESET_CLEAR command starts a plot reset with clearing. -/
  | resetClear (plot : Fin 64) (src : PlotSource)
  /-- `PLOT_DRAINED`, R384: Every write of a resetting plot has landed and every tag is free, so the stash is emptied, slabs are freed and the record is written. -/
  | plotDrained (plot : Fin 64)
  /-- `PLOT_DRAIN_TIMEOUT`, R384: The plot drain timeout expires, so engines still running are reset, and a failure is ENGINE_STUCK C3. -/
  | plotDrainTimeout (plot : Fin 64) (stuck : Option (Fin 16)) (running : List (Fin 16 × Fin 9))
  /-- `PLOT_RESET_COMPLETE`, R384: Banks are flash-cleared and generators seeded, and the plot returns to BOUND. -/
  | plotResetComplete (plot : Fin 64)
  /-- `PLOT_LEASE_WRITE`, R379: A write to a plot's lease registers takes effect only in UNBOUND, and otherwise is ignored and counted. -/
  | plotLeaseWrite (src : PlotSource) (addr : BitVec 24) (v : BitVec 32)
  /-- `POWER_ON`, R511: VIN_48 has stayed above 45 V for 10 ms, so power-on reset is released and the boot ROM starts. -/
  | powerOn (env : BootEnv)
  /-- `EXTENSION_LOAD`, R407: Once H0 or H8 has trained, the firmware extension part is read into extent 95 and its digest is checked. -/
  | extensionLoad (good : Bool)
  /-- `STACK_TRAINED`, R473: An HBM stack completes training, and its grove die can qualify. -/
  | stackTrained (stack : Fin 16) (good : Bool)
  /-- `GROVE_DIE_JOIN`, R474: A grove die qualifies and joins service, so its resources of pending binds are cleared and waiting descriptors may issue. -/
  | groveDieJoin (gd : Fin 16) (badLanes : List (Fin 32 × Fin 8 × Fin 32)) (tileOk : Bool)
  /-- `BRINGUP_FULL`, R479: Every resource is in service, fenced or retired, so PHASE becomes FULL, ports move to link adders and set-aside work issues. -/
  | bringupFull
  /-- `PERST_N_ASSERT`, R472: PERST_N is asserted for at least 1 µs and acts at once as a warm reset with PCI Express state reset. -/
  | perstNAssert (env : BootEnv)
  /-- `PERST_N_RELEASE`, R512: PERST_N is released, so MGR_SEL is sampled and PCI Express link training begins. -/
  | perstNRelease (mgrSel : Bool) (env : BootEnv)
  /-- `SCAN_INSTRUCTION`, R505: A JTAG scan instruction loaded while the device runs stops every die as a C3 event. -/
  | scanInstruction
  /-- `STAGE`, R412: The STAGE command copies an image from glade slabs, verifies it and writes it to the idle slot, or is refused. -/
  | stage (path : Fin 6) (image : ImageCheck)
  /-- `FLASH_SECTOR_PROGRAM`, R413: A staged image sector is erased and programmed, and PENDING follows read-back of the last one. -/
  | flashSectorProgram (good granted : Bool)
  /-- `CONFIRM`, R411: The CONFIRM command marks a TRIAL image VALID and may raise FUSE_SVN. -/
  | confirm (path : Fin 6)
  /-- `SELF_TEST_PASS`, R411: Full bring-up and self-test pass, so firmware confirms a TRIAL image when MANUAL_CONFIRM is 0. -/
  | selfTestPass
  /-- `CONFIRM_TIMEOUT`, R411: No confirmation arrives within 120 s, so the device performs a warm reset and falls back. -/
  | confirmTimeout
  /-- `REVERT`, R414: The REVERT command marks a PENDING or running TRIAL image BAD, with a warm reset for the latter. -/
  | revert (path : Fin 6)
  /-- `COMMIT_SVN`, R414: The COMMIT_SVN command blows fuses up to the running VALID image's SVN. -/
  | commitSvn (path : Fin 6)
  /-- `RECOVERY_CHUNK`, R410: The RECOVERY_CHUNK command takes an image from SEC_RECOVERY_WIN, verifies it and marks it PENDING. -/
  | recoveryChunk (path : Fin 6) (image : ImageCheck)
  /-- `ABORT`, R413: The ABORT command stops staging at the next sector boundary and leaves the slot EMPTY. -/
  | abort (path : Fin 6)
  /-- `NONCE_REQ`, R406: A write of SEC_DEBUG.NONCE_REQ makes core 3 place a fresh nonce in the mailbox. -/
  | nonceReq (path : Fin 6)
  /-- `GET_CSR`, R404: The GET_CSR mailbox command returns a certificate signing request signed by the identity key. -/
  | getCsr (len : BitVec 14)
  /-- `INSTALL_ROOT`, R404: The INSTALL_ROOT mailbox command installs or replaces the system-root certificate under R404. -/
  | installRoot (len : BitVec 14) (signed : Bool)
  /-- `INSTALL_CHAIN`, R404: The INSTALL_CHAIN mailbox command installs the installation chain if it verifies. -/
  | installChain (len : BitVec 14) (verifies : Bool)
  /-- `REMOVE_ROOT`, R404: The REMOVE_ROOT mailbox command removes the root and chain in lifecycle RMA. -/
  | removeRoot (len : BitVec 14)
  /-- `GET_NONCE`, R406: The GET_NONCE mailbox command returns the last debug nonce. -/
  | getNonce (len : BitVec 14)
  /-- `DEBUG_UNLOCK`, R406: The DEBUG_UNLOCK mailbox command verifies a signed token and unlocks core debug, resetting plots and zeroising keys. -/
  | debugUnlock (len : BitVec 14) (good : Bool)
  /-- `GET_CHAIN`, R501: The GET_CHAIN mailbox command returns the manufacturing or installation chain in DER. -/
  | getChain (len : BitVec 14)
  /-- `INPUT_UNDERVOLTAGE`, R417: The 48 V input falls below 44 V, and the envelope level of code 0b000 replaces the pins. -/
  | inputUndervoltage
  /-- `INPUT_RESTORED`, R417: The input has stayed above 45 V for 10 ms, and the pin level applies again. -/
  | inputRestored (since : Nat)
  /-- `INPUT_POWER_LOSS`, R417: The input stays below 40 V for 50 µs, so issue stops, pending flash records are written, and power loss follows. -/
  | inputPowerLoss (since : Nat)
  /-- `ENVELOPE_CODE`, R419: A PWR_ENV code that has held for 2 µs is taken, and H and the windows change under R420. -/
  | envelopeCode (code : Fin 8) (since : Nat)
  /-- `CONTROL_INTERVAL`, R421: At the end of each 16 µs interval, the follower chooses the highest voltage whose predicted power fits 0.97 × E. -/
  | controlInterval (power : Nat) (compute : List Nat)
  /-- `GATING_INTERVAL`, R423: Every 2 µs, issue gating compares the mean power with the limit being held and sets, raises or holds the fraction f. -/
  | gatingInterval (power issue : Nat)
  /-- `DROOP`, R425: A droop detector fires at 30 mV below target, and the die's issue is gated to half within 100 ns. -/
  | droop (gd : Fin 16)
  /-- `DROOP_CLEAR`, R425: The voltage has stayed within 15 mV of target for 2 µs, and the droop response clears. -/
  | droopClear (gd : Fin 16) (since : Nat)
  /-- `BROWNOUT`, R427: A compute supply falls to 0.40 V, so the die stops issue, holds its watchdogs and discards work in flight. -/
  | brownout (gd : Fin 16)
  /-- `BROWNOUT_RECOVER`, R427: The supply returns above 0.42 V within 1 ms, so issue resumes and work is replayed. -/
  | brownoutRecover (gd : Fin 16)
  /-- `BROWNOUT_TIMEOUT`, R427: The supply has not recovered within 1 ms, so the die is fenced and its plots take C2. -/
  | brownoutTimeout (gd : Fin 16)
  /-- `ATTRIBUTION_INTERVAL`, R429: At the end of each 128 µs interval, plot weights are formed and the domain energy is divided among plots, rings and UNATTR. -/
  | attributionInterval (grove hbm verge : List Nat) (rest : Nat)
  /-- `TEMPERATURE_READ`, R432: Every 1,024 SOSC periods, the sensors are read, warnings and throttling are applied, and thermal half-cycles are counted. -/
  | temperatureRead (sensors : List (BitVec 8))
  /-- `THERMAL_TRIP`, R433: A die reaches 110 °C, so THERM_TRIP_N and FAULT_N go low, compute supplies are removed and windthrow follows. -/
  | thermalTrip (die : Fin 25)
  /-- `HBM_TEMPERATURE_READ`, R434: Every 1 ms, each stack's temperature is read, and refresh doubles or bandwidth is gated. -/
  | hbmTemperatureRead (stack : Fin 16) (temp : BitVec 8)
  /-- `COOLANT_READ`, R435: Every 1 ms, differential pressure and inlet temperature are read, and flow, the coolant cap and the warnings are updated. -/
  | coolantRead (pressure : Option Nat) (inlet : Option (BitVec 8)) (tach : Bool)
  /-- `TACH_LOSS`, R435: No tachometer edge arrives for TACH_LOSS_MS, which is a sudden stop. -/
  | tachLoss (lastEdge : Nat)
  /-- `SUDDEN_STOP`, R437: Flow has stayed below 20 % for 20 ms, so issue stops, compute goes to VHOLD and the state becomes HOLDING. -/
  | suddenStop
  /-- `COOLANT_RECOVER`, R437: Flow has stayed at or above 30 % with the tachometer present for 50 ms, so issue resumes under the cap in REDUCED. -/
  | coolantRecover
  /-- `COOLANT_HOLD_TIMEOUT`, R437: No recovery by 200 ms, so every bound plot takes C2 and resets without clearing. -/
  | coolantHoldTimeout
  /-- `COOLANT_FALLOW_ENTRY`, R437: After the coolant plot resets complete, the device enters Fallow. -/
  | coolantFallowEntry
  /-- `FAULT_LATCH`, R443: A block's error line is latched into its die's fault word, the SEQ advances, and FAULT_N may assert. -/
  | faultLatch (die : Fin 25) (bit : Fin 64) (plots : List (Fin 64)) (unit : BitVec 8) (detail : BitVec 64)
  /-- `FAULT_WORD_SEND`, R444: Every 512 SOSC periods, a collector sends its fault word to the clearing die. -/
  | faultWordSend (die : Fin 24)
  /-- `FAULT_WORD_ARRIVE`, R444: A fault word arrives at the clearing die, and core 1 begins handling any new bit of class C1 or higher. -/
  | faultWordArrive (die : Fin 24)
  /-- `FAULT_CLASS_DECIDE`, R447: Core 1 decides an event's class once its outcome is known and starts plot resets, the C3 path or a hold. -/
  | faultClassDecide (pos : Nat) (cls : Fin 5)
  /-- `DIE_SILENT`, R445: No fault word has arrived from a die for 12,288 SOSC periods, so the die is declared silent and fenced or its ports are taken down. -/
  | dieSilent (die : Fin 24)
  /-- `ENGINE_TIMEOUT`, R456: An engine's request into a clocked island exceeds the engine timeout, and the engine is reset. -/
  | engineTimeout (gd : Fin 16) (engine : Fin 9) (core : Option (Fin 28)) (since : Nat)
  /-- `TRANSFER_TIMEOUT`, R456: A transaction's transfer timeout expires, failing the DMA, peer transfer, exchange epoch or partial wait. -/
  | transferTimeout (what : TimedOut)
  /-- `FLT_INJECT`, R468: A write of FLT_INJECT.GO in FACTORY_TEST drives a named error line, and is otherwise ignored. -/
  | fltInject (path : Fin 6) (v : BitVec 32)
  /-- `FAULT_LOG_SELECT`, R455: A write to FLT_LOG_SEL.INDEX starts fetching a fault-log record. -/
  | faultLogSelect (path : Fin 6) (index : BitVec 19)
  /-- `FAULT_LOG_READY`, R455: The selected fault-log record is in FLT_LOG_DATA, and READY is set. -/
  | faultLogReady
  /-- `FAULT_SEQ_WRITE_BACK`, R452: Writing back the latched FLT_SEQ_d clears decided C0–C2 bits if no new latch has occurred. -/
  | faultSeqWriteBack (path : Fin 6) (die : Fin 25) (seq : BitVec 8)
  /-- `TIMEOUT_REGISTER_WRITE`, R457: A write to a timeout register stores the nearest value that keeps the chain of timeouts. -/
  | timeoutRegisterWrite (path : Fin 6) (reg : Fin 7) (v : BitVec 32)
  /-- `CTL_RESET`, R471: A CTL_RESET warm-reset command with the key 0xA17E starts a warm reset. -/
  | ctlReset (path : Fin 6) (v : BitVec 32)
  /-- `FALLOW`, R480: CTL_PSTATE.REQ = FALLOW shadows the windows, puts the stacks in self-refresh and power-gates the grove dies, or sets ERR. -/
  | fallow (path : Fin 6) (autoWake : Bool)
  /-- `RUN`, R482: CTL_PSTATE.REQ = RUN starts leaving Fallow, unless coolant refuses it. -/
  | run (path : Fin 6) (autoWake : Bool)
  /-- `FALLOW_EXIT_COMPLETE`, R482: Supplies, channels and stacks are back and windows are restored, so the state becomes RUN and fetching resumes. -/
  | fallowExitComplete (failed : List (Fin 16))
  /-- `DORMANT`, R483: CTL_PSTATE.REQ = DORMANT removes all supplies except the always-on domain, or is refused with ERR. -/
  | dormant (path : Fin 6) (autoWake : Bool)
  /-- `STATUS`, R506: The SMBus STATUS command returns phase, power state, highest fault class and hottest temperature. -/
  | status (pecOk : Bool)
  /-- `SET_ADDR`, R506: The SMBus SET_ADDR command sets the sideband's BAR0 pointer. -/
  | setAddr (pecOk : Bool) (ptr : BitVec 32)
  /-- `READ_REG`, R507: The SMBus READ_REG command reads the register at the pointer and advances it. -/
  | readReg (pecOk : Bool)
  /-- `WARM_RESET`, R506: The SMBus WARM_RESET command with the word 0xA17E starts a warm reset. -/
  | warmReset (pecOk : Bool) (word : BitVec 16)
  /-- `WAKE`, R484: The SMBus WAKE command ends Dormant with a warm reset. -/
  | wake (pecOk : Bool) (env : BootEnv)
  /-- `REGISTER_WRITE`, R493: A write to a register without its own row stores its fields under the storing rules, or into a window shadow. -/
  | registerWrite (path : Fin 6) (target : RegTarget)
  /-- `LOW_WORD_READ`, R495: A read of the low word of a 64-bit pair copies the high word, and for fault words the SEQ, into the path's shadow. -/
  | lowWordRead (path : Fin 6) (addr : BitVec 24)
  /-- `WSQ_WRITE_BACK`, R494: A write to a WSQ register clears its flags only if the written SEQ equals the present SEQ. -/
  | wsqWriteBack (path : Fin 6) (addr : BitVec 24) (seq : BitVec 8)
  /-- `RWT_SCRUB`, R497: Every 4,096 SOSC periods, every triplicated field is voted and corrected, with C0, C3 or windthrow outcomes. -/
  | rwtScrub (upsets : List Upset)
  /-- `PERFSEL_WRITE`, R502: A write to CTL_GD_PERFSEL selects counter events and restarts each written counter from zero. -/
  | perfselWrite (path : Fin 6) (gd : Fin 16) (v : BitVec 32)
  /-- `PCIE_LINK_UP`, R323: PCI Express link training completes, so STS_PCIE_LINK reports UP with the trained rate and width. -/
  | pcieLinkUp (rate : Fin 5) (width : Fin 5)
  /-- `CONFIGURATION_REQUESTS_ANSWERED`, R473: At the later of bring-up step 5 and PERST_N release, configuration requests stop completing with Configuration Request Retry Status and are answered. -/
  | configurationRequestsAnswered
  /-- `D0_ENTRY`, R324: A function is returned from D3hot to D0 and may again fetch descriptors and issue requests. -/
  | d0Entry (func : Fin 64)
  /-- `MANAGER_HEARTBEAT_ARRIVE`, R319: The standby receives the manager's heartbeat and marks its current window as not empty. -/
  | managerHeartbeatArrive (node : Fin 1024) (mgrEpoch epoch : BitVec 32) (members : List (Fin 1024 × BitVec 64 × Nat × Fin 3)) (leases : List (BitVec 32 × List (Fin 1024)))
  /-- `POLL_ANSWER`, R319: The standby receives a copse lead's answer to its poll, saying whether the manager has also gone silent toward that lead. -/
  | pollAnswer (node : Fin 1024) (silent : Bool)
  /-- `FALLOW_ENTRY_COMPLETE`, R480: Fallow entry finishes within 2 ms, with stacks in self-refresh and grove dies power-gated, and CTL_PSTATE.STATE moves from ENTERING_FALLOW to FALLOW. -/
  | fallowEntryComplete
  /-- `DORMANT_ENTRY_COMPLETE`, R483: Within 5 ms of an accepted Dormant request, every supply except the always-on domain has been removed and only the always-on island lives. -/
  | dormantEntryComplete
  /-- `WARM_RESET_DIE_STOP`, R471: After waiting at most 5 ms for the fault-log record, a warm reset stops every die other than the always-on island, and the boot of Table 15.3 runs again. -/
  | warmResetDieStop (env : BootEnv)
  deriving DecidableEq, Repr

end Sys2Proof
end

