-- ==== Sys2Proof/WellFormed.lean ====
section
/-! DEFINITION. What the types of the operands cannot say.  A command that `wellFormed` refuses
carries data whose length its own format rules out; nothing in the spec gives it an effect. -/

namespace Sys2Proof


/-- A zero record has no payload; the others hold 32 codes or 32 Y32 values (R211). -/
def recordLength (header : BitVec 16) (payload : List (BitVec 32)) : Bool :=
  if header.getLsbD 10 then decide (payload.length = 0)
  else decide (payload.length = 32)
    && (header.getLsbD 9 || payload.all (fun w => decide (w.toNat < 65536)))

/-- A list is complete once it holds ENTRY_COUNT entries (R220). -/
def listLength (header : BitVec 64) (entries : List (BitVec 32 × BitVec 16)) : Bool :=
  decide (header.toNat % 2 ^ 32 ≤ entries.length)

/-- The length of what a gather phase brings. -/
def FinalSums.lengthOk : FinalSums → Bool
  | .block _ h p => recordLength h p
  | .list _ h l => listLength h l

/-- A word of BAR0 whose write with this value is a row of its own: a reset, power, clock, timeout, fault, plot,
ring, doorbell, slab, port, update or mailbox command, a write-back of a SEQ, or a performance selection. -/
def writeHasRow (a v : Nat) : Bool :=
  decide (a = 0x110 ∨ (a = 0x114 ∧ 1 ≤ v % 16 ∧ v % 16 ≤ 3)
    ∨ (a = 0x400 ∧ 1 ≤ v % 256 ∧ v % 256 ≤ 7) ∨ a = 0x404
    ∨ a = 0x10010 ∨ a = 0x10030 ∨ a = 0x20034)
  || decide ((0x40010 ≤ a ∧ a ≤ 0x40028) ∨ a = 0x40040 ∨ a = 0x40050
    ∨ (0x40100 ≤ a ∧ a < 0x40420 ∧ a % 0x20 = 8))
  || decide (0x80000 ≤ a ∧ a < 0x88000
    ∧ ((a % 0x200 = 0 ∧ 1 ≤ v % 16 ∧ v % 16 ≤ 4) ∨ (8 ≤ a % 0x200 ∧ a % 0x200 < 0x34) ∨ 0x80 ≤ a % 0x200))
  || decide ((0x88000 ≤ a ∧ a < 0x89000 ∧ a % 0x40 = 4) ∨ (0x89000 ≤ a ∧ a < 0x8A000 ∧ a % 0x40 = 0x14))
  || decide ((0x100000 ≤ a ∧ a < 0x108000 ∧ a % 0x20 = 0x10) ∨ (0x110000 ≤ a ∧ a < 0x112000)
    ∨ (0x180000 ≤ a ∧ a < 0x200000) ∨ (0x201000 ≤ a ∧ a < 0x201600 ∧ a % 0x40 = 0))
  || decide ((a = 0x400010 ∧ 1 ≤ v % 256 ∧ v % 256 ≤ 6) ∨ a = 0x400014 ∨ (a = 0x400038 ∧ v % 2 = 1)
    ∨ (0x800000 ≤ a ∧ a < 0x900000 ∧ a % 0x10000 = 0x400))

/-- The write of a register target has no row of its own. -/
def RegTarget.plain : RegTarget → Bool
  | .word a v => !writeHasRow a.toNat v.toNat
  | .odd => true
  | .vfMsix _ _ _ => true
  | .numVfs _ => true
  | .vfEnable _ => true
  | .ecrcCheck _ => true
  | .tenBitTag _ => true
  | .ecrcGen _ => true
  | .relaxed _ _ => true
  | .payloads _ _ => true
  | .cplTimeout _ _ => true
  | .bad _ a v => !writeHasRow a.toNat v.toNat

/-- The shape every command of the block has (one arm for each constructor). -/
def Instr.wellFormed : Instr → Bool
  | .channelParityError _ _ _ _ => true
  | .laneRetest _ _ _ => true
  | .hbmReadReturn _ _ _ _ => true
  | .hbmScrubRead _ _ _ => true
  | .rowRepair _ _ _ _ => true
  | .rowRepairComplete _ => true
  | .tileScrub _ _ _ _ => true
  | .flashRecordWrite _ _ => true
  | .lifeCounterAppend => true
  | .rateWindow _ _ => true
  | .watchdogExpiry _ _ => true
  | .soscFault _ => true
  | .frequencyChange _ => true
  | .frequencyChangeComplete _ => true
  | .lossOfLock _ => true
  | .relock _ => true
  | .referenceEdgeTimeout _ _ => true
  | .referenceEdgesReturn _ => true
  | .dividerApply _ => true
  | .hbmPinRateWrite _ _ => true
  | .spreadSpectrumWrite _ _ => true
  | .matmul _ _ => true
  | .tileAssign _ => true
  | .arrayPassIssue _ _ => true
  | .arrayPassComplete _ => true
  | .reduce _ _ => true
  | .partialArrive _ _ _ => true
  | .repeatRequest _ => true
  | .repeatAnswer _ => true
  | .elementwise _ _ => true
  | .normFwd _ _ => true
  | .normBwd _ _ => true
  | .softmaxFwd _ _ => true
  | .softmaxBwd _ _ => true
  | .rngReseed _ _ => true
  | .pathSwitch _ => true
  | .nop _ _ => true
  | .stepOpen _ _ => true
  | .descriptorReachHead _ _ => true
  | .stepClose _ _ => true
  | .stepTimeout _ => true
  | .updateGate _ _ => true
  | .update _ _ => true
  | .stepBarrierAnswer _ _ _ => true
  | .barrierReport _ _ _ _ => true
  | .stashPush _ _ => true
  | .stashPop _ _ => true
  | .coreCall _ _ _ _ => true
  | .load _ _ _ => true
  | .unload _ _ => true
  | .routineEnd _ _ _ => true
  | .streamStart _ _ _ _ count _ _ write _ data => decide (data.length = if write then count else 0)
  | .exchange _ _ => true
  | .exchangeRecordArrive _ _ _ _ _ _ header payload => recordLength header payload
  | .exchangeListArrive _ _ _ _ _ _ header entries => listLength header entries
  | .exchangeGatherRecord _ _ _ _ _ final => final.lengthOk
  | .epochComplete _ => true
  | .epochAbort _ _ _ => true
  | .epochReplay _ => true
  | .dispatch _ _ => true
  | .dispatchRowArrive _ _ _ _ _ _ _ _ => true
  | .dispatchStreamClose _ _ _ _ => true
  | .combine _ _ => true
  | .combineRowArrive _ _ _ _ _ _ _ => true
  | .modeChange _ _ _ => true
  | .portRateUpgrade _ => true
  | .portTrained _ _ _ => true
  | .flitReceive _ bytes _ _ => decide (bytes.length = 256)
  | .nakReceive _ _ _ errs => decide (errs.length = 4)
  | .linkRetryTimeout _ _ => true
  | .nakResendTimeout _ _ => true
  | .serWindow _ => true
  | .laneRetire _ _ => true
  | .requal _ _ _ => true
  | .requalStart _ _ => true
  | .requalComplete _ errs _ _ => decide (errs.length = 4)
  | .lpiIdleTimeout _ => true
  | .lpiAgreement _ _ => true
  | .lpiWake _ => true
  | .admitHello _ _ _ _ _ _ _ => true
  | .admitCert _ _ _ _ _ => true
  | .admitProof _ _ _ _ => true
  | .admitFinished _ _ _ => true
  | .admissionTimeout _ _ => true
  | .admissionRetry _ _ => true
  | .sealReceive _ _ _ _ => true
  | .putReceive _ _ _ _ _ _ data => decide (data.length ≤ 208)
  | .readReq _ _ _ _ _ => true
  | .readData _ _ _ data => decide (data.length ≤ 240)
  | .completion _ _ _ _ => true
  | .signalLost _ => true
  | .signalProbe _ _ => true
  | .ethernetFrameReceive _ _ _ _ _ _ => true
  | .tagGrant => true
  | .mgtFrameReceive _ _ _ _ _ => true
  | .collision _ => true
  | .backoffExpiry => true
  | .plcaBeacon => true
  | .plcaStatusChange => true
  | .joinHello => true
  | .joinReq _ _ => true
  | .joinForward _ _ _ => true
  | .joinAnswer _ _ _ _ _ _ _ => true
  | .tableWrite _ _ _ _ _ _ _ _ _ => true
  | .leaveRequest _ => true
  | .heartbeatSend => true
  | .heartbeat _ _ => true
  | .heartbeatWindow => true
  | .fenceFrame _ => true
  | .managerHeartbeat => true
  | .standbyWindow => true
  | .leadPoll _ _ => true
  | .pollTimeout => true
  | .managerAnnounce _ _ _ => true
  | .requalAuth _ _ _ => true
  | .deviceDown _ => true
  | .standDown => true
  | .spareSubstitution => true
  | .pcieLinkDown => true
  | .hotReset => true
  | .vfFlr _ => true
  | .pfFlr => true
  | .d3hotEntry _ => true
  | .bar2Access _ _ _ _ => true
  | .doorbell _ _ _ _ => true
  | .msixUnmask _ _ => true
  | .dmaCompletion _ _ _ => true
  | .completionTimeout _ => true
  | .pcieFatalError _ => true
  | .doeDiscovery => true
  | .doeAbort => true
  | .getVersion => true
  | .getCapabilities => true
  | .negotiateAlgorithms => true
  | .getDigests => true
  | .getCertificate _ _ _ => true
  | .challenge _ => true
  | .getMeasurements => true
  | .ringEnable _ _ _ => true
  | .ringDisable _ _ _ => true
  | .descriptorFetch _ _ _ => true
  | .descriptorRetire _ => true
  | .descriptorTimeout _ _ => true
  | .copy _ _ => true
  | .tensorRecordCopy _ _ => true
  | .fence _ _ => true
  | .flagSet _ _ => true
  | .flagWait _ _ => true
  | .flagWaitMatch _ _ => true
  | .slabEntryWrite _ _ _ _ => true
  | .bind _ _ => true
  | .bindComplete _ => true
  | .release _ _ => true
  | .reset _ _ => true
  | .resetClear _ _ => true
  | .plotDrained _ => true
  | .plotDrainTimeout _ _ _ => true
  | .plotResetComplete _ => true
  | .plotLeaseWrite _ _ _ => true
  | .powerOn _ => true
  | .extensionLoad _ => true
  | .stackTrained _ _ => true
  | .groveDieJoin _ _ _ => true
  | .bringupFull => true
  | .perstNAssert _ => true
  | .perstNRelease _ _ => true
  | .scanInstruction => true
  | .stage _ image => decide (image.measurement.length = 32)
  | .flashSectorProgram _ _ => true
  | .confirm _ => true
  | .selfTestPass => true
  | .confirmTimeout => true
  | .revert _ => true
  | .commitSvn _ => true
  | .recoveryChunk _ image => decide (image.measurement.length = 32)
  | .abort _ => true
  | .nonceReq _ => true
  | .getCsr _ => true
  | .installRoot _ _ => true
  | .installChain _ _ => true
  | .removeRoot _ => true
  | .getNonce _ => true
  | .debugUnlock _ _ => true
  | .getChain _ => true
  | .inputUndervoltage => true
  | .inputRestored _ => true
  | .inputPowerLoss _ => true
  | .envelopeCode _ _ => true
  | .controlInterval _ compute => decide (compute.length = 16)
  | .gatingInterval _ _ => true
  | .droop _ => true
  | .droopClear _ _ => true
  | .brownout _ => true
  | .brownoutRecover _ => true
  | .brownoutTimeout _ => true
  | .attributionInterval grove hbm verge _ => decide (grove.length = 16 ∧ hbm.length = 4 ∧ verge.length = 8)
  | .temperatureRead sensors => decide (sensors.length = 74)
  | .thermalTrip _ => true
  | .hbmTemperatureRead _ _ => true
  | .coolantRead _ _ _ => true
  | .tachLoss _ => true
  | .suddenStop => true
  | .coolantRecover => true
  | .coolantHoldTimeout => true
  | .coolantFallowEntry => true
  | .faultLatch _ _ _ _ _ => true
  | .faultWordSend _ => true
  | .faultWordArrive _ => true
  | .faultClassDecide _ _ => true
  | .dieSilent _ => true
  | .engineTimeout _ _ _ _ => true
  | .transferTimeout _ => true
  | .fltInject _ _ => true
  | .faultLogSelect _ _ => true
  | .faultLogReady => true
  | .faultSeqWriteBack _ _ _ => true
  | .timeoutRegisterWrite _ _ _ => true
  | .ctlReset _ _ => true
  | .fallow _ _ => true
  | .run _ _ => true
  | .fallowExitComplete _ => true
  | .dormant _ _ => true
  | .status _ => true
  | .setAddr _ _ => true
  | .readReg _ => true
  | .warmReset _ _ => true
  | .wake _ _ => true
  | .registerWrite _ target => target.plain
  | .lowWordRead _ _ => true
  | .wsqWriteBack _ _ _ => true
  | .rwtScrub _ => true
  | .perfselWrite _ _ _ => true
  | .pcieLinkUp _ _ => true
  | .configurationRequestsAnswered => true
  | .d0Entry _ => true
  | .managerHeartbeatArrive _ _ _ _ _ => true
  | .pollAnswer _ _ => true
  | .fallowEntryComplete => true
  | .dormantEntryComplete => true
  | .warmResetDieStop _ => true

end Sys2Proof
end

