-- ==== Sys2Proof/Config.lean ====
section
/-! DEFINITION. What the spec leaves open: constants without a body, about which nothing can be
proved.  A statement that mentions one holds whatever its value is. -/

namespace Sys2Proof

/-- HMAC-SM3 of bytes under a 32-byte key (R283, R285, R286); the spec names the published algorithm and does
not restate it. -/
opaque Config.hmac : BitVec 256 → List Byte → BitVec 256

/-- SM3 digest of bytes (R282). -/
opaque Config.sm3 : List Byte → BitVec 256

/-- Session key 0 to 3 of an own ephemeral key and the partner's public one, by the SM2 key agreement and its SM3
key derivation (R282): 0 and 1 are the control keys, 2 and 3 the seal keys, of A to B and of B to A. -/
opaque Config.agree : Nat → BitVec 256 → BitVec 512 → BitVec 256

/-- Ephemeral private key and nonce of an admission, from the security root, for the n-th free value taken (R282). -/
opaque Config.ephemeral : Nat → BitVec 256
/-- The nonce. -/
opaque Config.nonce : Nat → BitVec 256

/-- The SM2 public key of a private one (R282). -/
opaque Config.publicKey : BitVec 256 → BitVec 512

/-- SM2 signature by the device identity key over a digest, for the n-th free value taken (R282). -/
opaque Config.sign : Nat → BitVec 256 → BitVec 512

/-- The slot times that a back-off draws from its range, for the n-th free value taken (R306). -/
opaque Config.backoff : Nat → Nat

/-- A copse key that the manager issues, for the n-th free value taken (R310). -/
opaque Config.copseKey : Nat → BitVec 256

/-- The bytes of a HELLO: node number, ASSIGNED, port, mode capabilities, nonce, public key (Table 10.5); their layout
is not given. -/
opaque Config.hello : Nat → Bool → Nat → Nat → BitVec 256 → BitVec 512 → List Byte

/-- Frame type of a control frame by `Ctrl.code` (R285); no number of a type is given. -/
opaque Config.frameType : Nat → BitVec 16

/-- Body of a control frame by `Ctrl.code` and what it says (R285); the layout of a body is not given. -/
opaque Config.frameBody : Nat → List Nat → List Byte

/-- MAC address of a port, 24 for the management MAC, derived from a device identity (R290, R310); the derivation is
not given. -/
opaque Config.macAddress : Nat → Nat → BitVec 48

/-- The 32-byte transfer header of a put or read (R269); its layout is not given. -/
opaque Config.transferHeader : Nat → Nat → Nat → BitVec 256

/-- What opens an exchange or dispatch stream besides its records: schedule, LEN and MODE of an EXCHANGE
(R206); its layout is not given. -/
opaque Config.streamHead : Nat → Nat → Nat → List Byte

/-- What names the place of a dispatched or returned row on the wire: row or position, rank and token
(R235, R237); its layout is not given. -/
opaque Config.rowHead : Nat → Nat → Nat → List Byte

/-- The body of a COMPLETION flit that reports a completion code (R361, R354); its layout is not given. -/
opaque Config.completionBody : Nat → List Byte

/-- IEEE 802.3 clause 78 defines low-power idle for the PHY type of a MODE value, and the wake time that
it negotiates, in ns (R281); the spec refers to the clause. -/
opaque Config.clause78 : Nat → Bool
/-- The wake time of clause 78 for a MODE value, in ns. -/
opaque Config.clause78Wake : Nat → Nat

/-- A certificate signing request of the device identity key, for the n-th request (R404); the signature is the
security root's. -/
opaque Config.csr : Nat → List Byte

/-- Flow in percent where DP_NOM is 0, which R435 divides by. -/
opaque Config.flow : Nat → Nat

/-- The floor power in W as formed from a measurement of the draw, for the n-th forming (R424). -/
opaque Config.floorPower : Nat → Nat

/-- A byte whose value the spec calls undefined, for the n-th free value taken (R6, R360). -/
opaque Config.freeByte : Nat → BitVec 8

/-- One step of a lane generator: a fixed linear recurrence of period 2⁶⁴ − 1 (R170), which the spec does not
give. -/
opaque Config.rngNext : BitVec 64 → BitVec 64

/-- The non-linear output mix of a lane generator, 16 bits a draw (R170). -/
opaque Config.rngOut : BitVec 64 → BitVec 16

/-- The seed of a lane from the security root's random bit generator, for the n-th free value taken (R171). -/
opaque Config.rngSeed : Nat → Nat → BitVec 64

/-- Which of the partials under way arrives next (R157: the order varies), for the n-th choice. -/
opaque Config.order : Nat → Nat

/-- Row-steps that a pass waited for its operands, or a vector engine for a bank of tile memory, during one
piece of work (Tables 6.11, 19.8); the spec gives bounds of single waits and no number of them. -/
opaque Config.waitSteps : Nat → Nat

/-- Channel transfers that carry one range of bytes from die to die (Table 19.8); the spec gives no size of a
transfer. -/
opaque Config.channelTransfers : Nat → Nat

/-- What a special function, a division or a root delivers within its bound (R153, R255, R260), by
function code and operands; the spec gives bounds and no values. -/
opaque Config.special : Nat → BitVec 32 → BitVec 32 → BitVec 32

end Sys2Proof
end

