-- ==== Sys2Proof/Machine/RegMap.lean ====
section
/-! DEFINITION. The register map (R490 to R502 and the register tables of every chapter): one
definition for each field, whose key is 32 * BAR0 byte address + lowest bit, and the list of all
registers, from which a word is read and written. -/

namespace Sys2Proof.Machine

/-- Access types of a field (Table 19.1, R493, R494, R497). -/
inductive Access where
  | ro | wo | rw | rwt | wsq
  deriving DecidableEq, Repr

/-- A field of a register: its key, its width in bits, its access type and its reset value. -/
structure Fld where
  key   : Nat
  width : Nat
  acc   : Access
  reset : Nat
  deriving DecidableEq, Repr

/-- What a read of a register does beside answering (R495): nothing; it is the low word of a 64-bit
value and latches the high word; it is a fault word and latches the high word and SEQ; or it answers
from the path's shadow. -/
inductive Role where
  | plain | low | faultLow | shadowed
  deriving DecidableEq, Repr

/-- A register: name, address of its first copy, strides and counts of its copies, fields of the
first copy, and its role at a read. -/
structure RegRow where
  name : String
  base : Nat
  dims : List (Nat × Nat)
  flds : List Fld
  role : Role := .plain
  deriving DecidableEq, Repr

/-- CTL_ID[31:16] (Table 19.3, R500). -/
def CTL_ID.PART : Fld := ⟨16, 16, .ro, 37⟩
/-- CTL_ID[7:0] (Table 19.3, R500). -/
def CTL_ID.STEPPING : Fld := ⟨0, 8, .ro, 1⟩
/-- CTL_DEVICE_ID_LO[31:0] (Table 19.4, R500). -/
def CTL_DEVICE_ID_LO.ID_LO : Fld := ⟨256, 32, .ro, 0⟩
/-- CTL_DEVICE_ID_HI[31:0] (Table 19.4, R500). -/
def CTL_DEVICE_ID_HI.ID_HI : Fld := ⟨384, 32, .ro, 0⟩
/-- CTL_BRINGUP_STS[31:28] (Table 18.9, R489). -/
def CTL_BRINGUP_STS.PHASE : Fld := ⟨8220, 4, .ro, 0⟩
/-- CTL_BRINGUP_STS[15:0] (Table 18.9, R489). -/
def CTL_BRINGUP_STS.FULL_MS : Fld := ⟨8192, 16, .ro, 0⟩
/-- STS_INSERVICE[31:16] (Table 18.10, R489). -/
def STS_INSERVICE.STACKS : Fld := ⟨8336, 16, .ro, 0⟩
/-- STS_INSERVICE[15:0] (Table 18.10, R489). -/
def STS_INSERVICE.GROVE : Fld := ⟨8320, 16, .ro, 0⟩
/-- CTL_RESET[31:16] (Table 18.11, R489). -/
def CTL_RESET.KEY : Fld := ⟨8720, 16, .wo, 0⟩
/-- CTL_RESET[1:0] (Table 18.11, R489). -/
def CTL_RESET.CMD : Fld := ⟨8704, 2, .wo, 0⟩
/-- CTL_PSTATE[19:16] (Table 18.12, R489). -/
def CTL_PSTATE.ERR : Fld := ⟨8848, 4, .ro, 0⟩
/-- CTL_PSTATE[15:12] (Table 18.12, R489). -/
def CTL_PSTATE.STATE : Fld := ⟨8844, 4, .ro, 0⟩
/-- CTL_PSTATE[8:8] (Table 18.12, R489). -/
def CTL_PSTATE.AUTO_WAKE : Fld := ⟨8840, 1, .rw, 1⟩
/-- CTL_PSTATE[3:0] (Table 18.12, R489). -/
def CTL_PSTATE.REQ : Fld := ⟨8832, 4, .wo, 0⟩
/-- STS_PCIE_LINK[11:10] (Table 12.6, R342). -/
def STS_PCIE_LINK.REFMODE : Fld := ⟨16394, 2, .ro, 0⟩
/-- STS_PCIE_LINK[9:9] (Table 12.6, R342). -/
def STS_PCIE_LINK.UP : Fld := ⟨16393, 1, .ro, 0⟩
/-- STS_PCIE_LINK[8:4] (Table 12.6, R342). -/
def STS_PCIE_LINK.WIDTH : Fld := ⟨16388, 5, .ro, 0⟩
/-- STS_PCIE_LINK[2:0] (Table 12.6, R342). -/
def STS_PCIE_LINK.RATE : Fld := ⟨16384, 3, .ro, 0⟩
/-- CNT_PCIE_ERR[31:24] (Table 12.7, R342). -/
def CNT_PCIE_ERR.CPL_TIMEOUT : Fld := ⟨16536, 8, .ro, 0⟩
/-- CNT_PCIE_ERR[23:16] (Table 12.7, R342). -/
def CNT_PCIE_ERR.GLADE_REFUSED : Fld := ⟨16528, 8, .ro, 0⟩
/-- CNT_PCIE_ERR[15:8] (Table 12.7, R342). -/
def CNT_PCIE_ERR.DOORBELL_REFUSED : Fld := ⟨16520, 8, .ro, 0⟩
/-- CNT_PCIE_ERR[7:0] (Table 12.7, R342). -/
def CNT_PCIE_ERR.ACCESS : Fld := ⟨16512, 8, .ro, 0⟩
/-- CTL_CORE_STS[31:0] (Table 15.13, R415). -/
def CTL_CORE_STS.RUNNING : Fld := ⟨24576, 32, .ro, 15⟩
/-- CNT_CORE_CALL[31:16] (Table 15.14, R415). -/
def CNT_CORE_CALL.FAILED : Fld := ⟨24720, 16, .ro, 0⟩
/-- CNT_CORE_CALL[15:0] (Table 15.14, R415). -/
def CNT_CORE_CALL.CALLS : Fld := ⟨24704, 16, .ro, 0⟩
/-- CTL_MBOX_CMD[29:16] (Table 19.5, R501). -/
def CTL_MBOX_CMD.LEN : Fld := ⟨32784, 14, .wo, 0⟩
/-- CTL_MBOX_CMD[7:0] (Table 19.5, R501). -/
def CTL_MBOX_CMD.CMD : Fld := ⟨32768, 8, .wo, 0⟩
/-- CTL_MBOX_STS[29:16] (Table 19.6, R501). -/
def CTL_MBOX_STS.LEN : Fld := ⟨32912, 14, .ro, 0⟩
/-- CTL_MBOX_STS[15:8] (Table 19.6, R501). -/
def CTL_MBOX_STS.SEQ : Fld := ⟨32904, 8, .wsq, 0⟩
/-- CTL_MBOX_STS[7:4] (Table 19.6, R501). -/
def CTL_MBOX_STS.RESULT : Fld := ⟨32900, 4, .ro, 0⟩
/-- CTL_MBOX_STS[0:0] (Table 19.6, R501). -/
def CTL_MBOX_STS.BUSY : Fld := ⟨32896, 1, .ro, 0⟩
/-- CTL_MBOX_DATA[31:0] (Table 19.6, R501). -/
def CTL_MBOX_DATA.DATA (i : Nat) : Fld := ⟨(0x2000 + 0x4 * i) * 32 + 0, 32, .rw, 0⟩
/-- CLK_STATUS[15:8] (Table 2.7, R51). -/
def CLK_STATUS.SERDES_LOCK : Fld := ⟨2097160, 8, .ro, 0⟩
/-- CLK_STATUS[7:4] (Table 2.7, R51). -/
def CLK_STATUS.HBM_LOCK : Fld := ⟨2097156, 4, .ro, 0⟩
/-- CLK_STATUS[3:3] (Table 2.7, R51). -/
def CLK_STATUS.PCIE_LOCK : Fld := ⟨2097155, 1, .ro, 0⟩
/-- CLK_STATUS[2:2] (Table 2.7, R51). -/
def CLK_STATUS.MGT_LOCK : Fld := ⟨2097154, 1, .ro, 0⟩
/-- CLK_STATUS[1:1] (Table 2.7, R51). -/
def CLK_STATUS.AUX_LOCK : Fld := ⟨2097153, 1, .ro, 0⟩
/-- CLK_STATUS[0:0] (Table 2.7, R51). -/
def CLK_STATUS.SOSC_OK : Fld := ⟨2097152, 1, .ro, 0⟩
/-- CLK_SSC[13:12] (Table 2.8, R51). -/
def CLK_SSC.RATE : Fld := ⟨2097676, 2, .rw, 1⟩
/-- CLK_SSC[11:8] (Table 2.8, R51). -/
def CLK_SSC.DEPTH : Fld := ⟨2097672, 4, .rw, 0⟩
/-- CLK_SSC[4:4] (Table 2.8, R51). -/
def CLK_SSC.REFOUT_EN : Fld := ⟨2097668, 1, .rw, 0⟩
/-- CLK_SSC[3:0] (Table 2.8, R51). -/
def CLK_SSC.HBM_EN : Fld := ⟨2097664, 4, .rw, 0⟩
/-- CLK_DIV[20:16] (Table 2.9, R51). -/
def CLK_DIV.MGT_BUS_DIV : Fld := ⟨2098192, 5, .rw, 8⟩
/-- CLK_DIV[11:8] (Table 2.9, R51). -/
def CLK_DIV.BRIDGE_DIV : Fld := ⟨2098184, 4, .rw, 2⟩
/-- CLK_DIV[1:0] (Table 2.9, R51). -/
def CLK_DIV.HBM_CTL_DIV : Fld := ⟨2098176, 2, .rw, 1⟩
/-- CLK_HBM_RATE[1:0] (Table 2.10, R51). -/
def CLK_HBM_RATE.HBM_PIN_RATE : Fld := ⟨2098688, 2, .rw, 0⟩
/-- CLK_SOSC_COUNT_LO[31:0] (Table 2.11, R44). -/
def CLK_SOSC_COUNT_LO.COUNT_LO : Fld := ⟨2099200, 32, .ro, 0⟩
/-- CLK_SOSC_COUNT_HI[31:0] (Table 2.11, R44). -/
def CLK_SOSC_COUNT_HI.COUNT_HI : Fld := ⟨2099328, 32, .ro, 0⟩
/-- CFG_STALL_WDOG[15:0] (Table 2.12, R51). -/
def CFG_STALL_WDOG.PERIOD_US : Fld := ⟨2099712, 16, .rw, 200⟩
/-- PWR_ENV_LEVEL_LO[31:24] (Table 16.6, R442). -/
def PWR_ENV_LEVEL_LO.LEVEL_3 : Fld := ⟨4194328, 8, .rwt, 80⟩
/-- PWR_ENV_LEVEL_LO[23:16] (Table 16.6, R442). -/
def PWR_ENV_LEVEL_LO.LEVEL_2 : Fld := ⟨4194320, 8, .rwt, 65⟩
/-- PWR_ENV_LEVEL_LO[15:8] (Table 16.6, R442). -/
def PWR_ENV_LEVEL_LO.LEVEL_1 : Fld := ⟨4194312, 8, .rwt, 50⟩
/-- PWR_ENV_LEVEL_LO[7:0] (Table 16.6, R442). -/
def PWR_ENV_LEVEL_LO.LEVEL_0 : Fld := ⟨4194304, 8, .rwt, 40⟩
/-- PWR_ENV_LEVEL_HI[31:24] (Table 16.6, R442). -/
def PWR_ENV_LEVEL_HI.LEVEL_7 : Fld := ⟨4194456, 8, .rwt, 160⟩
/-- PWR_ENV_LEVEL_HI[23:16] (Table 16.6, R442). -/
def PWR_ENV_LEVEL_HI.LEVEL_6 : Fld := ⟨4194448, 8, .rwt, 125⟩
/-- PWR_ENV_LEVEL_HI[15:8] (Table 16.6, R442). -/
def PWR_ENV_LEVEL_HI.LEVEL_5 : Fld := ⟨4194440, 8, .rwt, 110⟩
/-- PWR_ENV_LEVEL_HI[7:0] (Table 16.6, R442). -/
def PWR_ENV_LEVEL_HI.LEVEL_4 : Fld := ⟨4194432, 8, .rwt, 95⟩
/-- PWR_ENV_LIMIT[10:0] (Table 16.7, R442). -/
def PWR_ENV_LIMIT.WATTS : Fld := ⟨4194560, 11, .rwt, 1250⟩
/-- PWR_PEAK_LIMIT[10:0] (Table 16.7, R442). -/
def PWR_PEAK_LIMIT.WATTS : Fld := ⟨4194688, 11, .rwt, 1600⟩
/-- PWR_VOLT_CFG[29:20] (Table 16.8, R442). -/
def PWR_VOLT_CFG.VHOLD_MV : Fld := ⟨4194836, 10, .rwt, 450⟩
/-- PWR_VOLT_CFG[19:10] (Table 16.8, R442). -/
def PWR_VOLT_CFG.VMIN_MV : Fld := ⟨4194826, 10, .rwt, 450⟩
/-- PWR_VOLT_CFG[9:0] (Table 16.8, R442). -/
def PWR_VOLT_CFG.VMAX_MV : Fld := ⟨4194816, 10, .rwt, 600⟩
/-- PWR_STS[31:29] (Table 16.9, R442). -/
def PWR_STS.PINS : Fld := ⟨4194973, 3, .ro, 7⟩
/-- PWR_STS[28:28] (Table 16.9, R442). -/
def PWR_STS.BELOW_FLOOR : Fld := ⟨4194972, 1, .ro, 0⟩
/-- PWR_STS[27:27] (Table 16.9, R442). -/
def PWR_STS.GATING : Fld := ⟨4194971, 1, .ro, 0⟩
/-- PWR_STS[26:26] (Table 16.9, R442). -/
def PWR_STS.DROOP : Fld := ⟨4194970, 1, .ro, 0⟩
/-- PWR_STS[25:22] (Table 16.9, R442). -/
def PWR_STS.BINDING : Fld := ⟨4194966, 4, .ro, 0⟩
/-- PWR_STS[10:0] (Table 16.9, R442). -/
def PWR_STS.EFFECTIVE_W : Fld := ⟨4194944, 11, .ro, 1250⟩
/-- PWR_MEAS[26:16] (Table 16.9, R442). -/
def PWR_MEAS.FLOOR_W : Fld := ⟨4195088, 11, .ro, 0⟩
/-- PWR_MEAS[10:0] (Table 16.9, R442). -/
def PWR_MEAS.POWER_W : Fld := ⟨4195072, 11, .ro, 0⟩
/-- CFG_ENERGY_MODE[0:0] (Table 16.10, R442). -/
def CFG_ENERGY_MODE.MODE : Fld := ⟨4195200, 1, .rw, 0⟩
/-- PWR_ENERGY_DEV_LO[31:0] (Table 16.11, R428). -/
def PWR_ENERGY_DEV_LO.COUNT_LO : Fld := ⟨4195328, 32, .ro, 0⟩
/-- PWR_ENERGY_DEV_HI[31:0] (Table 16.11, R428). -/
def PWR_ENERGY_DEV_HI.COUNT_HI : Fld := ⟨4195456, 32, .ro, 0⟩
/-- PWR_ENERGY_UNATTR_LO[31:0] (Table 16.11, R428). -/
def PWR_ENERGY_UNATTR_LO.COUNT_LO : Fld := ⟨4195584, 32, .ro, 0⟩
/-- PWR_ENERGY_UNATTR_HI[31:0] (Table 16.11, R428). -/
def PWR_ENERGY_UNATTR_HI.COUNT_HI : Fld := ⟨4195712, 32, .ro, 0⟩
/-- PWR_THERM_CFG[15:8] (Table 16.12, R442). -/
def PWR_THERM_CFG.THROTTLE_C : Fld := ⟨4195848, 8, .rwt, 100⟩
/-- PWR_THERM_CFG[7:0] (Table 16.12, R442). -/
def PWR_THERM_CFG.WARN_C : Fld := ⟨4195840, 8, .rwt, 95⟩
/-- STS_THERM[31:24] (Table 16.12, R442). -/
def STS_THERM.HOTTEST_C : Fld := ⟨4195992, 8, .ro, 0⟩
/-- STS_THERM[23:19] (Table 16.12, R442). -/
def STS_THERM.HOTTEST_DIE : Fld := ⟨4195987, 5, .ro, 0⟩
/-- STS_THERM[15:8] (Table 16.12, R442). -/
def STS_THERM.SEQ : Fld := ⟨4195976, 8, .wsq, 0⟩
/-- STS_THERM[2:2] (Table 16.12, R442). -/
def STS_THERM.HBM_HOT : Fld := ⟨4195970, 1, .ro, 0⟩
/-- STS_THERM[1:1] (Table 16.12, R442). -/
def STS_THERM.THROTTLE : Fld := ⟨4195969, 1, .ro, 0⟩
/-- STS_THERM[0:0] (Table 16.12, R442). -/
def STS_THERM.WARN : Fld := ⟨4195968, 1, .ro, 0⟩
/-- PWR_COOL_CFG[31:16] (Table 16.13, R442). -/
def PWR_COOL_CFG.DP_NOM : Fld := ⟨4196112, 16, .rwt, 400⟩
/-- PWR_COOL_CFG[7:0] (Table 16.13, R442). -/
def PWR_COOL_CFG.TACH_LOSS_MS : Fld := ⟨4196096, 8, .rwt, 20⟩
/-- PWR_COOL_STS[31:24] (Table 16.13, R442). -/
def PWR_COOL_STS.FLOW_PCT : Fld := ⟨4196248, 8, .ro, 0⟩
/-- PWR_COOL_STS[23:16] (Table 16.13, R442). -/
def PWR_COOL_STS.INLET_C : Fld := ⟨4196240, 8, .ro, 0⟩
/-- PWR_COOL_STS[15:12] (Table 16.13, R442). -/
def PWR_COOL_STS.STATE : Fld := ⟨4196236, 4, .ro, 0⟩
/-- PWR_COOL_STS[11:11] (Table 16.13, R442). -/
def PWR_COOL_STS.TACH_OK : Fld := ⟨4196235, 1, .ro, 0⟩
/-- PWR_COOL_STS[10:10] (Table 16.13, R442). -/
def PWR_COOL_STS.SENSE_OK : Fld := ⟨4196234, 1, .ro, 0⟩
/-- PWR_COOL_STS[9:9] (Table 16.13, R442). -/
def PWR_COOL_STS.W40 : Fld := ⟨4196233, 1, .ro, 0⟩
/-- PWR_COOL_STS[8:8] (Table 16.13, R442). -/
def PWR_COOL_STS.W60 : Fld := ⟨4196232, 1, .ro, 0⟩
/-- PWR_COOL_STS[7:7] (Table 16.13, R442). -/
def PWR_COOL_STS.W80 : Fld := ⟨4196231, 1, .ro, 0⟩
/-- CNT_PWR_EVENTS[31:16] (Table 16.14, R442). -/
def CNT_PWR_EVENTS.DROOPS : Fld := ⟨4196368, 16, .ro, 0⟩
/-- CNT_PWR_EVENTS[15:8] (Table 16.14, R442). -/
def CNT_PWR_EVENTS.DEFER_FORCED : Fld := ⟨4196360, 8, .ro, 0⟩
/-- CNT_PWR_EVENTS[7:0] (Table 16.14, R442). -/
def CNT_PWR_EVENTS.BROWNOUTS : Fld := ⟨4196352, 8, .ro, 0⟩
/-- CNT_PWR_LIMIT[31:0] (Table 16.14, R442). -/
def CNT_PWR_LIMIT.GATED : Fld := ⟨4196480, 32, .ro, 0⟩
/-- PWR_LIFE[31:16] (Table 16.14, R441). -/
def PWR_LIFE.USED : Fld := ⟨4196624, 16, .ro, 0⟩
/-- PWR_LIFE[4:0] (Table 16.14, R441). -/
def PWR_LIFE.WORST_DIE : Fld := ⟨4196608, 5, .ro, 0⟩
/-- PWR_HALF_CYCLES[31:0] (Table 16.15, R440). -/
def PWR_HALF_CYCLES.COUNT (i : Nat) : Fld := ⟨(0x20100 + 0x4 * i) * 32 + 0, 32, .ro, 0⟩
/-- PWR_PLOT_ENERGY_LO[31:0] (Table 16.11, R428). -/
def PWR_PLOT_ENERGY_LO.COUNT_LO (i : Nat) : Fld := ⟨(0x21000 + 0x8 * i) * 32 + 0, 32, .ro, 0⟩
/-- PWR_PLOT_ENERGY_HI[31:0] (Table 16.11, R428). -/
def PWR_PLOT_ENERGY_HI.COUNT_HI (i : Nat) : Fld := ⟨(0x21004 + 0x8 * i) * 32 + 0, 32, .ro, 0⟩
/-- PWR_RING_ENERGY_LO[31:0] (Table 16.11, R428). -/
def PWR_RING_ENERGY_LO.COUNT_LO (i : Nat) : Fld := ⟨(0x22000 + 0x8 * i) * 32 + 0, 32, .ro, 0⟩
/-- PWR_RING_ENERGY_HI[31:0] (Table 16.11, R428). -/
def PWR_RING_ENERGY_HI.COUNT_HI (i : Nat) : Fld := ⟨(0x22004 + 0x8 * i) * 32 + 0, 32, .ro, 0⟩
/-- FLT_SUMMARY[31:31] (Table 17.12, R469). -/
def FLT_SUMMARY.HELD : Fld := ⟨8388639, 1, .ro, 0⟩
/-- FLT_SUMMARY[30:28] (Table 17.12, R469). -/
def FLT_SUMMARY.HIGHEST : Fld := ⟨8388636, 3, .ro, 0⟩
/-- FLT_SUMMARY[24:0] (Table 17.12, R469). -/
def FLT_SUMMARY.DIES : Fld := ⟨8388608, 25, .ro, 0⟩
/-- FLT_CFG[0:0] (Table 17.12, R469). -/
def FLT_CFG.AUTO_WARM : Fld := ⟨8388736, 1, .rwt, 1⟩
/-- FLT_SILENT[23:0] (Table 17.13, R469). -/
def FLT_SILENT.SILENT : Fld := ⟨8388864, 24, .ro, 0⟩
/-- FLT_TMO_ENGINE[9:0] (Table 17.14, R469). -/
def FLT_TMO_ENGINE.MS : Fld := ⟨8389120, 10, .rw, 10⟩
/-- FLT_TMO_TRANSFER[9:0] (Table 17.14, R469). -/
def FLT_TMO_TRANSFER.UNITS : Fld := ⟨8389248, 10, .rw, 20⟩
/-- FLT_TMO_LINK[9:0] (Table 17.14, R469). -/
def FLT_TMO_LINK.US : Fld := ⟨8389376, 10, .rw, 20⟩
/-- FLT_TMO_DESC[31:0] (Table 17.14, R469). -/
def FLT_TMO_DESC.MS : Fld := ⟨8389504, 32, .rw, 1000⟩
/-- FLT_TMO_STEP[15:0] (Table 17.14, R469). -/
def FLT_TMO_STEP.S : Fld := ⟨8389632, 16, .rw, 120⟩
/-- FLT_TMO_DRAIN[6:0] (Table 17.14, R469). -/
def FLT_TMO_DRAIN.MS : Fld := ⟨8389760, 7, .rw, 50⟩
/-- FLT_TMO_HB[31:16] (Table 17.14, R469). -/
def FLT_TMO_HB.MGR_MS : Fld := ⟨8389904, 16, .rw, 10⟩
/-- FLT_TMO_HB[15:0] (Table 17.14, R469). -/
def FLT_TMO_HB.DEVICE : Fld := ⟨8389888, 16, .rw, 100⟩
/-- FLT_MAINT_STS[31:16] (Table 17.15, R469). -/
def FLT_MAINT_STS.WAITING : Fld := ⟨8390160, 16, .ro, 0⟩
/-- FLT_MAINT_STS[10:0] (Table 17.15, R469). -/
def FLT_MAINT_STS.ACTIVE : Fld := ⟨8390144, 11, .ro, 0⟩
/-- CNT_MAINT[31:16] (Table 17.15, R469). -/
def CNT_MAINT.ABANDONED : Fld := ⟨8390288, 16, .ro, 0⟩
/-- CNT_MAINT[15:0] (Table 17.15, R469). -/
def CNT_MAINT.WAITS : Fld := ⟨8390272, 16, .ro, 0⟩
/-- CNT_FLT_A[31:16] (Table 17.16, R469). -/
def CNT_FLT_A.C2 : Fld := ⟨8390416, 16, .ro, 0⟩
/-- CNT_FLT_A[15:0] (Table 17.16, R469). -/
def CNT_FLT_A.C1 : Fld := ⟨8390400, 16, .ro, 0⟩
/-- CNT_FLT_B[31:16] (Table 17.16, R469). -/
def CNT_FLT_B.DESC_TMO : Fld := ⟨8390544, 16, .ro, 0⟩
/-- CNT_FLT_B[15:0] (Table 17.16, R469). -/
def CNT_FLT_B.C3 : Fld := ⟨8390528, 16, .ro, 0⟩
/-- FLT_INJECT[31:31] (Table 17.17, R469). -/
def FLT_INJECT.GO : Fld := ⟨8390687, 1, .wo, 0⟩
/-- FLT_INJECT[28:24] (Table 17.17, R469). -/
def FLT_INJECT.DIE : Fld := ⟨8390680, 5, .wo, 0⟩
/-- FLT_INJECT[21:16] (Table 17.17, R469). -/
def FLT_INJECT.BIT : Fld := ⟨8390672, 6, .wo, 0⟩
/-- FLT_LOG_SEL[31:31] (Table 17.18, R469). -/
def FLT_LOG_SEL.READY : Fld := ⟨8391199, 1, .ro, 0⟩
/-- FLT_LOG_SEL[18:0] (Table 17.18, R469). -/
def FLT_LOG_SEL.INDEX : Fld := ⟨8391168, 19, .rw, 0⟩
/-- FLT_LOG_DATA[31:0] (Table 17.18, R469). -/
def FLT_LOG_DATA.DATA (i : Nat) : Fld := ⟨(0x40060 + 0x4 * i) * 32 + 0, 32, .ro, 0⟩
/-- FLT_WORD_LO[31:0] (Table 17.19, R452). -/
def FLT_WORD_LO.WORD_LO (i : Nat) : Fld := ⟨(0x40100 + 0x20 * i) * 32 + 0, 32, .ro, 0⟩
/-- FLT_WORD_HI[31:0] (Table 17.19, R452). -/
def FLT_WORD_HI.WORD_HI (i : Nat) : Fld := ⟨(0x40104 + 0x20 * i) * 32 + 0, 32, .ro, 0⟩
/-- FLT_SEQ[7:0] (Table 17.20, R452). -/
def FLT_SEQ.SEQ (i : Nat) : Fld := ⟨(0x40108 + 0x20 * i) * 32 + 0, 8, .wsq, 0⟩
/-- FLT_MASK_LO[31:0] (Table 17.21, R453). -/
def FLT_MASK_LO.MASK_LO (i : Nat) : Fld := ⟨(0x4010c + 0x20 * i) * 32 + 0, 32, .rwt, 0⟩
/-- FLT_MASK_HI[31:0] (Table 17.21, R453). -/
def FLT_MASK_HI.MASK_HI (i : Nat) : Fld := ⟨(0x40110 + 0x20 * i) * 32 + 0, 32, .rwt, 0⟩
/-- PLOT_CTL[3:0] (Table 14.6, R390). -/
def PLOT_CTL.CMD (i : Nat) : Fld := ⟨(0x80000 + 0x200 * i) * 32 + 0, 4, .wo, 0⟩
/-- PLOT_STS[31:12] (Table 14.7, R390). -/
def PLOT_STS.RETIRED_PAGES (i : Nat) : Fld := ⟨(0x80004 + 0x200 * i) * 32 + 12, 20, .ro, 0⟩
/-- PLOT_STS[11:11] (Table 14.7, R390). -/
def PLOT_STS.MANAGED (i : Nat) : Fld := ⟨(0x80004 + 0x200 * i) * 32 + 11, 1, .ro, 0⟩
/-- PLOT_STS[10:7] (Table 14.7, R390). -/
def PLOT_STS.ERR (i : Nat) : Fld := ⟨(0x80004 + 0x200 * i) * 32 + 7, 4, .ro, 0⟩
/-- PLOT_STS[2:0] (Table 14.7, R390). -/
def PLOT_STS.STATE (i : Nat) : Fld := ⟨(0x80004 + 0x200 * i) * 32 + 0, 3, .ro, 0⟩
/-- PLOT_USER[31:0] (Table 14.8, R390). -/
def PLOT_USER.USER (i : Nat) : Fld := ⟨(0x80008 + 0x200 * i) * 32 + 0, 32, .rwt, 0⟩
/-- PLOT_FUNC[5:0] (Table 14.8, R390). -/
def PLOT_FUNC.VF (i : Nat) : Fld := ⟨(0x8000c + 0x200 * i) * 32 + 0, 6, .rwt, 0⟩
/-- PLOT_ARRAYS_LO[31:0] (Table 14.9, R390). -/
def PLOT_ARRAYS_LO.ARRAYS_LO (i : Nat) : Fld := ⟨(0x80010 + 0x200 * i) * 32 + 0, 32, .rwt, 0⟩
/-- PLOT_ARRAYS_HI[15:0] (Table 14.9, R390). -/
def PLOT_ARRAYS_HI.ARRAYS_HI (i : Nat) : Fld := ⟨(0x80014 + 0x200 * i) * 32 + 0, 16, .rwt, 0⟩
/-- PLOT_VE_LO[31:0] (Table 14.9, R390). -/
def PLOT_VE_LO.VE_LO (i : Nat) : Fld := ⟨(0x80018 + 0x200 * i) * 32 + 0, 32, .rwt, 0⟩
/-- PLOT_VE_HI[31:0] (Table 14.9, R390). -/
def PLOT_VE_HI.VE_HI (i : Nat) : Fld := ⟨(0x8001c + 0x200 * i) * 32 + 0, 32, .rwt, 0⟩
/-- PLOT_SLOTS[18:9] (Table 14.10, R390). -/
def PLOT_SLOTS.SLOT_COUNT (i : Nat) : Fld := ⟨(0x80020 + 0x200 * i) * 32 + 9, 10, .rwt, 0⟩
/-- PLOT_SLOTS[8:0] (Table 14.10, R390). -/
def PLOT_SLOTS.SLOT_FIRST (i : Nat) : Fld := ⟨(0x80020 + 0x200 * i) * 32 + 0, 9, .rwt, 0⟩
/-- PLOT_PORTS[23:0] (Table 14.10, R390). -/
def PLOT_PORTS.PORTS (i : Nat) : Fld := ⟨(0x80024 + 0x200 * i) * 32 + 0, 24, .rwt, 0⟩
/-- PLOT_CORES[27:0] (Table 14.9, R390). -/
def PLOT_CORES.CORES (i : Nat) : Fld := ⟨(0x80028 + 0x200 * i) * 32 + 0, 28, .rwt, 0⟩
/-- PLOT_TAGS[12:0] (Table 14.10, R390). -/
def PLOT_TAGS.TAGS (i : Nat) : Fld := ⟨(0x8002c + 0x200 * i) * 32 + 0, 13, .rwt, 0⟩
/-- PLOT_GLADE[26:16] (Table 14.10, R390). -/
def PLOT_GLADE.SIZE (i : Nat) : Fld := ⟨(0x80030 + 0x200 * i) * 32 + 16, 11, .rwt, 0⟩
/-- PLOT_GLADE[9:0] (Table 14.10, R390). -/
def PLOT_GLADE.BASE (i : Nat) : Fld := ⟨(0x80030 + 0x200 * i) * 32 + 0, 10, .rwt, 0⟩
/-- PLOT_LEASE_ID[31:0] (Table 14.8, R390). -/
def PLOT_LEASE_ID.LEASE_ID (i : Nat) : Fld := ⟨(0x80034 + 0x200 * i) * 32 + 0, 32, .ro, 0⟩
/-- CNT_FIREBREAK[31:16] (Table 14.11, R390). -/
def CNT_FIREBREAK.BLOCKED (i : Nat) : Fld := ⟨(0x80038 + 0x200 * i) * 32 + 16, 16, .ro, 0⟩
/-- CNT_FIREBREAK[15:0] (Table 14.11, R390). -/
def CNT_FIREBREAK.LEASE_REFUSED (i : Nat) : Fld := ⟨(0x80038 + 0x200 * i) * 32 + 0, 16, .ro, 0⟩
/-- PLOT_BANKS_LO[31:0] (Table 14.12, R390). -/
def PLOT_BANKS_LO.BANKS_LO (i : Nat) (j : Nat) : Fld := ⟨(0x80080 + 0x200 * i + 0x8 * j) * 32 + 0, 32, .rwt, 0⟩
/-- PLOT_BANKS_HI[31:0] (Table 14.12, R390). -/
def PLOT_BANKS_HI.BANKS_HI (i : Nat) (j : Nat) : Fld := ⟨(0x80084 + 0x200 * i + 0x8 * j) * 32 + 0, 32, .rwt, 0⟩
/-- PLOT_HBM_0[31:0] (Table 14.13, R390). -/
def PLOT_HBM_0.EXT_0 (i : Nat) (j : Nat) : Fld := ⟨(0x80100 + 0x200 * i + 0x10 * j) * 32 + 0, 32, .rwt, 0⟩
/-- PLOT_HBM_1[31:0] (Table 14.13, R390). -/
def PLOT_HBM_1.EXT_1 (i : Nat) (j : Nat) : Fld := ⟨(0x80104 + 0x200 * i + 0x10 * j) * 32 + 0, 32, .rwt, 0⟩
/-- PLOT_HBM_2[26:0] (Table 14.13, R390). -/
def PLOT_HBM_2.EXT_2 (i : Nat) (j : Nat) : Fld := ⟨(0x80108 + 0x200 * i + 0x10 * j) * 32 + 0, 27, .rwt, 0⟩
/-- CFG_ESC_BUDGET[31:16] (Table 5.7, R143). -/
def CFG_ESC_BUDGET.MIN_REPEATS (i : Nat) : Fld := ⟨(0x88000 + 0x40 * i) * 32 + 16, 16, .rw, 64⟩
/-- CFG_ESC_BUDGET[15:0] (Table 5.7, R143). -/
def CFG_ESC_BUDGET.FRACTION (i : Nat) : Fld := ⟨(0x88000 + 0x40 * i) * 32 + 0, 16, .rw, 3277⟩
/-- STS_ESC_OVERRUN[15:8] (Table 5.8, R143). -/
def STS_ESC_OVERRUN.SEQ (i : Nat) : Fld := ⟨(0x88004 + 0x40 * i) * 32 + 8, 8, .wsq, 0⟩
/-- STS_ESC_OVERRUN[0:0] (Table 5.8, R143). -/
def STS_ESC_OVERRUN.OVERRUN (i : Nat) : Fld := ⟨(0x88004 + 0x40 * i) * 32 + 0, 1, .ro, 0⟩
/-- CNT_ESC_TILES[31:0] (Table 5.9, R143). -/
def CNT_ESC_TILES.COUNT (i : Nat) : Fld := ⟨(0x88008 + 0x40 * i) * 32 + 0, 32, .ro, 0⟩
/-- CNT_ESC_REPEATS[31:0] (Table 5.10, R143). -/
def CNT_ESC_REPEATS.COUNT (i : Nat) : Fld := ⟨(0x8800c + 0x40 * i) * 32 + 0, 32, .ro, 0⟩
/-- CNT_ESC_FAIL_A[31:16] (Table 5.11, R143). -/
def CNT_ESC_FAIL_A.UF (i : Nat) : Fld := ⟨(0x88010 + 0x40 * i) * 32 + 16, 16, .ro, 0⟩
/-- CNT_ESC_FAIL_A[15:0] (Table 5.11, R143). -/
def CNT_ESC_FAIL_A.SAT (i : Nat) : Fld := ⟨(0x88010 + 0x40 * i) * 32 + 0, 16, .ro, 0⟩
/-- CNT_ESC_FAIL_B[31:16] (Table 5.12, R143). -/
def CNT_ESC_FAIL_B.LOST (i : Nat) : Fld := ⟨(0x88014 + 0x40 * i) * 32 + 16, 16, .ro, 0⟩
/-- CNT_ESC_FAIL_B[15:0] (Table 5.12, R143). -/
def CNT_ESC_FAIL_B.NF (i : Nat) : Fld := ⟨(0x88014 + 0x40 * i) * 32 + 0, 16, .ro, 0⟩
/-- CNT_ESC_FALLBACK[31:0] (Table 5.13, R143). -/
def CNT_ESC_FALLBACK.COUNT (i : Nat) : Fld := ⟨(0x88018 + 0x40 * i) * 32 + 0, 32, .ro, 0⟩
/-- CNT_ESC_EVENTS[31:16] (Table 5.14, R143). -/
def CNT_ESC_EVENTS.OVERRUN_STEPS (i : Nat) : Fld := ⟨(0x8801c + 0x40 * i) * 32 + 16, 16, .ro, 0⟩
/-- CNT_ESC_EVENTS[15:0] (Table 5.14, R143). -/
def CNT_ESC_EVENTS.TOP_FAIL (i : Nat) : Fld := ⟨(0x8801c + 0x40 * i) * 32 + 0, 16, .ro, 0⟩
/-- CNT_NONFINITE[31:0] (Table 5.15, R143). -/
def CNT_NONFINITE.COUNT (i : Nat) : Fld := ⟨(0x88020 + 0x40 * i) * 32 + 0, 32, .ro, 0⟩
/-- CNT_ESC_RUNG[31:16] (Table 5.16, R143). -/
def CNT_ESC_RUNG.HI (i : Nat) (j : Nat) : Fld := ⟨(0x88024 + 0x40 * i + 0x4 * j) * 32 + 16, 16, .ro, 0⟩
/-- CNT_ESC_RUNG[15:0] (Table 5.16, R143). -/
def CNT_ESC_RUNG.LO (i : Nat) (j : Nat) : Fld := ⟨(0x88024 + 0x40 * i + 0x4 * j) * 32 + 0, 16, .ro, 0⟩
/-- CNT_STORED_SAT[31:0] (Table 5.17, R143). -/
def CNT_STORED_SAT.COUNT (i : Nat) : Fld := ⟨(0x88038 + 0x40 * i) * 32 + 0, 32, .ro, 0⟩
/-- CFG_STASH_OVERFLOW[0:0] (Table 7.7, R202). -/
def CFG_STASH_OVERFLOW.POLICY (i : Nat) : Fld := ⟨(0x89000 + 0x40 * i) * 32 + 0, 1, .rw, 0⟩
/-- CFG_STASH_SIZE[20:0] (Table 7.8, R202). -/
def CFG_STASH_SIZE.SIZE_MIB (i : Nat) : Fld := ⟨(0x89004 + 0x40 * i) * 32 + 0, 21, .rw, 0⟩
/-- CFG_STASH_SPILL_ADDR_LO[31:12] (Table 7.9, R202). -/
def CFG_STASH_SPILL_ADDR_LO.ADDR_LO (i : Nat) : Fld := ⟨(0x89008 + 0x40 * i) * 32 + 12, 20, .rw, 0⟩
/-- CFG_STASH_SPILL_ADDR_HI[31:0] (Table 7.9, R202). -/
def CFG_STASH_SPILL_ADDR_HI.ADDR_HI (i : Nat) : Fld := ⟨(0x8900c + 0x40 * i) * 32 + 0, 32, .rw, 0⟩
/-- CFG_STASH_SPILL_SIZE[31:0] (Table 7.10, R202). -/
def CFG_STASH_SPILL_SIZE.PAGES (i : Nat) : Fld := ⟨(0x89010 + 0x40 * i) * 32 + 0, 32, .rw, 0⟩
/-- STS_STASH_SPILLED[15:8] (Table 7.11, R202). -/
def STS_STASH_SPILLED.SEQ (i : Nat) : Fld := ⟨(0x89014 + 0x40 * i) * 32 + 8, 8, .wsq, 0⟩
/-- STS_STASH_SPILLED[0:0] (Table 7.11, R202). -/
def STS_STASH_SPILLED.SPILLED (i : Nat) : Fld := ⟨(0x89014 + 0x40 * i) * 32 + 0, 1, .ro, 0⟩
/-- STS_STASH_LEVEL[31:0] (Table 7.12, R202). -/
def STS_STASH_LEVEL.LEVEL (i : Nat) : Fld := ⟨(0x89018 + 0x40 * i) * 32 + 0, 32, .ro, 0⟩
/-- CNT_STASH_EVENTS[31:16] (Table 7.13, R202). -/
def CNT_STASH_EVENTS.EXHAUSTED (i : Nat) : Fld := ⟨(0x8901c + 0x40 * i) * 32 + 16, 16, .ro, 0⟩
/-- CNT_STASH_EVENTS[15:0] (Table 7.13, R202). -/
def CNT_STASH_EVENTS.SPILLED (i : Nat) : Fld := ⟨(0x8901c + 0x40 * i) * 32 + 0, 16, .ro, 0⟩
/-- CNT_STEPS[31:16] (Table 7.14, R202). -/
def CNT_STEPS.NOT_OK (i : Nat) : Fld := ⟨(0x89020 + 0x40 * i) * 32 + 16, 16, .ro, 0⟩
/-- CNT_STEPS[15:0] (Table 7.14, R202). -/
def CNT_STEPS.COMPLETED (i : Nat) : Fld := ⟨(0x89020 + 0x40 * i) * 32 + 0, 16, .ro, 0⟩
/-- CNT_XCH_EPOCHS[31:0] (Table 8.8, R238). -/
def CNT_XCH_EPOCHS.COUNT (i : Nat) : Fld := ⟨(0x8a000 + 0x40 * i) * 32 + 0, 32, .ro, 0⟩
/-- CNT_XCH_RESCALE[31:0] (Table 8.9, R238). -/
def CNT_XCH_RESCALE.COUNT (i : Nat) : Fld := ⟨(0x8a004 + 0x40 * i) * 32 + 0, 32, .ro, 0⟩
/-- CNT_XCH_ESCAPE[31:0] (Table 8.10, R238). -/
def CNT_XCH_ESCAPE.COUNT (i : Nat) : Fld := ⟨(0x8a008 + 0x40 * i) * 32 + 0, 32, .ro, 0⟩
/-- CNT_XCH_STALE[31:0] (Table 8.11, R238). -/
def CNT_XCH_STALE.COUNT (i : Nat) : Fld := ⟨(0x8a00c + 0x40 * i) * 32 + 0, 32, .ro, 0⟩
/-- CNT_XCH_REPLAY[31:16] (Table 8.12, R238). -/
def CNT_XCH_REPLAY.FAILED (i : Nat) : Fld := ⟨(0x8a010 + 0x40 * i) * 32 + 16, 16, .ro, 0⟩
/-- CNT_XCH_REPLAY[15:0] (Table 8.12, R238). -/
def CNT_XCH_REPLAY.REPLAYS (i : Nat) : Fld := ⟨(0x8a010 + 0x40 * i) * 32 + 0, 16, .ro, 0⟩
/-- CNT_DISP_ROWS[31:0] (Table 8.13, R238). -/
def CNT_DISP_ROWS.COUNT (i : Nat) : Fld := ⟨(0x8a014 + 0x40 * i) * 32 + 0, 32, .ro, 0⟩
/-- CNT_DISP_DROP[31:0] (Table 8.14, R238). -/
def CNT_DISP_DROP.COUNT (i : Nat) : Fld := ⟨(0x8a018 + 0x40 * i) * 32 + 0, 32, .ro, 0⟩
/-- CNT_DISP_PASSTHRU[31:0] (Table 8.15, R238). -/
def CNT_DISP_PASSTHRU.COUNT (i : Nat) : Fld := ⟨(0x8a01c + 0x40 * i) * 32 + 0, 32, .ro, 0⟩
/-- STS_XCH_LAST[31:16] (Table 8.16, R238). -/
def STS_XCH_LAST.EPOCH (i : Nat) : Fld := ⟨(0x8a020 + 0x40 * i) * 32 + 16, 16, .ro, 0⟩
/-- STS_XCH_LAST[15:8] (Table 8.16, R238). -/
def STS_XCH_LAST.SCHED_ID (i : Nat) : Fld := ⟨(0x8a020 + 0x40 * i) * 32 + 8, 8, .ro, 0⟩
/-- CFG_SCHED_CTL[7:7] (Table 9.7, R264). -/
def CFG_SCHED_CTL.RESTART_EN (i : Nat) : Fld := ⟨(0x8b000 + 0x40 * i) * 32 + 7, 1, .rw, 0⟩
/-- CFG_SCHED_CTL[6:4] (Table 9.7, R264). -/
def CFG_SCHED_CTL.DECAY_FORM (i : Nat) : Fld := ⟨(0x8b000 + 0x40 * i) * 32 + 4, 3, .rw, 0⟩
/-- CFG_SCHED_CTL[1:0] (Table 9.7, R264). -/
def CFG_SCHED_CTL.WARM_FORM (i : Nat) : Fld := ⟨(0x8b000 + 0x40 * i) * 32 + 0, 2, .rw, 0⟩
/-- CFG_SCHED_PEAK[31:0] (Table 9.8, R264). -/
def CFG_SCHED_PEAK.PEAK (i : Nat) : Fld := ⟨(0x8b004 + 0x40 * i) * 32 + 0, 32, .rw, 0⟩
/-- CFG_SCHED_FLOOR[31:0] (Table 9.9, R264). -/
def CFG_SCHED_FLOOR.FLOOR (i : Nat) : Fld := ⟨(0x8b008 + 0x40 * i) * 32 + 0, 32, .rw, 0⟩
/-- CFG_SCHED_WARMUP[31:0] (Table 9.10, R264). -/
def CFG_SCHED_WARMUP.STEPS (i : Nat) : Fld := ⟨(0x8b00c + 0x40 * i) * 32 + 0, 32, .rw, 0⟩
/-- CFG_SCHED_PERIOD[31:0] (Table 9.11, R264). -/
def CFG_SCHED_PERIOD.STEPS (i : Nat) : Fld := ⟨(0x8b010 + 0x40 * i) * 32 + 0, 32, .rw, 0⟩
/-- CFG_SCHED_MULT[31:0] (Table 9.12, R264). -/
def CFG_SCHED_MULT.MULT (i : Nat) : Fld := ⟨(0x8b014 + 0x40 * i) * 32 + 0, 32, .rw, 1065353216⟩
/-- CFG_SCHED_GAMMA[31:0] (Table 9.13, R264). -/
def CFG_SCHED_GAMMA.GAMMA (i : Nat) : Fld := ⟨(0x8b018 + 0x40 * i) * 32 + 0, 32, .rw, 1036831949⟩
/-- CFG_SCHED_INTERVAL[31:0] (Table 9.14, R264). -/
def CFG_SCHED_INTERVAL.STEPS (i : Nat) : Fld := ⟨(0x8b01c + 0x40 * i) * 32 + 0, 32, .rw, 1⟩
/-- CNT_SCHED_STEP[31:0] (Table 9.15, R264). -/
def CNT_SCHED_STEP.COUNT (i : Nat) : Fld := ⟨(0x8b020 + 0x40 * i) * 32 + 0, 32, .rw, 0⟩
/-- STS_SCHED_RATE[31:0] (Table 9.16, R264). -/
def STS_SCHED_RATE.RATE (i : Nat) : Fld := ⟨(0x8b024 + 0x40 * i) * 32 + 0, 32, .ro, 0⟩
/-- CFG_PIVOT_MIN[31:0] (Table 9.17, R264). -/
def CFG_PIVOT_MIN.PIVOT_MIN (i : Nat) : Fld := ⟨(0x8b028 + 0x40 * i) * 32 + 0, 32, .rw, 897581056⟩
/-- CNT_FROZEN_SKIP[31:0] (Table 9.18, R264). -/
def CNT_FROZEN_SKIP.COUNT (i : Nat) : Fld := ⟨(0x8b02c + 0x40 * i) * 32 + 0, 32, .ro, 0⟩
/-- CNT_PRECOND_FALLBACK[31:16] (Table 9.19, R264). -/
def CNT_PRECOND_FALLBACK.NOCONV (i : Nat) : Fld := ⟨(0x8b030 + 0x40 * i) * 32 + 16, 16, .ro, 0⟩
/-- CNT_PRECOND_FALLBACK[15:0] (Table 9.19, R264). -/
def CNT_PRECOND_FALLBACK.PIVOT (i : Nat) : Fld := ⟨(0x8b030 + 0x40 * i) * 32 + 0, 16, .ro, 0⟩
/-- CNT_UPDATE_REGIONS[31:0] (Table 9.20, R264). -/
def CNT_UPDATE_REGIONS.COUNT (i : Nat) : Fld := ⟨(0x8b034 + 0x40 * i) * 32 + 0, 32, .ro, 0⟩
/-- RING_BASE_LO[31:12] (Table 13.11, R375). -/
def RING_BASE_LO.ADDR_LO (i : Nat) : Fld := ⟨(0x100000 + 0x20 * i) * 32 + 12, 20, .rw, 0⟩
/-- RING_BASE_HI[31:0] (Table 13.11, R375). -/
def RING_BASE_HI.ADDR_HI (i : Nat) : Fld := ⟨(0x100004 + 0x20 * i) * 32 + 0, 32, .rw, 0⟩
/-- RING_CPL_LO[31:12] (Table 13.12, R375). -/
def RING_CPL_LO.ADDR_LO (i : Nat) : Fld := ⟨(0x100008 + 0x20 * i) * 32 + 12, 20, .rw, 0⟩
/-- RING_CPL_HI[31:0] (Table 13.12, R375). -/
def RING_CPL_HI.ADDR_HI (i : Nat) : Fld := ⟨(0x10000c + 0x20 * i) * 32 + 0, 32, .rw, 0⟩
/-- RING_CFG[31:31] (Table 13.13, R375). -/
def RING_CFG.ENABLE (i : Nat) : Fld := ⟨(0x100010 + 0x20 * i) * 32 + 31, 1, .rw, 0⟩
/-- RING_CFG[28:18] (Table 13.13, R375). -/
def RING_CFG.VECTOR (i : Nat) : Fld := ⟨(0x100010 + 0x20 * i) * 32 + 18, 11, .rwt, 0⟩
/-- RING_CFG[17:12] (Table 13.13, R375). -/
def RING_CFG.FUNC (i : Nat) : Fld := ⟨(0x100010 + 0x20 * i) * 32 + 12, 6, .rwt, 0⟩
/-- RING_CFG[11:6] (Table 13.13, R375). -/
def RING_CFG.PLOT (i : Nat) : Fld := ⟨(0x100010 + 0x20 * i) * 32 + 6, 6, .rwt, 0⟩
/-- RING_CFG[4:0] (Table 13.13, R375). -/
def RING_CFG.SIZE_LOG2 (i : Nat) : Fld := ⟨(0x100010 + 0x20 * i) * 32 + 0, 5, .rw, 4⟩
/-- RING_STS[15:8] (Table 13.14, R375). -/
def RING_STS.DB_ERR (i : Nat) : Fld := ⟨(0x100014 + 0x20 * i) * 32 + 8, 8, .ro, 0⟩
/-- RING_STS[1:0] (Table 13.14, R375). -/
def RING_STS.STATE (i : Nat) : Fld := ⟨(0x100014 + 0x20 * i) * 32 + 0, 2, .ro, 0⟩
/-- RING_RETIRED[31:0] (Table 13.15, R375). -/
def RING_RETIRED.RETIRED (i : Nat) : Fld := ⟨(0x100018 + 0x20 * i) * 32 + 0, 32, .ro, 0⟩
/-- RING_TAIL[31:0] (Table 13.15, R375). -/
def RING_TAIL.TAIL (i : Nat) : Fld := ⟨(0x10001c + 0x20 * i) * 32 + 0, 32, .ro, 0⟩
/-- CNT_GLADE_ERR[31:16] (Table 13.18, R375). -/
def CNT_GLADE_ERR.ENTRY_REFUSED : Fld := ⟨34603024, 16, .ro, 0⟩
/-- CNT_GLADE_ERR[15:0] (Table 13.18, R375). -/
def CNT_GLADE_ERR.SLAB_REFUSED : Fld := ⟨34603008, 16, .ro, 0⟩
/-- CFG_LNK_RETRY_MAX[15:0] (Table 10.9, R304). -/
def CFG_LNK_RETRY_MAX.MAX : Fld := ⟨67108864, 16, .rw, 64⟩
/-- CFG_LNK_RETRY_WINDOW[15:0] (Table 10.10, R304). -/
def CFG_LNK_RETRY_WINDOW.WINDOW_MS : Fld := ⟨67108992, 16, .rw, 10⟩
/-- CFG_LNK_BER_THRESH[15:0] (Table 10.11, R304). -/
def CFG_LNK_BER_THRESH.THRESH : Fld := ⟨67109120, 16, .rw, 3355⟩
/-- CFG_LNK_BER_HOLD[15:0] (Table 10.12, R304). -/
def CFG_LNK_BER_HOLD.HOLD_MS : Fld := ⟨67109248, 16, .rw, 1000⟩
/-- LNK_TAG_CFG[28:16] (Table 10.13, R304). -/
def LNK_TAG_CFG.LOCAL_RESERVE : Fld := ⟨67109392, 13, .rwt, 16⟩
/-- LNK_TAG_CFG[12:0] (Table 10.13, R304). -/
def LNK_TAG_CFG.DEFAULT_CAP : Fld := ⟨67109376, 13, .rwt, 16⟩
/-- STS_LNK_TAGS[29:16] (Table 10.14, R304). -/
def STS_LNK_TAGS.PEAK : Fld := ⟨67109520, 14, .ro, 0⟩
/-- STS_LNK_TAGS[13:0] (Table 10.14, R304). -/
def STS_LNK_TAGS.IN_USE : Fld := ⟨67109504, 14, .ro, 0⟩
/-- CNT_TAG_STALL[31:0] (Table 10.15, R304). -/
def CNT_TAG_STALL.COUNT : Fld := ⟨67109632, 32, .ro, 0⟩
/-- LNK_PORT_CTL[31:24] (Table 10.16, R304). -/
def LNK_PORT_CTL.LPI_IDLE_US (i : Nat) : Fld := ⟨(0x201000 + 0x40 * i) * 32 + 24, 8, .rw, 10⟩
/-- LNK_PORT_CTL[23:16] (Table 10.16, R304). -/
def LNK_PORT_CTL.LPI_WAKE (i : Nat) : Fld := ⟨(0x201000 + 0x40 * i) * 32 + 16, 8, .rw, 15⟩
/-- LNK_PORT_CTL[8:8] (Table 10.16, R304). -/
def LNK_PORT_CTL.REQUAL (i : Nat) : Fld := ⟨(0x201000 + 0x40 * i) * 32 + 8, 1, .wo, 0⟩
/-- LNK_PORT_CTL[7:7] (Table 10.16, R304). -/
def LNK_PORT_CTL.LPI_EN (i : Nat) : Fld := ⟨(0x201000 + 0x40 * i) * 32 + 7, 1, .rw, 0⟩
/-- LNK_PORT_CTL[3:0] (Table 10.16, R304). -/
def LNK_PORT_CTL.MODE (i : Nat) : Fld := ⟨(0x201000 + 0x40 * i) * 32 + 0, 4, .rw, 1⟩
/-- LNK_PORT_STS[31:22] (Table 10.17, R304). -/
def LNK_PORT_STS.PARTNER (i : Nat) : Fld := ⟨(0x201004 + 0x40 * i) * 32 + 22, 10, .ro, 0⟩
/-- LNK_PORT_STS[21:17] (Table 10.17, R304). -/
def LNK_PORT_STS.PARTNER_PORT (i : Nat) : Fld := ⟨(0x201004 + 0x40 * i) * 32 + 17, 5, .ro, 0⟩
/-- LNK_PORT_STS[15:12] (Table 10.17, R304). -/
def LNK_PORT_STS.LANES (i : Nat) : Fld := ⟨(0x201004 + 0x40 * i) * 32 + 12, 4, .ro, 0⟩
/-- LNK_PORT_STS[11:8] (Table 10.17, R304). -/
def LNK_PORT_STS.CAUSE (i : Nat) : Fld := ⟨(0x201004 + 0x40 * i) * 32 + 8, 4, .ro, 0⟩
/-- LNK_PORT_STS[3:0] (Table 10.17, R304). -/
def LNK_PORT_STS.STATE (i : Nat) : Fld := ⟨(0x201004 + 0x40 * i) * 32 + 0, 4, .ro, 0⟩
/-- STS_LNK_LPI[15:0] (Table 10.18, R304). -/
def STS_LNK_LPI.WAKE_NS (i : Nat) : Fld := ⟨(0x201008 + 0x40 * i) * 32 + 0, 16, .ro, 0⟩
/-- CNT_LNK_RETRY[31:0] (Table 10.19, R304). -/
def CNT_LNK_RETRY.COUNT (i : Nat) : Fld := ⟨(0x20100c + 0x40 * i) * 32 + 0, 32, .ro, 0⟩
/-- CNT_LNK_FEC[31:16] (Table 10.20, R304). -/
def CNT_LNK_FEC.UNCORR (i : Nat) : Fld := ⟨(0x201010 + 0x40 * i) * 32 + 16, 16, .ro, 0⟩
/-- CNT_LNK_FEC[15:0] (Table 10.20, R304). -/
def CNT_LNK_FEC.CORR (i : Nat) : Fld := ⟨(0x201010 + 0x40 * i) * 32 + 0, 16, .ro, 0⟩
/-- CNT_LNK_SEC[31:16] (Table 10.21, R304). -/
def CNT_LNK_SEC.SEAL_FAIL (i : Nat) : Fld := ⟨(0x201014 + 0x40 * i) * 32 + 16, 16, .ro, 0⟩
/-- CNT_LNK_SEC[15:0] (Table 10.21, R304). -/
def CNT_LNK_SEC.TAG_FAIL (i : Nat) : Fld := ⟨(0x201014 + 0x40 * i) * 32 + 0, 16, .ro, 0⟩
/-- STS_LNK_LANE_SER[31:0] (Table 10.22, R304). -/
def STS_LNK_LANE_SER.ERRORS (i : Nat) (j : Nat) : Fld := ⟨(0x201020 + 0x40 * i + 0x4 * j) * 32 + 0, 32, .ro, 0⟩
/-- CFG_MGT_MAC[0:0] (Table 11.5, R322). -/
def CFG_MGT_MAC.PLCA_EN : Fld := ⟨100663296, 1, .rw, 0⟩
/-- CFG_MGT_PLCA[31:24] (Table 11.6, R322). -/
def CFG_MGT_PLCA.BURST : Fld := ⟨100663448, 8, .rw, 0⟩
/-- CFG_MGT_PLCA[23:16] (Table 11.6, R322). -/
def CFG_MGT_PLCA.TO_TIMER : Fld := ⟨100663440, 8, .rw, 32⟩
/-- CFG_MGT_PLCA[11:8] (Table 11.6, R322). -/
def CFG_MGT_PLCA.NODE_COUNT : Fld := ⟨100663432, 4, .rw, 8⟩
/-- CFG_MGT_PLCA[3:0] (Table 11.6, R322). -/
def CFG_MGT_PLCA.LOCAL_ID : Fld := ⟨100663424, 4, .rw, 0⟩
/-- CFG_MGT_DELIVER_BAD[0:0] (Table 11.7, R322). -/
def CFG_MGT_DELIVER_BAD.DELIVER : Fld := ⟨100663552, 1, .rw, 0⟩
/-- STS_MGT_ROLE[31:22] (Table 11.8, R322). -/
def STS_MGT_ROLE.NODE : Fld := ⟨100663830, 10, .ro, 0⟩
/-- STS_MGT_ROLE[21:19] (Table 11.8, R322). -/
def STS_MGT_ROLE.ROLE : Fld := ⟨100663827, 3, .ro, 0⟩
/-- STS_MGT_ROLE[18:18] (Table 11.8, R322). -/
def STS_MGT_ROLE.LEAD : Fld := ⟨100663826, 1, .ro, 0⟩
/-- STS_MGT_ROLE[17:16] (Table 11.8, R322). -/
def STS_MGT_ROLE.MGR_ROLE : Fld := ⟨100663824, 2, .ro, 0⟩
/-- STS_MGT_ROLE[15:0] (Table 11.8, R322). -/
def STS_MGT_ROLE.MGR_EPOCH : Fld := ⟨100663808, 16, .ro, 0⟩
/-- CNT_MGT_RX_BAD[31:24] (Table 11.9, R322). -/
def CNT_MGT_RX_BAD.FCS : Fld := ⟨100664344, 8, .ro, 0⟩
/-- CNT_MGT_RX_BAD[23:16] (Table 11.9, R322). -/
def CNT_MGT_RX_BAD.RUNT : Fld := ⟨100664336, 8, .ro, 0⟩
/-- CNT_MGT_RX_BAD[15:8] (Table 11.9, R322). -/
def CNT_MGT_RX_BAD.OVERSIZE : Fld := ⟨100664328, 8, .ro, 0⟩
/-- CNT_MGT_RX_BAD[7:0] (Table 11.9, R322). -/
def CNT_MGT_RX_BAD.ALIGN : Fld := ⟨100664320, 8, .ro, 0⟩
/-- CNT_MGT_RX_DROP[31:16] (Table 11.10, R322). -/
def CNT_MGT_RX_DROP.FILTERED : Fld := ⟨100664464, 16, .ro, 0⟩
/-- CNT_MGT_RX_DROP[15:0] (Table 11.10, R322). -/
def CNT_MGT_RX_DROP.AUTH_FAIL : Fld := ⟨100664448, 16, .ro, 0⟩
/-- CNT_MGT_TX[31:16] (Table 11.11, R322). -/
def CNT_MGT_TX.COLLISIONS : Fld := ⟨100664592, 16, .ro, 0⟩
/-- CNT_MGT_TX[15:8] (Table 11.11, R322). -/
def CNT_MGT_TX.EXCESSIVE : Fld := ⟨100664584, 8, .ro, 0⟩
/-- CNT_MGT_TX[7:0] (Table 11.11, R322). -/
def CNT_MGT_TX.LATE : Fld := ⟨100664576, 8, .ro, 0⟩
/-- SEC_STS[31:28] (Table 15.5, R415). -/
def SEC_STS.LIFECYCLE : Fld := ⟨134217756, 4, .ro, 2⟩
/-- SEC_STS[27:27] (Table 15.5, R415). -/
def SEC_STS.DEBUG : Fld := ⟨134217755, 1, .ro, 0⟩
/-- SEC_STS[26:26] (Table 15.5, R415). -/
def SEC_STS.RECOVERY : Fld := ⟨134217754, 1, .ro, 0⟩
/-- SEC_STS[25:25] (Table 15.5, R415). -/
def SEC_STS.TRIAL : Fld := ⟨134217753, 1, .ro, 0⟩
/-- SEC_STS[24:24] (Table 15.5, R415). -/
def SEC_STS.BOOT_IMAGE : Fld := ⟨134217752, 1, .ro, 0⟩
/-- SEC_STS[23:23] (Table 15.5, R415). -/
def SEC_STS.CFG_DEFAULTED : Fld := ⟨134217751, 1, .ro, 0⟩
/-- SEC_STS[22:16] (Table 15.5, R415). -/
def SEC_STS.FUSE_SVN : Fld := ⟨134217744, 7, .ro, 0⟩
/-- SEC_STS[15:8] (Table 15.5, R415). -/
def SEC_STS.IMAGE_SVN : Fld := ⟨134217736, 8, .ro, 0⟩
/-- SEC_CFG[3:3] (Table 15.6, R415). -/
def SEC_CFG.MANUAL_CONFIRM : Fld := ⟨134217859, 1, .rwt, 0⟩
/-- SEC_CFG[2:2] (Table 15.6, R415). -/
def SEC_CFG.SVN_AUTO : Fld := ⟨134217858, 1, .rwt, 1⟩
/-- SEC_CFG[1:1] (Table 15.6, R415). -/
def SEC_CFG.KERNEL_LOAD_EN : Fld := ⟨134217857, 1, .rwt, 1⟩
/-- SEC_CFG[0:0] (Table 15.6, R415). -/
def SEC_CFG.STAGE_EN : Fld := ⟨134217856, 1, .rwt, 1⟩
/-- SEC_FW_CTL[7:0] (Table 15.7, R415). -/
def SEC_FW_CTL.CMD : Fld := ⟨134218240, 8, .wo, 0⟩
/-- SEC_FW_STS[15:8] (Table 15.8, R415). -/
def SEC_FW_STS.SEQ : Fld := ⟨134218376, 8, .wsq, 0⟩
/-- SEC_FW_STS[7:4] (Table 15.8, R415). -/
def SEC_FW_STS.RESULT : Fld := ⟨134218372, 4, .ro, 0⟩
/-- SEC_FW_STS[3:0] (Table 15.8, R415). -/
def SEC_FW_STS.STATE : Fld := ⟨134218368, 4, .ro, 0⟩
/-- SEC_FW_SRC_LO[31:12] (Table 15.9, R415). -/
def SEC_FW_SRC_LO.SRC_LO : Fld := ⟨134218508, 20, .rw, 0⟩
/-- SEC_FW_SRC_HI[3:0] (Table 15.9, R415). -/
def SEC_FW_SRC_HI.SRC_HI : Fld := ⟨134218624, 4, .rw, 0⟩
/-- SEC_FW_LEN[31:0] (Table 15.9, R415). -/
def SEC_FW_LEN.LEN : Fld := ⟨134218752, 32, .rw, 0⟩
/-- SEC_IMG_A[31:24] (Table 15.10, R415). -/
def SEC_IMG_A.STATE : Fld := ⟨134219288, 8, .ro, 0⟩
/-- SEC_IMG_A[23:16] (Table 15.10, R415). -/
def SEC_IMG_A.SVN : Fld := ⟨134219280, 8, .ro, 0⟩
/-- SEC_IMG_A[15:0] (Table 15.10, R415). -/
def SEC_IMG_A.CONFIRM_SEQ : Fld := ⟨134219264, 16, .ro, 0⟩
/-- SEC_IMG_B[31:24] (Table 15.10, R415). -/
def SEC_IMG_B.STATE : Fld := ⟨134219416, 8, .ro, 0⟩
/-- SEC_IMG_B[23:16] (Table 15.10, R415). -/
def SEC_IMG_B.SVN : Fld := ⟨134219408, 8, .ro, 0⟩
/-- SEC_IMG_B[15:0] (Table 15.10, R415). -/
def SEC_IMG_B.CONFIRM_SEQ : Fld := ⟨134219392, 16, .ro, 0⟩
/-- SEC_DEBUG[0:0] (Table 15.11, R415). -/
def SEC_DEBUG.NONCE_REQ : Fld := ⟨134219520, 1, .wo, 0⟩
/-- CNT_SEC[31:16] (Table 15.12, R415). -/
def CNT_SEC.ADMIT_FAIL : Fld := ⟨134219792, 16, .ro, 0⟩
/-- CNT_SEC[15:0] (Table 15.12, R415). -/
def CNT_SEC.VOTE_CORR : Fld := ⟨134219776, 16, .ro, 0⟩
/-- CFG_MEM_SCRUB[23:16] (Table 1.4, R26). -/
def CFG_MEM_SCRUB.TILE_PASS_S (i : Nat) : Fld := ⟨(0x800100 + 0x10000 * i) * 32 + 16, 8, .rw, 10⟩
/-- CFG_MEM_SCRUB[15:8] (Table 1.4, R26). -/
def CFG_MEM_SCRUB.HBM_PASS_H (i : Nat) : Fld := ⟨(0x800100 + 0x10000 * i) * 32 + 8, 8, .rw, 12⟩
/-- CFG_MEM_SCRUB[1:1] (Table 1.4, R26). -/
def CFG_MEM_SCRUB.TILE_EN (i : Nat) : Fld := ⟨(0x800100 + 0x10000 * i) * 32 + 1, 1, .rw, 1⟩
/-- CFG_MEM_SCRUB[0:0] (Table 1.4, R26). -/
def CFG_MEM_SCRUB.HBM_EN (i : Nat) : Fld := ⟨(0x800100 + 0x10000 * i) * 32 + 0, 1, .rw, 1⟩
/-- STS_GD_RATE[23:0] (Table 2.13, R38). -/
def STS_GD_RATE.RATE_COUNT (i : Nat) : Fld := ⟨(0x800110 + 0x10000 * i) * 32 + 0, 24, .ro, 0⟩
/-- STS_GD_POWER[23:16] (Table 16.16, R442). -/
def STS_GD_POWER.TEMP_C (i : Nat) : Fld := ⟨(0x800120 + 0x10000 * i) * 32 + 16, 8, .ro, 0⟩
/-- STS_GD_POWER[15:15] (Table 16.16, R442). -/
def STS_GD_POWER.DROOP (i : Nat) : Fld := ⟨(0x800120 + 0x10000 * i) * 32 + 15, 1, .ro, 0⟩
/-- STS_GD_POWER[14:14] (Table 16.16, R442). -/
def STS_GD_POWER.BROWNOUT (i : Nat) : Fld := ⟨(0x800120 + 0x10000 * i) * 32 + 14, 1, .ro, 0⟩
/-- STS_GD_POWER[13:13] (Table 16.16, R442). -/
def STS_GD_POWER.THROTTLE (i : Nat) : Fld := ⟨(0x800120 + 0x10000 * i) * 32 + 13, 1, .ro, 0⟩
/-- STS_GD_POWER[9:0] (Table 16.16, R442). -/
def STS_GD_POWER.VOLT_MV (i : Nat) : Fld := ⟨(0x800120 + 0x10000 * i) * 32 + 0, 10, .ro, 0⟩
/-- CNT_MA_ROWSTEP_LO[31:0] (Table 4.7, R115). -/
def CNT_MA_ROWSTEP_LO.COUNT_LO (i : Nat) (j : Nat) : Fld := ⟨(0x800200 + 0x10000 * i + 0x10 * j) * 32 + 0, 32, .ro, 0⟩
/-- CNT_MA_ROWSTEP_HI[31:0] (Table 4.7, R115). -/
def CNT_MA_ROWSTEP_HI.COUNT_HI (i : Nat) (j : Nat) : Fld := ⟨(0x800204 + 0x10000 * i + 0x10 * j) * 32 + 0, 32, .ro, 0⟩
/-- CNT_MA_TILES[31:16] (Table 4.8, R115). -/
def CNT_MA_TILES.REPEATS (i : Nat) (j : Nat) : Fld := ⟨(0x800208 + 0x10000 * i + 0x10 * j) * 32 + 16, 16, .ro, 0⟩
/-- CNT_MA_TILES[15:0] (Table 4.8, R115). -/
def CNT_MA_TILES.TILES (i : Nat) (j : Nat) : Fld := ⟨(0x800208 + 0x10000 * i + 0x10 * j) * 32 + 0, 16, .ro, 0⟩
/-- CNT_MA_ZERO_GROUPS[31:0] (Table 4.9, R115). -/
def CNT_MA_ZERO_GROUPS.COUNT (i : Nat) (j : Nat) : Fld := ⟨(0x80020c + 0x10000 * i + 0x10 * j) * 32 + 0, 32, .ro, 0⟩
/-- CNT_VE_BUSY_LO[31:0] (Table 6.10, R176). -/
def CNT_VE_BUSY_LO.COUNT_LO (i : Nat) (j : Nat) : Fld := ⟨(0x800300 + 0x10000 * i + 0x10 * j) * 32 + 0, 32, .ro, 0⟩
/-- CNT_VE_BUSY_HI[31:0] (Table 6.10, R176). -/
def CNT_VE_BUSY_HI.COUNT_HI (i : Nat) (j : Nat) : Fld := ⟨(0x800304 + 0x10000 * i + 0x10 * j) * 32 + 0, 32, .ro, 0⟩
/-- CNT_VE_WAIT[31:0] (Table 6.11, R176). -/
def CNT_VE_WAIT.COUNT (i : Nat) (j : Nat) : Fld := ⟨(0x800308 + 0x10000 * i + 0x10 * j) * 32 + 0, 32, .ro, 0⟩
/-- CNT_VE_PATH[31:0] (Table 6.12, R176). -/
def CNT_VE_PATH.COUNT (i : Nat) (j : Nat) : Fld := ⟨(0x80030c + 0x10000 * i + 0x10 * j) * 32 + 0, 32, .ro, 0⟩
/-- STS_VE_PATH[19:15] (Table 6.13, R176). -/
def STS_VE_PATH.PORT_VE3 (i : Nat) : Fld := ⟨(0x800340 + 0x10000 * i) * 32 + 15, 5, .ro, 31⟩
/-- STS_VE_PATH[14:10] (Table 6.13, R176). -/
def STS_VE_PATH.PORT_VE2 (i : Nat) : Fld := ⟨(0x800340 + 0x10000 * i) * 32 + 10, 5, .ro, 31⟩
/-- STS_VE_PATH[9:5] (Table 6.13, R176). -/
def STS_VE_PATH.PORT_VE1 (i : Nat) : Fld := ⟨(0x800340 + 0x10000 * i) * 32 + 5, 5, .ro, 31⟩
/-- STS_VE_PATH[4:0] (Table 6.13, R176). -/
def STS_VE_PATH.PORT_VE0 (i : Nat) : Fld := ⟨(0x800340 + 0x10000 * i) * 32 + 0, 5, .ro, 31⟩
/-- CTL_GD_PERFSEL[31:24] (Table 19.8, R502). -/
def CTL_GD_PERFSEL.SEL_3 (i : Nat) : Fld := ⟨(0x800400 + 0x10000 * i) * 32 + 24, 8, .rw, 0⟩
/-- CTL_GD_PERFSEL[23:16] (Table 19.8, R502). -/
def CTL_GD_PERFSEL.SEL_2 (i : Nat) : Fld := ⟨(0x800400 + 0x10000 * i) * 32 + 16, 8, .rw, 0⟩
/-- CTL_GD_PERFSEL[15:8] (Table 19.8, R502). -/
def CTL_GD_PERFSEL.SEL_1 (i : Nat) : Fld := ⟨(0x800400 + 0x10000 * i) * 32 + 8, 8, .rw, 0⟩
/-- CTL_GD_PERFSEL[7:0] (Table 19.8, R502). -/
def CTL_GD_PERFSEL.SEL_0 (i : Nat) : Fld := ⟨(0x800400 + 0x10000 * i) * 32 + 0, 8, .rw, 0⟩
/-- CNT_GD_PERF[31:0] (Table 19.9, R502). -/
def CNT_GD_PERF.COUNT (i : Nat) (j : Nat) : Fld := ⟨(0x800410 + 0x10000 * i + 0x4 * j) * 32 + 0, 32, .ro, 0⟩

/-- Registers of the map, part 0. -/
def regRows0 : List RegRow := [
  ⟨"CTL_ID", 0x0, [], [CTL_ID.PART, CTL_ID.STEPPING], .plain⟩,
  ⟨"CTL_DEVICE_ID_LO", 0x8, [], [CTL_DEVICE_ID_LO.ID_LO], .low⟩,
  ⟨"CTL_DEVICE_ID_HI", 0xc, [], [CTL_DEVICE_ID_HI.ID_HI], .shadowed⟩,
  ⟨"CTL_BRINGUP_STS", 0x100, [], [CTL_BRINGUP_STS.PHASE, CTL_BRINGUP_STS.FULL_MS], .plain⟩,
  ⟨"STS_INSERVICE", 0x104, [], [STS_INSERVICE.STACKS, STS_INSERVICE.GROVE], .plain⟩,
  ⟨"CTL_RESET", 0x110, [], [CTL_RESET.KEY, CTL_RESET.CMD], .plain⟩,
  ⟨"CTL_PSTATE", 0x114, [], [CTL_PSTATE.ERR, CTL_PSTATE.STATE, CTL_PSTATE.AUTO_WAKE, CTL_PSTATE.REQ], .plain⟩,
  ⟨"STS_PCIE_LINK", 0x200, [], [STS_PCIE_LINK.REFMODE, STS_PCIE_LINK.UP, STS_PCIE_LINK.WIDTH, STS_PCIE_LINK.RATE], .plain⟩,
  ⟨"CNT_PCIE_ERR", 0x204, [], [CNT_PCIE_ERR.CPL_TIMEOUT, CNT_PCIE_ERR.GLADE_REFUSED, CNT_PCIE_ERR.DOORBELL_REFUSED, CNT_PCIE_ERR.ACCESS], .plain⟩,
  ⟨"CTL_CORE_STS", 0x300, [], [CTL_CORE_STS.RUNNING], .plain⟩,
  ⟨"CNT_CORE_CALL", 0x304, [], [CNT_CORE_CALL.FAILED, CNT_CORE_CALL.CALLS], .plain⟩,
  ⟨"CTL_MBOX_CMD", 0x400, [], [CTL_MBOX_CMD.LEN, CTL_MBOX_CMD.CMD], .plain⟩,
  ⟨"CTL_MBOX_STS", 0x404, [], [CTL_MBOX_STS.LEN, CTL_MBOX_STS.SEQ, CTL_MBOX_STS.RESULT, CTL_MBOX_STS.BUSY], .plain⟩,
  ⟨"CTL_MBOX_DATA", 0x2000, [(0x4, 2048)], [CTL_MBOX_DATA.DATA 0], .plain⟩,
  ⟨"CLK_STATUS", 0x10000, [], [CLK_STATUS.SERDES_LOCK, CLK_STATUS.HBM_LOCK, CLK_STATUS.PCIE_LOCK, CLK_STATUS.MGT_LOCK, CLK_STATUS.AUX_LOCK, CLK_STATUS.SOSC_OK], .plain⟩,
  ⟨"CLK_SSC", 0x10010, [], [CLK_SSC.RATE, CLK_SSC.DEPTH, CLK_SSC.REFOUT_EN, CLK_SSC.HBM_EN], .plain⟩,
  ⟨"CLK_DIV", 0x10020, [], [CLK_DIV.MGT_BUS_DIV, CLK_DIV.BRIDGE_DIV, CLK_DIV.HBM_CTL_DIV], .plain⟩,
  ⟨"CLK_HBM_RATE", 0x10030, [], [CLK_HBM_RATE.HBM_PIN_RATE], .plain⟩,
  ⟨"CLK_SOSC_COUNT_LO", 0x10040, [], [CLK_SOSC_COUNT_LO.COUNT_LO], .low⟩,
  ⟨"CLK_SOSC_COUNT_HI", 0x10044, [], [CLK_SOSC_COUNT_HI.COUNT_HI], .shadowed⟩,
  ⟨"CFG_STALL_WDOG", 0x10050, [], [CFG_STALL_WDOG.PERIOD_US], .plain⟩,
  ⟨"PWR_ENV_LEVEL_LO", 0x20000, [], [PWR_ENV_LEVEL_LO.LEVEL_3, PWR_ENV_LEVEL_LO.LEVEL_2, PWR_ENV_LEVEL_LO.LEVEL_1, PWR_ENV_LEVEL_LO.LEVEL_0], .plain⟩,
  ⟨"PWR_ENV_LEVEL_HI", 0x20004, [], [PWR_ENV_LEVEL_HI.LEVEL_7, PWR_ENV_LEVEL_HI.LEVEL_6, PWR_ENV_LEVEL_HI.LEVEL_5, PWR_ENV_LEVEL_HI.LEVEL_4], .plain⟩,
  ⟨"PWR_ENV_LIMIT", 0x20008, [], [PWR_ENV_LIMIT.WATTS], .plain⟩]

/-- Registers of the map, part 1. -/
def regRows1 : List RegRow := [
  ⟨"PWR_PEAK_LIMIT", 0x2000c, [], [PWR_PEAK_LIMIT.WATTS], .plain⟩,
  ⟨"PWR_VOLT_CFG", 0x20010, [], [PWR_VOLT_CFG.VHOLD_MV, PWR_VOLT_CFG.VMIN_MV, PWR_VOLT_CFG.VMAX_MV], .plain⟩,
  ⟨"PWR_STS", 0x20014, [], [PWR_STS.PINS, PWR_STS.BELOW_FLOOR, PWR_STS.GATING, PWR_STS.DROOP, PWR_STS.BINDING, PWR_STS.EFFECTIVE_W], .plain⟩,
  ⟨"PWR_MEAS", 0x20018, [], [PWR_MEAS.FLOOR_W, PWR_MEAS.POWER_W], .plain⟩,
  ⟨"CFG_ENERGY_MODE", 0x2001c, [], [CFG_ENERGY_MODE.MODE], .plain⟩,
  ⟨"PWR_ENERGY_DEV_LO", 0x20020, [], [PWR_ENERGY_DEV_LO.COUNT_LO], .low⟩,
  ⟨"PWR_ENERGY_DEV_HI", 0x20024, [], [PWR_ENERGY_DEV_HI.COUNT_HI], .shadowed⟩,
  ⟨"PWR_ENERGY_UNATTR_LO", 0x20028, [], [PWR_ENERGY_UNATTR_LO.COUNT_LO], .low⟩,
  ⟨"PWR_ENERGY_UNATTR_HI", 0x2002c, [], [PWR_ENERGY_UNATTR_HI.COUNT_HI], .shadowed⟩,
  ⟨"PWR_THERM_CFG", 0x20030, [], [PWR_THERM_CFG.THROTTLE_C, PWR_THERM_CFG.WARN_C], .plain⟩,
  ⟨"STS_THERM", 0x20034, [], [STS_THERM.HOTTEST_C, STS_THERM.HOTTEST_DIE, STS_THERM.SEQ, STS_THERM.HBM_HOT, STS_THERM.THROTTLE, STS_THERM.WARN], .plain⟩,
  ⟨"PWR_COOL_CFG", 0x20038, [], [PWR_COOL_CFG.DP_NOM, PWR_COOL_CFG.TACH_LOSS_MS], .plain⟩,
  ⟨"PWR_COOL_STS", 0x2003c, [], [PWR_COOL_STS.FLOW_PCT, PWR_COOL_STS.INLET_C, PWR_COOL_STS.STATE, PWR_COOL_STS.TACH_OK, PWR_COOL_STS.SENSE_OK, PWR_COOL_STS.W40, PWR_COOL_STS.W60, PWR_COOL_STS.W80], .plain⟩,
  ⟨"CNT_PWR_EVENTS", 0x20040, [], [CNT_PWR_EVENTS.DROOPS, CNT_PWR_EVENTS.DEFER_FORCED, CNT_PWR_EVENTS.BROWNOUTS], .plain⟩,
  ⟨"CNT_PWR_LIMIT", 0x20044, [], [CNT_PWR_LIMIT.GATED], .plain⟩,
  ⟨"PWR_LIFE", 0x20048, [], [PWR_LIFE.USED, PWR_LIFE.WORST_DIE], .plain⟩,
  ⟨"PWR_HALF_CYCLES", 0x20100, [(0x4, 25)], [PWR_HALF_CYCLES.COUNT 0], .plain⟩,
  ⟨"PWR_PLOT_ENERGY_LO", 0x21000, [(0x8, 64)], [PWR_PLOT_ENERGY_LO.COUNT_LO 0], .low⟩,
  ⟨"PWR_PLOT_ENERGY_HI", 0x21004, [(0x8, 64)], [PWR_PLOT_ENERGY_HI.COUNT_HI 0], .shadowed⟩,
  ⟨"PWR_RING_ENERGY_LO", 0x22000, [(0x8, 1024)], [PWR_RING_ENERGY_LO.COUNT_LO 0], .low⟩,
  ⟨"PWR_RING_ENERGY_HI", 0x22004, [(0x8, 1024)], [PWR_RING_ENERGY_HI.COUNT_HI 0], .shadowed⟩,
  ⟨"FLT_SUMMARY", 0x40000, [], [FLT_SUMMARY.HELD, FLT_SUMMARY.HIGHEST, FLT_SUMMARY.DIES], .plain⟩,
  ⟨"FLT_CFG", 0x40004, [], [FLT_CFG.AUTO_WARM], .plain⟩,
  ⟨"FLT_SILENT", 0x40008, [], [FLT_SILENT.SILENT], .plain⟩]

/-- Registers of the map, part 2. -/
def regRows2 : List RegRow := [
  ⟨"FLT_TMO_ENGINE", 0x40010, [], [FLT_TMO_ENGINE.MS], .plain⟩,
  ⟨"FLT_TMO_TRANSFER", 0x40014, [], [FLT_TMO_TRANSFER.UNITS], .plain⟩,
  ⟨"FLT_TMO_LINK", 0x40018, [], [FLT_TMO_LINK.US], .plain⟩,
  ⟨"FLT_TMO_DESC", 0x4001c, [], [FLT_TMO_DESC.MS], .plain⟩,
  ⟨"FLT_TMO_STEP", 0x40020, [], [FLT_TMO_STEP.S], .plain⟩,
  ⟨"FLT_TMO_DRAIN", 0x40024, [], [FLT_TMO_DRAIN.MS], .plain⟩,
  ⟨"FLT_TMO_HB", 0x40028, [], [FLT_TMO_HB.MGR_MS, FLT_TMO_HB.DEVICE], .plain⟩,
  ⟨"FLT_MAINT_STS", 0x40030, [], [FLT_MAINT_STS.WAITING, FLT_MAINT_STS.ACTIVE], .plain⟩,
  ⟨"CNT_MAINT", 0x40034, [], [CNT_MAINT.ABANDONED, CNT_MAINT.WAITS], .plain⟩,
  ⟨"CNT_FLT_A", 0x40038, [], [CNT_FLT_A.C2, CNT_FLT_A.C1], .plain⟩,
  ⟨"CNT_FLT_B", 0x4003c, [], [CNT_FLT_B.DESC_TMO, CNT_FLT_B.C3], .plain⟩,
  ⟨"FLT_INJECT", 0x40040, [], [FLT_INJECT.GO, FLT_INJECT.DIE, FLT_INJECT.BIT], .plain⟩,
  ⟨"FLT_LOG_SEL", 0x40050, [], [FLT_LOG_SEL.READY, FLT_LOG_SEL.INDEX], .plain⟩,
  ⟨"FLT_LOG_DATA", 0x40060, [(0x4, 8)], [FLT_LOG_DATA.DATA 0], .plain⟩,
  ⟨"FLT_WORD_LO", 0x40100, [(0x20, 25)], [FLT_WORD_LO.WORD_LO 0], .faultLow⟩,
  ⟨"FLT_WORD_HI", 0x40104, [(0x20, 25)], [FLT_WORD_HI.WORD_HI 0], .shadowed⟩,
  ⟨"FLT_SEQ", 0x40108, [(0x20, 25)], [FLT_SEQ.SEQ 0], .shadowed⟩,
  ⟨"FLT_MASK_LO", 0x4010c, [(0x20, 25)], [FLT_MASK_LO.MASK_LO 0], .plain⟩,
  ⟨"FLT_MASK_HI", 0x40110, [(0x20, 25)], [FLT_MASK_HI.MASK_HI 0], .plain⟩,
  ⟨"PLOT_CTL", 0x80000, [(0x200, 64)], [PLOT_CTL.CMD 0], .plain⟩,
  ⟨"PLOT_STS", 0x80004, [(0x200, 64)], [PLOT_STS.RETIRED_PAGES 0, PLOT_STS.MANAGED 0, PLOT_STS.ERR 0, PLOT_STS.STATE 0], .plain⟩,
  ⟨"PLOT_USER", 0x80008, [(0x200, 64)], [PLOT_USER.USER 0], .plain⟩,
  ⟨"PLOT_FUNC", 0x8000c, [(0x200, 64)], [PLOT_FUNC.VF 0], .plain⟩,
  ⟨"PLOT_ARRAYS_LO", 0x80010, [(0x200, 64)], [PLOT_ARRAYS_LO.ARRAYS_LO 0], .plain⟩]

/-- Registers of the map, part 3. -/
def regRows3 : List RegRow := [
  ⟨"PLOT_ARRAYS_HI", 0x80014, [(0x200, 64)], [PLOT_ARRAYS_HI.ARRAYS_HI 0], .plain⟩,
  ⟨"PLOT_VE_LO", 0x80018, [(0x200, 64)], [PLOT_VE_LO.VE_LO 0], .plain⟩,
  ⟨"PLOT_VE_HI", 0x8001c, [(0x200, 64)], [PLOT_VE_HI.VE_HI 0], .plain⟩,
  ⟨"PLOT_SLOTS", 0x80020, [(0x200, 64)], [PLOT_SLOTS.SLOT_COUNT 0, PLOT_SLOTS.SLOT_FIRST 0], .plain⟩,
  ⟨"PLOT_PORTS", 0x80024, [(0x200, 64)], [PLOT_PORTS.PORTS 0], .plain⟩,
  ⟨"PLOT_CORES", 0x80028, [(0x200, 64)], [PLOT_CORES.CORES 0], .plain⟩,
  ⟨"PLOT_TAGS", 0x8002c, [(0x200, 64)], [PLOT_TAGS.TAGS 0], .plain⟩,
  ⟨"PLOT_GLADE", 0x80030, [(0x200, 64)], [PLOT_GLADE.SIZE 0, PLOT_GLADE.BASE 0], .plain⟩,
  ⟨"PLOT_LEASE_ID", 0x80034, [(0x200, 64)], [PLOT_LEASE_ID.LEASE_ID 0], .plain⟩,
  ⟨"CNT_FIREBREAK", 0x80038, [(0x200, 64)], [CNT_FIREBREAK.BLOCKED 0, CNT_FIREBREAK.LEASE_REFUSED 0], .plain⟩,
  ⟨"PLOT_BANKS_LO", 0x80080, [(0x200, 64), (0x8, 16)], [PLOT_BANKS_LO.BANKS_LO 0 0], .plain⟩,
  ⟨"PLOT_BANKS_HI", 0x80084, [(0x200, 64), (0x8, 16)], [PLOT_BANKS_HI.BANKS_HI 0 0], .plain⟩,
  ⟨"PLOT_HBM_0", 0x80100, [(0x200, 64), (0x10, 16)], [PLOT_HBM_0.EXT_0 0 0], .plain⟩,
  ⟨"PLOT_HBM_1", 0x80104, [(0x200, 64), (0x10, 16)], [PLOT_HBM_1.EXT_1 0 0], .plain⟩,
  ⟨"PLOT_HBM_2", 0x80108, [(0x200, 64), (0x10, 16)], [PLOT_HBM_2.EXT_2 0 0], .plain⟩,
  ⟨"CFG_ESC_BUDGET", 0x88000, [(0x40, 64)], [CFG_ESC_BUDGET.MIN_REPEATS 0, CFG_ESC_BUDGET.FRACTION 0], .plain⟩,
  ⟨"STS_ESC_OVERRUN", 0x88004, [(0x40, 64)], [STS_ESC_OVERRUN.SEQ 0, STS_ESC_OVERRUN.OVERRUN 0], .plain⟩,
  ⟨"CNT_ESC_TILES", 0x88008, [(0x40, 64)], [CNT_ESC_TILES.COUNT 0], .plain⟩,
  ⟨"CNT_ESC_REPEATS", 0x8800c, [(0x40, 64)], [CNT_ESC_REPEATS.COUNT 0], .plain⟩,
  ⟨"CNT_ESC_FAIL_A", 0x88010, [(0x40, 64)], [CNT_ESC_FAIL_A.UF 0, CNT_ESC_FAIL_A.SAT 0], .plain⟩,
  ⟨"CNT_ESC_FAIL_B", 0x88014, [(0x40, 64)], [CNT_ESC_FAIL_B.LOST 0, CNT_ESC_FAIL_B.NF 0], .plain⟩,
  ⟨"CNT_ESC_FALLBACK", 0x88018, [(0x40, 64)], [CNT_ESC_FALLBACK.COUNT 0], .plain⟩,
  ⟨"CNT_ESC_EVENTS", 0x8801c, [(0x40, 64)], [CNT_ESC_EVENTS.OVERRUN_STEPS 0, CNT_ESC_EVENTS.TOP_FAIL 0], .plain⟩,
  ⟨"CNT_NONFINITE", 0x88020, [(0x40, 64)], [CNT_NONFINITE.COUNT 0], .plain⟩]

/-- Registers of the map, part 4. -/
def regRows4 : List RegRow := [
  ⟨"CNT_ESC_RUNG", 0x88024, [(0x40, 64), (0x4, 5)], [CNT_ESC_RUNG.HI 0 0, CNT_ESC_RUNG.LO 0 0], .plain⟩,
  ⟨"CNT_STORED_SAT", 0x88038, [(0x40, 64)], [CNT_STORED_SAT.COUNT 0], .plain⟩,
  ⟨"CFG_STASH_OVERFLOW", 0x89000, [(0x40, 64)], [CFG_STASH_OVERFLOW.POLICY 0], .plain⟩,
  ⟨"CFG_STASH_SIZE", 0x89004, [(0x40, 64)], [CFG_STASH_SIZE.SIZE_MIB 0], .plain⟩,
  ⟨"CFG_STASH_SPILL_ADDR_LO", 0x89008, [(0x40, 64)], [CFG_STASH_SPILL_ADDR_LO.ADDR_LO 0], .plain⟩,
  ⟨"CFG_STASH_SPILL_ADDR_HI", 0x8900c, [(0x40, 64)], [CFG_STASH_SPILL_ADDR_HI.ADDR_HI 0], .plain⟩,
  ⟨"CFG_STASH_SPILL_SIZE", 0x89010, [(0x40, 64)], [CFG_STASH_SPILL_SIZE.PAGES 0], .plain⟩,
  ⟨"STS_STASH_SPILLED", 0x89014, [(0x40, 64)], [STS_STASH_SPILLED.SEQ 0, STS_STASH_SPILLED.SPILLED 0], .plain⟩,
  ⟨"STS_STASH_LEVEL", 0x89018, [(0x40, 64)], [STS_STASH_LEVEL.LEVEL 0], .plain⟩,
  ⟨"CNT_STASH_EVENTS", 0x8901c, [(0x40, 64)], [CNT_STASH_EVENTS.EXHAUSTED 0, CNT_STASH_EVENTS.SPILLED 0], .plain⟩,
  ⟨"CNT_STEPS", 0x89020, [(0x40, 64)], [CNT_STEPS.NOT_OK 0, CNT_STEPS.COMPLETED 0], .plain⟩,
  ⟨"CNT_XCH_EPOCHS", 0x8a000, [(0x40, 64)], [CNT_XCH_EPOCHS.COUNT 0], .plain⟩,
  ⟨"CNT_XCH_RESCALE", 0x8a004, [(0x40, 64)], [CNT_XCH_RESCALE.COUNT 0], .plain⟩,
  ⟨"CNT_XCH_ESCAPE", 0x8a008, [(0x40, 64)], [CNT_XCH_ESCAPE.COUNT 0], .plain⟩,
  ⟨"CNT_XCH_STALE", 0x8a00c, [(0x40, 64)], [CNT_XCH_STALE.COUNT 0], .plain⟩,
  ⟨"CNT_XCH_REPLAY", 0x8a010, [(0x40, 64)], [CNT_XCH_REPLAY.FAILED 0, CNT_XCH_REPLAY.REPLAYS 0], .plain⟩,
  ⟨"CNT_DISP_ROWS", 0x8a014, [(0x40, 64)], [CNT_DISP_ROWS.COUNT 0], .plain⟩,
  ⟨"CNT_DISP_DROP", 0x8a018, [(0x40, 64)], [CNT_DISP_DROP.COUNT 0], .plain⟩,
  ⟨"CNT_DISP_PASSTHRU", 0x8a01c, [(0x40, 64)], [CNT_DISP_PASSTHRU.COUNT 0], .plain⟩,
  ⟨"STS_XCH_LAST", 0x8a020, [(0x40, 64)], [STS_XCH_LAST.EPOCH 0, STS_XCH_LAST.SCHED_ID 0], .plain⟩,
  ⟨"CFG_SCHED_CTL", 0x8b000, [(0x40, 64)], [CFG_SCHED_CTL.RESTART_EN 0, CFG_SCHED_CTL.DECAY_FORM 0, CFG_SCHED_CTL.WARM_FORM 0], .plain⟩,
  ⟨"CFG_SCHED_PEAK", 0x8b004, [(0x40, 64)], [CFG_SCHED_PEAK.PEAK 0], .plain⟩,
  ⟨"CFG_SCHED_FLOOR", 0x8b008, [(0x40, 64)], [CFG_SCHED_FLOOR.FLOOR 0], .plain⟩,
  ⟨"CFG_SCHED_WARMUP", 0x8b00c, [(0x40, 64)], [CFG_SCHED_WARMUP.STEPS 0], .plain⟩]

/-- Registers of the map, part 5. -/
def regRows5 : List RegRow := [
  ⟨"CFG_SCHED_PERIOD", 0x8b010, [(0x40, 64)], [CFG_SCHED_PERIOD.STEPS 0], .plain⟩,
  ⟨"CFG_SCHED_MULT", 0x8b014, [(0x40, 64)], [CFG_SCHED_MULT.MULT 0], .plain⟩,
  ⟨"CFG_SCHED_GAMMA", 0x8b018, [(0x40, 64)], [CFG_SCHED_GAMMA.GAMMA 0], .plain⟩,
  ⟨"CFG_SCHED_INTERVAL", 0x8b01c, [(0x40, 64)], [CFG_SCHED_INTERVAL.STEPS 0], .plain⟩,
  ⟨"CNT_SCHED_STEP", 0x8b020, [(0x40, 64)], [CNT_SCHED_STEP.COUNT 0], .plain⟩,
  ⟨"STS_SCHED_RATE", 0x8b024, [(0x40, 64)], [STS_SCHED_RATE.RATE 0], .plain⟩,
  ⟨"CFG_PIVOT_MIN", 0x8b028, [(0x40, 64)], [CFG_PIVOT_MIN.PIVOT_MIN 0], .plain⟩,
  ⟨"CNT_FROZEN_SKIP", 0x8b02c, [(0x40, 64)], [CNT_FROZEN_SKIP.COUNT 0], .plain⟩,
  ⟨"CNT_PRECOND_FALLBACK", 0x8b030, [(0x40, 64)], [CNT_PRECOND_FALLBACK.NOCONV 0, CNT_PRECOND_FALLBACK.PIVOT 0], .plain⟩,
  ⟨"CNT_UPDATE_REGIONS", 0x8b034, [(0x40, 64)], [CNT_UPDATE_REGIONS.COUNT 0], .plain⟩,
  ⟨"RING_BASE_LO", 0x100000, [(0x20, 1024)], [RING_BASE_LO.ADDR_LO 0], .plain⟩,
  ⟨"RING_BASE_HI", 0x100004, [(0x20, 1024)], [RING_BASE_HI.ADDR_HI 0], .plain⟩,
  ⟨"RING_CPL_LO", 0x100008, [(0x20, 1024)], [RING_CPL_LO.ADDR_LO 0], .plain⟩,
  ⟨"RING_CPL_HI", 0x10000c, [(0x20, 1024)], [RING_CPL_HI.ADDR_HI 0], .plain⟩,
  ⟨"RING_CFG", 0x100010, [(0x20, 1024)], [RING_CFG.ENABLE 0, RING_CFG.VECTOR 0, RING_CFG.FUNC 0, RING_CFG.PLOT 0, RING_CFG.SIZE_LOG2 0], .plain⟩,
  ⟨"RING_STS", 0x100014, [(0x20, 1024)], [RING_STS.DB_ERR 0, RING_STS.STATE 0], .plain⟩,
  ⟨"RING_RETIRED", 0x100018, [(0x20, 1024)], [RING_RETIRED.RETIRED 0], .plain⟩,
  ⟨"RING_TAIL", 0x10001c, [(0x20, 1024)], [RING_TAIL.TAIL 0], .plain⟩,
  ⟨"CNT_GLADE_ERR", 0x108000, [], [CNT_GLADE_ERR.ENTRY_REFUSED, CNT_GLADE_ERR.SLAB_REFUSED], .plain⟩,
  ⟨"CFG_LNK_RETRY_MAX", 0x200000, [], [CFG_LNK_RETRY_MAX.MAX], .plain⟩,
  ⟨"CFG_LNK_RETRY_WINDOW", 0x200004, [], [CFG_LNK_RETRY_WINDOW.WINDOW_MS], .plain⟩,
  ⟨"CFG_LNK_BER_THRESH", 0x200008, [], [CFG_LNK_BER_THRESH.THRESH], .plain⟩,
  ⟨"CFG_LNK_BER_HOLD", 0x20000c, [], [CFG_LNK_BER_HOLD.HOLD_MS], .plain⟩,
  ⟨"LNK_TAG_CFG", 0x200010, [], [LNK_TAG_CFG.LOCAL_RESERVE, LNK_TAG_CFG.DEFAULT_CAP], .plain⟩]

/-- Registers of the map, part 6. -/
def regRows6 : List RegRow := [
  ⟨"STS_LNK_TAGS", 0x200014, [], [STS_LNK_TAGS.PEAK, STS_LNK_TAGS.IN_USE], .plain⟩,
  ⟨"CNT_TAG_STALL", 0x200018, [], [CNT_TAG_STALL.COUNT], .plain⟩,
  ⟨"LNK_PORT_CTL", 0x201000, [(0x40, 24)], [LNK_PORT_CTL.LPI_IDLE_US 0, LNK_PORT_CTL.LPI_WAKE 0, LNK_PORT_CTL.REQUAL 0, LNK_PORT_CTL.LPI_EN 0, LNK_PORT_CTL.MODE 0], .plain⟩,
  ⟨"LNK_PORT_STS", 0x201004, [(0x40, 24)], [LNK_PORT_STS.PARTNER 0, LNK_PORT_STS.PARTNER_PORT 0, LNK_PORT_STS.LANES 0, LNK_PORT_STS.CAUSE 0, LNK_PORT_STS.STATE 0], .plain⟩,
  ⟨"STS_LNK_LPI", 0x201008, [(0x40, 24)], [STS_LNK_LPI.WAKE_NS 0], .plain⟩,
  ⟨"CNT_LNK_RETRY", 0x20100c, [(0x40, 24)], [CNT_LNK_RETRY.COUNT 0], .plain⟩,
  ⟨"CNT_LNK_FEC", 0x201010, [(0x40, 24)], [CNT_LNK_FEC.UNCORR 0, CNT_LNK_FEC.CORR 0], .plain⟩,
  ⟨"CNT_LNK_SEC", 0x201014, [(0x40, 24)], [CNT_LNK_SEC.SEAL_FAIL 0, CNT_LNK_SEC.TAG_FAIL 0], .plain⟩,
  ⟨"STS_LNK_LANE_SER", 0x201020, [(0x40, 24), (0x4, 4)], [STS_LNK_LANE_SER.ERRORS 0 0], .plain⟩,
  ⟨"CFG_MGT_MAC", 0x300000, [], [CFG_MGT_MAC.PLCA_EN], .plain⟩,
  ⟨"CFG_MGT_PLCA", 0x300004, [], [CFG_MGT_PLCA.BURST, CFG_MGT_PLCA.TO_TIMER, CFG_MGT_PLCA.NODE_COUNT, CFG_MGT_PLCA.LOCAL_ID], .plain⟩,
  ⟨"CFG_MGT_DELIVER_BAD", 0x300008, [], [CFG_MGT_DELIVER_BAD.DELIVER], .plain⟩,
  ⟨"STS_MGT_ROLE", 0x300010, [], [STS_MGT_ROLE.NODE, STS_MGT_ROLE.ROLE, STS_MGT_ROLE.LEAD, STS_MGT_ROLE.MGR_ROLE, STS_MGT_ROLE.MGR_EPOCH], .plain⟩,
  ⟨"CNT_MGT_RX_BAD", 0x300020, [], [CNT_MGT_RX_BAD.FCS, CNT_MGT_RX_BAD.RUNT, CNT_MGT_RX_BAD.OVERSIZE, CNT_MGT_RX_BAD.ALIGN], .plain⟩,
  ⟨"CNT_MGT_RX_DROP", 0x300024, [], [CNT_MGT_RX_DROP.FILTERED, CNT_MGT_RX_DROP.AUTH_FAIL], .plain⟩,
  ⟨"CNT_MGT_TX", 0x300028, [], [CNT_MGT_TX.COLLISIONS, CNT_MGT_TX.EXCESSIVE, CNT_MGT_TX.LATE], .plain⟩,
  ⟨"SEC_STS", 0x400000, [], [SEC_STS.LIFECYCLE, SEC_STS.DEBUG, SEC_STS.RECOVERY, SEC_STS.TRIAL, SEC_STS.BOOT_IMAGE, SEC_STS.CFG_DEFAULTED, SEC_STS.FUSE_SVN, SEC_STS.IMAGE_SVN], .plain⟩,
  ⟨"SEC_CFG", 0x400004, [], [SEC_CFG.MANUAL_CONFIRM, SEC_CFG.SVN_AUTO, SEC_CFG.KERNEL_LOAD_EN, SEC_CFG.STAGE_EN], .plain⟩,
  ⟨"SEC_FW_CTL", 0x400010, [], [SEC_FW_CTL.CMD], .plain⟩,
  ⟨"SEC_FW_STS", 0x400014, [], [SEC_FW_STS.SEQ, SEC_FW_STS.RESULT, SEC_FW_STS.STATE], .plain⟩,
  ⟨"SEC_FW_SRC_LO", 0x400018, [], [SEC_FW_SRC_LO.SRC_LO], .plain⟩,
  ⟨"SEC_FW_SRC_HI", 0x40001c, [], [SEC_FW_SRC_HI.SRC_HI], .plain⟩,
  ⟨"SEC_FW_LEN", 0x400020, [], [SEC_FW_LEN.LEN], .plain⟩,
  ⟨"SEC_IMG_A", 0x400030, [], [SEC_IMG_A.STATE, SEC_IMG_A.SVN, SEC_IMG_A.CONFIRM_SEQ], .plain⟩]

/-- Registers of the map, part 7. -/
def regRows7 : List RegRow := [
  ⟨"SEC_IMG_B", 0x400034, [], [SEC_IMG_B.STATE, SEC_IMG_B.SVN, SEC_IMG_B.CONFIRM_SEQ], .plain⟩,
  ⟨"SEC_DEBUG", 0x400038, [], [SEC_DEBUG.NONCE_REQ], .plain⟩,
  ⟨"CNT_SEC", 0x400040, [], [CNT_SEC.ADMIT_FAIL, CNT_SEC.VOTE_CORR], .plain⟩,
  ⟨"CFG_MEM_SCRUB", 0x800100, [(0x10000, 16)], [CFG_MEM_SCRUB.TILE_PASS_S 0, CFG_MEM_SCRUB.HBM_PASS_H 0, CFG_MEM_SCRUB.TILE_EN 0, CFG_MEM_SCRUB.HBM_EN 0], .plain⟩,
  ⟨"STS_GD_RATE", 0x800110, [(0x10000, 16)], [STS_GD_RATE.RATE_COUNT 0], .plain⟩,
  ⟨"STS_GD_POWER", 0x800120, [(0x10000, 16)], [STS_GD_POWER.TEMP_C 0, STS_GD_POWER.DROOP 0, STS_GD_POWER.BROWNOUT 0, STS_GD_POWER.THROTTLE 0, STS_GD_POWER.VOLT_MV 0], .plain⟩,
  ⟨"CNT_MA_ROWSTEP_LO", 0x800200, [(0x10000, 16), (0x10, 3)], [CNT_MA_ROWSTEP_LO.COUNT_LO 0 0], .low⟩,
  ⟨"CNT_MA_ROWSTEP_HI", 0x800204, [(0x10000, 16), (0x10, 3)], [CNT_MA_ROWSTEP_HI.COUNT_HI 0 0], .shadowed⟩,
  ⟨"CNT_MA_TILES", 0x800208, [(0x10000, 16), (0x10, 3)], [CNT_MA_TILES.REPEATS 0 0, CNT_MA_TILES.TILES 0 0], .plain⟩,
  ⟨"CNT_MA_ZERO_GROUPS", 0x80020c, [(0x10000, 16), (0x10, 3)], [CNT_MA_ZERO_GROUPS.COUNT 0 0], .plain⟩,
  ⟨"CNT_VE_BUSY_LO", 0x800300, [(0x10000, 16), (0x10, 4)], [CNT_VE_BUSY_LO.COUNT_LO 0 0], .low⟩,
  ⟨"CNT_VE_BUSY_HI", 0x800304, [(0x10000, 16), (0x10, 4)], [CNT_VE_BUSY_HI.COUNT_HI 0 0], .shadowed⟩,
  ⟨"CNT_VE_WAIT", 0x800308, [(0x10000, 16), (0x10, 4)], [CNT_VE_WAIT.COUNT 0 0], .plain⟩,
  ⟨"CNT_VE_PATH", 0x80030c, [(0x10000, 16), (0x10, 4)], [CNT_VE_PATH.COUNT 0 0], .plain⟩,
  ⟨"STS_VE_PATH", 0x800340, [(0x10000, 16)], [STS_VE_PATH.PORT_VE3 0, STS_VE_PATH.PORT_VE2 0, STS_VE_PATH.PORT_VE1 0, STS_VE_PATH.PORT_VE0 0], .plain⟩,
  ⟨"CTL_GD_PERFSEL", 0x800400, [(0x10000, 16)], [CTL_GD_PERFSEL.SEL_3 0, CTL_GD_PERFSEL.SEL_2 0, CTL_GD_PERFSEL.SEL_1 0, CTL_GD_PERFSEL.SEL_0 0], .plain⟩,
  ⟨"CNT_GD_PERF", 0x800410, [(0x10000, 16), (0x4, 4)], [CNT_GD_PERF.COUNT 0 0], .plain⟩]

/-- Every register of the map. -/
def regRows : List RegRow :=
  regRows0 ++ regRows1 ++ regRows2 ++ regRows3 ++ regRows4 ++ regRows5 ++ regRows6 ++ regRows7

end Sys2Proof.Machine
end

