-- ==== Sys2Proof/Machine/State.lean ====
section
/-! DEFINITION. The state of the Y25 as plain data: the registers of the map and every piece of
state that the spec gives the device beside the map.  A field's default is its value at power-on
reset, and `State.reset` is made of the defaults.  INVENTORY.md lists every field with its rule. -/

namespace Sys2Proof.Machine

/-- A number as a format holds it: a NaN, an infinity, or a sign with a magnitude in units of 2⁻¹⁴⁹ (R53). -/
inductive Val where
  | nan
  | inf (neg : Bool)
  | fin (neg : Bool) (mag : Nat)
  deriving DecidableEq, Repr, Inhabited

/-- Why a step stops with a fault. -/
inductive Fault where
  /-- Raised by a command that `Instr.wellFormed` refuses: its data does not have the length its
  own format fixes, and the spec gives it no effect.  Safe: the model stops where nothing is stated. -/
  | malformedCommand
  deriving DecidableEq, Repr

/-- Why a step is refused.  No meaning of this model answers with a refusal. -/
inductive Refusal where
  /-- Raised by an arm of `exec` that has no meaning.  Safe. -/
  | notModelled (mnemonic : String)
  deriving DecidableEq, Repr

/-- A control frame (R285) by what it says; the spec gives no numbers for its types.  Nodes, ports
and lanes are numbers. -/
inductive Ctrl where
  /-- Lanes retired by the sending end (R277). -/
  | laneRetire (lanes : List Nat)
  /-- Low-power idle proposed with the sender's advertised wake time (R280). -/
  | lpi (wakeNs : Nat)
  /-- A port lost, quarantined or refused its partner; sent to the manager (R284, R288, R289, R294). -/
  | portReport (port node cause : Nat)
  /-- JOIN_REQ of a device, with the partners that its copse ports have admitted (R314, R295). -/
  | joinReq (devId : Nat) (partners : List Nat)
  /-- A join request relayed by the copse lead, with its copse and what the copse map says of the device (R314, R295). -/
  | joinForward (devId copse : Nat) (partners : List Nat)
  /-- Join answer: status of Table 11.3, node, role and copse key (R314). -/
  | joinAnswer (devId status node role : Nat) (key : BitVec 256)
  /-- A device asks to leave (R316). -/
  | leaveReq (node : Nat)
  /-- A leave granted (R316). -/
  | leaveGranted (node : Nat)
  /-- A table write: 0 route, 1 routing, 2 schedule, at a membership epoch, with the receiver's role, whether it leads
  its copse, and the copse key of the epoch (R310, R313). -/
  | table (node kind epoch role : Nat) (lead : Bool) (key : BitVec 256)
  /-- HEARTBEAT (R317). -/
  | heartbeat (seq summary : Nat)
  /-- Heartbeat of the manager to the standby, with the members and the leases that a takeover needs (R319). -/
  | mgrHeartbeat (mgrEpoch epoch : Nat) (members leases : List Nat)
  /-- FENCE for a node (R318). -/
  | fence (node : Nat)
  /-- The standby's poll of a copse lead, and its answer (R319). -/
  | poll
  | pollAnswer (silent : Bool)
  /-- A new manager announces itself with its epoch and device identity (R311, R319). -/
  | announce (mgrEpoch devId : Nat)
  /-- DEVICE_DOWN and STAND_DOWN (R449). -/
  | deviceDown
  | standDown
  /-- REQUAL_AUTH for a port and a partner (R321). -/
  | requalAuth (port node : Nat)
  /-- A device's barrier report: lease, non-finite total, a member failed (R142, R185). -/
  | barrierReport (lease total : Nat) (failed : Bool)
  /-- The manager's answer: lease, summed total, some device failed or skipped (R142, R185). -/
  | barrierAnswer (lease total : Nat) (failed : Bool)
  /-- The manager resets a device's share of a leased plot, with or without clearing (R389, R461). -/
  | plotReset (lease : Nat) (clear : Bool)
  /-- A plot that spans devices was reset on this one (R338, R389). -/
  | plotWasReset (lease : Nat)
  /-- An epoch is aborted on a schedule, for a failed seal or another cause (R230, R231). -/
  | epochAbort (sched epoch : Nat) (sealFail : Bool)
  /-- Heartbeat periods of the manager (R457). -/
  | hbPeriods (device mgr : Nat)
  /-- A spare takes a logical position of a lease (R459). -/
  | substitute (lease node spare : Nat)
  deriving DecidableEq, Repr

/-- A change of membership that waits for the manager (R314). -/
inductive MemberReq where
  /-- A device asks to join: identity, copse, and the nodes to which its copse map gives it a direct port (R295, R315). -/
  | join (devId copse : Nat) (partners : List Nat)
  /-- A node asks to leave (R316). -/
  | leave (node : Nat)
  deriving DecidableEq, Repr

/-- A command of the firmware mailbox that is being served (R501, Table 19.7). -/
structure BoxReq where
  /-- CMD; a value that Table 19.7 does not list answers BAD_REQUEST. -/
  cmd  : Nat := 0
  /-- LEN: bytes of the request in CTL_MBOX_DATA. -/
  len  : Nat := 0
  /-- what the verification that the command asks for says. -/
  good : Bool := false
  deriving DecidableEq, Repr, Inhabited

/-- What the DOE mailbox answers (R341, Table 12.5). -/
inductive Doe where
  /-- DOE Discovery: DOE Discovery and SPDM are supported. -/
  | discovery
  /-- The one version, 1.2. -/
  | version
  /-- Capabilities: CTExponent 17, certificate portions of at most 1,024 bytes. -/
  | capabilities
  /-- TPM_ALG_SM2_ECC_SM2_P256 and TPM_ALG_SM3_256. -/
  | algorithms
  /-- The digest of slot 0. -/
  | digests
  /-- A portion of the chain of slot 0. -/
  | certificate (bytes : List Byte)
  /-- A signature by the device identity key over a challenge. -/
  | challengeAuth
  /-- The recorded firmware measurements. -/
  | measurements (bytes : List Byte)
  /-- A request that cannot be answered: an empty slot, or a key whose use is refused. -/
  | error
  deriving DecidableEq, Repr

/-- What the device sends. -/
inductive Out where
  /-- An MSI-X message of a function (R333). -/
  | msix (func vector : Nat)
  /-- A memory write to the host with the requester ID of a function: address, bytes, whether it carries Relaxed Ordering
  and ECRC (R329, R334, R337). -/
  | dmaWrite (func addr len : Nat) (relaxed ecrc : Bool)
  /-- A read request to the host with the requester ID of a function, under a transaction tag where it is no descriptor
  fetch: address, bytes (R329, R335, R346). -/
  | dmaRead (func addr len tag : Nat)
  /-- What a read of the host through BAR2 returns; none where it completes without data, as Unsupported Request or
  poisoned (R331, R18). -/
  | bar2 (bytes : Option (List Byte))
  /-- A flit on a native port, its 256 bytes (R267). -/
  | flit (port : Nat) (bytes : List Byte)
  /-- A Xasin frame on an Ethernet port toward a node, from its destination address to its FCS (R290, R291). -/
  | frame (port node : Nat) (bytes : List Byte)
  /-- What a control frame says, on a port; its flit is sent beside it (R285). -/
  | control (port : Nat) (c : Ctrl)
  /-- An admission message 1 to 7 on a port (R282). -/
  | admission (port msg : Nat)
  /-- The port signals wake, probes for a signal, or drives PRBS31 on lanes (R280, R288, R279). -/
  | wake (port : Nat)
  | probe (port : Nat)
  | prbs (port : Nat) (lanes : List Nat)
  /-- A control frame on the management segment (R310); `none` is broadcast. -/
  | segment (dst : Option Nat) (c : Ctrl)
  /-- An untagged JOIN_HELLO on the segment (R310). -/
  | joinHello
  /-- A frame put on the wire by the management MAC (R306, R307). -/
  | mgtFrame (bytes : List Byte)
  /-- A PLCA beacon (R307). -/
  | beacon
  /-- An answer of the DOE mailbox. -/
  | doe (answer : Doe)
  /-- Bytes that the SMBus sideband returns (Table 20.2). -/
  | smbus (bytes : List Byte)
  deriving DecidableEq, Repr

/-- The software-visible registers (R490 to R502), field by field; the key of a field is 32 * BAR0 byte address + its lowest bit, and a table lists only fields that differ from their reset value. -/
structure RegFile where
  /-- value of every field of the register map, by key; an unlisted field holds its reset value (R492). -/
  field : Tab Nat := []
  /-- second copy of every RWT field (R497). -/
  copyB : Tab Nat := []
  /-- third copy of every RWT field (R497). -/
  copyC : Tab Nat := []
  /-- 32-bit shadows of the high words and of FLT_SEQ, one set for each of the six paths, keyed path * 2^24 + address; zero until the low word is read (R495). -/
  shadow : Tab Word := []
  /-- values written while a step is open that wait for the completion of the step or the next gate (CFG_STASH_SIZE, CFG_STASH_SPILL_*, CFG_SCHED_*, CNT_SCHED_STEP), by address (R261). -/
  late : Tab Word := []
  /-- SOSC time of the last scrub of the triplicated fields (R497). -/
  scrubAt : Nat := 0
  deriving DecidableEq, Repr, Inhabited

/-- One slab entry CFG_SLAB_s (Table 13.17), 64 bits, field by field. -/
structure Slab where
  /-- BASE [63:40] (R375). -/
  base : BitVec 24 := 0
  /-- SIZE [39:36] (R375). -/
  size : BitVec 4 := 0
  /-- PLOT [35:30], RWT; copies B and C in plotB, plotC (R375). -/
  plot : BitVec 6 := 0
  /-- second copy of PLOT (R497). -/
  plotB : BitVec 6 := 0
  /-- third copy of PLOT (R497). -/
  plotC : BitVec 6 := 0
  /-- PEER_NODE [29:20] (R375). -/
  peerNode : BitVec 10 := 0
  /-- GEN [19:12] (R357). -/
  gen : BitVec 8 := 0
  /-- CLAIMED [2] (R361). -/
  claimed : Bool := false
  /-- OWNER [1:0] (R358). -/
  owner : BitVec 2 := 0
  deriving DecidableEq, Repr, Inhabited

/-- One HBM stack Hn and its controller. -/
structure Stack where
  /-- stack trained in this bring-up (R474). -/
  trained : Bool := false
  /-- CNT_HBM_CORR, corrected reads (R17). -/
  corr : Nat := 0
  /-- CNT_HBM_UNCORR, uncorrectable reads (R18). -/
  uncorr : Nat := 0
  /-- next 32-byte unit of patrol scrub (R19). -/
  scrubNext : Nat := 0
  /-- scrub passes completed (R19). -/
  scrubPass : Nat := 0
  /-- HBM_EN + 2 * HBM_PASS_H of the scrub pass that runs (R26). -/
  scrubSet : Nat := 0
  /-- for each row with a corrected error, 1 + the scrub pass in which it last occurred (R20). -/
  rowErr : Tab Nat := []
  /-- rows waiting for repair (R20). -/
  candidates : List Nat := []
  /-- row under repair (R21). -/
  repair : Option Nat := none
  /-- repair buffer: the bytes copied from the row (R21). -/
  repairBuf : List (Nat × Byte) := []
  /-- 4 KiB pages that the row under repair touches; requests to them stall (R21). -/
  repairPages : List Nat := []
  /-- SOSC time at which the row repair began (R21). -/
  repairSince : Nat := 0
  /-- last temperature read (R434). -/
  tempC : Nat := 0
  /-- SOSC time of the last temperature reading (R434). -/
  tempAt : Nat := 0
  /-- refreshing at twice the normal rate (R434). -/
  doubleRefresh : Bool := false
  /-- requests gated to half the bandwidth (R434). -/
  halved : Bool := false
  /-- in self-refresh (Fallow) (R480). -/
  selfRefresh : Bool := false
  deriving DecidableEq, Repr, Inhabited

/-- Device memory of the sixteen stacks; address = stack * 96 GiB + offset in the stack. -/
structure Hbm where
  /-- bytes of every stack; an unlisted byte reads as zero (clean page) (R386). -/
  mem : Memory := []
  /-- clean-page map, as the ascending list of 4 KiB pages that are NOT clean (R386). -/
  dirty : List Nat := []
  /-- poisoned 32-byte units (R18). -/
  poison : List Nat := []
  /-- retired 4 KiB pages (R22). -/
  retired : List Nat := []
  /-- pages marked for retirement while a plot holds them (R22). -/
  marked : List Nat := []
  /-- the sixteen stacks (R16). -/
  stackTab : Tab Stack := []
  deriving DecidableEq, Repr, Inhabited

/-- One tile-memory bank of 4 MiB. -/
structure Bank where
  /-- SOSC times of the corrected errors of the last hour (R25). -/
  corrTimes : List Nat := []
  /-- poisoned 32-byte halves (R23). -/
  poison : List Nat := []
  /-- next line of the bank's scrub (R24). -/
  scrubNext : Nat := 0
  /-- TILE_EN + 2 * TILE_PASS_S of the scrub pass that runs (R26). -/
  scrubSet : Nat := 0
  /-- bank retired (R25). -/
  retired : Bool := false
  /-- bank to be retired when its plot releases it (R25). -/
  marked : Bool := false
  /-- flash-clears of the bank since power-on (R382). -/
  cleared : Nat := 0
  deriving DecidableEq, Repr, Inhabited

/-- One die-to-die channel: 0-13 row, 14-21 opposite, 22-29 verge VD0-VD7, 30 CD-GD0, 31 CD-GD8. -/
structure Channel where
  /-- retired (group, lane) pairs (R12). -/
  lanesRetired : List (Nat × Nat) := []
  /-- retired groups (R13). -/
  groupsRetired : List Nat := []
  /-- channel retired (R13). -/
  retired : Bool := false
  /-- (group, lane, SOSC time) of the parity errors of the last second (R12). -/
  parity : List (Nat × Nat × Nat) := []
  /-- groups whose lane-by-lane retest is due (R11). -/
  retest : List Nat := []
  /-- transfers rejected and repeated (R11). -/
  rejected : Nat := 0
  deriving DecidableEq, Repr, Inhabited

/-- The dies of the package. -/
structure Package where
  /-- 1,024 tile-memory banks, key 64 * grove die + bank (R23). -/
  banks : Tab Bank := []
  /-- CNT_TILE_CORR of each grove die (R23). -/
  tileCorr : Tab Nat := []
  /-- 32 die-to-die channels (R10). -/
  channels : Tab Channel := []
  /-- grove dies fenced out (R15). -/
  fenced : List Nat := []
  /-- grove dies that have qualified in this bring-up (R474). -/
  qualified : List Nat := []
  /-- mesh reroutes by firmware (R14). -/
  reroutes : Nat := 0
  deriving DecidableEq, Repr, Inhabited

/-- One fault-log record (Table 17.5); its CRC-32 is `faultRecCrc` of the other fields. -/
structure FaultRec where
  /-- record sequence number, 32 bits (R455). -/
  seq : Nat := 0
  /-- CLK_SOSC_COUNT at the event, 64 bits (R455). -/
  time : Nat := 0
  /-- die 0-24, 0xFF for the whole device (R455). -/
  die : Nat := 0
  /-- fault-word bit (R455). -/
  bit : Nat := 0
  /-- decided class 0-4 (R455). -/
  cls : Nat := 0
  /-- KIND 0x0 to 0x5 (R455). -/
  kind : Nat := 0
  /-- plot named or 0xFF (R455). -/
  plot : Nat := 255
  /-- engine, port, lane, stack or core (R455). -/
  unit : Nat := 0
  /-- DETAIL, 64 bits (R455). -/
  detail : Nat := 0
  deriving DecidableEq, Repr, Inhabited

/-- One record of the lane-retirement table. -/
structure LaneRec where
  /-- sequence number (R28). -/
  seq : Nat := 0
  /-- 0 link lane, 1 die-to-die lane, 2 group, 3 channel, 4 port (R27). -/
  kind : Nat := 0
  /-- port or channel (R27). -/
  unit : Nat := 0
  /-- lane, or 32 * group + lane (R27). -/
  sub : Nat := 0
  /-- port retirement cause (Table 10.17) (R278). -/
  cause : Nat := 0
  /-- its CRC-32 verifies (R28). -/
  whole : Bool := true
  deriving DecidableEq, Repr, Inhabited

/-- One life-counter record. -/
structure LifeRec where
  /-- sequence number (R28). -/
  seq : Nat := 0
  /-- half-cycles of each die (R440). -/
  half : List Nat := []
  /-- life accumulator of each die, in 1/1600 units ((d/40)^2) (R440). -/
  life : List Nat := []
  /-- lifetime energy counter, µJ (R428). -/
  energy : Nat := 0
  /-- fault-log overwrite count (R32). -/
  overwrites : Nat := 0
  /-- its CRC-32 verifies (R28). -/
  whole : Bool := true
  deriving DecidableEq, Repr, Inhabited

/-- One firmware image slot as flash holds it (R408, R409); its state, SVN and confirmation sequence show in SEC_IMG_A and SEC_IMG_B. -/
structure ImageSlot where
  /-- 0 EMPTY, 1 VALID, 2 PENDING, 3 TRIAL, 4 BAD (R409). -/
  state : Nat := 0
  /-- SVN of the image, 0-64 (R408). -/
  svn : Nat := 0
  /-- confirmation sequence, 16 bits (R409). -/
  confirmSeq : Nat := 0
  /-- certificate chain leads to the fused key and the signature verifies (R408). -/
  chainOk : Bool := false
  /-- both part digests match (R408). -/
  digestsOk : Bool := false
  /-- SM3 measurement of the image header (R407). -/
  measurement : List Byte := []
  /-- bytes of the slot programmed so far, from its offset of Table 1.5 on (R27). -/
  bytes : List Byte := []
  deriving DecidableEq, Repr, Inhabited

/-- A firmware staging in progress. -/
structure Staging where
  /-- slot being written (R412). -/
  slot : Nat := 0
  /-- the image being staged (R412). -/
  image : ImageSlot := {}
  /-- 64 KiB sectors still to be programmed (R413). -/
  sectorsLeft : Nat := 0
  /-- ABORT taken, effective at the next sector boundary (R413). -/
  abort : Bool := false
  /-- the copy in firmware memory, what of it is not yet programmed (R412). -/
  bytes : List Byte := []
  deriving DecidableEq, Repr, Inhabited

/-- The 64 MiB serial NOR flash (Table 1.5). -/
structure Flash where
  /-- sequence number of the partition header in force (R409). -/
  headerSeq : Nat := 0
  /-- image slot A (R409). -/
  imgA : ImageSlot := {}
  /-- image slot B (R409). -/
  imgB : ImageSlot := {}
  /-- lane-retirement table, first sector set (R28). -/
  lanesEven : List LaneRec := []
  /-- lane-retirement table, alternate sector set (R28). -/
  lanesOdd : List LaneRec := []
  /-- life-counter records, newest first (R31). -/
  life : List LifeRec := []
  /-- fault log, newest first, at most 425,984 records (R32). -/
  log : List FaultRec := []
  /-- retired HBM pages recorded in the fault log (R22). -/
  pages : List Nat := []
  /-- retired tile-memory banks recorded in the fault log (R25). -/
  banks : List Nat := []
  /-- fault-log overwrite count (R32). -/
  overwrites : Nat := 0
  /-- next record sequence number (R28). -/
  nextSeq : Nat := 0
  /-- lane-retirement records waiting (R30). -/
  pendLane : List LaneRec := []
  /-- the first copy of the oldest waiting lane-retirement record stands in flash (R28). -/
  laneFirst : Bool := false
  /-- fault-log records waiting (R30). -/
  pendLog : List FaultRec := []
  /-- life-counter records waiting (R30). -/
  pendLife : List LifeRec := []
  /-- SOSC time of the last life-counter append (R31). -/
  lastLife : Option Nat := none
  /-- system-root certificate (R404). -/
  root : Option (List Byte) := none
  /-- manufacturing chain (R404). -/
  manufChain : List Byte := []
  /-- installation chain (R404). -/
  instChain : List Byte := []
  /-- firmware configuration: manager candidate, in place of MGR_SEL (R311). -/
  cfgManager : Option Bool := none
  /-- firmware configuration: device identity of the standby to name (R312). -/
  cfgStandby : Option Nat := none
  /-- firmware configuration: REFCLK mode, 0 common, 1 SRNS, 2 SRIS (R325). -/
  cfgRefMode : Nat := 0
  /-- firmware configuration: VID and PCP of the VLAN tag of Xasin frames (R290). -/
  cfgVlan : Option Nat := none
  /-- staging in progress (R412). -/
  staging : Option Staging := none
  deriving DecidableEq, Repr, Inhabited

/-- One multiplying loop: 0 PCIe, 1-4 HBM groups, 5-12 SerDes VD0-VD7, 13 management, 14 auxiliary. -/
structure Loop where
  /-- SOSC time of the last loss of lock (R48). -/
  lastLoss : Option Nat := none
  /-- its reference shows no edges (R48). -/
  refLost : Bool := false
  /-- its islands have stopped at a word boundary (R48). -/
  islandStopped : Bool := false
  deriving DecidableEq, Repr, Inhabited

/-- A frequency change that has not started; target 0-3 is HBM loop g, 4+p is port p. -/
structure FreqReq where
  /-- HBM loop or port (R47). -/
  target : Nat := 0
  /-- SOSC time of the request (R426). -/
  since : Nat := 0
  deriving DecidableEq, Repr, Inhabited

/-- Loops, dividers and frequency changes. -/
structure Clocks where
  /-- the fifteen loops (R48). -/
  loops : Tab Loop := []
  /-- references without edges: 0 XIN0, 1 XIN1, 2 REFCLK (R48). -/
  refDown : List Nat := []
  /-- frequency changes requested and not started (R426). -/
  wanted : List FreqReq := []
  /-- targets whose frequency change is in progress (R47). -/
  active : List Nat := []
  /-- pin-rate code in force on each HBM loop (R47). -/
  hbmRate : Tab Nat := []
  /-- spread in force on each HBM loop: 0 off, else 1 + DEPTH * 4 + RATE (R49). -/
  hbmSpread : Tab Nat := []
  /-- BRIDGE_DIV in force (R51). -/
  divBridge : Nat := 2
  /-- MGT_BUS_DIV in force (R51). -/
  divMgt : Nat := 8
  /-- HBM_CTL_DIV in force in the controller of each stack (R51). -/
  divHbm : List Nat := List.replicate 16 1
  /-- dies whose SOSC check has failed (R43). -/
  soscBad : List Nat := []
  /-- SOSC time at which the last droop response cleared (R426). -/
  lastDroop : Option Nat := none
  deriving DecidableEq, Repr, Inhabited

/-- The checks' counts of one encoded operand of a tile (Table 5.3). -/
structure Counts where
  /-- underflow blocks (R122). -/
  uf : Nat := 0
  /-- blocks neither zero nor non-finite (R122). -/
  ufDen : Nat := 0
  /-- saturated elements (R122). -/
  sat : Nat := 0
  /-- non-zero finite elements (R122). -/
  satDen : Nat := 0
  /-- lost elements (R122). -/
  lost : Nat := 0
  /-- non-zero finite elements outside underflowed blocks (R122). -/
  lostDen : Nat := 0
  /-- non-finite input elements (R122). -/
  nf : Nat := 0
  deriving DecidableEq, Repr, Inhabited

/-- What forming an operand counted (R122, R126, R140). -/
structure OpCount where
  /-- the counts of the checks (R122). -/
  counts : Counts := {}
  /-- largest finite magnitude encoded, in units of 2⁻¹⁴⁹ (R65). -/
  amax : Nat := 0
  /-- non-finite elements read (R140). -/
  nf : Nat := 0
  /-- unused codes read (R62). -/
  ssat : Nat := 0
  deriving DecidableEq, Repr, Inhabited

/-- An operand slice in array-ready form (R93): rows of values in units of 1 ÷ den. -/
structure Opnd where
  /-- format in which it travels (R93). -/
  fmt : Nat := 0
  /-- denominator of its values (R101). -/
  den : Nat := 1
  /-- values by row along k (R94). -/
  rows : List (List Val) := []
  /-- per narrow block of 32, whether it is a zero block (R84). -/
  zero : List (List Bool) := []
  deriving DecidableEq, Repr, Inhabited

/-- One engine of a grove die: 0-2 MA0-MA2, 3-6 VE0-VE3, 7 layout, 8 stash. -/
structure Engine where
  /-- array: (ring, descriptor, tile) it holds (R93). -/
  tile : Option (Nat × Nat × Nat) := none
  /-- array: descriptor whose first B load it has paid (R97). -/
  loaded : Option (Nat × Nat) := none
  /-- array: the active B registers (R97). -/
  active : Opnd := {}
  /-- array: the shadow B registers: pass, slice, and what its encoding counted (R97). -/
  shadow : Option (Nat × Opnd × OpCount) := none
  /-- array: tiles taken while both directions had work, modulo 3 (R112). -/
  took : Nat := 0
  /-- engine resets (R40). -/
  resets : Nat := 0
  /-- a tile or descriptor replays after this engine's reset (R463). -/
  replaying : Bool := false
  /-- vector engine: seedings of its 512 generators (R171). -/
  seeds : Nat := 0
  /-- vector engine: its 512 lane generators; none before the first seeding (R170). -/
  gens : List (BitVec 64) := []
  /-- vector engine: draws of each generator since its seeding (R171). -/
  drawn : Nat := 0
  deriving DecidableEq, Repr, Inhabited

/-- One tile of a MATMUL (R92). -/
structure Tile where
  /-- first row (R92). -/
  row0 : Nat := 0
  /-- first column (R92). -/
  col0 : Nat := 0
  /-- rows, at most 256 (R92). -/
  rows : Nat := 0
  /-- columns, at most 256 (R92). -/
  cols : Nat := 0
  /-- first k of its share (R91). -/
  k0 : Nat := 0
  /-- length of its K share (R91). -/
  klen : Nat := 0
  /-- array that holds it, 3 * grove die + m (R93). -/
  array : Option Nat := none
  /-- counted in T (R134). -/
  started : Bool := false
  /-- ladder position P; 0 for a tile that quantises no operand (R128). -/
  pos : Nat := 0
  /-- passes issued in this run (R92). -/
  passes : Nat := 0
  /-- runs begun (R130). -/
  run : Nat := 0
  /-- demand of the failed run, waiting for an answer (R129). -/
  demand : Option Nat := none
  /-- answer of the budget counter: new P, with 16 added for a refusal (R135). -/
  granted : Option Nat := none
  /-- set aside during Sapling service (R477). -/
  setAside : Bool := false
  /-- run at a fallback rung under R136, not repeated again (R136). -/
  last : Bool := false
  /-- rows of A of the pass in flight, in tile memory (R96). -/
  ready : Opnd := {}
  /-- combining stack of every output element: level, sums row by row, non-finite values produced in forming them (R100). -/
  stack : List (Nat × List Word × Nat) := []
  /-- counts of A in this run (R122). -/
  cntA : OpCount := {}
  /-- counts of B in this run (R122). -/
  cntB : OpCount := {}
  /-- results written, or partial handed over (R99). -/
  done : Bool := false
  deriving DecidableEq, Repr, Inhabited

/-- A MATMUL in execution. -/
structure MatJob where
  /-- its ring (R85). -/
  ring : Nat := 0
  /-- its index in the ring (R85). -/
  idx : Nat := 0
  /-- its tiles, row-major, K shares of one tile adjacent (R92). -/
  tiles : List Tile := []
  /-- R65 applied to A's scale record by this descriptor (R90). -/
  rebasedA : Bool := false
  /-- R65 applied to B's scale record by this descriptor (R90). -/
  rebasedB : Bool := false
  /-- R65 applied to C's scale record by this descriptor (R65). -/
  rebasedC : Bool := false
  /-- A's width record as read at issue (R119). -/
  widthA : BitVec 128 := 0
  /-- B's width record as read at issue (R119). -/
  widthB : BitVec 128 := 0
  /-- earlier values of a narrow C under ACCUM, read before the full write re-bases it (R86). -/
  oldC : List Word := []
  /-- tile repeats, the completion's VALUE (R352). -/
  repeats : Nat := 0
  /-- Y32 partials on their way: (tile group, share, values) (R103). -/
  partials : List (Nat × Nat × List Word) := []
  /-- per tile group, the combining stack of the vector engine: level, sums, non-finite values produced in forming them (R157). -/
  combine : Tab (List (Nat × List Word × Nat)) := []
  /-- per tile group, partials that have arrived (R157). -/
  arrived : Tab Nat := []
  deriving DecidableEq, Repr, Inhabited

/-- A descriptor whose split sums or winners are still being combined (NORM_BWD; REDUCE on arrays). -/
structure VecJob where
  /-- its ring (R162). -/
  ring : Nat := 0
  /-- its index (R162). -/
  idx : Nat := 0
  /-- partials that have not arrived: share, and dγ then dβ, or sums, or winning values then indices (R162). -/
  shares : List (Nat × List Word) := []
  /-- combining stack: level, values, non-finite values produced in forming them (R157). -/
  stack : List (Nat × List Word × Nat) := []
  /-- partials in all (R162). -/
  total : Nat := 0
  deriving DecidableEq, Repr, Inhabited

/-- One entry of a sequence slot's stack (R192). -/
structure StashEntry where
  /-- TAG (R192). -/
  tag : Nat := 0
  /-- stored format (R192). -/
  fmt : Nat := 0
  /-- rows (R192). -/
  rows : Nat := 0
  /-- columns of the tensor (R192). -/
  cols : Nat := 0
  /-- S_ENC at the push (R192). -/
  sEnc : Word := 0
  /-- GEN of the tensor at the push (R192). -/
  gen : BitVec 8 := 0
  /-- header flag bits [14:10] of each burst of the entry (R192). -/
  flags : List Nat := []
  /-- row bytes, or the blocks of a narrow entry without burst headers (R192). -/
  data : List Byte := []
  /-- bytes occupied: data rounded up to 256 plus 64 (R192). -/
  size : Nat := 0
  /-- in the spill extent (R193). -/
  spilled : Bool := false
  /-- stack that holds it, or byte offset in the spill extent (R193). -/
  place : Nat := 0
  deriving DecidableEq, Repr, Inhabited

/-- A tensor record (Table 13.3) with its scale record (Table 3.6) and width record (Table 5.2). -/
structure Tensor where
  /-- ADDR, plot-relative, 64 bits (R350). -/
  addr : Nat := 0
  /-- ROWS, 32 bits (R350). -/
  rows : Nat := 0
  /-- COLS, 24 bits (R350). -/
  cols : Nat := 0
  /-- FORMAT, 4 bits (R350). -/
  fmt : Nat := 0
  /-- VALID (R350). -/
  valid : Bool := false
  /-- SCALED (R350). -/
  scaled : Bool := false
  /-- S_ENC (R64). -/
  sEnc : Word := 0
  /-- S_NEXT (R64). -/
  sNext : Word := 0
  /-- AMAX (R64). -/
  amax : Word := 0
  /-- FLOOR_D (R64). -/
  floorD : BitVec 8 := 0
  /-- GEN (R64). -/
  gen : BitVec 8 := 0
  /-- FLAGS (R64). -/
  flags : BitVec 8 := 0
  /-- width record, as given (R119). -/
  width : BitVec 128 := 0
  deriving DecidableEq, Repr, Inhabited

/-- One entry of a plot's routine table. -/
structure Routine where
  /-- routine number (R396). -/
  num : Nat := 0
  /-- glade address of the image it was loaded from (R397). -/
  slab : Nat := 0
  /-- the image copied into firmware memory (R397). -/
  code : List Byte := []
  /-- bytes of zero-filled data (R397). -/
  dataLen : Nat := 0
  /-- entry offset (R397). -/
  entry : Nat := 0
  deriving DecidableEq, Repr, Inhabited

/-- One fetched descriptor of a ring that has not retired. -/
structure Entry where
  /-- free-running index (R343). -/
  idx : Nat := 0
  /-- the 64 bytes fetched (R346). -/
  raw : BitVec 512 := 0
  /-- 0 fetched, 1 at the head (timer running), 2 issued, 3 finished (R355). -/
  stage : Nat := 0
  /-- completion code once finished (R354). -/
  status : BitVec 8 := 0
  /-- completion VALUE (R352). -/
  value : Word := 0
  /-- admitted as a member of its plot's step (R181). -/
  member : Bool := false
  /-- SOSC time at which its descriptor timer, once started, expires (R355). -/
  deadline : Option Nat := none
  /-- replayed once already (epoch or engine reset) (R373). -/
  replayed : Bool := false
  /-- order of its admission to the step, from 1 (R182). -/
  order : Nat := 0
  /-- STASH_PUSH: entries placed, linked at retirement: (slot, entry) (R198). -/
  links : List (Nat × StashEntry) := []
  /-- STASH_POP: slots whose top entry is released at retirement (R198). -/
  pops : List Nat := []
  /-- LOAD: routine registered at retirement (R397). -/
  register : Option Routine := none
  /-- COPY of tensor records: records that take effect at retirement (R351). -/
  records : List (Nat × Tensor) := []
  /-- COPY with FLIP of a local slab: (slab, new owner), at retirement (R361). -/
  flip : Option (Nat × Nat) := none
  /-- COPY: source bytes that have arrived, by byte offset (R360). -/
  buf : List (Nat × List Byte) := []
  /-- UPDATE outside a step: the region records as read at the head of the ring (R245). -/
  regions : Option (List (BitVec 512)) := none
  deriving DecidableEq, Repr, Inhabited

/-- The hidden state of a ring. -/
structure Ring where
  /-- descriptors fetched and not retired, oldest first (R346). -/
  entries : List Entry := []
  /-- descriptors fetched since enable (R346). -/
  fetched : Nat := 0
  /-- energy fraction carried, 2^-32 µJ (R431). -/
  frac : Nat := 0
  deriving DecidableEq, Repr, Inhabited

/-- The update phase of a step (R184). -/
structure Gate where
  /-- H_RTAB of the gate (R242). -/
  rtab : Nat := 0
  /-- SFIRST (R242). -/
  first : Nat := 0
  /-- SCOUNT (R242). -/
  count : Nat := 0
  /-- copies of the region records (R242). -/
  recs : List (BitVec 512) := []
  /-- schedule rate, Y32 (R260). -/
  rate : Word := 0
  /-- regions committed in the step (R250). -/
  committed : List Nat := []
  /-- commit has begun (R187). -/
  begun : Bool := false
  /-- status with which every UPDATE member retires when the phase is skipped (R185). -/
  skip : Option (BitVec 8) := none
  deriving DecidableEq, Repr, Inhabited

/-- One open step of a plot. -/
structure Step where
  /-- STEP_NUM (R177). -/
  num : Word := 0
  /-- STASH_BUDGET, 64 KiB units (R177). -/
  budget : Nat := 0
  /-- SLOT_FIRST (R177). -/
  slotFirst : Nat := 0
  /-- SLOT_COUNT (R177). -/
  slotCount : Nat := 0
  /-- SKIP_NF (R177). -/
  skipNf : Bool := false
  /-- BARRIER (R177). -/
  barrier : Bool := false
  /-- REC_ADDR (R177). -/
  recAddr : Nat := 0
  /-- the function of the ring of its STEP_OPEN, that its record names (R177). -/
  recFunc : Nat := 0
  /-- opened refused (R180). -/
  refused : Bool := false
  /-- the closing descriptor is admitted (R182). -/
  closing : Bool := false
  /-- SOSC time at which the step timer expires (R187). -/
  deadline : Nat := 0
  /-- T (R134). -/
  tiles : Nat := 0
  /-- X (R134). -/
  repeats : Nat := 0
  /-- escalation budget exhausted (R134). -/
  exhausted : Bool := false
  /-- tiles run at a fallback rung (R188). -/
  fallback : Nat := 0
  /-- non-finite total (R140). -/
  nonfinite : Nat := 0
  /-- members retired (R188). -/
  members : Nat := 0
  /-- members admitted (R182). -/
  admitted : Nat := 0
  /-- largest HBM stash level, bytes (R188). -/
  stashPeak : Nat := 0
  /-- largest spill level, bytes (R188). -/
  spillPeak : Nat := 0
  /-- plot energy counter at admission, µJ (R188). -/
  energy0 : Nat := 0
  /-- FLAGS of the step record (R188). -/
  flags : BitVec 16 := 0
  /-- ring of the first failed member (R188). -/
  failRing : Nat := 0xFFFF
  /-- its opcode (R188). -/
  failOpcode : Nat := 0
  /-- its index (R188). -/
  failIndex : Nat := 0
  /-- a member failed with FROZEN_STRICT (R189). -/
  frozenStrict : Bool := false
  /-- members not yet issued retire with STEP_ABORTED (R193). -/
  aborted : Bool := false
  /-- step timeout before any commit (R187). -/
  timedOut : Bool := false
  /-- this device's barrier report has been sent (R142). -/
  report : Bool := false
  /-- step barrier answer: some true when a device failed or skipped (R185). -/
  answer : Option Bool := none
  /-- summed non-finite total of the barrier answer (R142). -/
  totalNf : Nat := 0
  /-- update phase (R184). -/
  gate : Option Gate := none
  /-- start mark: entries in each slot's stack at admission (R183). -/
  start : Tab Nat := []
  /-- handles of narrow tensors the step has written (R66). -/
  narrow : List Nat := []
  /-- order of admission of the update gate (R184). -/
  gateAt : Option Nat := none
  deriving DecidableEq, Repr, Inhabited

/-- One loop-kernel core 4-31. -/
structure Core where
  /-- (ring, index) of the CORE_CALL it runs (R200). -/
  job : Option (Nat × Nat) := none
  /-- (plot, routine) whose code is in its TCM (R399). -/
  resident : Option (Nat × Nat) := none
  /-- bytes of its TCM that streams have put there, zero elsewhere; code, monitor and argument block have fields of their own (R392). -/
  tcm : Memory := []
  /-- corrected TCM errors (R392). -/
  corr : Nat := 0
  /-- argument block: the passed handles with their records (R399). -/
  args : List (Nat × Tensor) := []
  /-- argument block: INLINE (R399). -/
  inline : BitVec 64 := 0
  /-- argument block: the core's index within the call (R399). -/
  index : Nat := 0
  /-- argument block: CORES (R399). -/
  cores : Nat := 0
  deriving DecidableEq, Repr, Inhabited

/-- A plot reset in progress (Table 14.5). -/
structure PlotReset where
  /-- with clearing (R384). -/
  clear : Bool := false
  /-- caused by an FLR (R190). -/
  flr : Bool := false
  /-- precedes a release (R384). -/
  release : Bool := false
  /-- step 6 done (R384). -/
  drained : Bool := false
  /-- SOSC time of step 1 (R384). -/
  startedAt : Nat := 0
  deriving DecidableEq, Repr, Inhabited

/-- The hidden state of a plot (its leases, state and configuration are registers). -/
structure Plot where
  /-- open step (R178). -/
  step : Option Step := none
  /-- last STEP_NUM opened since the plot was bound (R179). -/
  lastNum : Option Word := none
  /-- handle table, 65,535 records (R350). -/
  handles : Tab Tensor := []
  /-- routine table, at most 64 (R396). -/
  routines : List Routine := []
  /-- reset in progress (R384). -/
  reset : Option PlotReset := none
  /-- a C2 fault arrived while BINDING (R385). -/
  c2Binding : Bool := false
  /-- firebreak masks of the plot are written: its leases are its own at every target (R388). -/
  masks : Bool := false
  /-- HBM stash level, bytes (R192). -/
  level : Nat := 0
  /-- bytes of the stash extent of each stack in use (R192). -/
  stashUse : Tab Nat := []
  /-- spill level, bytes (R193). -/
  spill : Nat := 0
  /-- repeat requests (ring, descriptor, tile) in order of arrival (R135). -/
  requests : List (Nat × Nat × Nat) := []
  /-- energy fraction carried, 2^-32 µJ (R429). -/
  frac : Nat := 0
  /-- USER of the last bind (R381). -/
  boundUser : Word := 0
  deriving DecidableEq, Repr, Inhabited

/-- What arrives over a schedule: a block record, a list, a row or the close of a stream; also held for a future epoch (R225). -/
structure XRecord where
  /-- 0 dense record, 1 list, 2 final record, 3 final list, 4 dispatched row, 5 close of a dispatch stream, 6 returned row (R211). -/
  kind : Nat := 0
  /-- port it came over (R225). -/
  port : Nat := 0
  /-- sending node (R225). -/
  src : Nat := 0
  /-- epoch of the flit (R225). -/
  epoch : Nat := 0
  /-- LEN and MODE, carried by a sender's first record (R206). -/
  head : Option (Nat × Nat) := none
  /-- block, chunk or row of the destination (R211). -/
  block : Nat := 0
  /-- header of a record or list; rank of a row (R211). -/
  header : Nat := 0
  /-- token index of a row (R232). -/
  token : Nat := 0
  /-- payload: codes, Y32 values, or indices and values in turn (R211). -/
  codes : List Word := []
  deriving DecidableEq, Repr, Inhabited

/-- What an adder holds of one block or chunk on its way. -/
structure XAcc where
  /-- dense: the 32 sums in Y32 (R216). -/
  sums : List Word := []
  /-- sparse: the merged list, (index, value) (R221). -/
  list : List (Nat × Word) := []
  /-- largest incoming EXP (R216). -/
  exp : Nat := 0
  /-- an escape record has come in (R218). -/
  esc : Bool := false
  /-- RESCALED has come in (R217). -/
  resc : Bool := false
  /-- schedule positions whose records have come in (R216). -/
  got : List Nat := []
  deriving DecidableEq, Repr, Inhabited

/-- An EXCHANGE, DISPATCH or COMBINE in execution. -/
structure XJob where
  /-- its ring (R203). -/
  ring : Nat := 0
  /-- its index (R203). -/
  idx : Nat := 0
  /-- its plot (R203). -/
  plot : Nat := 0
  /-- opcode 0x0A, 0x0B or 0x0C (R203). -/
  op : Nat := 0
  /-- epoch (R225). -/
  epoch : Nat := 0
  /-- agreed exponent byte of each block (R214). -/
  exps : List Nat := []
  /-- what the adders hold, by block (dense) or chunk (sparse) (R216). -/
  accs : Tab XAcc := []
  /-- dense: final sums of each block (R215). -/
  finals : Tab (List Word) := []
  /-- blocks or chunks whose final sums are in H_DST (R219). -/
  written : List Nat := []
  /-- bytes of H_DST before the epoch (R230). -/
  dstOld : List Byte := []
  /-- epoch failed; some true for a seal failure (R230). -/
  failed : Option Bool := none
  /-- replayed once (R231). -/
  replayed : Bool := false
  /-- dispatch: nodes that have closed their streams (R235). -/
  closed : List Nat := []
  /-- dispatch into a narrow tensor: rows that have arrived, stored together at the end (R65). -/
  rows : Tab (List Word) := []
  /-- combine: sums of w × y that have arrived, per token (R237). -/
  acc : Tab (List Word) := []
  /-- combine: sum of weights that have arrived, per token (R237). -/
  wsum : Tab Word := []
  /-- combine: rows still to arrive (R237). -/
  expect : Nat := 0
  deriving DecidableEq, Repr, Inhabited

/-- One entry of the schedule table. -/
structure Sched where
  /-- node numbers in order (R205). -/
  nodes : List Nat := []
  /-- last epoch completed on the schedule (R226). -/
  last : Option Nat := none
  /-- current epoch on the schedule (R225). -/
  cur : Option Nat := none
  /-- exchange or dispatch in execution (R203). -/
  job : Option XJob := none
  /-- records of future epochs, at most one epoch for each port (R225). -/
  held : List XRecord := []
  /-- plot of the current epoch (R225). -/
  plot : Nat := 0
  deriving DecidableEq, Repr, Inhabited

/-- One entry of the routing table of expert dispatch. -/
structure Route where
  /-- worker device (R232). -/
  node : Nat := 0
  /-- ports of the path to it (R232). -/
  path : List Nat := []
  /-- that device's LOCAL_EXP (R233). -/
  localExp : Nat := 0
  deriving DecidableEq, Repr, Inhabited

/-- Tables that the manager writes, and exchange state. -/
structure Fabric where
  /-- schedule table, 256 entries (R205). -/
  scheds : Tab Sched := []
  /-- membership epoch of the schedule table (R313). -/
  schedEpoch : Nat := 0
  /-- routing table, 512 entries in use (R232). -/
  routing : Tab Route := []
  /-- membership epoch of the routing table (R313). -/
  routingEpoch : Nat := 0
  /-- route table, 1,024 entries: local ports that reach the node (R297). -/
  routes : Tab (List Nat) := []
  /-- route table: for a node reached over Ethernet, the MAC address of its port of each number (R297). -/
  routeMacs : Tab (List (Nat × Nat)) := []
  /-- membership epoch of the route table (R313). -/
  routeEpoch : Nat := 0
  /-- copse of each node, as the schedule tables give it (R205). -/
  copses : Tab Nat := []
  /-- table writes that wait for a change of mode to end (R464). -/
  waiting : List (BitVec 32 × TableWrite) := []
  /-- ports on the vector-engine path (R172). -/
  pathVe : List Nat := []
  /-- ports that change path at the next epoch boundary (true: to the vector engine) (R175). -/
  pathWant : List (Nat × Bool) := []
  /-- ports whose link adder has a latched fault (R172). -/
  adderFault : List Nat := []
  deriving DecidableEq, Repr, Inhabited

/-- A flit in the retry buffer. -/
structure RetryFlit where
  /-- SEQ, 12 bits (R271). -/
  seq : Nat := 0
  /-- TYPE (R267). -/
  typ : Nat := 0
  /-- TAG field with LAST and FIRST (R267). -/
  tag : Nat := 0
  /-- destination node (R267). -/
  dst : Nat := 0
  /-- CTX (R267). -/
  ctx : Nat := 0
  /-- payload bytes as first formed (R219). -/
  payload : List Byte := []
  /-- sent before, and waiting to be sent again by go-back-N with its SEQ (R272). -/
  old : Bool := false
  deriving DecidableEq, Repr, Inhabited

/-- Admission state of a port (Table 10.5). -/
structure Admission where
  /-- messages taken, 1 to 7 (R282). -/
  seen : List Nat := []
  /-- partner's chain verified and not revoked (R283). -/
  certOk : Bool := false
  /-- partner's PROOF verified (R283). -/
  proofOk : Bool := false
  /-- partner's node number (R282). -/
  node : Nat := 0
  /-- partner's port number (R282). -/
  port : Nat := 0
  /-- partner's ASSIGNED bit (R282). -/
  assigned : Bool := false
  /-- partner's mode capabilities (R282). -/
  modes : Nat := 0
  /-- own nonce (R282). -/
  nonce : BitVec 256 := 0
  /-- partner's nonce (R282). -/
  peerNonce : BitVec 256 := 0
  /-- own ephemeral private key (R282). -/
  eph : BitVec 256 := 0
  /-- partner's ephemeral public key (R282). -/
  peerKey : BitVec 512 := 0
  /-- the messages so far, in order, which PROOF and FINISHED cover (R282). -/
  log : List Byte := []
  /-- back-off after the next failure, ms (R284). -/
  backoffMs : Nat := 100
  /-- this end is A, the one with the lower device identity (R282). -/
  first : Bool := false
  /-- SOSC time at which the exchange began (R283). -/
  since : Option Nat := none
  /-- SOSC time at which the back-off of a failed admission ends (R284). -/
  retryAt : Option Nat := none
  deriving DecidableEq, Repr, Inhabited

/-- Link-layer state of one port, or of one path in Ethernet mode (R271 to R273, R293). -/
structure LinkSide where
  /-- SEQ of the next sequenced flit to send (R271). -/
  nextSeq : Nat := 0
  /-- next SEQ expected (R272). -/
  expected : Nat := 0
  /-- flits formed and not yet sent, for want of credit, room or service (R273). -/
  queue : List RetryFlit := []
  /-- retry buffer, oldest first, at most 2,047 unacknowledged (R271). -/
  buffer : List RetryFlit := []
  /-- credits held (R273). -/
  credits : Nat := 1024
  /-- a NAK is outstanding (R272). -/
  nakSent : Bool := false
  /-- frame counter of control frames sent (R285). -/
  ctrlTx : Nat := 0
  /-- last frame counter accepted (R285). -/
  ctrlRx : Option Nat := none
  /-- session key slots hold keys (R403). -/
  keys : Bool := false
  /-- SOSC times of the retries attributed to the path or port (R275). -/
  retryTimes : List Nat := []
  /-- SOSC time at which the link retry timeout of the unacknowledged flits passes (R272). -/
  retryDue : Nat := 0
  /-- SOSC time at which the link retry timeout of the NAK sent passes (R272). -/
  nakDue : Nat := 0
  /-- Ethernet: credits that the remote end holds of the port's receive buffer (R293). -/
  granted : Nat := 0
  /-- control key of this end (R282). -/
  txCtrl : BitVec 256 := 0
  /-- control key of the partner (R282). -/
  rxCtrl : BitVec 256 := 0
  /-- seal key of this end (R282). -/
  txSeal : BitVec 256 := 0
  /-- seal key of the partner (R282). -/
  rxSeal : BitVec 256 := 0
  /-- admission on this link (R282). -/
  adm : Admission := {}
  deriving DecidableEq, Repr, Inhabited

/-- A peer transfer arriving. -/
structure Put where
  /-- sender's node (R361). -/
  src : Nat := 0
  /-- tag (R361). -/
  tag : Nat := 0
  /-- port (R361). -/
  port : Nat := 0
  /-- slab claimed (R361). -/
  slab : Nat := 0
  /-- glade address of the first byte (R361). -/
  addr : Nat := 0
  /-- bytes announced (R361). -/
  len : Nat := 0
  /-- bytes received, not visible before the seal (R286). -/
  data : List Byte := []
  /-- NEW_OWNER when FLIP is set (R361). -/
  flip : Option Nat := none
  deriving DecidableEq, Repr, Inhabited

/-- One port Pp. -/
structure Port where
  /-- link layer of a native port (R271). -/
  link : LinkSide := {}
  /-- link layers of an Ethernet-mode port, by remote node; at most 1,024 (R293). -/
  paths : Tab LinkSide := []
  /-- retired lanes 0-3 (R276). -/
  lanesRetired : List Nat := []
  /-- (lane, SOSC time) of attributed retries (R275). -/
  laneRetries : List (Nat × Nat) := []
  /-- per lane, 1 + SOSC time since which its error rate has stayed above the threshold (R276). -/
  serHigh : Tab Nat := []
  /-- place of the next flit among the five that two codewords carry (R270). -/
  fecPos : Nat := 0
  /-- the codeword in which the next flit begins is uncorrectable (R270). -/
  fecBad : Bool := false
  /-- symbols in error of each lane in the present window (R270). -/
  fecErrs : Tab Nat := []
  /-- symbols received by each lane in the present window (R270). -/
  fecSyms : Tab Nat := []
  /-- SOSC time at which the present window began (R270). -/
  serAt : Nat := 0
  /-- SOSC times of the retrains of the last hour (R276). -/
  retrains : List Nat := []
  /-- SOSC times of the retrains of the last hour for a stalled or misbehaving partner (R288). -/
  stalls : List Nat := []
  /-- SOSC times of the losses of link of the last hour (R294). -/
  losses : List Nat := []
  /-- mode in force (R265). -/
  appliedMode : Nat := 1
  /-- trained at the reduced rate (R266). -/
  reduced : Bool := true
  /-- the change from reduced to full rate has been asked for (R266). -/
  upgrade : Bool := false
  /-- re-qualification requested, not started (R279). -/
  requalWait : Bool := false
  /-- lanes under PRBS31 test (R279). -/
  requalRun : List Nat := []
  /-- SOSC time at which the PRBS31 pattern began (R279). -/
  requalAt : Nat := 0
  /-- membership epoch of a REQUAL_AUTH held (R321). -/
  requalAuth : Option Nat := none
  /-- low-power idle proposed (R280). -/
  lpiOffer : Bool := false
  /-- low-power idle proposed by the partner, with its wake time in ns (R280). -/
  lpiHeard : Option Nat := none
  /-- SOSC time of the last flit sent or received (R280). -/
  activeAt : Nat := 0
  /-- Ethernet: SOSC time of a loss of link that has not yet lasted 1 s (R294). -/
  lostAt : Option Nat := none
  /-- SOSC time from which a DOWN port probes again (R288). -/
  probeAt : Nat := 0
  /-- Ethernet: frames dropped and counted (R290). -/
  drops : Nat := 0
  /-- Ethernet: node of the path that was granted a credit last (R293). -/
  turn : Nat := 0
  deriving DecidableEq, Repr, Inhabited

/-- A transaction in flight or waiting, with its tag (R300, R302). -/
structure TagUse where
  /-- tag number (R300). -/
  tag : Nat := 0
  /-- 0 put, 1 remote read, 2 exchange or dispatch stream, 3 control request, 4 DMA read, 5 DMA write (R300). -/
  kind : Nat := 0
  /-- peer node, none for DMA and local (R301). -/
  peer : Option Nat := none
  /-- plot charged (R378). -/
  plot : Option Nat := none
  /-- ring (R302). -/
  ring : Nat := 0
  /-- descriptor index (R302). -/
  idx : Nat := 0
  /-- port that carries it (R298). -/
  port : Nat := 0
  /-- flit type (R267). -/
  typ : Nat := 0
  /-- CTX of its flits (R267). -/
  ctx : Nat := 0
  /-- payload of the transfer (R274). -/
  bytes : List Byte := []
  /-- already sent again once on another port (R274). -/
  resent : Bool := false
  /-- DMA: function whose requester ID it carries (R329). -/
  func : Nat := 0
  /-- DMA: host address; remote read: glade address (R335). -/
  addr : Nat := 0
  /-- bytes of a read (R335). -/
  len : Nat := 0
  /-- byte offset in the destination of a COPY (R360). -/
  off : Nat := 0
  /-- remote read: bytes received, not visible before the seal (R286). -/
  data : List Byte := []
  /-- SOSC time at which its transfer timeout passes (R456). -/
  deadline : Nat := 0
  /-- SOSC time at which the tag was taken (R302). -/
  takenAt : Nat := 0
  /-- control request: what it asks (R300). -/
  ctrl : Option Ctrl := none
  deriving DecidableEq, Repr, Inhabited

/-- The tag pool. -/
structure Tags where
  /-- tags in use (R300). -/
  used : List TagUse := []
  /-- waiting transactions, oldest first (R302). -/
  waiting : List TagUse := []
  /-- per-peer caps set by the manager, plus 1 (R301). -/
  caps : Tab Nat := []
  deriving DecidableEq, Repr, Inhabited

/-- A device as the manager knows it. -/
structure Member where
  /-- device identity (R500). -/
  devId : Nat := 0
  /-- copse (R313). -/
  copse : Nat := 0
  /-- 1 worker, 2 spare (R315). -/
  role : Nat := 0
  /-- declared failed (R317). -/
  failed : Bool := false
  /-- current window not empty (R317). -/
  window : Bool := false
  /-- consecutive empty windows (R317). -/
  empty : Nat := 0
  /-- fault summary of its last heartbeat (R317). -/
  summary : Nat := 0
  /-- copse map: nodes to which it has a direct port (R295). -/
  partners : List Nat := []
  deriving DecidableEq, Repr, Inhabited

/-- A barrier report (R142). -/
structure Report where
  /-- device (R142). -/
  node : Nat := 0
  /-- its non-finite total (R142). -/
  total : Nat := 0
  /-- a member of its step has failed (R185). -/
  failed : Bool := false
  deriving DecidableEq, Repr, Inhabited

/-- Manager and standby state. -/
structure Mgr where
  /-- devices by node number (R315). -/
  members : Tab Member := []
  /-- membership epoch, 32 bits (R313). -/
  epoch : Nat := 0
  /-- manager epoch (R319). -/
  mgrEpoch : Nat := 0
  /-- standby named (R312). -/
  standby : Option Nat := none
  /-- the manager this device follows (R320). -/
  managerNode : Option Nat := none
  /-- revocation list (R283). -/
  revoked : List Nat := []
  /-- join and leave requests waiting, in order of arrival (R314). -/
  queue : List MemberReq := []
  /-- cross-device leases: nodes by lease identity (R389). -/
  leases : Tab (List Nat) := []
  /-- copse leads at the present membership epoch (R313). -/
  copseLeads : Tab Nat := []
  /-- copse keys at the present membership epoch (R310). -/
  keys : Tab (BitVec 256) := []
  /-- barrier reports by lease identity (R142). -/
  reports : Tab (List Report) := []
  /-- failed workers waiting for a spare (R459). -/
  substituting : List Nat := []
  /-- standby: current window not empty (R319). -/
  mgrWindow : Bool := false
  /-- standby: SOSC time at which the present window began (R319). -/
  mgrWindowAt : Nat := 0
  /-- standby: consecutive empty windows (R319). -/
  mgrEmpty : Nat := 0
  /-- standby: poll in progress (R319). -/
  polling : Bool := false
  /-- standby: SOSC time of the poll (R319). -/
  pollAt : Nat := 0
  /-- standby: leads that answered that the manager is silent (R319). -/
  silent : List Nat := []
  /-- standby: copse leads polled (R319). -/
  leads : List Nat := []
  /-- manager candidate (R311). -/
  candidate : Bool := false
  /-- pin MGR_SEL (R512). -/
  mgrSel : Bool := false
  /-- heartbeat sequence number, 32 bits (R317). -/
  hbSeq : Nat := 0
  /-- SOSC time of the last heartbeat sent (R317). -/
  hbAt : Nat := 0
  /-- manager: SOSC time at which the present window of the devices began (R317). -/
  windowAt : Nat := 0
  /-- manager: SOSC time of the last heartbeat to the standby (R319). -/
  mgrHbAt : Nat := 0
  /-- this device's copse (R295). -/
  copse : Nat := 0
  /-- copse key held (R310). -/
  copseKey : Option (BitVec 256) := none
  /-- a join request is out (R314). -/
  joining : Bool := false
  /-- the last join request was refused (R315). -/
  refused : Bool := false
  /-- a leave request is out (R316). -/
  leaving : Bool := false
  /-- role and node number of a join answer, in force with the tables (R314). -/
  pending : Option (Nat × Nat) := none
  /-- this device has taken a FENCE that names it (R318). -/
  fencedSelf : Bool := false
  /-- pending barrier reports of this device: (lease, non-finite total, a member failed) (R320). -/
  answers : List (Nat × Nat × Bool) := []
  deriving DecidableEq, Repr, Inhabited

/-- The management MAC. -/
structure Mac where
  /-- attempts of the frame in progress (R306). -/
  attempts : Nat := 0
  /-- backing off (R306). -/
  backoff : Bool := false
  /-- SOSC time at which the back-off ends (R306). -/
  backoffEnd : Nat := 0
  /-- frame in progress (R306). -/
  sending : Option (List Byte) := none
  /-- SOSC time at which the attempt in progress has been sent (R306). -/
  sendEnd : Nat := 0
  /-- frames waiting (R306). -/
  queue : List (List Byte) := []
  /-- PLCA status OK (R307). -/
  plcaOk : Bool := true
  /-- local ID in force (R322). -/
  plcaId : Nat := 0
  /-- last frame counter accepted per source, plus 1 (R310). -/
  ctrlRx : Tab Nat := []
  /-- frame counter of the control frames sent on the segment (R310). -/
  ctrlTx : Nat := 0
  /-- frames delivered: receive status word and bytes (R308). -/
  delivered : List (Word × List Byte) := []
  /-- frames with a flag set, logged by firmware (R309). -/
  badLog : Nat := 0
  deriving DecidableEq, Repr, Inhabited

/-- One PCI Express function, 0 the physical function. -/
structure Func where
  /-- in D3hot (R324). -/
  d3 : Bool := false
  /-- MSI-X vectors whose Mask bit is 0 (a table entry is masked at reset) (R333). -/
  unmasked : List Nat := []
  /-- MSI-X table words other than the Mask bit, key 4 * vector + word (R333). -/
  entries : Tab Word := []
  /-- vectors with the pending bit set (R333). -/
  pend : List Nat := []
  /-- Enable Relaxed Ordering (R334). -/
  relaxed : Bool := true
  deriving DecidableEq, Repr, Inhabited

/-- PCI Express attachment. -/
structure Pcie where
  /-- functions 0-63 (R328). -/
  funcs : Tab Func := []
  /-- VF Enable (R340). -/
  vfEnable : Bool := false
  /-- NumVFs (R328). -/
  numVfs : Nat := 0
  /-- ECRC Check Enable (R337). -/
  ecrcCheck : Bool := false
  /-- ECRC Generation Enable (R337). -/
  ecrcGen : Bool := false
  /-- configuration requests are answered (R473). -/
  answering : Bool := false
  /-- link training in progress (R473). -/
  training : Bool := false
  /-- AER correctable errors reported (R337). -/
  corrErr : Nat := 0
  /-- AER non-fatal errors reported (R337). -/
  nonFatal : Nat := 0
  /-- AER fatal errors reported (R337). -/
  fatal : Nat := 0
  /-- 10-Bit Tag Requester Enable (R335). -/
  tenBit : Bool := false
  /-- Max Payload Size, bytes (R335). -/
  mps : Nat := 128
  /-- Max Read Request Size, bytes (R335). -/
  mrrs : Nat := 512
  /-- Completion Timeout Value (R336). -/
  cplValue : Nat := 0
  /-- Completion Timeout Disable (R336). -/
  cplOff : Bool := false
  /-- DOE Busy (R341). -/
  doeBusy : Bool := false
  /-- DOE object in progress in the mailbox: the answer it will give (R341). -/
  doeObject : Option Doe := none
  deriving DecidableEq, Repr, Inhabited

/-- Security root and firmware state. -/
structure Security where
  /-- core 0 released (R407). -/
  booted : Bool := false
  /-- extension part in place (R407). -/
  extension : Bool := false
  /-- measurement of the running image's header (R407). -/
  measured : List Byte := []
  /-- lifecycle fuses: 1 FACTORY_TEST, 2 PRODUCTION, 3 RMA (R402). -/
  lifecycle : Nat := 2
  /-- times every key slot was zeroised (R403). -/
  keysZeroised : Nat := 0
  /-- uses of the device identity key refused until a power cycle (R406). -/
  identityRefused : Bool := false
  /-- last debug nonce (R406). -/
  nonce : Option (List Byte) := none
  /-- mailbox command being served, while BUSY is 1 (R501). -/
  box : Option BoxReq := none
  /-- SOSC time at which the confirmation window ends (R411). -/
  trialDeadline : Option Nat := none
  /-- words of SEC_RECOVERY_WIN by their number (R410). -/
  window : Tab Word := []
  deriving DecidableEq, Repr, Inhabited

/-- Power and temperature state of one die (0-15 GDn, 16-23 VDk, 24 CD). -/
structure Die where
  /-- junction temperature, °C (R432). -/
  tempC : Nat := 0
  /-- WARN signalled and not yet re-armed (R432). -/
  warned : Bool := false
  /-- throttling (R432). -/
  throttle : Bool := false
  /-- issue gated to half by temperature (R432). -/
  gatedHalf : Bool := false
  /-- target of the compute supply (R421). -/
  targetMv : Nat := 0
  /-- droop response active (R425). -/
  droop : Bool := false
  /-- SOSC time of a brown-out in progress (R427). -/
  brownout : Option Nat := none
  /-- compute supply on (R433). -/
  supplyOn : Bool := false
  /-- last turning point, °C (R440). -/
  tp : Int := 0
  /-- extreme since the turning point (R440). -/
  ext : Int := 0
  /-- direction of the temperature (R440). -/
  dirUp : Bool := true
  /-- half-cycle tracking has its first reading (R440). -/
  started : Bool := false
  /-- life accumulator, 1/1600 units (R440). -/
  life : Nat := 0
  /-- SOSC time at which the last window of the rate replica ended, or its first began (R38). -/
  windowAt : Nat := 0
  deriving DecidableEq, Repr, Inhabited

/-- Modelled activity since the last attribution interval, in 0.1 fJ at 0.60 V (R430). -/
structure Activity where
  /-- plot (R429). -/
  plot : Nat := 0
  /-- ring (R431). -/
  ring : Nat := 0
  /-- 0-15 compute of GDn, 16-31 HBM of Hn, 32-55 port (R429). -/
  domain : Nat := 0
  /-- modelled energy (R430). -/
  amount : Nat := 0
  deriving DecidableEq, Repr, Inhabited

/-- Envelope, follower, gating, coolant and energy. -/
structure Power where
  /-- input below 44 V; code 0b000 applies (R417). -/
  undervolt : Bool := false
  /-- PWR_ENV[2:0] as taken (R419). -/
  envCode : Nat := 7
  /-- issue-gating fraction f in sixteenths (R423). -/
  frac16 : Nat := 16
  /-- a die gated in this control interval (R423). -/
  gatedSince : Bool := false
  /-- issue stopped below the floor (R424). -/
  stopIssue : Bool := false
  /-- issue stopped by HOLDING (R437). -/
  hold : Bool := false
  /-- SOSC time of the sudden stop (R437). -/
  holdAt : Option Nat := none
  /-- consecutive failed pressure readings, ms (R435). -/
  badReads : Nat := 0
  /-- consecutive readings below 20 % (R437). -/
  lowFlow : Nat := 0
  /-- consecutive readings at or above 30 % with tachometer edges present (R437). -/
  goodFlow : Nat := 0
  /-- a pressure reading has succeeded since reset (R436). -/
  coolRead : Bool := false
  /-- SOSC time of the last coolant reading (R435). -/
  coolAt : Nat := 0
  /-- coolant cap, W (R436). -/
  capW : Nat := 1250
  /-- target of the voltage follower, mV (R421). -/
  target : Nat := 450
  /-- SOSC time at which the running control interval began (R421). -/
  controlAt : Nat := 0
  /-- SOSC time at which the running gating interval began (R423). -/
  gateAt : Nat := 0
  /-- the twenty-five dies (R416). -/
  dies : Tab Die := []
  /-- SOSC time of the last reading of the temperature sensors (R432). -/
  tempAt : Nat := 0
  /-- activity since the last attribution interval (R429). -/
  acts : List Activity := []
  /-- energy method in force (R431). -/
  energyMode : Nat := 0
  /-- SOSC time at which the running attribution interval began (R429). -/
  attribAt : Nat := 0
  /-- lifetime energy counter, µJ (R428). -/
  lifetime : Nat := 0
  /-- fraction carried for UNATTR, 2^-32 µJ (R429). -/
  unFrac : Nat := 0
  /-- fraction of PWR_ENERGY_DEV carried in modelled mode, 2^-32 µJ (R430). -/
  devFrac : Nat := 0
  deriving DecidableEq, Repr, Inhabited

/-- A fault event whose class core 1 has not decided (R447). -/
structure Event where
  /-- die whose word latched (R447). -/
  die : Nat := 0
  /-- bit (R447). -/
  bit : Nat := 0
  /-- plots it names (R448). -/
  plots : List Nat := []
  /-- unit (R455). -/
  unit : Nat := 0
  /-- detail (R455). -/
  detail : Nat := 0
  /-- record kind (R455). -/
  kind : Nat := 0
  /-- SOSC time of the event (R455). -/
  time : Nat := 0
  /-- class, where the event itself fixes which of several holds (R447). -/
  sure : Option Nat := none
  /-- descriptors (ring, index) whose replay settles the class (R40). -/
  waits : List (Nat × Nat) := []
  /-- one of them has retired with an error (R40). -/
  failed : Bool := false
  deriving DecidableEq, Repr, Inhabited

/-- Fault collection, classes and pins. -/
structure FaultState where
  /-- 1 + decided class of each latched bit, key 64 * die + bit; while an event of the bit waits, the class decided before it (R447). -/
  decided : Tab Nat := []
  /-- events that core 1 has not handled, oldest first (R447). -/
  events : List Event := []
  /-- SOSC time of the last word of each die (R445). -/
  lastWord : Tab Nat := []
  /-- the word of each die as the clearing die has it (R444). -/
  atClearing : Tab (BitVec 64) := []
  /-- dies whose word is on its way to the clearing die (R444). -/
  onWay : List Nat := []
  /-- SOSC times of C3 events of the last hour (R449). -/
  c3Times : List Nat := []
  /-- FAULT_N level (true: high, not asserted); low from power-on until the collector starts (R451). -/
  faultN : Bool := false
  /-- THERM_TRIP_N level (true: high) (R433). -/
  thermTripN : Bool := true
  /-- the clearing die's collector has started (R451). -/
  started : Bool := false
  /-- issue and fetching stopped by a C3 event (R449). -/
  stopped : Bool := false
  /-- in windthrow (R450). -/
  windthrow : Bool := false
  /-- stopped by a JTAG scan instruction (R505). -/
  scanStop : Bool := false
  /-- fault-log record being fetched (R455). -/
  logFetch : Option Nat := none
  deriving DecidableEq, Repr, Inhabited

/-- A maintenance activity that runs or waits. -/
structure Lock where
  /-- 0-10 as in FLT_MAINT_STS.ACTIVE (R464). -/
  kind : Nat := 0
  /-- stack, loop, bank, channel or port (R464). -/
  unit : Nat := 0
  deriving DecidableEq, Repr, Inhabited

/-- The maintenance arbiter of core 1. -/
structure Maint where
  /-- activities running (R464). -/
  active : List Lock := []
  /-- requests waiting, in order of arrival (R464). -/
  waiting : List Lock := []
  deriving DecidableEq, Repr, Inhabited

/-- Bring-up, resets and sideband. -/
structure Global where
  /-- power-on reset released (R511). -/
  poweredOn : Bool := false
  /-- PERST_N is low (R472). -/
  perstLow : Bool := true
  /-- SOSC time of step 1 of Table 18.2 (R473). -/
  bootAt : Nat := 0
  /-- a warm reset has started and the dies have not stopped (R471). -/
  warm : Bool := false
  /-- Fallow was entered under R437 (R438). -/
  coolFallow : Bool := false
  /-- Dormant (R483). -/
  dormant : Bool := false
  /-- sideband pointer (R506). -/
  smbAddr : Word := 0
  /-- banks whose clearing is done at the exit from Fallow (R481). -/
  fallowClear : List Nat := []
  deriving DecidableEq, Repr, Inhabited

/-- The whole block: the commands that wait, the registers of the map, and the state behind them. -/
structure State where
  /-- commands that wait, first in, first out (model). -/
  pending : List Instr := []
  /-- the counter of free values taken, the model's own (model). -/
  draws : Nat := 0
  /-- what the device has sent, newest first: interrupt messages, answers, flits, frames (R333). -/
  out : List Out := []
  /-- the registers of the map (R490). -/
  regs : RegFile := {}
  /-- device memory (R16). -/
  hbm : Hbm := {}
  /-- bytes that the device has written to host memory, by host address (R335). -/
  host : Memory := []
  /-- dies, tile memory and die-to-die channels (R10). -/
  pkg : Package := {}
  /-- serial flash (R27). -/
  flash : Flash := {}
  /-- clocks (R44). -/
  clocks : Clocks := {}
  /-- engines of the grove dies, key 9 * die + engine (R87). -/
  engines : Tab Engine := []
  /-- the 65,536 slab entries of the glade (R356). -/
  slabs : Tab Slab := []
  /-- the 1,024 rings (R343). -/
  rings : Tab Ring := []
  /-- the 64 plots (R376). -/
  plots : Tab Plot := []
  /-- the 512 sequence slots, top entry first (R192). -/
  stash : Tab (List StashEntry) := []
  /-- MATMUL descriptors in execution (R85). -/
  matJobs : List MatJob := []
  /-- split vector descriptors in execution (R162). -/
  vecJobs : List VecJob := []
  /-- fabric tables and exchange state (R205). -/
  fabric : Fabric := {}
  /-- the 24 ports (R265). -/
  ports : Tab Port := []
  /-- peer transfers arriving (R361). -/
  puts : List Put := []
  /-- transaction tags (R300). -/
  tags : Tags := {}
  /-- management state (R311). -/
  mgr : Mgr := {}
  /-- management MAC (R306). -/
  mac : Mac := {}
  /-- PCI Express attachment (R323). -/
  pcie : Pcie := {}
  /-- security root and firmware (R401). -/
  sec : Security := {}
  /-- loop-kernel cores 4 to 31 (R391). -/
  cores : Tab Core := []
  /-- power, temperature and coolant (R416). -/
  power : Power := {}
  /-- fault collection (R443). -/
  faults : FaultState := {}
  /-- maintenance arbiter (R464). -/
  maint : Maint := {}
  /-- bring-up and resets (R511). -/
  glob : Global := {}
  deriving DecidableEq, Repr, Inhabited

/-- The machine right after power-on reset: nothing trained, nothing bound, every register of the
map at its reset value, every memory empty, no command waiting. -/
def State.reset : State := {}

end Sys2Proof.Machine
end

