-- ==== Sys2Proof/Machine/Ops.lean ====
section
/-! DEFINITION. The named operations on the state that every family shares: sparse tables, byte
order and CRC, fields of registers, counters, interrupt messages, device memory, leases. -/

namespace Sys2Proof.Machine

/-! ### Sparse tables -/

/-- What a table lists at a key. -/
def Tab.look {α : Type} : Tab α → Nat → Option α
  | [], _ => none
  | (k', v) :: t, k => if k' = k then some v else Tab.look t k

/-- A table without any entry at a key. -/
def Tab.del {α : Type} : Tab α → Nat → Tab α
  | [], _ => []
  | (k', v) :: t, k => if k' = k then Tab.del t k else (k', v) :: Tab.del t k

/-- A table with an entry put at its place in ascending order. -/
def Tab.ins {α : Type} : Tab α → Nat → α → Tab α
  | [], k, v => [(k, v)]
  | (k', v') :: t, k, v =>
    if k < k' then (k, v) :: (k', v') :: t
    else if k = k' then (k, v) :: t
    else (k', v') :: Tab.ins t k v

/-- The value at a key, `d` where the table lists none. -/
def Tab.valD {α : Type} (t : Tab α) (k : Nat) (d : α) : α := (Tab.look t k).getD d

/-- A table whose value at a key is `v`; the value `d` is not listed. -/
def Tab.putD {α : Type} [DecidableEq α] (t : Tab α) (k : Nat) (v d : α) : Tab α :=
  if v = d then Tab.del t k else Tab.ins t k v

/-- The value at a key, the default of its type where none is listed. -/
def Tab.val {α : Type} [Inhabited α] (t : Tab α) (k : Nat) : α := Tab.valD t k default

/-- A table whose value at a key is `v`. -/
def Tab.put {α : Type} [Inhabited α] [DecidableEq α] (t : Tab α) (k : Nat) (v : α) : Tab α :=
  Tab.putD t k v default

/-- A table whose value at a key is changed by `f`. -/
def Tab.upd {α : Type} [Inhabited α] [DecidableEq α] (t : Tab α) (k : Nat) (f : α → α) : Tab α :=
  Tab.put t k (f (Tab.val t k))

/-- Every listed value of a table changed; one that becomes the default is no longer listed. -/
def Tab.mapV {α : Type} [Inhabited α] [DecidableEq α] (f : Nat → α → α) : Tab α → Tab α
  | [] => []
  | (k, v) :: t => if f k v = default then Tab.mapV f t else (k, f k v) :: Tab.mapV f t

/-- Keys strictly rise and all lie above `lo`. -/
def Tab.rises {α : Type} : Tab α → Nat → Bool
  | [], _ => true
  | (k, _) :: t, lo => decide (lo ≤ k) && Tab.rises t (k + 1)

/-- The canonical form of a table whose unlisted keys hold `d`. -/
def Tab.wf {α : Type} [DecidableEq α] (t : Tab α) (d : α) : Bool :=
  Tab.rises t 0 && t.all (fun e => decide (e.2 ≠ d))

/-- The canonical form of a byte memory. -/
def Memory.wf (m : Memory) : Bool := Tab.wf m 0

/-- A set of numbers, kept in ascending order without repeats, with one more member. -/
def addAsc (x : Nat) : List Nat → List Nat
  | [] => [x]
  | y :: l => if x < y then x :: y :: l else if x = y then y :: l else y :: addAsc x l

/-- A set of numbers without a member. -/
def without (x : Nat) (l : List Nat) : List Nat := l.filter (fun y => decide (y ≠ x))

/-! ### Bytes -/

/-- The `n` low bytes of a number, lowest first (R3). -/
def leBytes : Nat → Nat → List Byte
  | 0, _ => []
  | n + 1, v => BitVec.ofNat 8 v :: leBytes n (v / 256)

/-- The number that bytes spell, lowest first (R3). -/
def leNat : List Byte → Nat
  | [] => 0
  | b :: l => b.toNat + 256 * leNat l

/-- One bit of the CRC-32 of R268 in its reflected form. -/
def crcBit : Nat → Nat → Nat
  | 0, c => c
  | n + 1, c => crcBit n (if c % 2 = 1 then Nat.xor (c / 2) 0x82F63B78 else c / 2)

/-- The CRC-32 of R28 and R268: polynomial 0x1EDC_6F41, least significant bit first, initial value
and final exclusive-or 0xFFFF_FFFF. -/
def crc32 (l : List Byte) : Nat :=
  Nat.xor (l.foldl (fun c b => crcBit 8 (Nat.xor c b.toNat)) 0xFFFFFFFF) 0xFFFFFFFF

/-- Bits [hi:lo] of a number. -/
def bits (v hi lo : Nat) : Nat := v / 2 ^ lo % 2 ^ (hi + 1 - lo)

/-- A bit as a number. -/
def b2n (b : Bool) : Nat := if b then 1 else 0

/-- Bit `i` of a number. -/
def bit (v i : Nat) : Bool := decide (v / 2 ^ i % 2 = 1)

/-- A number with bit `i` set or cleared. -/
def withBit (v i : Nat) (b : Bool) : Nat :=
  if bit v i = b then v else if b then v + 2 ^ i else v - 2 ^ i

/-- The number of ones among the low `n` bits. -/
def popCount : Nat → Nat → Nat
  | 0, _ => 0
  | n + 1, v => v % 2 + popCount n (v / 2)

/-- The positions of the ones among the low `n` bits. -/
def onesOf (n v : Nat) : List Nat := (List.range n).filter (bit v)

/-- `x` kept between two bounds. -/
def clampTo (lo hi x : Nat) : Nat := if x < lo then lo else if hi < x then hi else x

/-- ⌈a ÷ b⌉. -/
def ceilDiv (a b : Nat) : Nat := (a + b - 1) / b

/-- `a` rounded up to a multiple of `b`. -/
def roundUp (a b : Nat) : Nat := ceilDiv a b * b

/-! ### SOSC periods (125 ns, R42) -/

/-- Periods of one microsecond. -/
def perUs : Nat := 8
/-- Periods of one millisecond. -/
def perMs : Nat := 8000
/-- Periods of one second. -/
def perS : Nat := 8000000
/-- Periods of one hour. -/
def perHour : Nat := 28800000000

/-! ### Fields of registers -/

/-- The value that two of three copies hold; with three different ones, the safe value (R497). -/
def vote3 {α : Type} [DecidableEq α] (a b c safe : α) : α :=
  if a = b ∨ a = c then a else if b = c then b else safe

/-- A field as a register file gives it; the copies of an RWT field are voted (R497). -/
def RegFile.rd (r : RegFile) (f : Fld) : Nat :=
  let a := Tab.valD r.field f.key f.reset
  if f.acc = .rwt then vote3 a (Tab.valD r.copyB f.key f.reset) (Tab.valD r.copyC f.key f.reset) f.reset else a

/-- A register file with a field stored; an RWT field is stored in all three copies (R497). -/
def RegFile.wr (r : RegFile) (f : Fld) (v : Nat) : RegFile :=
  let x := v % 2 ^ f.width
  if f.acc = .rwt then
    { r with field := Tab.putD r.field f.key x f.reset
             copyB := Tab.putD r.copyB f.key x f.reset
             copyC := Tab.putD r.copyC f.key x f.reset }
  else { r with field := Tab.putD r.field f.key x f.reset }

/-- The value of a field. -/
def State.rd (s : State) (f : Fld) : Nat := s.regs.rd f

/-- The state with a field set. -/
def State.wr (s : State) (f : Fld) (v : Nat) : State := { s with regs := s.regs.wr f v }

/-- Whether bit `i` of a field is set. -/
def State.rdBit (s : State) (f : Fld) (i : Nat) : Bool := bit (s.rd f) i

/-- The state with bit `i` of a field set or cleared. -/
def State.wrBit (s : State) (f : Fld) (i : Nat) (b : Bool) : State :=
  s.wr f (withBit (s.rd f) i b)

/-- A counter that saturates at its field maximum, advanced by `n`. -/
def State.countUp (s : State) (f : Fld) (n : Nat) : State :=
  s.wr f (min (s.rd f + n) (2 ^ f.width - 1))

/-- A counter that wraps, advanced by `n`. -/
def State.countWrap (s : State) (f : Fld) (n : Nat) : State := s.wr f (s.rd f + n)

/-- A 64-bit counter held in two fields. -/
def State.rd64 (s : State) (lo hi : Fld) : Nat := s.rd lo + 2 ^ 32 * s.rd hi

/-- A 64-bit counter advanced by `n`. -/
def State.count64 (s : State) (lo hi : Fld) (n : Nat) : State :=
  let v := s.rd64 lo hi + n
  (s.wr lo v).wr hi (v / 2 ^ 32)

/-- A 64-bit counter set. -/
def State.set64 (s : State) (lo hi : Fld) (v : Nat) : State := (s.wr lo v).wr hi (v / 2 ^ 32)

/-- A field at its reset value. -/
def State.wrReset (s : State) (f : Fld) : State := s.wr f f.reset

/-- Several fields at their reset values. -/
def State.wrResets (s : State) (l : List Fld) : State := l.foldl State.wrReset s

/-! ### Messages and free values -/

/-- The device sends a message. -/
def State.send (s : State) (m : Out) : State := { s with out := m :: s.out }

/-- The number of vectors of a function's MSI-X table (R333). -/
def vectorsOf (func : Nat) : Nat := if func = 0 then 2048 else 32

/-- An event of an MSI-X vector: one message, or the pending bit while the vector is masked (R333).
A function in D3hot issues no request (R324). -/
def State.msix (s : State) (func vector : Nat) : State :=
  let f := Tab.val s.pcie.funcs func
  if f.d3 then s
  else if vector ∈ f.unmasked then s.send (.msix func vector)
  else { s with pcie := { s.pcie with
    funcs := Tab.put s.pcie.funcs func { f with pend := addAsc vector f.pend } } }

/-- The next free value is taken. -/
def State.tick (s : State) : State := { s with draws := s.draws + 1 }

/-- Periods of the clearing die's SOSC since power-on: CLK_SOSC_COUNT (R44). -/
def State.now (s : State) : Nat := s.rd64 CLK_SOSC_COUNT_LO.COUNT_LO CLK_SOSC_COUNT_HI.COUNT_HI

/-- The DOE mailbox gives the answer of the object in progress (R341). -/
def State.answerDoe (s : State) : State :=
  match s.pcie.doeObject with
  | some a => { s with pcie := { s.pcie with doeObject := none, doeBusy := false }, out := .doe a :: s.out }
  | none => s

/-- `period` SOSC periods have passed since a time (R7, R42). -/
def State.past (s : State) (since period : Nat) : Bool := decide (since + period ≤ s.now)

/-- The islands of loop `l` run: a loop that has lost lock stops them (R48). -/
def State.islandUp (s : State) (l : Nat) : Bool := !(Tab.val s.clocks.loops l).islandStopped

/-- Times of the last `window` periods out of a list. -/
def recent (now window : Nat) (l : List Nat) : List Nat :=
  l.filter (fun t => decide (now < t + window))

/-! ### Parts of the state by number -/

/-- PLOT of a slab entry as its three copies vote (R497). -/
def Slab.owned (e : Slab) : BitVec 6 := vote3 e.plot e.plotB e.plotC 0

/-- Plot `p`. -/
def State.plot (s : State) (p : Nat) : Plot := Tab.val s.plots p
/-- Plot `p` changed. -/
def State.modPlot (s : State) (p : Nat) (f : Plot → Plot) : State :=
  { s with plots := Tab.upd s.plots p f }
/-- Ring `r`. -/
def State.ring (s : State) (r : Nat) : Ring := Tab.val s.rings r
/-- Ring `r` changed. -/
def State.modRing (s : State) (r : Nat) (f : Ring → Ring) : State :=
  { s with rings := Tab.upd s.rings r f }
/-- Port `p`. -/
def State.port (s : State) (p : Nat) : Port := Tab.val s.ports p
/-- Port `p` changed. -/
def State.modPort (s : State) (p : Nat) (f : Port → Port) : State :=
  { s with ports := Tab.upd s.ports p f }
/-- Engine `e` of grove die `gd`. -/
def State.engine (s : State) (gd e : Nat) : Engine := Tab.val s.engines (9 * gd + e)
/-- Engine `e` of grove die `gd` changed. -/
def State.modEngine (s : State) (gd e : Nat) (f : Engine → Engine) : State :=
  { s with engines := Tab.upd s.engines (9 * gd + e) f }
/-! ### Random sources (R170, R171) -/

/-- A lane generator after `n` steps. -/
def rngAfter : Nat → BitVec 64 → BitVec 64
  | 0, g => g
  | n + 1, g => rngAfter n (Config.rngNext g)

/-- The draw of element `i` from an engine whose generators stand at `l`: lane i modulo 512, each lane one step for
every 512 elements. -/
def laneDraw (l : List (BitVec 64)) (i : Nat) : BitVec 16 :=
  Config.rngOut (rngAfter (i / 512 + 1) (l.getD (i % 512) 0))

/-- The generators of vector engine `v` (4 * die + n). -/
def State.gens (s : State) (v : Nat) : List (BitVec 64) := (s.engine (v / 4) (3 + v % 4)).gens

/-- Vector engine `v` draws for `n` elements: every lane advances together. -/
def State.drawVe (s : State) (v n : Nat) : State :=
  s.modEngine (v / 4) (3 + v % 4) (fun g => { g with
    gens := g.gens.map (rngAfter ((n + 511) / 512)), drawn := g.drawn + (n + 511) / 512 })

/-- Vector engine `v` is seeded from the security root (R171). -/
def State.seedVe (s : State) (v : Nat) : State :=
  (s.modEngine (v / 4) (3 + v % 4) (fun g => { g with
    gens := (List.range 512).map (Config.rngSeed s.draws), seeds := g.seeds + 1, drawn := 0 })).tick

/-- Engine `e` of grove die `gd` is reset: it forgets its operands, and the generators of a vector engine are seeded
(R40, R171). -/
def State.clearEngine (s : State) (gd e : Nat) : State :=
  let s1 := s.modEngine gd e (fun g => { g with resets := g.resets + 1, loaded := none })
  if 3 ≤ e ∧ e < 7 then s1.seedVe (4 * gd + (e - 3)) else s1

/-- Slab entry `n`. -/
def State.slab (s : State) (n : Nat) : Slab := Tab.val s.slabs n
/-- Slab entry `n` changed. -/
def State.modSlab (s : State) (n : Nat) (f : Slab → Slab) : State :=
  { s with slabs := Tab.upd s.slabs n f }
/-- Stack `n`. -/
def State.stack (s : State) (n : Nat) : Stack := Tab.val s.hbm.stackTab n
/-- Stack `n` changed. -/
def State.modStack (s : State) (n : Nat) (f : Stack → Stack) : State :=
  { s with hbm := { s.hbm with stackTab := Tab.upd s.hbm.stackTab n f } }
/-- Bank `b` of grove die `gd`. -/
def State.bank (s : State) (gd b : Nat) : Bank := Tab.val s.pkg.banks (64 * gd + b)
/-- Bank `b` of grove die `gd` changed. -/
def State.modBank (s : State) (gd b : Nat) (f : Bank → Bank) : State :=
  { s with pkg := { s.pkg with banks := Tab.upd s.pkg.banks (64 * gd + b) f } }
/-- Channel `c`. -/
def State.channel (s : State) (c : Nat) : Channel := Tab.val s.pkg.channels c
/-- Channel `c` changed. -/
def State.modChannel (s : State) (c : Nat) (f : Channel → Channel) : State :=
  { s with pkg := { s.pkg with channels := Tab.upd s.pkg.channels c f } }
/-- Loop-kernel core `c`. -/
def State.core (s : State) (c : Nat) : Core := Tab.val s.cores c
/-- Loop-kernel core `c` changed. -/
def State.modCore (s : State) (c : Nat) (f : Core → Core) : State :=
  { s with cores := Tab.upd s.cores c f }
/-- Power and temperature state of die `d`. -/
def State.die (s : State) (d : Nat) : Die := Tab.val s.power.dies d
/-- Power and temperature state of die `d` changed. -/
def State.modDie (s : State) (d : Nat) (f : Die → Die) : State :=
  { s with power := { s.power with dies := Tab.upd s.power.dies d f } }
/-- Schedule-table entry `i`. -/
def State.sched (s : State) (i : Nat) : Sched := Tab.val s.fabric.scheds i
/-- Schedule-table entry `i` changed. -/
def State.modSched (s : State) (i : Nat) (f : Sched → Sched) : State :=
  { s with fabric := { s.fabric with scheds := Tab.upd s.fabric.scheds i f } }

/-! ### Service -/

/-- Grove die `gd` is fenced out (R15). -/
def State.fenced (s : State) (gd : Nat) : Bool := decide (gd ∈ s.pkg.fenced)

/-- Grove die `gd` has joined service and is not fenced (STS_INSERVICE.GROVE, R474). -/
def State.groveUp (s : State) (gd : Nat) : Bool := s.rdBit STS_INSERVICE.GROVE gd

/-! ### Performance counters (R502) -/

/-- `n` occurrences of a selectable event on grove die `gd`. -/
def State.perf (s : State) (gd ev n : Nat) : State :=
  let one (s : State) (sel : Nat → Fld) (k : Nat) : State :=
    if s.rd (sel gd) = ev then s.countWrap (CNT_GD_PERF.COUNT gd k) n else s
  one (one (one (one s CTL_GD_PERFSEL.SEL_0 0) CTL_GD_PERFSEL.SEL_1 1)
    CTL_GD_PERFSEL.SEL_2 2) CTL_GD_PERFSEL.SEL_3 3

/-! ### Device memory -/

/-- Bytes of one stack. -/
def stackBytes : Nat := 96 * 2 ^ 30
/-- Bytes of one extent. -/
def extentBytes : Nat := 2 ^ 30
/-- Bytes of one page of the clean-page map. -/
def pageBytes : Nat := 4096
/-- Bytes of one unit of the device-side code. -/
def unitBytes : Nat := 32

/-- The numbers of the blocks of `size` bytes that `n` bytes from `a` touch. -/
def blocksOf (size a n : Nat) : List Nat :=
  if n = 0 then [] else (List.range ((a + n - 1) / size + 1 - a / size)).map (· + a / size)

/-- A byte as a read returns it: zero in a clean page (R386). -/
def Hbm.byte (h : Hbm) (a : Nat) : Byte :=
  if a / pageBytes ∈ h.dirty then Tab.val h.mem a else 0

/-- `n` bytes from `a`. -/
def Hbm.read (h : Hbm) (a : Nat) : Nat → List Byte
  | 0 => []
  | n + 1 => h.byte a :: Hbm.read h (a + 1) n

/-- The first write to a clean page writes zeros over the whole page and clears its poison (R386). -/
def Hbm.touch (h : Hbm) (page : Nat) : Hbm :=
  if page ∈ h.dirty then h
  else { h with
    mem := h.mem.filter (fun e => decide (e.1 / pageBytes ≠ page))
    poison := h.poison.filter (fun u => decide (u * unitBytes / pageBytes ≠ page))
    dirty := addAsc page h.dirty }

/-- Bytes written one after the other. -/
def Hbm.poke (h : Hbm) (a : Nat) : List Byte → Hbm
  | [] => h
  | b :: l => Hbm.poke { h with mem := Tab.put h.mem a b } (a + 1) l

/-- A write: every touched page becomes dirty, the bytes land, and a unit that the write covers in
full loses its poison (R18, R386). -/
def Hbm.write (h : Hbm) (a : Nat) (l : List Byte) : Hbm :=
  let h1 := (blocksOf pageBytes a l.length).foldl Hbm.touch h
  let h2 := Hbm.poke h1 a l
  { h2 with poison := h2.poison.filter (fun u =>
      decide (u * unitBytes < a ∨ a + l.length < u * unitBytes + unitBytes)) }

/-- Some unit of the range is poisoned, and its page is not clean. -/
def Hbm.poisoned (h : Hbm) (a n : Nat) : Bool :=
  h.poison.any (fun u => decide (u * unitBytes < a + n ∧ a < u * unitBytes + unitBytes
    ∧ u * unitBytes / pageBytes ∈ h.dirty))

/-- Some page of the range is retired (R387). -/
def Hbm.retiredIn (h : Hbm) (a n : Nat) : Bool :=
  h.retired.any (fun p => decide (p * pageBytes < a + n ∧ a < p * pageBytes + pageBytes))

/-- Requests to stack `n` stall: its HBM loop changes frequency or has lost lock (R47, R48). -/
def State.stackStalled (s : State) (n : Nat) : Bool :=
  decide (n / 4 ∈ s.clocks.active) || !s.islandUp (1 + n / 4)

/-- A row repair holds a page of `n` bytes at a device address (R21). -/
def State.repairAt (s : State) (a n : Nat) : Bool :=
  (s.stack (a / stackBytes)).repairPages.any (fun g => decide (g * pageBytes < a + n ∧ a < g * pageBytes + pageBytes))

/-- A request to `n` bytes at a device address stalls: those of its stack do, or a row repair holds a page of the
range. -/
def State.stalledAt (s : State) (a n : Nat) : Bool := s.stackStalled (a / stackBytes) || s.repairAt a n

/-- Extent `e` of stack `n` set clean. -/
def Hbm.setClean (h : Hbm) (n e : Nat) : Hbm :=
  let lo := n * stackBytes + e * extentBytes
  { h with dirty := h.dirty.filter (fun p =>
      decide (p * pageBytes < lo ∨ lo + extentBytes ≤ p * pageBytes)) }

/-! ### Leases (R376, R377, R523) -/

/-- Plot state codes of Table 14.2. -/
def plotUNBOUND : Nat := 0
/-- Checks and clearing in progress. -/
def plotBINDING : Nat := 1
/-- In service. -/
def plotBOUND : Nat := 2
/-- Plot reset in progress. -/
def plotRESETTING : Nat := 3
/-- Release in progress. -/
def plotRELEASING : Nat := 4

/-- State code of plot `p`. -/
def State.plotState (s : State) (p : Nat) : Nat := s.rd (PLOT_STS.STATE p)

/-- Plot `p` is bound, in the sense of holding resources for a user. -/
def State.plotBound (s : State) (p : Nat) : Bool := decide (s.plotState p ≠ plotUNBOUND)

/-- Plot `p` leases array `m` of grove die `gd`. -/
def State.leasesArray (s : State) (p gd m : Nat) : Bool :=
  let i := 3 * gd + m
  if i < 32 then s.rdBit (PLOT_ARRAYS_LO.ARRAYS_LO p) i
  else s.rdBit (PLOT_ARRAYS_HI.ARRAYS_HI p) (i - 32)

/-- Plot `p` leases vector engine `v` of grove die `gd`. -/
def State.leasesVe (s : State) (p gd v : Nat) : Bool :=
  let i := 4 * gd + v
  if i < 32 then s.rdBit (PLOT_VE_LO.VE_LO p) i else s.rdBit (PLOT_VE_HI.VE_HI p) (i - 32)

/-- Plot `p` leases bank `b` of grove die `gd`. -/
def State.leasesBank (s : State) (p gd b : Nat) : Bool :=
  if b < 32 then s.rdBit (PLOT_BANKS_LO.BANKS_LO p gd) b
  else s.rdBit (PLOT_BANKS_HI.BANKS_HI p gd) (b - 32)

/-- Plot `p` leases extent `e` of stack `n`. -/
def State.leasesExt (s : State) (p n e : Nat) : Bool :=
  if e < 32 then s.rdBit (PLOT_HBM_0.EXT_0 p n) e
  else if e < 64 then s.rdBit (PLOT_HBM_1.EXT_1 p n) (e - 32)
  else if e < 91 then s.rdBit (PLOT_HBM_2.EXT_2 p n) (e - 64)
  else false

/-- Plot `p` leases loop-kernel core `c` (4 to 31). -/
def State.leasesCore (s : State) (p c : Nat) : Bool :=
  decide (4 ≤ c) && s.rdBit (PLOT_CORES.CORES p) (c - 4)

/-- Plot `p` may send on port `k`. -/
def State.leasesPort (s : State) (p k : Nat) : Bool := s.rdBit (PLOT_PORTS.PORTS p) k

/-- Plot `p` holds some resource of grove die `gd`: array, engine, bank or extent of its stack. -/
def State.holdsDie (s : State) (p gd : Nat) : Bool :=
  (List.range 3).any (s.leasesArray p gd) || (List.range 4).any (s.leasesVe p gd)
  || decide (s.rd (PLOT_BANKS_LO.BANKS_LO p gd) ≠ 0) || decide (s.rd (PLOT_BANKS_HI.BANKS_HI p gd) ≠ 0)
  || decide (s.rd (PLOT_HBM_0.EXT_0 p gd) ≠ 0) || decide (s.rd (PLOT_HBM_1.EXT_1 p gd) ≠ 0)
  || decide (s.rd (PLOT_HBM_2.EXT_2 p gd) ≠ 0)

/-- The plots that hold resources for a user. -/
def State.boundPlots (s : State) : List Nat := (List.range 64).filter s.plotBound

/-- The bound plots that hold some resource of grove die `gd`. -/
def State.plotsOnDie (s : State) (gd : Nat) : List Nat :=
  s.boundPlots.filter (fun p => s.holdsDie p gd)

/-- The plot, if any, that leases extent `e` of stack `n`. -/
def State.ownerOfExt (s : State) (n e : Nat) : Option Nat :=
  s.boundPlots.find? (fun p => s.leasesExt p n e)

/-- The plot, if any, whose glade range covers a glade address. -/
def State.ownerOfGlade (s : State) (a : Nat) : Option Nat :=
  s.boundPlots.find? (fun p => decide (s.rd (PLOT_GLADE.BASE p) * 2 ^ 26 ≤ a
    ∧ a < (s.rd (PLOT_GLADE.BASE p) + s.rd (PLOT_GLADE.SIZE p)) * 2 ^ 26))

/-- The plot, if any, that leases bank `b` of grove die `gd`. -/
def State.ownerOfBank (s : State) (gd b : Nat) : Option Nat :=
  s.boundPlots.find? (fun p => s.leasesBank p gd b)

/-- The plot, if any, that leases array `e` (0 to 2) or vector engine `e - 3` of a grove die. -/
def State.ownerOfEngine (s : State) (gd e : Nat) : Option Nat :=
  s.boundPlots.find? (fun p =>
    if e < 3 then s.leasesArray p gd e else if e < 7 then s.leasesVe p gd (e - 3) else false)

/-- The device address of a glade address: GiB g lies in extent 91 + ⌊g ÷ 16⌋ of stack g mod 16
(R523). -/
def gladeToHbm (a : Nat) : Nat :=
  let g := a / extentBytes
  (g % 16) * stackBytes + (91 + g / 16) * extentBytes + a % extentBytes

/-- A range of glade addresses as device ranges, cut at the 1 GiB units (R523). -/
def gladePieces (a n : Nat) : List (Nat × Nat) :=
  (blocksOf extentBytes a n).map (fun g =>
    let lo := max a (g * extentBytes)
    (gladeToHbm lo, min (a + n) ((g + 1) * extentBytes) - lo))

/-- The extents that plot `p` leases in stack `n`, ascending. -/
def State.extsIn (s : State) (p n : Nat) : List Nat := (List.range 91).filter (s.leasesExt p n)

/-- The stacks in which plot `p` leases extents. -/
def State.stacksOf (s : State) (p : Nat) : List Nat :=
  (List.range 16).filter (fun n => decide (s.rd (PLOT_HBM_0.EXT_0 p n) ≠ 0)
    || decide (s.rd (PLOT_HBM_1.EXT_1 p n) ≠ 0) || decide (s.rd (PLOT_HBM_2.EXT_2 p n) ≠ 0))

/-- The device address of each leased GiB of plot `p`, in the order of R377. -/
def State.hbmSpace (s : State) (p : Nat) : List Nat :=
  (s.stacksOf p).flatMap (fun n =>
    (s.extsIn p n).map (fun e => n * stackBytes + e * extentBytes))

/-- The device address of a plot-relative address, if it lies in the lease. -/
def State.plotToHbm (s : State) (p a : Nat) : Option Nat :=
  ((s.hbmSpace p)[a / extentBytes]?).map (· + a % extentBytes)

/-- The share of each leased stack in the stash of plot `p`: CFG_STASH_SIZE divided equally and
rounded up to 4 KiB (R377). -/
def State.stashShare (s : State) (p : Nat) : Nat :=
  match (s.stacksOf p).length with
  | 0 => 0
  | n + 1 => roundUp (ceilDiv (s.rd (CFG_STASH_SIZE.SIZE_MIB p) * 2 ^ 20) (n + 1)) 4096

/-- The stash of plot `p` as plot-relative ranges [lo, hi), one for each leased stack: the highest
addresses of that stack's extents, clipped to them (R377). -/
def State.stashRanges (s : State) (p : Nat) : List (Nat × Nat) :=
  let share := s.stashShare p
  ((s.stacksOf p).foldl (fun (acc : Nat × List (Nat × Nat)) n =>
    let len := (s.extsIn p n).length * extentBytes
    let hi := acc.1 + len
    (hi, acc.2 ++ [(hi - min share len, hi)])) (0, [])).2

/-- A plot-relative range lies in the lease and outside the stash (R350, R377). -/
def State.inLease (s : State) (p a n : Nat) : Bool :=
  decide (a + n ≤ (s.hbmSpace p).length * extentBytes)
  && (s.stashRanges p).all (fun r => decide (n = 0 ∨ a + n ≤ r.1 ∨ r.2 ≤ a))

/-- The retired pages, and the pages marked for retirement, that lie in the lease of plot `p`. -/
def State.retiredPagesOf (s : State) (p : Nat) : Nat :=
  ((s.hbm.retired ++ s.hbm.marked).filter (fun g =>
    s.leasesExt p (g * pageBytes / stackBytes) (g * pageBytes % stackBytes / extentBytes))).length

/-- Modelled energy caused by a descriptor of a ring on a domain, in units of 0.1 fJ at 0.60 V
(R430, R431). -/
def State.charge (s : State) (p r domain amount : Nat) : State :=
  let acts := s.power.acts
  let hit := acts.any (fun a => decide (a.plot = p ∧ a.ring = r ∧ a.domain = domain))
  let acts' := if hit then acts.map (fun a =>
      if a.plot = p ∧ a.ring = r ∧ a.domain = domain then { a with amount := a.amount + amount } else a)
    else acts ++ [{ plot := p, ring := r, domain := domain, amount := amount }]
  { s with power := { s.power with acts := acts' } }

end Sys2Proof.Machine
end

