-- ==== Sys2Proof/Machine/Flags.lean ====
section
/-! DEFINITION. Every flag computation of the block: the fault words with their classes, sequence
numbers, masks and pins (R443 to R455), the flags cleared by sequence number (R494), and the
completion PHASE bit (R352). -/

namespace Sys2Proof.Machine

/-! ### Classes (Tables 17.2 to 17.4) -/

/-- The classes that Table 17.2 lists for a bit of a grove die's word; none for a reserved bit. -/
def groveClasses (b : Nat) : List Nat :=
  if b = 63 then [4]
  else if b = 30 ∨ b = 28 ∨ b = 25 ∨ b = 4 then [3]
  else if b = 27 ∨ b = 26 ∨ b = 23 ∨ b = 6 then [2]
  else if b = 24 ∨ b = 22 ∨ b = 11 ∨ b = 10 ∨ b = 8 then [1]
  else if b = 29 ∨ b = 9 ∨ b = 7 ∨ b = 5 ∨ b = 3 ∨ b = 2 ∨ b = 0 then [0]
  else if 12 ≤ b ∧ b ≤ 21 then [1, 2]
  else if b = 1 then [2, 3]
  else []

/-- The classes that Table 17.3 lists for a bit of a verge die's word. -/
def vergeClasses (b : Nat) : List Nat :=
  if b = 63 then [4]
  else if b = 35 ∨ b = 30 then [2]
  else if b = 34 ∨ b = 29 ∨ b = 28 then [3]
  else if b = 33 ∨ b = 31 ∨ b = 25 then [0]
  else if b = 32 ∨ b = 27 ∨ b = 26 ∨ b = 24 then [1]
  else if b < 24 then (if b % 8 = 0 ∨ b % 8 = 2 then [0] else [1])
  else []

/-- The classes that Table 17.4 lists for a bit of the clearing die's word. -/
def clearingClasses (b : Nat) : List Nat :=
  if b = 63 ∨ b = 21 then [4]
  else if b = 26 ∨ b = 24 ∨ b = 6 ∨ b = 2 then [2]
  else if b = 25 ∨ b = 19 ∨ b = 17 ∨ b = 11 ∨ b = 10 ∨ b = 3 then [3]
  else if b = 23 ∨ b = 16 ∨ b = 12 ∨ b = 9 ∨ b = 8 ∨ b = 7 then [1]
  else if b = 20 ∨ b = 18 ∨ b = 13 ∨ b = 4 ∨ b = 0 then [0]
  else if b = 22 then [1, 2, 3]
  else if b = 15 then [1, 2]
  else if b = 14 then [1, 3]
  else if b = 5 then [0, 2]
  else if b = 1 then [2, 3]
  else []

/-- The classes of a fault-word bit; dies are numbered as HOTTEST_DIE (R454). -/
def faultClasses (die b : Nat) : List Nat :=
  if die < 16 then groveClasses b
  else if die < 24 then vergeClasses b
  else if die = 24 then clearingClasses b
  else []

/-- The highest class that a bit lists. -/
def topClass (die b : Nat) : Nat := (faultClasses die b).foldl max 0

/-- A mask bit can be written when its bit lists a class C1 or C2 (R453). -/
def maskable (die b : Nat) : Bool := (faultClasses die b).any (fun c => decide (c = 1 ∨ c = 2))

/-! ### Latched bits -/

/-- A bit of a die's fault word. -/
def State.faultBit (s : State) (die b : Nat) : Bool :=
  if b < 32 then s.rdBit (FLT_WORD_LO.WORD_LO die) b else s.rdBit (FLT_WORD_HI.WORD_HI die) (b - 32)

/-- A bit of a die's fault word set or cleared. -/
def State.setFaultBit (s : State) (die b : Nat) (v : Bool) : State :=
  if b < 32 then s.wrBit (FLT_WORD_LO.WORD_LO die) b v
  else s.wrBit (FLT_WORD_HI.WORD_HI die) (b - 32) v

/-- The latched bits of a die's word. -/
def State.faultBits (s : State) (die : Nat) : List Nat :=
  onesOf 32 (s.rd (FLT_WORD_LO.WORD_LO die))
  ++ (onesOf 32 (s.rd (FLT_WORD_HI.WORD_HI die))).map (· + 32)

/-- The mask bit of a fault-word bit (Table 17.21). -/
def State.faultMasked (s : State) (die b : Nat) : Bool :=
  if b < 32 then s.rdBit (FLT_MASK_LO.MASK_LO die) b
  else s.rdBit (FLT_MASK_HI.MASK_HI die) (b - 32)

/-- A bit waits for core 1 to decide its class: its table lists several, and an event of it has not
been handled (R447). -/
def State.undecided (s : State) (die b : Nat) : Bool :=
  decide (1 < (faultClasses die b).length)
  && s.faults.events.any (fun e => decide (e.die = die ∧ e.bit = b))

/-- The class with which a latched bit acts on FAULT_N: decided, or the highest it lists (R453). -/
def State.actingClass (s : State) (die b : Nat) : Nat :=
  if s.undecided die b then topClass die b
  else Tab.val s.faults.decided (64 * die + b) - 1

/-- A latched bit that drives FAULT_N (R451, R453): class C1 or higher, and not masked where a mask
applies. -/
def State.drives (s : State) (die b : Nat) : Bool :=
  let c := s.actingClass die b
  decide (1 ≤ c) && !(decide (c ≤ 2) && s.faultMasked die b)

/-- A die has a bit that drives FAULT_N. -/
def State.dieDrives (s : State) (die : Nat) : Bool := (s.faultBits die).any (s.drives die)

/-- FLT_SUMMARY and FAULT_N as the latched bits give them (Table 17.12, R451). -/
def State.refreshFaults (s : State) : State :=
  let dies := (List.range 25).filter s.dieDrives
  let highest := (List.range 25).foldl (fun m d =>
    (s.faultBits d).foldl (fun m b => max m (Tab.val s.faults.decided (64 * d + b))) m) 0
  let s1 := (s.wr FLT_SUMMARY.DIES (dies.foldl (fun m d => m + 2 ^ d) 0)).wr
    FLT_SUMMARY.HIGHEST highest
  { s1 with faults := { s1.faults with
    faultN := s1.faults.started && dies.isEmpty && !s1.faults.windthrow && s1.faults.thermTripN } }

/-- A fault-log record made from an event, waiting for flash (R455, R30). -/
def State.logFault (s : State) (e : Event) (cls : Nat) : State :=
  let r : FaultRec :=
    { seq := s.flash.nextSeq, time := e.time, die := e.die, bit := e.bit, cls := cls,
      kind := e.kind, plot := e.plots.headD 255, unit := e.unit, detail := e.detail }
  { s with flash := { s.flash with
    nextSeq := s.flash.nextSeq + 1, pendLog := s.flash.pendLog ++ [r] } }

/-- The bit is set, the die's SEQ advances and a bit with one class is decided at once (R447, R452). -/
def State.latchBit (s : State) (die b : Nat) : State :=
  let s1 := (s.setFaultBit die b true).countWrap (FLT_SEQ.SEQ die) 1
  let k := 64 * die + b
  if (faultClasses die b).length = 1 then
    let c := max (Tab.val s1.faults.decided k) (topClass die b + 1)
    { s1 with faults := { s1.faults with decided := Tab.put s1.faults.decided k c } }
  else s1

/-- An unmasked latch of class C1 or higher signals PF vector 0 (R451). -/
def State.signalFault (s : State) (die b : Nat) : State :=
  let top := topClass die b
  if 1 ≤ top ∧ ¬ (top ≤ 2 ∧ s.faultMasked die b = true) then s.msix 0 0 else s

/-- One error line latches (R443, R447, R451, R452).  An event of class C1 or higher waits for core
1; a C0 event that retires, repairs or restores something is logged (R455).  `sure` is the class
where the event itself settles which of several listed classes holds. -/
def State.latchSure (s : State) (die b : Nat) (plots : List Nat) (unit detail kind : Nat)
    (sure : Option Nat) : State :=
  if (faultClasses die b).isEmpty then s
  else
    let e : Event := { die := die, bit := b, plots := plots, unit := unit, detail := detail,
                       kind := kind, time := s.now, sure := sure }
    let s1 := s.latchBit die b
    let s2 := if topClass die b = 0 then (if kind = 0 then s1 else s1.logFault e 0)
      else { s1 with faults := { s1.faults with events := s1.faults.events ++ [e] } }
    s2.refreshFaults.signalFault die b

/-- An error line latches whose class is the one its table gives, or waits for core 1. -/
def State.latch (s : State) (die b : Nat) (plots : List Nat) (unit detail kind : Nat) : State :=
  s.latchSure die b plots unit detail kind none

/-- An error line latches for work that is replayed: the class is C1 if every one of the descriptors completes, and C2
if one fails (R40). -/
def State.latchReplay (s : State) (die b : Nat) (plots : List Nat) (unit : Nat) (waits : List (Nat × Nat)) : State :=
  let n := s.faults.events.length
  let s1 := s.latch die b plots unit 0 0
  { s1 with faults := { s1.faults with
    events := s1.faults.events.mapIdx (fun k e => if n ≤ k then { e with waits := waits } else e) } }

/-- An event latches in the words of several dies; it is one event with one record (R447). -/
def State.latchIn (s : State) (dies : List Nat) (b : Nat) (plots : List Nat)
    (unit detail kind : Nat) : State :=
  match dies with
  | [] => s
  | d :: rest => rest.foldl (fun s d => ((s.latchBit d b).refreshFaults).signalFault d b)
      (s.latch d b plots unit detail kind)

/-- A plain event: no plot, no unit, no detail, not a retirement. -/
def State.latch0 (s : State) (die b : Nat) : State := s.latch die b [] 0 0 0

/-- Writing back SEQ clears every latched bit of the word that is decided as C0, C1 or C2, if no
newer event has latched (R452). -/
def State.faultWriteBack (s : State) (die v : Nat) : State :=
  if v % 256 = s.rd (FLT_SEQ.SEQ die) then
    let clr := (s.faultBits die).filter (fun b =>
      !s.undecided die b && decide (Tab.val s.faults.decided (64 * die + b) ≤ 3))
    (clr.foldl (fun (s : State) b =>
      { s.setFaultBit die b false with faults := { s.faults with
        decided := Tab.put s.faults.decided (64 * die + b) 0 } }) s).refreshFaults
  else s

/-- A mask word written: only the bits of maskable fault-word bits store (R453). -/
def maskStored (die base v : Nat) : Nat :=
  ((List.range 32).filter (fun i => bit v i && maskable die (base + i))).foldl
    (fun m i => m + 2 ^ i) 0

/-- An event of a WSQ register: its sequence number advances (R494). -/
def State.wsq (s : State) (seq : Fld) : State := s.countWrap seq 1

/-- A write-back to a WSQ register: the flags clear only if SEQ is the present one (R494). -/
def State.wsqBack (s : State) (seq : Fld) (v : Nat) (flags : List Fld) : State :=
  if v % 256 = s.rd seq then flags.foldl (fun s f => s.wr f 0) s else s

/-- PHASE of a completion: 1 while ⌊INDEX ÷ 2^SIZE_LOG2⌋ is even (R352). -/
def phaseOf (idx sizeLog2 : Nat) : Nat := if idx / 2 ^ sizeLog2 % 2 = 0 then 1 else 0

/-- FLT_SEQ and the fault word of a die are one value to a reader: the shadow of R495. -/
def shadowKey (path addr : Nat) : Nat := path * 2 ^ 24 + addr

/-- The plots a C2 event on a grove die names: every plot that holds a resource there (R448). -/
def State.namedByDie (s : State) (gd : Nat) : List Nat := s.plotsOnDie gd

end Sys2Proof.Machine
end

