-- ==== Sys2Proof/Machine/Arbiter.lean ====
section
/-! DEFINITION. The maintenance arbiter of core 1 (R464 to R467): kinds 0 to 10 in the order of
Table 17.10; the unit of a lock is the stack (0, 1), the HBM loop (2), the bank 64 * die + bank (3),
the channel group 8 * channel + group (4) or the port (5, 6, 7); kinds 8 to 10 share the system
lock. -/

namespace Sys2Proof.Machine

/-- Activity `a` must wait while `h` holds the resource (Table 17.10, "Waits for"). -/
def waitsFor (a h : Lock) : Bool :=
  if a.kind = 0 then decide (h.kind = 1 ∧ h.unit = a.unit)
  else if a.kind = 1 then decide (h.kind = 2 ∧ h.unit = a.unit / 4)
  else if a.kind = 2 then decide (h.kind = 1 ∧ h.unit / 4 = a.unit)
  else if a.kind = 5 then decide ((h.kind = 6 ∨ h.kind = 7) ∧ h.unit = a.unit)
  else if a.kind = 6 then decide (h.kind = 7 ∧ h.unit = a.unit)
  else if a.kind = 7 then decide ((h.kind = 5 ∨ h.kind = 6 ∨ h.kind = 7) ∧ h.unit = a.unit)
  else if a.kind = 8 then decide (h.kind = 9 ∨ h.kind = 10)
  else if a.kind = 9 then decide (h.kind = 10)
  else if a.kind = 10 then decide (h.kind = 9 ∨ h.kind = 10)
  else false

/-- An activity also waits behind an earlier request that it conflicts with: requests for one
resource are granted in order of arrival.  Substitution goes ahead of staging (R464, R467). -/
def blockedBy (a : Lock) (active earlier : List Lock) : Bool :=
  active.any (waitsFor a) || earlier.any (fun h => waitsFor a h || (waitsFor h a && decide (a.kind ≠ 9)))

/-- FLT_MAINT_STS as the arbiter stands (Table 17.15). -/
def State.refreshMaint (s : State) : State :=
  let act := (List.range 11).filter (fun k => s.maint.active.any (fun l => decide (l.kind = k)))
  (s.wr FLT_MAINT_STS.ACTIVE (act.foldl (fun m k => m + 2 ^ k) 0)).wr
    FLT_MAINT_STS.WAITING s.maint.waiting.length

/-- The manager's authorisation to re-qualify a port retired with cause HOSTILE, at the present membership
epoch (R321). -/
def State.requalAuthorised (s : State) (p : Nat) : Bool :=
  decide (s.rd (LNK_PORT_STS.CAUSE p) = 3 ∧ (s.port p).requalAuth = some s.mgr.epoch)

/-- A request for a resource on a fenced die or a retired port is dropped (R466), but for an authorised
re-qualification (R279, R321); STATE 0x7 of Table 10.17 is RETIRED. -/
def State.lockDropped (s : State) (l : Lock) : Bool :=
  if l.kind ≤ 1 then s.fenced l.unit
  else if l.kind = 3 then s.fenced (l.unit / 64)
  else if 5 ≤ l.kind ∧ l.kind ≤ 7 then decide (s.rd (LNK_PORT_STS.STATE l.unit) = 0x7)
    && !(decide (l.kind = 5) && s.requalAuthorised l.unit)
  else false

/-- The activity runs now. -/
def State.hasLock (s : State) (l : Lock) : Bool := decide (l ∈ s.maint.active)

/-- A request: granted at once, made to wait, or dropped (R464, R466).  A request that already runs
or waits changes nothing. -/
def State.lockRequest (s : State) (l : Lock) : State :=
  if s.lockDropped l ∨ l ∈ s.maint.active ∨ l ∈ s.maint.waiting then s
  else if blockedBy l s.maint.active s.maint.waiting then
    let s1 := s.countUp CNT_MAINT.WAITS 1
    State.refreshMaint { s1 with maint := { s1.maint with waiting := s1.maint.waiting ++ [l] } }
  else State.refreshMaint { s with maint := { s.maint with active := s.maint.active ++ [l] } }

/-- Waiting requests that nothing blocks any longer, in order of arrival. -/
def grantAll (active earlier : List Lock) : List Lock → List Lock × List Lock
  | [] => (active, earlier)
  | l :: rest =>
    if blockedBy l active earlier then grantAll active (earlier ++ [l]) rest
    else grantAll (active ++ [l]) earlier rest

/-- An activity ends and its lock passes on. -/
def State.lockRelease (s : State) (l : Lock) : State :=
  let g := grantAll (s.maint.active.filter (fun x => decide (x ≠ l))) [] s.maint.waiting
  State.refreshMaint { s with maint := { active := g.1, waiting := g.2 } }

/-- A fault response ends conflicting maintenance: the activity is abandoned, writes no record and
is counted (R465). -/
def State.lockAbandon (s : State) (l : Lock) : State :=
  if s.hasLock l then (s.lockRelease l).countUp CNT_MAINT.ABANDONED 1
  else State.refreshMaint { s with maint := { s.maint with
    waiting := s.maint.waiting.filter (fun x => decide (x ≠ l)) } }

end Sys2Proof.Machine
end

