-- ==== Sys2Proof/Machine/Envelope.lean ====
section
/-! DEFINITION. The power envelope: the coolant cap (R436), the limits H and S and the envelope E (R417,
R418), and issue below the floor power (R424). -/

namespace Sys2Proof.Machine

/-- Level in W of a PWR_ENV code (Table 16.2, Table 16.6). -/
def State.envLevel (s : State) (code : Nat) : Nat :=
  10 * (if code = 0 then s.rd PWR_ENV_LEVEL_LO.LEVEL_0 else if code = 1 then s.rd PWR_ENV_LEVEL_LO.LEVEL_1
    else if code = 2 then s.rd PWR_ENV_LEVEL_LO.LEVEL_2 else if code = 3 then s.rd PWR_ENV_LEVEL_LO.LEVEL_3
    else if code = 4 then s.rd PWR_ENV_LEVEL_HI.LEVEL_4 else if code = 5 then s.rd PWR_ENV_LEVEL_HI.LEVEL_5
    else if code = 6 then s.rd PWR_ENV_LEVEL_HI.LEVEL_6 else s.rd PWR_ENV_LEVEL_HI.LEVEL_7)

/-- The level of the pins, or of code 0b000 while the input is low (R417). -/
def State.pinLevel (s : State) : Nat := s.envLevel (if s.power.undervolt then 0 else s.power.envCode)

/-- The coolant cap in W (R436); before the first good reading it is PWR_ENV_LIMIT. -/
def State.coolantCap (s : State) : Nat :=
  let limit := s.rd PWR_ENV_LIMIT.WATTS
  if s.power.coolRead = false then limit
  else limit * min (s.rd PWR_COOL_STS.FLOW_PCT) 80 / 80 - limit * 5 * (s.rd PWR_COOL_STS.INLET_C - 45) / 100

/-- The hard limit H (R418). -/
def State.hardLimit (s : State) : Nat := min s.pinLevel (s.rd PWR_PEAK_LIMIT.WATTS)

/-- The sustained limit S (R418). -/
def State.sustained (s : State) : Nat := min (s.rd PWR_ENV_LIMIT.WATTS) s.power.capW

/-- The envelope E (R418). -/
def State.envelope (s : State) : Nat := min s.hardLimit s.sustained

/-- The term that sets E, the lowest code of Table 16.9 among those at its value. -/
def State.bindingTerm (s : State) : Nat :=
  let e := s.envelope
  if s.pinLevel = e then 1 else if s.rd PWR_ENV_LIMIT.WATTS = e then 2
  else if s.rd PWR_PEAK_LIMIT.WATTS = e then 3 else 4

/-- The coolant cap and the envelope as the limits, the pins and the coolant stand; below the floor power
issue stops (R424). -/
def State.refreshEnvelope (s : State) : State :=
  let s1 := { s with power := { s.power with capW := s.coolantCap } }
  let below := decide (s1.envelope < s1.rd PWR_MEAS.FLOOR_W)
  let s2 := (((s1.wr PWR_STS.PINS s1.power.envCode).wr PWR_STS.EFFECTIVE_W s1.envelope).wr PWR_STS.BINDING
    s1.bindingTerm).wr PWR_STS.BELOW_FLOOR (if below then 1 else 0)
  { s2 with power := { s2.power with stopIssue := below } }

end Sys2Proof.Machine
end

