-- ==== Sys2Proof/Machine/LinkOps.lean ====
section
/-! DEFINITION. Operations shared by everything that uses a port or a transaction tag: flits, the
retry buffer and credits (R267 to R273), the choice of a port (R298), tags (R300 to R302), and what
happens to transfers when a port leaves service (R274). -/

namespace Sys2Proof.Machine

/-! ### Port states (Table 10.17) -/

/-- DOWN. -/
def portDOWN : Nat := 0
/-- TRAINING. -/
def portTRAINING : Nat := 1
/-- ADMITTING. -/
def portADMITTING : Nat := 2
/-- UP. -/
def portUP : Nat := 3
/-- LPI. -/
def portLPI : Nat := 4
/-- ADMIT_FAILED. -/
def portADMITFAILED : Nat := 5
/-- QUARANTINED. -/
def portQUARANTINED : Nat := 6
/-- RETIRED. -/
def portRETIRED : Nat := 7
/-- TEST: re-qualification runs while the other lanes carry traffic. -/
def portTEST : Nat := 8

/-- State of port `p`. -/
def State.portState (s : State) (p : Nat) : Nat := s.rd (LNK_PORT_STS.STATE p)

/-- The paths that ports are to change to, without what port `p` was to change to. -/
def Fabric.unwant (f : Fabric) (p : Nat) : Fabric :=
  { f with pathWant := f.pathWant.filter (fun w => decide (w.1 ≠ p)) }

/-- A port is to move to the vector-engine path at the next epoch boundary (R172, R175). -/
def State.wantPath (s : State) (p : Nat) : State :=
  let f := s.fabric.unwant p
  { s with fabric := if p ∈ f.pathVe then f else { f with pathWant := f.pathWant ++ [(p, true)] } }

/-- A port whose link adder serves again is to move back to it; in Sapling service every port keeps the path (R172). -/
def State.wantAdder (s : State) (p : Nat) : State :=
  let f := s.fabric.unwant p
  if p ∈ f.adderFault ∨ s.rd CTL_BRINGUP_STS.PHASE ≠ 3 then s
  else { s with fabric := if p ∈ f.pathVe then { f with pathWant := f.pathWant ++ [(p, false)] } else f }

/-- What a port's new state means for its link adder: not there in link test and while the port trains (R172). -/
def State.portPath (s : State) (p v : Nat) : State :=
  if v = portTRAINING ∨ v = portTEST then s.wantPath p else if v = portUP then s.wantAdder p else s

/-- The state of port `p` set. -/
def State.setPortState (s : State) (p v : Nat) : State := (s.wr (LNK_PORT_STS.STATE p) v).portPath p v

/-- The port carries traffic: UP, LPI or TEST, no frequency change pauses it (R47) and its SerDes
loop has not stopped its island (R48). -/
def State.portCarries (s : State) (p : Nat) : Bool :=
  let v := s.portState p
  decide (v = portUP ∨ v = portLPI ∨ v = portTEST) && decide (4 + p ∉ s.clocks.active)
  && !(Tab.val s.clocks.loops (5 + p / 3)).islandStopped

/-- The port runs an Ethernet mode: MODE in force is 0x3 to 0x6 (Table 10.16). -/
def State.ethernet (s : State) (p : Nat) : Bool := decide (3 ≤ (s.port p).appliedMode)

/-- Link layer of a native port, or of the path to a node on an Ethernet port (R293). -/
def State.link (s : State) (p node : Nat) : LinkSide :=
  if s.ethernet p then Tab.val (s.port p).paths node else (s.port p).link

/-- That link layer changed. -/
def State.modLink (s : State) (p node : Nat) (f : LinkSide → LinkSide) : State :=
  s.modPort p (fun q => if s.ethernet p then { q with paths := Tab.upd q.paths node f }
    else { q with link := f q.link })

/-- Verge die of a port (R9), and its number in the fault words. -/
def dieOfPort (p : Nat) : Nat := 16 + p / 3

/-- Fault-word bit `b` (0 to 7) of a port (Table 17.3). -/
def portBit (p b : Nat) : Nat := 8 * (p % 3) + b

/-! ### Flits (Table 10.2) -/

/-- Bytes padded with zeros to a length. -/
def padTo (n : Nat) (l : List Byte) : List Byte := (l ++ List.replicate (n - l.length) 0).take n

/-- The 256 bytes of a flit. -/
def flitBytes (typ seq : Nat) (ackValid nak : Bool) (ackSeq dst src tag ctx : Nat)
    (payload : List Byte) : List Byte :=
  let head := leBytes 2 (typ * 4096 + seq)
    ++ leBytes 2 ((if ackValid then 0x8000 else 0) + (if nak then 0x4000 else 0) + ackSeq)
    ++ leBytes 3 (dst + src * 1024) ++ leBytes 1 payload.length ++ leBytes 2 tag ++ leBytes 2 ctx
  let body := head ++ padTo 240 payload
  body ++ leBytes 4 (crc32 body)

/-- This device's node number. -/
def State.node (s : State) : Nat := s.rd STS_MGT_ROLE.NODE

/-- The bytes of a sequenced flit as it leaves now, with the acknowledgement of its link. -/
def State.wire (s : State) (l : LinkSide) (f : RetryFlit) : List Byte :=
  flitBytes f.typ f.seq true false ((l.expected + 4095) % 4096) f.dst s.node f.tag f.ctx f.payload

/-- The frame that carries flits on an Ethernet port (R291): EtherType 0x88B5, VERSION 1 with the
flit count, the flits. -/
def xasinFrame (flits : List (List Byte)) : List Byte :=
  [0x88, 0xB5] ++ leBytes 4 (1 + 16 * flits.length) ++ flits.flatten

/-- CRC step with the polynomial of IEEE 802.3, 0x04C1_1DB7, least significant bit first. -/
def fcsBit : Nat → Nat → Nat
  | 0, c => c
  | n + 1, c => fcsBit n (if c % 2 = 1 then Nat.xor (c / 2) 0xEDB88320 else c / 2)

/-- The FCS of a frame (R290, R308): the CRC-32 of IEEE 802.3 (PRESUMED, safe: log 178). -/
def fcs (l : List Byte) : Nat :=
  Nat.xor (l.foldl (fun c b => fcsBit 8 (Nat.xor c b.toNat)) 0xFFFFFFFF) 0xFFFFFFFF

/-- A frame from its destination address on, with its FCS after it; addresses are sent most significant byte first. -/
def macFrame (dst src : BitVec 48) (rest : List Byte) : List Byte :=
  let b := (leBytes 6 dst.toNat).reverse ++ (leBytes 6 src.toNat).reverse ++ rest
  b ++ leBytes 4 (fcs b)

/-- The address that reaches every device of a segment. -/
def broadcastMac : BitVec 48 := 0xFFFFFFFFFFFF

/-- This device's identity. -/
def State.deviceId (s : State) : Nat := s.rd CTL_DEVICE_ID_LO.ID_LO + 2 ^ 32 * s.rd CTL_DEVICE_ID_HI.ID_HI

/-- The VLAN tag of Xasin frames, if firmware configuration gives one (R290). -/
def State.vlanTag (s : State) : List Byte :=
  match s.flash.cfgVlan with
  | none => []
  | some v => [0x81, 0x00] ++ (leBytes 2 v).reverse

/-- The whole frame on an Ethernet port toward a node, whose MAC address stands in the route table (R290, R291, R297). -/
def State.ethFrame (s : State) (p node : Nat) (flits : List (List Byte)) : List Byte :=
  let dst := (((Tab.val s.fabric.routeMacs node).find? (fun m => decide (m.1 = p))).map (fun m => m.2)).getD 0
  macFrame (BitVec.ofNat 48 dst) (Config.macAddress s.deviceId p) (s.vlanTag ++ xasinFrame flits)

/-- Lists of at most five, in order. -/
def groupsOf5 {α : Type} : Nat → List α → List (List α)
  | 0, _ => []
  | n + 1, l => if l.isEmpty then [] else l.take 5 :: groupsOf5 n (l.drop 5)

/-- Flits put on the wire of a port, in frames of five on an Ethernet port. -/
def State.emit (s : State) (p node : Nat) (flits : List (List Byte)) : State :=
  if s.ethernet p then
    (groupsOf5 flits.length flits).foldl (fun s g => s.send (.frame p node (s.ethFrame p node g))) s
  else flits.foldl (fun s b => s.send (.flit p b)) s

/-- Flits leave while a credit is held; a new one also needs room in the retry buffer of the port and fewer than
2,047 flits unacknowledged (R271, R273).  One that is sent again keeps its SEQ (R272). -/
def pump (room : Nat) (l : LinkSide) : List RetryFlit → LinkSide × List RetryFlit
  | [] => ({ l with queue := [] }, [])
  | f :: q =>
    if l.credits = 0 ∨ (f.old = false ∧ (room = 0 ∨ 2047 ≤ l.buffer.length)) then ({ l with queue := f :: q }, [])
    else
      let g := { f with seq := if f.old then f.seq else l.nextSeq, old := false }
      let r := pump (if f.old then room else room - 1)
        { l with nextSeq := if f.old then l.nextSeq else (l.nextSeq + 1) % 4096, buffer := l.buffer ++ [g],
                 credits := l.credits - 1 } q
      (r.1, g :: r.2)

/-- Flits of a link that are not acknowledged. -/
def LinkSide.unacked (l : LinkSide) : Nat := l.buffer.length + (l.queue.filter (fun f => f.old)).length

/-- Flits of a port that are not acknowledged, over all its paths. -/
def State.portUnacked (s : State) (p : Nat) : Nat :=
  if s.ethernet p then (s.port p).paths.foldl (fun n q => n + q.2.unacked) 0 else (s.port p).link.unacked

/-- SOSC time at which a link retry timer started now passes (R456). -/
def State.linkDue (s : State) : Nat := s.now + s.rd FLT_TMO_LINK.US * perUs

/-- SOSC time at which a transfer timer started now passes (R456). -/
def State.transferDue (s : State) : Nat := s.now + s.rd FLT_TMO_TRANSFER.UNITS * 100 * perUs

/-- Flits may leave on a port: it carries traffic and is awake, or its ends go through admission (R280, R282). -/
def State.portSends (s : State) (p : Nat) : Bool :=
  (s.portCarries p && decide (s.portState p ≠ portLPI)) || decide (s.portState p = portADMITTING)

/-- Whatever may leave now on a link leaves. -/
def State.pumpLink (s : State) (p node : Nat) : State :=
  if s.portSends p then
    let l := s.link p node
    let r := pump (2048 - s.portUnacked p) l l.queue
    if r.2.isEmpty then s
    else
      let due := if l.unacked = 0 then s.linkDue else l.retryDue
      ((s.modLink p node (fun _ => { r.1 with retryDue := due })).modPort p (fun q => { q with
        activeAt := s.now })).emit p node (r.2.map (s.wire r.1))
  else s

/-- Whatever may leave now on a port, on each path of an Ethernet port, leaves. -/
def State.pumpPort (s : State) (p : Nat) : State :=
  if s.ethernet p then (s.port p).paths.foldl (fun s q => s.pumpLink p q.1) s
  else s.pumpLink p (s.rd (LNK_PORT_STS.PARTNER p))

/-- The 240-byte pieces of a transfer with their TAG fields: FIRST on the first, LAST on the last. -/
def piecesOf (tag : Nat) (payload : List Byte) : List (Nat × List Byte) :=
  let n := max 1 (ceilDiv payload.length 240)
  (List.range n).map (fun i =>
    (tag + (if i + 1 = n then 2 ^ 13 else 0) + (if i = 0 then 2 ^ 14 else 0),
     (payload.drop (240 * i)).take 240))

/-- The bytes a seal covers: source, destination, tag, CTX, byte count and every payload byte. -/
def sealInput (src dst tag ctx : Nat) (payload : List Byte) : List Byte :=
  leBytes 2 src ++ leBytes 2 dst ++ leBytes 2 tag ++ leBytes 2 ctx ++ leBytes 8 payload.length
    ++ payload

/-- Sequenced flits queued on a link and sent as far as they may be; new traffic cancels a proposal of low-power idle
(R280), and a fenced device forms no transfer (R318). -/
def State.sendFlits (s : State) (p node typ ctx : Nat) (pieces : List (Nat × List Byte)) : State :=
  if s.mgr.fencedSelf = true ∧ 3 ≤ typ then s
  else
    ((s.modPort p (fun q => { q with lpiOffer := false, lpiHeard := none })).modLink p node (fun l => { l with
      queue := l.queue ++ pieces.map (fun q =>
        ({ typ := typ, tag := q.1, dst := node, ctx := ctx, payload := q.2 } : RetryFlit)) })).pumpLink p node

/-! ### Control frames (R285) -/

/-- The kind of a control frame; `Config.frameType` gives its type. -/
def Ctrl.code : Ctrl → Nat
  | .laneRetire _ => 0
  | .lpi _ => 1
  | .portReport _ _ _ => 2
  | .joinReq _ _ => 3
  | .joinForward _ _ _ => 4
  | .joinAnswer _ _ _ _ _ => 5
  | .leaveReq _ => 6
  | .leaveGranted _ => 7
  | .table _ _ _ _ _ _ => 8
  | .heartbeat _ _ => 9
  | .mgrHeartbeat _ _ _ _ => 10
  | .fence _ => 11
  | .poll => 12
  | .pollAnswer _ => 13
  | .announce _ _ => 14
  | .deviceDown => 15
  | .standDown => 16
  | .requalAuth _ _ => 17
  | .barrierReport _ _ _ => 18
  | .barrierAnswer _ _ _ => 19
  | .plotReset _ _ => 20
  | .plotWasReset _ => 21
  | .epochAbort _ _ _ => 22
  | .hbPeriods _ _ => 23
  | .substitute _ _ _ => 24

/-- What a control frame says, as numbers. -/
def Ctrl.words : Ctrl → List Nat
  | .laneRetire l => l
  | .lpi w => [w]
  | .portReport p n c => [p, n, c]
  | .joinReq d l => d :: l
  | .joinForward d c l => d :: c :: l
  | .joinAnswer d st n r k => [d, st, n, r, k.toNat]
  | .leaveReq n => [n]
  | .leaveGranted n => [n]
  | .table n k e r l key => [n, k, e, r, b2n l, key.toNat]
  | .heartbeat q m => [q, m]
  | .mgrHeartbeat e m l k => e :: m :: l.length :: (l ++ k)
  | .fence n => [n]
  | .poll => []
  | .pollAnswer b => [b2n b]
  | .announce e d => [e, d]
  | .deviceDown => []
  | .standDown => []
  | .requalAuth p n => [p, n]
  | .barrierReport l t b => [l, t, b2n b]
  | .barrierAnswer l t b => [l, t, b2n b]
  | .plotReset l b => [l, b2n b]
  | .plotWasReset l => [l]
  | .epochAbort k e b => [k, e, b2n b]
  | .hbPeriods d m => [d, m]
  | .substitute l n k => [l, n, k]

/-- The payload of a control frame with a counter under a key: counter, type, body length, at most 196 body bytes, and
the HMAC-SM3 tag over every byte before it (R285). -/
def Ctrl.frame (c : Ctrl) (key : BitVec 256) (n : Nat) : List Byte :=
  let body := (Config.frameBody c.code c.words).take 196
  let m := leBytes 8 n ++ leBytes 2 (Config.frameType c.code).toNat ++ leBytes 2 body.length ++ body
  m ++ leBytes 32 (Config.hmac key m).toNat

/-- A control frame that a fenced device sends all the same: its request to join again (R462). -/
def Ctrl.joins : Ctrl → Bool
  | .joinReq _ _ => true
  | _ => false

/-- A control frame sent on a port toward a node, under this end's control key with the next frame counter (R285);
`tag` is the transaction tag of a request that awaits an answer (R300), else 0. -/
def State.controlTag (s : State) (p node tag : Nat) (c : Ctrl) : State :=
  if s.mgr.fencedSelf = true ∧ c.joins = false then s
  else
    let l := s.link p node
    ((s.modLink p node (fun l => { l with ctrlTx := l.ctrlTx + 1 })).send (.control p c)).sendFlits
      p node 1 0 [(tag + 2 ^ 13 + 2 ^ 14, c.frame l.txCtrl l.ctrlTx)]

/-- A control frame that awaits no answer. -/
def State.control (s : State) (p node : Nat) (c : Ctrl) : State := s.controlTag p node 0 c

/-! ### Routes (R297, R298) -/

/-- The ports that the route entry of a node lists. -/
def State.routeOf (s : State) (node : Nat) : List Nat := Tab.val s.fabric.routes node

/-- Unacknowledged bytes of a port. -/
def State.unacked (s : State) (p : Nat) : Nat := 256 * s.portUnacked p

/-- A port carries traffic to a node; on an Ethernet port the path must have been admitted (R293). -/
def State.reaches (s : State) (node p : Nat) : Bool :=
  s.portCarries p && (!s.ethernet p || (s.link p node).keys)

/-- Of some ports, the one that carries traffic with the fewest bytes unacknowledged (R298); ties go
to the first listed. -/
def State.pickPort (s : State) (node : Nat) (ports : List Nat) : Option Nat :=
  ((ports.filter (s.reaches node)).foldl (fun (best : Option Nat) p =>
    match best with
    | none => some p
    | some q => if s.unacked p < s.unacked q then some p else some q) none)

/-- A control frame toward a node on its route, if it has one. -/
def State.controlTo (s : State) (node : Nat) (c : Ctrl) : State :=
  match s.pickPort node (s.routeOf node) with
  | some p => s.control p node c
  | none => s

/-- A control frame toward the manager. -/
def State.toManager (s : State) (c : Ctrl) : State :=
  match s.mgr.managerNode with
  | some m => if m = s.node then s else s.controlTo m c
  | none => s

/-! ### Descriptors under way -/

/-- Descriptor `i` of ring `r` finishes with a completion code and VALUE (R352, R354); one that has
finished keeps its outcome. -/
def State.finish (s : State) (r i st v : Nat) : State :=
  s.modRing r (fun q => { q with entries := q.entries.map (fun e =>
    if e.idx = i ∧ e.stage < 3 then
      { e with stage := 3, status := BitVec.ofNat 8 st, value := BitVec.ofNat 32 v } else e) })

/-- The entry of descriptor `i` of ring `r`. -/
def State.entry (s : State) (r i : Nat) : Option Entry :=
  (s.ring r).entries.find? (fun e => decide (e.idx = i))

/-! ### Transaction tags (R300 to R302) -/

/-- STS_LNK_TAGS as the pool stands. -/
def State.refreshTags (s : State) : State :=
  let n := s.tags.used.length
  (s.wr STS_LNK_TAGS.IN_USE n).wr STS_LNK_TAGS.PEAK (max n (s.rd STS_LNK_TAGS.PEAK))

/-- The cap of tags toward a peer (R301). -/
def State.peerCap (s : State) (node : Nat) : Nat :=
  let c := Tab.val s.tags.caps node
  if c = 0 then s.rd LNK_TAG_CFG.DEFAULT_CAP else c - 1

/-- Outstanding non-posted requests of a function (R335). -/
def State.readsOf (s : State) (func : Nat) : Nat :=
  (s.tags.used.filter (fun t => decide (t.kind = 4 ∧ t.func = func))).length

/-- A transaction may take a tag: its peer's cap, its plot's share, the local reserve and, for a
host read, the limit of its function allow it (R301, R302, R335, R378). -/
def State.mayTake (s : State) (t : TagUse) : Bool :=
  decide (s.tags.used.length < 8192)
  && (match t.peer with
      | none => true
      | some n =>
        decide ((s.tags.used.filter (fun u => decide (u.peer = some n))).length < s.peerCap n)
        && decide ((s.tags.used.filter (fun u => u.peer.isSome)).length
            < 8192 - s.rd LNK_TAG_CFG.LOCAL_RESERVE))
  && (match t.plot with
      | none => true
      | some p => decide ((s.tags.used.filter (fun u => decide (u.plot = some p))).length
          < s.rd (PLOT_TAGS.TAGS p)))
  && (decide (t.kind ≠ 4) || decide (s.readsOf t.func < (if s.pcie.tenBit then 768 else 256)))

/-- The lowest number, among the first `n + 1`, that a list does not hold. -/
def lowestFree (l : List Nat) : Nat → Nat
  | 0 => 0
  | n + 1 => let k := lowestFree l n
    if k ∈ l then n + 1 else k

/-- A tag number that no transaction uses. -/
def State.freeTag (s : State) : Nat :=
  let l := s.tags.used.map (fun t => t.tag)
  lowestFree l l.length

/-- A tag is released. -/
def State.dropTag (s : State) (t : TagUse) : State :=
  State.refreshTags { s with tags := { s.tags with used := s.tags.used.filter (fun u =>
    decide (u.tag ≠ t.tag)) } }

/-- Nothing is outstanding for descriptor `i` of ring `r`. -/
def State.idleEntry (s : State) (r i : Nat) : Bool :=
  !(s.tags.used ++ s.tags.waiting).any (fun t => decide (t.ring = r ∧ t.idx = i ∧ t.kind ≠ 3))

/-- A descriptor whose last transaction has ended finishes with OK. -/
def State.finishIfIdle (s : State) (r i : Nat) : State :=
  if s.idleEntry r i then s.finish r i 0 0 else s

/-- Bytes written to host memory. -/
def Memory.write (m : Memory) (a : Nat) : List Byte → Memory
  | [] => m
  | b :: l => Memory.write (Tab.put m a b) (a + 1) l

/-- Bytes read from a memory. -/
def Memory.read (m : Memory) (a : Nat) : Nat → List Byte
  | 0 => []
  | n + 1 => Tab.val m a :: Memory.read m (a + 1) n

/-- Where pieces of a range end at multiples of `m` bytes: (address, length). -/
def payloadsOf (m a n : Nat) : List (Nat × Nat) :=
  (blocksOf m a n).map (fun g => (max a (g * m), min (a + n) ((g + 1) * m) - max a (g * m)))

/-- Bytes written to host memory for a function, in TLPs of at most Max Payload Size; data writes carry Relaxed Ordering
where the function has it enabled, completion entries and records never (R329, R334, R335). -/
def State.hostWrite (s : State) (func a : Nat) (b : List Byte) (data : Bool) : State :=
  let relaxed := data && (Tab.val s.pcie.funcs func).relaxed
  (payloadsOf s.pcie.mps a b.length).foldl (fun (s : State) c => s.send (.dmaWrite func c.1 c.2 relaxed s.pcie.ecrcGen))
    { s with host := Memory.write s.host a b }

/-- 2.5 pJ for each bit sent on a lane (R430): one flit of 256 bytes in units of 0.1 fJ. -/
def laneFlitEnergy : Nat := 25000 * 8 * 256

/-- A transfer of flits leaves on a port: its pieces, then its seal, except that a request and a
control request carry none (R286). -/
def State.sendTransfer (s : State) (t : TagUse) (node p : Nat) : State :=
  let pieces := piecesOf t.tag t.bytes
  let s0 := match t.plot with
    | some q => s.charge q t.ring (32 + p) (laneFlitEnergy * pieces.length)
    | none => s
  let s1 := s0.sendFlits p node t.typ t.ctx pieces
  if t.kind = 0 ∨ t.kind = 2 then
    s1.sendFlits p node 8 0 [(t.tag, leBytes 32 (Config.hmac (s1.link p node).txSeal
      (sealInput s.node node t.tag t.ctx t.bytes)).toNat)]
  else s1

/-- Every transaction of a descriptor is dropped, used tags and waits alike. -/
def State.dropTags (s : State) (r i : Nat) : State :=
  State.refreshTags { s with tags := { s.tags with
    used := s.tags.used.filter (fun t => decide (t.ring ≠ r ∨ t.idx ≠ i))
    waiting := s.tags.waiting.filter (fun t => decide (t.ring ≠ r ∨ t.idx ≠ i)) } }

/-- The epoch in execution on a schedule fails: it stops here, its streams end, and an abort goes to
every other device of the schedule (R230). -/
def State.failEpoch (s : State) (k : Nat) (sealFail : Bool) : State :=
  match (s.sched k).job with
  | none => s
  | some j =>
    if j.failed.isSome then s
    else
      let s1 := (s.modSched k (fun c => { c with job := some { j with failed := some sealFail } })).dropTags
        j.ring j.idx
      ((s.sched k).nodes.filter (fun n => decide (n ≠ s.node))).foldl
        (fun s n => s.controlTo n (.epochAbort k j.epoch sealFail)) s1

/-- A descriptor that has ended takes its exchange or dispatch with it. -/
def State.dropEpoch (s : State) (r i : Nat) : State :=
  let one (_ : Nat) (c : Sched) : Sched :=
    if c.job.any (fun j => decide (j.ring = r ∧ j.idx = i)) then { c with job := none } else c
  { s with fabric := { s.fabric with scheds := Tab.mapV one s.fabric.scheds } }

/-- A descriptor's stream that no port can carry on fails the epoch of its job (R230, R274). -/
def State.failStream (s : State) (r i : Nat) : State :=
  let mine (j : XJob) : Bool := decide (j.ring = r ∧ j.idx = i)
  (s.fabric.scheds.filter (fun e => e.2.job.any mine)).foldl (fun s e => s.failEpoch e.1 false) s

/-- The ports that may carry a transaction to a node: those of the route entry, or for a row of expert dispatch those
that the routing entry of the node names, and of these the ones its plot leases (R232, R297, R298).  That an entry which
names no path leaves the choice to the route entry is a DESIGN CHOICE, safe: log 177. -/
def State.portsFor (s : State) (t : TagUse) (node : Nat) : List Nat :=
  let named := ((s.fabric.routing.find? (fun q => decide (q.2.node = node))).map (fun q => q.2.path)).getD []
  (if t.typ = 7 ∧ named ≠ [] then named else s.routeOf node).filter (fun p => match t.plot with
    | some q => s.leasesPort q p
    | none => true)

/-- A tag is taken; its transfer timer starts (R302, R456). -/
def State.putTag (s : State) (t : TagUse) : State :=
  State.refreshTags { s with tags := { s.tags with used := s.tags.used ++ [{ t with
    deadline := s.transferDue, takenAt := s.now }] } }

/-- A control request goes to its peer, or to the partner of every copse port where it is not yet known which device is
to answer it (R300, R314). -/
def State.sendRequest (s : State) (t : TagUse) (c : Ctrl) : State :=
  match t.peer with
  | some n =>
    match s.pickPort n (s.routeOf n) with
    | some p => s.controlTag p n t.tag c
    | none => s
  | none => ((List.range 24).filter (fun p => !s.ethernet p && s.portCarries p)).foldl (fun s p =>
      s.controlTag p (s.rd (LNK_PORT_STS.PARTNER p)) t.tag c) s

/-- A transaction whose tag is taken begins (R298, R300, R335); a DMA write takes and releases its tag here. -/
def State.beginTx (s : State) (t : TagUse) : State :=
  if t.kind = 5 then
    (State.dropTag (State.putTag (s.hostWrite t.func t.addr t.bytes true) t) t).finishIfIdle t.ring t.idx
  else if t.kind = 4 then (s.putTag t).send (.dmaRead t.func t.addr t.len t.tag)
  else match t.ctrl with
  | some c => (s.putTag t).sendRequest t c
  | none =>
    match t.peer with
    | none => s.putTag t
    | some node =>
      match s.pickPort node (s.portsFor t node) with
      | some p => (s.putTag { t with port := p }).sendTransfer { t with port := p } node p
      | none =>
        (if t.kind = 2 then (s.dropTags t.ring t.idx).dropEpoch t.ring t.idx else s).finish t.ring t.idx 0x14 0

/-- The first waiting transaction that may take a tag and has no earlier one of its ring before it
in the queue, with the queue that remains. -/
def State.firstWaiting (s : State) (seen : List TagUse) : List TagUse → Option (TagUse × List TagUse)
  | [] => none
  | t :: rest =>
    if !(seen.any (fun u => decide (u.ring = t.ring))) && s.mayTake t then some (t, seen ++ rest)
    else State.firstWaiting s (seen ++ [t]) rest

/-- A transaction asks for a tag: it begins, or it waits behind an earlier waiting transaction of its ring, behind one
of the device to which a freed tag goes, or for a tag it may take (R302). -/
def State.askTag (s : State) (t : TagUse) : State :=
  if !(s.tags.waiting.any (fun u => decide (u.ring = t.ring))) && (s.firstWaiting [] s.tags.waiting).isNone
      && s.mayTake t then
    s.beginTx { t with tag := s.freeTag }
  else
    State.countWrap { s with tags := { s.tags with waiting := s.tags.waiting ++ [t] } }
      CNT_TAG_STALL.COUNT 1

/-- A control request that awaits an answer takes a tag (R300); `key` is 0 for a join and 1 + the lease for a barrier
report, and a request of that key that still waits gives way. -/
def State.request (s : State) (peer : Option Nat) (key : Nat) (c : Ctrl) : State :=
  let s1 := State.refreshTags { s with tags := { s.tags with
    used := s.tags.used.filter (fun t => decide (t.kind ≠ 3 ∨ t.idx ≠ key))
    waiting := s.tags.waiting.filter (fun t => decide (t.kind ≠ 3 ∨ t.idx ≠ key)) } }
  s1.askTag { kind := 3, peer := peer, ring := 1024 + key, idx := key, typ := 1, ctrl := some c }

/-- The answer to a control request releases its tag. -/
def State.answered (s : State) (key : Nat) : State :=
  State.refreshTags { s with tags := { s.tags with
    used := s.tags.used.filter (fun t => decide (t.kind ≠ 3 ∨ t.idx ≠ key))
    waiting := s.tags.waiting.filter (fun t => decide (t.kind ≠ 3 ∨ t.idx ≠ key)) } }

/-! ### A port leaves service (R274, R288, R289) -/

/-- A transfer of a departed port is sent again from its start, once, on another port of its route
with a fresh seal; with no other port a put or a read fails with TRANSFER_FAILED, and a stream fails its epoch
(R230, R274, R354). -/
def State.resend (s : State) (p : Nat) (t : TagUse) : State :=
  match t.peer with
  | none => s
  | some node =>
    let ports := (s.portsFor t node).filter (fun q => decide (q ≠ p))
    match (if t.resent then none else s.pickPort node ports) with
    | some q =>
      let t' := { t with port := q, resent := true, data := [], deadline := s.transferDue }
      State.sendTransfer { s with tags := { s.tags with
        used := s.tags.used.map (fun u => if u.tag = t.tag then t' else u) } } t' node q
    | none => if t.kind = 2 then s.failStream t.ring t.idx else (s.dropTag t).finish t.ring t.idx 0x16 0

/-- The epochs that run over a port fail (R230): every job with a stream on it, or one of whose peers it reaches. -/
def State.failEpochsOn (s : State) (p : Nat) (sealFail : Bool) : State :=
  let stream (j : XJob) : Bool := s.tags.used.any (fun t => decide (t.kind = 2 ∧ t.port = p
    ∧ t.ring = j.ring ∧ t.idx = j.idx))
  let hears (c : Sched) (j : XJob) : Bool := s.leasesPort j.plot p
    && c.nodes.any (fun n => decide (n ≠ s.node ∧ p ∈ s.routeOf n))
  (s.fabric.scheds.filter (fun e => e.2.job.any (fun j => stream j || hears e.2 j))).foldl
    (fun s e => s.failEpoch e.1 sealFail) s

/-- The slab a partial transfer had claimed is free of the claim again. -/
def State.unclaim (s : State) (slab : Nat) : State := s.modSlab slab (fun e => { e with claimed := false })

/-- Port `p` leaves service for the state `st`: its link state and sessions end, partial transfers
that arrived over it are discarded, and transfers in flight move or fail (R274).  A port that leaves for training takes
its link adder from its epochs, which are replayed (R172, R175). -/
def State.portLeave (s0 : State) (p st : Nat) : State :=
  let s := if st = portTRAINING then s0.failEpochsOn p false else s0
  let inflight := s.tags.used.filter (fun t => decide (t.port = p ∧ t.kind ≠ 3) && t.peer.isSome)
  let gone := s.puts.filter (fun u => decide (u.port = p))
  let s1 := gone.foldl (fun s u => s.unclaim u.slab)
    { s with puts := s.puts.filter (fun u => decide (u.port ≠ p)) }
  let s2 := (((if s1.hasLock { kind := 5, unit := p } then s1.lockAbandon { kind := 5, unit := p } else s1).setPortState
    p st).wr (STS_LNK_LPI.WAKE_NS p) 0).modPort p (fun q =>
    { q with link := {}, paths := [], lpiOffer := false, lpiHeard := none, serHigh := [], fecPos := 0, fecBad := false
             fecErrs := [], fecSyms := [], serAt := s.now, requalRun := [] })
  inflight.foldl (fun s t => if s.tags.used.any (fun u => decide (u.tag = t.tag)) then s.resend p t else s) s2

/-- Pins of a port that cannot serve: DOWN unless it is retired. -/
def State.portOut (s : State) (p : Nat) : State :=
  if s.portState p = portRETIRED then s else s.portLeave p portDOWN

/-! ### Floor power (R424) -/

/-- FLOOR_W is formed again from a measurement, and E is held against it. -/
def State.formFloor (s : State) : State := (s.tick.wr PWR_MEAS.FLOOR_W (Config.floorPower s.draws)).refreshEnvelope

/-! ### Lane-retirement records (R28 to R30) -/

/-- A lane-retirement record waits for flash.  Its sequence number comes from the one counter that the three tables
share (R28): DESIGN CHOICE, unsafe: log 196. -/
def State.recordLane (s : State) (kind unit sub cause : Nat) : State :=
  let r : LaneRec := { seq := s.flash.nextSeq, kind := kind, unit := unit, sub := sub, cause := cause }
  { s with flash := { s.flash with
      nextSeq := s.flash.nextSeq + 1, pendLane := s.flash.pendLane ++ [r] } }

/-- Port `p` is retired with a cause of Table 10.17; the retirement is kept in flash (R278). -/
def State.retirePort (s : State) (p cause : Nat) : State :=
  if s.portState p = portRETIRED then s
  else
    let s1 := ((s.portLeave p portRETIRED).wr (LNK_PORT_STS.CAUSE p) cause).recordLane 4 p 0 cause
    let s2 := (s1.maint.active ++ s1.maint.waiting).foldl (fun s l =>
      if 5 ≤ l.kind ∧ l.kind ≤ 7 ∧ l.unit = p then s.lockAbandon l else s) s1
    s2.formFloor.latch (dieOfPort p) (portBit p 5) [] p (s.rd (LNK_PORT_STS.PARTNER p)) 1

/-- The retirement of a quarantined port stands in flash: the port is RETIRED with cause HOSTILE (R289). -/
def State.quarantineKept (s : State) (p : Nat) : State :=
  if s.portState p = portQUARANTINED then
    (s.setPortState p portRETIRED).formFloor.latch (dieOfPort p) (portBit p 5) [] p
      (s.rd (LNK_PORT_STS.PARTNER p)) 1
  else s

/-- The port retrains on its lanes in service as a C1 event; the third within one hour retires it with cause FAULT. -/
def State.retrainOr (s : State) (p count : Nat) : State :=
  if 3 ≤ count then s.retirePort p 2 else (s.portLeave p portTRAINING).latch (dieOfPort p) (portBit p 3) [] p 0 0

/-- Retries attributed to the port beyond the allowed number (R276). -/
def State.retrain (s : State) (p : Nat) : State :=
  let times := recent s.now perHour (s.port p).retrains ++ [s.now]
  (s.modPort p (fun q => { q with retrains := times })).retrainOr p times.length

/-- A partner that stalls or misbehaves (Table 10.6). -/
def State.stalled (s : State) (p : Nat) : State :=
  let times := recent s.now perHour (s.port p).stalls ++ [s.now]
  (s.modPort p (fun q => { q with stalls := times })).retrainOr p times.length

end Sys2Proof.Machine
end

