-- ==== Sys2Proof/Machine/MacOps.lean ====
section
/-! DEFINITION. The management MAC's sending side (R306, R307, R310), and the tables that the manager writes
(R297, R205, R232, R313, R464). -/

namespace Sys2Proof.Machine

/-- The management state changed. -/
def State.modMgr (s : State) (f : Mgr → Mgr) : State := { s with mgr := f s.mgr }

/-- The MAC changed. -/
def State.modMac (s : State) (f : Mac → Mac) : State := { s with mac := f s.mac }

/-- PLCA governs sending: it is enabled and its status is OK (R307). -/
def State.plcaRules (s : State) : Bool := decide (s.rd CFG_MGT_MAC.PLCA_EN = 1) && s.mac.plcaOk

/-- SOSC periods that a frame occupies the wire at 10 Mb/s, with its preamble (R305). -/
def frameTime (f : List Byte) : Nat := ceilDiv ((f.length + 8) * 64) 10

/-- An attempt starts. -/
def State.macAttempt (s : State) (f : List Byte) (n : Nat) : State :=
  (s.modMac (fun m => { m with
    sending := some f, attempts := n, backoff := false, sendEnd := s.now + frameTime f })).send (.mgtFrame f)

/-- The next waiting frame is put on the wire for its first attempt. -/
def State.macNext (s : State) : State :=
  match s.mac.queue with
  | [] => s.modMac (fun m => { m with sending := none, attempts := 0, backoff := false })
  | f :: rest => (s.modMac (fun m => { m with queue := rest })).macAttempt f 1

/-- A frame backs off, or is still on the wire, or the MAC's island has stopped (R48, R306). -/
def State.macBusy (s : State) : Bool :=
  s.mac.backoff || (s.mac.sending.isSome && decide (s.now < s.mac.sendEnd))
    || (Tab.val s.clocks.loops 13).islandStopped

/-- A frame is handed to the MAC: under CSMA/CD it goes once none is in progress, under PLCA it waits for the node's
opportunity. -/
def State.macSend (s : State) (f : List Byte) : State :=
  let s1 := s.modMac (fun m => { m with queue := m.queue ++ [f] })
  if s.plcaRules || s1.macBusy then s1 else s1.macNext

/-- The MAC goes on with what waits, where nothing holds it. -/
def State.macResume (s : State) : State :=
  if s.plcaRules || s.macBusy || s.mac.queue.isEmpty then s else s.macNext

/-- A management frame: broadcast, EtherType 0x88B5, header with VERSION 0x2, the control frame, FCS (R308, R310).
That every one is broadcast, its control frame naming whom it is for, is a DESIGN CHOICE, safe: log 179. -/
def State.segmentFrame (s : State) (body : List Byte) : List Byte :=
  macFrame broadcastMac (Config.macAddress s.deviceId 24) ([0x88, 0xB5] ++ leBytes 4 2 ++ body)

/-- A control frame on the segment, tagged under the copse key (R310). -/
def State.segmentSend (s : State) (dst : Option Nat) (c : Ctrl) : State :=
  ((s.modMac (fun m => { m with ctrlTx := m.ctrlTx + 1 })).send (.segment dst c)).macSend
    (s.segmentFrame (c.frame (s.mgr.copseKey.getD 0) s.mac.ctrlTx))

/-- An untagged JOIN_HELLO; 25 stands for its type beside those of `Ctrl.code` (R310). -/
def State.sayHello (s : State) : State :=
  let body := (Config.frameBody 25 [s.deviceId]).take 196
  ((s.modMac (fun m => { m with ctrlTx := m.ctrlTx + 1 })).send .joinHello).macSend
    (s.segmentFrame (leBytes 8 s.mac.ctrlTx ++ leBytes 2 (Config.frameType 25).toNat ++ leBytes 2 body.length ++ body))

/-! ### Tables of the manager -/

/-- A table as written; entries that it does not list are not valid (R313). -/
def Fabric.putTable (f : Fabric) (epoch : Nat) : TableWrite → Fabric
  | .route l =>
    if epoch ≤ f.routeEpoch then f
    else { f with routeEpoch := epoch
                  routes := l.foldl (fun t e => Tab.put t e.1 (e.2.map (fun p => p.1.val))) []
                  routeMacs := l.foldl (fun t e => Tab.put t e.1 (e.2.filterMap (fun p =>
                    if p.2 = 0 then none else some (p.1.val, p.2.toNat)))) [] }
  | .routing l =>
    if epoch ≤ f.routingEpoch then f
    else { f with routingEpoch := epoch
                  routing := l.foldl (fun t e => Tab.ins t e.1 { node := e.2.1, localExp := e.2.2.1, path := e.2.2.2.map (fun p => p.val) }) [] }
  | .schedule l copses =>
    if epoch ≤ f.schedEpoch then f
    else
      let bare := Tab.mapV (fun _ (c : Sched) => { c with nodes := [] }) f.scheds
      { f with schedEpoch := epoch
               scheds := l.foldl (fun t e => Tab.upd t e.1 (fun c =>
                 { c with nodes := e.2.map (fun n => n.val), last := none })) bare
               copses := copses.foldl (fun t e => Tab.put t e.1 e.2) f.copses }
  | .tagCaps _ => f

/-- The caps that the manager sets for peers take effect (R301).  That they travel beside its tables is a DESIGN
CHOICE, safe: log 190. -/
def State.putCaps (s : State) : TableWrite → State
  | .tagCaps l => { s with tags := { s.tags with caps := l.foldl (fun t e => Tab.put t e.1 (e.2.val + 1)) s.tags.caps } }
  | .route _ | .routing _ | .schedule _ _ => s

/-- Table writes that waited apply, in order of arrival. -/
def State.drainTables (s : State) : State :=
  if s.maint.active.any (fun l => decide (l.kind = 7)) then s
  else { s with fabric := s.fabric.waiting.foldl (fun f q => f.putTable q.1.toNat q.2)
                  { s.fabric with waiting := [] } }

/-- A table write applies at once, or waits while a port changes mode (Table 17.10); caps apply at once. -/
def State.writeTable (s : State) (epoch : BitVec 32) (t : TableWrite) : State :=
  match t with
  | .tagCaps _ => s.putCaps t
  | .route _ | .routing _ | .schedule _ _ =>
    if s.maint.active.any (fun l => decide (l.kind = 7)) then
      State.countUp { s with fabric := { s.fabric with waiting := s.fabric.waiting ++ [(epoch, t)] } } CNT_MAINT.WAITS 1
    else
      let s1 := s.drainTables
      { s1 with fabric := s1.fabric.putTable epoch.toNat t }

end Sys2Proof.Machine
end

