-- ==== Sys2Proof/Machine/Service.lean ====
section
/-! DEFINITION. Which dies serve: channels, their retirement, the connected set of R15, fencing
(R446), and the retirement of pages and banks (R22, R25). -/

namespace Sys2Proof.Machine

/-! ### Channels (Table 1.3): 0-13 row, 14-21 opposite, 22-29 verge VD0-VD7, 30 and 31 clearing -/

/-- Lane groups of a channel. -/
def groupsOf (ch : Nat) : Nat := if ch < 22 then 8 else if ch < 30 then 4 else 2

/-- The grove die at the mesh end of verge die `k`. -/
def groveOfVerge (k : Nat) : Nat := if k < 2 then 0 else if k < 4 then 8 else if k < 6 then 7 else 15

/-- The two dies that a channel joins, numbered as HOTTEST_DIE; for verge and clearing channels the
grove end comes second. -/
def channelEnds (ch : Nat) : Nat × Nat :=
  if ch < 7 then (ch, ch + 1)
  else if ch < 14 then (ch + 1, ch + 2)
  else if ch < 22 then (ch - 14, ch - 6)
  else if ch < 30 then (ch - 6, groveOfVerge (ch - 22))
  else (24, if ch = 30 then 0 else 8)

/-- The fault-word bit of a channel event at a die: parity, lane, retirement (Tables 17.2 to 17.4). -/
def channelBit (die : Nat) (what : Nat) : Nat :=
  if die < 16 then 8 + what else if die < 24 then 24 + what else 12 + what

/-- The channel between two grove dies, if they are neighbours. -/
def channelBetween (a b : Nat) : Option Nat :=
  if a / 8 = b / 8 ∧ b = a + 1 then some (a / 8 * 7 + a % 8)
  else if b + 8 = a then some (14 + b)
  else if a + 8 = b then some (14 + a)
  else if a / 8 = b / 8 ∧ a = b + 1 then some (b / 8 * 7 + b % 8)
  else none

/-- Two grove dies are joined by a channel that is not retired. -/
def State.joined (s : State) (a b : Nat) : Bool :=
  match channelBetween a b with
  | some c => !(s.channel c).retired
  | none => false

/-- The grove dies that traffic from `a` to `b` passes: along the row first, then across (R14). -/
def rowRoute (a b : Nat) : List Nat :=
  let row := if a % 8 ≤ b % 8 then (List.range (b % 8 - a % 8 + 1)).map (fun k => a + k)
    else (List.range (a % 8 - b % 8 + 1)).map (fun k => a - k)
  if a / 8 = b / 8 then row else row ++ [b]

/-- A hop of a route: a channel not retired, onto a die that is not fenced out (R14). -/
def State.hop (s : State) (a b : Nat) : Bool := s.joined a b && !s.fenced b

/-- Every hop of a route is open. -/
def State.routeOpen (s : State) : List Nat → Bool
  | a :: b :: l => s.hop a b && State.routeOpen s (b :: l)
  | _ => true

/-- Routes, each from its last die back to the first, with one more for every die that an open hop newly reaches. -/
def State.growRoutes (s : State) (l : List (List Nat)) : List (List Nat) :=
  l ++ ((List.range 16).filter (fun d => !l.any (fun r => decide (r.head? = some d)))).filterMap (fun d =>
    (l.find? (fun r => r.head?.any (fun a => s.hop a d))).map (fun r => d :: r))

/-- The route of mesh traffic from `a` to `b` (R14): that of the rule, or, where a retired channel or a fenced die lies
on it, a shortest one that firmware finds around them (DESIGN CHOICE, log 173); none where nothing joins them. -/
def State.meshRoute (s : State) (a b : Nat) : Option (List Nat) :=
  if s.routeOpen (rowRoute a b) then some (rowRoute a b)
  else (((List.range 15).foldl (fun l _ => s.growRoutes l) [[a]]).find? (fun r => decide (r.head? = some b))).map
    List.reverse

/-- Hops over the mesh between two grove dies (R10, R14); more than any route has where nothing joins them. -/
def State.meshHops (s : State) (a b : Nat) : Nat :=
  match s.meshRoute a b with
  | some r => r.length - 1
  | none => 16

/-- The vector engines (4 * die + v) that plot `p` leases. -/
def State.vesLeased (s : State) (p : Nat) : List Nat :=
  (List.range 64).filter (fun v => s.leasesVe p (v / 4) (v % 4))

/-- Those of them on dies in service. -/
def State.vesOf (s : State) (p : Nat) : List Nat := (s.vesLeased p).filter (fun v => s.groveUp (v / 4))

/-- The vector engine of a plot that serves a port on the path: on the grove die nearest the port's
verge die (R173). -/
def State.pathVe (s : State) (p port : Nat) : Option Nat :=
  let gd := groveOfVerge (port / 3)
  (s.vesOf p).foldl (fun (b : Option Nat) v =>
    match b with
    | none => some v
    | some w => if s.meshHops (v / 4) gd < s.meshHops (w / 4) gd then some v else some w) none

/-- STS_VE_PATH: each engine shows the lowest port it serves, 0b11111 for none (Table 6.13). -/
def State.refreshPath (s : State) : State :=
  let serve (gd v : Nat) : Nat :=
    match s.ownerOfEngine gd (3 + v) with
    | none => 31
    | some p => (s.fabric.pathVe.find? (fun k => s.leasesPort p k
        && decide (s.pathVe p k = some (4 * gd + v)))).getD 31
  (List.range 16).foldl (fun s gd => (((s.wr (STS_VE_PATH.PORT_VE0 gd) (serve gd 0)).wr
    (STS_VE_PATH.PORT_VE1 gd) (serve gd 1)).wr (STS_VE_PATH.PORT_VE2 gd) (serve gd 2)).wr
    (STS_VE_PATH.PORT_VE3 gd) (serve gd 3)) s

/-- The dies of `ok` reached from `root` in at most `n` hops. -/
def State.reach (s : State) (ok : List Nat) (root : Nat) : Nat → List Nat
  | 0 => if root ∈ ok then [root] else []
  | n + 1 =>
    let l := State.reach s ok root n
    ok.filter (fun d => decide (d ∈ l) || l.any (s.joined d))

/-- The largest connected set of `ok` that contains GD0 or GD8 (R15); at equal size the one of GD0: DESIGN CHOICE,
unsafe: log 21. -/
def State.serviceSet (s : State) (ok : List Nat) : List Nat :=
  let a := s.reach ok 0 15
  let b := s.reach ok 8 15
  if a.length < b.length then b else a

/-- The ports of a verge die go out of service. -/
def State.vergeOut (s : State) (k : Nat) : State :=
  [3 * k, 3 * k + 1, 3 * k + 2].foldl State.portOut s

/-- Grove die `gd` is fenced out: it leaves service with its stack, and the ports of the verge dies
behind it; maintenance on it is abandoned (R446, R465, R466). -/
def State.fenceOne (s : State) (gd : Nat) : State :=
  if gd ∈ s.pkg.fenced then s
  else
    let s1 := { s with pkg := { s.pkg with fenced := addAsc gd s.pkg.fenced, reroutes := s.pkg.reroutes + 1 } }
    let s2 := (s1.wrBit STS_INSERVICE.GROVE gd false).wrBit STS_INSERVICE.STACKS gd false
    let s3 := (s2.maint.active ++ s2.maint.waiting).foldl (fun s l =>
      if (l.kind ≤ 1 ∧ l.unit = gd) ∨ (l.kind = 3 ∧ l.unit / 64 = gd) then s.lockAbandon l else s) s2
    let s4 := s3.modStack gd (fun k => { k with repair := none, repairBuf := [], repairPages := [] })
    ((List.range 8).filter (fun k => decide (groveOfVerge k = gd))).foldl State.vergeOut s4

/-- The dies that stay in service: the set of R15; until step 12 of bring-up makes its mask final, every die that a
route joins to GD0 or GD8 (R474). -/
def State.keptDies (s : State) (ok : List Nat) : List Nat :=
  if s.rd CTL_BRINGUP_STS.PHASE = 3 then s.serviceSet ok else s.reach ok 0 15 ++ s.reach ok 8 15

/-- A die that is not to stay in service is fenced. -/
def State.fenceUnreached (s : State) : State :=
  let ok := (List.range 16).filter s.groveUp
  let keep := s.keptDies ok
  (ok.filter (fun d => decide (d ∉ keep))).foldl State.fenceOne s

/-- Grove die `gd` is fenced out, and with it every die it cut off (R15, R446). -/
def State.fenceDie (s : State) (gd : Nat) : State := (s.fenceOne gd).fenceUnreached.refreshPath

/-- The plots that hold a resource on a die that `t` fences and `s` did not (R448). -/
def plotsFenced (s t : State) : List Nat :=
  s.boundPlots.filter (fun p => t.pkg.fenced.any (fun d => decide (d ∉ s.pkg.fenced) && s.holdsDie p d))

/-- No grove die with a clearing channel is left in service. -/
def State.noRoot (s : State) : Bool := s.fenced 0 && s.fenced 8

/-- A channel is retired: recorded, latched at both ends, routed around; a verge channel takes its
ports out of service, and the loss of both clearing channels is C3 (R13, R14, Tables 17.2 to 17.4). -/
def State.retireChannel (s : State) (ch : Nat) : State :=
  if (s.channel ch).retired then s
  else
    let ends := channelEnds ch
    let s1 := (s.modChannel ch (fun c => { c with retired := true })).recordLane 3 ch 0 0
    let s2 := { s1 with pkg := { s1.pkg with reroutes := s1.pkg.reroutes + 1 } }
    let both := (s2.channel 30).retired && (s2.channel 31).retired
    let s3 := s2.latchSure ends.1 (channelBit ends.1 2) [] ch ch 1
      (some (if 30 ≤ ch ∧ both = true then 3 else 1))
    let s4 := s3.latch ends.2 (channelBit ends.2 2) [] ch ch 0
    let s5 := if 22 ≤ ch ∧ ch < 30 then s4.vergeOut (ch - 22) else s4
    s5.fenceUnreached

/-- A group is retired; a channel with fewer than half of its groups is retired (R13). -/
def State.retireGroup (s : State) (ch g : Nat) : State :=
  if g ∈ (s.channel ch).groupsRetired then s
  else
    let ends := channelEnds ch
    let s1 := (s.modChannel ch (fun c => { c with groupsRetired := addAsc g c.groupsRetired })).recordLane
      2 ch (32 * g) 0
    let s2 := (s1.latchSure ends.1 (channelBit ends.1 2) [] ch g 1 (some 1)).latch ends.2
      (channelBit ends.2 2) [] ch g 0
    if 2 * (groupsOf ch - (s2.channel ch).groupsRetired.length) < groupsOf ch then s2.retireChannel ch
    else s2

/-- A lane is retired onto a spare at the die that found it; a group that has lost more than its two
spares is retired (R12, R13). -/
def State.retireDieLane (s : State) (ch g lane die : Nat) : State :=
  if (g, lane) ∈ (s.channel ch).lanesRetired then s
  else
    let s1 := (s.modChannel ch (fun c => { c with lanesRetired := c.lanesRetired ++ [(g, lane)] })).recordLane
      1 ch (32 * g + lane) 0
    let s2 := s1.latch die (channelBit die 1) [] ch (32 * g + lane) 1
    if 2 < ((s2.channel ch).lanesRetired.filter (fun x => decide (x.1 = g))).length then
      s2.retireGroup ch g
    else s2

/-! ### Retired pages and banks -/

/-- PLOT_STS.RETIRED_PAGES of every bound plot, as the lists of pages give it (R387). -/
def State.refreshPages (s : State) : State :=
  s.boundPlots.foldl (fun s p => s.wr (PLOT_STS.RETIRED_PAGES p) (s.retiredPagesOf p)) s

/-- The plot that owns a unit of a stack: by lease of its extent, or by lease of the glade range that
the extent carries (R376, R523). -/
def State.ownerOfUnit (s : State) (stack unit : Nat) : Option Nat :=
  let ext := unit * unitBytes / extentBytes
  if ext < 91 then s.ownerOfExt stack ext
  else if ext < 95 then
    s.ownerOfGlade ((16 * (ext - 91) + stack) * extentBytes + unit * unitBytes % extentBytes)
  else none

/-- The plot, if any, that holds a page of device memory (R22). -/
def State.ownerOfPage (s : State) (page : Nat) : Option Nat :=
  s.ownerOfUnit (page * pageBytes / stackBytes) (page * pageBytes % stackBytes / unitBytes)

/-- A page of a row without a spare: retired at once where no plot holds it, else marked
until the plot releases it; the record of either goes to the fault log (R22). -/
def State.retirePage (s : State) (stack page : Nat) : State :=
  if page ∈ s.hbm.retired ∨ page ∈ s.hbm.marked then s
  else
    match s.ownerOfPage page with
    | some p => State.logFault { s with hbm := { s.hbm with marked := addAsc page s.hbm.marked } }
        { die := stack, bit := 3, plots := [p], unit := stack, detail := page * pageBytes, kind := 2,
          time := s.now } 0
    | none => State.latch { s with hbm := { s.hbm with retired := addAsc page s.hbm.retired } }
        stack 3 [] stack (page * pageBytes) 2

/-- A bank is retired, or marked while a plot holds it (R25). -/
def State.retireBank (s : State) (gd b : Nat) : State :=
  if (s.bank gd b).retired ∨ (s.bank gd b).marked then s
  else
    let held := s.ownerOfBank gd b
    let s1 := s.modBank gd b (fun k => if held.isSome then { k with marked := true }
      else { k with retired := true })
    s1.latch gd 7 held.toList b (64 * gd + b) 3

/-- What the code of a half of a line of tile memory finds at a read (R23, R25): a sound half holds no poison, since
a write replaced it; a corrected one is C0, and a bank with more than 64 of them within one hour is retired; an
uncorrectable one is poisoned, which is C2 of the bank's plot, and retires the bank. -/
def State.tileRead (s : State) (gd bank half : Nat) (ecc : Ecc) : State :=
  match ecc with
  | .good => s.modBank gd bank (fun k => { k with poison := without half k.poison })
  | .corrected =>
    let times := recent s.now perHour (s.bank gd bank).corrTimes ++ [s.now]
    let s1 := ({ s with pkg := { s.pkg with tileCorr := Tab.upd s.pkg.tileCorr gd (· + 1) } }.modBank gd bank
      (fun k => { k with corrTimes := times, poison := without half k.poison })).latch0 gd 5
    if 64 < times.length then s1.retireBank gd bank else s1
  | .uncorrectable =>
    let s1 := (s.modBank gd bank (fun k => { k with poison := addAsc half k.poison })).latch gd 6
      (s.ownerOfBank gd bank).toList bank half 0
    s1.retireBank gd bank

end Sys2Proof.Machine
end

