-- ==== Sys2Proof/Machine/RegOps.lean ====
section
/-! DEFINITION. The access paths to the register map (R490, R499, R450) and the read of a word, with
the shadows of 64-bit values (R492, R495). -/

namespace Sys2Proof.Machine

/-! ### Paths: 0 the physical function, 1 to 4 cores 0 to 3, 5 the SMBus sideband -/

/-- The blocks of BAR0 that the physical function still answers in windthrow: identity, fault and
security (R450, Table 19.1). -/
def windthrowBlock (addr : Nat) : Bool :=
  decide (addr < 0x10000 ∨ (0x40000 ≤ addr ∧ addr < 0x80000) ∨ (0x400000 ≤ addr ∧ addr < 0x420000))

/-- The blocks of BAR0 that answer in recovery: identity and security (R410). -/
def recoveryBlock (addr : Nat) : Bool := decide (addr < 0x10000 ∨ (0x400000 ≤ addr ∧ addr < 0x420000))

/-- The blocks that the sideband reads: identity and global, power, fault (R490). -/
def sidebandBlock (addr : Nat) : Bool :=
  decide (addr < 0x10000 ∨ (0x20000 ≤ addr ∧ addr < 0x40000) ∨ (0x40000 ≤ addr ∧ addr < 0x80000))

/-- The grove die whose window holds an address. -/
def windowOf (addr : Nat) : Option Nat :=
  if 0x800000 ≤ addr ∧ addr < 0x900000 then some ((addr - 0x800000) / 0x10000) else none

/-- The address lies in the window of a fenced die, which reads zero and ignores writes (R499). -/
def State.fencedWindow (s : State) (addr : Nat) : Bool :=
  match windowOf addr with
  | some gd => s.fenced gd
  | none => false

/-- The PCI Express link is up and its island runs (R48): while it is stopped, requests wait. -/
def State.pcieRuns (s : State) : Bool := decide (s.rd STS_PCIE_LINK.UP = 1) && s.islandUp 0

/-- The PCI Express link is up and the physical function answers (R473, R324). -/
def State.hostReaches (s : State) : Bool :=
  s.pcieRuns && s.pcie.answering && !(Tab.val s.pcie.funcs 0).d3

/-- A path reaches an address of BAR0. -/
def State.pathOpen (s : State) (path addr : Nat) : Bool :=
  if path = 0 then s.hostReaches && (!s.faults.windthrow || windthrowBlock addr)
    && (decide (s.rd SEC_STS.RECOVERY = 0) || recoveryBlock addr)
  else if path ≤ 4 then s.rdBit CTL_CORE_STS.RUNNING (path - 1)
  else sidebandBlock addr

/-- A write on a path takes effect at an address; the sideband writes nothing but its commands. -/
def State.writeOpen (s : State) (path addr : Nat) : Bool :=
  decide (path ≤ 4) && s.pathOpen path addr && !s.fencedWindow addr

/-! ### Words -/

/-- An offset from the first copy of a register is one of its copies. -/
def matchDims : List (Nat × Nat) → Nat → Bool
  | [], off => decide (off = 0)
  | (st, n) :: rest, off => decide (off / st < n) && matchDims rest (off % st)

/-- The register that holds an address. -/
def rowAt (addr : Nat) : Option RegRow :=
  regRows.find? (fun r => decide (r.base ≤ addr) && matchDims r.dims (addr - r.base))

/-- The field of the copy at `addr` that a field of the first copy stands for. -/
def fieldAt (r : RegRow) (addr : Nat) (f : Fld) : Fld := { f with key := f.key + 32 * (addr - r.base) }

/-- The lowest bit of a field in its word. -/
def fieldLow (f : Fld) : Nat := f.key % 32

/-- A word put together from its fields; a WO field reads zero (R492). -/
def RegFile.word (r : RegFile) (row : RegRow) (addr : Nat) : Nat :=
  row.flds.foldl (fun w f =>
    if f.acc = .wo then w else w + r.rd (fieldAt row addr f) * 2 ^ fieldLow f) 0

/-- The two words of a slab entry (Table 13.17). -/
def slabWord (e : Slab) (high : Bool) : Nat :=
  if high then e.base.toNat * 256 + e.size.toNat * 16 + e.owned.toNat / 4
  else e.owned.toNat % 4 * 2 ^ 30 + e.peerNode.toNat * 2 ^ 20 + e.gen.toNat * 2 ^ 12
    + (if e.claimed then 4 else 0) + e.owner.toNat

/-- A word of the MSI-X table of the physical function; the Mask bit is bit 0 of the fourth word. -/
def msixWord (f : Func) (off : Nat) : Nat :=
  let v := off / 16
  if off % 16 = 12 then (if v ∈ f.unmasked then 0 else 1)
  else (Tab.val f.entries (off / 4)).toNat

/-- A word of the pending bit array. -/
def pbaWord (f : Func) (off : Nat) : Nat :=
  ((List.range 32).filter (fun i => decide (8 * off + i ∈ f.pend))).foldl (fun m i => m + 2 ^ i) 0

/-- The loop-kernel cores that run: one that no plot leases is halted (R395). -/
def State.kernelCores (s : State) : Nat :=
  ((List.range 28).filter (fun c => s.boundPlots.any (fun p => s.leasesCore p (c + 4)))).foldl
    (fun w c => w + 2 ^ (c + 4)) 0

/-- The present word at an address, before any shadow; a reserved offset reads zero (R492). -/
def State.liveWord (s : State) (addr : Nat) : Nat :=
  if s.fencedWindow addr then 0
  else match rowAt addr with
    | some row => if addr = 0x300 then s.regs.word row addr + s.kernelCores else s.regs.word row addr
    | none =>
      if 0x180000 ≤ addr ∧ addr < 0x200000 then
        slabWord (s.slab ((addr - 0x180000) / 8)) (decide (addr % 8 = 4))
      else if 0xF00000 ≤ addr ∧ addr < 0xF08000 then msixWord (Tab.val s.pcie.funcs 0) (addr - 0xF00000)
      else if 0xF08000 ≤ addr ∧ addr < 0xF08100 then pbaWord (Tab.val s.pcie.funcs 0) (addr - 0xF08000)
      else 0

/-- What a read of a word on a path returns: the path's shadow where the register has one. -/
def State.readWord (s : State) (path addr : Nat) : Nat :=
  match rowAt addr with
  | some row =>
    if row.role = .shadowed ∧ ¬ s.fencedWindow addr = true then
      (Tab.val s.regs.shadow (shadowKey path addr)).toNat
    else s.liveWord addr
  | none => s.liveWord addr

/-- A shadow of a path set. -/
def State.setShadow (s : State) (path addr v : Nat) : State :=
  { s with regs := { s.regs with
      shadow := Tab.put s.regs.shadow (shadowKey path addr) (BitVec.ofNat 32 v) } }

/-- The latching of a read: reading a low word copies its high word, and for a fault word also SEQ,
into the path's shadow (R495, R452). -/
def State.latchRead (s : State) (path addr : Nat) : State :=
  match rowAt addr with
  | some row =>
    match row.role with
    | .low => s.setShadow path (addr + 4) (s.liveWord (addr + 4))
    | .faultLow => (s.setShadow path (addr + 4) (s.liveWord (addr + 4))).setShadow path (addr + 8)
        (s.liveWord (addr + 8))
    | .plain => s
    | .shadowed => s
  | none => s

end Sys2Proof.Machine
end

