-- ==== Sys2Proof/Machine/Clocks.lean ====
section
/-! DEFINITION. Meanings of the clocks: rates, SOSC faults, frequency changes, loops and their
references, dividers, pin rate and spread spectrum (R34 to R51, R426). -/

namespace Sys2Proof.Machine

/-- SOSC_FAULT, R43: a grove die is fenced, which is C2 of the plots on it; a verge or clearing die
causes C3, and the clearing die's own fault clears SOSC_OK. -/
def execSoscFault (die : Fin 25) (s : State) : Host.Outcome State Fault Refusal :=
  let s0 := { s with clocks := { s.clocks with soscBad := addAsc die s.clocks.soscBad } }
  if die.val < 16 then
    let s1 := s0.fenceDie die
    .next (s1.latch die 26 (plotsFenced s0 s1) die 0 0)
  else if die.val < 24 then .next (s0.latch0 die 29)
  else .next ((s0.wr CLK_STATUS.SOSC_OK 0).latch0 24 11)

/-! ### Frequency changes; target 0 to 3 is an HBM loop, 4 + p is port p -/

/-- A droop response is active on some grove die. -/
def State.droopActive (s : State) : Bool := (List.range 16).any (fun d => (s.die d).droop)

/-- 20 µs have passed since the last droop response cleared (R426). -/
def State.droopHeld (s : State) : Bool :=
  match s.clocks.lastDroop with
  | none => true
  | some t => decide (t + 20 * perUs ≤ s.now)

/-- The lock that a change needs (Table 17.10): the loop group, or the port for a change of mode. -/
def freqLock (target : Nat) : Lock :=
  if target < 4 then { kind := 2, unit := target } else { kind := 7, unit := target - 4 }

/-- Spread of an HBM loop as CLK_SSC gives it: 0 for none, else 1 + 4 * DEPTH + RATE; a DEPTH of 0
spreads nothing, so that no change of it is a frequency change (DEDUCED, log 174). -/
def State.spreadOf (s : State) (g : Nat) : Nat :=
  if s.rdBit CLK_SSC.HBM_EN g ∧ s.rd CLK_SSC.DEPTH ≠ 0 then 1 + 4 * s.rd CLK_SSC.DEPTH + s.rd CLK_SSC.RATE
  else 0

/-- A frequency change is requested, if none of the target waits or runs: the completion of one that runs puts the
present settings in force (DEDUCED, log 174). -/
def State.wantFreq (s : State) (target : Nat) : State :=
  if s.clocks.wanted.any (fun f => decide (f.target = target)) ∨ target ∈ s.clocks.active then s
  else
    let s1 := { s with clocks := { s.clocks with
      wanted := s.clocks.wanted ++ [{ target := target, since := s.now }] } }
    if target < 4 then s1.lockRequest (freqLock target) else s1

/-- The mode in which a port runs: until it is changed over to full rate, an 800GBASE type runs as the
400GBASE type of its medium (R475). -/
def State.targetMode (s : State) (p : Nat) : Nat :=
  let m := s.rd (LNK_PORT_CTL.MODE p)
  if (s.port p).reduced ∧ 5 ≤ m then m - 2 else m

/-- The port's change is one of mode, not only of rate (R265, R266). -/
def State.modeDiffers (s : State) (p : Nat) : Bool := decide (s.targetMode p ≠ (s.port p).appliedMode)

/-- FREQUENCY_CHANGE, R47, R426: a requested change starts once no droop response is active and
20 µs have passed since the last one; one deferred for 10 ms starts without that hold and is
counted.  An HBM change stalls its stacks' requests; a port pauses, and a change of mode takes it
down. -/
def execFrequencyChange (target : Fin 28) (s : State) : Host.Outcome State Fault Refusal :=
  match s.clocks.wanted.find? (fun f => decide (f.target = target.val)) with
  | none => .next s
  | some f =>
    let forced := decide (f.since + 10 * perMs ≤ s.now) && !s.droopHeld
    let mode := decide (4 ≤ target.val) && s.modeDiffers (target.val - 4)
    let locked := if target.val < 4 ∨ mode = true then s.hasLock (freqLock target) else true
    if s.droopActive = false ∧ (s.droopHeld || forced) = true ∧ locked = true then
      let s1 := { s with clocks := { s.clocks with
        wanted := s.clocks.wanted.filter (fun g => decide (g.target ≠ target.val))
        active := addAsc target s.clocks.active } }
      let s2 := if forced then s1.countUp CNT_PWR_EVENTS.DEFER_FORCED 1 else s1
      .next (if mode then s2.portOut (target.val - 4) else s2)
    else .next s

/-- What holds on a target once its change is complete; a Xasin port leaves the reduced rate where full bring-up asked
for it (R266).  Settings written while the change ran come into force with it: DEDUCED, log 174. -/
def State.settleFreq (s : State) (target : Nat) : State :=
  if target < 4 then
    State.lockRelease { s with clocks := { s.clocks with
      hbmRate := Tab.put s.clocks.hbmRate target (s.rd CLK_HBM_RATE.HBM_PIN_RATE)
      hbmSpread := Tab.put s.clocks.hbmSpread target (s.spreadOf target) } } (freqLock target)
  else
    let p := target - 4
    let m := s.targetMode p
    if s.modeDiffers p then
      let s0 := ((s.modPort p (fun q => { q with appliedMode := m })).lockRelease (freqLock target)).drainTables
      let s1 := if s0.ethernet p then (s0.wr (LNK_PORT_STS.PARTNER p) 0).wr (LNK_PORT_STS.PARTNER_PORT p) 0 else s0
      if m = 0 ∨ s1.portState p = portRETIRED then s1 else s1.setPortState p portTRAINING
    else (((s.modPort p (fun q => { q with reduced := q.reduced && !q.upgrade, upgrade := false })).lockRelease (freqLock
      target)).drainTables).pumpPort p

/-- FREQUENCY_CHANGE_COMPLETE, R47: within 2 µs; stalled requests and paused ports resume. -/
def execFrequencyChangeComplete (target : Fin 28) (s : State) : Host.Outcome State Fault Refusal :=
  if target.val ∈ s.clocks.active then
    .next (State.settleFreq { s with clocks := { s.clocks with
      active := without target s.clocks.active } } target)
  else .next s

/-! ### Loops: 0 PCIe, 1 to 4 HBM, 5 to 12 SerDes, 13 management, 14 auxiliary -/

/-- A loop's lock bit in CLK_STATUS. -/
def State.loopLocked (s : State) (l : Nat) : Bool :=
  if l = 0 then decide (s.rd CLK_STATUS.PCIE_LOCK = 1)
  else if l < 5 then s.rdBit CLK_STATUS.HBM_LOCK (l - 1)
  else if l < 13 then s.rdBit CLK_STATUS.SERDES_LOCK (l - 5)
  else if l = 13 then decide (s.rd CLK_STATUS.MGT_LOCK = 1)
  else decide (s.rd CLK_STATUS.AUX_LOCK = 1)

/-- A loop's lock bit set or cleared. -/
def State.setLock (s : State) (l : Nat) (b : Bool) : State :=
  let v := if b then 1 else 0
  if l = 0 then s.wr CLK_STATUS.PCIE_LOCK v
  else if l < 5 then s.wrBit CLK_STATUS.HBM_LOCK (l - 1) b
  else if l < 13 then s.wrBit CLK_STATUS.SERDES_LOCK (l - 5) b
  else if l = 13 then s.wr CLK_STATUS.MGT_LOCK v
  else s.wr CLK_STATUS.AUX_LOCK v

/-- The dies in which a loop's lock events latch, and their bits for a loss and for a repeated loss
(Tables 17.2 to 17.4). -/
def lockBits (l : Nat) : List Nat × Nat × Nat :=
  if l = 0 then ([24], 7, 10)
  else if l < 5 then ((List.range 4).map (fun i => 4 * (l - 1) + i), 24, 25)
  else if l < 13 then ([16 + (l - 5)], 27, 28)
  else if l = 13 then ([24], 8, 10)
  else ([24], 9, 10)

/-- A loop loses lock: its islands stop at a word boundary, the lock bit clears, C1; the second loss
within 1 s is C3 (R48). -/
def State.loseLock (s : State) (l : Nat) : State :=
  if s.loopLocked l then
    let k := Tab.val s.clocks.loops l
    let again := match k.lastLoss with
      | some t => decide (s.now < t + perS)
      | none => false
    let s1 := { s with clocks := { s.clocks with
      loops := Tab.put s.clocks.loops l { k with lastLoss := some s.now, islandStopped := true } } }
    let b := lockBits l
    let s2 := (s1.setLock l false).latchIn b.1 b.2.1 [] l l 0
    if again then s2.latchIn b.1 b.2.2 [] l l 0 else s2
  else s

/-- A loop is locked and its islands run: what waited for them goes on (R48). -/
def State.gainLock (s : State) (l : Nat) : State :=
  let t : State := { s.setLock l true with clocks := { s.clocks with
    loops := Tab.upd s.clocks.loops l (fun k => { k with islandStopped := false, refLost := false }) } }
  if l = 13 then t.macResume
  else if 5 ≤ l ∧ l < 13 then [3 * (l - 5), 3 * (l - 5) + 1, 3 * (l - 5) + 2].foldl State.pumpPort t
  else t

/-- The loops that a reference feeds: 0 XIN0, 1 XIN1, 2 REFCLK (Table 2.5). -/
def loopsOfRef (r : Nat) : List Nat :=
  if r = 0 then [1, 2, 3, 4, 13, 14] else if r = 1 then [5, 6, 7, 8, 9, 10, 11, 12] else [0]

/-- The reference of a loop. -/
def refOfLoop (l : Nat) : Nat := if l = 0 then 2 else if 5 ≤ l ∧ l < 13 then 1 else 0

/-- LOSS_OF_LOCK, R48. -/
def execLossOfLock (loop : Fin 15) (s : State) : Host.Outcome State Fault Refusal :=
  .next (s.loseLock loop)

/-- RELOCK, R48: lock returns while the loop's reference shows edges. -/
def execRelock (loop : Fin 15) (s : State) : Host.Outcome State Fault Refusal :=
  if refOfLoop loop ∈ s.clocks.refDown then .next s else .next (s.gainLock loop)

/-- REFERENCE_EDGE_TIMEOUT, R48: once 20 µs have passed since the last edge, every loop the reference feeds is
treated as having lost lock. -/
def execReferenceEdgeTimeout (ref : Fin 3) (lastEdge : Nat) (s : State) : Host.Outcome State Fault Refusal :=
  if s.past lastEdge (20 * perUs) = false then .next s else
  let mark (s : State) (l : Nat) : State :=
    { s with clocks := { s.clocks with
      loops := Tab.upd s.clocks.loops l (fun k => { k with refLost := true }) } }
  let s1 := { s with clocks := { s.clocks with refDown := addAsc ref s.clocks.refDown } }
  .next ((loopsOfRef ref).foldl (fun s l => mark (s.loseLock l) l) s1)

/-- REFERENCE_EDGES_RETURN, R48: the loops of the reference relock. -/
def execReferenceEdgesReturn (ref : Fin 3) (s : State) : Host.Outcome State Fault Refusal :=
  if ref.val ∈ s.clocks.refDown then
    let s1 := { s with clocks := { s.clocks with refDown := without ref s.clocks.refDown } }
    .next ((loopsOfRef ref).foldl State.gainLock s1)
  else .next s

/-! ### Settings -/

/-- DIVIDER_APPLY, R51: at the next gated-idle point of its island a divider is in force. -/
def execDividerApply (which : Divider) (s : State) : Host.Outcome State Fault Refusal :=
  match which with
  | .bridge => .next { s with clocks := { s.clocks with divBridge := s.rd CLK_DIV.BRIDGE_DIV } }
  | .mgtBus => .next { s with clocks := { s.clocks with divMgt := s.rd CLK_DIV.MGT_BUS_DIV } }
  | .hbmCtl st => .next { s with clocks := { s.clocks with divHbm := s.clocks.divHbm.set st (s.rd CLK_DIV.HBM_CTL_DIV) } }

/-- HBM_PIN_RATE_WRITE, R47, R51: 0b11 is ignored; each loop not at the rate asks for a change. -/
def execHbmPinRateWrite (path : Fin 6) (v : BitVec 32) (s : State) : Host.Outcome State Fault Refusal :=
  let r := v.toNat % 4
  if s.writeOpen path 0x10030 = true ∧ r ≠ 3 then
    let s1 := s.wr CLK_HBM_RATE.HBM_PIN_RATE r
    .next (((List.range 4).filter (fun g => decide (Tab.val s1.clocks.hbmRate g ≠ r))).foldl
      State.wantFreq s1)
  else .next s

/-- SPREAD_SPECTRUM_WRITE, R49, R51: DEPTH above 10 stores 10; each HBM loop whose spread differs
asks for a frequency change.  REFCLK_OUT follows its own bit. -/
def execSpreadSpectrumWrite (path : Fin 6) (v : BitVec 32) (s : State) : Host.Outcome State Fault Refusal :=
  if s.writeOpen path 0x10010 then
    let w := v.toNat
    let s1 := (((s.wr CLK_SSC.RATE (bits w 13 12)).wr CLK_SSC.DEPTH (min 10 (bits w 11 8))).wr
      CLK_SSC.REFOUT_EN (bits w 4 4)).wr CLK_SSC.HBM_EN (bits w 3 0)
    .next (((List.range 4).filter (fun g =>
      decide (Tab.val s1.clocks.hbmSpread g ≠ s1.spreadOf g))).foldl State.wantFreq s1)
  else .next s

end Sys2Proof.Machine
end

