-- ==== Sys2Proof/Machine/LinkRx.lean ====
section
/-! DEFINITION. Shared operations of the links: retries and their attribution (R271 to R276), lanes taken
out of service (R277, R278), what a flit does on arrival (R267 to R273), quarantine (R288, R289) and the
exchange that admits a partner (R282 to R284). -/

namespace Sys2Proof.Machine

/-- The fabric works: Sapling service has begun (Table 18.2, step 10) and the device is neither dormant
nor in windthrow. -/
def State.fabricUp (s : State) : Bool :=
  let phase := s.rd CTL_BRINGUP_STS.PHASE
  decide (2 ≤ phase ∧ phase ≤ 3) && !s.glob.dormant && !s.faults.windthrow

/-- The partner's node on a native port; on an Ethernet port the node that a path names. -/
def State.partnerOf (s : State) (p node : Nat) : Nat :=
  if s.ethernet p then node else s.rd (LNK_PORT_STS.PARTNER p)

/-! ### Retries -/

/-- The retry buffer stands before the queue again, each flit with its SEQ (R272). -/
def LinkSide.rewind (l : LinkSide) : LinkSide :=
  { l with queue := l.buffer.map (fun f => { f with old := true }) ++ l.queue, buffer := [] }

/-- Every unacknowledged flit of a link is sent again, in order, as credits allow (R272, R273). -/
def State.goBackN (s : State) (p node : Nat) : State :=
  (s.modLink p node (fun l => { l.rewind with retryDue := s.linkDue })).pumpLink p node

/-- Periods of CFG_LNK_RETRY_WINDOW. -/
def State.retryWindow (s : State) : Nat := s.rd CFG_LNK_RETRY_WINDOW.WINDOW_MS * perMs

/-- Of four counts, the position of the largest, the lowest on a tie; none if all are zero (R275). -/
def worstLane (errs : List Nat) : Option Nat :=
  let top := errs.foldl max 0
  if top = 0 then none else (List.range 4).find? (fun i => decide (errs.getD i 0 = top))

/-- Lanes of a port in service. -/
def State.lanesUp (s : State) (p : Nat) : List Nat :=
  (List.range 4).filter (fun i => decide (i ∉ (s.port p).lanesRetired))

/-- LNK_PORT_STS.LANES as the lanes stand. -/
def State.showLanes (s : State) (p : Nat) : State :=
  s.wr (LNK_PORT_STS.LANES p) ((s.lanesUp p).foldl (fun m i => m + 2 ^ i) 0)

/-- A port in low-power idle wakes (R280). -/
def State.wakePort (s : State) (p : Nat) : State :=
  if s.portState p = portLPI then
    ((s.setPortState p portUP).modPort p (fun q => { q with lpiOffer := false })).send (.wake p)
  else s

/-- Lanes of a port are retired: the partner is told if this end decides, each retirement is recorded, the
deal is realigned and sending resumes by go-back-N; a port left with fewer than two lanes is retired with
cause LANES (R277, R278). -/
def State.retireLanes (s : State) (p : Nat) (lanes : List Nat) (own : Bool) : State :=
  let gone := lanes.filter (fun i => decide (i ∉ (s.port p).lanesRetired))
  if gone.isEmpty then s
  else
    let s0 := s.wakePort p
    let partner := s0.partnerOf p 0
    let s1 := if own then s0.control p partner (.laneRetire gone) else s0
    let s2 := s1.modPort p (fun q => { q with
      lanesRetired := gone.foldl (fun l i => addAsc i l) q.lanesRetired
      laneRetries := q.laneRetries.filter (fun r => decide (r.1 ∉ gone)), fecPos := 0, fecBad := false })
    let s3 := gone.foldl (fun s i => (s.recordLane 0 p i 0).latch (dieOfPort p) (portBit p 2) [] p i 1) s2
    let s4 := s3.showLanes p
    if (s4.lanesUp p).length < 2 then s4.retirePort p 1 else s4.goBackN p partner

/-- A retry charged to a lane of a native port; beyond the allowed number in the window the lane is retired
(R275, R276). -/
def State.chargeLane (s : State) (p lane : Nat) : State :=
  let kept := (s.port p).laneRetries.filter (fun r => decide (s.now < r.2 + s.retryWindow))
  let l := kept ++ [(lane, s.now)]
  let s1 := s.modPort p (fun q => { q with laneRetries := l })
  if s.rd CFG_LNK_RETRY_MAX.MAX < (l.filter (fun r => decide (r.1 = lane))).length then
    s1.retireLanes p [lane] true
  else s1

/-- A retry charged to the port, or to the path of an Ethernet port; beyond the allowed number a native port
is retrained, and a path is reported as C1 for the manager to route around (R276, R294). -/
def State.chargePath (s : State) (p node : Nat) : State :=
  let times := recent s.now s.retryWindow (s.link p node).retryTimes ++ [s.now]
  if s.rd CFG_LNK_RETRY_MAX.MAX < times.length then
    let s1 := s.modLink p node (fun l => { l with retryTimes := [] })
    if s.ethernet p then
      (s1.latch (dieOfPort p) (portBit p 1) [] p node 0).toManager (.portReport p node 0)
    else s1.retrain p
  else s.modLink p node (fun l => { l with retryTimes := times })

/-- One resumption: every unacknowledged flit is sent again, and it counts as one retry (R272, R275). -/
def State.retry (s : State) (p node : Nat) (lane : Option Nat) : State :=
  let s1 := ((s.goBackN p node).countWrap (CNT_LNK_RETRY.COUNT p) 1).latch (dieOfPort p) (portBit p 1)
    [] p node 0
  match lane with
  | some i => if s.ethernet p then s1.chargePath p node else s1.chargeLane p i
  | none => s1.chargePath p node

/-! ### Quarantine (R289) -/

/-- The port of a hostile partner: it carries nothing, nothing unsealed is committed, its epochs fail, the
partner is reported, and the retirement with cause HOSTILE waits for flash. -/
def State.quarantine (s : State) (p node : Nat) : State :=
  let who := s.partnerOf p node
  let s1 := ((s.failEpochsOn p true).portLeave p portQUARANTINED).wr (LNK_PORT_STS.CAUSE p) 3
  let s2 := (s1.recordLane 4 p who 3).latch (dieOfPort p) (portBit p 6) [] p who 0
  (s2.maint.active ++ s2.maint.waiting).foldl (fun s l =>
    if 5 ≤ l.kind ∧ l.kind ≤ 7 ∧ l.unit = p then s.lockAbandon l else s) (s2.toManager (.portReport p who 3))

/-! ### Arrival of a flit -/

/-- Fields of the header of a flit (Table 10.2). -/
def flitField (b : List Byte) (start n hi lo : Nat) : Nat := bits (leNat ((b.drop start).take n)) hi lo

/-- TYPE. -/
def flitType (b : List Byte) : Nat := flitField b 0 2 15 12
/-- SEQ. -/
def flitSeq (b : List Byte) : Nat := flitField b 0 2 11 0
/-- TAG without its flags. -/
def flitTag (b : List Byte) : Nat := flitField b 8 2 12 0
/-- Source node. -/
def flitSrc (b : List Byte) : Nat := flitField b 4 3 19 10
/-- The valid payload bytes. -/
def flitPayload (b : List Byte) : List Byte := (b.drop 12).take (min 240 (flitField b 7 1 7 0))

/-- The CRC over bytes 0 to 251 stands in bytes 252 to 255 (R268). -/
def flitCrcOk (b : List Byte) : Bool := decide (leNat ((b.drop 252).take 4) = crc32 (b.take 252))

/-- A reserved TYPE, or a reserved header bit that is set (Table 10.6, "Misbehaving"). -/
def flitMisbehaves (b : List Byte) : Bool :=
  decide (10 ≤ flitType b) || decide (flitField b 2 2 13 12 ≠ 0) || decide (flitField b 4 3 23 20 ≠ 0)
  || decide (flitField b 8 2 15 15 ≠ 0)

/-- An IDLE flit: an acknowledgement or a NAK, and the credits it returns (R271 to R273). -/
def State.idleFlit (s : State) (p node : Nat) (nak : Bool) (credits : Nat) : State :=
  if s.portSends p then
    let l := s.link p node
    let ack := if nak then l.expected else (l.expected + 4095) % 4096
    s.emit p node [flitBytes 0 0 (!nak) nak ack node s.node 0 0 (leBytes 2 credits)]
  else s

/-- The fair share of a port's receive buffer that a path of an Ethernet port may hold in credits. -/
def State.fairShare (s : State) (p : Nat) : Nat := max 1 (1024 / max 1 (s.port p).paths.length)

/-- Places of an Ethernet port's receive buffer that no path holds. -/
def State.freeSlots (s : State) (p : Nat) : Nat := 1024 - (s.port p).paths.foldl (fun n q => n + q.2.granted) 0

/-- One credit goes to the next path in rotation that holds less than its share, if a place is free (R293).
That a path never holds more than an equal share is a DESIGN CHOICE, safe: log 180. -/
def State.rotate (s : State) (p : Nat) : State :=
  let q := s.port p
  let l := q.paths.filter (fun e => decide (q.turn < e.1)) ++ q.paths.filter (fun e => decide (e.1 ≤ q.turn))
  match (if s.freeSlots p = 0 then none else l.find? (fun e => decide (e.2.granted < s.fairShare p))) with
  | none => s
  | some e => ((s.modLink p e.1 (fun l => { l with granted := l.granted + 1 })).modPort p (fun q => { q with
      turn := e.1 })).idleFlit p e.1 false 1

/-- A flit's place in the receive buffer is free again: its credit returns with the acknowledgement or the NAK, on an
Ethernet port first to its own path and then in rotation (R271 to R273, R293). -/
def State.freeSlot (s : State) (p node : Nat) (nak : Bool) : State :=
  if s.ethernet p then
    let s1 := s.modLink p node (fun l => { l with granted := l.granted - 1 })
    let own := b2n (decide ((s1.link p node).granted < s1.fairShare p))
    ((s1.modLink p node (fun l => { l with granted := l.granted + own })).idleFlit p node nak own).rotate p
  else s.idleFlit p node nak 1

/-- A flit is discarded: its credit returns, and one NAK asks for the expected SEQ (R272, R273). -/
def State.rejectFlit (s : State) (p node : Nat) : State :=
  let nak := !(s.link p node).nakSent
  (s.modLink p node (fun l => { l with
    nakSent := true, nakDue := if nak then s.linkDue else l.nakDue })).freeSlot p node nak

/-- A flit lies after an acknowledged SEQ. -/
def RetryFlit.after (f : RetryFlit) (ack : Nat) : Bool := decide (2048 ≤ (ack + 4096 - f.seq) % 4096)

/-- A cumulative acknowledgement frees the retry buffer up to its SEQ (R271). -/
def LinkSide.acked (l : LinkSide) (ack : Nat) : LinkSide :=
  { l with buffer := l.buffer.filter (fun f => f.after ack)
           queue := l.queue.filter (fun f => !f.old || f.after ack) }

/-- The flits that an acknowledgement covers and no earlier one did. -/
def LinkSide.newlyAcked (l : LinkSide) (ack : Nat) : List RetryFlit :=
  (l.buffer ++ l.queue.filter (fun f => f.old)).filter (fun f => !f.after ack)

/-- An acknowledgement taken: where it advances, the link retry timer starts again, and so do the transfer timers of
the transactions whose flits it covers (R272, R456). -/
def State.ackTo (s : State) (p node ack : Nat) : State :=
  let gone := (s.link p node).newlyAcked ack
  if gone.isEmpty then s
  else
    let mine (t : TagUse) : Bool := decide (t.port = p ∧ t.kind ≤ 2)
      && gone.any (fun f => decide (f.typ ≠ 5 ∧ f.typ ≠ 9 ∧ f.tag % 8192 = t.tag))
    let s1 := s.modLink p node (fun l => { l.acked ack with retryDue := s.linkDue })
    { s1 with tags := { s1.tags with used := s1.tags.used.map (fun t =>
        if mine t then { t with deadline := s.transferDue } else t) } }

/-- The acknowledgement that a flit carries; a NAK is taken by its own command. -/
def State.takeAck (s : State) (p node : Nat) (b : List Byte) : State :=
  if flitField b 2 2 15 15 = 1 ∧ flitField b 2 2 14 14 = 0 then s.ackTo p node (flitField b 2 2 11 0) else s

/-- New traffic cancels a proposal of low-power idle (R280). -/
def State.cancelLpi (s : State) (p : Nat) : State := s.modPort p (fun q => { q with lpiOffer := false, lpiHeard := none })

/-- A control frame is taken only with a good tag and a counter above the last one accepted; anything else
quarantines the port (R285, R288, R289). -/
def State.takeControl (s : State) (p node : Nat) (b : List Byte) (tagOk : Bool) : State :=
  let n := leNat ((flitPayload b).take 8)
  let lpi := decide (leNat (((flitPayload b).drop 8).take 2) = (Config.frameType (Ctrl.lpi 0).code).toNat)
  let newer := match (s.link p node).ctrlRx with
    | none => true
    | some k => decide (k < n)
  if tagOk && newer then
    let s1 := s.modLink p node (fun l => { l with ctrlRx := some n })
    if lpi then s1 else s1.cancelLpi p
  else (s.countWrap (CNT_LNK_SEC.TAG_FAIL p) 1).quarantine p node

/-- Payload that follows the first flit of a peer put (R286); it is not visible before the seal. -/
def State.takePut (s : State) (p : Nat) (b : List Byte) : State :=
  { s with puts := s.puts.map (fun u =>
      if u.port = p ∧ u.src = flitSrc b ∧ u.tag = flitTag b then { u with data := u.data ++ flitPayload b }
      else u) }

/-- What an accepted flit carries; the others act by the commands of their own rows. -/
def State.takeFlit (s : State) (p node : Nat) (b : List Byte) (tagOk : Bool) : State :=
  if s.portState p = portADMITTING then s
  else if flitType b = 1 then s.takeControl p node b tagOk
  else if flitType b = 3 ∧ flitField b 8 2 14 14 = 0 then (s.cancelLpi p).takePut p b
  else s.cancelLpi p

/-- A flit whose CRC holds: acknowledgement and credits, then acceptance in SEQ order or a NAK (R272). -/
def State.flitIn (s : State) (p node : Nat) (b : List Byte) (tagOk : Bool) : State :=
  if flitMisbehaves b then s.stalled p
  else
    let s1 := s.takeAck p node b
    let l := s1.link p node
    let d := (flitSeq b + 4096 - l.expected) % 4096
    if flitType b = 0 then
      (s1.modLink p node (fun l => { l with
        credits := min 1024 (l.credits + leNat ((b.drop 12).take 2)) })).pumpLink p node
    else if d = 0 then
      let s2 := (s1.modLink p node (fun l => { l with
        expected := (l.expected + 1) % 4096, nakSent := false })).pumpLink p node
      (s2.freeSlot p node false).takeFlit p node b tagOk
    else if d < 2048 then (s1.pumpLink p node).rejectFlit p node
    else (s1.pumpLink p node).freeSlot p node false

/-! ### Admission -/

/-- The admission of a link changed. -/
def State.modAdm (s : State) (p node : Nat) (f : Admission → Admission) : State :=
  s.modLink p node (fun l => { l with adm := f l.adm })

/-- The bytes of an admission message of this end (Table 10.5): HELLO, CERT with the installation chain, PROOF over the
messages so far, FINISHED under this end's control key over the digest of messages 1 to 6. -/
def State.admissionBytes (s : State) (p node m : Nat) : List Byte :=
  let l := s.link p node
  let a := l.adm
  if m ≤ 2 then
    Config.hello s.node (decide (s.rd STS_MGT_ROLE.ROLE ≠ 0)) p 0x7F a.nonce (Config.publicKey a.eph)
  else if m ≤ 4 then s.flash.instChain
  else if m ≤ 6 then leBytes 64 (Config.sign s.draws (Config.sm3 a.log)).toNat
  else leBytes 32 (Config.hmac l.txCtrl (leBytes 32 (Config.sm3 a.log).toNat)).toNat

/-- An admission message stands in the transcript that PROOF and FINISHED cover. -/
def State.logAdmission (s : State) (p node m : Nat) (b : List Byte) : State :=
  if m = 7 then s else s.modAdm p node (fun a => { a with log := a.log ++ b })

/-- An admission message leaves in ADMIT flits. -/
def State.sendAdmission (s : State) (p node m : Nat) : State :=
  let b := s.admissionBytes p node m
  ((s.tick.logAdmission p node m b).send (.admission p m)).sendFlits p node 2 0 (piecesOf 0 b)

/-- The first place of a new path's share of the receive buffer (R293). -/
def State.openPath (s : State) (p node : Nat) : State :=
  if s.ethernet p = true ∧ (s.link p node).granted = 0 then
    let n := min 1 (s.freeSlots p)
    (s.modLink p node (fun l => { l with credits := 0, granted := n })).idleFlit p node false n
  else s

/-- An admission exchange begins with a fresh nonce and ephemeral key; end A sends the first HELLO (Table 10.5). -/
def State.startAdmission (s : State) (p node : Nat) (first : Bool) : State :=
  let s1 := if s.portCarries p then s else s.setPortState p portADMITTING
  let s2 := ((s1.modAdm p node (fun a => { a with
    seen := [], certOk := false, proofOk := false, first := first, since := some s.now, retryAt := none
    nonce := Config.nonce s.draws, eph := Config.ephemeral s.draws, log := [] })).tick).openPath p node
  if first then s2.sendAdmission p node 1 else s2

/-- The session keys of the exchange, derived from the two ephemeral keys (R282). -/
def State.deriveKeys (s : State) (p node : Nat) : State :=
  let a := (s.link p node).adm
  let k (i : Nat) : BitVec 256 := Config.agree i a.eph a.peerKey
  s.modLink p node (fun l => { l with
    txCtrl := k (b2n (!a.first)), rxCtrl := k (b2n a.first), txSeal := k (2 + b2n (!a.first)), rxSeal := k (2 + b2n a.first) })

/-- An admission exchange is under way on a link. -/
def State.admitting (s : State) (p node : Nat) : Bool :=
  (s.link p node).adm.since.isSome && (decide (s.portState p = portADMITTING) || s.portCarries p)

/-- The nodes of the partners that the native ports have admitted (R295). -/
def State.partners (s : State) : List Nat :=
  ((List.range 24).filter (fun p => !s.ethernet p && (s.port p).link.keys && (s.port p).link.adm.assigned)).foldl
    (fun l p => addAsc (s.rd (LNK_PORT_STS.PARTNER p)) l) []

/-- JOIN_REQ to the copse lead, whichever partner that is, and JOIN_HELLO on the segment (Table 11.2, step 2). -/
def State.sendJoin (s : State) : State :=
  ((s.modMgr (fun m => { m with joining := true })).request none 0 (.joinReq s.deviceId s.partners)).sayHello

/-- A device without a node number asks to join once every copse port that trains or admits its partner has ended that
(Table 11.2, step 1); one that was refused asks again only when its host does (R315). -/
def State.askJoin (s : State) : State :=
  if s.mgr.joining ∨ s.mgr.refused ∨ s.rd STS_MGT_ROLE.ROLE ≠ 0 ∨ s.partners = []
      ∨ (List.range 16).any (fun p => !s.ethernet p && decide (s.portState p = portTRAINING ∨ s.portState p = portADMITTING)) = true
  then s else s.sendJoin

/-- A failed admission: no traffic, a back-off that doubles to at most 6.4 s, a report to the manager (R284). -/
def State.failAdmission (s : State) (p node : Nat) : State :=
  let s1 := s.modAdm p node (fun a => { a with
    seen := [], certOk := false, proofOk := false, since := none, retryAt := some (s.now + a.backoffMs * perMs)
    backoffMs := min 6400 (2 * a.backoffMs) })
  let s2 := if s.portCarries p then s1 else s1.setPortState p portADMITFAILED
  ((s2.countUp CNT_SEC.ADMIT_FAIL 1).toManager (.portReport p node 0)).askJoin

/-- Session keys are installed and the port or path carries traffic (R283, R285, R403). -/
def State.admitted (s : State) (p node : Nat) : State :=
  let a := (s.link p node).adm
  let s1 := s.modLink p node (fun l => { l with
    keys := true, ctrlTx := 0, ctrlRx := none, adm := { a with since := none, backoffMs := 100, retryAt := none } })
  let s2 := if s.portCarries p then s1 else s1.setPortState p portUP
  let s3 := if s.ethernet p then s2
    else (s2.wr (LNK_PORT_STS.PARTNER p) a.node).wr (LNK_PORT_STS.PARTNER_PORT p) a.port
  (s3.pumpLink p node).askJoin

end Sys2Proof.Machine
end

