-- ==== Sys2Proof/Machine/Admission.lean ====
section
/-! DEFINITION. Meanings of the admission of partners (R282 to R285). -/

namespace Sys2Proof.Machine

/-- PORT_TRAINED, R282: a trained port begins admission with its partner; on an Ethernet port whose paths are
already admitted, a path to one more node does.  `first` says that this end is A of Table 10.5. -/
def execPortTrained (port : Fin 24) (node : Fin 1024) (first : Bool) (s : State) :
    Host.Outcome State Fault Refusal :=
  if s.fabricUp = true ∧ s.portState port = portTRAINING then
    .next ((s.showLanes port).startAdmission port node first)
  else if s.fabricUp = true ∧ s.ethernet port = true ∧ (s.portCarries port = true ∨ s.portState port = portADMITTING)
      ∧ (s.link port node).keys = false ∧ (s.link port node).adm.since = none
      ∧ (s.link port node).adm.retryAt = none then
    .next (s.startAdmission port node first)
  else .next s

/-- An admission message was taken into the transcript; the answer of Table 10.5 leaves. -/
def State.answerAdmission (s : State) (p node m : Nat) (b : List Byte) (answers : List Nat) : State :=
  answers.foldl (fun s k => s.sendAdmission p node k)
    ((s.modAdm p node (fun a => { a with seen := a.seen ++ [m] })).logAdmission p node m b)

/-- ADMIT_HELLO, R282: HELLO of the partner, message 2 to end A and 1 to end B; the session keys follow from its
ephemeral key, A answers with its CERT, B with its HELLO. -/
def execAdmitHello (port : Fin 24) (node : Fin 1024) (partnerPort : Fin 24) (assigned : Bool) (modes : Nat)
    (nonce : BitVec 256) (key : BitVec 512) (s : State) : Host.Outcome State Fault Refusal :=
  if s.admitting port node = true ∧ (s.link port node).adm.seen = [] then
    let first := (s.link port node).adm.first
    let b := Config.hello node assigned partnerPort modes nonce key
    let s1 := (s.modAdm port node (fun a => { a with node := node, port := partnerPort, assigned := assigned
                                                     modes := modes, peerNonce := nonce, peerKey := key })).deriveKeys port node
    .next (if first then s1.answerAdmission port node 2 b [3] else s1.answerAdmission port node 1 b [2])
  else .next s

/-- ADMIT_CERT, R282, R283: the chain, of at most 8 KiB, must lead to the system root held, and its identity must not
be revoked; A answers with its PROOF, which needs the device identity key (R406), B with its CERT. -/
def execAdmitCert (port : Fin 24) (node : Fin 1024) (chain : List (BitVec 8)) (chainOk : Bool) (devId : BitVec 64)
    (s : State) : Host.Outcome State Fault Refusal :=
  let a := (s.link port node).adm
  if s.admitting port node = true ∧ a.seen.length = 1 then
    if chainOk = true ∧ chain.length ≤ 8192 ∧ s.flash.root.isSome = true ∧ devId.toNat ∉ s.mgr.revoked
        ∧ (a.first = true → s.sec.identityRefused = false) then
      let s1 := s.modAdm port node (fun a => { a with certOk := true })
      .next (if a.first then s1.answerAdmission port node 4 chain [5] else s1.answerAdmission port node 3 chain [4])
    else .next (s.failAdmission port node)
  else .next s

/-- ADMIT_PROOF, R283: the signature must be the leaf's over the transcript; A answers with FINISHED, B with
its PROOF and FINISHED. -/
def execAdmitProof (port : Fin 24) (node : Fin 1024) (signature : BitVec 512) (sigOk : Bool) (s : State) :
    Host.Outcome State Fault Refusal :=
  let a := (s.link port node).adm
  let b := leBytes 64 signature.toNat
  if s.admitting port node = true ∧ a.seen.length = 2 then
    if sigOk = true ∧ (a.first = false → s.sec.identityRefused = false) then
      let s1 := s.modAdm port node (fun a => { a with proofOk := true })
      .next (if a.first then s1.answerAdmission port node 6 b [7] else s1.answerAdmission port node 5 b [6, 7])
    else .next (s.failAdmission port node)
  else .next s

/-- 50 ms have passed since an admission exchange began (R283). -/
def State.admissionLate (s : State) (p node : Nat) : Bool :=
  (s.link p node).adm.since.any (fun t => decide (t + 50 * perMs < s.now))

/-- ADMIT_FINISHED, R283: with the chain, the proof and this tag good, within 50 ms, the partner is admitted. -/
def execAdmitFinished (port : Fin 24) (node : Fin 1024) (tagOk : Bool) (s : State) :
    Host.Outcome State Fault Refusal :=
  let a := (s.link port node).adm
  if s.admitting port node = true ∧ a.seen.length = 3 then
    if tagOk ∧ a.certOk = true ∧ a.proofOk = true ∧ s.admissionLate port node = false then
      .next ((s.modAdm port node (fun a => { a with seen := a.seen ++ [7] })).admitted port node)
    else .next (s.failAdmission port node)
  else .next s

/-- ADMISSION_TIMEOUT, R283: 50 ms have passed. -/
def execAdmissionTimeout (port : Fin 24) (node : Fin 1024) (s : State) : Host.Outcome State Fault Refusal :=
  match (s.link port node).adm.since with
  | none => .next s
  | some t =>
    if s.admitting port node = true ∧ t + 50 * perMs ≤ s.now then .next (s.failAdmission port node) else .next s

/-- ADMISSION_RETRY, R284: the back-off has passed and the exchange begins again. -/
def execAdmissionRetry (port : Fin 24) (node : Fin 1024) (s : State) : Host.Outcome State Fault Refusal :=
  match (s.link port node).adm.retryAt with
  | none => .next s
  | some t =>
    if s.fabricUp = true ∧ t ≤ s.now ∧ (s.portState port = portADMITFAILED ∨ s.portCarries port = true) then
      .next (s.startAdmission port node (s.link port node).adm.first)
    else .next s

end Sys2Proof.Machine
end

