-- ==== Sys2Proof/Machine/Formats.lean ====
section
/-! DEFINITION. Number formats (R52 to R75): exact values, the four floating-point formats, the
compensated formats, the narrow block-scaled formats and their bursts.  Every finite Y32 value is a
whole number of units of 2⁻¹⁴⁹, so arithmetic is exact on integers and rounds once where the spec
rounds. -/

namespace Sys2Proof.Machine

/-! ### Exact values -/

/-- +0. -/
def Val.zero : Val := .fin false 0

/-- 1. -/
def Val.one : Val := .fin false (2 ^ 149)

/-- The value is neither an infinity nor a NaN. -/
def Val.finite : Val → Bool
  | .fin _ _ => true
  | _ => false

/-- The signed magnitude of a finite value in units of 2⁻¹⁴⁹; zero for the others. -/
def Val.int : Val → Int
  | .fin neg m => if neg then -(m : Int) else (m : Int)
  | _ => 0

/-- The magnitude of a finite value. -/
def Val.mag : Val → Nat
  | .fin _ m => m
  | _ => 0

/-- The sign bit; false for a NaN. -/
def Val.neg : Val → Bool
  | .nan => false
  | .inf n => n
  | .fin n _ => n

/-- A signed integer of units with the sign its zero takes. -/
def Val.ofInt (x : Int) (negZero : Bool) : Val :=
  if x = 0 then .fin negZero 0 else .fin (decide (x < 0)) x.natAbs

/-- `n ÷ d` rounded to an integer, to nearest with ties to even. -/
def rne (n d : Nat) : Nat :=
  let q := n / d
  let r := n % d
  if d < 2 * r ∨ (2 * r = d ∧ q % 2 = 1) then q + 1 else q

/-- The magnitude bits of `n ÷ d` in a format with `p` significant bits whose smallest subnormal is
2^(−qm), rounded to nearest even; they grow without bound past the largest finite code. -/
def roundMag (p qm n d : Nat) : Nat :=
  let u := n * 2 ^ qm
  let k := (u / d).log2 + 1 - p
  k * 2 ^ (p - 1) + rne u (d * 2 ^ k)

/-- The magnitude that magnitude bits stand for, in units of 2^(−qm). -/
def magOfBits (p m : Nat) : Nat :=
  let k := m / 2 ^ (p - 1)
  if k = 0 then m else (2 ^ (p - 1) + m % 2 ^ (p - 1)) * 2 ^ (k - 1)

/-! ### Y32, Y16, Y8a, Y8g (R53 to R56) -/

/-- A Y32 word read. -/
def y32Val (w : Word) : Val :=
  let n := w.toNat
  let neg := decide (2 ^ 31 ≤ n)
  let m := n % 2 ^ 31
  if m < 0x7F800000 then .fin neg (magOfBits 24 m)
  else if m = 0x7F800000 then .inf neg
  else .nan

/-- The NaN that the device writes in Y32 (Table 3.2). -/
def y32NaN : Word := 0x7FC00000

/-- Sign and magnitude bits put together. -/
def y32Of (neg : Bool) (bits : Nat) : Word :=
  BitVec.ofNat 32 ((if neg then 2 ^ 31 else 0) + min bits 0x7F800000)

/-- The Y32 word of a sign and an exact magnitude `n ÷ d` (a plain number), to nearest even. -/
def y32Round (neg : Bool) (n d : Nat) : Word := y32Of neg (roundMag 24 149 n d)

/-- The Y32 word of a value. -/
def valY32 : Val → Word
  | .nan => y32NaN
  | .inf n => y32Of n 0x7F800000
  | .fin n m => y32Round n m (2 ^ 149)

/-- The Y32 word nearest to an exact sum in units of 2^(−e). -/
def y32OfInt (x : Int) (e : Nat) : Word := y32Round (decide (x < 0)) x.natAbs (2 ^ e)

/-- A Y16 code (16 bits) read; Y16 has 8 significant bits and the exponents of Y32 (R53). -/
def y16Val (n : Nat) : Val := y32Val (BitVec.ofNat 32 (n * 2 ^ 16))

/-- The Y16 code nearest to a value, ties to even; 2⁻¹³³ is its smallest subnormal. -/
def valY16 : Val → Nat
  | .nan => 0x7FC0
  | .inf n => (if n then 0x8000 else 0) + 0x7F80
  | .fin n m => (if n then 0x8000 else 0) + min (roundMag 8 133 m (2 ^ 149)) 0x7F80

/-- A Y8a code read (R54). -/
def y8aVal (n : Nat) : Val :=
  let m := n % 128
  if m = 127 then .nan else .fin (decide (128 ≤ n)) (magOfBits 4 m * 2 ^ 140)

/-- The Y8a code of a value, and whether it saturated: finite magnitudes above 448 give ±448, and an
infinity or NaN gives 0x7F (Table 3.10). -/
def valY8a : Val → Nat × Bool
  | .nan => (0x7F, false)
  | .inf _ => (0x7F, false)
  | .fin n m =>
    let s := if n then 128 else 0
    if 448 * 2 ^ 149 < m then (s + 0x7E, true) else (s + roundMag 4 9 m (2 ^ 149), false)

/-- A Y8g code read (R55). -/
def y8gVal (n : Nat) : Val :=
  let m := n % 128
  let neg := decide (128 ≤ n)
  if m < 0x7C then .fin neg (magOfBits 3 m * 2 ^ 133) else if m = 0x7C then .inf neg else .nan

/-- The Y8g code of a value. -/
def valY8g : Val → Nat
  | .nan => 0x7E
  | .inf n => (if n then 128 else 0) + 0x7C
  | .fin n m => (if n then 128 else 0) + min (roundMag 3 16 m (2 ^ 149)) 0x7C

/-- A Y32 result of a matrix array: a magnitude below 2⁻¹²⁶ is written as zero of its sign (R56). -/
def flushY32 (w : Word) : Word :=
  let m := w.toNat % 2 ^ 31
  if m < 0x00800000 then BitVec.ofNat 32 (w.toNat - m) else w

/-! ### Arithmetic in Y32, one rounding each (R57) -/

/-- Sum; an exact zero of two negative zeros keeps its sign. -/
def Val.add : Val → Val → Val
  | .nan, _ => .nan
  | _, .nan => .nan
  | .inf a, .inf b => if a = b then .inf a else .nan
  | .inf a, .fin _ _ => .inf a
  | .fin _ _, .inf b => .inf b
  | .fin a m, .fin b n => Val.ofInt ((Val.fin a m).int + (Val.fin b n).int) (a && b)

/-- The same magnitude with the other sign. -/
def Val.negate : Val → Val
  | .nan => .nan
  | .inf a => .inf (!a)
  | .fin a m => .fin (!a) m

/-- Y32 sum, rounded once. -/
def addY32 (a b : Word) : Word := valY32 ((y32Val a).add (y32Val b))

/-- Y32 difference, rounded once. -/
def subY32 (a b : Word) : Word := valY32 ((y32Val a).add (y32Val b).negate)

/-- Y32 product, rounded once. -/
def mulY32 (a b : Word) : Word :=
  match y32Val a, y32Val b with
  | .nan, _ => y32NaN
  | _, .nan => y32NaN
  | .inf s, .inf t => y32Of (s != t) 0x7F800000
  | .inf s, .fin t m => if m = 0 then y32NaN else y32Of (s != t) 0x7F800000
  | .fin s m, .inf t => if m = 0 then y32NaN else y32Of (s != t) 0x7F800000
  | .fin s m, .fin t n => y32Round (s != t) (m * n) (2 ^ 298)

/-- Y32 `a × b + c`, rounded once. -/
def fmaY32 (a b c : Word) : Word :=
  match y32Val a, y32Val b, y32Val c with
  | .fin s m, .fin t n, .fin u k =>
    let p : Int := if s = t then (m * n : Nat) else -((m * n : Nat) : Int)
    let q : Int := (Val.fin u k).int * (2 ^ 149 : Nat)
    if p + q = 0 then (if m * n = 0 ∧ (s != t) = true ∧ u = true then y32Of true 0 else y32Of false 0)
    else y32OfInt (p + q) 298
  | _, _, _ => valY32 ((y32Val (mulY32 a b)).add (y32Val c))

/-- An order of the finite values and infinities: the signed position of a word. -/
def y32Key (w : Word) : Int :=
  if w.toNat < 2 ^ 31 then (w.toNat : Int) else -((w.toNat : Int) - 2 ^ 31)

/-- The word is a NaN. -/
def isNaN (w : Word) : Bool := decide (0x7F800000 < w.toNat % 2 ^ 31)

/-- The word is an infinity or a NaN. -/
def nonFinite (w : Word) : Bool := decide (0x7F800000 ≤ w.toNat % 2 ^ 31)

/-- The word is +0 or −0. -/
def isZero (w : Word) : Bool := decide (w.toNat % 2 ^ 31 = 0)

/-- Maximum; a NaN operand gives NaN (R57). -/
def maxY32 (a b : Word) : Word :=
  if isNaN a ∨ isNaN b then y32NaN else if y32Key a < y32Key b then b else a

/-- Minimum; a NaN operand gives NaN (R57). -/
def minY32 (a b : Word) : Word :=
  if isNaN a ∨ isNaN b then y32NaN else if y32Key b < y32Key a then b else a

/-- The sign bit cleared. -/
def absY32 (a : Word) : Word := BitVec.ofNat 32 (a.toNat % 2 ^ 31)

/-- The sign bit turned over. -/
def negY32 (a : Word) : Word := a ^^^ 0x80000000

/-- A natural number in Y32. -/
def natY32 (n : Nat) : Word := y32Round false n 1

/-! ### Y16p (R58, R59) -/

/-- The pair that an exact magnitude in units of 2⁻¹⁴⁹ is written as. -/
def valY16p (v : Val) : Nat × Nat :=
  let hi := valY16 v
  match y16Val hi with
  | .fin _ m => if m = 0 then (hi, 0) else (hi, valY16 (Val.ofInt (v.int - (y16Val hi).int) false))
  | _ => (hi, 0)

/-- A pair read: hi + lo rounded to Y32. -/
def y16pVal (hi lo : Nat) : Val :=
  match y16Val hi, y16Val lo with
  | .fin a m, .fin b n => y32Val (valY32 ((Val.fin a m).add (.fin b n)))
  | .fin _ _, v => v
  | v, _ => v

/-! ### Y16c (R60, R61) -/

/-- ulp(w) ÷ 256 in units of 2⁻¹⁴⁹: 2^(E − 142) for a normal w with biased exponent E, 2⁻¹⁴¹ for a
zero or subnormal one. -/
def y16cUnit (w : Nat) : Nat :=
  let e := w / 128 % 256
  if e = 0 then 2 ^ 8 else 2 ^ (e + 7)

/-- A residue byte as a signed number. -/
def resInt (r : Nat) : Int := if r < 128 then (r : Int) else (r : Int) - 256

/-- The value of a Y16 code and a residue byte. -/
def y16cVal (w r : Nat) : Val :=
  match y16Val w with
  | .fin n m =>
    let x := (Val.fin n m).int + resInt r * (y16cUnit w : Int)
    Val.ofInt x (n && decide (m = 0))
  | v => v

/-- Stochastic rounding of a magnitude `n ÷ d` to an integer with 16 drawn bits `k` (R73). -/
def stochInt (n d k : Nat) : Nat := if k < n % d * 65536 / d then n / d + 1 else n / d

/-- A magnitude rounded by the rounding in force: to nearest even, or stochastically with the draw
given (R72). -/
def roundBy (draw : Option Nat) (n d : Nat) : Nat :=
  match draw with
  | none => rne n d
  | some k => stochInt n d k

/-- The Y16 code next above `w` on the number line. -/
def y16Up (w : Nat) : Nat :=
  if w < 0x8000 then w + 1 else if w = 0x8000 then 1 else w - 1

/-- Writing a value to Y16c: the code and the residue byte (R61). -/
def valY16c (draw : Option Nat) (v : Val) : Nat × Nat :=
  let w := valY16 v
  match y16Val w with
  | .fin _ _ =>
    let d := v.int - (y16Val w).int
    let u := y16cUnit w
    let q := roundBy draw d.natAbs u
    if d < 0 then (w, (256 - q) % 256)
    else if q < 128 then (w, q)
    else if w = 0x7F7F then (w, 127)
    else
      let w' := y16Up w
      let u' := y16cUnit w'
      (w', if u' = u then 128 else if u < u' then 192 else 0)
  | _ => (w, 0)

/-! ### Stochastic rounding to Y16 (R72 to R74) -/

/-- A value written to Y16 by the rounding in force; a value past the nearest-even overflow threshold
goes as under nearest-even, and no other reaches infinity. -/
def valY16By (draw : Option Nat) (v : Val) : Nat :=
  match draw, v with
  | some k, .fin neg m =>
    let near := valY16 v
    if near % 0x8000 = 0x7F80 then near
    else
      let e := m.log2 + 1 - 24
      let sh := if m / 2 ^ 16 < 128 then 16 else e + 16
      let q := stochInt m (2 ^ sh) k
      let b := (sh - 16) * 128 + q
      (if neg then 0x8000 else 0) + min b 0x7F7F
  | _, _ => valY16 v

/-! ### Narrow blocks (R62 to R68) -/

/-- Width in bits of a narrow format code. -/
def isNarrow (fmt : Nat) : Bool := decide (1 ≤ fmt ∧ fmt ≤ 8)

/-- Largest code magnitude of a width (Table 3.4). -/
def qmax (w : Nat) : Nat := if w = 1 then 1 else 2 ^ (w - 1) - 1

/-- An encoded block: fine-scale byte, codes as w-bit numbers, and what was counted. -/
structure Block where
  f    : Nat := 0
  q    : List Nat := []
  uf   : Bool := false
  sat  : Nat := 0
  nonf : Bool := false
  deriving DecidableEq, Repr, Inhabited

/-- The block's fine exponent plus 245: the least E with m × 2²⁴⁵ ≤ s × 2^E. -/
def fineExp (m s : Nat) : Nat :=
  let a := m * 2 ^ 245
  let e := a.log2 - s.log2
  if a ≤ s * 2 ^ e then e else e + 1

/-- The w-bit two's complement of a sign and a magnitude. -/
def codeOf (w : Nat) (neg : Bool) (q : Nat) : Nat := if neg then (2 ^ w - q) % 2 ^ w else q

/-- Encoding of a block of at most 32 inputs against the coarse scale `s` (a magnitude in units of
2⁻¹⁴⁹), the floor depth `d` and the width `w` (R68).  `draws` gives the draw of element i where the
rounding is stochastic. -/
def encodeBlock (w s d : Nat) (draws : Option (Nat → Nat)) (x : List Val) : Block :=
  let zeros := List.replicate 32 0
  if x.any (fun v => !v.finite) then { f := 1, q := zeros, nonf := true }
  else
    let m := (x.map Val.mag).foldl max 0
    if m = 0 then { f := 0, q := zeros }
    else if m * 2 ^ (d + 1) ≤ s then { f := 0, q := zeros, uf := true }
    else
      let e := min (fineExp m s) 253
      let one (i : Nat) (v : Val) : Nat :=
        if w = 1 then (if v.neg then 1 else 0)
        else
          let q := roundBy (draws.map (· i)) (v.mag * qmax w * 2 ^ 245) (s * 2 ^ e)
          codeOf w v.neg (min q (qmax w))
      let q := (List.range x.length).map (fun i => one i (x.getD i .zero))
      { f := e + 2, q := q ++ List.replicate (32 - x.length) 0,
        sat := (x.filter (fun v => decide (s * 2 ^ 8 < v.mag))).length }

/-- The magnitude code and sign of a w-bit code as it is read; the unused code reads as −Qmax and
counts as saturated (R62). -/
def readCode (w q : Nat) : Bool × Nat × Bool :=
  if w = 1 then (decide (q = 1), 1, false)
  else if q < 2 ^ (w - 1) then (false, q, false)
  else if q = 2 ^ (w - 1) then (true, qmax w, true)
  else (true, 2 ^ w - q, false)

/-- The value of one element of a block, rounded to Y32 (Table 3.10). -/
def decodeElem (w s f q : Nat) : Val :=
  if f = 0 then .zero
  else if f = 1 then .nan
  else
    let c := readCode w q
    y32Val (y32Round c.1 (c.2.1 * s * 2 ^ (f - 2)) (qmax w * 2 ^ 245 * 2 ^ 149))

/-- The values of a block. -/
def decodeBlock (w s : Nat) (b : Block) : List Val := b.q.map (decodeElem w s b.f)

/-- The 1 + 4w bytes of a block (R69, R71). -/
def blockBytes (w : Nat) (b : Block) : List Byte :=
  BitVec.ofNat 8 b.f :: leBytes (4 * w)
    ((List.range 32).foldl (fun m i => m + b.q.getD i 0 * 2 ^ (i * w)) 0)

/-- A block read from its bytes. -/
def bytesBlock (w : Nat) (l : List Byte) : Block :=
  let n := leNat (l.tail)
  { f := (l.headD 0).toNat, q := (List.range 32).map (fun i => n / 2 ^ (i * w) % 2 ^ w) }

/-- Blocks of a full burst (Table 3.9). -/
def blocksPerBurst (w : Nat) : Nat := 252 / (1 + 4 * w)

/-- Header flags of a burst (Table 3.8). -/
structure BurstFlags where
  stochastic : Bool := false
  escalated  : Bool := false
  nonfinite  : Bool := false
  saturated  : Bool := false
  underflow  : Bool := false
  deriving DecidableEq, Repr, Inhabited

/-- The flag bits [14:10] of a header as a number. -/
def BurstFlags.num (f : BurstFlags) : Nat :=
  b2n f.underflow * 2 ^ 10 + b2n f.saturated * 2 ^ 11 + b2n f.nonfinite * 2 ^ 12
    + b2n f.escalated * 2 ^ 13 + b2n f.stochastic * 2 ^ 14

/-- Flag bits read from a header word. -/
def flagsOf (h : Nat) : BurstFlags :=
  { underflow := bit h 10, saturated := bit h 11, nonfinite := bit h 12, escalated := bit h 13,
    stochastic := bit h 14 }

/-- Two sets of flags joined. -/
def BurstFlags.or (a b : BurstFlags) : BurstFlags :=
  { stochastic := a.stochastic || b.stochastic, escalated := a.escalated || b.escalated,
    nonfinite := a.nonfinite || b.nonfinite, saturated := a.saturated || b.saturated,
    underflow := a.underflow || b.underflow }

/-- A burst header (Table 3.8). -/
def burstHeader (gen : Nat) (flags : BurstFlags) (count w : Nat) : Nat :=
  gen * 2 ^ 16 + flags.num + count * 16 + w

/-- The 256 bytes of a burst: header, blocks, zero padding (R69). -/
def burstBytes (gen : Nat) (flags : BurstFlags) (w : Nat) (bs : List Block) : List Byte :=
  let l := leBytes 4 (burstHeader gen flags bs.length w) ++ (bs.map (blockBytes w)).flatten
  l ++ List.replicate (256 - l.length) 0

/-- A header passes every check of R70 for a tensor of width `w`, generation `gen`, in a burst that
R69 gives `count` blocks. -/
def headerOk (h w gen count : Nat) : Bool :=
  decide (h % 16 = w) && decide (bits h 9 4 = count) && decide (bits h 31 24 = 0) && !bit h 15
    && decide (bits h 23 16 = gen)

/-- Block `i` of a burst. -/
def burstBlock (w : Nat) (l : List Byte) (i : Nat) : Block :=
  bytesBlock w ((l.drop (4 + i * (1 + 4 * w))).take (1 + 4 * w))

/-! ### Stored elements of the plain formats -/

/-- Bytes of one element of a plain format in its first plane: Y8a, Y8g 1; Y16, Y16c 2; Y16p, Y32 4. -/
def elemBytes (fmt : Nat) : Nat :=
  if fmt = 0x9 ∨ fmt = 0xA then 1 else if fmt = 0xB ∨ fmt = 0xD then 2 else 4

/-- The value of one plain element from its number (and, for Y16c, its residue). -/
def elemVal (fmt n r : Nat) : Val :=
  if fmt = 0x9 then y8aVal n
  else if fmt = 0xA then y8gVal n
  else if fmt = 0xB then y16Val n
  else if fmt = 0xC then y16pVal (n % 65536) (n / 65536)
  else if fmt = 0xD then y16cVal n r
  else y32Val (BitVec.ofNat 32 n)

/-- The number (and residue) of a value in a plain format, and whether it saturated, which a finite value that
becomes an infinity does (R75, R147); `draw` is the draw of a stochastic rounding where the rounding in force is
one. -/
def valElem (fmt : Nat) (draw : Option Nat) (v : Val) : Nat × Nat × Bool :=
  if fmt = 0x9 then let a := valY8a v; (a.1, 0, a.2)
  else if fmt = 0xA then let a := valY8g v; (a, 0, v.finite && !(y8gVal a).finite)
  else if fmt = 0xB then let a := valY16By draw v; (a, 0, v.finite && !(y16Val a).finite)
  else if fmt = 0xC then let p := valY16p v; (p.1 + 65536 * p.2, 0, v.finite && !(y16Val p.1).finite)
  else if fmt = 0xD then let p := valY16c draw v; (p.1, p.2, v.finite && !(y16Val p.1).finite)
  else ((valY32 v).toNat, 0, false)

/-- An overflow to an infinity in a conversion to the format is a non-finite value produced; in the others what
saturates stays finite (R75, R147). -/
def overflowsToInf (fmt : Nat) : Bool := decide (0xA ≤ fmt ∧ fmt ≤ 0xD)

end Sys2Proof.Machine
end

