-- ==== Sys2Proof/Machine/Operands.lean ====
section
/-! DEFINITION. Every operand form of a descriptor: its fields (R347, R349), tensor handles and their
records (R350, R520), elements of stored tensors, partial and full writes (R64 to R66, R518), and
accesses to the memory of a plot with their outcomes (R18, R387, R446). -/

namespace Sys2Proof.Machine

/-! ### Descriptor fields -/

/-- Bits [hi:lo] of the little-endian field that starts at a byte of a descriptor. -/
def Entry.fld (e : Entry) (byte hi lo : Nat) : Nat := bits (e.raw.toNat / 2 ^ (8 * byte)) hi lo

/-- A byte. -/
def Entry.u8 (e : Entry) (byte : Nat) : Nat := e.fld byte 7 0
/-- A 16-bit field. -/
def Entry.u16 (e : Entry) (byte : Nat) : Nat := e.fld byte 15 0
/-- A 32-bit field. -/
def Entry.u32 (e : Entry) (byte : Nat) : Nat := e.fld byte 31 0
/-- A 64-bit field. -/
def Entry.u64 (e : Entry) (byte : Nat) : Nat := e.fld byte 63 0
/-- One bit. -/
def Entry.flag (e : Entry) (byte b : Nat) : Bool := decide (e.fld byte b b = 1)

/-- OPCODE (Table 13.1). -/
def Entry.opcode (e : Entry) : Nat := e.u8 0
/-- INTR. -/
def Entry.intr (e : Entry) : Bool := e.flag 1 0
/-- The FENCE flag. -/
def Entry.fenceFlag (e : Entry) : Bool := e.flag 1 1
/-- IN_STEP. -/
def Entry.inStep (e : Entry) : Bool := e.flag 1 2
/-- STEP_OPEN. -/
def Entry.stepOpen (e : Entry) : Bool := e.flag 1 3
/-- STEP_CLOSE. -/
def Entry.stepClose (e : Entry) : Bool := e.flag 1 4
/-- ROUND: stochastic rounding selected (R72). -/
def Entry.stochastic (e : Entry) : Bool := e.flag 1 5
/-- STEP_SEQ. -/
def Entry.stepSeq (e : Entry) : Nat := e.u8 3
/-- USER. -/
def Entry.user (e : Entry) : Nat := e.u32 4

/-- The plot of a ring (Table 13.13). -/
def State.ringPlot (s : State) (r : Nat) : Nat := s.rd (RING_CFG.PLOT r)

/-! ### Outcomes -/

/-- Why a descriptor ends without its effects: a completion code with VALUE, or a read of poisoned
data at a device address, which is also a fault event (R18). -/
inductive Fail where
  | code (st v : Nat)
  | poison (a : Nat)
  deriving DecidableEq, Repr

/-- DESC_ERROR at a byte offset (R519). -/
def descError (v : Nat) : Fail := .code 0x10 v
/-- FORMAT_ERROR. -/
def formatError : Fail := .code 0x11 0
/-- DATA_POISONED without an event: a retired page or a fenced stack (R387, R446). -/
def poisonedQuiet : Fail := .code 0x12 0

/-- A read of poisoned data counts as an uncorrectable read and is C2 of the plot (R18). -/
def State.poisonEvent (s : State) (p a : Nat) : State :=
  let n := a / stackBytes
  (s.modStack n (fun k => { k with uncorr := k.uncorr + 1 })).latchSure n 1 [p] n a 0 (some 2)

/-- Descriptor `i` of ring `r` of plot `p` fails. -/
def State.failDesc (s : State) (r i p : Nat) : Fail → State
  | .code st v => s.finish r i st v
  | .poison a => (s.poisonEvent p a).finish r i 0x12 0

/-! ### Memory of a plot -/

/-- A plot-relative range as device ranges, cut at the 1 GiB units (R377). -/
def State.pieces (s : State) (p a n : Nat) : List (Nat × Nat) :=
  (blocksOf extentBytes a n).filterMap (fun g =>
    let lo := max a (g * extentBytes)
    let hi := min (a + n) ((g + 1) * extentBytes)
    (s.plotToHbm p lo).map (fun d => (d, hi - lo)))

/-- The outcome of an access to device memory: a fenced stack or a retired page, or a poisoned unit
that is read. -/
def State.accessFail (s : State) (reading : Bool) (l : List (Nat × Nat)) : Option Fail :=
  if l.any (fun q => s.fenced (q.1 / stackBytes) || s.hbm.retiredIn q.1 q.2) then some poisonedQuiet
  else if reading then
    match l.find? (fun q => s.hbm.poisoned q.1 q.2) with
    | some q => some (.poison q.1)
    | none => none
  else none

/-- Bytes of device ranges, one after the other. -/
def State.readPieces (s : State) (l : List (Nat × Nat)) : List Byte :=
  (l.map (fun q => s.hbm.read q.1 q.2)).flatten

/-- Bytes written over device ranges, one after the other. -/
def Hbm.writePieces (h : Hbm) : List (Nat × Nat) → List Byte → Hbm
  | [], _ => h
  | q :: l, b => Hbm.writePieces (h.write q.1 (b.take q.2)) l (b.drop q.2)

/-- 2.2 pJ for each HBM bit moved (R430): 176,000 units a byte. -/
def hbmByteEnergy : Nat := 176000

/-- The ring number under which activity that no ring of this device caused is charged (R431). -/
def noRing : Nat := 1024

/-- What moving bytes of HBM counts: energy and performance events 5, 6 and 7. -/
def State.moved (s : State) (p r : Nat) (reading : Bool) (l : List (Nat × Nat)) : State :=
  l.foldl (fun s q =>
    let n := q.1 / stackBytes
    let units := (blocksOf unitBytes q.1 q.2).length
    let clean := ((blocksOf pageBytes q.1 q.2).filter (fun g => decide (g ∉ s.hbm.dirty))).length
    let s1 := (s.charge p r (16 + n) (hbmByteEnergy * q.2)).perf n (if reading then 5 else 6) units
    if reading then s1.perf n 7 clean else s1) s

/-- One range goes over the mesh from die `a` to die `b`: each die of its route but the last sends (R14, Table
19.8). -/
def State.crossMesh (s : State) (a b : Nat) : State :=
  (((s.meshRoute a b).getD []).dropLast).foldl (fun s d => (s.perf d 8 (Config.channelTransfers s.draws)).tick) s

/-- Device ranges staged into tile memory on grove die `gd`, or moved back from it: HBM reads, the lines of
the die's layout engine, and the channel transfers of another die's bytes (R95, R144, R430, Table 19.8). -/
def State.staged (s : State) (p r gd : Nat) (reading : Bool) (l : List (Nat × Nat)) : State :=
  l.foldl (fun s q =>
    let n := q.1 / stackBytes
    let s1 := s.perf gd 3 (ceilDiv q.2 64)
    if reading then s1.crossMesh n gd else s1.crossMesh gd n)
    (if reading then s.moved p r true l else s)

/-- A read of the memory of plot `p` for ring `r`. -/
def State.readPlot (s : State) (p a n : Nat) : Except Fail (List Byte) :=
  let l := s.pieces p a n
  match s.accessFail true l with
  | some f => .error f
  | none => .ok (s.readPieces l)

/-- A write to the memory of plot `p` for ring `r`. -/
def State.writePlot (s : State) (p r a : Nat) (b : List Byte) : Except Fail State :=
  let l := s.pieces p a b.length
  match s.accessFail false l with
  | some f => .error f
  | none => .ok (State.moved { s with hbm := s.hbm.writePieces l b } p r false l)

/-! ### Tensors -/

/-- A tensor record that is VALID, under a handle of the plot (R350). -/
def State.tensor (s : State) (p h : Nat) : Option Tensor :=
  let t := Tab.val (s.plot p).handles h
  if h < 0xFFFF ∧ t.valid = true then some t else none

/-- A tensor record changed. -/
def State.modTensor (s : State) (p h : Nat) (f : Tensor → Tensor) : State :=
  s.modPlot p (fun q => { q with handles := Tab.upd q.handles h f })

/-- Elements. -/
def Tensor.count (t : Tensor) : Nat := t.rows * t.cols
/-- Blocks of one row of a narrow tensor (R69). -/
def Tensor.rowBlocks (t : Tensor) : Nat := ceilDiv t.cols 32
/-- Bursts of a narrow tensor. -/
def Tensor.bursts (t : Tensor) : Nat := ceilDiv (t.rows * t.rowBlocks) (blocksPerBurst t.fmt)
/-- Blocks that burst `j` holds (R69). -/
def Tensor.burstCount (t : Tensor) (j : Nat) : Nat :=
  min (blocksPerBurst t.fmt) (t.rows * t.rowBlocks - j * blocksPerBurst t.fmt)
/-- Offset of the residue plane of a Y16c tensor (R60). -/
def Tensor.residueOff (t : Tensor) : Nat := roundUp (2 * t.count) 256

/-- Bytes that the tensor occupies (R60, R69). -/
def Tensor.bytes (t : Tensor) : Nat :=
  if isNarrow t.fmt then 256 * t.bursts
  else if t.fmt = 0xD then t.residueOff + t.count
  else elemBytes t.fmt * t.count

/-- A record that names a tensor whose extent lies in the lease (R350). -/
def State.handleOk (s : State) (p h : Nat) : Bool :=
  match s.tensor p h with
  | some t => s.inLease p t.addr t.bytes
  | none => false

/-- S_NEXT positive, finite and normal, FLOOR_D from 1 to 245 (R64). -/
def Tensor.scaleOk (t : Tensor) : Bool :=
  decide (0x00800000 ≤ t.sNext.toNat ∧ t.sNext.toNat < 0x7F800000
    ∧ 1 ≤ t.floorD.toNat ∧ t.floorD.toNat ≤ 245)

/-- The bursts of a narrow tensor read and checked (R70). -/
def State.loadBursts (s : State) (p : Nat) (t : Tensor) : Except Fail (List (List Byte)) := do
  let raw ← s.readPlot p t.addr (256 * t.bursts)
  let l := (List.range t.bursts).map (fun j => (raw.drop (256 * j)).take 256)
  if (List.range t.bursts).all (fun j =>
      headerOk (leNat ((l.getD j []).take 4)) t.fmt t.gen.toNat (t.burstCount j)) then
    pure l
  else throw formatError

/-- The blocks of checked bursts, in order. -/
def Tensor.blocksOfBursts (t : Tensor) (l : List (List Byte)) : List Block :=
  (List.range l.length).flatMap (fun j =>
    (List.range (t.burstCount j)).map (fun i => burstBlock t.fmt (l.getD j []) i))

/-- Elements of blocks laid out row by row, the padding of short blocks left out (R69). -/
def Tensor.ofBlocks {α : Type} (t : Tensor) (bs : List Block) (dec : Block → List α) : List α :=
  (List.range t.rows).flatMap (fun r =>
    (((bs.drop (r * t.rowBlocks)).take t.rowBlocks).flatMap dec).take t.cols)

/-- Every element of a tensor as a value, row-major (Table 3.10). -/
def State.load (s : State) (p : Nat) (t : Tensor) : Except Fail (List Val) := do
  if isNarrow t.fmt then
    let l ← s.loadBursts p t
    pure (t.ofBlocks (t.blocksOfBursts l) (decodeBlock t.fmt (y32Val t.sEnc).mag))
  else
    let n := elemBytes t.fmt
    let raw ← s.readPlot p t.addr t.bytes
    pure ((List.range t.count).map (fun i =>
      elemVal t.fmt (leNat ((raw.drop (n * i)).take n))
        (if t.fmt = 0xD then (raw.getD (t.residueOff + i) 0).toNat else 0)))

/-- Every 32-bit word of a tensor of FORMAT Y32, as raw bits (R520). -/
def State.loadWords (s : State) (p : Nat) (t : Tensor) : Except Fail (List Word) := do
  let raw ← s.readPlot p t.addr (4 * t.count)
  pure ((List.range t.count).map (fun i => BitVec.ofNat 32 (leNat ((raw.drop (4 * i)).take 4))))

/-- One element of a stored tensor (R70, Table 3.10). -/
def State.elemAt (s : State) (p : Nat) (t : Tensor) (n : Nat) : Except Fail Val := do
  if isNarrow t.fmt then
    let col := n % t.cols
    let b := n / t.cols * t.rowBlocks + col / 32
    let j := b / blocksPerBurst t.fmt
    let l ← s.readPlot p (t.addr + 256 * j) 256
    if headerOk (leNat (l.take 4)) t.fmt t.gen.toNat (t.burstCount j) then
      pure ((decodeBlock t.fmt (y32Val t.sEnc).mag (burstBlock t.fmt l (b % blocksPerBurst t.fmt))).getD
        (col % 32) .zero)
    else throw formatError
  else
    let k := elemBytes t.fmt
    let w ← s.readPlot p (t.addr + k * n) k
    let res ← if t.fmt = 0xD then s.readPlot p (t.addr + t.residueOff + n) 1 else pure []
    pure (elemVal t.fmt (leNat w) (res.getD 0 0).toNat)

/-- Element `n` of a narrow tensor holds the unused code: it is read as −Qmax and counts as a saturated element
(R62). -/
def State.unusedAt (s : State) (p : Nat) (t : Tensor) (n : Nat) : Bool :=
  isNarrow t.fmt &&
  let b := n / t.cols * t.rowBlocks + n % t.cols / 32
  match s.readPlot p (t.addr + 256 * (b / blocksPerBurst t.fmt)) 256 with
  | .ok l =>
    let k := burstBlock t.fmt l (b % blocksPerBurst t.fmt)
    decide (2 ≤ k.f) && (readCode t.fmt (k.q.getD (n % t.cols % 32) 0)).2.2
  | .error _ => false

/-- Unused codes among some elements of a tensor. -/
def State.unusedCodes (s : State) (p : Nat) (t : Tensor) (idx : List Nat) : Nat :=
  if isNarrow t.fmt then (idx.filter (s.unusedAt p t)).length else 0

/-- Some elements of a stored tensor. -/
def State.elems (s : State) (p : Nat) (t : Tensor) (idx : List Nat) : Except Fail (List Word) := do
  let l ← idx.mapM (s.elemAt p t)
  pure (l.map valY32)

/-- What an encoded write counted (R68, R75): `sat` includes finite values that became infinities. -/
structure Wrote where
  uf   : Nat := 0
  sat  : Nat := 0
  nf   : Nat := 0
  amax : Nat := 0
  deriving DecidableEq, Repr, Inhabited

/-- Two counts joined. -/
def Wrote.add (a b : Wrote) : Wrote :=
  { uf := a.uf + b.uf, sat := a.sat + b.sat, nf := a.nf + b.nf, amax := max a.amax b.amax }

/-- How a write rounds and marks its bursts: the generators it draws from where stochastic, and whether its tile
has escalated. -/
structure WriteMode where
  draws : Option (List (BitVec 64)) := none
  esc   : Bool := false
  /-- The elements of the piece that is written, in the order of their draws; none where the whole tensor is. -/
  elems : List Nat := []
  deriving DecidableEq, Repr, Inhabited

/-- Which draw of the write element `i` takes: its place in the piece; an element of the same block that the write
only encodes again takes one after those. -/
def WriteMode.place (m : WriteMode) (i : Nat) : Nat :=
  if m.elems.isEmpty then i else (m.elems.idxOf? i).getD (m.elems.length + i % 32)

/-- The draw of element `i` of a write. -/
def WriteMode.draw (m : WriteMode) (i : Nat) : Option Nat := m.draws.map (fun l => (laneDraw l (m.place i)).toNat)

/-- One burst of a narrow tensor written back (R518): `new i` is the value that the write gives to
element i, if it names it. -/
def Tensor.writeBurst (t : Tensor) (m : WriteMode) (new : Nat → Option Val) (j : Nat) (old : List Byte) :
    List Byte × Wrote :=
  let s := (y32Val t.sEnc).mag
  let h := leNat (old.take 4)
  let ok := headerOk h t.fmt t.gen.toNat (t.burstCount j)
  let one (i : Nat) : Block × Bool × Wrote :=
    let b := j * blocksPerBurst t.fmt + i
    let first := b / t.rowBlocks * t.cols + b % t.rowBlocks * 32
    let len := min 32 (t.cols - b % t.rowBlocks * 32)
    let idx := (List.range len).map (fun k => first + k)
    let news := idx.map new
    let prev : Block := if ok then burstBlock t.fmt old i else { f := 0, q := List.replicate 32 0 }
    if news.all Option.isNone then (prev, false, {})
    else
      let olds := decodeBlock t.fmt s prev
      let x := (List.range len).map (fun k => (news.getD k none).getD (olds.getD k .zero))
      let c := encodeBlock t.fmt s t.floorD.toNat
        (m.draws.map (fun l => fun k => (laneDraw l (m.place (first + k))).toNat)) x
      (c, true,
       { uf := b2n c.uf, sat := c.sat, nf := (x.filter (fun v => !v.finite)).length,
         amax := (news.map (fun v => (v.getD .zero).mag)).foldl max 0 })
  let bs := (List.range (t.burstCount j)).map one
  let enc := bs.filter (fun b => b.2.1)
  let kept := bs.any (fun b => !b.2.1)
  let w := (enc.map (fun b => b.2.2)).foldl Wrote.add {}
  let fresh : BurstFlags :=
    { stochastic := m.draws.isSome && !enc.isEmpty, escalated := m.esc && !enc.isEmpty,
      saturated := decide (0 < w.sat), underflow := decide (0 < w.uf) }
  let flags := if kept ∧ ok = true then fresh.or (flagsOf h) else fresh
  (burstBytes t.gen.toNat { flags with nonfinite := bs.any (fun b => decide (b.1.f = 1)) } t.fmt
    (bs.map (fun b => b.1)), w)

/-- The elements of block `b` of a narrow tensor, in order (R69). -/
def Tensor.blockElems (t : Tensor) (b : Nat) : List Nat :=
  (List.range (min 32 (t.cols - b % t.rowBlocks * 32))).map
    (fun k => b / t.rowBlocks * t.cols + b % t.rowBlocks * 32 + k)

/-- The elements of burst `j` of a narrow tensor, in order (R69). -/
def Tensor.burstElems (t : Tensor) (j : Nat) : List Nat :=
  (List.range (t.burstCount j)).flatMap (fun i => t.blockElems (j * blocksPerBurst t.fmt + i))

/-- The bytes of burst `j` that a write reads: none where it names every element (R518). -/
def State.oldBurst (s : State) (p : Nat) (t : Tensor) (new : Nat → Option Val) (j : Nat) :
    Except Fail (List Byte) :=
  if (t.burstElems j).all (fun n => (new n).isSome) then pure [] else s.readPlot p (t.addr + 256 * j) 256

/-- Writes that abut, each to the end of the one before, as one: what a write covers it covers at once (R18). -/
def abut : List (Nat × List Byte) → List (Nat × List Byte)
  | [] => []
  | q :: l => match abut l with
    | [] => [q]
    | n :: rest => if q.1 + q.2.length = n.1 then (q.1, q.2 ++ n.2) :: rest else q :: n :: rest

/-- Bytes written at several addresses of a plot. -/
def State.writeRuns (s : State) (p r : Nat) (l : List (Nat × List Byte)) : Except Fail State :=
  (abut l).foldlM (fun s q => s.writePlot p r q.1 q.2) s

/-- The elements of a tensor that is not narrow as a write leaves them in memory: address and bytes of each, and of
its residue in Y16c. -/
def Tensor.elemWrites (t : Tensor) (m : WriteMode) (idx : List Nat) (v : Nat → Val) : List (Nat × List Byte) :=
  let n := elemBytes t.fmt
  idx.map (fun i => (t.addr + n * i, leBytes n (valElem t.fmt (m.draw i) (v i)).1))
  ++ (if t.fmt = 0xD then
      idx.map (fun i => (t.addr + t.residueOff + i, leBytes 1 (valElem t.fmt (m.draw i) (v i)).2.1)) else [])

/-- Elements of a tensor stored: `new i` gives the value of element i where the write names it.
Narrow tensors are written burst by burst and raise AMAX and FLAGS (R65); a burst of which the write
leaves something unwritten is read first (R518).  The counts of a Y16p output whose handle carries a scale record go
to its FLAGS (R127). -/
def State.store (s : State) (p r h : Nat) (m : WriteMode) (new : Nat → Option Val) :
    Except Fail (State × Wrote) := do
  let t := Tab.val (s.plot p).handles h
  if isNarrow t.fmt then
    let js := (List.range t.bursts).filter (fun j => (t.burstElems j).any (fun n => (new n).isSome))
    let (s1, w) ← js.foldlM (fun (acc : State × Wrote) j => do
      let old ← acc.1.oldBurst p t new j
      let o := t.writeBurst m new j old
      let s' ← acc.1.writePlot p r (t.addr + 256 * j) o.1
      pure (s', acc.2.add o.2)) (s, ({} : Wrote))
    let amax := max w.amax (y32Val t.amax).mag
    let fl := (if 0 < w.nf then 1 else 0) ||| (if 0 < w.uf then 2 else 0) ||| (if 0 < w.sat then 4 else 0)
    pure (s1.modTensor p h (fun t => { t with
      amax := valY32 (.fin false amax), flags := t.flags ||| BitVec.ofNat 8 fl }), w)
  else
    let idx := (List.range t.count).filter (fun i => (new i).isSome)
    let v (i : Nat) : Val := (new i).getD .zero
    let s1 ← s.writeRuns p r (t.elemWrites m idx v)
    let w := idx.foldl (fun (w : Wrote) i =>
      w.add { sat := b2n (valElem t.fmt (m.draw i) (v i)).2.2, nf := b2n (!(v i).finite) }) {}
    let fl := (if 0 < w.nf then 1 else 0) ||| (if 0 < w.sat then 4 else 0)
    pure (if t.fmt = 0xC ∧ t.scaled = true then
      s1.modTensor p h (fun t => { t with flags := t.flags ||| BitVec.ofNat 8 fl }) else s1, w)

/-- The raw words of some elements of a tensor of FORMAT Y32 stored (R520). -/
def State.storeWords (s : State) (p r : Nat) (t : Tensor) (l : List (Nat × Word)) : Except Fail State :=
  s.writeRuns p r (l.map (fun q => (t.addr + 4 * q.1, leBytes 4 q.2.toNat)))

/-- A full write begins: S_ENC takes S_NEXT and GEN advances (R65). -/
def State.rebase (s : State) (p h : Nat) : State :=
  s.modTensor p h (fun t =>
    if isNarrow t.fmt then { t with sEnc := t.sNext, gen := t.gen + 1 } else t)

/-- AMAX rounded up to a normal Y32 value becomes S_NEXT if it is positive; AMAX and FLAGS clear
(R66). -/
def Tensor.refresh (t : Tensor) : Tensor :=
  { t with sNext := if isZero t.amax then t.sNext
                    else if t.amax.toNat < 0x00800000 then 0x00800000 else t.amax
           amax := 0, flags := 0 }

/-- The record of a narrow tensor that a write touched is refreshed at the completion of its step, or
at that of its descriptor if it belongs to none (R66). -/
def State.markNarrow (s : State) (p r i h : Nat) : State :=
  let t := Tab.val (s.plot p).handles h
  if isNarrow t.fmt then
    match s.entry r i, (s.plot p).step with
    | some e, some _ =>
      if e.member then s.modPlot p (fun q => { q with
        step := q.step.map (fun k => { k with narrow := addAsc h k.narrow }) })
      else s.modTensor p h Tensor.refresh
    | _, _ => s.modTensor p h Tensor.refresh
  else s

/-- A whole tensor written by descriptor `i` of ring `r`: a full write. -/
def State.storeAll (s : State) (p r h : Nat) (m : WriteMode) (l : List Val) :
    Except Fail (State × Wrote) :=
  (s.rebase p h).store p r h m (fun i => l[i]?)

/-! ### Checks of R520 -/

/-- The record of a handle has exactly this shape; `none` leaves a dimension free. -/
def Tensor.shapeIs (t : Tensor) (rows cols : Option Nat) : Bool :=
  decide (rows.getD t.rows = t.rows ∧ cols.getD t.cols = t.cols)

/-- The first failing check, with the byte offset of its field: the lowest offset wins (R519). -/
def firstFail (l : List (Nat × Bool)) : Option Nat :=
  (l.filter (fun q => q.2)).foldl (fun (m : Option Nat) q =>
    match m with
    | none => some q.1
    | some k => some (min k q.1)) none

/-- A handle field fails: not VALID, out of the lease, or not described as the field implies. -/
def State.badHandle (s : State) (p h : Nat) (f : Tensor → Bool) : Bool :=
  match s.tensor p h with
  | some t => !(s.inLease p t.addr t.bytes && f t)
  | none => true

/-- An output handle: as above, and its scale record takes the write where it is narrow (R64). -/
def State.badOutput (s : State) (p h : Nat) (f : Tensor → Bool) : Bool :=
  s.badHandle p h (fun t => f t && (!isNarrow t.fmt || t.scaleOk))

/-- Some reserved bit among bytes 8 to 63 outside the listed bit ranges [hi:lo] is set; the offset of
the lowest such byte (R5, R349). -/
def Entry.reservedAt (e : Entry) (used : List (Nat × Nat)) : Option Nat :=
  ((List.range 448).map (· + 64)).foldl (fun (m : Option Nat) b =>
    match m with
    | some k => some k
    | none => if bit e.raw.toNat b ∧ ¬ used.any (fun u => decide (u.2 ≤ b ∧ b ≤ u.1)) then some (b / 8)
      else none) none

end Sys2Proof.Machine
end

