-- ==== Sys2Proof/Machine/IssueOps.lean ====
section
/-! DEFINITION. When a descriptor may issue: what its opcode reads and writes (R365), fences and flags
(R362, R363, R370), membership of steps (R180 to R187), resources that have not joined service (R476);
and the shared shape of every opcode's issue. -/

namespace Sys2Proof.Machine

/-! ### Opcodes (Table 13.2) -/

/-- NOP. -/
def opNOP : Nat := 0x00
/-- MATMUL. -/
def opMATMUL : Nat := 0x01
/-- ELEMENTWISE. -/
def opELEMENTWISE : Nat := 0x02
/-- REDUCE. -/
def opREDUCE : Nat := 0x03
/-- NORM_FWD. -/
def opNORMFWD : Nat := 0x04
/-- NORM_BWD. -/
def opNORMBWD : Nat := 0x05
/-- SOFTMAX_FWD. -/
def opSOFTMAXFWD : Nat := 0x06
/-- SOFTMAX_BWD. -/
def opSOFTMAXBWD : Nat := 0x07
/-- STASH_PUSH. -/
def opPUSH : Nat := 0x08
/-- STASH_POP. -/
def opPOP : Nat := 0x09
/-- EXCHANGE. -/
def opEXCHANGE : Nat := 0x0A
/-- DISPATCH. -/
def opDISPATCH : Nat := 0x0B
/-- COMBINE. -/
def opCOMBINE : Nat := 0x0C
/-- UPDATE. -/
def opUPDATE : Nat := 0x0D
/-- COPY. -/
def opCOPY : Nat := 0x0E
/-- FENCE. -/
def opFENCE : Nat := 0x0F
/-- FLAG_WAIT. -/
def opFLAGWAIT : Nat := 0x10
/-- FLAG_SET. -/
def opFLAGSET : Nat := 0x11
/-- CORE_CALL. -/
def opCORECALL : Nat := 0x12

/-- The offset of the lowest failing header check, if any (R5, R348, R519). -/
def Entry.headerError (e : Entry) (plot : Nat) : Option Nat :=
  firstFail [(0, decide (0x12 < e.opcode)),
    (1, decide (e.fld 1 7 6 ≠ 0) || (e.stepOpen && decide (e.opcode ≠ opNOP)) || (e.stepClose && !e.inStep)),
    (2, decide (e.u8 2 ≠ plot)),
    (3, decide (e.opcode = opNOP) && e.stepOpen && decide (e.stepSeq ≠ e.u8 8))]

/-! ### Region records (Table 9.1) -/

/-- Bits [hi:lo] of the little-endian field at a byte of a region record. -/
def regFld (r : BitVec 512) (byte hi lo : Nat) : Nat := bits (r.toNat / 2 ^ (8 * byte)) hi lo

/-- Region record `n` of a table, whatever its bytes hold. -/
def State.peekRegion (s : State) (p : Nat) (t : Tensor) (n : Nat) : BitVec 512 :=
  BitVec.ofNat 512 (leNat (s.readPieces (s.pieces p (t.addr + 64 * n) 64)))

/-- The region records that an UPDATE commits, as read by its step's gate or, outside a step, when
the descriptor reached the head of its ring (R242, R245). -/
def State.regionsOf (s : State) (p : Nat) (e : Entry) : List (BitVec 512) :=
  let first := e.u16 10
  let ns := (List.range (e.u16 12)).map (· + first)
  match (if e.member then (s.plot p).step.bind (fun k => k.gate) else none), e.regions, s.tensor p (e.u16 8) with
  | some g, _, _ => ns.map (fun n => g.recs.getD (n - g.first) 0)
  | none, some l, _ => l
  | none, none, some t => ns.map (s.peekRegion p t)
  | none, none, none => []

/-! ### Handles that a descriptor names (R365) -/

/-- Handles of the ELEMENTWISE inputs that OP names (Table 6.3): X, Y, W. -/
def elemInputs (op : Nat) : Bool × Bool × Bool :=
  (decide (op ≠ 0x20),
   decide (1 ≤ op ∧ op ≤ 6 ∨ 0x18 ≤ op ∧ op ≤ 0x1C), decide (op = 4))

/-- The handles under flags: each is listed where its flag holds. -/
def named (l : List (Bool × Nat)) : List Nat := (l.filter (fun q => q.1)).map (fun q => q.2)

/-- The tensor records that a COPY of kind 0b100 covers. -/
def recordRange (first len : Nat) : List Nat := (List.range (len / 64)).map (· + first)

/-- The handles that a descriptor reads. -/
def State.readsOf' (s : State) (p : Nat) (e : Entry) : List Nat :=
  let op := e.opcode
  if op = opMATMUL then named [(true, e.u16 8), (true, e.u16 10), (e.flag 27 6, e.u16 12)]
  else if op = opELEMENTWISE then
    let k := elemInputs (e.fld 30 5 0)
    named [(k.1, e.u16 8), (k.2.1, e.u16 10), (k.2.2, e.u16 12)]
  else if op = opREDUCE then [e.u16 8]
  else if op = opNORMFWD then named [(true, e.u16 8), (e.flag 31 5, e.u16 14), (e.flag 31 6, e.u16 16)]
  else if op = opNORMBWD then named [(true, e.u16 8), (true, e.u16 10), (true, e.u16 12),
    (e.flag 31 5, e.u16 14), (e.flag 31 7 && e.flag 31 5, e.u16 20), (e.flag 31 7 && e.flag 31 6, e.u16 22)]
  else if op = opSOFTMAXFWD then named [(true, e.u16 8), (e.flag 23 4, e.u16 10)]
  else if op = opSOFTMAXBWD then [e.u16 8, e.u16 10]
  else if op = opPUSH then named [(true, e.u16 8), (e.flag 22 3, e.u16 12)]
  else if op = opPOP then named [(e.flag 22 3, e.u16 12)]
  else if op = opEXCHANGE then named [(true, e.u16 8), (!e.flag 30 2, e.u16 10), (!e.flag 30 3, e.u16 18)]
  else if op = opDISPATCH then named [(true, e.u16 8), (true, e.u16 10), (true, e.u16 12),
    (e.flag 37 6, e.u16 20)]
  else if op = opCOMBINE then [e.u16 10, e.u16 16, e.u16 18, e.u16 20]
  else if op = opUPDATE then
    e.u16 8 :: (s.regionsOf p e).flatMap (fun r =>
      [regFld r 2 15 0, regFld r 4 15 0, regFld r 6 15 0, regFld r 8 15 0, regFld r 10 15 0,
       regFld r 12 15 0, regFld r 14 15 0])
  else if op = opCOPY then
    (if e.fld 30 2 0 = 0 then [e.u16 8]
     else if e.fld 30 2 0 = 4 then recordRange (e.u16 8) (e.u32 24) else [])
  else if op = opCORECALL then named [(e.flag 19 0, e.u16 10), (e.flag 19 1, e.u16 12),
    (e.flag 19 2, e.u16 14), (e.flag 19 3, e.u16 16)]
  else []

/-- The handles that a descriptor writes. -/
def State.writesOf (s : State) (p : Nat) (e : Entry) : List Nat :=
  let op := e.opcode
  if op = opMATMUL then named [(true, e.u16 12), (e.flag 27 7, e.u16 14)]
  else if op = opELEMENTWISE then [e.u16 14]
  else if op = opREDUCE then
    named [(true, e.u16 10), (decide (e.fld 23 6 5 = 1 ∨ e.fld 23 6 5 = 2), e.u16 12)]
  else if op = opNORMFWD then [e.u16 10, e.u16 12]
  else if op = opNORMBWD then
    named [(true, e.u16 18), (e.flag 31 5, e.u16 20), (e.flag 31 6, e.u16 22)]
  else if op = opSOFTMAXFWD ∨ op = opSOFTMAXBWD then [e.u16 12]
  else if op = opPOP then [e.u16 8]
  else if op = opEXCHANGE then named [(true, e.u16 12), (true, e.u16 14), (true, e.u16 16),
    (!e.flag 29 4, e.u16 18)]
  else if op = opDISPATCH then [e.u16 14, e.u16 18, e.u16 20]
  else if op = opCOMBINE then [e.u16 22]
  else if op = opUPDATE then
    (s.regionsOf p e).flatMap (fun r =>
      [regFld r 2 15 0, regFld r 6 15 0, regFld r 8 15 0, regFld r 10 15 0, regFld r 12 15 0])
  else if op = opCOPY then
    (if e.fld 30 5 3 = 0 then [e.u16 16]
     else if e.fld 30 5 3 = 4 then recordRange (e.u16 16) (e.u32 24) else [])
  else if op = opCORECALL then named [(e.flag 19 0 && e.flag 19 4, e.u16 10),
    (e.flag 19 1 && e.flag 19 5, e.u16 12), (e.flag 19 2 && e.flag 19 6, e.u16 14),
    (e.flag 19 3 && e.flag 19 7, e.u16 16)]
  else []

/-- Two lists of handles share a member other than 0xFFFF. -/
def shares (a b : List Nat) : Bool := a.any (fun h => decide (h ≠ 0xFFFF ∧ h ∈ b))

/-- An earlier unretired descriptor `f` must retire before `e` issues (R365). -/
def State.hazard (s : State) (p : Nat) (e f : Entry) : Bool :=
  let w := s.writesOf p f
  shares w (s.readsOf' p e) || shares w (s.writesOf p e) || shares (s.readsOf' p f) (s.writesOf p e)

/-! ### Resources that have not joined (R475, R476) -/

/-- PHASE of bring-up is FULL (Table 18.3). -/
def State.full (s : State) : Bool := decide (s.rd CTL_BRINGUP_STS.PHASE = 3)

/-- Every stack that some device ranges lie in has trained or is fenced out (R474, R523). -/
def State.rangesReady (s : State) (l : List (Nat × Nat)) : Bool :=
  l.all (fun q => s.rdBit STS_INSERVICE.STACKS (q.1 / stackBytes) || s.fenced (q.1 / stackBytes))

/-- Every stack that a tensor lies in has trained or is fenced out. -/
def State.stackReady (s : State) (p h : Nat) : Bool :=
  match s.tensor p h with
  | none => true
  | some t => s.rangesReady (s.pieces p t.addr t.bytes)

/-- The device ranges of the local glade that a COPY names, its own node among its peers (R360, R361, R523). -/
def State.gladeOf (s : State) (e : Entry) : List (Nat × Nat) :=
  let here (k : Nat) : Bool := decide (k = 2 ∨ (k = 3 ∧ e.fld 28 9 0 = s.node))
  if e.opcode = opCOPY then
    (if here (e.fld 30 2 0) then gladePieces (e.u64 8) (e.u32 24) else [])
    ++ (if here (e.fld 30 5 3) then gladePieces (e.u64 16) (e.u32 24) else [])
  else []

/-- An operand in Y8g, Y16 or Y16p. -/
def State.wideOperand (s : State) (p h : Nat) : Bool :=
  match s.tensor p h with
  | none => false
  | some t => decide (t.fmt = 0xA ∨ t.fmt = 0xB ∨ t.fmt = 0xC)

/-- A node is this device, has no route (the transfer then fails, R297), or some port of its route that the
plot leases carries traffic. -/
def State.nodeReady (s : State) (p node : Nat) : Bool :=
  decide (node = s.node) || (s.routeOf node).isEmpty
  || ((s.routeOf node).filter (s.leasesPort p)).any (s.reaches node)

/-- The nodes that a descriptor exchanges data with. -/
def State.peersOf (s : State) (e : Entry) : List Nat :=
  let op := e.opcode
  if op = opCOPY then
    (if e.fld 30 2 0 = 3 ∨ e.fld 30 5 3 = 3 then [e.fld 28 9 0] else [])
  else if op = opEXCHANGE then (s.sched (e.u8 26)).nodes
  else if op = opDISPATCH ∨ op = opCOMBINE then (s.sched (e.u8 34)).nodes
  else []

/-- Before PHASE FULL a descriptor waits for a resource that has not joined (R476). -/
def State.waitsForBringup (s : State) (p : Nat) (e : Entry) : Bool :=
  !s.full && (!((s.readsOf' p e ++ s.writesOf p e).all (s.stackReady p)) || !s.rangesReady (s.gladeOf e)
    || (decide (e.opcode = opMATMUL) && (s.wideOperand p (e.u16 8) && decide (e.fld 23 7 4 = 0)
        || s.wideOperand p (e.u16 10) && decide (e.fld 27 3 0 = 0)))
    || (decide (e.opcode = opREDUCE) && !e.flag 23 7 && s.wideOperand p (e.u16 8))
    || !((s.peersOf e).all (s.nodeReady p)))

/-! ### Engines of a plot -/

/-- The arrays (3 * die + m) that plot `p` leases on dies in service. -/
def State.arraysOf (s : State) (p : Nat) : List Nat :=
  (List.range 48).filter (fun a => s.leasesArray p (a / 3) (a % 3) && s.groveUp (a / 3))

/-- The brown-out detector of grove die `gd` is asserted: the die issues nothing (R36, R427). -/
def State.brownedOut (s : State) (gd : Nat) : Bool := (s.die gd).brownout.isSome

/-- The opcode needs a vector engine (R146); an EXCHANGE thins its gradient on one (R207). -/
def Entry.needsVe (e : Entry) : Bool :=
  let op := e.opcode
  decide (op = opELEMENTWISE ∨ (opNORMFWD ≤ op ∧ op ≤ opSOFTMAXBWD) ∨ op = opEXCHANGE ∨ op = opUPDATE)
  || (decide (op = opREDUCE) && e.flag 23 7)

/-- It waits while its plot's engines lie on dies that have not joined (R146, R476). -/
def State.waitsForVe (s : State) (p : Nat) (e : Entry) : Bool :=
  e.needsVe && (s.vesOf p).isEmpty && (s.vesLeased p).any (fun v => !s.fenced (v / 4))

/-- An engine that the descriptor needs lies on a die whose brown-out detector is asserted: a vector engine, an array
of a REDUCE, or the stash engine of the tensor's die (R36). -/
def State.waitsForSupply (s : State) (p : Nat) (e : Entry) : Bool :=
  (e.needsVe && (s.vesOf p).any (fun v => s.brownedOut (v / 4)))
  || (decide (e.opcode = opREDUCE) && !e.flag 23 7 && (s.arraysOf p).any (fun a => s.brownedOut (a / 3)))
  || (decide (e.opcode = opPUSH ∨ e.opcode = opPOP)
      && (s.tensor p (e.u16 8)).any (fun t => s.brownedOut (((s.pieces p t.addr 1).headD (0, 0)).1 / stackBytes)))

/-- A request to the memory that a descriptor names stalls (R21, R47, R48). -/
def State.waitsForMemory (s : State) (p : Nat) (e : Entry) : Bool :=
  (s.gladeOf e).any (fun q => s.stalledAt q.1 q.2) || (s.readsOf' p e ++ s.writesOf p e).any (fun h => (s.tensor p h).any (fun t =>
    (s.pieces p t.addr t.bytes).any (fun q => s.stalledAt q.1 q.2)))

/-- A row repair holds memory that a descriptor names: its transfer timers are held (R21). -/
def State.repairHolds (s : State) (p : Nat) (e : Entry) : Bool :=
  (s.gladeOf e).any (fun q => s.repairAt q.1 q.2) || (s.readsOf' p e ++ s.writesOf p e).any (fun h => (s.tensor p h).any (fun t =>
    (s.pieces p t.addr t.bytes).any (fun q => s.repairAt q.1 q.2)))

/-! ### Issue -/

/-- The device issues work: it is in RUN, no C3 or C4 event, scan, coolant hold or power floor stops it. -/
def State.running (s : State) : Bool :=
  decide (s.rd CTL_PSTATE.STATE = 0) && !s.faults.stopped && !s.faults.windthrow && !s.faults.scanStop
  && !s.power.hold && !s.power.stopIssue

/-- The step of a plot, as a member sees it. -/
def State.stepOf (s : State) (p : Nat) : Step := ((s.plot p).step).getD {}

/-- The open step of a plot changed. -/
def State.modStep (s : State) (p : Nat) (f : Step → Step) : State :=
  s.modPlot p (fun q => { q with step := q.step.map f })

/-- The status with which a member ends without any effect: its step was refused, is aborted or has
timed out, or its opcode comes after the update gate (R180, R186, R187, R193). -/
def State.memberStop (s : State) (p : Nat) (e : Entry) : Option Nat :=
  if e.member then
    let k := s.stepOf p
    if k.refused then some 0x20
    else if k.aborted ∨ k.timedOut then some 0x22
    else if k.gateAt.any (fun g => decide (g < e.order)) = true ∧ opPUSH ≤ e.opcode ∧ e.opcode ≤ opCOMBINE then some 0x1F
    else none
  else none

/-- Descriptor `i` of ring `r` ends without any effect: it waits for no resource (R180). -/
def State.stopped (s : State) (r i : Nat) : Bool :=
  (s.entry r i).any (fun e => (s.memberStop (s.ringPlot r) e).isSome)

/-- A descriptor has issued, as its ring's next descriptor sees it: a FLAG_WAIT that still waits keeps
every later descriptor from the head, and so from being judged a member (R182, R355, R363).
DEDUCED, safe: log 170. -/
def Entry.hasIssued (f : Entry) : Bool :=
  decide (2 ≤ f.stage ∧ (f.opcode = opFLAGWAIT → f.stage = 3))

/-- Descriptor `i` of ring `r` may issue as opcode `op`: it is at the head, the ring runs, the plot is
bound, nothing stops the device, and no rule of order holds it back. -/
def State.mayIssue (s : State) (r i op : Nat) : Option Entry :=
  match s.entry r i with
  | none => none
  | some e =>
    let p := s.ringPlot r
    let earlier := (s.ring r).entries.takeWhile (fun f => decide (f.idx ≠ i))
    if e.stage = 1 ∧ e.opcode = op ∧ s.running = true
        ∧ s.rd (RING_STS.STATE r) = 1 ∧ s.plotState p = plotBOUND
        ∧ (s.mgr.fencedSelf = true → s.rd (PLOT_LEASE_ID.LEASE_ID p) = 0)
        ∧ earlier.all (fun f => decide (2 ≤ f.stage)) = true
        ∧ earlier.all (fun f => decide (f.opcode ≠ opFENCE ∧ f.opcode ≠ opFLAGWAIT)) = true
        ∧ (e.fenceFlag = true ∨ op = opFENCE ∨ op = opFLAGSET → earlier = [])
        ∧ (e.member = true ∧ e.stepClose = true → (s.stepOf p).members + 1 = (s.stepOf p).admitted)
        ∧ ((s.memberStop p e).isSome = true ∨ (earlier.any (s.hazard p e) = false
            ∧ s.waitsForBringup p e = false ∧ s.waitsForVe p e = false ∧ s.waitsForSupply p e = false
            ∧ s.waitsForMemory p e = false))
    then some e else none

/-- The stage of a descriptor set. -/
def State.setStage (s : State) (r i st : Nat) : State :=
  s.modRing r (fun q => { q with entries := q.entries.map (fun e =>
    if e.idx = i then { e with stage := st } else e) })

/-- A descriptor issues if it may, and has the effect `run` of its opcode; one that fails a check ends
with its status and none of its effects. -/
def State.issue (s : State) (r i op : Nat) (run : State → Nat → Entry → Except Fail State) :
    Host.Outcome State Fault Refusal :=
  match s.mayIssue r i op with
  | none => .next s
  | some e =>
    let p := s.ringPlot r
    let s1 := s.setStage r i 2
    match s.memberStop p e with
    | some st => .next (s1.finish r i st 0)
    | none => match run s1 p e with
      | .ok t => .next t
      | .error f => .next (s1.failDesc r i p f)

/-- The first failing check as a failure of the descriptor. -/
def checks (l : List (Nat × Bool)) : Except Fail Unit :=
  match firstFail l with
  | some v => .error (descError v)
  | none => .ok ()

/-- The checks of a descriptor: those of its fields and, unless a zero count leaves it nothing to do, those of
what its handles name; the lowest offset that fails is the VALUE (R356, R519). -/
def checkAll (empty : Bool) (fields handles : List (Nat × Bool)) : Except Fail Unit :=
  checks (if empty then fields else fields ++ handles)

/-- The check that no reserved bit among bytes 8 to 63 is set (R5). -/
def Entry.reserved (e : Entry) (used : List (Nat × Nat)) : Nat × Bool :=
  match e.reservedAt used with
  | some v => (v, true)
  | none => (0, false)

/-- Non-finite values that a descriptor counts: CNT_NONFINITE, and the step's total for a member
(R140). -/
def State.countNf (s : State) (p : Nat) (member : Bool) (n : Nat) : State :=
  let s1 := s.countWrap (CNT_NONFINITE.COUNT p) n
  if member then s1.modStep p (fun k => { k with nonfinite := k.nonfinite + n }) else s1

/-- The unused codes that a descriptor reads: handles with the number of their elements read (R62, Table 5.17).
DEDUCED, safe: log 175. -/
def State.countStored (s : State) (p : Nat) (l : List (Nat × Nat)) : State :=
  l.foldl (fun s q => s.countWrap (CNT_STORED_SAT.COUNT p)
    (s.unusedCodes p (Tab.val (s.plot p).handles q.1) (List.range q.2))) s

/-! ### Checks of vector engines -/

/-- The plot leases no vector engine, or only engines on fenced dies (R146); the check is one on the
lease registers, so VALUE is 0xFFFF_FFFF (R519). -/
def State.checkVe (s : State) (p : Nat) : Except Fail Unit :=
  if (s.vesLeased p).all (fun v => s.fenced (v / 4)) then .error (descError 0xFFFFFFFF) else .ok ()

/-- Vector engine `v` works: lane operations at 1.2 pJ each (R145), busy row-steps, and row-steps that it
waited for banks (R144, R176). -/
def State.veWork (s : State) (p r v lanes steps : Nat) : State :=
  (((s.charge p r (v / 4) (12000 * lanes)).count64 (CNT_VE_BUSY_LO.COUNT_LO (v / 4) (v % 4))
    (CNT_VE_BUSY_HI.COUNT_HI (v / 4) (v % 4)) steps).countWrap (CNT_VE_WAIT.COUNT (v / 4) (v % 4))
    (Config.waitSteps s.draws)).tick

/-- Whole tensors staged into tile memory on a die, or moved back. -/
def State.stageTensors (s : State) (p r gd : Nat) (reading : Bool) (hs : List Nat) : State :=
  hs.foldl (fun s h => match s.tensor p h with
    | some t => s.staged p r gd reading (s.pieces p t.addr t.bytes)
    | none => s) s

/-- What a descriptor reads is staged, and what it writes moved back, on a die. -/
def State.stageAll (s : State) (p r gd : Nat) (e : Entry) : State :=
  (s.stageTensors p r gd true (s.readsOf' p e)).stageTensors p r gd false (s.writesOf p e)

/-- Free draws taken by a write of `n` elements. -/
def State.drawMore (s : State) (n : Nat) : State := { s with draws := s.draws + n }

end Sys2Proof.Machine
end

