-- ==== Sys2Proof/Machine/Mesh.lean ====
section
/-! DEFINITION. Meanings of the package: die-to-die channels, HBM reads, scrub and repair, tile
memory, flash records (R9 to R32). -/

namespace Sys2Proof.Machine

/-! ### Die-to-die channels -/

/-- R11, R12: the receiver rejects the transfer and the sender repeats it; the lane of the failing
parity bit is charged, 16 errors within 1 s retire it, and its group is retested. -/
def channelParity (s : State) (ch g lane die : Nat) : State :=
  let c := s.channel ch
  let hits := c.parity.filter (fun x => decide (s.now < x.2.2 + perS)) ++ [(g, lane, s.now)]
  let s1 := (s.modChannel ch (fun c => { c with parity := hits, rejected := c.rejected + 1 })).latch die
    (channelBit die 0) [] ch (32 * g + lane) 0
  let s2 := if 16 ≤ (hits.filter (fun x => decide (x.1 = g ∧ x.2.1 = lane))).length then
    s1.retireDieLane ch g lane die else s1
  (s2.modChannel ch (fun c => { c with retest := addAsc g c.retest })).lockRequest { kind := 4, unit := 8 * ch + g }

/-- CHANNEL_PARITY_ERROR; `first` tells which end of the channel received the transfer. -/
def execChannelParityError (ch : Fin 32) (group : Fin 8) (lane : Fin 32) (first : Bool) (s : State) :
    Host.Outcome State Fault Refusal :=
  let c := s.channel ch
  if group.val < groupsOf ch ∧ ¬ c.retired = true ∧ group.val ∉ c.groupsRetired
      ∧ (group.val, lane.val) ∉ c.lanesRetired then
    .next (channelParity s ch group lane (if first then (channelEnds ch).1 else (channelEnds ch).2))
  else .next s

/-- LANE_RETEST, R11 to R13: a due retest completes; the lanes that fail it are retired (R40; DEDUCED,
log 172). -/
def execLaneRetest (ch : Fin 32) (group : Fin 8) (failed : List (Fin 32)) (s : State) :
    Host.Outcome State Fault Refusal :=
  if group.val ∈ (s.channel ch).retest then
    let s1 := s.modChannel ch (fun c => { c with retest := without group c.retest })
    .next ((failed.foldl (fun s l => s.retireDieLane ch group l (channelEnds ch).1) s1).lockRelease
      { kind := 4, unit := 8 * ch + group })
  else .next s

/-! ### HBM -/

/-- A row becomes a repair candidate and the controller requests its repair (R20). -/
def State.rowCandidate (s : State) (stack row : Nat) : State :=
  (s.modStack stack (fun k => { k with candidates := addAsc row k.candidates })).lockRequest
    { kind := 1, unit := stack }

/-- A corrected read: counted as C0, and a row corrected in two different scrub passes becomes a
candidate (R17, R20). -/
def hbmCorrected (s : State) (stack row : Nat) : State :=
  let k := s.stack stack
  let last := Tab.val k.rowErr row
  let s1 := (s.modStack stack (fun k => { k with
    corr := k.corr + 1, rowErr := Tab.put k.rowErr row (k.scrubPass + 1) })).latch0 stack 0
  if last ≠ 0 ∧ last ≠ k.scrubPass + 1 then s1.rowCandidate stack row else s1

/-- Memory that the firmware holds: extent 95 of a stack. -/
def firmwareMemory (unit : Nat) : Bool := decide (unit * unitBytes / extentBytes = 95)

/-- An uncorrectable read: the unit is poisoned and counted, its row becomes a candidate, and the
event is C2 of the owning plot, or C3 in firmware memory (R18, R20). -/
def hbmUncorrectable (s : State) (stack unit row : Nat) : State :=
  let a := stack * stackBytes + unit * unitBytes
  let s1 := ({ s with hbm := { s.hbm with poison := addAsc (a / unitBytes) s.hbm.poison } }).modStack
    stack (fun k => { k with uncorr := k.uncorr + 1 })
  (s1.latchSure stack 1 (s.ownerOfUnit stack unit).toList stack a 0
    (some (if firmwareMemory unit then 3 else 2))).rowCandidate stack row

/-- A unit lies in a clean page of its stack. -/
def State.cleanUnit (s : State) (stack unit : Nat) : Bool :=
  decide ((stack * stackBytes + unit * unitBytes) / pageBytes ∉ s.hbm.dirty)

/-- A unit lies in a page that R387 retires: an access to it raises no event (R18). -/
def State.retiredUnit (s : State) (stack unit : Nat) : Bool :=
  s.hbm.retiredIn (stack * stackBytes + unit * unitBytes) unitBytes

/-- HBM_READ_RETURN, R17, R18, R386: what the code of the unit found; a clean page is answered without reading the
stack, and a read that stalls has not returned (R21, R47, R48). -/
def execHbmReadReturn (stack : Fin 16) (unit : Fin 3221225472) (row : Nat) (ecc : Ecc) (s : State) :
    Host.Outcome State Fault Refusal :=
  if s.fenced stack || s.cleanUnit stack unit || s.retiredUnit stack unit
      || s.stalledAt (stack * stackBytes + unit * unitBytes) unitBytes then .next s
  else match ecc with
    | .good => .next s
    | .corrected => .next (hbmCorrected s stack row)
    | .uncorrectable => .next (hbmUncorrectable s stack unit row)

/-- The HBM fields of CFG_MEM_SCRUB: HBM_EN + 2 * HBM_PASS_H. -/
def State.hbmScrubSet (s : State) (stack : Nat) : Nat :=
  s.rd (CFG_MEM_SCRUB.HBM_EN stack) + 2 * s.rd (CFG_MEM_SCRUB.HBM_PASS_H stack)

/-- The setting in force: that of the pass that runs, or the register's where the next read starts a pass (R26). -/
def State.hbmScrubNow (s : State) (stack : Nat) : Nat :=
  if (s.stack stack).scrubNext = 0 then s.hbmScrubSet stack else (s.stack stack).scrubSet

/-- The scrub position after one more unit under a setting; a finished pass starts over (R19). -/
def scrubOn (set : Nat) (k : Stack) : Stack :=
  if k.scrubNext + 1 = 3221225472 then { k with scrubNext := 0, scrubPass := k.scrubPass + 1, scrubSet := set }
  else { k with scrubNext := k.scrubNext + 1, scrubSet := set }

/-- HBM_SCRUB_READ, R19, R20, R26: the next unit is read at lowest priority while scrub is enabled and no row
repair runs on the stack.  An error that a clean page holds poisons nothing (R386), and one in a retired page is no
event (R18). -/
def execHbmScrubRead (stack : Fin 16) (row : Nat) (ecc : Ecc) (s : State) :
    Host.Outcome State Fault Refusal :=
  if s.hbmScrubNow stack % 2 = 1 ∧ ¬ s.fenced stack = true
      ∧ (s.stack stack).trained = true ∧ (s.stack stack).selfRefresh = false ∧ (s.stack stack).repair = none
      ∧ ¬ s.hasLock { kind := 1, unit := stack } = true ∧ s.stackStalled stack = false then
    let unit := (s.stack stack).scrubNext
    let s1 := if s.retiredUnit stack unit then s else match ecc with
      | .good => s
      | .corrected => hbmCorrected s stack row
      | .uncorrectable =>
        if s.cleanUnit stack unit then s.rowCandidate stack row else hbmUncorrectable s stack unit row
    .next (s1.modStack stack (scrubOn (s.hbmScrubNow stack)))
  else .next s

/-- The lock of a finished repair passes on, and is asked for again while rows wait (R20). -/
def State.afterRepair (s : State) (stack : Nat) : State :=
  let s1 := s.lockRelease { kind := 1, unit := stack }
  if (s1.stack stack).candidates.isEmpty then s1 else s1.lockRequest { kind := 1, unit := stack }

/-- ROW_REPAIR, R21, R22: with the lock granted, a candidate row is copied to the repair buffer and a
spare is fused, or, with no spare left, the pages it touches are retired. -/
def execRowRepair (stack : Fin 16) (row : Nat) (pages : List (Fin 25165824)) (spare : Bool) (s : State) :
    Host.Outcome State Fault Refusal :=
  let k := s.stack stack
  if s.hasLock { kind := 1, unit := stack } = true ∧ row ∈ k.candidates ∧ k.repair = none then
    let nums := pages.map (fun p => stack.val * (stackBytes / pageBytes) + p.val)
    if spare then
      .next (s.modStack stack (fun k => { k with
        repair := some row, repairPages := nums, repairSince := s.now
        repairBuf := s.hbm.mem.filter (fun e => decide (e.1 / pageBytes ∈ nums)) }))
    else
      let s1 := nums.foldl (fun s p => s.retirePage stack p) s
      let s2 := s1.modStack stack (fun k => { k with
        candidates := without row k.candidates, rowErr := Tab.put k.rowErr row 0 })
      .next (s2.refreshPages.afterRepair stack)
  else .next s

/-- A row repair holds the memory of a transaction: it is one of a descriptor whose memory stalls. -/
def State.tagHeld (s : State) (t : TagUse) : Bool :=
  match t.plot with
  | none => false
  | some p => (s.entry t.ring t.idx).any (fun e => s.repairHolds p e)

/-- The transfer timers that a row repair held go on with what was left of them (R21). -/
def State.resumeTimers (s : State) (held : Nat) : State :=
  { s with tags := { s.tags with used := s.tags.used.map (fun t =>
      if s.tagHeld t then { t with deadline := t.deadline + held } else t) } }

/-- ROW_REPAIR_COMPLETE, R21: the buffered data stands in the spare row; poisoned units stay
poisoned; stalled requests, their transfer timers and scrub resume; HBM_REPAIR latches. -/
def execRowRepairComplete (stack : Fin 16) (s : State) : Host.Outcome State Fault Refusal :=
  match (s.stack stack).repair with
  | none => .next s
  | some row =>
    let s1 := (s.resumeTimers (s.now - (s.stack stack).repairSince)).modStack stack (fun k => { k with
      repair := none, repairBuf := [], repairPages := [], candidates := without row k.candidates
      rowErr := Tab.put k.rowErr row 0 })
    .next ((s1.latch0 stack 2).afterRepair stack)

/-! ### Tile memory -/

/-- The tile fields of CFG_MEM_SCRUB: TILE_EN + 2 * TILE_PASS_S. -/
def State.tileScrubSet (s : State) (gd : Nat) : Nat :=
  s.rd (CFG_MEM_SCRUB.TILE_EN gd) + 2 * s.rd (CFG_MEM_SCRUB.TILE_PASS_S gd)

/-- The setting in force for a bank: that of the pass that runs, or the register's where the next read starts a
pass (R26). -/
def State.tileScrubNow (s : State) (gd bank : Nat) : Nat :=
  if (s.bank gd bank).scrubNext = 0 then s.tileScrubSet gd else (s.bank gd bank).scrubSet

/-- TILE_SCRUB, R23 to R26: the next line of a bank is read; `upper` names the half in error. -/
def execTileScrub (gd : Fin 16) (bank : Fin 64) (upper : Bool) (ecc : Ecc) (s : State) :
    Host.Outcome State Fault Refusal :=
  let k := s.bank gd bank
  let set := s.tileScrubNow gd bank
  if set % 2 = 1 ∧ ¬ s.fenced gd = true ∧ (s.die gd).supplyOn = true ∧ k.retired = false then
    let half := 2 * k.scrubNext + (if upper then 1 else 0)
    .next (State.tileRead (s.modBank gd bank (fun k => { k with
      scrubNext := (k.scrubNext + 1) % 65536, scrubSet := set })) gd bank half ecc)
  else .next s

/-! ### Flash records -/

/-- Table 1.5: offset and size in bytes of each part of the flash: partition header, images A and B,
lane-retirement table, life counters, fault log. -/
def flashLayout : List (Nat × Nat) :=
  [(0, 0x100000), (0x100000, 0x1800000), (0x1900000, 0x1800000), (0x3100000, 0x100000), (0x3200000, 0x100000),
   (0x3300000, 0xD00000)]

/-- Bytes of part `n` of the flash. -/
def flashSize (n : Nat) : Nat := (flashLayout.getD n (0, 0)).2

/-- Bytes of an erase sector. -/
def flashSector : Nat := 65536

/-- Records the fault log holds: 13 MiB of 32-byte records (Tables 1.5, 17.5). -/
def logCapacity : Nat := flashSize 5 / 32
/-- Records of one erase sector. -/
def logSector : Nat := flashSector / 32

/-- A fault-log record in flash: the newest first; a full log loses its oldest sector and counts
that; a record of a retired page or bank is among those that bring-up applies again, also once its sector is
erased (R22, R25, R32; DESIGN CHOICE, log 171). -/
def Flash.putLog (f : Flash) (r : FaultRec) : Flash :=
  let full := decide (logCapacity ≤ f.log.length)
  { f with
    log := r :: (if full then f.log.take (logCapacity - logSector) else f.log)
    overwrites := f.overwrites + (if full then 1 else 0)
    pages := if r.kind = 2 then addAsc (r.detail / pageBytes) f.pages else f.pages
    banks := if r.kind = 3 then addAsc r.detail f.banks else f.banks }

/-- The next waiting record in the order of R30 stands in flash; a lane-retirement record is written twice, to
alternate sectors (R28). -/
def Flash.writeNext (f : Flash) : Flash :=
  match f.pendLane, f.pendLog, f.pendLife with
  | r :: l, _, _ =>
    if f.laneFirst then { f with pendLane := l, laneFirst := false, lanesOdd := f.lanesOdd ++ [r] }
    else { f with laneFirst := true, lanesEven := f.lanesEven ++ [r] }
  | [], r :: l, _ => Flash.putLog { f with pendLog := l } r
  | [], [], r :: l => { f with pendLife := l, life := r :: f.life }
  | [], [], [] => f

/-- The next waiting record did not verify at read-back: what stands of it in the sector has a CRC that fails, and
bring-up ignores it (R28); the record still waits. -/
def Flash.writeTorn (f : Flash) : Flash :=
  match f.pendLane, f.pendLog, f.pendLife with
  | r :: _, _, _ =>
    if f.laneFirst then { f with lanesOdd := f.lanesOdd ++ [{ r with whole := false }] }
    else { f with lanesEven := f.lanesEven ++ [{ r with whole := false }] }
  | [], [], r :: _ => { f with life := { r with whole := false } :: f.life }
  | _, _, _ => f

/-- The next waiting record is given up. -/
def Flash.dropNext (f : Flash) : Flash :=
  match f.pendLane, f.pendLog, f.pendLife with
  | _ :: l, _, _ => { f with pendLane := l, laneFirst := false }
  | [], _ :: l, _ => { f with pendLog := l }
  | [], [], _ :: l => { f with pendLife := l }
  | [], [], [] => f

/-- Some record waits for flash. -/
def Flash.waits (f : Flash) : Bool := !(f.pendLane.isEmpty && f.pendLog.isEmpty && f.pendLife.isEmpty)

/-- What follows once the next waiting record stands in flash: the retirement of a quarantined port (R289). -/
def State.recordKept (s : State) : State :=
  match s.flash.pendLane with
  | r :: _ => if r.kind = 4 ∧ s.flash.laneFirst = true then State.quarantineKept { s with flash := s.flash.writeNext } r.unit
    else { s with flash := s.flash.writeNext }
  | [] => { s with flash := s.flash.writeNext }

/-- FLASH_RECORD_WRITE, R28, R30: the record verifies at read-back; or it goes to the next sector,
which is C1; or no sector takes it, which is C3 (Table 17.4). -/
def execFlashRecordWrite (good sectorLeft : Bool) (s : State) : Host.Outcome State Fault Refusal :=
  if s.flash.waits then
    if good then .next s.recordKept
    else if sectorLeft then .next (State.latch0 { s with flash := s.flash.writeTorn } 24 16)
    else .next (State.latch0 { s with flash := s.flash.writeTorn.dropNext } 24 17)
  else .next s

/-- The life counters as they stand, waiting for flash (R31). -/
def State.appendLife (s : State) : State :=
  let r : LifeRec :=
    { seq := s.flash.nextSeq, half := (List.range 25).map (fun d => s.rd (PWR_HALF_CYCLES.COUNT d)),
      life := (List.range 25).map (fun d => (s.die d).life), energy := s.power.lifetime,
      overwrites := s.flash.overwrites }
  { s with flash := { s.flash with
      nextSeq := s.flash.nextSeq + 1, pendLife := s.flash.pendLife ++ [r], lastLife := some s.now } }

/-- LIFE_COUNTER_APPEND, R31: at most once every 60 s. -/
def execLifeCounterAppend (s : State) : Host.Outcome State Fault Refusal :=
  match s.flash.lastLife with
  | none => .next s.appendLife
  | some t => .next (if t + 60 * perS ≤ s.now then s.appendLife else s)

end Sys2Proof.Machine
end

