-- ==== Sys2Proof/Machine/StepOps.lean ====
section
/-! DEFINITION. Shared operations of the training step and its stash (R177 to R198, R141, R142): stash
accounting, membership, the step record, completion of a step, and the step barrier. -/

namespace Sys2Proof.Machine

/-- The sum of some numbers. -/
def sumNat (l : List Nat) : Nat := l.foldl (· + ·) 0

/-! ### Registers whose new value waits (R202, R261) -/

/-- A word stored in the writable fields of a register copy. -/
def State.storeWord (s : State) (addr v : Nat) : State :=
  match rowAt addr with
  | none => s
  | some row => row.flds.foldl (fun s f =>
      if f.acc = .rw ∨ f.acc = .rwt then s.wr (fieldAt row addr f) (v / 2 ^ fieldLow f) else s) s

/-- The stash and schedule registers of plot `p` lie at these addresses. -/
def lateOf (p addr : Nat) : Bool :=
  decide (addr / 0x40 = 0x89000 / 0x40 + p ∨ addr / 0x40 = 0x8B000 / 0x40 + p)

/-- The values that waited for the completion of the plot's step take effect. -/
def State.applyLate (s : State) (p : Nat) : State :=
  let mine := s.regs.late.filter (fun q => lateOf p q.1)
  mine.foldl (fun s q => s.storeWord q.1 q.2.toNat)
    { s with regs := { s.regs with late := s.regs.late.filter (fun q => !lateOf p q.1) } }

/-! ### Stash (R180, R191 to R194) -/

/-- 64 KiB, the unit of the stash budget and of the levels (Table 7.1). -/
def stashUnit : Nat := 65536

/-- What an entry of `n` data bytes occupies (R192). -/
def stashSize (n : Nat) : Nat := roundUp n 256 + 64

/-- Retired pages of some device ranges. -/
def State.retiredPagesIn (s : State) (l : List (Nat × Nat)) : Nat :=
  (s.hbm.retired.filter (fun g => l.any (fun q =>
    decide (g * pageBytes < q.1 + q.2 ∧ q.1 < g * pageBytes + pageBytes)))).length

/-- Stash bytes of plot `p` in each leased stack, less its retired pages; during Sapling service an
untrained stack gives none (R180, R377, R478). -/
def State.stashRoom (s : State) (p : Nat) : List (Nat × Nat) :=
  ((s.stacksOf p).zip (s.stashRanges p)).map (fun q =>
    let len := q.2.2 - q.2.1
    (q.1, if !s.full && !s.rdBit STS_INSERVICE.STACKS q.1 then 0
          else len - pageBytes * s.retiredPagesIn (s.pieces p q.2.1 len)))

/-- The free stash of plot `p` (R180). -/
def State.freeStash (s : State) (p : Nat) : Nat := sumNat ((s.stashRoom p).map (fun q => q.2))

/-- Stash bytes in use in a stack. -/
def State.stashUsed (s : State) (p n : Nat) : Nat := Tab.val (s.plot p).stashUse n

/-- Where an entry of `size` bytes goes: the stack of its own grove die if there is room, else the
stack with room nearest by mesh hops; with room in none, its own (R192). -/
def State.stashPlace (s : State) (p home size : Nat) : Nat :=
  let room := (s.stashRoom p).filter (fun q =>
    decide (s.stashUsed p q.1 + size ≤ q.2) && !s.fenced q.1)
  (room.foldl (fun (b : Option Nat) q =>
    match b with
    | none => some q.1
    | some w => if s.meshHops q.1 home < s.meshHops w home then some q.1 else some w) none).getD home

/-- STS_STASH_LEVEL and the step's peaks as the levels stand (R188, Table 7.12). -/
def State.showStash (s : State) (p : Nat) : State :=
  let q := s.plot p
  (s.wr (STS_STASH_LEVEL.LEVEL p) (min (ceilDiv q.level stashUnit) (2 ^ 32 - 1))).modStep p (fun k =>
    { k with stashPeak := max k.stashPeak q.level, spillPeak := max k.spillPeak q.spill })

/-- An entry occupies its place. -/
def State.takeStash (s : State) (p : Nat) (e : StashEntry) : State :=
  s.modPlot p (fun q =>
    if e.spilled then { q with spill := q.spill + e.size }
    else { q with level := q.level + e.size, stashUse := Tab.upd q.stashUse e.place (· + e.size) })

/-- An entry leaves its place. -/
def State.freeEntry (s : State) (p : Nat) (e : StashEntry) : State :=
  s.modPlot p (fun q =>
    if e.spilled then { q with spill := q.spill - e.size }
    else { q with level := q.level - e.size, stashUse := Tab.upd q.stashUse e.place (· - e.size) })

/-- The stack of a sequence slot, top entry first (R191). -/
def State.slot (s : State) (n : Nat) : List StashEntry := Tab.val s.stash n

/-- The stack of a sequence slot set. -/
def State.setSlot (s : State) (n : Nat) (l : List StashEntry) : State :=
  { s with stash := Tab.put s.stash n l }

/-- A slot cut down to its lowest `keep` entries. -/
def State.trimSlot (s : State) (p n keep : Nat) : State :=
  let st := s.slot n
  let gone := st.take (st.length - keep)
  (gone.foldl (fun s e => s.freeEntry p e) s).setSlot n (st.drop (st.length - keep))

/-- What the retirement of a push or pop does to the stacks: its entries are linked, the entries it
read are released (R191, R195, R198).  A pop below the step's start mark lowers the mark. -/
def State.retireStash (s : State) (p : Nat) (e : Entry) : State :=
  let s1 := e.links.foldl (fun s q => s.setSlot q.1 (q.2 :: s.slot q.1)) s
  let s2 := e.pops.foldl (fun s n =>
    match s.slot n with
    | [] => s
    | top :: rest => ((s.freeEntry p top).setSlot n rest).modStep p (fun k =>
        { k with start := Tab.put k.start n (min (Tab.val k.start n) rest.length) })) s1
  if e.links.isEmpty && e.pops.isEmpty then s else s2.showStash p

/-- The slots of a step. -/
def Step.slots (k : Step) : List Nat := (List.range k.slotCount).map (· + k.slotFirst)

/-- The stash holds an entry of the step: some slot stands above its start mark (R183, R185). -/
def State.undrained (s : State) (k : Step) : Bool :=
  k.slots.any (fun n => decide (Tab.val k.start n < (s.slot n).length))

/-! ### Members -/

/-- The status fails its descriptor (Table 13.5). -/
def failing (st : Nat) : Bool := decide (0x10 ≤ st ∧ st ≤ 0x1F)

/-- Flag bits of the step record set (Table 7.2). -/
def Step.flag (k : Step) (l : List Nat) : Step :=
  { k with flags := l.foldl (fun f b => f ||| BitVec.ofNat 16 (2 ^ b)) k.flags }

/-- Flag bits of the step's record set. -/
def State.flagStep (s : State) (p : Nat) (l : List Nat) : State := s.modStep p (fun k => k.flag l)

/-- A member that retires is counted; the first that failed is named (R188, R189, R354). -/
def State.countMember (s : State) (p r : Nat) (e : Entry) : State :=
  let st := e.status.toNat
  let f := failing st
  s.modStep p (fun k =>
    let k1 := { k with members := k.members + 1, frozenStrict := k.frozenStrict || decide (st = 0x1E) }
    let k2 := if f ∧ st ≠ 0x1C ∧ st ≠ 0x1E then k1.flag [3] else k1
    if f ∧ k.failRing = 0xFFFF then
      { k2 with failRing := r, failOpcode := e.opcode, failIndex := e.idx % 2 ^ 32 }
    else k2)

/-- A member of the step has failed. -/
def Step.memberFailed (k : Step) : Bool := decide (k.failRing ≠ 0xFFFF) || k.aborted || k.frozenStrict

/-! ### The step barrier (R142, R185) -/

/-- The manager takes a device's report; once every device of the lease has reported it answers each
with the summed total and whether one failed. -/
def State.takeReport (s : State) (lease : Nat) (b : Report) : State :=
  let nodes := Tab.val s.mgr.leases lease
  let old := (Tab.val s.mgr.reports lease).filter (fun x => decide (x.node ≠ b.node))
  let all := old ++ [b]
  if nodes.all (fun n => all.any (fun x => decide (x.node = n))) then
    let total := sumNat (all.map (fun x => x.total))
    let failed := all.any (fun x => x.failed)
    let s1 := { s with mgr := { s.mgr with reports := Tab.put s.mgr.reports lease [] } }
    nodes.foldl (fun s n =>
      if n = s.node then
        (List.range 64).foldl (fun s p =>
          if s.rd (PLOT_LEASE_ID.LEASE_ID p) = lease then
            s.modStep p (fun k => if k.report ∧ k.answer = none then
              { k with answer := some failed, totalNf := total } else k)
          else s) s
      else s.controlTo n (.barrierAnswer lease total failed)) s1
  else { s with mgr := { s.mgr with reports := Tab.put s.mgr.reports lease all } }

/-- This device's report of plot `p` goes to the manager, which may be the device itself. -/
def State.sendReport (s : State) (p : Nat) (failed : Bool) : State :=
  let lease := s.rd (PLOT_LEASE_ID.LEASE_ID p)
  let total := (s.stepOf p).nonfinite
  let s1 := State.modStep { s with mgr := { s.mgr with
    answers := s.mgr.answers.filter (fun a => decide (a.1 ≠ lease)) ++ [(lease, total, failed)] } } p
    (fun k => { k with report := true })
  if s1.mgr.managerNode = some s1.node then
    s1.takeReport lease { node := s1.node, total := total, failed := failed }
  else match s1.mgr.managerNode with
    | some m => s1.request (some m) (1 + lease) (.barrierReport lease total failed)
    | none => s1

/-! ### Completion (R183, R188, R189) -/

/-- FLAGS of the record at completion. -/
def Step.finalFlags (k : Step) : BitVec 16 :=
  let skipNf := decide ((k.gate.bind (fun g => g.skip)) = some 0x03)
  let k1 := if k.exhausted then k.flag [0] else k
  (if 0 < k.nonfinite ∨ skipNf = true then k1.flag [2] else k1).flags

/-- STATUS: the highest row of Table 7.3 that applies. -/
def Step.status (k : Step) : Nat :=
  let f := k.flags.toNat
  if bit f 10 then 0x08
  else if k.timedOut then 0x07
  else if k.refused then 0x06
  else if bit f 9 then 0x05
  else if bit f 4 then 0x04
  else if k.frozenStrict then 0x09
  else if bit f 3 then 0x03
  else if bit f 5 then 0x02
  else if (k.gate.bind (fun g => g.skip)) = some 0x03 then 0x01
  else 0x00

/-- The 64 bytes of the step record (Table 7.2). -/
def Step.record (k : Step) (energy : Nat) : List Byte :=
  let sat (n : Nat) : Nat := min n (2 ^ 32 - 1)
  leBytes 4 k.num.toNat ++ leBytes 1 k.status ++ leBytes 1 0 ++ leBytes 2 k.finalFlags.toNat
  ++ leBytes 4 (sat k.nonfinite) ++ leBytes 4 (sat k.tiles) ++ leBytes 4 (sat k.repeats)
  ++ leBytes 4 (sat k.fallback) ++ leBytes 4 (sat (ceilDiv k.stashPeak stashUnit))
  ++ leBytes 4 (sat (ceilDiv k.spillPeak stashUnit)) ++ leBytes 8 (energy - k.energy0)
  ++ leBytes 4 (sat k.members) ++ leBytes 2 k.failRing ++ leBytes 1 k.failOpcode ++ leBytes 1 0
  ++ leBytes 4 k.failIndex ++ leBytes 11 0 ++ leBytes 1 1

/-- The plot's energy counter (Table 16.11). -/
def State.plotEnergy (s : State) (p : Nat) : Nat :=
  s.rd64 (PWR_PLOT_ENERGY_LO.COUNT_LO p) (PWR_PLOT_ENERGY_HI.COUNT_HI p)

/-- The step of plot `p` completes: scale records refreshed, stash back at the start mark, record
written where one is due, counters advanced, T and X zero, waiting register values in force. -/
def State.completeStep (s : State) (p : Nat) (record : Bool) : State :=
  match (s.plot p).step with
  | none => s
  | some k =>
    let s0 := if k.barrier ∧ ¬ k.report = true ∧ ¬ k.status = 0 then s.sendReport p true else s
    let s1 := k.narrow.foldl (fun s h => s.modTensor p h (fun t => if t.valid then t.refresh else t)) s0
    let s2 := (k.slots.foldl (fun s n => s.trimSlot p n (Tab.val k.start n)) s1).showStash p
    let s3 := if record then
        let a := s2.hostWrite k.recFunc k.recAddr (k.record (s2.plotEnergy p)) false
        let b := (a.countWrap (CNT_STEPS.COMPLETED p) 1).countWrap (CNT_STEPS.NOT_OK p)
          (if k.status = 0 then 0 else 1)
        (b.countWrap (CNT_STASH_EVENTS.EXHAUSTED p) (b2n (bit k.flags.toNat 4))).countWrap
          (CNT_STASH_EVENTS.SPILLED p) (b2n (bit k.flags.toNat 1))
      else s2
    (s3.modPlot p (fun q => { q with step := none })).applyLate p

/-- A step that has timed out completes with the retirement of its last admitted member, if no closing
descriptor is to do it (R187). -/
def State.settleStep (s : State) (p : Nat) : State :=
  match (s.plot p).step with
  | none => s
  | some k =>
    if k.timedOut ∧ k.members = k.admitted ∧ ¬ k.closing = true then s.completeStep p true else s

end Sys2Proof.Machine
end

