-- ==== Sys2Proof/Machine/GladeOps.lean ====
section
/-! DEFINITION. Slabs of the glade (R357 to R361, R523): which slab holds a range, who may touch it,
changes of its flag, and bytes at glade addresses. -/

namespace Sys2Proof.Machine

/-- FREE. -/
def ownFREE : BitVec 2 := 0
/-- HOST. -/
def ownHOST : BitVec 2 := 1
/-- DEVICE. -/
def ownDEVICE : BitVec 2 := 2
/-- PEER. -/
def ownPEER : BitVec 2 := 3

/-- First glade address of a slab. -/
def Slab.start (e : Slab) : Nat := e.base.toNat * 4096

/-- Bytes of a slab: 4 KiB × 2^SIZE. -/
def Slab.bytes (e : Slab) : Nat := 4096 * 2 ^ e.size.toNat

/-- A slab covers a range of glade addresses. -/
def Slab.covers (e : Slab) (a n : Nat) : Bool := decide (e.start ≤ a ∧ a + n ≤ e.start + e.bytes)

/-- Two slabs overlap. -/
def Slab.overlaps (e f : Slab) : Bool :=
  decide (e.start < f.start + f.bytes ∧ f.start < e.start + e.bytes)

/-- The slab, not FREE, that holds a range of glade addresses. -/
def State.slabOf (s : State) (a n : Nat) : Option (Nat × Slab) :=
  s.slabs.find? (fun q => decide (q.2.owner ≠ ownFREE) && q.2.covers a n)

/-- A descriptor or peer access refused under Table 13.7 is counted; the counter saturates (R375). -/
def State.countRefused (s : State) (n : Nat) : State := s.countUp CNT_GLADE_ERR.SLAB_REFUSED n

/-- The flag of a slab changes: GEN advances (R357), and PEER_NODE is set for a peer. -/
def State.flipSlab (s : State) (n : Nat) (owner : BitVec 2) (node : Nat) : State :=
  s.modSlab n (fun e => { e with
    owner := owner, gen := e.gen + 1,
    peerNode := if owner = ownPEER then BitVec.ofNat 10 node else e.peerNode })

/-- Outcome of an access to glade memory: a fenced stack, a retired page, or poison that is read. -/
def State.gladeFail (s : State) (reading : Bool) (a n : Nat) : Option Fail :=
  s.accessFail reading [(gladeToHbm a, n)]

/-- Bytes at a glade address; a slab lies in one GiB of the glade. -/
def State.readGlade (s : State) (a n : Nat) : List Byte := s.hbm.read (gladeToHbm a) n

/-- Bytes written at a glade address. -/
def State.writeGlade (s : State) (a : Nat) (b : List Byte) : State :=
  { s with hbm := s.hbm.write (gladeToHbm a) b }

/-- The DEVICE-owned slab of plot `p` that holds a range (Table 13.7). -/
def State.deviceSlab (s : State) (p a n : Nat) : Bool :=
  (s.slabOf a n).any (fun q => decide (q.2.owner = ownDEVICE ∧ q.2.owned.toNat = p))

end Sys2Proof.Machine
end

