-- ==== Sys2Proof/Machine/Special.lean ====
section
/-! DEFINITION. Special functions (R153, R154).  Each has an exact reference, computed in fixed point
far beyond Y32, and delivers any Y32 value that its bound of Table 6.4 allows: the free value
`Config.special` where it lies within the bound, else the reference rounded. -/

namespace Sys2Proof.Machine

/-! ### Fixed point: integers in units of 2⁻⁴⁴⁰, so that every difference of two Y32 values scaled by a third is
exact -/

/-- Binary digits of the fixed point. -/
def fixBits : Nat := 440

/-- 1. -/
def fixOne : Int := 2 ^ fixBits
/-- ln 2. -/
def fixLn2 : Int :=
  1967993017450341159941259058247707673170273436274736432620672316440916855485724492362804444458040432929760893851004249265809758697505
/-- π. -/
def fixPi : Int :=
  8919653111686155361594895283741457667927754617975811017404146498622904977937858519328448476565678712740932499400936380777796272225360
/-- √2. -/
def fixSqrt2 : Int :=
  4015254615456273792763789014258120597175186161341407264451390500021363723409736521541935868282627909016167060955253772361682773293302
/-- 2 ÷ √π. -/
def fixTwoSqrtPi : Int :=
  3203709665365007040165547622585328681077026785388120699997846702817604879775449228476559607084410646203493777991009192719301372658580
/-- 1 ÷ √(2π). -/
def fixPhi0 : Int :=
  1132682414666240712593348831638170872651231548804485475721141197021440612218309982859736929823050544516403137002514907700519788133909

/-- Product. -/
def fixMul (a b : Int) : Int := a * b / fixOne

/-- A finite value. -/
def fixOf (v : Val) : Int := v.int * 2 ^ (fixBits - 149)

/-- e^r for |r| ≤ ½, by 80 terms. -/
def fixExpSmall (r : Int) : Int :=
  (List.range 80).foldr (fun (i : Nat) acc => fixOne + fixMul r acc / ((i : Int) + 1)) fixOne

/-- e^x as a fraction n ÷ d, for |x| below 2¹⁰. -/
def expFrac (x : Int) : Nat × Nat :=
  let k := (2 * x + fixLn2) / (2 * fixLn2)
  let e := (fixExpSmall (x - k * fixLn2)).toNat
  if 0 ≤ k then (e * 2 ^ k.toNat, 2 ^ fixBits) else (e, 2 ^ (fixBits + (-k).toNat))

/-- e^x for x ≤ 0. -/
def fixExpNeg (x : Int) : Int :=
  if x < -(256 * fixOne) then 0
  else let f := expFrac x
    ((f.1 * 2 ^ fixBits / f.2 : Nat) : Int)

/-- Σ t^(2j+1) ÷ (2j+1) over 140 terms, |t| ≤ 1/3. -/
def fixAtanh (t : Int) : Int :=
  let t2 := fixMul t t
  let s := (List.range 140).foldl (fun (a : Int × Int) (j : Nat) =>
    (a.1 + a.2 / (2 * (j : Int) + 1), fixMul a.2 t2)) (0, t)
  s.1

/-- ln of a positive magnitude in units of 2⁻¹⁴⁹. -/
def fixLn (mag : Nat) : Int :=
  let e := mag.log2
  let m : Int := ((mag * 2 ^ fixBits / 2 ^ e : Nat) : Int)
  2 * fixAtanh ((m - fixOne) * fixOne / (m + fixOne)) + ((e : Int) - 149) * fixLn2

/-- erf for |x| below 14½, else ±1: 2 ÷ √π e^(−x²) Σ 2ⁿ x^(2n+1) ÷ (1·3·…·(2n+1)), whose terms all have the sign
of x. -/
def fixErf (x : Int) : Int :=
  if 29 * fixOne ≤ 2 * x then fixOne
  else if 2 * x ≤ -(29 * fixOne) then -fixOne
  else
    let x2 := fixMul x x
    let s := (List.range 1000).foldl (fun (a : Int × Int) (n : Nat) =>
      (a.1 + a.2, 2 * fixMul a.2 x2 / (2 * (n : Int) + 3))) (0, x)
    fixMul (fixMul fixTwoSqrtPi (fixExpNeg (-x2))) s.1

/-- Integer square root by `n` binary digits. -/
def isqrtBits (x : Nat) : Nat → Nat → Nat
  | 0, acc => acc
  | n + 1, acc => let t := acc + 2 ^ n
    isqrtBits x n (if t * t ≤ x then t else acc)

/-- ⌊√x⌋. -/
def isqrt (x : Nat) : Nat := isqrtBits x (x.log2 / 2 + 1) 0

/-- cos of an angle from 0 to π, by 70 terms of its series. -/
def fixCos (a : Int) : Int :=
  let a2 := fixMul a a
  ((List.range 70).foldl (fun (s : Int × Int) (n : Nat) =>
    (s.1 + s.2, -(fixMul s.2 a2) / ((2 * (n : Int) + 1) * (2 * (n : Int) + 2)))) (0, fixOne)).1

/-! ### References and bounds -/

/-- A reference: sign and magnitude n ÷ d. -/
structure Exact where
  neg : Bool := false
  n   : Nat := 0
  d   : Nat := 1
  deriving DecidableEq, Repr, Inhabited

/-- A fixed-point number as a reference. -/
def exactOfFix (x : Int) : Exact := { neg := decide (x < 0), n := x.natAbs, d := 2 ^ fixBits }

/-- The reference rounded to Y32. -/
def Exact.y32 (r : Exact) : Word := y32Round r.neg r.n r.d

/-- |c − r| ≤ an ÷ ad for a finite Y32 candidate. -/
def Exact.near (r : Exact) (c : Word) (an ad : Nat) : Bool :=
  let x := (y32Val c).int * (r.d : Int) - (if r.neg then -(r.n : Int) else (r.n : Int)) * 2 ^ 149
  !nonFinite c && decide (x.natAbs * ad ≤ an * (r.d * 2 ^ 149))

/-- A result within an absolute error an ÷ ad and a relative error 2^(−rel) of the reference (rel = 0
for none); a result below the normal range lies within 2⁻¹⁵⁰ (R154). -/
def within (code : Nat) (x y : Word) (r : Exact) (rel an ad : Nat) : Word :=
  let c := Config.special code x y
  let tiny := decide (r.n * 2 ^ 126 < r.d)
  let ok := if tiny then r.near c 1 (2 ^ 150)
    else if rel = 0 then r.near c an ad
    else r.near c (an * (r.d * 2 ^ rel) + r.n * ad) (ad * (r.d * 2 ^ rel))
  if ok then c else r.y32

/-- +∞ and −∞. -/
def y32Inf (neg : Bool) : Word := y32Of neg 0x7F800000
/-- 1. -/
def y32One : Word := 0x3F800000

/-- exp of an exact argument, within 2⁻²¹ relative (Tables 3.13, 6.4, 6.5); `x` and `y` name the argument to the free
value. -/
def expAt (code : Nat) (x y : Word) (f : Int) : Word :=
  if fixOne * 887228 < f * 10000 then y32Inf false
  else if f * 1000 < -(fixOne * 103972) then 0
  else let e := expFrac f
    within code x y ⟨false, e.1, e.2⟩ 21 0 1

/-- exp (Tables 6.4, 6.5). -/
def fnExp (x : Word) : Word :=
  match y32Val x with
  | .nan => y32NaN
  | .inf n => if n then 0 else y32Inf false
  | v => expAt 0x0B x 0 (fixOf v)

/-- exp(x − m), the difference exact (R79, R109). -/
def expDiff (x m : Word) : Word :=
  match y32Val x, y32Val m with
  | .fin a b, .fin c d => expAt 0x46 x m (fixOf (.fin a b) - fixOf (.fin c d))
  | _, _ => fnExp (subY32 x m)

/-- exp(c × x − m), product and difference exact (R165, R169). -/
def expScaled (c x m : Word) : Word :=
  match y32Val c, y32Val x, y32Val m with
  | .fin a b, .fin e d, .fin g h =>
    expAt 0x47 (mulY32 c x) m ((Val.fin a b).int * (Val.fin e d).int * 2 ^ (fixBits - 298) - fixOf (.fin g h))
  | _, _, _ => fnExp (subY32 (mulY32 c x) m)

/-- log. -/
def fnLog (x : Word) : Word :=
  match y32Val x with
  | .nan => y32NaN
  | .inf n => if n then y32NaN else y32Inf false
  | .fin n m =>
    if m = 0 then y32Inf true
    else if n then y32NaN
    else within 0x0C x 0 (exactOfFix (fixLn m)) 21 1 (2 ^ 22)

/-- recip. -/
def fnRecip (x : Word) : Word :=
  match y32Val x with
  | .nan => y32NaN
  | .inf n => y32Of n 0
  | .fin n m => if m = 0 then y32Inf n else within 0x0D x 0 ⟨n, 2 ^ 149, m⟩ 22 0 1

/-- √ of a magnitude in units of 2⁻¹⁴⁹, in units of 2⁻³⁰⁰. -/
def sqrtMag (m : Nat) : Nat := isqrt (m * 2 ^ 451)

/-- rsqrt. -/
def fnRsqrt (x : Word) : Word :=
  match y32Val x with
  | .nan => y32NaN
  | .inf n => if n then y32NaN else 0
  | .fin n m =>
    if m = 0 then y32Inf n
    else if n then y32NaN
    else within 0x0E x 0 ⟨false, 2 ^ 300, sqrtMag m⟩ 22 0 1

/-- sqrt. -/
def fnSqrt (x : Word) : Word :=
  match y32Val x with
  | .nan => y32NaN
  | .inf n => if n then y32NaN else y32Inf false
  | .fin n m =>
    if m = 0 then y32Of n 0
    else if n then y32NaN
    else within 0x0F x 0 ⟨false, sqrtMag m, 2 ^ 300⟩ 23 0 1

/-- tanh of a finite value as a fraction. -/
def tanhExact (v : Val) : Exact :=
  let e := expFrac (2 * min ((fixOf v).natAbs : Int) (200 * fixOne))
  { neg := v.neg, n := e.1 - e.2, d := e.1 + e.2 }

/-- sigmoid of a finite value as a fraction. -/
def sigmoidExact (v : Val) : Exact :=
  let e := expFrac (max (-(256 * fixOne)) (min (fixOf v) (256 * fixOne)))
  { n := e.1, d := e.1 + e.2 }

/-- 2⁻²² absolute for |x| < 1, 2⁻²¹ relative otherwise. -/
def tanhBound (code : Nat) (x : Word) (v : Val) (r : Exact) : Word :=
  if v.mag < 2 ^ 149 then within code x 0 r 0 1 (2 ^ 22) else within code x 0 r 21 0 1

/-- tanh. -/
def fnTanh (x : Word) : Word :=
  match y32Val x with
  | .nan => y32NaN
  | .inf n => if n then negY32 y32One else y32One
  | v => tanhBound 0x10 x v (tanhExact v)

/-- sigmoid. -/
def fnSigmoid (x : Word) : Word :=
  match y32Val x with
  | .nan => y32NaN
  | .inf n => if n then 0 else y32One
  | v => tanhBound 0x11 x v (sigmoidExact v)

/-- erf. -/
def fnErf (x : Word) : Word :=
  match y32Val x with
  | .nan => y32NaN
  | .inf n => if n then negY32 y32One else y32One
  | v => within 0x12 x 0 (exactOfFix (fixErf (fixOf v))) 0 1 (2 ^ 22)

/-- A value clipped to ±40, beyond which Φ and σ do not change in this precision. -/
def clip40 (v : Val) : Int := max (-(40 * fixOne)) (min (fixOf v) (40 * fixOne))

/-- Φ(x) = ½ (1 + erf(x ÷ √2)). -/
def fixPhi (v : Val) : Int := (fixOne + fixErf (fixMul (clip40 v) fixSqrt2 / 2)) / 2

/-- σ(x). -/
def fixSigma (v : Val) : Int :=
  let r := sigmoidExact v
  ((r.n * 2 ^ fixBits / r.d : Nat) : Int)

/-- max(|x|, 1) in units of 2⁻¹⁴⁹. -/
def atLeastOne (v : Val) : Nat := max v.mag (2 ^ 149)

/-- GELU and SILU of Table 6.3; an infinity goes through the formula of the table. -/
def fnGate (code : Nat) (f : Val → Int) (x : Word) : Word :=
  match y32Val x with
  | .nan => y32NaN
  | .inf n => if n then y32NaN else y32Inf false
  | v => within code x 0 (exactOfFix (fixMul (fixOf v) (f v))) 0 (atLeastOne v) (2 ^ 169)

/-- tanh′, σ′, GELU′ and SILU′. -/
def fixDeriv (op : Nat) (v : Val) : Int :=
  if op = 0x19 then
    let r := tanhExact v
    let t : Int := ((r.n * 2 ^ fixBits / r.d : Nat) : Int)
    fixOne - fixMul t t
  else if op = 0x1A then let g := fixSigma v
    fixMul g (fixOne - g)
  else if op = 0x1B then
    let c := clip40 v
    fixPhi v + fixMul c (fixMul fixPhi0 (fixExpNeg (-(fixMul c c) / 2)))
  else
    let g := fixSigma v
    let c := max (-(512 * fixOne)) (min (fixOf v) (512 * fixOne))
    fixMul g (fixOne + fixMul c (fixOne - g))

/-- Y × f′(X) (Table 6.3).  The spec states no result at an infinite X; that value is free. -/
def fnDeriv (op : Nat) (x y : Word) : Word :=
  match y32Val x, y32Val y with
  | .nan, _ => y32NaN
  | _, .nan => y32NaN
  | .inf _, _ => Config.special op x y
  | v, .inf n => mulY32 (exactOfFix (fixDeriv op v)).y32 (y32Inf n)
  | v, w =>
    let f := fixDeriv op v
    let r : Exact := { neg := (decide (f < 0)) != w.neg, n := f.natAbs * w.mag, d := 2 ^ (fixBits + 149) }
    within op x y r 0 (w.mag * atLeastOne v) (2 ^ 317)

/-- The special functions of ELEMENTWISE by OP. -/
def special (op : Nat) (x : Word) : Word :=
  if op = 0x0B then fnExp x
  else if op = 0x0C then fnLog x
  else if op = 0x0D then fnRecip x
  else if op = 0x0E then fnRsqrt x
  else if op = 0x0F then fnSqrt x
  else if op = 0x10 then fnTanh x
  else if op = 0x11 then fnSigmoid x
  else if op = 0x12 then fnErf x
  else if op = 0x13 then fnGate 0x13 fixPhi x
  else fnGate 0x14 fixSigma x

/-! ### Quotients and powers of the update rules (R253, R258, R263) -/

/-- a ÷ b of two Y32 words, within 2⁻²² relative of the exact quotient. -/
def fnDiv (a b : Word) : Word :=
  match y32Val a, y32Val b with
  | .nan, _ => y32NaN
  | _, .nan => y32NaN
  | .inf _, .inf _ => y32NaN
  | .inf s, .fin t _ => y32Inf (s != t)
  | .fin s _, .inf t => y32Of (s != t) 0
  | .fin s m, .fin t n =>
    if n = 0 then (if m = 0 then y32NaN else y32Inf (s != t))
    else if m = 0 then y32Of (s != t) 0
    else within 0x40 a b ⟨s != t, m, n⟩ 22 0 1

/-- The integer power of a base, with its sign: 1 for exponent 0, 0 for a base of zero, else within
2⁻¹⁹ relative (R258). -/
def fnPow (base : Word) (k : Nat) : Word :=
  if k = 0 then y32One
  else match y32Val base with
  | .nan => y32NaN
  | .inf n => y32Inf (n && decide (k % 2 = 1))
  | .fin n m =>
    if m = 0 then 0
    else within 0x41 base (BitVec.ofNat 32 k) ⟨n && decide (k % 2 = 1), m ^ k, 2 ^ (149 * k)⟩ 19 0 1

/-- base^(k ÷ 2) of a base that is not negative, within 2⁻¹⁹ relative (R258). -/
def fnHalfPow (base : Word) (k : Nat) : Word :=
  if k = 0 then y32One
  else match y32Val base with
  | .fin _ m =>
    if m = 0 then 0
    else within 0x42 base (BitVec.ofNat 32 k) ⟨false, isqrt (m ^ k * 2 ^ (149 * k + 400)), 2 ^ (149 * k + 200)⟩ 19 0 1
  | v => valY32 v

/-- 1 − baseⁿ of a base in [0, 1), within 2⁻²² relative. -/
def fnBias (base : Word) (n : Nat) : Word :=
  let m := (y32Val base).mag
  within 0x43 base (BitVec.ofNat 32 n) ⟨false, 2 ^ (149 * n) - m ^ n, 2 ^ (149 * n)⟩ 22 0 1

end Sys2Proof.Machine
end

