-- ==== Sys2Proof/Machine/MatrixOps.lean ====
section
/-! DEFINITION. The arithmetic of the matrix arrays (R81 to R111) and the width ladder (R116 to R130):
operands as an array receives them with their counts, group sums and the combining stack, row
statistics, checks and demands. -/

namespace Sys2Proof.Machine

/-! ### Rates and rungs (Tables 4.1, 4.2, 5.1) -/

/-- Cell rate in eighths. -/
def rate8 (fmt : Nat) : Nat :=
  if fmt = 1 then 64 else if fmt = 2 then 32 else if fmt = 3 ∨ fmt = 4 then 16
  else if fmt = 0xB then 2 else if fmt = 0xC then 1 else 8

/-- Energy of one multiply-accumulate at 0.60 V, in 0.1 fJ. -/
def macEnergy1 (fmt : Nat) : Nat :=
  if fmt = 1 then 135 else if fmt = 2 then 270 else if fmt = 3 ∨ fmt = 4 then 520
  else if fmt = 8 then 1000 else if 5 ≤ fmt ∧ fmt ≤ 7 then 850
  else if fmt = 0xB then 4200 else if fmt = 0xC then 8500 else 1100

/-- Energy for a pair: the row of the lower-rate format, the costlier row at equal rates (R83). -/
def macEnergy (fa fb : Nat) : Nat :=
  if rate8 fa < rate8 fb then macEnergy1 fa
  else if rate8 fb < rate8 fa then macEnergy1 fb
  else max (macEnergy1 fa) (macEnergy1 fb)

/-- Rate of a pair in eighths (R82). -/
def pairRate (fa fb : Nat) : Nat := min (rate8 fa) (rate8 fb)

/-- K_pass. -/
def kPass (fa fb : Nat) : Nat := 256 * max 1 (pairRate fa fb / 8)

/-- Row-steps for one row of A. -/
def rowSteps (fa fb : Nat) : Nat := max 1 (8 / pairRate fa fb)

/-- L_B, the load time of a slice of B. -/
def loadSteps (fa fb : Nat) : Nat :=
  if pairRate fa fb = 2 ∧ fb = 0xB then 512
  else if pairRate fa fb = 1 ∧ fb = 0xC then 1024 else 256

/-- Rung of a stored format; Y16p counts as 11 (R117). -/
def rungOf (fmt : Nat) : Nat :=
  if fmt ≤ 8 then fmt else if fmt ≤ 0xA then 9 else if fmt = 0xB then 10 else 11

/-- The format at a rung for an operand configured with the code `q` (R116). -/
def codeAt (q rung : Nat) : Nat :=
  if rung ≤ 8 then rung else if rung = 9 then (if q = 0xA then 0xA else 9) else 0xB

/-! ### Width record (Table 5.2) -/

/-- Reserved bits are zero and FALLBACK is one of the codes allowed (R120). -/
def widthOk (w : BitVec 128) : Bool :=
  let n := w.toNat
  let fb := bits n 87 80
  decide (bits n 15 10 = 0 ∧ bits n 95 92 = 0 ∧ bits n 127 96 = 0)
  && decide ((1 ≤ fb ∧ fb ≤ 9) ∨ fb = 0xB)

/-- Rung of FALLBACK. -/
def fallbackRung (w : BitVec 128) : Nat := rungOf (bits w.toNat 87 80)

/-- The lowest permitted rung at or above `lo` (R121). -/
def permittedFrom (w : BitVec 128) (lo : Nat) : Nat :=
  ((List.range 11).find? (fun i => decide (lo ≤ i ∧ 1 ≤ i) && (decide (i = 10) || bit w.toNat (i - 1)))).getD 10

/-- Which checks fail, in the order UF, SAT, LOST, NF; `tot` gives the early denominators, blocks and
elements (R123, R124). -/
def failedChecks (w : BitVec 128) (c : Counts) (tot : Option (Nat × Nat)) : List Bool :=
  let n := w.toNat
  let den (full : Nat) (early : Nat × Nat → Nat) : Nat := (tot.map early).getD full
  let beyond (i count max' den' : Nat) : Bool := bit n (88 + i) && decide (max' * den' < count * 65536)
  [beyond 0 c.uf (bits n 31 16) (den c.ufDen (fun t => t.1)),
   beyond 1 c.sat (bits n 47 32) (den c.satDen (fun t => t.2)),
   beyond 2 c.lost (bits n 63 48) (den c.lostDen (fun t => t.2)),
   bit n 91 && decide (bits n 79 64 < c.nf)]

/-- Demand of an operand at rung `e` whose checks fail as listed; 0 for none (Table 5.4). -/
def demandOf (w : BitVec 128) (e : Nat) (f : List Bool) : Nat :=
  let other := f.getD 0 false || f.getD 1 false || f.getD 3 false
  let lost := f.getD 2 false
  if !other && !lost then 0
  else if 10 ≤ e then 0
  else if e = 9 then 10
  else max (if other then permittedFrom w 9 else 0) (if lost then permittedFrom w (e + 1) else 0)

/-! ### Operands as the array receives them -/

/-- The number of elements of a list that satisfy a test. -/
def howMany {α : Type} (f : α → Bool) (l : List α) : Nat := (l.filter f).length

/-- Exact value of a plain element; a finite Y16p pair is its exact sum (R82). -/
def exactElem (fmt n : Nat) : Val :=
  if fmt = 0xC then
    match y16Val (n % 65536), y16Val (n / 65536) with
    | .fin a m, .fin b k => Val.ofInt ((Val.fin a m).int + (Val.fin b k).int) (a && b)
    | _, _ => y16pVal (n % 65536) (n / 65536)
  else elemVal fmt n 0

/-- Denominator of a narrow operand of width `w`. -/
def narrowDen (w : Nat) : Nat := qmax w * 2 ^ 394

/-- One element of a narrow block as an exact number (R101). -/
def exactCode (w s f q : Nat) : Val :=
  if f = 0 then .zero
  else if f = 1 then .nan
  else let c := readCode w q
    .fin c.1 (c.2.1 * s * 2 ^ (f - 2))

/-- Byte ranges (plot-relative) that hold rows r0 … of columns c0 … of a tensor: whole bursts of a
narrow tensor, row segments of a plain one. -/
def Tensor.ranges (t : Tensor) (r0 nr c0 nc : Nat) : List (Nat × Nat) :=
  if isNarrow t.fmt then
    let js := ((List.range nr).flatMap (fun r =>
      let b0 := (r0 + r) * t.rowBlocks + c0 / 32
      let b1 := (r0 + r) * t.rowBlocks + (c0 + nc - 1) / 32
      (List.range (b1 / blocksPerBurst t.fmt + 1 - b0 / blocksPerBurst t.fmt)).map
        (· + b0 / blocksPerBurst t.fmt))).foldl (fun l j => addAsc j l) []
    js.map (fun j => (t.addr + 256 * j, 256))
  else
    let n := elemBytes t.fmt
    (List.range nr).map (fun r => (t.addr + n * ((r0 + r) * t.cols + c0), n * nc))

/-- The blocks of part of a narrow tensor, by rows, from checked bursts (R70). -/
def State.partBlocks (s : State) (p : Nat) (t : Tensor) (r0 nr c0 nc : Nat) :
    Except Fail (List (List Block)) := do
  let per := blocksPerBurst t.fmt
  let bursts ← (t.ranges r0 nr c0 nc).mapM (fun q => do
    let raw ← s.readPlot p q.1 q.2
    let j := (q.1 - t.addr) / 256
    if headerOk (leNat (raw.take 4)) t.fmt t.gen.toNat (t.burstCount j) then pure (j, raw)
    else throw formatError)
  pure ((List.range nr).map (fun r =>
    let b0 := (r0 + r) * t.rowBlocks + c0 / 32
    (List.range (ceilDiv nc 32)).map (fun i =>
      burstBlock t.fmt (((bursts.find? (fun q => decide (q.1 = (b0 + i) / per))).map (fun q => q.2)).getD [])
        ((b0 + i) % per))))

/-- The numbers of part of a plain tensor, by rows. -/
def State.partPlain (s : State) (p : Nat) (t : Tensor) (r0 nr c0 nc : Nat) :
    Except Fail (List (List Nat)) := do
  let n := elemBytes t.fmt
  (t.ranges r0 nr c0 nc).mapM (fun q => do
    let raw ← s.readPlot p q.1 q.2
    pure ((List.range nc).map (fun i => leNat ((raw.drop (n * i)).take n))))

/-- Rows and columns exchanged; the result has `n` rows. -/
def transpose {α : Type} [Inhabited α] (n : Nat) (l : List (List α)) : List (List α) :=
  (List.range n).map (fun i => l.map (fun r => r.getD i default))

/-- Counts of one block encoded to a narrow width. -/
def blockCounts (w : Nat) (x : List Val) (b : Block) : Counts :=
  let live (v : Val) : Bool := v.finite && decide (v.mag ≠ 0)
  let nz := howMany live x
  let eligible := !b.nonf && !x.all (fun v => v.finite && decide (v.mag = 0))
  { uf := b2n b.uf, ufDen := b2n eligible, sat := b.sat, satDen := nz,
    lost := if w = 1 ∨ b.f ≤ 1 then 0
      else howMany (fun q => live q.1 && decide (q.2 = 0)) (x.zip b.q),
    lostDen := if b.uf then 0 else nz, nf := howMany (fun v => !v.finite) x }

/-- Counts joined. -/
def Counts.add (a b : Counts) : Counts :=
  { uf := a.uf + b.uf, ufDen := a.ufDen + b.ufDen, sat := a.sat + b.sat, satDen := a.satDen + b.satDen,
    lost := a.lost + b.lost, lostDen := a.lostDen + b.lostDen, nf := a.nf + b.nf }

/-- What two slices of an operand counted, joined. -/
def OpCount.add (a b : OpCount) : OpCount :=
  { counts := a.counts.add b.counts, amax := max a.amax b.amax, nf := a.nf + b.nf, ssat := a.ssat + b.ssat }

/-- The largest finite magnitude of a list. -/
def maxMag (l : List Val) : Nat := (l.map Val.mag).foldl max 0

/-- A value converted to Y8a, Y8g or Y16, and whether it lies beyond the largest finite value. -/
def toFloatFmt (fmt : Nat) (v : Val) : Val × Bool :=
  let lim := if fmt = 9 then 448 * 2 ^ 149 else if fmt = 0xA then 57344 * 2 ^ 149 else (y16Val 0x7F7F).mag
  (if fmt = 9 then y8aVal (valY8a v).1 else if fmt = 0xA then y8gVal (valY8g v) else y16Val (valY16 v),
   v.finite && decide (lim < v.mag))

/-- Rows of Y32 values encoded for the array in a format of rungs 1 to 10, against the scale record of
the tensor (R90, R122).  `draw` gives the generators it draws from where the rounding is stochastic. -/
def encodeRows (t : Tensor) (fmt : Nat) (draw : Option (List (BitVec 64))) (rows : List (List Val)) : Opnd × OpCount :=
  let vals := rows.flatten
  let base : OpCount := { amax := maxMag (vals.filter Val.finite), nf := howMany (fun v => !v.finite) vals }
  if fmt ≤ 8 then
    let s := (y32Val t.sEnc).mag
    let enc := (List.range rows.length).map (fun r =>
      let row := rows.getD r []
      (List.range (ceilDiv row.length 32)).map (fun b =>
        let x := (row.drop (32 * b)).take 32
        let dr := draw.map (fun l => fun i => (laneDraw l (r * row.length + 32 * b + i)).toNat)
        let k := encodeBlock fmt s t.floorD.toNat dr x
        (k, x.length, blockCounts fmt x k)))
    ({ fmt := fmt, den := narrowDen fmt
       rows := enc.map (fun r => r.flatMap (fun b => (b.1.q.take b.2.1).map (exactCode fmt s b.1.f)))
       zero := enc.map (fun r => r.map (fun b => decide (b.1.f = 0))) },
     { base with counts := (enc.flatten.map (fun b => b.2.2)).foldl Counts.add {} })
  else
    let conv := rows.map (fun r => r.map (toFloatFmt fmt))
    let live (v : Val) : Bool := v.finite && decide (v.mag ≠ 0)
    let nz := howMany live vals
    ({ fmt := fmt, den := 2 ^ 149, rows := conv.map (fun r => r.map (fun x => x.1)) },
     { base with counts :=
        { sat := howMany (fun x => x.2) conv.flatten, satDen := nz,
          lost := howMany (fun q => live q.1 && decide (q.2.1 = Val.fin q.1.neg 0)) (vals.zip conv.flatten),
          lostDen := nz, nf := base.nf } })

/-- An operand of a tile: `on` outer rows from `o0` over `klen` values of k from `k0`; `enc` is the
format to which this run quantises it, `none` where it is read as stored.  A narrow tensor with its
other dimension innermost is reblocked (R89). -/
def State.operand (s : State) (p : Nat) (t : Tensor) (orient : Bool) (o0 on k0 klen : Nat)
    (enc : Option Nat) (draw : Option (List (BitVec 64))) : Except Fail (Opnd × OpCount) := do
  if isNarrow t.fmt then
    let sm := (y32Val t.sEnc).mag
    let bs ← if orient then s.partBlocks p t k0 klen o0 on else s.partBlocks p t o0 on k0 klen
    let len := if orient then on else klen
    let codes := bs.map (fun r => (r.flatMap (fun b => b.q.map (fun q => (b.f, q)))).take len)
    let unused := howMany (fun c => decide (2 ≤ c.1) && (readCode t.fmt c.2).2.2) codes.flatten
    if enc.isNone && !orient then
      pure ({ fmt := t.fmt, den := narrowDen t.fmt
              rows := codes.map (fun r => r.map (fun c => exactCode t.fmt sm c.1 c.2))
              zero := bs.map (fun r => r.map (fun b => decide (b.f = 0))) },
            { nf := howMany (fun c => decide (c.1 = 1)) codes.flatten, ssat := unused })
    else
      let vals := codes.map (fun r => r.map (fun c => decodeElem t.fmt sm c.1 c.2))
      let rows := if orient then transpose on vals else vals
      let o := encodeRows t (enc.getD t.fmt) draw rows
      pure (o.1, { o.2 with ssat := unused })
  else
    let ns ← if orient then s.partPlain p t k0 klen o0 on else s.partPlain p t o0 on k0 klen
    let rows := if orient then transpose on ns else ns
    match enc with
    | none =>
      let vals := rows.map (fun r => r.map (exactElem t.fmt))
      pure ({ fmt := t.fmt, den := 2 ^ 149, rows := vals },
            { nf := howMany (fun v => !v.finite) vals.flatten })
    | some f => pure (encodeRows t f draw (rows.map (fun r => r.map (fun n => elemVal t.fmt n 0))))

/-! ### Sums (R100 to R102) -/

/-- An older partial list joined by a new one at a level: the combining stack, newest first. -/
def stackPush {α : Type} (add : α → α → α) : List (Nat × α) → Nat → α → List (Nat × α)
  | [], l, x => [(l, x)]
  | (l', v) :: t, l, x => if l' = l then stackPush add t (l + 1) (add v x) else (l, x) :: (l', v) :: t

/-- The final fold, lowest level first; `z` for an empty stack. -/
def stackFold {α : Type} (add : α → α → α) (z : α) : List (Nat × α) → α
  | [] => z
  | (_, y) :: t => t.foldl (fun y q => add q.2 y) y

/-- Values summed in the order of R100. -/
def stackSum {α : Type} (add : α → α → α) (z : α) (l : List α) : α :=
  stackFold add z (l.foldl (fun st x => stackPush add st 0 x) [])

/-- The sum of an array's combining stack: rounded, with results below 2⁻¹²⁶ written as zero (R56). -/
def addFlush (a b : Word) : Word := flushY32 (addY32 a b)

/-- The product of two values, one of them not finite. -/
def prodNonFinite : Val → Val → Val
  | .nan, _ => .nan
  | _, .nan => .nan
  | .inf a, .inf b => .inf (a != b)
  | .inf a, .fin b m => if m = 0 then .nan else .inf (a != b)
  | .fin a m, .inf b => if m = 0 then .nan else .inf (a != b)
  | .fin _ _, .fin _ _ => .zero

/-- The exact sum of the products of a group, rounded once; a sum that is exactly zero is +0 (R100): DEDUCED, unsafe:
log 195. -/
def groupSum (da db : Nat) (xa xb : List Val) : Word :=
  let z := xa.zip xb
  if z.all (fun q => q.1.finite && q.2.finite) then
    let x : Int := z.foldl (fun a q => a + q.1.int * q.2.int) 0
    flushY32 (y32Round (decide (x < 0)) x.natAbs (da * db))
  else valY32 (z.foldl (fun v q => v.add (prodNonFinite q.1 q.2)) .zero)

/-- Pieces of 16 consecutive values. -/
def chunks16 {α : Type} (l : List α) : List (List α) :=
  (List.range (ceilDiv l.length 16)).map (fun j => (l.drop (16 * j)).take 16)

/-- Results that are not finite although both values that entered them are (R102, R147). -/
def freshIn (a b z : List Word) : Nat :=
  howMany (fun q => nonFinite q.2.2 && !nonFinite q.1 && !nonFinite q.2.1) (a.zip (b.zip z))

/-- Two partial results of a tile joined element by element: values, and the non-finite values that forming them
produced. -/
def addTile (add : Word → Word → Word) (x y : List Word × Nat) : List Word × Nat :=
  let z := List.zipWith add x.1 y.1
  (z, x.2 + y.2 + freshIn x.1 y.1 z)

/-- The group sums of a pass, group by group: every output element, row-major, and how many of the sums are not
finite although every element of their groups is (R100, R102). -/
def tileGroups (a b : Opnd) : List (List Word × Nat) :=
  let ca := a.rows.map chunks16
  let cb := b.rows.map chunks16
  (List.range (ceilDiv (a.rows.headD []).length 16)).map (fun j =>
    let l := ca.flatMap (fun ra => cb.map (fun rb =>
      let xa := ra.getD j []
      let xb := rb.getD j []
      let z := groupSum a.den b.den xa xb
      (z, nonFinite z && xa.all Val.finite && xb.all Val.finite)))
    (l.map (fun q => q.1), howMany (fun q => q.2) l))

/-- The combining stacks of a tile after the groups of a pass (R100). -/
def pushGroups (st : List (Nat × List Word × Nat)) (a b : Opnd) : List (Nat × List Word × Nat) :=
  (tileGroups a b).foldl (fun st g => stackPush (addTile addFlush) st 0 g) st

/-- The lengths of the groups of a pass whose multipliers do not switch, over every output element (R84). -/
def zeroGroups (a b : Opnd) : List Nat :=
  let fin (x : Opnd) : List (List Bool) := x.rows.map (fun r => (chunks16 r).map (fun g => g.all Val.finite))
  let fa := fin a
  let fb := fin b
  (List.range a.rows.length).flatMap (fun i => (List.range b.rows.length).flatMap (fun j =>
    let len := (a.rows.getD i []).length
    ((List.range (fa.getD i []).length).filter (fun k =>
      ((a.zero.getD i []).getD (k / 2) false && (fb.getD j []).getD k true)
      || ((b.zero.getD j []).getD (k / 2) false && (fa.getD i []).getD k true))).map
        (fun k => min 16 (len - 16 * k))))

/-- Max and sum of exponentials of one row's columns in a tile (R109, R111). -/
def rowStat (scale : Word) (y : List Word) : Word × Word :=
  let x := y.map (fun v => flushY32 (mulY32 scale v))
  let m := x.foldl maxY32 (y32Inf true)
  if nonFinite m then (m, y32NaN)
  else
    let t := x.map (fun v => y32Val (expDiff v m))
    (m, stackSum addFlush 0 ((chunks16 t).map (fun g =>
      groupSum (2 ^ 149) 1 g (g.map (fun _ => Val.fin false 1)))))

end Sys2Proof.Machine
end

