-- ==== Sys2Proof/Machine/Matrix.lean ====
section
/-! DEFINITION. Meanings of the matrix work: MATMUL, the assignment of tiles, passes, repeats and the
escalation budget, partials (R85 to R113, R116 to R139, R157). -/

namespace Sys2Proof.Machine

/-! ### Fields of a MATMUL -/

/-- M. -/
def Entry.mM (e : Entry) : Nat := e.u32 16
/-- N. -/
def Entry.mN (e : Entry) : Nat := e.fld 20 23 0
/-- K. -/
def Entry.mK (e : Entry) : Nat := e.fld 24 23 0
/-- QA. -/
def Entry.mQA (e : Entry) : Nat := e.fld 23 7 4
/-- QB. -/
def Entry.mQB (e : Entry) : Nat := e.fld 27 3 0
/-- FMT_C. -/
def Entry.mFmt (e : Entry) : Nat := e.fld 23 3 0
/-- ORIENT_A. -/
def Entry.mOrientA (e : Entry) : Bool := e.flag 27 4
/-- ORIENT_B. -/
def Entry.mOrientB (e : Entry) : Bool := e.flag 27 5
/-- ACCUM. -/
def Entry.mAccum (e : Entry) : Bool := e.flag 27 6
/-- FUSE_STAT. -/
def Entry.mFuse (e : Entry) : Bool := e.flag 27 7
/-- STAT_SCALE. -/
def Entry.mScale (e : Entry) : Word := BitVec.ofNat 32 (e.u32 28)
/-- DIR. -/
def Entry.mDir (e : Entry) : Nat := e.fld 32 2 1
/-- Backward work; 0b00 counts as forward (R112). -/
def Entry.mBack (e : Entry) : Bool := decide (e.mDir = 2)

/-- The longest K that one array covers (R91). -/
def kMax : Nat := 1048576

/-- Formats an array takes (R81). -/
def arrayFmt (f : Nat) : Bool := decide (1 ≤ f ∧ f ≤ 0xC)

/-- Output formats of Table 4.3. -/
def outFmt (f : Nat) : Bool := decide ((1 ≤ f ∧ f ≤ 0xC) ∨ f = 0xE)

/-- An operand of stored format `fmt` is quantised under the code `q` at a rung (R118). -/
def encodesAt (q fmt rung : Nat) : Bool := decide (q ≠ 0 ∧ rung < rungOf fmt)

/-- A matrix operand handle fails: shape, format, and, where it is quantised, its records (R81, R90,
R120, R520). -/
def State.badOperand (s : State) (p h rows cols q : Nat) : Bool :=
  s.badHandle p h (fun t => arrayFmt t.fmt && t.shapeIs (some rows) (some cols)
    && (!encodesAt q t.fmt (rungOf q) || (t.scaled && widthOk t.width && (isNarrow t.fmt || t.scaleOk))))

/-- The field checks of a MATMUL (R85, R87, R91, R110). -/
def matFields (e : Entry) : List (Nat × Bool) :=
  [e.reserved [(258, 64)], (23, !outFmt e.mFmt), (23, decide (0xA < e.mQA)), (27, decide (0xA < e.mQB)),
   (32, decide (e.mDir = 3)), (8, decide (e.u16 12 = e.u16 8)), (10, decide (e.u16 12 = e.u16 10)),
   (24, decide (kMax < e.mK) && !e.flag 32 0), (28, e.mFuse && nonFinite e.mScale)]

/-- Its handle checks. -/
def State.matHandles (s : State) (p : Nat) (e : Entry) : List (Nat × Bool) :=
  let ra := if e.mOrientA then (e.mK, e.mM) else (e.mM, e.mK)
  let rb := if e.mOrientB then (e.mK, e.mN) else (e.mN, e.mK)
  [(8, s.badOperand p (e.u16 8) ra.1 ra.2 e.mQA), (10, s.badOperand p (e.u16 10) rb.1 rb.2 e.mQB),
   (12, s.badOutput p (e.u16 12) (fun t => decide (t.fmt = e.mFmt) && t.shapeIs (some e.mM) (some e.mN))),
   (14, e.mFuse && s.badHandle p (e.u16 14) (fun t =>
      decide (t.fmt = 0xE ∧ 2 * e.mM * ceilDiv e.mN 256 ≤ t.count)))]

/-- K shares of a MATMUL. -/
def Entry.mShares (e : Entry) : Nat := ceilDiv e.mK kMax

/-- The tiles of a MATMUL, row-major, K shares of one tile adjacent (R91, R92). -/
def matTiles (e : Entry) : List Tile :=
  (List.range (ceilDiv e.mM 256)).flatMap (fun i => (List.range (ceilDiv e.mN 256)).flatMap (fun j =>
    (List.range e.mShares).map (fun k =>
      ({ row0 := 256 * i, col0 := 256 * j, rows := min 256 (e.mM - 256 * i),
         cols := min 256 (e.mN - 256 * j), k0 := kMax * k, klen := min kMax (e.mK - kMax * k) } : Tile))))

/-- Every byte of an operand is there and every burst of it passes R70, before the descriptor writes anything (R18,
R70). -/
def State.checkWhole (s : State) (p : Nat) (t : Tensor) : Except Fail Unit := do
  if isNarrow t.fmt then
    let _ ← s.loadBursts p t
    pure ()
  else
    let _ ← s.readPlot p t.addr t.bytes
    pure ()

/-- MATMUL, R85 to R92: the checks, the empty product, the operands as they stand, the division into tiles. -/
def matmul (s : State) (p : Nat) (e : Entry) (r i : Nat) : Except Fail State := do
  let empty := decide (e.mM = 0 ∨ e.mN = 0 ∨ e.mK = 0)
  checkAll empty (matFields e) (s.matHandles p e)
  if empty then pure (s.finish r i 0x01 0)
  else
    if 1 < e.mShares then s.checkVe p
    let tc := Tab.val (s.plot p).handles (e.u16 12)
    s.checkWhole p (Tab.val (s.plot p).handles (e.u16 8))
    s.checkWhole p (Tab.val (s.plot p).handles (e.u16 10))
    if e.mAccum then s.checkWhole p tc
    let old ← if e.mAccum && isNarrow tc.fmt then s.load p tc else pure []
    let job : MatJob :=
      { ring := r, idx := i, tiles := matTiles e, oldC := old.map valY32
        widthA := (Tab.val (s.plot p).handles (e.u16 8)).width
        widthB := (Tab.val (s.plot p).handles (e.u16 10)).width }
    pure { s with matJobs := s.matJobs ++ [job] }

/-- MATMUL. -/
def execMatmul (ring : Fin 1024) (idx : Nat) (s : State) : Host.Outcome State Fault Refusal :=
  s.issue ring idx opMATMUL (fun s p e => matmul s p e ring idx)

/-! ### Jobs and tiles -/

/-- The MATMUL job of a descriptor. -/
def State.job (s : State) (r i : Nat) : Option MatJob :=
  s.matJobs.find? (fun j => decide (j.ring = r ∧ j.idx = i))

/-- That job changed. -/
def State.modJob (s : State) (r i : Nat) (f : MatJob → MatJob) : State :=
  { s with matJobs := s.matJobs.map (fun j => if j.ring = r ∧ j.idx = i then f j else j) }

/-- Tile `k` of a job changed. -/
def State.modTile (s : State) (r i k : Nat) (f : Tile → Tile) : State :=
  s.modJob r i (fun j => { j with tiles := j.tiles.mapIdx (fun n t => if n = k then f t else t) })

/-- Array `a` (3 * die + m). -/
def State.array (s : State) (a : Nat) : Engine := s.engine (a / 3) (a % 3)

/-- Array `a` changed. -/
def State.modArray (s : State) (a : Nat) (f : Engine → Engine) : State := s.modEngine (a / 3) (a % 3) f

/-- The job and tile that array `a` holds. -/
def State.tileOn (s : State) (a : Nat) : Option (Nat × Nat × Nat × MatJob × Tile × Entry) :=
  match (s.array a).tile with
  | none => none
  | some (r, i, k) =>
    match s.job r i, s.entry r i with
    | some j, some e => (j.tiles[k]?).map (fun t => (r, i, k, j, t, e))
    | _, _ => none

/-- The record of handle `h` is refreshed at the completion of its step, or at once for a descriptor
outside a step (R66). -/
def State.markRecord (s : State) (p : Nat) (member : Bool) (h : Nat) : State :=
  if member then s.modStep p (fun k => { k with narrow := addAsc h k.narrow })
  else s.modTensor p h Tensor.refresh

/-- The records that the job touched are refreshed with its step, or now for a descriptor outside a step, whatever its
status (R66, R90). -/
def State.closeRecords (s : State) (r i : Nat) : State :=
  match s.job r i, s.entry r i with
  | some j, some e =>
    (named [(j.rebasedA, e.u16 8), (j.rebasedB, e.u16 10), (j.rebasedC, e.u16 12)]).foldl
      (fun s h => s.markRecord (s.ringPlot r) e.member h) s
  | _, _ => s

/-- The descriptor's job ends: its arrays are free, its repeat requests are gone, the records it touched are due for
their refresh. -/
def State.dropJob (s : State) (r i : Nat) : State :=
  let p := s.ringPlot r
  let s1 := (s.closeRecords r i).modPlot p (fun q => { q with
    requests := q.requests.filter (fun x => decide (x.1 ≠ r ∨ x.2.1 ≠ i)) })
  { s1 with
    matJobs := s1.matJobs.filter (fun j => decide (j.ring ≠ r ∨ j.idx ≠ i))
    engines := s1.engines.map (fun g => (g.1,
      if g.2.tile.any (fun x => decide (x.1 = r ∧ x.2.1 = i)) then { g.2 with tile := none } else g.2)) }

/-- A descriptor with a job fails. -/
def State.failJob (s : State) (r i : Nat) (f : Fail) : State :=
  (s.dropJob r i).failDesc r i (s.ringPlot r) f

/-- The operands that a MATMUL configures for quantising: handle, code, width record (R117, R118). -/
def State.quantised (s : State) (p : Nat) (e : Entry) (j : MatJob) : List (Nat × Nat × BitVec 128) :=
  let fmt (h : Nat) : Nat := (Tab.val (s.plot p).handles h).fmt
  [(e.u16 8, e.mQA, j.widthA), (e.u16 10, e.mQB, j.widthB)].filter (fun o =>
    encodesAt o.2.1 (fmt o.1) (rungOf o.2.1))

/-- The ladder position at which a new tile starts (R128, R136). -/
def startPos (ops : List (Nat × Nat × BitVec 128)) (exhausted : Bool) : Nat :=
  let least (l : List Nat) : Nat := l.foldl min 11
  match ops with
  | [] => 0
  | _ => let lo := least (ops.map (fun o => rungOf o.2.1))
    if exhausted then max lo (least (ops.map (fun o => fallbackRung o.2.2))) else lo

/-- Effective rung of an operand (R128): its configured rung, P, and, at a fallback rung, its own
FALLBACK. -/
def effectiveRung (q : Nat) (w : BitVec 128) (pos : Nat) (fallback : Bool) : Nat :=
  max (max (rungOf q) pos) (if fallback then fallbackRung w else 0)

/-- The format to which a run quantises an operand of stored format `fmt`, if it does. -/
def runCode (q fmt : Nat) (w : BitVec 128) (pos : Nat) (fallback : Bool) : Option Nat :=
  let e := effectiveRung q w pos fallback
  if encodesAt q fmt e then some (codeAt q e) else none

/-- The codes of A and B in a run of a tile. -/
def State.runCodes (s : State) (p : Nat) (e : Entry) (j : MatJob) (pos : Nat) (fallback : Bool) :
    Option Nat × Option Nat :=
  let fmt (h : Nat) : Nat := (Tab.val (s.plot p).handles h).fmt
  (runCode e.mQA (fmt (e.u16 8)) j.widthA pos fallback, runCode e.mQB (fmt (e.u16 10)) j.widthB pos fallback)

/-- The formats in which A and B travel in a run. -/
def State.runFmts (s : State) (p : Nat) (e : Entry) (c : Option Nat × Option Nat) : Nat × Nat :=
  let fmt (h : Nat) : Nat := (Tab.val (s.plot p).handles h).fmt
  (c.1.getD (fmt (e.u16 8)), c.2.getD (fmt (e.u16 10)))

/-- During Sapling service no run may quantise to Y8g or reach rung 10 (R477). -/
def State.runAllowed (s : State) (c : Option Nat × Option Nat) : Bool :=
  s.full || !([c.1, c.2].any (fun x => decide (x = some 0xA ∨ x = some 0xB)))

/-- The scale record of an operand that is quantised and not narrow is re-based once for the
descriptor, and refreshed with its step (R65, R66, R90). -/
def State.rebaseOperand (s : State) (p h : Nat) : State :=
  s.modTensor p h (fun t => { t with sEnc := t.sNext, gen := t.gen + 1 })

/-- The first tile of a descriptor that quantises an operand re-bases its record. -/
def State.rebaseFor (s : State) (p r i : Nat) (e : Entry) (c : Option Nat × Option Nat) : State :=
  let j := (s.job r i).getD {}
  let plain (h : Nat) : Bool := !isNarrow (Tab.val (s.plot p).handles h).fmt
  let s1 := if c.1.isSome ∧ ¬ j.rebasedA = true ∧ plain (e.u16 8) = true then
      (s.rebaseOperand p (e.u16 8)).modJob r i (fun j => { j with rebasedA := true }) else s
  let a := c.1.isSome || j.rebasedA
  if c.2.isSome ∧ ¬ j.rebasedB = true ∧ plain (e.u16 10) = true
      ∧ ¬ (e.u16 8 = e.u16 10 ∧ a = true) then
    (s1.rebaseOperand p (e.u16 10)).modJob r i (fun j => { j with rebasedB := true }) else s1

/-- A tile before its first pass: no passes, no staged rows, empty stacks, no counts (R99). -/
def Tile.fresh (t : Tile) : Tile := { t with passes := 0, ready := {}, stack := [], cntA := {}, cntB := {} }

/-- A run of a tile begins (R99, R125, R132). -/
def State.beginRun (s : State) (a r i k : Nat) (pos : Nat) (last : Bool) : State :=
  (s.modTile r i k (fun t => { t.fresh with
    pos := pos, last := last, run := t.run + 1, demand := none, granted := none, setAside := false })).modArray a
      (fun g => { g with shadow := none })

/-! ### Assignment (R93, R112, R113) -/

/-- A tile may take an array now. -/
def State.tileReady (s : State) (p : Nat) (e : Entry) (j : MatJob) (t : Tile) : Bool :=
  let step := s.stepOf p
  let ops := s.quantised p e j
  let exhausted := e.member && step.exhausted
  let pos := if t.started then (t.granted.getD t.pos) % 16 else startPos ops exhausted
  let last := if t.started then t.last || decide (16 ≤ t.granted.getD 0) else exhausted && !ops.isEmpty
  t.array.isNone && !t.done && decide (t.demand = none ∨ t.setAside = true)
  && s.runAllowed (s.runCodes p e j pos last)

/-- The next tile of plot `p` in a direction: (ring, descriptor, tile). -/
def State.nextTile (s : State) (p : Nat) (back : Bool) : Option (Nat × Nat × Nat) :=
  s.matJobs.findSome? (fun j =>
    match s.entry j.ring j.idx with
    | none => none
    | some e =>
      if s.ringPlot j.ring = p ∧ e.stage = 2 ∧ e.mBack = back then
        ((List.range j.tiles.length).find? (fun k => s.tileReady p e j (j.tiles.getD k {}))).map
          (fun k => (j.ring, j.idx, k))
      else none)

/-- Arrays of a die that hold tiles of plot `p` in a direction. -/
def State.heldOn (s : State) (p gd : Nat) (back : Bool) : Nat :=
  howMany (fun m => match s.tileOn (3 * gd + m) with
    | some (r, _, _, _, _, e) => decide (s.ringPlot r = p ∧ e.mBack = back)
    | none => false) [0, 1, 2]

/-- The direction that Table 4.6 gives a free array while both directions have work. -/
def State.shareBack (s : State) (p a : Nat) : Bool :=
  let gd := a / 3
  let n := howMany (fun m => s.leasesArray p gd m) [0, 1, 2]
  if n = 1 then decide ((s.array a).took ≠ 0)
  else decide (1 ≤ s.heldOn p gd false)

/-- A tile starts or resumes on array `a`. -/
def State.startTile (s : State) (p a r i k : Nat) (e : Entry) (j : MatJob) (t : Tile) : State :=
  let ops := s.quantised p e j
  let exhausted := e.member && (s.stepOf p).exhausted
  let resume := t.started
  let pos := if resume then (t.granted.getD t.pos) % 16 else startPos ops exhausted
  let last := if resume then t.last || decide (16 ≤ t.granted.getD 0) else exhausted && !ops.isEmpty
  let s1 := (s.modArray a (fun g => { g with tile := some (r, i, k) })).modTile r i k (fun t =>
    { t with array := some a, started := true })
  let s2 := if resume then s1 else if e.member then
    s1.modStep p (fun q => { q with tiles := q.tiles + 1 }) else s1
  let s3 := if last && !resume then
      (s2.countWrap (CNT_ESC_FALLBACK.COUNT p) 1).modStep p (fun q => { q with
        fallback := q.fallback + b2n e.member })
    else s2
  let s4 := s3.rebaseFor p r i e (s3.runCodes p e j pos last)
  if t.run ≠ 0 ∧ t.granted = none then s4.modArray a (fun g => { g with shadow := none }) else s4.beginRun a r i k pos last

/-- A repeat begins on array `a` (R99, R129, R136). -/
def State.countRepeat (s : State) (p a r i : Nat) (member refused : Bool) : State :=
  let s1 := ((s.modJob r i (fun j => { j with repeats := j.repeats + 1 })).countWrap
    (CNT_ESC_REPEATS.COUNT p) 1).countWrap (CNT_MA_TILES.REPEATS (a / 3) (a % 3)) 1
  if refused then (s1.countWrap (CNT_ESC_FALLBACK.COUNT p) 1).modStep p (fun q => { q with
    fallback := q.fallback + b2n member }) else s1

/-- TILE_ASSIGN, R93, R112, R113: a free array of a bound plot takes the next tile; with work in both
directions the array goes as Table 4.6 shares it. -/
def execTileAssign (array : Fin 48) (s : State) : Host.Outcome State Fault Refusal :=
  let a := array.val
  match s.ownerOfEngine (a / 3) (a % 3) with
  | none => .next s
  | some p =>
    if s.groveUp (a / 3) = true ∧ (s.die (a / 3)).brownout = none ∧ (s.array a).tile = none ∧ s.plotState p = plotBOUND
        ∧ s.running = true then
      let f := s.nextTile p false
      let b := s.nextTile p true
      let both := f.isSome && b.isSome
      let s0 := if both then s.modArray a (fun g => { g with took := (g.took + 1) % 3 }) else s
      let pick := if both then (if s.shareBack p a then b else f) else if f.isSome then f else b
      match pick with
      | none => .next s
      | some (r, i, k) =>
        match s.job r i, s.entry r i with
        | some j, some e =>
          let t := j.tiles.getD k {}
          let s1 := s0.startTile p a r i k e j t
          .next (if t.granted.isSome then
              s1.countRepeat p a r i e.member (decide (16 ≤ t.granted.getD 0)) else s1)
        | _, _ => .next s
    else .next s

/-! ### Passes -/

/-- The layout engine encodes the operand to a narrow format (R89, R90). -/
def encodesNarrow (fmt : Nat) (orient : Bool) (code : Option Nat) : Bool :=
  match code with
  | some f => isNarrow f
  | none => isNarrow fmt && orient

/-- One K slice of an operand, staged on grove die `gd`; what its encoding draws comes through the second port of
VE0's source (R90, R93, R170). -/
def State.slice (s : State) (p gd : Nat) (e : Entry) (h : Nat) (orient : Bool) (o0 on k0 kn : Nat)
    (code : Option Nat) : Except Fail (State × Opnd × OpCount) := do
  let t := Tab.val (s.plot p).handles h
  let random := e.stochastic && encodesNarrow t.fmt orient code
  let x ← s.operand p t orient o0 on k0 kn code (if random then some (s.gens (4 * gd)) else none)
  pure (if random then s.drawVe (4 * gd) (on * kn) else s, x)

/-- Where pass `n` of a tile lies along k: its first value and their number (R92). -/
def Tile.span (t : Tile) (kp n : Nat) : Nat × Nat := (t.k0 + n * kp, min kp (t.klen - n * kp))

/-- The slice of A for pass `n`. -/
def State.sliceA (s : State) (p gd : Nat) (e : Entry) (t : Tile) (c : Option Nat × Option Nat) (kp n : Nat) :
    Except Fail (State × Opnd × OpCount) :=
  s.slice p gd e (e.u16 8) e.mOrientA t.row0 t.rows (t.span kp n).1 (t.span kp n).2 c.1

/-- The slice of B for pass `n`. -/
def State.sliceB (s : State) (p gd : Nat) (e : Entry) (t : Tile) (c : Option Nat × Option Nat) (kp n : Nat) :
    Except Fail (State × Opnd × OpCount) :=
  s.slice p gd e (e.u16 10) e.mOrientB t.col0 t.cols (t.span kp n).1 (t.span kp n).2 c.2

/-- The slice of B for pass `n` as the shadow registers hold it, or loaded now (R96, R97). -/
def State.takeB (s : State) (p a : Nat) (e : Entry) (t : Tile) (c : Option Nat × Option Nat) (kp n : Nat) :
    Except Fail (State × Opnd × OpCount) :=
  match (s.array a).shadow with
  | some (m, x) => if m = n then .ok (s, x) else s.sliceB p (a / 3) e t c kp n
  | none => s.sliceB p (a / 3) e t c kp n

/-- While a pass streams, the slice of the next one, if there is one and its bytes can be read, loads into the shadow
registers (R97). -/
def State.prefetchB (s : State) (p a : Nat) (e : Entry) (t : Tile) (c : Option Nat × Option Nat) (kp n : Nat) : State :=
  if n < ceilDiv t.klen kp then
    match s.sliceB p (a / 3) e t c kp n with
    | .ok (s1, x) => s1.modArray a (fun g => { g with shadow := some (n, x) })
    | .error _ => s.modArray a (fun g => { g with shadow := none })
  else s.modArray a (fun g => { g with shadow := none })

/-- The stacks of a tile once the pass in flight has left the array: its groups follow those of the passes before
(R98, R100). -/
def State.drainSums (s : State) (a : Nat) (t : Tile) : List (Nat × List Word × Nat) :=
  pushGroups t.stack t.ready (s.array a).active

/-- AMAX of the quantised operands that are not narrow rises to the values of a run (R90, R131). -/
def State.raiseAmax (s : State) (p : Nat) (e : Entry) (c : Option Nat × Option Nat) (x : OpCount × OpCount) :
    State :=
  let up (s : State) (h : Nat) (code : Option Nat) (m : Nat) : State :=
    if code.isSome ∧ ¬ isNarrow (Tab.val (s.plot p).handles h).fmt = true then
      s.modTensor p h (fun t => { t with amax := valY32 (.fin false (max m (y32Val t.amax).mag)) })
    else s
  up (up s (e.u16 8) c.1 x.1.amax) (e.u16 10) c.2 x.2.amax

/-- The judged operands of a run: effective rung, width record, failed checks (R117, R123). -/
def judged (e : Entry) (j : MatJob) (t : Tile) (c : Option Nat × Option Nat) (klen : Nat) (early : Bool)
    (x : OpCount × OpCount) : List (Nat × BitVec 128 × List Bool) :=
  let one (code : Option Nat) (q : Nat) (w : BitVec 128) (rows : Nat) (n : OpCount) :
      List (Nat × BitVec 128 × List Bool) :=
    if code.isNone then [] else
      [(effectiveRung q w t.pos t.last, w,
        failedChecks w n.counts (if early then some (rows * ceilDiv klen 32, rows * klen) else none))]
  one c.1 e.mQA j.widthA t.rows x.1 ++ one c.2 e.mQB j.widthB t.cols x.2

/-- The demand of a run, 0 for none (R129). -/
def runDemand (l : List (Nat × BitVec 128 × List Bool)) : Nat :=
  (l.map (fun o => demandOf o.2.1 o.1 o.2.2)).foldl max 0

/-- A failed check of any operand. -/
def anyFailed (l : List (Nat × BitVec 128 × List Bool)) : Bool := l.any (fun o => o.2.2.any id)

/-- The counters of failed checks, each once for the run (R130). -/
def State.countFails (s : State) (p : Nat) (l : List (Nat × BitVec 128 × List Bool)) : State :=
  let n (i : Nat) : Nat := b2n (l.any (fun o => o.2.2.getD i false))
  (((s.countWrap (CNT_ESC_FAIL_A.UF p) (n 0)).countWrap (CNT_ESC_FAIL_A.SAT p) (n 1)).countWrap
    (CNT_ESC_FAIL_B.LOST p) (n 2)).countWrap (CNT_ESC_FAIL_B.NF p) (n 3)

/-- A failed run asks the plot's budget counter for a repeat (Table 5.5). -/
def State.askRepeat (s : State) (p r i k d : Nat) : State :=
  (s.modTile r i k (fun t => { t with demand := some d })).modPlot p (fun q => { q with
    requests := q.requests ++ [(r, i, k)] })

/-- Device ranges of the bytes that one pass stages from a tensor. -/
def State.passRanges (s : State) (p h : Nat) (orient : Bool) (o0 on k0 kn : Nat) : List (Nat × Nat) :=
  let t := Tab.val (s.plot p).handles h
  (if orient then t.ranges k0 kn o0 on else t.ranges o0 on k0 kn).flatMap (fun q => s.pieces p q.1 q.2)

/-- The row-steps of a load of B that no earlier pass hides: the descriptor's first on this array, or
the first of a repeat (R97, R132). -/
def State.loadCost (s : State) (a r i : Nat) (t : Tile) (f : Nat × Nat) : Nat :=
  if t.passes = 0 ∧ ((s.array a).loaded ≠ some (r, i) ∨ 1 < t.run) then loadSteps f.1 f.2 else 0

/-- Busy row-steps of array `a` in the service of a descriptor (R115). -/
def State.countSteps (s : State) (a r i n : Nat) : State :=
  (s.modArray a (fun g => { g with loaded := some (r, i) })).count64
    (CNT_MA_ROWSTEP_LO.COUNT_LO (a / 3) (a % 3)) (CNT_MA_ROWSTEP_HI.COUNT_HI (a / 3) (a % 3)) n

/-- A pass issues: its row-steps, its event, its groups that do not switch (lengths `z`), its energy
without theirs, the row-steps it waited, the bytes it stages (R84, R97, R115, R132, R502).  The 24 row-steps of
drain (R98) are not busy ones: DEDUCED, unsafe: log 194. -/
def State.countPass (s : State) (p a r i : Nat) (e : Entry) (t : Tile) (f : Nat × Nat) (z : List Nat) :
    State :=
  let kp := kPass f.1 f.2
  let kn := min kp (t.klen - t.passes * kp)
  let k0 := t.k0 + t.passes * kp
  let steps := max (t.rows * rowSteps f.1 f.2) (loadSteps f.1 f.2) + s.loadCost a r i t f
  let s1 := (((s.countSteps a r i steps).countWrap (CNT_MA_ZERO_GROUPS.COUNT (a / 3) (a % 3)) z.length).perf
      (a / 3) 1 1).charge p r (a / 3) (macEnergy f.1 f.2 * (t.rows * t.cols * kn - z.foldl (· + ·) 0))
  let s2 := (s1.perf (a / 3) 2 (Config.waitSteps s1.draws)).tick
  (s2.staged p r (a / 3) true (s2.passRanges p (e.u16 8) e.mOrientA t.row0 t.rows k0 kn)).staged p r (a / 3) true
    (s2.passRanges p (e.u16 10) e.mOrientB t.col0 t.cols k0 kn)

/-- The ranges that pass `n` of a tile reads: those of A, and those of B unless the shadow registers hold its slice. -/
def State.passReads (s : State) (p a : Nat) (e : Entry) (t : Tile) (kp n : Nat) : List (Nat × Nat) :=
  let q := t.span kp n
  s.passRanges p (e.u16 8) e.mOrientA t.row0 t.rows q.1 q.2
  ++ (if (s.array a).shadow.any (fun x => decide (x.1 = n)) then []
      else s.passRanges p (e.u16 10) e.mOrientB t.col0 t.cols q.1 q.2)

/-- An access to any of these ranges stalls (R21, R47, R48). -/
def State.anyStalled (s : State) (l : List (Nat × Nat)) : Bool := l.any (fun q => s.stalledAt q.1 q.2)

/-- The lines of tile memory that a pass reads, by what their codes find; only banks that the plot leases take part
(R23, R25). -/
def State.tileReads (s : State) (p gd : Nat) (l : List (Fin 64 × Fin 131072 × Ecc)) : State :=
  (l.filter (fun q => s.leasesBank p gd q.1)).foldl (fun s q => s.tileRead gd q.1 q.2.1 q.2.2) s

/-- One of those reads is uncorrectable: its data is poisoned. -/
def State.tileLost (s : State) (p gd : Nat) (l : List (Fin 64 × Fin 131072 × Ecc)) : Bool :=
  l.any (fun q => s.leasesBank p gd q.1 && decide (q.2.2 = Ecc.uncorrectable))

/-- A pass enters the array: the pass before it drains, its rows of A stand in tile memory, its slice of B becomes
active and the next one loads (R96 to R98). -/
def State.enterPass (s : State) (p a r i k : Nat) (e : Entry) (t : Tile) (c : Option Nat × Option Nat) (kp : Nat)
    (xa xb : Opnd) : State :=
  let st := s.drainSums a t
  ((s.modTile r i k (fun t => { t with ready := xa, stack := st, passes := t.passes + 1 })).modArray a
    (fun g => { g with active := xb })).prefetchB p a e t c kp (t.passes + 1)

/-- ARRAY_PASS_ISSUE, R96, R97, R124, R132: the operands of the pass are staged and counted; a check that already fails
against the totals ends the run, which costs the load it began, else the pass issues.  `tile` lists the lines of tile
memory that its reads find in error. -/
def execArrayPassIssue (array : Fin 48) (tile : List (Fin 64 × Fin 131072 × Ecc)) (s : State) :
    Host.Outcome State Fault Refusal :=
  let a := array.val
  match s.tileOn a with
  | none => .next s
  | some (r, i, k, j, t, e) =>
    let p := s.ringPlot r
    let c := s.runCodes p e j t.pos t.last
    let f := s.runFmts p e c
    let kp := kPass f.1 f.2
    if s.running = true ∧ s.groveUp (a / 3) = true ∧ (s.die (a / 3)).brownout = none ∧ t.demand = none ∧ t.granted = none
        ∧ t.passes < ceilDiv t.klen kp ∧ s.anyStalled (s.passReads p a e t kp t.passes) = false then
      let s0 := s.tileReads p (a / 3) tile
      if s.tileLost p (a / 3) tile then .next (s0.failJob r i poisonedQuiet)
      else match (do
          let (s1, xa, na) ← s0.sliceA p (a / 3) e t c kp t.passes
          let (s2, xb, nb) ← s1.takeB p a e t c kp t.passes
          pure (s2, xa, na, xb, nb)) with
      | .error x => .next (s0.failJob r i x)
      | .ok (s2, xa, na, xb, nb) =>
        let n := (t.cntA.add na, t.cntB.add nb)
        let s3 := (s2.raiseAmax p e c n).modTile r i k (fun t => { t with cntA := n.1, cntB := n.2 })
        let l := judged e j t c t.klen true n
        let d := if t.last then 0 else runDemand l
        if d ≠ 0 then
          .next (((s3.countFails p l).countSteps a r i (s3.loadCost a r i t f)).askRepeat p r i k d)
        else .next ((s3.countPass p a r i e t f (zeroGroups xa xb)).enterPass p a r i k e t c kp xa xb)
    else .next s

/-! ### The end of a run -/

/-- Earlier values of C under ACCUM, row by row of the tile (R86). -/
def State.oldTile (s : State) (p : Nat) (e : Entry) (j : MatJob) (t : Tile) : Except Fail (List Word) := do
  let tc := Tab.val (s.plot p).handles (e.u16 12)
  if isNarrow tc.fmt then
    pure ((List.range (t.rows * t.cols)).map (fun n =>
      j.oldC.getD ((t.row0 + n / t.cols) * e.mN + t.col0 + n % t.cols) 0))
  else
    let l ← s.partPlain p tc t.row0 t.rows t.col0 t.cols
    pure (l.flatten.map (fun n => valY32 (elemVal tc.fmt n 0)))

/-- The results of a tile are written to C and to the row statistics (R86, R99, R109, R127), which counts the
non-finite values of the earlier C and those that the sum and the conversion produce (R140).  `flush` tells that an
array, not a vector engine, forms the written results (R56); vector engine `v` gives the random bits. -/
def State.writeTile (s : State) (p r i v : Nat) (e : Entry) (j : MatJob) (t : Tile) (y : List Word)
    (flush escalated : Bool) : Except Fail State := do
  let tc := Tab.val (s.plot p).handles (e.u16 12)
  let (z, n) ← if e.mAccum then do
      let old ← s.oldTile p e j t
      let z := List.zipWith (if flush then addFlush else addY32) old y
      pure (z, howMany nonFinite old + freshIn old y z)
    else pure (y, 0)
  let s1 := if isNarrow tc.fmt ∧ ¬ j.rebasedC = true then
      (s.rebase p (e.u16 12)).modJob r i (fun j => { j with rebasedC := true }) else s
  let random := e.stochastic && isNarrow tc.fmt
  let mode : WriteMode := { draws := if random then some (s1.gens v) else none, esc := escalated }
  let (s2, w) ← (if random then s1.drawVe v (e.mM * e.mN) else s1).store p r (e.u16 12) mode
    (fun n =>
      let row := n / e.mN
      let col := n % e.mN
      if t.row0 ≤ row ∧ row < t.row0 + t.rows ∧ t.col0 ≤ col ∧ col < t.col0 + t.cols then
        some (y32Val (z.getD ((row - t.row0) * t.cols + (col - t.col0)) 0)) else none)
  let s2 := s2.countNf p e.member (n + if overflowsToInf tc.fmt then w.sat else 0)
  if e.mFuse then
    let nt := ceilDiv e.mN 256
    let l := (List.range t.rows).flatMap (fun m =>
      let st := rowStat e.mScale ((y.drop (m * t.cols)).take t.cols)
      let at' := 2 * ((t.row0 + m) * nt + t.col0 / 256)
      [(at', st.1), (at' + 1, st.2)])
    s2.storeWords p r (Tab.val (s2.plot p).handles (e.u16 14)) l
  else pure s2

/-- A written tile is counted (R115, R143). -/
def State.countTile (s : State) (p a : Nat) (quant : Bool) (pos : Nat) : State :=
  let s1 := s.countWrap (CNT_MA_TILES.TILES (a / 3) (a % 3)) 1
  if quant ∧ 1 ≤ pos then
    let s2 := s1.countWrap (CNT_ESC_TILES.COUNT p) 1
    if pos % 2 = 1 then s2.countWrap (CNT_ESC_RUNG.LO p ((pos - 1) / 2)) 1
    else s2.countWrap (CNT_ESC_RUNG.HI p ((pos - 1) / 2)) 1
  else s1

/-- A job whose every tile is done ends with OK and the number of its tile repeats (R352). -/
def State.endJob (s : State) (r i : Nat) (e : Entry) : State :=
  match s.job r i with
  | none => s
  | some j =>
    if j.tiles.all (fun t => t.done) ∧ j.partials = []
        ∧ j.arrived.all (fun g => decide (e.mShares ≤ g.2)) = true then
      (s.dropJob r i).finish r i 0x00 j.repeats
    else s

/-- The array is free of tile `k`, which is done. -/
def State.tileDone (s : State) (a r i k : Nat) : State :=
  (s.modTile r i k (fun t => { t with done := true, array := none })).modArray a
    (fun g => { g with tile := none, replaying := false })

/-- What a run that passes counts: the non-finite values that it read and produced, the unused codes that it read, its
tile (R102, R126, R130, R140). -/
def State.countRun (s : State) (p a : Nat) (e : Entry) (j : MatJob) (t : Tile)
    (l : List (Nat × BitVec 128 × List Bool)) (made : Nat) : State :=
  let s1 := if anyFailed l ∧ (l.filter (fun o => o.2.2.any id)).all (fun o => decide (10 ≤ o.1)) = true
    then s.countWrap (CNT_ESC_EVENTS.TOP_FAIL p) 1 else s
  ((s1.countNf p e.member (t.cntA.nf + t.cntB.nf + made)).countWrap (CNT_STORED_SAT.COUNT p)
    (t.cntA.ssat + t.cntB.ssat)).countTile p a (!(s.quantised p e j).isEmpty) t.pos

/-- ARRAY_PASS_COMPLETE, R99, R124: the run's last pass is complete, so the run is judged; it passes
and its results are written, or go out as a partial of a split tile, or it asks for a repeat. -/
def execArrayPassComplete (array : Fin 48) (s : State) : Host.Outcome State Fault Refusal :=
  let a := array.val
  match s.tileOn a with
  | none => .next s
  | some (r, i, k, j, t, e) =>
    let p := s.ringPlot r
    let c := s.runCodes p e j t.pos t.last
    let f := s.runFmts p e c
    let out := s.passRanges p (e.u16 12) false t.row0 t.rows t.col0 t.cols
    if s.groveUp (a / 3) = true ∧ (s.die (a / 3)).brownout = none ∧ t.demand = none ∧ t.granted = none
        ∧ t.passes = ceilDiv t.klen (kPass f.1 f.2) ∧ s.anyStalled out = false then
      let l := judged e j t c t.klen false (t.cntA, t.cntB)
      let d := if t.last then 0 else runDemand l
      let s1 := s.countFails p l
      if d ≠ 0 then .next (s1.askRepeat p r i k d)
      else
        let y := stackFold (addTile addFlush) ([], 0) (s.drainSums a t)
        let s2 := s1.countRun p a e j t l y.2
        if e.mShares = 1 then
          match s2.writeTile p r i (4 * (a / 3)) e j t y.1 true (decide (1 < t.run)) with
          | .error x => .next (s.failJob r i x)
          | .ok s3 => .next (((s3.staged p r (a / 3) false out).tileDone a r i k).endJob r i e)
        else
          .next ((s2.tileDone a r i k).modJob r i (fun j => { j with
            partials := j.partials ++ [(k / e.mShares, k % e.mShares, y.1)]
            arrived := Tab.ins j.arrived (k / e.mShares) (Tab.val j.arrived (k / e.mShares)) }))
    else .next s

/-! ### Partials of a split product (R103, R157) -/

/-- A partial of a MATMUL joins the combining stack of its tile; with the last one the results are
written. -/
def State.matPartial (s : State) (p r i n : Nat) (e : Entry) (j : MatJob) : Except Fail State := do
  match j.partials[n]? with
  | none => pure s
  | some (g, _, y) =>
    let st := stackPush (addTile addY32) (Tab.val j.combine g) 0 (y, 0)
    let got := Tab.val j.arrived g + 1
    let s1 := s.modJob r i (fun j => { j with
      partials := j.partials.eraseIdx n, combine := Tab.put j.combine g st
      arrived := Tab.ins j.arrived g got })
    if got < e.mShares then pure s1
    else
      let t := j.tiles.getD (g * e.mShares) {}
      let z := stackFold (addTile addY32) ([], 0) st
      let esc := (List.range e.mShares).any (fun k =>
        decide (1 < (j.tiles.getD (g * e.mShares + k) {}).run))
      let v := (s.vesOf p).headD 0
      let s2 := s1.veWork p r v (e.mShares * z.1.length) (e.mShares * ceilDiv z.1.length 512)
      let s3 ← (s2.countNf p e.member z.2).writeTile p r i v e j t z.1 false esc
      let s4 := s3.staged p r (v / 4) false (s3.passRanges p (e.u16 12) false t.row0 t.rows t.col0 t.cols)
      pure (s4.endJob r i e)

/-! ### The escalation budget (R134 to R138) -/

/-- REPEAT_REQUEST, R134 to R136, R138: the plot's budget counter takes the oldest request. -/
def execRepeatRequest (plot : Fin 64) (s : State) : Host.Outcome State Fault Refusal :=
  let p := plot.val
  match (s.plot p).requests with
  | [] => .next s
  | (r, i, k) :: rest =>
    let s0 := s.modPlot p (fun q => { q with requests := rest })
    match s.job r i, s.entry r i with
    | some j, some e =>
      let t := j.tiles.getD k {}
      let d := t.demand.getD 0
      let grant (s : State) (g : Nat) : State := s.modTile r i k (fun t => { t with granted := some g })
      if ¬ e.member = true then .next (grant s0 d)
      else
        let q := s.stepOf p
        let beyond := q.exhausted || (decide (s.rd (CFG_ESC_BUDGET.MIN_REPEATS p) ≤ q.repeats)
          && decide (s.rd (CFG_ESC_BUDGET.FRACTION p) * q.tiles < (q.repeats + 1) * 65536))
        if beyond then
          let fb := ((s.quantised p e j).map (fun o => fallbackRung o.2.2)).foldl min 10
          let s1 := if q.exhausted then s0 else
            (((s0.wr (STS_ESC_OVERRUN.OVERRUN p) 1).wsq (STS_ESC_OVERRUN.SEQ p)).countWrap
              (CNT_ESC_EVENTS.OVERRUN_STEPS p) 1).modStep p (fun q => { q with exhausted := true })
          .next (grant s1 (16 + max d fb))
        else .next (grant (s0.modStep p (fun q => { q with repeats := q.repeats + 1 })) d)
    | _, _ => .next s0

/-- REPEAT_ANSWER, R99, R136, R477: the answer reaches the array, which discards the run and begins
the repeat, or gives the tile up during Sapling service. -/
def execRepeatAnswer (array : Fin 48) (s : State) : Host.Outcome State Fault Refusal :=
  let a := array.val
  match s.tileOn a with
  | none => .next s
  | some (r, i, k, j, t, e) =>
    match t.granted with
    | none => .next s
    | some g =>
      let p := s.ringPlot r
      let refused := decide (16 ≤ g)
      let c := s.runCodes p e j (g % 16) (t.last || refused)
      if s.runAllowed c then
        .next (((s.rebaseFor p r i e c).beginRun a r i k (g % 16) (t.last || refused)).countRepeat p a r i
          e.member refused)
      else
        .next ((s.modTile r i k (fun t => { t with setAside := true, array := none })).modArray a
          (fun x => { x with tile := none }))

end Sys2Proof.Machine
end

