-- ==== Sys2Proof/Machine/VectorOps.lean ====
section
/-! DEFINITION. The arithmetic of the vector engines (R147 to R169): element-wise operations, fixed
trees and stacks of sums, winners, normalisation and soft maximum by rows. -/

namespace Sys2Proof.Machine

/-! ### Reading operands -/

/-- The first `n` elements of a tensor in row-major order, as Y32 words; those beyond are not read
(R520). -/
def State.loadFirst (s : State) (p : Nat) (t : Tensor) (n : Nat) : Except Fail (List Word) := do
  if isNarrow t.fmt then
    let bs ← s.partBlocks p t 0 (ceilDiv n t.cols) 0 t.cols
    let sm := (y32Val t.sEnc).mag
    let vals := bs.flatMap (fun r => ((r.flatMap (fun b => decodeBlock t.fmt sm b))).take t.cols)
    pure ((vals.take n).map valY32)
  else
    let k := elemBytes t.fmt
    let raw ← s.readPlot p t.addr (k * n)
    let res ← if t.fmt = 0xD then s.readPlot p (t.addr + t.residueOff) n else pure []
    pure ((List.range n).map (fun i =>
      valY32 (elemVal t.fmt (leNat ((raw.drop (k * i)).take k)) (res.getD i 0).toNat)))

/-- The record under a handle. -/
def State.tensorOf (s : State) (p h : Nat) : Tensor := Tab.val (s.plot p).handles h

/-- Rows of `c` elements. -/
def rowsOf {α : Type} (r c : Nat) (l : List α) : List (List α) :=
  (List.range r).map (fun i => (l.drop (i * c)).take c)

/-- Non-finite words of a list. -/
def countNonFinite (l : List Word) : Nat := howMany nonFinite l

/-! ### Non-finite values produced (R147): each operation counts the results that are not finite although its operands
are -/

/-- One operation on two values that carry the counts of what formed them. -/
def opMade (f : Word → Word → Word) (a b : Word × Nat) : Word × Nat :=
  let z := f a.1 b.1
  (z, a.2 + b.2 + b2n (nonFinite z && !nonFinite a.1 && !nonFinite b.1))

/-- Lane arithmetic that counts the non-finite values it produces. -/
abbrev Lane := StateM Nat

/-- One operation on one value. -/
def lane1 (f : Word → Word) (a : Word) : Lane Word := fun n => let z := f a
  (z, n + b2n (nonFinite z && !nonFinite a))

/-- One operation on two values. -/
def lane2 (f : Word → Word → Word) (a b : Word) : Lane Word := fun n => let z := f a b
  (z, n + b2n (nonFinite z && !nonFinite a && !nonFinite b))

/-- What an operation has produced added to the count. -/
def laneMade {α : Type} (x : α × Nat) : Lane α := fun n => (x.1, n + x.2)

/-- An operation on each of a list. -/
def mapMade (f : Word → Word) (l : List Word) : List Word × Nat :=
  (l.map f, howMany (fun x => nonFinite (f x) && !nonFinite x) l)

/-- An operation on two lists. -/
def zipMade (f : Word → Word → Word) (a b : List Word) : List Word × Nat :=
  let z := List.zipWith f a b
  (z, freshIn a b z)

/-- An operation on each of a list and one value. -/
def eachMade (f : Word → Word → Word) (a : List Word) (x : Word) : List Word × Nat :=
  zipMade f a (a.map (fun _ => x))

/-! ### ELEMENTWISE (Table 6.3) -/

/-- OP is one of Table 6.3. -/
def elemOp (op : Nat) : Bool := decide (op ≤ 0x14 ∨ (0x18 ≤ op ∧ op ≤ 0x1C) ∨ op = 0x20)

/-- Z of one element; MASK takes its draw for the element. -/
def elementZ (op : Nat) (x y w imm : Word) (draw keep : Nat) : Word :=
  if op = 0x00 then x
  else if op = 0x01 then addY32 x y
  else if op = 0x02 then subY32 x y
  else if op = 0x03 then mulY32 x y
  else if op = 0x04 then fmaY32 x y w
  else if op = 0x05 then maxY32 x y
  else if op = 0x06 then minY32 x y
  else if op = 0x07 then (if isNaN x then y32NaN else absY32 x)
  else if op = 0x08 then (if isNaN x then y32NaN else negY32 x)
  else if op = 0x09 then mulY32 x imm
  else if op = 0x0A then (if isNaN x then y32NaN else if 0 < y32Key x then x else 0)
  else if op ≤ 0x14 then special op x
  else if op = 0x18 then (if isNaN x ∨ isNaN y then y32NaN else if 0 < y32Key x then y else 0)
  else if op ≤ 0x1C then fnDeriv op x y
  else if draw < keep then imm else 0

/-- Row-steps of Table 6.1 for one operation on 512 elements. -/
def elemCost (op : Nat) : Nat :=
  if op = 0x0B then 4 else if 0x0D ≤ op ∧ op ≤ 0x0F then 3 else if op = 0x0C then 5
  else if 0x10 ≤ op ∧ op ≤ 0x12 then 6 else if op = 0x13 ∨ op = 0x14 ∨ 0x19 ≤ op ∧ op ≤ 0x1C then 8 else 1

/-- Index of a broadcast operand's element (BCAST). -/
def bcastIdx (bc cols i : Nat) : Nat :=
  if bc = 0 then i else if bc = 1 then i / cols else if bc = 2 then i % cols else 0

/-- Elements that a broadcast operand needs. -/
def bcastLen (bc rows cols : Nat) : Nat :=
  if bc = 0 then rows * cols else if bc = 1 then rows else if bc = 2 then cols else 1

/-! ### Sums and winners (R106, R155) -/

/-- Neighbours added; a missing right neighbour counts as zero. -/
def pairUp : List (Word × Nat) → List (Word × Nat)
  | [] => []
  | [a] => [opMade addY32 a (0, 0)]
  | a :: b :: t => opMade addY32 a b :: pairUp t

/-- `n` levels of a balanced tree. -/
def treeLevels : Nat → List (Word × Nat) → List (Word × Nat)
  | 0, l => l
  | n + 1, l => treeLevels n (pairUp l)

/-- One chunk of at most 512 elements (R155). -/
def chunkSum (l : List Word) : Word × Nat := (treeLevels 9 (l.map (fun x => (x, 0)))).headD (0, 0)

/-- Pieces of at most `k` elements. -/
def piecesBy {α : Type} (k : Nat) (l : List α) : List (List α) :=
  (List.range (ceilDiv l.length k)).map (fun j => (l.drop (k * j)).take k)

/-- A sum on one vector engine (R155), with the non-finite values produced. -/
def veSumMade (l : List Word) : Word × Nat := stackSum (opMade addY32) (0, 0) ((piecesBy 512 l).map chunkSum)

/-- A sum on one vector engine. -/
def veSum (l : List Word) : Word := (veSumMade l).1

/-- A list in an order that free values choose: the order of arrival of partials (R157). -/
def arrival {α : Type} (base : Nat) : Nat → List α → List α
  | 0, _ => []
  | n + 1, l =>
    let k := Config.order (base + n) % l.length
    match l[k]? with
    | none => []
    | some x => x :: arrival base n (l.eraseIdx k)

/-- The most shares of a row: COLS has 24 bits, a share 2²⁰ elements. -/
def rowShares : Nat := 16

/-- A row sum; a row of more than 2²⁰ elements is summed by shares, combined as they arrive (R161). -/
def rowSumMade (base : Nat) (l : List Word) : Word × Nat :=
  if l.length ≤ 2 ^ 20 then veSumMade l
  else
    let parts := (piecesBy (2 ^ 20) l).map veSumMade
    stackSum (opMade addY32) (0, 0) (arrival base parts.length parts)

/-- Such a sum without its count. -/
def rowSum (base : Nat) (l : List Word) : Word := (rowSumMade base l).1

/-- ⅟n of a sum, rounded once. -/
def divNat (a : Word) (n : Nat) : Word :=
  match y32Val a with
  | .fin neg m => y32Round neg m (2 ^ 149 * n)
  | v => valY32 v

/-- `a` beats `b` for a maximum (or minimum): strictly larger (smaller). -/
def beats (isMax : Bool) (a b : Val) : Bool :=
  let key (v : Val) : Int × Int := match v with
    | .inf n => (if n then -1 else 1, 0)
    | .fin n m => (0, (Val.fin n m).int)
    | .nan => (2, 0)
  let x := key a
  let y := key b
  if isMax then decide (y.1 < x.1) || (decide (x.1 = y.1) && decide (y.2 < x.2))
  else decide (x.1 < y.1) || (decide (x.1 = y.1) && decide (x.2 < y.2))

/-- The winner of a line and its index: the first NaN, else the best value of lowest index (R106). -/
def winner (isMax : Bool) (l : List Val) : Val × Nat :=
  match (List.range l.length).find? (fun i => decide (l[i]? = some Val.nan)) with
  | some i => (.nan, i)
  | none => (l.tail.foldl (fun (a : (Val × Nat) × Nat) v =>
      (if beats isMax v a.1.1 then (v, a.2) else a.1, a.2 + 1)) ((l.headD .zero, 0), 1)).1

/-- The better of two (value, index) partials: a NaN first, then the better value, then the lower index (R106,
R108). -/
def betterOf (isMax : Bool) (a b : Word × Word) : Word × Word :=
  let x := y32Val a.1
  let y := y32Val b.1
  if x = .nan ∨ y = .nan then
    (if x = .nan ∧ (y = .nan → a.2.toNat ≤ b.2.toNat) then a else b)
  else if beats isMax y x then b
  else if beats isMax x y then a
  else if a.2.toNat ≤ b.2.toNat then a else b

/-- Two lists of partials joined, values first and then indices. -/
def joinWinners (isMax : Bool) (a b : List Word) : List Word :=
  let n := a.length / 2
  let l := List.zipWith (betterOf isMax) ((a.take n).zip (a.drop n)) ((b.take n).zip (b.drop n))
  l.map (fun q => q.1) ++ l.map (fun q => q.2)

/-- Lines along an axis: columns for AXIS 0, rows for AXIS 1. -/
def linesOf {α : Type} [Inhabited α] (axis : Bool) (r c : Nat) (l : List α) : List (List α) :=
  if axis then rowsOf r c l else transpose c (rowsOf r c l)

/-! ### Normalisation of a row (R161, R162) -/

/-- μ, r and y of one row, and the non-finite values produced; `base` numbers the choices of the order in which the
shares of its two sums arrive. -/
def normRow (kind : Bool) (eps : Word) (base : Nat) (g b x : List Word) : Word × Word × List Word × Nat :=
  let c := x.length
  let m := if kind then (0, 0) else rowSumMade base x
  let mu := if kind then 0 else divNat m.1 c
  let d := eachMade subY32 x mu
  let q := mapMade (fun v => mulY32 v v) d.1
  let v := rowSumMade (base + rowShares) q.1
  let w := opMade addY32 (divNat v.1 c, v.2) (eps, 0)
  let r := mapMade fnRsqrt [w.1]
  let rr := r.1.headD 0
  let y1 := eachMade mulY32 d.1 rr
  let y2 := zipMade mulY32 y1.1 ((List.range c).map (fun j => g.getD j y32One))
  let y3 := zipMade addY32 y2.1 ((List.range c).map (fun j => b.getD j 0))
  (mu, rr, y3.1, m.2 + d.2 + q.2 + w.2 + r.2 + y1.2 + y2.2 + y3.2)

/-- x̂ of one row. -/
def hatRow (mu r : Word) (x : List Word) : List Word × Nat :=
  let d := eachMade subY32 x mu
  let h := eachMade mulY32 d.1 r
  (h.1, d.2 + h.2)

/-- dx of one row. -/
def normBack (kind : Bool) (r : Word) (base : Nat) (g xh dy : List Word) : List Word × Nat :=
  let c := xh.length
  let gg := zipMade mulY32 dy ((List.range c).map (fun j => g.getD j y32One))
  let a := rowSumMade base gg.1
  let p := zipMade mulY32 gg.1 xh
  let b := rowSumMade (base + rowShares) p.1
  let t := if kind then (gg.1, 0) else eachMade subY32 gg.1 (divNat a.1 c)
  let hb := eachMade mulY32 xh (divNat b.1 c)
  let f := zipMade subY32 t.1 hb.1
  let o := eachMade mulY32 f.1 r
  (o.1, gg.2 + (if kind then 0 else a.2) + p.2 + b.2 + t.2 + hb.2 + f.2 + o.2)

/-! ### Soft maximum of a row (R165 to R168) -/

/-- Every word is −∞. -/
def allMinusInf (l : List Word) : Bool := l.all (fun v => decide (v = y32Inf true))

/-- Statistics entries that take part: those whose maximum is not −∞ (R166). -/
def liveStats (l : List (Word × Word)) : List (Word × Word) :=
  l.filter (fun e => decide (e.1 ≠ y32Inf true))

/-- The row of outputs, and how many non-finite values it counts, read and produced (R147, R167); `stat` holds the
row's entries of H_STAT where USE_STAT is set. -/
def softRow (scale : Word) (maskedZero : Bool) (stat : Option (List (Word × Word))) (x : List Word) :
    List Word × Nat :=
  let sx := mapMade (mulY32 scale) x
  let live := liveStats (stat.getD [])
  let nan := sx.1.any isNaN || live.any (fun e => isNaN e.1 || isNaN e.2)
  let masked := allMinusInf sx.1 || (stat.isSome && live.isEmpty)
  let reads := countNonFinite x + (live.map (fun e => b2n (nonFinite e.1) + b2n (nonFinite e.2))).foldl
    (· + ·) 0
  if nan then (x.map (fun _ => y32NaN), reads + sx.2)
  else if masked then
    if maskedZero then (x.map (fun _ => 0), 0) else (x.map (fun _ => y32NaN), reads + sx.2 + x.length)
  else
    let m := if stat.isSome then (live.map (fun e => e.1)).foldl maxY32 (y32Inf true)
      else sx.1.foldl maxY32 (y32Inf true)
    let made (a z : Word) : Bool := nonFinite z && !nonFinite a && !nonFinite m
    let ex := x.map (fun v => expScaled scale v m)
    let n := howMany (fun q => made q.1 q.2) (sx.1.zip ex)
    let tot := if stat.isSome then
        let es := live.map (fun e => (e, expDiff e.1 m))
        let pr := zipMade mulY32 (es.map (fun q => q.1.2)) (es.map (fun q => q.2))
        let t := stackSum (opMade addY32) (0, 0) (pr.1.map (fun z => (z, 0)))
        (t.1, howMany (fun q => made q.1.1 q.2) es + pr.2 + t.2)
      else veSumMade ex
    let k := mapMade fnRecip [tot.1]
    let out := eachMade mulY32 ex (k.1.headD 0)
    (out.1, reads + sx.2 + n + tot.2 + k.2 + out.2)

/-- dx of one row, and the non-finite values produced. -/
def softBack (scale : Word) (y dy : List Word) : List Word × Nat :=
  let p := zipMade mulY32 dy y
  let s := veSumMade p.1
  let a := mapMade (mulY32 scale) y
  let b := eachMade subY32 dy s.1
  let o := zipMade mulY32 a.1 b.1
  (o.1, p.2 + s.2 + a.2 + b.2 + o.2)

end Sys2Proof.Machine
end

