-- ==== Sys2Proof/Machine/Vector.lean ====
section
/-! DEFINITION. Meanings of the vector-engine descriptors: ELEMENTWISE, REDUCE, NORM_FWD, NORM_BWD,
SOFTMAX_FWD, SOFTMAX_BWD, the partials they combine, reseeding and the reduction path (R104 to R108,
R146 to R175). -/

namespace Sys2Proof.Machine

/-- The vector engine on which the model counts a descriptor's work: the first in service. -/
def State.firstVe (s : State) (p : Nat) : Nat := (s.vesOf p).headD 0

/-- A whole output written by a descriptor, its record refreshed with the step (R65, R66, R151); stochastic only into a
narrow format (R72), with the draws of the engine that writes it.  The count is of the values that the conversion made
infinite (R147).  A write is full when it names every element, not only every block: DEDUCED, unsafe: log 193. -/
def State.putAll (s : State) (p r : Nat) (e : Entry) (h : Nat) (l : List Word) : Except Fail (State × Nat) := do
  let t := s.tensorOf p h
  let v := s.firstVe p
  let random := e.stochastic && isNarrow t.fmt
  let s1 := if random then s.drawVe v t.count else s
  let full := decide (t.count ≤ l.length)
  let (s2, w) ← (if full then s1.rebase p h else s1).store p r h
    { draws := if random then some (s.gens v) else none } (fun i => (l[i]?).map y32Val)
  pure (if isNarrow t.fmt then s2.markRecord p e.member h else s2, if overflowsToInf t.fmt then w.sat else 0)

/-- Raw words of a fixed-size output from its first element (R520). -/
def State.putWords (s : State) (p r h : Nat) (l : List Word) : Except Fail State :=
  s.storeWords p r (s.tensorOf p h) ((List.range l.length).zip l)

/-- What a vector descriptor read, its work and its non-finite values counted, it finishes with OK. -/
def State.veDone (s : State) (p r i : Nat) (e : Entry) (reads : List (Nat × Nat)) (lanes steps nf : Nat) : State :=
  ((((s.countStored p reads).stageAll p r (s.firstVe p / 4) e).veWork p r (s.firstVe p) lanes steps).countNf p
    e.member nf).finish r i 0x00 0

/-! ### ELEMENTWISE -/

/-- The inputs that OP names: (handle offset, handle, elements). -/
def elemUses (e : Entry) : List (Nat × Nat × Nat) :=
  let rows := e.u32 16
  let cols := e.fld 20 23 0
  let k := elemInputs (e.fld 30 5 0)
  let n := bcastLen (e.fld 23 5 4) rows cols
  named [(k.1, (8, e.u16 8, rows * cols)), (k.2.1, (10, e.u16 10, n)), (k.2.2, (12, e.u16 12, n))]
where
  /-- Those under flags that hold. -/
  named (l : List (Bool × Nat × Nat × Nat)) : List (Nat × Nat × Nat) :=
    (l.filter (fun q => q.1)).map (fun q => q.2)

/-- The field checks of an ELEMENTWISE. -/
def elemFields (e : Entry) : List (Nat × Bool) :=
  let op := e.fld 30 5 0
  [e.reserved [(189, 64), (245, 192)], (30, !elemOp op), (23, decide (e.fld 23 3 0 = 0 ∨ e.fld 23 3 0 = 0xF)),
    (28, decide (op = 0x20 ∧ e.u16 28 = 0))]

/-- Its handle checks. -/
def State.elemHandles (s : State) (p : Nat) (e : Entry) : List (Nat × Bool) :=
  let rows := e.u32 16
  let cols := e.fld 20 23 0
  let fmt := e.fld 23 3 0
  (14, s.badOutput p (e.u16 14) (fun t => decide (t.fmt = fmt) && t.shapeIs (some rows) (some cols)))
    :: (elemUses e).flatMap (fun u =>
      [(u.1, s.badHandle p u.2.1 (fun t => if u.1 = 8 ∨ e.fld 23 5 4 = 0 then t.shapeIs (some rows) (some cols)
          else decide (u.2.2 ≤ t.count))),
       (u.1, decide (u.2.1 = e.u16 14)
          && (isNarrow (s.tensorOf p u.2.1).fmt || decide ((s.tensorOf p u.2.1).fmt ≠ fmt)))])

/-- ELEMENTWISE, R148 to R152. -/
def elementwise (s : State) (p : Nat) (e : Entry) (r i : Nat) : Except Fail State := do
  let rows := e.u32 16
  let cols := e.fld 20 23 0
  let bc := e.fld 23 5 4
  let op := e.fld 30 5 0
  let empty := decide (rows = 0 ∨ cols = 0)
  checkAll empty (elemFields e) (s.elemHandles p e)
  if empty then pure (s.finish r i 0x01 0)
  else
    let uses := elemUses e
    s.checkVe p
    let load (off : Nat) : Except Fail (List Word) :=
      match uses.find? (fun u => decide (u.1 = off)) with
      | some u => s.loadFirst p (s.tensorOf p u.2.1) u.2.2
      | none => pure []
    let xs ← load 8
    let ys ← load 10
    let ws ← load 12
    let imm := BitVec.ofNat 32 (e.u32 24)
    let n := rows * cols
    let gens := s.gens (s.firstVe p)
    let one (k : Nat) : Word × Bool :=
      let x := xs.getD k 0
      let y := ys.getD (bcastIdx bc cols k) 0
      let w := ws.getD (bcastIdx bc cols k) 0
      let z := elementZ op x y w imm (laneDraw gens k).toNat (e.u16 28)
      (z, nonFinite z && !(nonFinite x || nonFinite y || nonFinite w || (decide (op = 0x09 ∨ op = 0x20)
        && nonFinite imm)))
    let zs := (List.range n).map one
    let nf := countNonFinite xs + countNonFinite ys + countNonFinite ws + howMany (fun z => z.2) zs
    let (s1, m) ← (if op = 0x20 then s.drawVe (s.firstVe p) n else s).putAll p r e (e.u16 14)
      (zs.map (fun z => z.1))
    pure (s1.veDone p r i e (uses.map (fun u => u.2)) (elemCost op * n) (elemCost op * ceilDiv n 512) (nf + m))

/-- ELEMENTWISE. -/
def execElementwise (ring : Fin 1024) (idx : Nat) (s : State) : Host.Outcome State Fault Refusal :=
  s.issue ring idx opELEMENTWISE (fun s p e => elementwise s p e ring idx)

/-! ### REDUCE -/

/-- OP of a REDUCE. -/
def Entry.rOp (e : Entry) : Nat := e.fld 23 6 5
/-- MAX or MIN. -/
def Entry.rWins (e : Entry) : Bool := decide (e.rOp = 1 ∨ e.rOp = 2)
/-- ENGINE. -/
def Entry.rVe (e : Entry) : Bool := e.flag 23 7
/-- AXIS. -/
def Entry.rAxis (e : Entry) : Bool := e.flag 23 4

/-- One line of a REDUCE: its value, its index, and the non-finite values produced.  A winner keeps its own value,
subnormal or not (R106): DEDUCED, unsafe: log 186. -/
def reduceLine (e : Entry) (den : Nat) (l : List Val) : Word × Nat × Nat :=
  let toY32 (v : Val) : Word := match v with
    | .fin n m => y32Round n m den
    | w => valY32 w
  if l.isEmpty then
    (if e.rOp = 1 then y32Inf true else if e.rOp = 2 then y32Inf false else 0, 0xFFFFFFFF, 0)
  else if e.rWins then
    let w := winner (decide (e.rOp = 1)) l
    (toY32 w.1, w.2, b2n (w.1.finite && nonFinite (toY32 w.1)))
  else if e.rVe then
    let x := if e.rOp = 3 then mapMade (fun v => mulY32 v v) (l.map toY32) else (l.map toY32, 0)
    let z := veSumMade x.1
    (z.1, 0, x.2 + z.2)
  else
    let z := stackSum (opMade addFlush) (0, 0) ((chunks16 l).map (fun g =>
      let z := groupSum den 1 g (g.map (fun _ => Val.fin false 1))
      (z, b2n (nonFinite z && g.all Val.finite))))
    (z.1, 0, z.2)

/-- The field checks of a REDUCE.  FMT_Y is not read where a MAX or MIN wins (Table 4.5), and no value of it is an error
there: DEDUCED, unsafe: log 191. -/
def reduceFields (e : Entry) : List (Nat × Bool) :=
  [e.reserved [(111, 64), (191, 128)], (23, decide (e.rOp = 3) && !e.rVe),
    (23, !e.rWins && decide (e.fld 23 3 0 = 0 ∨ e.fld 23 3 0 = 0xF))]

/-- Its lines: their number and their length. -/
def reduceShape (e : Entry) : Nat × Nat :=
  if e.rAxis then (e.u32 16, e.fld 20 23 0) else (e.fld 20 23 0, e.u32 16)

/-- Its handle checks. -/
def State.reduceHandles (s : State) (p : Nat) (e : Entry) : List (Nat × Bool) :=
  let outs := (reduceShape e).1
  [(8, s.badHandle p (e.u16 8) (fun t =>
      t.shapeIs (some (e.u32 16)) (some (e.fld 20 23 0)) && (e.rVe || arrayFmt t.fmt))),
    (10, s.badOutput p (e.u16 10) (fun t =>
      decide (t.fmt = (if e.rWins then 0xE else e.fld 23 3 0)) && decide (outs ≤ t.count))),
    (12, e.rWins && s.badHandle p (e.u16 12) (fun t => decide (t.fmt = 0xE ∧ outs ≤ t.count)))]

/-- The lengths of the groups of 16 of lines whose elements all come from zero blocks (R84). -/
def zeroLines (l : List (List Bool)) : List Nat :=
  ((l.flatMap chunks16).filter (fun g => g.all id && !g.isEmpty)).map List.length

/-- An array sums or compares `outs` lines of `len` elements: its passes, its row-steps, its groups that do
not switch (lengths `z`), its energy, the bytes it stages (R84, R97, R104, R115). -/
def State.arrayWork (s : State) (p r i a fmt outs len : Nat) (z : List Nat) (e : Entry) : State :=
  let passes := ceilDiv outs 256 * ceilDiv len (kPass fmt fmt)
  let s1 := (s.countSteps a r i (outs * rowSteps fmt fmt * ceilDiv len (kPass fmt fmt))).countWrap
    (CNT_MA_ZERO_GROUPS.COUNT (a / 3) (a % 3)) z.length
  ((s1.perf (a / 3) 1 passes).charge p r (a / 3) (macEnergy1 fmt * (len * outs - z.foldl (· + ·) 0))).stageAll
    p r (a / 3) e

/-- The results of a REDUCE are written: values, and indices where an element wins; the count is of the values that the
conversion made infinite. -/
def State.putReduced (s : State) (p r : Nat) (e : Entry) (vals idx : List Word) : Except Fail (State × Nat) := do
  let (s1, m) ← s.putAll p r e (e.u16 10) vals
  let s2 ← if e.rWins then s1.putWords p r (e.u16 12) idx else pure s1
  pure (s2, m)

/-- The partials of a REDUCE that arrays split along its axis, one per share of at most 2²⁰ positions: the values of
every line, and for a winner then their indices along the whole axis (R103, R108). -/
def reduceShares (e : Entry) (den len : Nat) (lines : List (List Val)) : List (List Word × Nat) :=
  (List.range (ceilDiv len kMax)).map (fun j =>
    let l := lines.map (fun x => reduceLine e den ((x.drop (kMax * j)).take kMax))
    (l.map (fun z => z.1) ++ (if e.rWins then l.map (fun z => BitVec.ofNat 32 (z.2.1 + kMax * j)) else []),
     (l.map (fun z => z.2.2)).foldl (· + ·) 0))

/-- REDUCE, R104 to R108, R155, R156, R158.  An array REDUCE along an axis that one array covers is whole; a longer one
goes out as partials.  A narrow X keeps its exact stored values on both axes: DEDUCED, unsafe: log 187. -/
def reduce (s : State) (p : Nat) (e : Entry) (r i : Nat) : Except Fail State := do
  let rows := e.u32 16
  let cols := e.fld 20 23 0
  let outs := (reduceShape e).1
  let len := (reduceShape e).2
  checkAll (decide (outs = 0)) (reduceFields e) (s.reduceHandles p e)
  if outs = 0 then pure (s.finish r i 0x01 0)
  else
    let split := !e.rVe && decide (kMax < len)
    if e.rVe || split then s.checkVe p
    let t := s.tensorOf p (e.u16 8)
    let o ← (if len = 0 ∨ e.rVe = true then pure (({}, {}) : Opnd × OpCount) else do
      let o ← s.operand p t false 0 rows 0 cols none none
      pure o)
    let vals ← (if len = 0 then pure [] else if e.rVe then do
        let l ← s.loadFirst p t (rows * cols)
        pure (l.map y32Val)
      else pure o.1.rows.flatten)
    let den := if e.rVe then 2 ^ 149 else o.1.den
    let lines := if len = 0 then List.replicate outs [] else linesOf e.rAxis rows cols vals
    let reads := howMany (fun v => !v.finite) vals
    let z := zeroLines (linesOf e.rAxis rows cols
      (o.1.zero.flatMap (fun r => (r.flatMap (fun b => List.replicate 32 b)).take cols)))
    let a := (s.arraysOf p).headD 0
    if split then
      let sh := reduceShares e den len lines
      let job : VecJob := { ring := r, idx := i, shares := (List.range sh.length).zip (sh.map (fun q => q.1)),
                            total := sh.length }
      let s1 := (s.countWrap (CNT_STORED_SAT.COUNT p) o.2.ssat).arrayWork p r i a t.fmt outs len z e
      pure ((State.countNf { s1 with vecJobs := s1.vecJobs ++ [job] } p e.member
        (reads + (sh.map (fun q => q.2)).foldl (· + ·) 0)))
    else
      let res := lines.map (reduceLine e den)
      let (s1, m) ← s.putReduced p r e (res.map (fun z => z.1)) (res.map (fun z => BitVec.ofNat 32 z.2.1))
      let nf := reads + (res.map (fun z => z.2.2)).foldl (· + ·) 0 + m
      if e.rVe then
        pure (s1.veDone p r i e [(e.u16 8, rows * cols)] (10 * (len * outs)) (10 * ceilDiv (len * outs) 512) nf)
      else
        pure (((((s1.countWrap (CNT_STORED_SAT.COUNT p) o.2.ssat).arrayWork p r i a t.fmt outs len z e).countNf p
          e.member nf).finish r i 0x00 0))

/-- REDUCE.  On arrays it issues only when the plot has an array in service (R93). -/
def execReduce (ring : Fin 1024) (idx : Nat) (s : State) : Host.Outcome State Fault Refusal :=
  match s.mayIssue ring idx opREDUCE with
  | none => .next s
  | some e =>
    if ¬ e.rVe = true ∧ (s.arraysOf (s.ringPlot ring)) = [] then .next s
    else s.issue ring idx opREDUCE (fun s p e => reduce s p e ring idx)

/-! ### Normalisation -/

/-- COLS of NORM_FWD and NORM_BWD. -/
def Entry.nCols (e : Entry) : Nat := e.fld 28 23 0
/-- HAS_GAMMA. -/
def Entry.nGamma (e : Entry) : Bool := e.flag 31 5
/-- HAS_BETA. -/
def Entry.nBeta (e : Entry) : Bool := e.flag 31 6
/-- EPS. -/
def Entry.nEps (e : Entry) : Word := BitVec.ofNat 32 (e.u32 32)

/-- The field checks that NORM_FWD and NORM_BWD share (R160). -/
def normFields (e : Entry) : List (Nat × Bool) :=
  [e.reserved [(287, 64)], (31, decide (e.fld 31 3 0 = 0 ∨ e.fld 31 3 0 = 0xF)),
   (32, nonFinite e.nEps || (decide (0x80000000 ≤ e.nEps.toNat) && !isZero e.nEps))]

/-- A Y32 tensor with room for `n` elements. -/
def State.badY32 (s : State) (p h n : Nat) : Bool :=
  s.badHandle p h (fun t => decide (t.fmt = 0xE ∧ n ≤ t.count))

/-- The handle checks of NORM_FWD. -/
def State.fwdHandles (s : State) (p : Nat) (e : Entry) : List (Nat × Bool) :=
  let rows := e.u32 24
  let cols := e.nCols
  [(8, s.badHandle p (e.u16 8) (fun t => t.shapeIs (some rows) (some cols))),
    (10, s.badOutput p (e.u16 10) (fun t => decide (t.fmt = e.fld 31 3 0) && t.shapeIs (some rows) (some cols))),
    (12, s.badY32 p (e.u16 12) (2 * rows)), (14, e.nGamma && s.badY32 p (e.u16 14) cols),
    (16, e.nBeta && s.badY32 p (e.u16 16) cols)]

/-- NORM_FWD, R160, R161. -/
def normFwd (s : State) (p : Nat) (e : Entry) (r i : Nat) : Except Fail State := do
  let rows := e.u32 24
  let cols := e.nCols
  let empty := decide (rows = 0 ∨ cols = 0)
  checkAll empty (normFields e) (s.fwdHandles p e)
  if empty then pure (s.finish r i 0x01 0)
  else
    s.checkVe p
    let x ← s.loadFirst p (s.tensorOf p (e.u16 8)) (rows * cols)
    let g ← if e.nGamma then s.loadFirst p (s.tensorOf p (e.u16 14)) cols else pure []
    let b ← if e.nBeta then s.loadFirst p (s.tensorOf p (e.u16 16)) cols else pure []
    let out := (List.range rows).map (fun k =>
      normRow (e.flag 31 4) e.nEps (s.draws + 2 * rowShares * k) g b ((x.drop (k * cols)).take cols))
    let nf := countNonFinite x + countNonFinite g + countNonFinite b
      + (out.map (fun o => o.2.2.2)).foldl (· + ·) 0
    let (s1, m) ← (s.drawMore (if 2 ^ 20 < cols then 2 * rowShares * rows else 0)).putAll p r e (e.u16 10)
      (out.flatMap (fun o => o.2.2.1))
    let s2 ← s1.putWords p r (e.u16 12) (out.flatMap (fun o => [o.1, o.2.1]))
    pure (s2.veDone p r i e [(e.u16 8, rows * cols)] (24 * (rows * cols)) (24 * ceilDiv (rows * cols) 512) (nf + m))

/-- NORM_FWD. -/
def execNormFwd (ring : Fin 1024) (idx : Nat) (s : State) : Host.Outcome State Fault Refusal :=
  s.issue ring idx opNORMFWD (fun s p e => normFwd s p e ring idx)

/-- Column sums of rows, one row after the other through the stack of R100, and the non-finite values produced. -/
def columnSums (rows : List (List Word)) : List Word × Nat :=
  stackSum (addTile addY32) ([], 0) (rows.map (fun r => (r, 0)))

/-- The split column sums of NORM_BWD are written: added to the earlier values under ACCUM with one
rounding (R162). -/
def State.writeColumns (s : State) (p r i : Nat) (e : Entry) (sums : List Word) : Except Fail State := do
  let cols := e.nCols
  let put (s : State) (h : Nat) (l : List Word) : Except Fail (State × Nat) := do
    let old ← if e.flag 31 7 then s.loadFirst p (s.tensorOf p h) cols else pure []
    let new := if e.flag 31 7 then zipMade addY32 old l else (l, 0)
    let s1 ← s.putWords p r h new.1
    pure (s1, countNonFinite old + new.2)
  let (s1, n1) ← if e.nGamma then put s (e.u16 20) (sums.take cols) else pure (s, 0)
  let (s2, n2) ← if e.nBeta then put s1 (e.u16 22) (sums.drop cols) else pure (s1, 0)
  pure ((s2.countNf p e.member (n1 + n2)).finish r i 0x00 0)

/-- The handle checks of NORM_BWD. -/
def State.bwdHandles (s : State) (p : Nat) (e : Entry) : List (Nat × Bool) :=
  let rows := e.u32 24
  let cols := e.nCols
  [(8, s.badHandle p (e.u16 8) (fun t => t.shapeIs (some rows) (some cols))),
    (10, s.badHandle p (e.u16 10) (fun t => t.shapeIs (some rows) (some cols))),
    (12, s.badY32 p (e.u16 12) (2 * rows)), (14, e.nGamma && s.badY32 p (e.u16 14) cols),
    (18, s.badOutput p (e.u16 18) (fun t => decide (t.fmt = e.fld 31 3 0) && t.shapeIs (some rows) (some cols))),
    (20, e.nGamma && s.badY32 p (e.u16 20) cols), (22, e.nBeta && s.badY32 p (e.u16 22) cols)]

/-- NORM_BWD, R160, R162. -/
def normBwd (s : State) (p : Nat) (e : Entry) (r i : Nat) : Except Fail State := do
  let rows := e.u32 24
  let cols := e.nCols
  let empty := decide (rows = 0 ∨ cols = 0)
  checkAll empty (normFields e) (s.bwdHandles p e)
  if empty then pure (s.finish r i 0x01 0)
  else
    s.checkVe p
    let x ← s.loadFirst p (s.tensorOf p (e.u16 8)) (rows * cols)
    let dy ← s.loadFirst p (s.tensorOf p (e.u16 10)) (rows * cols)
    let sv ← s.loadFirst p (s.tensorOf p (e.u16 12)) (2 * rows)
    let g ← if e.nGamma then s.loadFirst p (s.tensorOf p (e.u16 14)) cols else pure []
    let reads := countNonFinite x + countNonFinite dy + countNonFinite sv + countNonFinite g
    let hats := (List.range rows).map (fun k =>
      hatRow (sv.getD (2 * k) 0) (sv.getD (2 * k + 1) 0) ((x.drop (k * cols)).take cols))
    let dys := rowsOf rows cols dy
    let dx := (List.range rows).map (fun k =>
      normBack (e.flag 31 4) (sv.getD (2 * k + 1) 0) (s.draws + 2 * rowShares * k) g (hats.getD k ([], 0)).1
        (dys.getD k []))
    let (s1, m) ← (s.drawMore (if 2 ^ 20 < cols then 2 * rowShares * rows else 0)).putAll p r e (e.u16 18)
      (dx.flatMap (fun d => d.1))
    let prods := (List.range rows).map (fun k => zipMade mulY32 (dys.getD k []) (hats.getD k ([], 0)).1)
    let both := (List.range rows).map (fun k => (prods.getD k ([], 0)).1 ++ dys.getD k [])
    let n := max 1 (s.vesOf p).length
    let shares := (piecesBy (ceilDiv rows n) both).map columnSums
    let sums := e.nGamma || e.nBeta
    let made := (hats.map (fun h => h.2)).foldl (· + ·) 0 + (dx.map (fun d => d.2)).foldl (· + ·) 0
      + (if e.nGamma then (prods.map (fun q => q.2)).foldl (· + ·) 0 else 0)
      + (if sums then (shares.map (fun q => q.2)).foldl (· + ·) 0 else 0)
    let s2 := (((s1.countStored p [(e.u16 8, rows * cols), (e.u16 10, rows * cols)]).stageAll p r (s1.firstVe p / 4)
      e).veWork p r (s1.firstVe p) (32 * (rows * cols)) (32 * ceilDiv (rows * cols) 512)).countNf p e.member
        (reads + made + m)
    if shares.length ≤ 1 ∨ sums = false then
      s2.writeColumns p r i e (shares.headD ([], 0)).1
    else
      let job : VecJob := { ring := r, idx := i, shares := (List.range shares.length).zip (shares.map (fun q => q.1)),
                            total := shares.length }
      pure { s2 with vecJobs := s2.vecJobs ++ [job] }

/-- NORM_BWD. -/
def execNormBwd (ring : Fin 1024) (idx : Nat) (s : State) : Host.Outcome State Fault Refusal :=
  s.issue ring idx opNORMBWD (fun s p e => normBwd s p e ring idx)

/-! ### Soft maximum -/

/-- SCALE of SOFTMAX_FWD and SOFTMAX_BWD. -/
def Entry.sScale (e : Entry) : Word := BitVec.ofNat 32 (e.u32 24)

/-- The field checks that SOFTMAX_FWD and SOFTMAX_BWD share (R164). -/
def softFields (e : Entry) : List (Nat × Bool) :=
  [e.reserved [(111, 64), (189, 128), (223, 192)],
   (23, decide (e.fld 23 3 0 = 0 ∨ e.fld 23 3 0 = 0xF)), (24, nonFinite e.sScale)]

/-- The handle checks of SOFTMAX_FWD, and with `fwd` false of SOFTMAX_BWD. -/
def State.softHandles (s : State) (p : Nat) (e : Entry) (fwd : Bool) : List (Nat × Bool) :=
  let rows := e.u32 16
  let cols := e.fld 20 23 0
  [(8, s.badHandle p (e.u16 8) (fun t => t.shapeIs (some rows) (some cols))),
    (10, if fwd then e.flag 23 4 && s.badY32 p (e.u16 10) (2 * rows * ceilDiv cols 256)
      else s.badHandle p (e.u16 10) (fun t => t.shapeIs (some rows) (some cols))),
    (12, s.badOutput p (e.u16 12) (fun t => decide (t.fmt = e.fld 23 3 0) && t.shapeIs (some rows) (some cols)))]

/-- SOFTMAX_FWD, R164 to R167. -/
def softmaxFwd (s : State) (p : Nat) (e : Entry) (r i : Nat) : Except Fail State := do
  let rows := e.u32 16
  let cols := e.fld 20 23 0
  let nt := ceilDiv cols 256
  let empty := decide (rows = 0 ∨ cols = 0)
  checkAll empty (softFields e) (s.softHandles p e true)
  if empty then pure (s.finish r i 0x01 0)
  else
    s.checkVe p
    let x ← s.loadFirst p (s.tensorOf p (e.u16 8)) (rows * cols)
    let st ← if e.flag 23 4 then s.loadFirst p (s.tensorOf p (e.u16 10)) (2 * rows * nt) else pure []
    let out := (List.range rows).map (fun k =>
      softRow e.sScale (e.flag 23 5)
        (if e.flag 23 4 then some ((List.range nt).map (fun t =>
            (st.getD (2 * (k * nt + t)) 0, st.getD (2 * (k * nt + t) + 1) 0))) else none)
        ((x.drop (k * cols)).take cols))
    let (s1, m) ← s.putAll p r e (e.u16 12) (out.flatMap (fun o => o.1))
    pure (s1.veDone p r i e [(e.u16 8, rows * cols)] (22 * (rows * cols)) (22 * ceilDiv (rows * cols) 512)
      ((out.map (fun o => o.2)).foldl (· + ·) 0 + m))

/-- SOFTMAX_FWD. -/
def execSoftmaxFwd (ring : Fin 1024) (idx : Nat) (s : State) : Host.Outcome State Fault Refusal :=
  s.issue ring idx opSOFTMAXFWD (fun s p e => softmaxFwd s p e ring idx)

/-- SOFTMAX_BWD, R164, R168. -/
def softmaxBwd (s : State) (p : Nat) (e : Entry) (r i : Nat) : Except Fail State := do
  let rows := e.u32 16
  let cols := e.fld 20 23 0
  let empty := decide (rows = 0 ∨ cols = 0)
  checkAll empty (softFields e) (s.softHandles p e false)
  if empty then pure (s.finish r i 0x01 0)
  else
    s.checkVe p
    let y ← s.loadFirst p (s.tensorOf p (e.u16 8)) (rows * cols)
    let dy ← s.loadFirst p (s.tensorOf p (e.u16 10)) (rows * cols)
    let out := (List.range rows).map (fun k =>
      let a := (y.drop (k * cols)).take cols
      let b := (dy.drop (k * cols)).take cols
      let z := softBack e.sScale a b
      (z.1, countNonFinite a + countNonFinite b + z.2))
    let (s1, m) ← s.putAll p r e (e.u16 12) (out.flatMap (fun o => o.1))
    pure (s1.veDone p r i e [(e.u16 8, rows * cols), (e.u16 10, rows * cols)] (12 * (rows * cols))
      (12 * ceilDiv (rows * cols) 512) ((out.map (fun o => o.2)).foldl (· + ·) 0 + m))

/-- SOFTMAX_BWD. -/
def execSoftmaxBwd (ring : Fin 1024) (idx : Nat) (s : State) : Host.Outcome State Fault Refusal :=
  s.issue ring idx opSOFTMAXBWD (fun s p e => softmaxBwd s p e ring idx)

/-! ### Partials -/

/-- The vector job of a descriptor. -/
def State.vecJob (s : State) (r i : Nat) : Option VecJob :=
  s.vecJobs.find? (fun j => decide (j.ring = r ∧ j.idx = i))

/-- The combined partials of a split REDUCE are written (R103, R108, R157, R158). -/
def State.endReduce (s : State) (p r i : Nat) (e : Entry) (y : List Word) : Except Fail State := do
  let n := (reduceShape e).1
  let (s1, m) ← s.putReduced p r e (y.take n) (y.drop n)
  pure ((s1.countNf p e.member m).finish r i 0x00 0)

/-- A partial of split column sums or of a split REDUCE joins what has arrived; with the last one the results are
written. -/
def State.vecPartial (s : State) (p r i n : Nat) (e : Entry) (j : VecJob) : Except Fail State := do
  match j.shares[n]? with
  | none => pure s
  | some (_, y) =>
    let rest := j.shares.eraseIdx n
    let wins := decide (e.opcode = opREDUCE) && e.rWins
    let st := if wins then
        [(0, match j.stack with
          | [] => y
          | q :: _ => joinWinners (decide (e.rOp = 1)) q.2.1 y, 0)]
      else stackPush (addTile addY32) j.stack 0 (y, 0)
    let others := s.vecJobs.filter (fun k => decide (k.ring ≠ r ∨ k.idx ≠ i))
    if rest.isEmpty then
      let s1 := State.veWork { s with vecJobs := others } p r (s.firstVe p) (j.total * y.length)
        (j.total * ceilDiv y.length 512)
      let z := stackFold (addTile addY32) ([], 0) st
      let s2 := s1.countNf p e.member z.2
      if e.opcode = opREDUCE then s2.endReduce p r i e z.1 else s2.writeColumns p r i e z.1
    else pure { s with vecJobs := others ++ [{ j with shares := rest, stack := st }] }

/-- PARTIAL_ARRIVE, R157: partial number `n` of those under way arrives, in whatever order; it waits while the combining
die is in a brown-out or the memory of the results stalls (R36, R21). -/
def execPartialArrive (ring : Fin 1024) (idx n : Nat) (s : State) : Host.Outcome State Fault Refusal :=
  let p := s.ringPlot ring
  match s.entry ring idx with
  | none => .next s
  | some e =>
    if s.brownedOut (s.firstVe p / 4) ∨ s.waitsForMemory p e = true then .next s
    else match s.job ring idx, s.vecJob ring idx with
    | some j, _ =>
      match s.matPartial p ring idx n e j with
      | .ok t => .next t
      | .error f => .next (s.failJob ring idx f)
    | none, some j =>
      match s.vecPartial p ring idx n e j with
      | .ok t => .next t
      | .error f =>
        .next (State.failDesc { s with vecJobs := s.vecJobs.filter (fun k =>
          decide (k.ring ≠ ring ∨ k.idx ≠ idx)) } ring idx p f)
    | none, none => .next s

/-! ### The random source and the reduction path -/

/-- RNG_RESEED, R171: an engine's generators have each given 2³² draws and are seeded again. -/
def execRngReseed (gd : Fin 16) (ve : Fin 4) (s : State) : Host.Outcome State Fault Refusal :=
  if s.groveUp gd = true ∧ 2 ^ 32 ≤ (s.engine gd (3 + ve)).drawn then .next (s.seedVe (4 * gd + ve)) else .next s

/-- PATH_SWITCH, R172, R175: at an epoch boundary a port that is to change moves between its link
adder and the vector-engine path.  It waits while an epoch runs on a schedule that the port serves;
an epoch whose port lost its link adder has failed for the replay on the other path. -/
def execPathSwitch (port : Fin 24) (s : State) : Host.Outcome State Fault Refusal :=
  let k := port.val
  match s.fabric.pathWant.find? (fun w => decide (w.1 = k)) with
  | none => .next s
  | some w =>
    let busy := s.fabric.scheds.any (fun e => match e.2.job with
      | some j => decide (j.op = opEXCHANGE) && j.failed.isNone
          && e.2.nodes.any (fun n => decide (k ∈ s.routeOf n))
      | none => false)
    if busy then .next s
    else .next (State.refreshPath { s with fabric := { s.fabric with
      pathWant := s.fabric.pathWant.filter (fun x => decide (x.1 ≠ k))
      pathVe := if w.2 then addAsc k s.fabric.pathVe else without k s.fabric.pathVe } })

end Sys2Proof.Machine
end

