-- ==== Sys2Proof/Machine/CopyOps.lean ====
section
/-! DEFINITION. Shared operations of COPY (R350, R351, R360, R361): tensor records as bytes, ranges of the
glade, what a source delivers and how a destination takes it, the flip of a slab, and the ends of
host reads (R336, R337). -/

namespace Sys2Proof.Machine

/-! ### Tensor records as bytes (Table 13.3, Table 3.6) -/

/-- The 64 bytes of a record; bit 9 of RUNG_MASK reads as 1 (Table 5.2). -/
def Tensor.toBytes (t : Tensor) : List Byte :=
  leBytes 8 t.addr ++ leBytes 4 t.rows
  ++ leBytes 4 (t.cols + t.fmt * 2 ^ 24 + b2n t.valid * 2 ^ 28 + b2n t.scaled * 2 ^ 29)
  ++ leBytes 4 t.sEnc.toNat ++ leBytes 4 t.sNext.toNat ++ leBytes 4 t.amax.toNat
  ++ [t.floorD, t.gen, t.flags, 0] ++ leBytes 16 (t.width.toNat ||| 2 ^ 9) ++ leBytes 16 0

/-- The number in some bytes of a record. -/
def recField (b : List Byte) (at_ n : Nat) : Nat := leNat ((b.drop at_).take n)

/-- The record that 64 bytes give: the maintained fields start afresh (R351). -/
def tensorOfBytes (b : List Byte) : Tensor :=
  let shape := recField b 12 4
  let next := BitVec.ofNat 32 (recField b 20 4)
  { addr := recField b 0 8, rows := recField b 8 4, cols := shape % 2 ^ 24, fmt := bits shape 27 24
    valid := bit shape 28, scaled := bit shape 29, sEnc := next, sNext := next, amax := 0
    floorD := BitVec.ofNat 8 (recField b 28 1), gen := 0, flags := 0
    width := BitVec.ofNat 128 (recField b 32 16) }

/-- A record that makes the COPY fail (R351); the formats of Table 3.1 are 0x1 to 0xE. -/
def badRecordBytes (b : List Byte) : Bool :=
  let t := tensorOfBytes b
  decide (2 ^ 30 ≤ recField b 12 4) || decide (recField b 48 16 ≠ 0)
  || (t.valid && (!decide (1 ≤ t.fmt ∧ t.fmt ≤ 14) || (isNarrow t.fmt && !t.scaled) || decide (t.addr % 256 ≠ 0)))

/-! ### Ranges of the glade -/

/-- Bytes of the glade. -/
def gladeBytes : Nat := 64 * 2 ^ 30

/-- Every byte of a range lies in a DEVICE slab of plot `p` (Table 13.7). -/
def State.gladeOpen (s : State) (p a n : Nat) : Bool :=
  decide (a + n ≤ gladeBytes) && (blocksOf 4096 a n).all (fun g => s.deviceSlab p (4096 * g) 4096)

/-- Slabs, not FREE, that a range touches. -/
def State.slabsIn (s : State) (a n : Nat) : List Nat :=
  (s.slabs.filter (fun q => decide (q.2.owner ≠ ownFREE ∧ q.2.start < a + n ∧ a < q.2.start + q.2.bytes))).map
    (fun q => q.1)

/-- The slab of a peer transfer from `node`: one slab holds the range, its OWNER is PEER, it serves the
node and nothing has claimed it (R361). -/
def State.peerSlab (s : State) (node a n : Nat) : Option Nat :=
  match s.slabOf a n with
  | some (k, e) => if e.owner = ownPEER ∧ e.peerNode.toNat = node ∧ e.claimed = false then some k else none
  | none => none

/-! ### Fields of a COPY (Table 13.2) -/

/-- SRC_KIND. -/
def Entry.srcKind (e : Entry) : Nat := e.fld 30 2 0
/-- DST_KIND. -/
def Entry.dstKind (e : Entry) : Nat := e.fld 30 5 3
/-- LEN. -/
def Entry.copyLen (e : Entry) : Nat := e.u32 24
/-- NODE. -/
def Entry.copyNode (e : Entry) : Nat := e.fld 28 9 0
/-- FLIP. -/
def Entry.flipFlag (e : Entry) : Bool := e.flag 31 0
/-- NEW_OWNER as an owner code. -/
def Entry.newOwner (e : Entry) : Nat := e.fld 31 2 1

/-- The entry of a descriptor changed. -/
def State.modEntry (s : State) (r i : Nat) (f : Entry → Entry) : State :=
  s.modRing r (fun q => { q with entries := q.entries.map (fun e => if e.idx = i then f e else e) })

/-! ### Ends of host reads (R336, R337) -/

/-- A non-fatal or advisory PCI Express event: PCIE_NONFATAL, C2 where it names plots, else C0. -/
def State.pcieNonFatal (s : State) (plots : List Nat) (detail : Nat) : State :=
  State.latchSure { s with pcie := { s.pcie with nonFatal := s.pcie.nonFatal + 1 } } 24 5 plots 0 detail 0
    (some (if plots.isEmpty then 0 else 2))

/-- A TLP is taken as bad: poisoned, or with an ECRC that fails where ECRC Check Enable is set (R337). -/
def State.tlpBad (s : State) : Tlp → Bool
  | .good => false
  | .poisoned => true
  | .badEcrc => s.pcie.ecrcCheck

/-- A host read of descriptor `i` ends without data. -/
def State.readLost (s : State) (r i p : Nat) (timedOut : Bool) : State :=
  let s1 := if timedOut then s.countUp CNT_PCIE_ERR.CPL_TIMEOUT 1 else s
  (s1.finish r i 0x13 0).pcieNonFatal [p] r

/-! ### Where a COPY ends -/

/-- A slab access refused: counted, and SLAB_REFUSED (R358). -/
def State.refuseSlab (s : State) (r i : Nat) : State := (s.countRefused 1).finish r i 0x15 0

/-- A flip of a local slab is left to the retirement, after every effect that precedes it in its ring is
visible (R361, R368, R371). -/
def State.flipLater (s : State) (r i : Nat) (e : Entry) : State :=
  if e.flipFlag then
    match s.slabOf (e.u64 16) e.copyLen with
    | some (k, _) => s.modEntry r i (fun f => { f with flip := some (k, e.newOwner) })
    | none => s
  else s

/-- Bytes written to device ranges of plot `p`, moved and counted. -/
def State.putPieces (s : State) (p r : Nat) (l : List (Nat × Nat)) (b : List Byte) : Except Fail State :=
  match s.accessFail false l with
  | some f => .error f
  | none => .ok (State.moved { s with hbm := s.hbm.writePieces l b } p r false l)

/-- The source's bytes reach the destination (R360, R361): a tensor, the local glade, the host, a peer or
tensor records.  Raw bursts written over a narrow tensor leave S_ENC, GEN and AMAX of its record as they are
(R65): DEDUCED, unsafe: log 192. -/
def State.deliver (s : State) (p r i : Nat) (e : Entry) (b : List Byte) : Except Fail State := do
  let dst := e.u64 16
  if e.dstKind = 0 then
    let s1 ← s.writePlot p r (s.tensorOf p (dst % 65536)).addr b
    pure (s1.finish r i 0x00 0)
  else if e.dstKind = 1 then
    pure (s.askTag { kind := 5, plot := some p, ring := r, idx := i, func := s.rd (RING_CFG.FUNC r)
                     addr := dst, len := b.length, bytes := b })
  else if e.dstKind = 2 then
    if !s.gladeOpen p dst b.length then pure (s.refuseSlab r i)
    else
      let s1 ← s.putPieces p r (gladePieces dst b.length) b
      pure ((s1.flipLater r i e).finish r i 0x00 0)
  else if e.dstKind = 3 then
    if e.copyNode = s.node then
      match s.peerSlab s.node dst b.length with
      | none => pure (s.refuseSlab r i)
      | some _ =>
        let s1 ← s.putPieces p r (gladePieces dst b.length) b
        pure ((s1.flipLater r i e).finish r i 0x00 0)
    else
      let head := leBytes 32 (Config.transferHeader dst b.length
        (if e.flipFlag then 1 + e.newOwner else 0)).toNat
      pure (s.askTag { kind := 0, peer := some e.copyNode, plot := some p, ring := r, idx := i, typ := 3
                       addr := dst, len := b.length, bytes := head ++ b })
  else
    let n := b.length / 64
    let recs := (List.range n).map (fun k => (b.drop (64 * k)).take 64)
    if recs.any badRecordBytes then throw (descError 8)
    else
      let l := (List.range n).map (fun k => (dst % 65536 + k, tensorOfBytes (recs.getD k [])))
      pure ((s.modEntry r i (fun f => { f with records := l })).finish r i 0x00 0)

/-- Read requests for a host range, of at most Max Read Request Size bytes each and none across a 4 KiB boundary:
(offset, address, length) (R335). -/
def State.hostPieces (s : State) (a n : Nat) : List (Nat × Nat × Nat) :=
  (payloadsOf s.pcie.mrrs a n).map (fun c => (c.1 - a, c.1, c.2))

/-- Pieces put in order of their offsets. -/
def insOff (x : Nat × List Byte) : List (Nat × List Byte) → List (Nat × List Byte)
  | [] => [x]
  | y :: l => if x.1 ≤ y.1 then x :: y :: l else y :: insOff x l

/-- A piece of the source has come; the last one delivers the whole (R360). -/
def State.gather (s : State) (r i off : Nat) (b : List Byte) : State :=
  let s1 := s.modEntry r i (fun f => { f with buf := insOff (off, b) f.buf })
  match s1.entry r i with
  | none => s1
  | some e =>
    let p := s.ringPlot r
    if e.stage = 2 ∧ s1.idleEntry r i = true then
      let whole := e.buf.flatMap (fun q => q.2)
      let s2 := s1.modEntry r i (fun f => { f with buf := [] })
      let a := e.u64 8
      let c := e.u64 16
      let lap := decide (e.srcKind = 1 ∧ e.dstKind = 1 ∧ a < c + e.copyLen ∧ c < a + e.copyLen)
      let out := if lap then (List.range whole.length).map (fun k => Config.freeByte (s2.draws + k)) else whole
      let s3 := if lap then s2.drawMore whole.length else s2
      match s3.deliver p r i e out with
      | .ok t => t
      | .error f => s3.failDesc r i p f
    else s1

/-- Bytes of local sources: a stored tensor, DEVICE slabs of the plot, this device as its own peer, or
tensor records (Table 13.8). -/
def State.copySource (s : State) (p : Nat) (e : Entry) : Except Fail (List Byte) := do
  let a := e.u64 8
  let n := e.copyLen
  if e.srcKind = 0 then s.readPlot p (s.tensorOf p (a % 65536)).addr n
  else if e.srcKind = 4 then
    pure ((List.range (n / 64)).flatMap (fun k => (s.tensorOf p (a % 65536 + k)).toBytes))
  else
    let l := gladePieces a n
    match s.accessFail true l with
    | some f => throw f
    | none => pure (s.readPieces l)

/-! ### Copies between tensors -/

/-- Elements copied as stored, or converted where CVT is set or the format is narrow (R360). -/
def State.copyElems (s : State) (p r i : Nat) (e : Entry) : Except Fail State := do
  let n := e.copyLen
  let hs := e.u16 8
  let hd := e.u16 16
  let a := s.tensorOf p hs
  let d := s.tensorOf p hd
  if e.flag 30 6 ∨ isNarrow d.fmt = true then
    let l ← s.loadFirst p a n
    let (s1, m) ← s.putAll p r e hd l
    let nf := if isNarrow d.fmt then countNonFinite l else m
    pure (((s1.countStored p [(hs, n)]).countNf p e.member nf).finish r i 0x00 0)
  else
    let k := elemBytes d.fmt
    let b ← s.readPlot p a.addr (k * n)
    let s1 ← s.writePlot p r d.addr b
    if d.fmt = 0xD then
      let x ← s1.readPlot p (a.addr + a.residueOff) n
      let s2 ← s1.writePlot p r (d.addr + d.residueOff) x
      pure (s2.finish r i 0x00 0)
    else pure (s1.finish r i 0x00 0)

end Sys2Proof.Machine
end

