-- ==== Sys2Proof/Machine/Cores.lean ====
section
/-! DEFINITION. Meanings of loop kernels: CORE_CALL, LOAD and UNLOAD, the end of a routine, and the
streams of its access engine (R200, R201, R391 to R401). -/

namespace Sys2Proof.Machine

/-! ### FP64 (R393) -/

/-- The FP64 word of a value; an element of every format that streams read is exact in FP64. -/
def fp64Of : Val → BitVec 64
  | .nan => 0x7FF8000000000000
  | .inf n => BitVec.ofNat 64 ((if n then 2 ^ 63 else 0) + 0x7FF0000000000000)
  | .fin n m => BitVec.ofNat 64 ((if n then 2 ^ 63 else 0) + roundMag 53 1074 m (2 ^ 149))

/-- What an FP64 word holds: NaN, infinity, or a sign and a magnitude in units of 2⁻¹⁰⁷⁴. -/
def fp64Val (w : BitVec 64) : Val :=
  let n := w.toNat
  let m := n % 2 ^ 63
  let neg := decide (2 ^ 63 ≤ n)
  if m < 0x7FF0000000000000 then .fin neg (magOfBits 53 m)
  else if m = 0x7FF0000000000000 then .inf neg else .nan

/-- FP64 to Y32, to nearest even (R393). -/
def fp64ToY32 (w : BitVec 64) : Word :=
  match fp64Val w with
  | .fin neg m => y32Round neg m (2 ^ 1074)
  | v => valY32 v

/-- FP64 to Y16, to nearest even, rounded once (R393). -/
def fp64ToY16 (w : BitVec 64) : Nat :=
  match fp64Val w with
  | .fin neg m => (if neg then 0x8000 else 0) + min (roundMag 8 133 m (2 ^ 1074)) 0x7F80
  | v => valY16 v

/-! ### Cores of a plot (R395, R399) -/

/-- CORES. -/
def Entry.cCores (e : Entry) : Nat := e.fld 18 4 0
/-- INLINE. -/
def Entry.cInline (e : Entry) : Nat := e.u64 24

/-- Loop-kernel cores assigned to plot `p`. -/
def State.coresOf (s : State) (p : Nat) : List Nat :=
  ((List.range 28).map (· + 4)).filter (s.leasesCore p)

/-- Those of them that run nothing, lowest-numbered first. -/
def State.freeCores (s : State) (p : Nat) : List Nat :=
  (s.coresOf p).filter (fun c => (s.core c).job.isNone)

/-- A routine of the plot's table (R396). -/
def State.routine (s : State) (p num : Nat) : Option Routine :=
  (s.plot p).routines.find? (fun q => decide (q.num = num))

/-- The cores of a call are free. -/
def State.freeCall (s : State) (r i : Nat) : State :=
  { s with cores := Tab.mapV (fun _ (k : Core) =>
      if k.job = some (r, i) then { k with job := none } else k) s.cores }

/-- The call of a descriptor ends: its cores are free and it completes (R201). -/
def State.endCall (s : State) (r i st v : Nat) : State :=
  let s1 := s.freeCall r i
  (if st = 0x19 then s1.countUp CNT_CORE_CALL.FAILED 1 else s1).finish r i st v

/-- A routine is no longer resident on any core. -/
def State.evict (s : State) (p num : Nat) : State :=
  { s with cores := Tab.mapV (fun _ (k : Core) =>
      if k.resident = some (p, num) then { k with resident := none } else k) s.cores }

/-- No routine of a plot is resident on any core (R401). -/
def State.evictAll (s : State) (p : Nat) : State :=
  { s with cores := Tab.mapV (fun _ (k : Core) =>
      if k.resident.any (fun q => decide (q.1 = p)) then { k with resident := none } else k) s.cores }

/-- A SEC-DED check of the TCM of a core: corrected and counted, or the running code ends, as C3 on a
firmware core and C2 of the leasing plot on a loop-kernel core (R392). -/
def State.tcmCheck (s : State) (c : Nat) : Ecc → State
  | .good => s
  | .corrected => (s.modCore c (fun k => { k with corr := k.corr + 1 })).latch 24 0 [] c 0 0
  | .uncorrectable =>
    if c < 4 then s.latchSure 24 1 [] c 0 0 (some 3)
    else
      let ps := s.boundPlots.filter (fun p => s.leasesCore p c)
      let s1 := s.latchSure 24 1 ps c 0 0 (some 2)
      match (s1.core c).job with
      | some (r, i) => s1.endCall r i 0x19 0
      | none => s1

/-- The handle fields of a CORE_CALL that ARG_USE passes: (number, offset, handle). -/
def Entry.cArgs (e : Entry) : List (Nat × Nat × Nat) :=
  ((List.range 4).filter (fun k => e.flag 19 k)).map (fun k => (k, 10 + 2 * k, e.u16 (10 + 2 * k)))

/-- The cores of a call are given to it, with the routine's code and the argument block (R399). -/
def State.startCall (s : State) (p r i : Nat) (e : Entry) (cores : List Nat) : State :=
  ((List.range cores.length).zip cores).foldl (fun s q =>
    s.modCore q.2 (fun k => { k with
      job := some (r, i), resident := some (p, e.u16 8), tcm := []
      args := e.cArgs.map (fun a => (a.2.2, Tab.val (s.plot p).handles a.2.2))
      inline := BitVec.ofNat 64 e.cInline, index := q.1, cores := e.cCores })) s

/-- The field bits that a CORE_CALL uses. -/
def coreUsed : List (Nat × Nat) := [(148, 64), (159, 152), (255, 192)]

/-- CORE_CALL of a user routine, R200, R399. -/
def coreCall (s : State) (p : Nat) (e : Entry) (r i core : Nat) (tcm : Ecc) : Except Fail State := do
  checkAll (decide (e.cCores = 0)) [e.reserved coreUsed, (18, decide ((s.coresOf p).length < e.cCores))]
    ((8, (s.routine p (e.u16 8)).isNone) :: e.cArgs.map (fun a => (a.2.1, s.badHandle p a.2.2 (fun t => !(e.flag 19 (4 + a.1) && isNarrow t.fmt)))))
  if e.cCores = 0 then pure (s.finish r i 0x01 0)
  else
    pure (((s.startCall p r i e ((s.freeCores p).take e.cCores)).countUp CNT_CORE_CALL.CALLS 1).tcmCheck core tcm)

/-- Cores enough are free, or the call cannot use them. -/
def State.coresReady (s : State) (r i : Nat) : Bool :=
  let p := s.ringPlot r
  (s.entry r i).any (fun e => decide (e.cCores ≤ (s.freeCores p).length ∨ (s.coresOf p).length < e.cCores))

/-- CORE_CALL: it issues when CORES of the plot's cores are free (R200). -/
def execCoreCall (ring : Fin 1024) (idx : Nat) (core : Fin 32) (tcm : Ecc) (s : State) :
    Host.Outcome State Fault Refusal :=
  if (s.stopped ring idx || s.coresReady ring idx) = true
      ∧ (s.entry ring idx).any (fun e => decide (1 < e.u16 8)) = true then
    s.issue ring idx opCORECALL (fun s p e => coreCall s p e ring idx core tcm)
  else .next s

/-! ### LOAD and UNLOAD (R396 to R398) -/

/-- LOAD, R397: the image in a DEVICE-owned slab of the plot is copied, checked and registered at
retirement; `digestOk` is the verdict of the SM3 digest. -/
def loadRoutine (s : State) (p : Nat) (e : Entry) (r i : Nat) (digestOk : Bool) : Except Fail State := do
  let slab := s.slab (e.u16 24)
  let num := e.u16 26
  checkAll (decide (e.cCores = 0))
    [e.reserved coreUsed, (18, decide (1 < e.cCores ∨ (s.coresOf p).length < e.cCores))]
    [(24, decide (e.u32 28 ≠ 0) || decide (slab.owned.toNat ≠ p) || decide (num < 0x100 ∨ 0xFFFE < num)
      || (decide (64 ≤ (s.plot p).routines.length) && (s.routine p num).isNone))]
  if e.cCores = 0 then pure (s.finish r i 0x01 0)
  else
    if slab.owner ≠ ownDEVICE then pure ((s.countRefused 1).finish r i 0x15 0)
    else
      match s.gladeFail true slab.start slab.bytes with
      | some f => throw f
      | none =>
        let img := s.readGlade slab.start slab.bytes
        let word (n : Nat) : Nat := leNat ((img.drop n).take 4)
        let code := word 4
        let data := word 8
        if word 0 ≠ 0x4B584C4B ∨ ¬ digestOk = true ∨ slab.bytes < 64 + code ∨ 1920 * 1024 < code + data then
          throw (descError 24)
        else if s.rd SEC_CFG.KERNEL_LOAD_EN = 0 then throw (descError 0xFFFFFFFF)
        else
          let rt : Routine := { num := num, slab := slab.start, code := (img.drop 64).take code,
                                dataLen := data, entry := word 12 }
          let s1 := s.modRing r (fun q => { q with entries := q.entries.map (fun f =>
            if f.idx = i then { f with register := some rt } else f) })
          pure ((s1.countUp CNT_CORE_CALL.CALLS 1).finish r i 0x00 0)

/-- LOAD. -/
def execLoad (ring : Fin 1024) (idx : Nat) (digestOk : Bool) (s : State) : Host.Outcome State Fault Refusal :=
  if (s.stopped ring idx || s.coresReady ring idx) = true
      ∧ (s.entry ring idx).any (fun e => decide (e.u16 8 = 0)) = true then
    s.issue ring idx opCORECALL (fun s p e => loadRoutine s p e ring idx digestOk)
  else .next s

/-- What the retirement of a LOAD registers. -/
def State.registerRoutine (s : State) (p : Nat) (e : Entry) : State :=
  match e.register with
  | none => s
  | some rt =>
    (s.modPlot p (fun q => { q with
      routines := q.routines.filter (fun x => decide (x.num ≠ rt.num)) ++ [rt] })).evict p rt.num

/-- UNLOAD, R398. -/
def unloadRoutine (s : State) (p : Nat) (e : Entry) (r i : Nat) : Except Fail State := do
  checks [e.reserved coreUsed, (18, decide (1 < e.cCores ∨ (s.coresOf p).length < e.cCores))]
  if e.cCores = 0 then pure (s.finish r i 0x01 0)
  else
    let num := e.u16 26
    let s1 := s.modPlot p (fun q => { q with routines := q.routines.filter (fun x => decide (x.num ≠ num)) })
    pure (((s1.evict p num).countUp CNT_CORE_CALL.CALLS 1).finish r i 0x00 0)

/-- UNLOAD: a call of the routine that still runs completes first. -/
def execUnload (ring : Fin 1024) (idx : Nat) (s : State) : Host.Outcome State Fault Refusal :=
  let p := s.ringPlot ring
  let busy (num : Nat) : Bool := s.cores.any (fun q => q.2.job.isSome && decide (q.2.resident = some (p, num)))
  let stop := s.stopped ring idx
  if (stop || s.coresReady ring idx) = true
      ∧ (s.entry ring idx).any (fun e => decide (e.u16 8 = 1) && (stop || !busy (e.u16 26))) = true then
    s.issue ring idx opCORECALL (fun s p e => unloadRoutine s p e ring idx)
  else .next s

/-! ### The end of a routine and its streams (R201, R393, R400) -/

/-- The call that a core runs ends with a refused stream or a trap. -/
def State.trapCall (s : State) (r i cause : Nat) : State := s.endCall r i 0x19 (0xFFFF0000 + cause)

/-- ROUTINE_END, R201, R400: the routine on core 4 + `core` ends.  A success frees the core, and the
call completes with the last of its cores; a failure or a trap ends the whole call. -/
def execRoutineEnd (core : Fin 28) (how : RoutineEnd) (value : BitVec 32) (s : State) :
    Host.Outcome State Fault Refusal :=
  let c := 4 + core.val
  match (s.core c).job with
  | none => .next s
  | some (r, i) =>
    match how with
    | .success =>
      let s1 := s.modCore c (fun k => { k with job := none })
      if s1.cores.any (fun q => decide (q.2.job = some (r, i))) then .next s1
      else .next (s1.endCall r i 0x00 value.toNat)
    | .failure => .next (s.endCall r i 0x19 value.toNat)
    | .trap cause => .next (s.trapCall r i cause)

/-- Formats that a stream reads and writes (R393). -/
def streamFmt (write : Bool) (fmt : Nat) : Bool :=
  if write then decide (fmt = 0xB ∨ fmt = 0xE)
  else isNarrow fmt || decide (fmt = 0x9 ∨ fmt = 0xA ∨ fmt = 0xB ∨ fmt = 0xD ∨ fmt = 0xE)

/-- The stored bytes of an FP64 value. -/
def streamBytes (fmt : Nat) (w : BitVec 64) : List Byte :=
  if fmt = 0xB then leBytes 2 (fp64ToY16 w) else leBytes 4 (fp64ToY32 w).toNat

/-- The element indices of a stream; none where one is negative. -/
def streamIdx (start count : Nat) (stride : Int) : Option (List Nat) :=
  (List.range count).mapM (fun (k : Nat) =>
    let x : Int := (start : Int) + stride * (k : Int)
    if x < 0 then none else some x.toNat)

/-- Values put into TCM one after the other. -/
def State.putTcm (s : State) (c tcm : Nat) (l : List (BitVec 64)) : State :=
  s.modCore c (fun k => { k with tcm := Memory.write k.tcm tcm (l.flatMap (fun w => leBytes 8 w.toNat)) })

/-- A stream over a tensor. -/
def State.tensorStream (s : State) (p r c : Nat) (t : Tensor) (idx : List Nat) (tcm : Nat) (write : Bool)
    (data : List (BitVec 64)) : Except Fail State := do
  if write then
    (idx.zip data).foldlM (fun s q =>
      s.writePlot p r (t.addr + elemBytes t.fmt * q.1) (streamBytes t.fmt q.2)) (s.putTcm c tcm data)
  else
    let vs ← idx.mapM (s.elemAt p t)
    pure ((s.countWrap (CNT_STORED_SAT.COUNT p) (s.unusedCodes p t idx)).putTcm c tcm (vs.map fp64Of))

/-- The device ranges of the elements of a stream over glade memory. -/
def gladeElems (fmt a : Nat) (idx : List Nat) : List (Nat × Nat) :=
  idx.map (fun n => (gladeToHbm (a + elemBytes fmt * n), elemBytes fmt))

/-- A stream over glade memory, in elements of format `fmt`. -/
def State.gladeStream (s : State) (p r c fmt a : Nat) (idx : List Nat) (tcm : Nat) (write : Bool)
    (data : List (BitVec 64)) : Except Fail State := do
  let l := gladeElems fmt a idx
  match s.accessFail (!write) l with
  | some f => throw f
  | none =>
    if write then
      let s1 := s.putTcm c tcm data
      pure (State.moved { s1 with hbm := s1.hbm.writePieces l (data.flatMap (streamBytes fmt)) } p r false l)
    else pure ((s.moved p r true l).putTcm c tcm (l.map (fun q =>
      fp64Of (elemVal fmt (leNat (s.hbm.read q.1 q.2)) 0))))

/-- Memory that a stream names is not there yet, or its requests stall: the stream waits (R475, R21, R47). -/
def State.streamWaits (s : State) (l : List (Nat × Nat)) : Bool :=
  (!s.full && !s.rangesReady l) || l.any (fun q => s.stalledAt q.1 q.2)

/-- STREAM_START, R393, R400: a routine on core 4 + `core` moves `count` elements between TCM and a
tensor or glade memory.  The monitor refuses a handle not passed, a write of a handle not marked, an
element outside the tensor, a format the engine does not convert, glade addresses outside the plot's
DEVICE-owned slabs, and TCM addresses in the monitor's part; the routine then ends.  `data` is what
the TCM holds where the stream writes. -/
def execStreamStart (core : Fin 28) (glade : Bool) (target start count : Nat) (stride : Int) (tcm : Nat)
    (write : Bool) (fmt : Fin 16) (data : List (BitVec 64)) (s : State) : Host.Outcome State Fault Refusal :=
  let c := 4 + core.val
  if data.length ≠ (if write then count else 0) then .fault .malformedCommand
  else match (s.core c).job with
  | none => .next s
  | some (r, i) =>
    let p := s.ringPlot r
    let no : State := s.trapCall r i (if write then 7 else 5)
    let place (idx : List Nat) : List (Nat × Nat) :=
      if glade then gladeElems fmt target idx
      else ((s.core c).args.filter (fun a => decide (a.1 = target))).flatMap (fun a => s.pieces p a.2.addr a.2.bytes)
    match s.entry r i, streamIdx start count stride with
    | some e, some idx =>
      if s.streamWaits (place idx) then .next s
      else if 1920 * 1024 < tcm + 8 * count then .next no
      else
        let out : Option (Except Fail State) :=
          if glade then
            let k := elemBytes fmt
            if streamFmt write fmt = true ∧ ¬ isNarrow fmt = true ∧ ¬ fmt.val = 0xD
                ∧ idx.all (fun n => s.deviceSlab p (target + k * n) k) = true then
              some (s.gladeStream p r c fmt target idx tcm write data)
            else none
          else match e.cArgs.find? (fun a => decide (a.2.2 = target)), (s.core c).args.find? (fun a =>
              decide (a.1 = target)) with
          | some a, some (_, t) =>
            if (write = true → e.flag 19 (4 + a.1) = true) ∧ streamFmt write t.fmt = true
                ∧ idx.all (fun n => decide (n < t.count)) = true then
              some (s.tensorStream p r c t idx tcm write data)
            else none
          | _, _ => none
        match out with
        | none => .next no
        | some (.ok t) => .next t
        | some (.error f) => .next ((s.freeCall r i).failDesc r i p f)
    | _, _ => .next no

end Sys2Proof.Machine
end

