-- ==== Sys2Proof/Machine/ExchangeOps.lean ====
section
/-! DEFINITION. Shared operations of the gradient exchange (R203 to R231): fields, chunks and
schedules, the records of the dense and sparse wire formats and their adders, streams, and the life
of an epoch. -/

namespace Sys2Proof.Machine

/-! ### Fields (Table 8.1) -/

/-- LEN. -/
def Entry.xLen (e : Entry) : Nat := e.u32 20
/-- B, the 32-element blocks of the gradient (R210). -/
def Entry.xBlocks (e : Entry) : Nat := ceilDiv e.xLen 32
/-- MODE 1: sparse. -/
def Entry.xSparse (e : Entry) : Bool := e.flag 29 4
/-- SCHED. -/
def Entry.xSched (e : Entry) : Nat := e.fld 29 3 2
/-- SCHED_ID of any of the three opcodes. -/
def Entry.schedId (e : Entry) : Nat := if e.opcode = opEXCHANGE then e.u8 26 else e.u8 34
/-- EPOCH of any of the three opcodes. -/
def Entry.xEpoch (e : Entry) : Nat := if e.opcode = opEXCHANGE then e.u16 24 else e.u16 32

/-! ### Schedules (Table 8.3) -/

/-- What a position does with a chunk: the positions whose records it adds, the one it sends the
result to (none at the owner), and those it sends the final sums to. -/
structure XHop where
  froms  : List Nat := []
  dest   : Option Nat := none
  gather : List Nat := []
  deriving DecidableEq, Repr, Inhabited

/-- Position `i` of a ring of `n` for the chunk of owner `c`: the upper half of the owners' chunks
travels upward, the lower half downward (Table 8.6, R223). -/
def ringHop (n c i : Nat) : XHop :=
  let up := decide (n ≤ 2 * c)
  let next (x : Nat) : Nat := if up then (x + 1) % n else (x + n - 1) % n
  let prev (x : Nat) : Nat := if up then (x + n - 1) % n else (x + 1) % n
  { froms := if i = next c then [] else [prev i]
    dest := if i = c then none else some (next i)
    gather := if next i = c then [] else [next i] }

/-- Position `i` of a binary tree of `d` nodes; one chunk, owned by position 0. -/
def treeHop (d i : Nat) : XHop :=
  let kids := [2 * i + 1, 2 * i + 2].filter (fun q => decide (q < d))
  { froms := kids, dest := if i = 0 then none else some ((i - 1) / 2), gather := kids }

/-- Every position but one. -/
def others (d i : Nat) : List Nat := (List.range d).filter (fun q => decide (q ≠ i))

/-- Position `i` of a copse-mesh. -/
def meshHop (d c i : Nat) : XHop :=
  if i = c then { froms := others d i, dest := none, gather := others d i }
  else { froms := [], dest := some c, gather := [] }

/-- The copses of a schedule in order of first appearance. -/
def copsesOf (cop : List Nat) : List Nat :=
  cop.foldl (fun l c => if c ∈ l then l else l ++ [c]) []

/-- The positions of one copse, ascending. -/
def inCopse (cop : List Nat) (g : Nat) : List Nat :=
  (List.range cop.length).filter (fun i => decide (cop[i]? = some g))

/-- Position `i` of a hierarchical schedule: copse-mesh inside its copse, then a ring across copses
among the positions of the owner's rank (Table 8.3, R223). -/
def hierHop (cop : List Nat) (c i : Nat) : XHop :=
  let gs := copsesOf cop
  let mine := inCopse cop (cop.getD i 0)
  let rank (x : Nat) : Nat := (inCopse cop (cop.getD x 0)).idxOf x
  let at_ (g : Nat) : Nat := (inCopse cop (gs.getD g 0)).getD (rank c) 0
  if rank i ≠ rank c then { froms := [], dest := some (mine.getD (rank c) 0), gather := [] }
  else
    let h := ringHop gs.length (gs.idxOf (cop.getD c 0)) (gs.idxOf (cop.getD i 0))
    let peers := mine.filter (fun q => decide (q ≠ i))
    { froms := peers ++ h.froms.map at_, dest := h.dest.map at_, gather := h.gather.map at_ ++ peers }

/-- The hop of position `i` for the chunk of owner `c` under schedule kind `kind`. -/
def hopOf (kind : Nat) (cop : List Nat) (d c i : Nat) : XHop :=
  if kind = 0 then ringHop d c i else if kind = 1 then treeHop d i
  else if kind = 2 then meshHop d c i else hierHop cop c i

/-- Blocks [lo, hi) of chunk `c` (R210); a tree has one chunk. -/
def chunkRange (kind b d c : Nat) : Nat × Nat :=
  if kind = 1 then (0, b) else (c * b / d, (c + 1) * b / d)

/-- Chunks that hold some block. -/
def chunksOf (kind b d : Nat) : List Nat :=
  (List.range (if kind = 1 then 1 else d)).filter (fun c =>
    decide ((chunkRange kind b d c).1 < (chunkRange kind b d c).2))

/-- The owner of a block's chunk. -/
def chunkOf (kind b d blk : Nat) : Nat :=
  ((chunksOf kind b d).find? (fun c => decide ((chunkRange kind b d c).1 ≤ blk
    ∧ blk < (chunkRange kind b d c).2))).getD 0

/-- The nodes of a schedule, in order. -/
def State.xNodes (s : State) (k : Nat) : List Nat := (s.sched k).nodes

/-- The copse of each position. -/
def State.xCopses (s : State) (k : Nat) : List Nat := (s.xNodes k).map (Tab.val s.fabric.copses)

/-- This device's position. -/
def State.xPos (s : State) (k : Nat) : Nat := (s.xNodes k).idxOf s.node

/-- What travels as one unit: a block record (dense) or the list of a chunk (sparse). -/
def State.xUnits (s : State) (k : Nat) (e : Entry) : List Nat :=
  if e.xSparse then chunksOf e.xSched e.xBlocks (s.xNodes k).length else List.range e.xBlocks

/-- The hop of a position for a unit. -/
def State.xHop (s : State) (k : Nat) (e : Entry) (unit pos : Nat) : XHop :=
  let d := (s.xNodes k).length
  hopOf e.xSched (s.xCopses k) d
    (if e.xSparse then unit else chunkOf e.xSched e.xBlocks d unit) pos

/-! ### Dense records (R211 to R218) -/

/-- A code of a record with biased exponent `x`: q × 2^(x − 127 − 15), exact in Y32 (R211, R216). -/
def widenCode (x : Nat) (w : Word) : Word :=
  let n := w.toNat % 65536
  if n < 32768 then valY32 (.fin false (n * 2 ^ (x + 7)))
  else valY32 (.fin true ((65536 - n) * 2 ^ (x + 7)))

/-- The 32 values of a record. -/
def widenRecord (header : Nat) (codes : List Word) : List Word :=
  if bit header 10 then List.replicate 32 0
  else if bit header 9 then codes
  else codes.map (widenCode (header % 256))

/-- A record raises a format error (R212). -/
def badRecord (header : Nat) (codes : List Word) : Bool :=
  let x := header % 256
  decide (x = 0) || decide (x = 255 ∧ bit header 9 = false) || decide (bit header 9 = true ∧ x ≠ 255)
  || (bit header 10 && bit header 9) || decide (2048 ≤ header)
  || (!bit header 9 && codes.any (fun w => decide (w.toNat % 65536 = 32768)))

/-- The code of a value against a biased exponent: round(v × 2^(15 − E)) (R213). -/
def codeMag (x : Nat) (w : Word) : Nat := rne (y32Val w).mag (2 ^ (x + 7))

/-- The two's complement of a code that fits. -/
def codeWord (x : Nat) (w : Word) : Word :=
  let m := codeMag x w
  BitVec.ofNat 32 (if (y32Val w).neg ∧ 0 < m then 65536 - m else m)

/-- The exponent that holds every sum: raised one at a time, none above 254; with the number of
increments (R217, R218). -/
def fitExp (sums : List Word) : Nat → Nat → Nat → Option Nat × Nat
  | 0, x, n => if sums.all (fun w => decide (codeMag x w ≤ 32767)) then (some x, n) else (none, n)
  | f + 1, x, n =>
    if sums.all (fun w => decide (codeMag x w ≤ 32767)) then (some x, n)
    else fitExp sums f (x + 1) (n + 1)

/-- A record as it leaves an adder, with its rescales and whether it has become an escape. -/
structure XRec where
  header  : Nat
  codes   : List Word
  rescale : Nat := 0
  escape  : Nat := 0
  deriving DecidableEq, Repr, Inhabited

/-- Sums encoded against a biased exponent; an escape stays an escape (R211, R213, R217, R218). -/
def encodeRecord (sums : List Word) (x : Nat) (esc resc : Bool) : XRec :=
  let r := if resc then 256 else 0
  if esc then { header := 255 + 512 + r, codes := sums }
  else if sums.any nonFinite then { header := 255 + 512 + r, codes := sums, escape := 1 }
  else
    match fitExp sums (254 - x) x 0 with
    | (none, n) => { header := 255 + 512 + (if n = 0 then r else 256), codes := sums, rescale := n, escape := 1 }
    | (some y, n) =>
      let r' := if n = 0 then r else 256
      if sums.all (fun w => decide (codeMag y w = 0)) then
        { header := y + 1024 + r', codes := [], rescale := n }
      else { header := y + r', codes := sums.map (codeWord y), rescale := n }

/-- The bytes of a record (R211). -/
def recordBytes (header : Nat) (codes : List Word) : List Byte :=
  leBytes 2 header ++ codes.flatMap (fun w => leBytes (if bit header 9 then 4 else 2) w.toNat)

/-- Non-finite sums that appear first at this adder: what came in was finite, and so was what the adder held, unless
that was its own contribution, not yet summed (R218). -/
def freshNonFinite (own : Bool) (a b c : List Word) : Nat :=
  ((a.zip b).zip c).foldl (fun n q =>
    n + b2n (nonFinite q.2 && (own || !nonFinite q.1.1) && !nonFinite q.1.2)) 0

/-- A dense record added to what an adder holds, with the non-finite sums it brings (R216). -/
def XAcc.addRecord (a : XAcc) (pos header : Nat) (codes : List Word) : XAcc × Nat :=
  let w := widenRecord header codes
  let sums := (a.sums.zip w).map (fun q => addY32 q.1 q.2)
  ({ a with sums := sums, esc := a.esc || bit header 9, resc := a.resc || bit header 8
            exp := if bit header 9 then a.exp else max a.exp (header % 256), got := a.got ++ [pos] },
   freshNonFinite a.got.isEmpty a.sums w sums)

/-! ### Sparse lists (R220, R221) -/

/-- A value rounded to Y16, as a Y32 word. -/
def roundY16 (w : Word) : Word := valY32 (y16Val (valY16 (y32Val w)))

/-- Index and value pairs out of a payload. -/
def pairsOf : List Word → List (Nat × Word)
  | i :: v :: l => (i.toNat, v) :: pairsOf l
  | _ => []

/-- Two lists with rising indices merged; what both hold is added and rounded to Y16. -/
def mergeLists : Nat → List (Nat × Word) → List (Nat × Word) → List (Nat × Word)
  | 0, _, _ => []
  | _ + 1, [], b => b.map (fun q => (q.1, roundY16 q.2))
  | _ + 1, a, [] => a
  | n + 1, a :: l, b :: m =>
    if a.1 < b.1 then a :: mergeLists n l (b :: m)
    else if b.1 < a.1 then (b.1, roundY16 b.2) :: mergeLists n (a :: l) m
    else (a.1, roundY16 (addY32 a.2 b.2)) :: mergeLists n l m

/-- Values of a list that have become non-finite by rounding to Y16 (R221). -/
def listNonFinite (incoming localList out : List (Nat × Word)) : Nat :=
  out.foldl (fun n q =>
    let ok (l : List (Nat × Word)) : Bool := l.all (fun x => decide (x.1 ≠ q.1) || !nonFinite x.2)
    n + b2n (nonFinite q.2 && ok incoming && ok localList)) 0

/-- A list merged with what an adder holds (R221). -/
def XAcc.addList (a : XAcc) (pos : Nat) (l : List (Nat × Word)) : XAcc × Nat :=
  let out := mergeLists (l.length + a.list.length + 1) l a.list
  ({ a with list := out, got := a.got ++ [pos] }, listNonFinite l a.list out)

/-- A list raises a format error (R220). -/
def badList (header lo hi : Nat) (l : List (Nat × Word)) : Bool :=
  l.any (fun q => decide (q.1 < lo ∨ hi ≤ q.1)) || !(l.zip (l.drop 1)).all (fun q => decide (q.1.1 < q.2.1))
  || decide (header % 2 ^ 32 < l.length) || decide (2 ^ 32 ≤ header)

/-- The bytes of a list (R220). -/
def listBytes (l : List (Nat × Word)) : List Byte :=
  leBytes 8 l.length ++ l.flatMap (fun q => leBytes 4 q.1 ++ leBytes 2 (valY16 (y32Val q.2)))

/-! ### The exponent table (R214, R215) -/

/-- The agreed exponent byte of a block. -/
def agreedExp (e : Entry) (table : List Byte) (b : Nat) : Nat :=
  if e.flag 30 3 then e.u8 27
  else
    let x := (table.getD b 0).toNat
    if x = 0 then e.u8 27 else x

/-- c + 134 for the smallest c with max ≤ 32,767 × 2^(c − 15), searched upward from c = −134; in units
of 2⁻¹⁴⁹ the test is mag ≤ 32,767 × 2^(c + 134). -/
def smallestC (mag : Nat) : Nat → Nat → Nat
  | 0, c => c
  | f + 1, c => if mag ≤ 32767 * 2 ^ c then c else smallestC mag f (c + 1)

/-- The new byte of a block from its final sums, none where it is unchanged (R215).  A maximum that
32,767 × 2⁻¹⁴⁹ covers gives an exponent that R215 raises to −126 in any case. -/
def renewedExp (e : Entry) (sums : List Word) : Option Nat :=
  let m := ((sums.filter (fun w => !nonFinite w)).map (fun w => (y32Val w).mag)).foldl max 0
  if m = 0 then none
  else
    let c : Int := (smallestC m 280 0 : Int) - 134
    let x : Int := max (-126) (c + (e.fld 30 5 4 : Int))
    some (if 127 < x then 255 else (x + 127).toNat)

/-! ### Streams -/

/-- The entry of a job. -/
def State.xEntry (s : State) (j : XJob) : Entry := (s.entry j.ring j.idx).getD default

/-- The job of a schedule changed. -/
def State.modXJob (s : State) (k : Nat) (f : XJob → XJob) : State :=
  s.modSched k (fun c => { c with job := c.job.map f })

/-- Bytes leave on the job's stream toward a node: on its tag, or with the transaction that waits for
one (R286, R300, R302). -/
def State.xEmit (s : State) (k : Nat) (j : XJob) (e : Entry) (node : Nat) (bytes : List Byte) : State :=
  let mine (t : TagUse) : Bool := decide (t.kind = 2 ∧ t.ring = j.ring ∧ t.idx = j.idx ∧ t.peer = some node)
  if (s.sched k).job.isNone then s
  else match s.tags.used.find? mine with
  | some t =>
    let t' := { t with bytes := bytes }
    State.sendTransfer { s with tags := { s.tags with
      used := s.tags.used.map (fun u => if u.tag = t.tag then t' else u) } } t' node t.port
  | none =>
    if s.tags.waiting.any mine then
      { s with tags := { s.tags with
        waiting := s.tags.waiting.map (fun u => if mine u then { u with bytes := u.bytes ++ bytes } else u) } }
    else s.askTag { kind := 2, peer := some node, plot := some j.plot, ring := j.ring, idx := j.idx
                    typ := if j.op = opEXCHANGE then 6 else 7, ctx := j.epoch
                    bytes := Config.streamHead k e.xLen (b2n e.xSparse) ++ bytes }

/-- What a job sends to positions, one transfer for each of them. -/
def State.xSend (s : State) (k : Nat) (j : XJob) (e : Entry) (outs : List (Nat × List Byte)) : State :=
  (List.range (s.xNodes k).length).foldl (fun s q =>
    let mine := outs.filter (fun o => decide (o.1 = q))
    if mine.isEmpty then s
    else s.xEmit k j e ((s.xNodes k).getD q 0) (mine.flatMap (fun o => o.2))) s

/-! ### Contributions and final sums -/

/-- Entries that a sparse contribution keeps (R207, R209). -/
def keptCount (n size k : Nat) : Nat :=
  (List.range (ceilDiv n size)).foldl (fun a g => a + min k (min size (n - g * size))) 0

/-- Words that H_SEND holds. -/
def Entry.sendLen (e : Entry) : Nat :=
  if e.xSparse then 2 * keptCount e.xLen (2 ^ e.fld 28 17 13) (e.fld 32 16 0) else e.xLen

/-- The send buffer read (R209). -/
def State.sendWords (s : State) (p : Nat) (e : Entry) : Except Fail (List Word) := do
  let t := s.tensorOf p (e.u16 14)
  let raw ← s.readPlot p t.addr (4 * e.sendLen)
  pure ((List.range e.sendLen).map (fun i => BitVec.ofNat 32 (leNat ((raw.drop (4 * i)).take 4))))

/-- What the adder of this device starts a unit with: its own contribution. -/
def State.localAcc (s : State) (k : Nat) (e : Entry) (ws : List Word) (unit : Nat) : XAcc :=
  if e.xSparse then
    let r := chunkRange e.xSched e.xBlocks (s.xNodes k).length unit
    { list := (pairsOf ws).filter (fun q => decide (32 * r.1 ≤ q.1 ∧ q.1 < 32 * r.2)) }
  else { sums := (List.range 32).map (fun i => if 32 * unit + i < e.xLen then ws.getD (32 * unit + i) 0 else 0) }

/-- Elements of a unit: [lo, hi). -/
def State.unitElems (s : State) (k : Nat) (e : Entry) (unit : Nat) : Nat × Nat :=
  if e.xSparse then
    let r := chunkRange e.xSched e.xBlocks (s.xNodes k).length unit
    (32 * r.1, min (32 * r.2) e.xLen)
  else (32 * unit, min (32 * unit + 32) e.xLen)

/-- The final sums of a unit stand in H_DST, each converted once (R219, R222); a finite sum that the
format makes an infinity is counted (R140). -/
def State.writeFinal (s : State) (k : Nat) (j : XJob) (e : Entry) (unit : Nat) (value : Nat → Word) :
    Except Fail State := do
  let r := s.unitElems k e unit
  let t := s.tensorOf j.plot (e.u16 16)
  let o ← s.store j.plot j.ring (e.u16 16) {} (fun i =>
    if r.1 ≤ i ∧ i < r.2 then some (y32Val (value i)) else none)
  let nf := if overflowsToInf t.fmt then o.2.sat else 0
  pure ((o.1.countNf j.plot e.member nf).modXJob k (fun j => { j with written := addAsc unit j.written }))

/-- Value of an element in a merged list: +0 where the list does not hold it (R222). -/
def listValue (l : List (Nat × Word)) (i : Nat) : Word :=
  ((l.find? (fun q => decide (q.1 = i))).map (fun q => q.2)).getD 0

/-- A unit's sums are complete here: they are encoded and go on to the next adder, or, at the owner,
they are final, are written and start the gather phase (R216 to R219, R221, R222). -/
def State.produce (s : State) (k : Nat) (j : XJob) (e : Entry) (unit : Nat) (a : XAcc) :
    Except Fail (State × List (Nat × List Byte)) := do
  let h := s.xHop k e unit (s.xPos k)
  if e.xSparse then
    let l := a.list.map (fun q => (q.1, roundY16 q.2))
    let nf := listNonFinite [] a.list l
    let s1 := s.countNf j.plot e.member nf
    match h.dest with
    | some q => pure (s1, [(q, listBytes l)])
    | none =>
      let s2 ← s1.writeFinal k j e unit (listValue l)
      pure (s2, h.gather.map (fun q => (q, listBytes l)))
  else
    let o := encodeRecord a.sums a.exp a.esc a.resc
    let s1 := (s.countWrap (CNT_XCH_RESCALE.COUNT j.plot) o.rescale).countWrap
      (CNT_XCH_ESCAPE.COUNT j.plot) o.escape
    match h.dest with
    | some q => pure (s1, [(q, recordBytes o.header o.codes)])
    | none =>
      let w := widenRecord o.header o.codes
      let s2 ← s1.writeFinal k j e unit (fun i => w.getD (i - 32 * unit) 0)
      pure (s2.modXJob k (fun j => { j with finals := Tab.put j.finals unit w }),
        h.gather.map (fun q => (q, recordBytes o.header o.codes)))

/-! ### The life of an epoch -/

/-- Every device that is not this one hears the abort, and the descriptor fails here. -/
def State.jobDies (s : State) (k : Nat) (j : XJob) (f : Fail) : State :=
  ((s.failEpoch k false).dropEpoch j.ring j.idx).failDesc j.ring j.idx j.plot f

/-- A whole tensor read out of HBM by an engine beside the grove dies' own (R430). -/
def State.readsTensor (s : State) (p r h : Nat) : State :=
  match s.tensor p h with
  | some t => s.moved p r true (s.pieces p t.addr t.bytes)
  | none => s

/-- Exchange: every unit for which this device is the first of a path starts (R216). -/
def State.startExchange (s : State) (k : Nat) (j : XJob) (e : Entry) : Except Fail State := do
  let ws ← s.sendWords j.plot e
  let first := (s.xUnits k e).filter (fun u => decide ((s.xHop k e u (s.xPos k)).froms = []))
  let (s1, outs) ← first.foldlM (fun (acc : State × List (Nat × List Byte)) u => do
    let x := j.exps.getD u 0
    let o ← acc.1.produce k j e u
      { s.localAcc k e ws u with exp := x, esc := decide (x = 255 ∧ e.xSparse = false) }
    pure (o.1, acc.2 ++ o.2)) (s.readsTensor j.plot j.ring (e.u16 14), [])
  pure (s1.xSend k j e outs)

/-- An epoch of a schedule is complete on this device: it counts, and it is the last one (R226, R238). -/
def State.epochDone (s : State) (k : Nat) (j : XJob) : State :=
  (((s.countWrap (CNT_XCH_EPOCHS.COUNT j.plot) 1).wr (STS_XCH_LAST.EPOCH j.plot) j.epoch).wr
    (STS_XCH_LAST.SCHED_ID j.plot) k).modSched k (fun c => { c with job := none, last := some j.epoch })

/-- The epoch is complete on this device: H_EXPT is renewed, the epoch counts, the schedule's last
epoch is known, and the descriptor has executed (R215, R226, R227, R238). -/
def State.completeEpoch (s : State) (k : Nat) (j : XJob) (e : Entry) : Except Fail State := do
  let t := s.tensorOf j.plot (e.u16 18)
  let s1 ← if e.xSparse then pure s else
    (List.range e.xBlocks).foldlM (fun s b =>
      match renewedExp e (Tab.val j.finals b) with
      | some x => s.writePlot j.plot j.ring (t.addr + b) (leBytes 1 x)
      | none => pure s) s
  pure (((s1.epochDone k j).dropTags j.ring j.idx).finish j.ring j.idx 0x00 0)

/-- Row-steps that a vector engine on the path needs for an arrival: 128 elements of a record or 16
entries of a list in each (Table 6.9). -/
def XRecord.pathSteps (x : XRecord) : Nat :=
  if x.kind = 0 then (if x.block % 4 = 0 then 1 else 0) else ceilDiv (pairsOf x.codes).length 16

/-- Flits of 256 bytes that an arrival completes on the path, its stream taken to hold records of its
own size up to it (Table 6.12). -/
def XRecord.pathFlits (x : XRecord) : Nat :=
  if x.kind = 0 then
    let b := (recordBytes x.header x.codes).length
    (x.block * b + b) / 256 - x.block * b / 256
  else ceilDiv (8 + 6 * (pairsOf x.codes).length) 256

/-- What an arrival says of its epoch differs from this device's own: LEN and MODE of the first record that a
device sends, or the kind of the record (R206). -/
def XRecord.differs (x : XRecord) (e : Entry) : Bool :=
  x.head.any (fun q => decide (q ≠ (e.xLen, b2n e.xSparse))) || decide ((x.kind % 2 = 1) ≠ (e.xSparse = true))

/-- One record taken by the adders (R216, R221, R225). -/
def State.takeRecord (s : State) (k : Nat) (j : XJob) (x : XRecord) : Except Fail State := do
  let e := s.xEntry j
  let pos := (s.xNodes k).idxOf x.src
  let h := s.xHop k e x.block (s.xPos k)
  let r := s.unitElems k e x.block
  let l := pairsOf x.codes
  let bad := if x.kind = 0 then badRecord x.header x.codes else badList x.header r.1 r.2 l
  let ws ← s.sendWords j.plot e
  let old := match Tab.look j.accs x.block with
    | some a => a
    | none => s.localAcc k e ws x.block
  if (s.xNodes k).length ≤ pos then pure s
  else if x.differs e then pure (s.failEpoch k false)
  else if pos ∉ h.froms ∨ pos ∈ old.got then pure s
  else if bad then pure (s.failEpoch k false)
  else
    let (a, nf) := if x.kind = 0 then old.addRecord pos x.header x.codes else old.addList pos l
    let s1 := (s.countNf j.plot e.member nf).modXJob k (fun j => { j with accs := Tab.put j.accs x.block a })
    let s2 := if x.port ∈ s.fabric.pathVe then
        match s.pathVe j.plot x.port with
        | some v => (s1.veWork j.plot j.ring v 32 x.pathSteps).countWrap
            (CNT_VE_PATH.COUNT (v / 4) (v % 4)) x.pathFlits
        | none => s1
      else s1
    if a.got.length = h.froms.length then
      let (s3, outs) ← s2.produce k j e x.block a
      pure (s3.xSend k j e outs)
    else pure s2

/-- One final record taken: forwarded unchanged and written (R219, R222). -/
def State.takeFinal (s : State) (k : Nat) (j : XJob) (x : XRecord) : Except Fail State := do
  let e := s.xEntry j
  let pos := (s.xNodes k).idxOf x.src
  let me := s.xPos k
  let r := s.unitElems k e x.block
  let l := pairsOf x.codes
  let bad := if x.kind = 2 then badRecord x.header x.codes else badList x.header r.1 r.2 l
  if (s.xNodes k).length ≤ pos then pure s
  else if x.differs e then pure (s.failEpoch k false)
  else if me ∉ (s.xHop k e x.block pos).gather ∨ x.block ∈ j.written then pure s
  else if bad then pure (s.failEpoch k false)
  else
    let w := widenRecord x.header x.codes
    let s1 ← s.writeFinal k j e x.block
      (if x.kind = 2 then (fun i => w.getD (i - 32 * x.block) 0) else listValue l)
    let s2 := if x.kind = 2 then s1.modXJob k (fun j => { j with finals := Tab.put j.finals x.block w }) else s1
    pure (s2.xSend k j e ((s.xHop k e x.block me).gather.map (fun q =>
      (q, if x.kind = 2 then recordBytes x.header x.codes else listBytes l))))

end Sys2Proof.Machine
end

