-- ==== Sys2Proof/Machine/Exchange.lean ====
section
/-! DEFINITION. Meanings of the gradient exchange: EXCHANGE, its records, and the end, abort and replay
of an epoch; DISPATCH and COMBINE with their rows and streams (R203 to R237). -/

namespace Sys2Proof.Machine

/-! ### Thinning (R207, R208) -/

/-- The magnitude that thinning compares: a NaN counts as the largest. -/
def thinKey (w : Word) : Nat := if isNaN w then 2 ^ 31 else w.toNat % 2 ^ 31

/-- The `k` elements of a group with the largest magnitudes, ties to the lowest index. -/
def selectGroup (k : Nat) (l : List Word) : List Bool :=
  let keys := l.map thinKey
  (List.range l.length).map (fun i =>
    let x := keys.getD i 0
    decide (((List.range l.length).filter (fun j =>
      decide (x < keys.getD j 0 ∨ (x = keys.getD j 0 ∧ j < i)))).length < k))

/-- Which elements of the gradient are selected. -/
def selectAll (k size : Nat) (l : List Word) : List Bool := (piecesBy size l).flatMap (selectGroup k)

/-- Entries of a sparse contribution as words: index, then value (R209). -/
def sparseWords (sel : List Bool) (a : List Word) : List Word :=
  ((List.range a.length).filter (fun i => sel.getD i false)).flatMap (fun i =>
    [BitVec.ofNat 32 i, a.getD i 0])

/-! ### Epochs (R225, R226) -/

/-- The epoch of a new descriptor lies 1 to 32,767 ahead of the last one completed (R226). -/
def State.epochAhead (s : State) (k epoch : Nat) : Bool :=
  match (s.sched k).last with
  | none => true
  | some l => let d := (epoch + 65536 - l) % 65536; decide (1 ≤ d ∧ d ≤ 32767)

/-- A job begins: its epoch becomes the schedule's current one (R225). -/
def State.beginJob (s : State) (k : Nat) (j : XJob) : State :=
  s.modSched k (fun c => { c with job := some j, cur := some j.epoch, plot := j.plot })

/-- A job starts, or starts again from its unchanged buffers. -/
def State.settle (s : State) (k : Nat) (j : XJob) (r : Except Fail State) : State :=
  match r with
  | .ok t => t
  | .error f => s.jobDies k j f

/-! ### DISPATCH and COMBINE (R232 to R237) -/

/-- TOKENS. -/
def Entry.tokens (e : Entry) : Nat := e.u32 24
/-- TOPE. -/
def Entry.tope (e : Entry) : Nat := e.fld 37 5 2
/-- NUM_EXP. -/
def Entry.numExp (e : Entry) : Nat := e.u16 28
/-- CAP. -/
def Entry.capRows (e : Entry) : Nat := e.u16 30
/-- LOCAL_EXP. -/
def Entry.localExp (e : Entry) : Nat := e.fld 36 9 0
/-- REUSE. -/
def Entry.reuse (e : Entry) : Bool := e.flag 37 6
/-- RENORM. -/
def Entry.renorm (e : Entry) : Bool := e.flag 37 7

/-- A word of a list of raw words. -/
def wordAt (l : List Word) (i : Nat) : Nat := (l.getD i 0).toNat

/-- The first `n` words of a tensor of raw words. -/
def State.rawWords (s : State) (p h n : Nat) : Except Fail (List Word) := do
  let raw ← s.readPlot p (s.tensorOf p h).addr (4 * n)
  pure ((List.range n).map (fun i => BitVec.ofNat 32 (leNat ((raw.drop (4 * i)).take 4))))

/-- One choice of a token: what its expert map entry names (R232). -/
structure Choice where
  token : Nat
  rank  : Nat
  key   : Nat
  node  : Nat
  loc   : Nat
  deriving DecidableEq, Repr, Inhabited

/-- A routing entry in use (R232). -/
def State.routeEntry (s : State) (n : Nat) : Option Route := Tab.look s.fabric.routing n

/-- The choices in the order that fills quotas: rank by rank, tokens ascending; entries of no expert
are skipped (R233, R234). -/
def State.choices (s : State) (e : Entry) (route map : List Word) : List Choice :=
  (List.range e.tope).flatMap (fun r => (List.range e.tokens).filterMap (fun t =>
    let x := wordAt route (2 * (t * e.tope + r)) % 65536
    if x = 0xFFFF then none
    else
      let m := wordAt map x % 2 ^ 19
      match s.routeEntry (m % 512) with
      | some g => some { token := t, rank := r, key := m, node := g.node, loc := m / 512 }
      | none => none))

/-- Some entry of H_ROUTE is invalid (R233). -/
def State.routeInvalid (s : State) (e : Entry) (route map : List Word) : Bool :=
  (List.range (e.tokens * e.tope)).any (fun i =>
    let x := wordAt route (2 * i) % 65536
    let m := wordAt map x
    decide (x ≠ 0xFFFF) && (decide (e.numExp ≤ x) || (match s.routeEntry (m % 512) with
      | some g => decide (g.localExp ≤ m / 512 % 1024)
      | none => true)))

/-- Sender `j`'s quota of an expert, and the first row of its share (R234). -/
def quotaOf (cap d j : Nat) : Nat := cap / d + (if j < cap % d then 1 else 0)
/-- Σ of the quotas before sender `j`. -/
def quotaStart (cap d j : Nat) : Nat := j * (cap / d) + min j (cap % d)

/-- The row of each choice, none where it is dropped (R234). -/
def placeRows (cap d j : Nat) : Tab Nat → List Choice → List (Choice × Option Nat)
  | _, [] => []
  | used, c :: l =>
    let n := Tab.val used c.key
    if n < quotaOf cap d j then
      (c, some (c.loc * cap + quotaStart cap d j + n)) :: placeRows cap d j (Tab.put used c.key (n + 1)) l
    else (c, none) :: placeRows cap d j used l

/-- The wire bytes of one row: its stored bytes, or its values in Y32 where it is narrow. -/
def State.rowWire (s : State) (p : Nat) (t : Tensor) (row : Nat) (vals : List Word) : Except Fail (List Byte) :=
  if isNarrow t.fmt then pure (vals.flatMap (fun w => leBytes 4 w.toNat))
  else s.readPlot p (t.addr + elemBytes t.fmt * (row * t.cols)) (elemBytes t.fmt * t.cols)

/-- The values of one row of a tensor. -/
def State.rowValues (s : State) (p : Nat) (t : Tensor) (row : Nat) : Except Fail (List Word) :=
  s.elems p t ((List.range t.cols).map (· + row * t.cols))

/-- An arriving row and its H_META record are written (R235).  A row for a narrow tensor stays with the job until the
descriptor ends: only then is it known whether every block is written (R65).  DESIGN CHOICE, safe: log 176. -/
def State.putRow (s : State) (k : Nat) (j : XJob) (e : Entry) (row pos rank token : Nat) (vals : List Word) :
    Except Fail State := do
  let t := s.tensorOf j.plot (e.u16 14)
  let s1 ← if isNarrow t.fmt then pure (s.modXJob k (fun j => { j with rows := Tab.put j.rows row vals })) else do
    let o ← s.store j.plot j.ring (e.u16 14) {} (fun i =>
      if t.cols * row ≤ i ∧ i < t.cols * row + t.cols then some (y32Val (vals.getD (i - t.cols * row) 0)) else none)
    pure o.1
  s1.storeWords j.plot j.ring (s.tensorOf j.plot (e.u16 18))
    [(2 * row, BitVec.ofNat 32 (pos + 1024 * rank)), (2 * row + 1, BitVec.ofNat 32 token)]

/-- The rows that a DISPATCH holds for a narrow H_RECV are encoded, with the rounding that its flags select: a full
write where no row is missing (R65, R72). -/
def State.putNarrowRows (s : State) (j : XJob) (e : Entry) : Except Fail State :=
  let p := j.plot
  let h := e.u16 14
  let t := s.tensorOf p h
  if j.rows = [] then pure s
  else do
    let v := s.firstVe p
    let s1 := if e.stochastic then s.drawVe v t.count else s
    let full := (List.range t.rows).all (fun r => (Tab.look j.rows r).isSome)
    let o ← (if full then s1.rebase p h else s1).store p j.ring h
      { draws := if e.stochastic then some (s.gens v) else none }
      (fun i => (Tab.look j.rows (i / t.cols)).map (fun l => y32Val (l.getD (i % t.cols) 0)))
    pure (o.1.markNarrow p j.ring j.idx h)

/-- An expert's output row is weighted and added into its token; a row of a rank that H_DREC marks as not sent adds
nothing (R237). -/
def State.addOutput (s : State) (k : Nat) (j : XJob) (e : Entry) (rank token : Nat) (vals : List Word) :
    Except Fail State := do
  let route ← s.rawWords j.plot (e.u16 10) (2 * e.tokens * e.tope)
  let drec ← s.rawWords j.plot (e.u16 20) (e.tokens * e.tope)
  let w := route.getD (2 * (token * e.tope + rank) + 1) 0
  let n := (s.tensorOf j.plot (e.u16 22)).cols
  let one (j : XJob) : XJob :=
    let old := match Tab.look j.acc token with
      | some l => l
      | none => List.replicate n 0
    { j with acc := Tab.put j.acc token ((old.zip vals).map (fun q => addY32 q.1 (mulY32 w q.2)))
             wsum := Tab.put j.wsum token (addY32 (Tab.val j.wsum token) w), expect := j.expect - 1 }
  pure (if wordAt drec (token * e.tope + rank) = 0xFFFFFFFF then s else s.modXJob k one)

/-- Status of a DISPATCH or COMBINE that completes (R233). -/
def Entry.dispatchOk (e : Entry) : Nat := if e.tokens = 0 then 0x01 else 0x00

/-- The job of a DISPATCH or COMBINE has executed, and its epoch counts (R226, R238). -/
def State.endRows (s : State) (k : Nat) (j : XJob) (st : Nat) : State :=
  ((s.epochDone k j).dropTags j.ring j.idx).finish j.ring j.idx st 0

/-- The combined rows are written: weighted sums, divided by the sum of weights under RENORM, +0 for a
token with no rank sent (R237). -/
def State.writeCombined (s : State) (j : XJob) (e : Entry) : Except Fail State := do
  let drec ← s.rawWords j.plot (e.u16 20) (e.tokens * e.tope)
  let t := s.tensorOf j.plot (e.u16 22)
  let sent (k : Nat) : Bool := (List.range e.tope).any (fun r =>
    decide (wordAt drec (k * e.tope + r) ≠ 0xFFFFFFFF))
  let outRow (k : Nat) : List Word :=
    let a := Tab.val j.acc k
    if e.renorm && sent k then a.map (fun w => fnDiv w (Tab.val j.wsum k)) else a
  let o ← s.store j.plot j.ring (e.u16 22) {} (fun i =>
    some (y32Val ((outRow (i / t.cols)).getD (i % t.cols) 0)))
  pure (o.1.countWrap (CNT_DISP_PASSTHRU.COUNT j.plot)
    ((List.range e.tokens).filter (fun k => !sent k)).length)

/-- A DISPATCH whose senders have all closed, or a COMBINE whose rows have all come, completes once its
own rows have left (R235, R237). -/
def State.tryFinish (s : State) (k : Nat) : State :=
  match (s.sched k).job with
  | none => s
  | some j =>
    let e := s.xEntry j
    let waits := s.tags.waiting.any (fun t => decide (t.kind = 2 ∧ t.ring = j.ring ∧ t.idx = j.idx))
    if j.failed.isSome ∨ waits = true then s
    else if j.op = opDISPATCH then
      if (s.xNodes k).all (fun n => decide (n = s.node ∨ n ∈ j.closed)) then
        s.settle k j (do
          let t ← s.putNarrowRows j e
          pure (t.endRows k j e.dispatchOk))
      else s
    else if j.op = opCOMBINE ∧ j.expect = 0 then
      s.settle k j (do
        let t ← s.writeCombined j e
        pure (t.endRows k j e.dispatchOk))
    else s

/-- DISPATCH begins to receive: every row's H_META record is empty until a sender fills it (R235). -/
def State.clearMeta (s : State) (j : XJob) (e : Entry) : Except Fail State :=
  let rows := (s.tensorOf j.plot (e.u16 14)).rows
  if e.localExp = 0 then pure s
  else s.storeWords j.plot j.ring (s.tensorOf j.plot (e.u16 18))
    ((List.range (2 * rows)).map (fun i => (i, 0xFFFFFFFF)))

/-- The rows of a DISPATCH leave, each to the row its quota or H_DREC gives, and every stream is closed
(R234 to R236). -/
def State.startDispatch (s : State) (k : Nat) (j : XJob) (e : Entry) (placed : List (Choice × Option Nat)) :
    Except Fail State := do
  let s0 ← (s.readsTensor j.plot j.ring (e.u16 8)).clearMeta j e
  let t := s.tensorOf j.plot (e.u16 8)
  let sent := placed.filterMap (fun q => q.2.map (fun row => (q.1, row)))
  let (s1, outs) ← sent.foldlM (fun (acc : State × List (Nat × List Byte)) q => do
    let vals ← acc.1.rowValues j.plot t q.1.token
    if q.1.node = s.node then
      let s' ← acc.1.putRow k j e q.2 (s.xPos k) q.1.rank q.1.token vals
      pure (s', acc.2)
    else
      let b ← acc.1.rowWire j.plot t q.1.token vals
      pure (acc.1, acc.2 ++ [((s.xNodes k).idxOf q.1.node, Config.rowHead q.2 q.1.rank q.1.token ++ b)]))
    (s0, [])
  let closes := (others (s.xNodes k).length (s.xPos k)).map (fun q => (q, ([] : List Byte)))
  pure ((s1.countWrap (CNT_DISP_ROWS.COUNT j.plot) sent.length).xSend k j e (outs ++ closes))

/-- The rows of a COMBINE return to the sources that H_META names (R237). -/
def State.startCombine (s : State) (k : Nat) (j : XJob) (e : Entry) : Except Fail State := do
  let y := s.tensorOf j.plot (e.u16 16)
  let rows := if e.localExp = 0 then 0 else y.rows
  let md ← s.rawWords j.plot (e.u16 18) (2 * rows)
  let full := (List.range rows).filter (fun i =>
    decide (wordAt md (2 * i) ≠ 0xFFFFFFFF ∨ wordAt md (2 * i + 1) ≠ 0xFFFFFFFF))
  let (s1, outs) ← full.foldlM (fun (acc : State × List (Nat × List Byte)) i => do
    let m := wordAt md (2 * i)
    let pos := m % 1024
    let rank := m / 1024 % 8
    let token := wordAt md (2 * i + 1)
    let vals ← acc.1.rowValues j.plot y i
    if pos = s.xPos k then
      let s' ← acc.1.addOutput k j e rank token vals
      pure (s', acc.2)
    else
      let b ← acc.1.rowWire j.plot y i vals
      pure (acc.1, acc.2 ++ [(pos, Config.rowHead pos rank token ++ b)]))
    (if rows = 0 then s else s.readsTensor j.plot j.ring (e.u16 16), [])
  pure ((s1.countWrap (CNT_DISP_ROWS.COUNT j.plot) full.length).xSend k j e outs)

/-- The placement of a DISPATCH as its H_DREC records it. -/
def State.recorded (s : State) (e : Entry) (route map drec : List Word) : List (Choice × Option Nat) :=
  (s.choices e route map).map (fun c =>
    let r := wordAt drec (c.token * e.tope + c.rank)
    (c, if r = 0xFFFFFFFF then none else some r))

/-- The job of a schedule starts again with the same epoch number: sums, closes and outputs begin anew
(R231, R235). -/
def State.restart (s : State) (k : Nat) (j0 : XJob) : Except Fail State := do
  let e := s.xEntry j0
  let drec ← if j0.op = opEXCHANGE then pure [] else s.rawWords j0.plot (e.u16 20) (e.tokens * e.tope)
  let j := { j0 with
    accs := [], finals := [], written := [], failed := none, replayed := true, closed := [], rows := [], acc := [], wsum := []
    expect := (drec.filter (fun w => decide (w.toNat ≠ 0xFFFFFFFF))).length }
  let s1 := s.beginJob k j
  if j.op = opEXCHANGE then s1.startExchange k j e
  else if j.op = opDISPATCH then
    let route ← s1.rawWords j.plot (e.u16 10) (2 * e.tokens * e.tope)
    let map ← s1.rawWords j.plot (e.u16 12) e.numExp
    s1.startDispatch k j e (s1.recorded e route map drec)
  else s1.startCombine k j e

/-! ### Arrivals (R225) -/

/-- Something of the current epoch arrives for the job in execution. -/
def State.takeArrival (s : State) (k : Nat) (j : XJob) (x : XRecord) : State :=
  let e := s.xEntry j
  let pos := (s.xNodes k).idxOf x.src
  if j.op = opEXCHANGE then
    (if x.kind ≤ 1 then s.settle k j (s.takeRecord k j x)
     else if x.kind ≤ 3 then s.settle k j (s.takeFinal k j x) else s)
  else if j.op = opDISPATCH then
    (if x.kind = 4 then
      (let t := s.tensorOf j.plot (e.u16 14)
       if e.localExp = 0 ∨ t.rows ≤ x.block ∨ x.codes.length ≠ t.cols then s.failEpoch k false
       else s.settle k j (s.putRow k j e x.block pos x.header x.token x.codes))
     else if x.kind = 5 then (s.modXJob k (fun j => { j with closed := addAsc x.src j.closed })).tryFinish k
     else s)
  else if x.kind = 6 then
    (if e.tokens ≤ x.token ∨ e.tope ≤ x.header ∨ j.expect = 0
        ∨ x.codes.length ≠ (s.tensorOf j.plot (e.u16 22)).cols then s.failEpoch k false
     else (s.settle k j (s.addOutput k j e x.header x.token x.codes)).tryFinish k)
  else s

/-- An arrival is taken, held for a future epoch, or stale (R225).  A port holds one future epoch of a
schedule; a further one stays with its sender. -/
def State.arrive (s : State) (k : Nat) (x : XRecord) : State :=
  let c := s.sched k
  let hold := s.modSched k (fun c => { c with held := c.held ++ [x] })
  let later := if c.held.all (fun h => decide (h.port ≠ x.port ∨ h.epoch = x.epoch)) then hold else s
  let stale := s.countWrap (CNT_XCH_STALE.COUNT c.plot) 1
  match c.cur with
  | none => later
  | some cur =>
    let d := (x.epoch + 65536 - cur) % 65536
    if d = 0 then
      match c.job with
      | some j => if j.failed.isSome then stale else s.takeArrival k j x
      | none => stale
    else if d < 32768 then later
    else stale

/-- What was held for the epoch that has begun is taken. -/
def State.takeHeld (s : State) (k epoch : Nat) : State :=
  let mine := (s.sched k).held.filter (fun x => decide (x.epoch = epoch))
  mine.foldl (fun s x => s.arrive k x) (s.modSched k (fun c =>
    { c with held := c.held.filter (fun x => decide (x.epoch ≠ epoch)) }))

/-! ### EXCHANGE -/

/-- The checks of an EXCHANGE whose LEN is not 0 (R205, R208, R214, R226, R520). -/
def State.exchangeChecks (s : State) (p : Nat) (e : Entry) : List (Nat × Bool) :=
  let k := e.u8 26
  let n := e.xLen
  let nodes := s.xNodes k
  let d := nodes.length
  let cop := s.xCopses k
  let gs := copsesOf cop
  let allKept := decide (e.fld 32 16 0 = 2 ^ e.fld 28 17 13)
  let counted (fmts : List Nat) (m : Nat) (t : Tensor) : Bool := decide (t.fmt ∈ fmts ∧ m ≤ t.count)
  [(28, decide (e.fld 28 9 0 ≠ d)), (26, decide (s.node ∉ nodes)),
   (29, decide (e.xSched = 2 ∧ 1 < gs.length)),
   (29, decide (e.xSched = 3) && !gs.all (fun g => decide ((inCopse cop g).length * gs.length = d))),
   (24, !s.epochAhead k (e.u16 24)),
   (8, s.badHandle p (e.u16 8) (counted [0xE, 0xB, 0xA] n)),
   (10, !allKept && decide (e.u16 10 = e.u16 12)),
   (10, !allKept && !e.flag 30 2 && s.badHandle p (e.u16 10) (counted [8] n)),
   (12, !allKept && s.badOutput p (e.u16 12) (counted [8] n)),
   (14, s.badOutput p (e.u16 14) (counted [0xE] e.sendLen)),
   (16, s.badOutput p (e.u16 16) (counted [0xE, 0xB] n)),
   (18, !e.xSparse && s.badOutput p (e.u16 18) (fun t =>
     !isNarrow t.fmt && decide (elemBytes t.fmt = 1 ∧ e.xBlocks ≤ t.count)))]

/-- Thinning: H_SEND and H_ROUT are written, non-finite values counted (R207 to R209). -/
def State.thin (s : State) (p : Nat) (e : Entry) (r i : Nat) : Except Fail State := do
  let n := e.xLen
  let size := 2 ^ e.fld 28 17 13
  let kept := e.fld 32 16 0
  let g ← s.loadFirst p (s.tensorOf p (e.u16 8)) n
  let res ← if e.flag 30 2 ∨ kept = size then pure (List.replicate n 0)
    else s.loadFirst p (s.tensorOf p (e.u16 10)) n
  let a := (g.zip res).map (fun q => addY32 q.1 q.2)
  let sel := selectAll kept size a
  let s1 ← if kept = size then pure s else do
    let v := s.firstVe p
    let m : WriteMode := { draws := if e.stochastic then some (s.gens v) else none }
    let o ← ((if e.stochastic then s.drawVe v n else s).rebase p (e.u16 12)).store p r (e.u16 12) m (fun k =>
      if k < n then some (if sel.getD k false then .zero else y32Val (a.getD k 0)) else none)
    pure (o.1.markNarrow p r i (e.u16 12))
  let words := if e.xSparse then sparseWords sel a
    else (List.range n).map (fun k => if sel.getD k false then a.getD k 0 else 0)
  let s2 ← s1.storeWords p r (s.tensorOf p (e.u16 14)) ((List.range words.length).map (fun k => (k, words.getD k 0)))
  let s3 := (s2.countStored p (if e.flag 30 2 ∨ kept = size then [] else [(e.u16 10, n)])).countNf p e.member
    (countNonFinite a)
  pure (match (s.vesOf p).head? with
    | some v => ((s3.stageTensors p r (v / 4) true
        (e.u16 8 :: (if e.flag 30 2 ∨ kept = size then [] else [e.u16 10]))).stageTensors p r (v / 4) false
        (e.u16 14 :: (if kept = size then [] else [e.u16 12]))).veWork p r v n (ceilDiv n 512)
    | none => s3)

/-- EXCHANGE, R203 to R209, R216. -/
def exchange (s : State) (p : Nat) (e : Entry) (r i : Nat) : Except Fail State := do
  let g := e.fld 28 17 13
  checkAll (decide (e.xLen = 0)) [e.reserved [(245, 64), (272, 256)], (27, decide (e.u8 27 = 0 ∨ e.u8 27 = 255)),
    (28, decide (e.fld 28 9 0 = 0 ∨ 512 < e.fld 28 9 0)), (29, decide (g < 5 ∨ 16 < g)),
    (32, decide (2 ^ g < e.fld 32 16 0))] (s.exchangeChecks p e)
  if e.xLen = 0 then pure (s.finish r i 0x01 0)
  else
    s.checkVe p
    let s1 ← s.thin p e r i
    let k := e.u8 26
    let table ← if e.xSparse ∨ e.flag 30 3 = true then pure [] else
      s1.readPlot p (s.tensorOf p (e.u16 18)).addr e.xBlocks
    let t := s.tensorOf p (e.u16 16)
    let j : XJob :=
      { ring := r, idx := i, plot := p, op := opEXCHANGE, epoch := e.u16 24
        exps := if e.xSparse then [] else (List.range e.xBlocks).map (agreedExp e table)
        dstOld := s.readPieces (s.pieces p t.addr (elemBytes t.fmt * e.xLen)) }
    let s2 := s1.beginJob k j
    if (s.xNodes k).length = 1 then
      let ws ← s2.sendWords p e
      let s3 ← (s2.xUnits k e).foldlM (fun s u => do
        let a := s.localAcc k e ws u
        let s' ← s.writeFinal k j e u (if e.xSparse then listValue a.list
          else (fun x => a.sums.getD (x - 32 * u) 0))
        pure (s'.modXJob k (fun j => { j with finals := Tab.put j.finals u a.sums }))) s2
      match (s3.sched k).job with
      | some j3 => s3.completeEpoch k j3 e
      | none => pure s3
    else
      let s3 ← s2.startExchange k j e
      pure (s3.takeHeld k j.epoch)

/-- EXCHANGE: it waits while another epoch of its schedule is in execution. -/
def execExchange (ring : Fin 1024) (idx : Nat) (s : State) : Host.Outcome State Fault Refusal :=
  if (!s.stopped ring idx && (s.entry ring idx).any (fun e => (s.sched (e.u8 26)).job.isSome)) = true then .next s
  else s.issue ring idx opEXCHANGE (fun s p e => exchange s p e ring idx)

/-- EXCHANGE_RECORD_ARRIVE, R216, R225: a dense record of the reduce phase. -/
def execExchangeRecordArrive (port : Fin 24) (sched : Fin 256) (src : Fin 1024) (epoch : Fin 65536)
    (head : Option (Nat × Nat)) (block : Nat) (header : BitVec 16) (payload : List (BitVec 32)) (s : State) :
    Host.Outcome State Fault Refusal :=
  if recordLength header payload then
    .next (s.arrive sched { kind := 0, port := port, src := src, epoch := epoch, head := head
                            block := block, header := header.toNat, codes := payload })
  else .fault .malformedCommand

/-- A list as index and value words. -/
def listWords (l : List (BitVec 32 × BitVec 16)) : List Word :=
  l.flatMap (fun q => [q.1, valY32 (y16Val q.2.toNat)])

/-- EXCHANGE_LIST_ARRIVE, R221, R225. -/
def execExchangeListArrive (port : Fin 24) (sched : Fin 256) (src : Fin 1024) (epoch : Fin 65536)
    (head : Option (Nat × Nat)) (chunk : Nat) (header : BitVec 64) (entries : List (BitVec 32 × BitVec 16))
    (s : State) : Host.Outcome State Fault Refusal :=
  if listLength header entries then
    .next (s.arrive sched { kind := 1, port := port, src := src, epoch := epoch, head := head
                            block := chunk, header := header.toNat, codes := listWords entries })
  else .fault .malformedCommand

/-- EXCHANGE_GATHER_RECORD, R219, R222, R225. -/
def execExchangeGatherRecord (port : Fin 24) (sched : Fin 256) (src : Fin 1024) (epoch : Fin 65536)
    (head : Option (Nat × Nat)) (final : FinalSums) (s : State) : Host.Outcome State Fault Refusal :=
  if final.lengthOk then
    match final with
    | .block n h l => .next (s.arrive sched { kind := 2, port := port, src := src, epoch := epoch, head := head
                                              block := n, header := h.toNat, codes := l })
    | .list c h l => .next (s.arrive sched { kind := 3, port := port, src := src, epoch := epoch, head := head
                                             block := c, header := h.toNat, codes := listWords l })
  else .fault .malformedCommand

/-- EPOCH_COMPLETE, R215, R227: H_DST is written in full and no device needs the send buffer. -/
def execEpochComplete (sched : Fin 256) (s : State) : Host.Outcome State Fault Refusal :=
  match (s.sched sched).job with
  | none => .next s
  | some j =>
    let e := s.xEntry j
    let waits := s.tags.waiting.any (fun t => decide (t.kind = 2 ∧ t.ring = j.ring ∧ t.idx = j.idx))
    if j.op = opEXCHANGE ∧ j.failed = none ∧ waits = false
        ∧ (s.xUnits sched e).all (fun u => decide (u ∈ j.written)) = true then
      .next (s.settle sched j (s.completeEpoch sched j e))
    else .next s

/-- EPOCH_ABORT, R230: the epoch stops here; what is held of it is discarded. -/
def execEpochAbort (sched : Fin 256) (epoch : Fin 65536) (sealFail : Bool) (s : State) :
    Host.Outcome State Fault Refusal :=
  let s1 := s.modSched sched (fun c => { c with held := c.held.filter (fun x => decide (x.epoch ≠ epoch.val)) })
  match (s.sched sched).job with
  | none => .next s1
  | some j =>
    if j.epoch = epoch.val ∧ j.failed = none then
      .next ((s1.modXJob sched (fun j => { j with failed := some sealFail })).dropTags j.ring j.idx)
    else .next s1

/-- H_DST as it was before a failed epoch (R230, R231). -/
def State.restoreDst (s : State) (j : XJob) (e : Entry) : State :=
  let t := s.tensorOf j.plot (e.u16 16)
  if j.op = opEXCHANGE ∧ j.written ≠ [] then
    { s with hbm := s.hbm.writePieces (s.pieces j.plot t.addr j.dstOld.length) j.dstOld }
  else s

/-- A port of the schedule has lost its link adder and has not yet changed to the vector-engine path (R175). -/
def State.switchDue (s : State) (k : Nat) : Bool :=
  s.fabric.pathWant.any (fun w => w.2 && (s.xNodes k).any (fun n => decide (n ≠ s.node ∧ w.1 ∈ s.routeOf n)))

/-- EPOCH_REPLAY, R231: a failed epoch runs once more from its unchanged send buffers; after a seal
failure or a second failure the descriptor completes with EXCHANGE_FAILED and nothing of the epoch
stays in H_DST.  A replay waits for a path switch that is due (R175). -/
def execEpochReplay (sched : Fin 256) (s : State) : Host.Outcome State Fault Refusal :=
  match (s.sched sched).job with
  | none => .next s
  | some j =>
    let e := s.xEntry j
    let s1 := s.restoreDst j e
    match j.failed with
    | none => .next s
    | some sealFail =>
      if sealFail = true ∨ j.replayed = true then
        .next (((if j.op = opEXCHANGE then s1.countWrap (CNT_XCH_REPLAY.FAILED j.plot) 1 else s1).dropEpoch j.ring j.idx).finish
          j.ring j.idx 0x1A 0)
      else if s.switchDue sched = true then .next s
      else
        let s2 := s1.countWrap (CNT_XCH_REPLAY.REPLAYS j.plot) 1
        .next (((s2.settle sched j (s2.restart sched j)).takeHeld sched j.epoch).tryFinish sched)

/-! ### DISPATCH -/

/-- The checks that DISPATCH and COMBINE share: fields, position and epoch (R226, Table 8.7). -/
def State.dispatchFields (s : State) (e : Entry) (cap : Bool) : List (Nat × Bool) :=
  [e.reserved [(279, 64), (303, 288)], (37, decide (e.tope = 0 ∨ 8 < e.tope)), (30, cap && decide (e.capRows = 0)),
   (34, decide (s.node ∉ s.xNodes (e.u8 34))), (32, !s.epochAhead (e.u8 34) (e.u16 32))]

/-- The checks of a DISPATCH. -/
def State.dispatchChecks (s : State) (p : Nat) (e : Entry) : List (Nat × Bool) :=
  let m := e.tokens * e.tope
  let x := s.tensorOf p (e.u16 8)
  let some_ := decide (e.tokens ≠ 0)
  let words (n : Nat) (t : Tensor) : Bool := decide (t.fmt = 0xE ∧ n ≤ t.count)
  s.dispatchFields e (!e.reuse) ++ [(28, decide (e.numExp = 0)),
    (8, some_ && s.badHandle p (e.u16 8) (fun t => t.shapeIs (some e.tokens) none)),
    (10, some_ && s.badHandle p (e.u16 10) (words (2 * m))),
    (12, some_ && s.badHandle p (e.u16 12) (words e.numExp)),
    (14, decide (e.localExp ≠ 0) && s.badOutput p (e.u16 14) (fun t =>
      (e.reuse || decide (t.rows = e.localExp * e.capRows)) && (!some_ || decide (t.fmt = x.fmt ∧ t.cols = x.cols)))),
    (18, decide (e.localExp ≠ 0) && s.badOutput p (e.u16 18)
      (words (2 * (s.tensorOf p (e.u16 14)).rows))),
    (20, some_ && s.badOutput p (e.u16 20) (words m))]

/-- DISPATCH, R233 to R236. -/
def dispatchRows (s : State) (p : Nat) (e : Entry) (r i : Nat) : Except Fail State := do
  let k := e.u8 34
  let m := e.tokens * e.tope
  checks (s.dispatchChecks p e)
  let route ← s.rawWords p (e.u16 10) (2 * m)
  let map ← if e.tokens = 0 then pure [] else s.rawWords p (e.u16 12) e.numExp
  if s.routeInvalid e route map then throw (.code 0x1B 0)
  else
    let old ← s.rawWords p (e.u16 20) m
    let placed := if e.reuse then s.recorded e route map old
      else placeRows e.capRows (s.xNodes k).length (s.xPos k) [] (s.choices e route map)
    let s1 ← if e.reuse then pure s else
      s.storeWords p r (s.tensorOf p (e.u16 20)) ((List.range m).map (fun n =>
        (n, match placed.find? (fun q => decide (q.1.token * e.tope + q.1.rank = n)) with
          | some (_, some row) => BitVec.ofNat 32 row
          | _ => 0xFFFFFFFF)))
    let dropped := if e.reuse then 0 else (placed.filter (fun q => q.2.isNone)).length
    let j : XJob := { ring := r, idx := i, plot := p, op := opDISPATCH, epoch := e.u16 32 }
    let s2 := (s1.countWrap (CNT_DISP_DROP.COUNT p) dropped).beginJob k j
    let s3 ← s2.startDispatch k j e placed
    pure ((s3.takeHeld k j.epoch).tryFinish k)

/-- DISPATCH: it waits while another epoch of its schedule is in execution. -/
def execDispatch (ring : Fin 1024) (idx : Nat) (s : State) : Host.Outcome State Fault Refusal :=
  if (!s.stopped ring idx && (s.entry ring idx).any (fun e => (s.sched (e.u8 34)).job.isSome)) = true then .next s
  else s.issue ring idx opDISPATCH (fun s p e => dispatchRows s p e ring idx)

/-- DISPATCH_ROW_ARRIVE, R225, R235. -/
def execDispatchRowArrive (port : Fin 24) (sched : Fin 256) (src : Fin 1024) (epoch : Fin 65536) (row : Nat)
    (rank : Fin 8) (token : BitVec 32) (values : List (BitVec 32)) (s : State) :
    Host.Outcome State Fault Refusal :=
  .next (s.arrive sched { kind := 4, port := port, src := src, epoch := epoch, block := row, header := rank
                          token := token.toNat, codes := values })

/-- DISPATCH_STREAM_CLOSE, R225, R235. -/
def execDispatchStreamClose (port : Fin 24) (sched : Fin 256) (src : Fin 1024) (epoch : Fin 65536) (s : State) :
    Host.Outcome State Fault Refusal :=
  .next (s.arrive sched { kind := 5, port := port, src := src, epoch := epoch })

/-- The checks of a COMBINE. -/
def State.combineChecks (s : State) (p : Nat) (e : Entry) : List (Nat × Bool) :=
  let m := e.tokens * e.tope
  let some_ := decide (e.tokens ≠ 0)
  let words (n : Nat) (t : Tensor) : Bool := decide (t.fmt = 0xE ∧ n ≤ t.count)
  let y := s.tensorOf p (e.u16 16)
  s.dispatchFields e true ++ [
    (10, some_ && s.badHandle p (e.u16 10) (words (2 * m))),
    (16, decide (e.localExp ≠ 0) && s.badHandle p (e.u16 16) (fun t =>
      t.shapeIs (some (e.localExp * e.capRows)) none)),
    (18, decide (e.localExp ≠ 0) && s.badHandle p (e.u16 18) (words (2 * (e.localExp * e.capRows)))),
    (20, some_ && s.badHandle p (e.u16 20) (words m)),
    (22, some_ && s.badOutput p (e.u16 22) (fun t => decide (t.fmt = 0xE ∨ t.fmt = 0xB)
      && t.shapeIs (some e.tokens) (if e.localExp = 0 then none else some y.cols)))]

/-- COMBINE, R237. -/
def combineRows (s : State) (p : Nat) (e : Entry) (r i : Nat) : Except Fail State := do
  let k := e.u8 34
  let m := e.tokens * e.tope
  checks (s.combineChecks p e)
  let drec ← s.rawWords p (e.u16 20) m
  let j : XJob :=
    { ring := r, idx := i, plot := p, op := opCOMBINE, epoch := e.u16 32
      expect := (drec.filter (fun w => decide (w.toNat ≠ 0xFFFFFFFF))).length }
  let s1 := s.beginJob k j
  let s2 ← s1.startCombine k j e
  pure ((s2.takeHeld k j.epoch).tryFinish k)

/-- COMBINE: it waits while another epoch of its schedule is in execution. -/
def execCombine (ring : Fin 1024) (idx : Nat) (s : State) : Host.Outcome State Fault Refusal :=
  if (!s.stopped ring idx && (s.entry ring idx).any (fun e => (s.sched (e.u8 34)).job.isSome)) = true then .next s
  else s.issue ring idx opCOMBINE (fun s p e => combineRows s p e ring idx)

/-- COMBINE_ROW_ARRIVE, R225, R237. -/
def execCombineRowArrive (port : Fin 24) (sched : Fin 256) (src : Fin 1024) (epoch : Fin 65536) (rank : Fin 8)
    (token : BitVec 32) (values : List (BitVec 32)) (s : State) : Host.Outcome State Fault Refusal :=
  .next (s.arrive sched { kind := 6, port := port, src := src, epoch := epoch, header := rank
                          token := token.toNat, codes := values })

end Sys2Proof.Machine
end

