-- ==== Sys2Proof/Machine/UpdateOps.lean ====
section
/-! DEFINITION. Parameter update (R239 to R263): region records and their checks, the schedule engine,
and the arithmetic of Rules M, A, F and P. -/

namespace Sys2Proof.Machine

/-! ### Region records (Table 9.1) -/

/-- A region record. -/
abbrev Region := BitVec 512

/-- RULE. -/
def Region.rule (r : Region) : Nat := regFld r 0 3 0
/-- NESTEROV. -/
def Region.nesterov (r : Region) : Bool := decide (regFld r 0 7 7 = 1)
/-- LAZY. -/
def Region.lazy (r : Region) : Bool := decide (regFld r 0 6 6 = 1)
/-- STRICT. -/
def Region.strict (r : Region) : Bool := decide (regFld r 0 5 5 = 1)
/-- FROZEN. -/
def Region.frozen (r : Region) : Bool := decide (regFld r 0 4 4 = 1)
/-- A handle field. -/
def Region.h (r : Region) (byte : Nat) : Nat := regFld r byte 15 0
/-- ROWS. -/
def Region.rows (r : Region) : Nat := regFld r 16 31 0
/-- COLS. -/
def Region.cols (r : Region) : Nat := regFld r 20 23 0
/-- GOFF. -/
def Region.goff (r : Region) : Nat := regFld r 24 31 0
/-- A Y32 field. -/
def Region.y (r : Region) (byte : Nat) : Word := BitVec.ofNat 32 (regFld r byte 31 0)
/-- BETA1. -/
def Region.beta1 (r : Region) : Word := r.y 28
/-- BETA2. -/
def Region.beta2 (r : Region) : Word := r.y 32
/-- EPS. -/
def Region.eps (r : Region) : Word := r.y 36
/-- DECAY. -/
def Region.decay (r : Region) : Word := r.y 40
/-- LR_MULT. -/
def Region.lrMult (r : Region) : Word := r.y 44
/-- D_CLIP. -/
def Region.dClip (r : Region) : Word := r.y 48
/-- P_PERIOD. -/
def Region.period (r : Region) : Nat := regFld r 52 15 0
/-- P_BLOCK_LOG2. -/
def Region.blockLog2 (r : Region) : Nat := regFld r 54 7 0
/-- STEP_COUNT. -/
def Region.count (r : Region) : Nat := regFld r 56 31 0
/-- A first moment is kept (R253). -/
def Region.hasM (r : Region) : Bool := !isZero r.beta1
/-- Rule F factors the second moment (R254). -/
def Region.factored (r : Region) : Bool := decide (32 ≤ r.rows ∧ 32 ≤ r.cols)
/-- Reserved bytes and bits are zero (R239). -/
def Region.reservedOk (r : Region) : Bool :=
  decide (regFld r 1 7 0 = 0 ∧ regFld r 23 7 0 = 0 ∧ regFld r 55 7 0 = 0 ∧ regFld r 60 31 0 = 0)
/-- n: the number of the commit in progress; it stops where STEP_COUNT saturates (R259). -/
def Region.n (r : Region) : Nat := min (r.count + 1) 0xFFFFFFFF

/-- Block sizes along one axis of a Rule P region. -/
def blockSizes (n b : Nat) : List Nat :=
  (List.range (ceilDiv n b)).map (fun k => min b (n - k * b))

/-- The blocks of a Rule P region, row-major: (first row, rows, first column, columns) (R521). -/
def Region.grid (r : Region) : List (Nat × Nat × Nat × Nat) :=
  let b := 2 ^ r.blockLog2
  (List.range (ceilDiv r.rows b)).flatMap (fun i =>
    (List.range (ceilDiv r.cols b)).map (fun j =>
      (i * b, min b (r.rows - i * b), j * b, min b (r.cols - j * b))))

/-- Elements of H_V that the blocks of a region need, and the further ones of H_AUX (R521). -/
def Region.statSize (r : Region) : Nat × Nat :=
  let g := r.grid
  (sumNat (g.map (fun q => q.2.1 * q.2.1 + q.2.2.2 * q.2.2.2)), 16 * g.length)

/-! ### Checks (Table 9.3, R262) -/

/-- A Y32 value in [0, 1). -/
def unitRange (w : Word) : Bool :=
  !isNaN w && (isZero w || decide (0 < y32Key w ∧ y32Key w < y32Key y32One))

/-- A Y32 value that is finite and not negative. -/
def finiteNonNeg (w : Word) : Bool := !nonFinite w && (isZero w || decide (0 < y32Key w))

/-- A Y32 value that is finite and positive. -/
def finitePos (w : Word) : Bool := !nonFinite w && !isZero w && decide (0 < y32Key w)

/-- A state tensor in a format, with elements enough; a narrow one takes writes (R64). -/
def State.stateOk (s : State) (p h fmt n : Nat) : Bool :=
  !s.badOutput p h (fun t => decide (t.fmt = fmt ∧ n ≤ t.count))

/-- The touched rows of a LAZY region (R522). -/
def State.touched (s : State) (p : Nat) (r : Region) : Except Fail (List Nat) := do
  let w ← s.loadWords p (s.tensorOf p (r.h 14))
  pure ((w.takeWhile (fun x => decide (x ≠ 0xFFFFFFFF))).map BitVec.toNat)

/-- The list rises strictly. -/
def risesStrictly : List Nat → Bool
  | a :: b :: l => decide (a < b) && risesStrictly (b :: l)
  | _ => true

/-- The handles that the rule and flags use. -/
def State.handlesOk (s : State) (p : Nat) (r : Region) : Bool :=
  let n := r.rows * r.cols
  let st := r.statSize
  s.stateOk p (r.h 2) 0xD n
  && !s.badHandle p (r.h 4) (fun t => decide ((t.fmt = 0xE ∨ t.fmt = 0xB) ∧ r.goff + n ≤ t.count))
  && (!r.hasM || s.stateOk p (r.h 6) 0x8 n)
  && (if r.rule = 2 then s.stateOk p (r.h 8) 0x8 n
      else if r.rule = 3 then
        (if r.factored then s.stateOk p (r.h 8) 0xE (r.rows + r.cols) else s.stateOk p (r.h 10) 0xE n)
      else if r.rule = 4 then s.stateOk p (r.h 8) 0xE st.1 && s.stateOk p (r.h 10) 0xE (st.1 + st.2)
      else true)
  && (!r.lazy || (s.stateOk p (r.h 12) 0xE r.rows && s.stateOk p (r.h 14) 0xE 0))

/-- The checks of Table 9.3 other than that of STRICT; the list of touched rows is read for it. -/
def State.regionOk (s : State) (p : Nat) (r : Region) : Except Fail Bool := do
  let plain := r.reservedOk && decide (1 ≤ r.rule ∧ r.rule ≤ 4 ∧ 1 ≤ r.rows ∧ 1 ≤ r.cols)
    && unitRange r.beta1 && unitRange r.beta2
    && finiteNonNeg r.eps && finiteNonNeg r.decay && finiteNonNeg r.lrMult
    && (decide (r.rule ≠ 3) || finitePos r.dClip)
    && (decide (r.rule ≠ 4) || (finitePos r.eps && decide (4 ≤ r.blockLog2 ∧ r.blockLog2 ≤ 7 ∧ 1 ≤ r.period)))
    && (!r.lazy || decide ((r.rule = 1 ∨ r.rule = 2) ∧ r.cols % 32 = 0))
  if plain = false ∨ s.handlesOk p r = false then pure false
  else if r.lazy then
    let l ← s.touched p r
    pure (risesStrictly l && l.all (fun x => decide (x < r.rows)))
  else pure true

/-- The schedule engine's configuration passes R262. -/
def State.schedOk (s : State) (p : Nat) : Bool :=
  let y (f : Fld) : Word := BitVec.ofNat 32 (s.rd f)
  let gamma := y (CFG_SCHED_GAMMA.GAMMA p)
  let mult := y (CFG_SCHED_MULT.MULT p)
  finiteNonNeg (y (CFG_SCHED_PEAK.PEAK p)) && finiteNonNeg (y (CFG_SCHED_FLOOR.FLOOR p))
  && finitePos mult && decide (y32Key y32One ≤ y32Key mult)
  && finitePos gamma && decide (y32Key gamma ≤ y32Key y32One)
  && !(decide (s.rd (CFG_SCHED_INTERVAL.STEPS p) = 0)
    && decide (s.rd (CFG_SCHED_CTL.DECAY_FORM p) = 3 ∨ s.rd (CFG_SCHED_CTL.DECAY_FORM p) = 4))

/-! ### The schedule engine (R260) -/

/-- τ and the period after the restarts. -/
def restarts (mult : Nat) : Nat → Nat → Nat → Nat × Nat
  | 0, tau, p => (tau, p)
  | n + 1, tau, p =>
    if tau < p then (tau, p)
    else
      let q := min (p * mult / 2 ^ 149) (2 ^ 32 - 1)
      if q = p then (tau % p, p) else restarts mult n (tau - p) q

/-- A rational as a reference. -/
def ratio (n d : Nat) : Exact := { n := n, d := d }

/-- The larger of two references. -/
def Exact.max (a b : Exact) : Exact := if a.n * b.d < b.n * a.d then b else a

/-- The exact rate of R260 from schedule count `c`; magnitudes in units of 2⁻¹⁴⁹ over 2¹⁴⁹. -/
def rateExact (warm decay : Nat) (restart : Bool) (peak floor mult gamma w0 p0 interval c : Nat) : Exact :=
  let u := 2 ^ 149
  let w := if warm = 0 then 0 else w0
  if c < w then
    if warm = 1 then ratio (peak * (c + 1)) (u * w)
    else
      let v := (fixOne - fixCos (fixPi * ((c : Int) + 1) / (w : Int))).toNat
      ratio (peak * v) (u * 2 * 2 ^ fixBits)
  else
    let (tau, p) := if restart ∧ 0 < p0 then restarts mult (2 ^ 17) (c - w) p0 else (c - w, p0)
    let mix (a b : Nat) : Exact :=
      { n := ((floor : Int) * (b : Int) + ((peak : Int) - floor) * (a : Int)).toNat, d := u * b }
    if decay = 1 then
      if p = 0 then ratio peak u
      else if p ≤ tau then ratio floor u
      else mix (fixOne + fixCos (fixPi * (tau : Int) / (p : Int))).toNat (2 * 2 ^ fixBits)
    else if decay = 2 then
      if p = 0 then ratio peak u
      else if p ≤ tau then ratio floor u
      else mix (p - tau) p
    else if decay = 3 then
      (ratio floor u).max (ratio (peak * 2 ^ 200) (u * isqrt (2 ^ 400 * (interval + tau) / interval)))
    else if decay = 4 then
      let k := tau / interval
      (ratio floor u).max (ratio (peak * gamma ^ k) (u * u ^ k))
    else ratio peak u

/-- The rate, within 2⁻²⁰ relative of the pseudocode. -/
def State.schedRate (s : State) (p : Nat) : Word :=
  let m (f : Fld) : Nat := (y32Val (BitVec.ofNat 32 (s.rd f))).mag
  let c := s.rd (CNT_SCHED_STEP.COUNT p)
  let r := rateExact (s.rd (CFG_SCHED_CTL.WARM_FORM p)) (s.rd (CFG_SCHED_CTL.DECAY_FORM p))
    (decide (s.rd (CFG_SCHED_CTL.RESTART_EN p) = 1)) (m (CFG_SCHED_PEAK.PEAK p)) (m (CFG_SCHED_FLOOR.FLOOR p))
    (m (CFG_SCHED_MULT.MULT p)) (m (CFG_SCHED_GAMMA.GAMMA p)) (s.rd (CFG_SCHED_WARMUP.STEPS p))
    (s.rd (CFG_SCHED_PERIOD.STEPS p)) (s.rd (CFG_SCHED_INTERVAL.STEPS p)) c
  within 0x44 (BitVec.ofNat 32 c) (BitVec.ofNat 32 (s.rd (CFG_SCHED_PEAK.PEAK p))) r 20 0 1

/-! ### The records of an update range -/

/-- The region records of a range, read from the table. -/
def State.readRegions (s : State) (p h first n : Nat) : Except Fail (List Region) := do
  let t := s.tensorOf p h
  let l ← s.readPlot p (t.addr + 64 * first) (64 * n)
  pure ((List.range n).map (fun k => BitVec.ofNat 512 (leNat ((l.drop (64 * k)).take 64))))

/-- The table is one of `n` records at least, and not more than 65,536 are used (R239, R520). -/
def State.badTable (s : State) (p h n : Nat) : Bool :=
  s.badHandle p h (fun t => decide (t.fmt = 0xE ∧ 16 * n ≤ t.count ∧ n ≤ 65536))

/-- The field bits that an UPDATE uses. -/
def updateUsed : List (Nat × Nat) := [(143, 64), (191, 160)]

/-- GSCALE. -/
def Entry.gscale (e : Entry) : Word := BitVec.ofNat 32 (e.u32 20)

/-- The checks of R246 and R247 on the records of an update range, before the schedule's (R262). -/
def State.checkRegions (s : State) (p : Nat) (rs : List Region) : Except Fail Unit := do
  if rs.any (fun r => r.frozen && r.strict) then throw (.code 0x1E 0)
  else
    let ok ← rs.mapM (s.regionOk p)
    if ok.all id then (if s.schedOk p then pure () else throw (descError 0xFFFFFFFF))
    else throw (descError 14)

/-- The update range of an UPDATE outside a step: its own, read and checked (R245). -/
def State.ownRange (s : State) (p : Nat) (e : Entry) : Except Fail (List Region) := do
  let first := e.u16 10
  let n := e.u16 12
  checkAll (decide (n = 0)) [e.reserved updateUsed, (20, nonFinite e.gscale)] [(8, s.badTable p (e.u16 8) (first + n))]
  if n = 0 then pure []
  else
    let rs ← s.readRegions p (e.u16 8) first n
    s.checkRegions p rs
    pure rs

/-! ### Rules M and A (R253, R258) -/

/-- w − η (d + λ w). -/
def stepDown (eta lam w d : Word) : Lane Word := do
  let a ← lane2 mulY32 lam w
  let b ← lane2 addY32 d a
  let c ← lane2 mulY32 eta b
  lane2 subY32 w c

/-- β x + (1 − β) y. -/
def blend (beta x y : Word) : Lane Word := do
  let a ← lane2 mulY32 beta x
  let b ← lane2 mulY32 (subY32 y32One beta) y
  lane2 addY32 a b

/-- Rule M on one element: (w, m). -/
def ruleM (r : Region) (eta w m g : Word) : Lane (Word × Word) := do
  if r.hasM then
    let a ← lane2 mulY32 r.beta1 m
    let m' ← lane2 addY32 a g
    let d ← if r.nesterov then do
        let b ← lane2 mulY32 r.beta1 m'
        lane2 addY32 g b
      else pure m'
    let w' ← stepDown eta r.decay w d
    pure (w', m')
  else
    let w' ← stepDown eta r.decay w g
    pure (w', m)

/-- Rule A on one element: (w, m, u). -/
def ruleA (r : Region) (eta bias1 root2 w m u g : Word) : Lane (Word × Word × Word) := do
  let m' ← if r.hasM then blend r.beta1 m g else pure m
  let u2 ← lane2 mulY32 u u
  let g2 ← lane2 mulY32 g g
  let v ← blend r.beta2 u2 g2
  let u' ← lane1 fnSqrt v
  let mh ← if r.hasM then lane2 fnDiv m' bias1 else pure g
  let uh ← lane2 fnDiv u' root2
  let a ← lane2 addY32 uh r.eps
  let d ← lane2 fnDiv mh a
  let w' ← stepDown eta r.decay w d
  pure (w', m', u')

/-- The missed steps of a touched row (R258): the factors on m, u and w for gap k. -/
def missed (r : Region) (eta : Word) (k : Nat) : Word × Word × Word :=
  (fnPow r.beta1 (k - 1), fnHalfPow r.beta2 (k - 1),
   fnPow (subY32 y32One (mulY32 eta r.decay)) (k - 1))

/-- The gap of a row last committed at count τ. -/
def gapOf (n tau : Nat) : Nat := if n ≤ tau then 1 else n - tau

/-! ### Rule F (R254) -/

/-- The shares of a sum over rows on `n` engines: contiguous rows, a row of more than 2²⁰ elements divided further. -/
def splitParts (n : Nat) (rows : List (List Word)) : List (List Word) :=
  (piecesBy (ceilDiv rows.length n) rows).flatMap (fun q =>
    if q.any (fun row => decide (2 ^ 20 < row.length)) then q.flatMap (piecesBy (2 ^ 20)) else [q.flatten])

/-- A sum whose parts lie on `n` engines: on one engine in its fixed order, else partials of shares combined as they
arrive. -/
def splitSum (base n : Nat) (rows : List (List Word)) : Word × Nat :=
  if n ≤ 1 then veSumMade rows.flatten
  else
    let parts := (splitParts n rows).map veSumMade
    stackSum (opMade addY32) (0, 0) (arrival base parts.length parts)

/-- The sum of one row: on one engine in its fixed order, else as R161 gives. -/
def rowOn (base n : Nat) (row : List Word) : Word × Nat := if n ≤ 1 then veSumMade row else rowSumMade base row

/-- Column sums in the same way. -/
def splitColumns (base n : Nat) (rows : List (List Word)) : List Word × Nat :=
  let parts := (piecesBy (ceilDiv rows.length (max 1 n)) rows).map columnSums
  if n ≤ 1 then parts.headD ([], 0) else stackSum (addTile addY32) ([], 0) (arrival base parts.length parts)

/-- The second-moment estimates v̂ of a Rule F region, with its new statistics (ρ then γ, or v); `base` numbers the
choices of order, `rowShares` for each row and as many for each further sum. -/
def ruleFStats (r : Region) (base n : Nat) (st : List Word) (g : List (List Word)) :
    Lane (List Word × List (List Word)) := do
  let g2 ← g.mapM (fun row => row.mapM (fun x => do
    let y ← lane2 mulY32 x x
    lane2 addY32 y r.eps))
  let bias2 := fnBias r.beta2 r.n
  if r.factored then
    let far := base + rowShares * r.rows
    let rho ← (List.range r.rows).mapM (fun i => do
      let t ← laneMade (rowOn (base + rowShares * i) n (g2.getD i []))
      blend r.beta2 (st.getD i 0) (divNat t r.cols))
    let cs ← laneMade (splitColumns far n g2)
    let gam ← (List.range r.cols).mapM (fun j =>
      blend r.beta2 (st.getD (r.rows + j) 0) (divNat (cs.getD j 0) r.rows))
    let t ← laneMade (splitSum (far + 64) n (rho.map (fun x => [x])))
    let den ← lane2 mulY32 (divNat t r.rows) bias2
    let vh ← rho.mapM (fun a => gam.mapM (fun b => do
      let x ← lane2 mulY32 a b
      lane2 fnDiv x den))
    pure (rho ++ gam, vh)
  else
    let v ← (List.range (r.rows * r.cols)).mapM (fun k => blend r.beta2 (st.getD k 0) (g2.flatten.getD k 0))
    let vh ← v.mapM (fun x => lane2 fnDiv x bias2)
    pure (v, rowsOf r.rows r.cols vh)

/-- The scaled and clipped gradient s of a Rule F region. -/
def ruleFScale (r : Region) (base n : Nat) (g vh : List (List Word)) : Lane (List (List Word)) := do
  let sc ← (g.zip vh).mapM (fun q => (q.1.zip q.2).mapM (fun z => do
    let d ← lane1 fnSqrt z.2
    lane2 fnDiv z.1 d))
  let sq ← sc.mapM (fun row => row.mapM (fun x => lane2 mulY32 x x))
  let t ← laneMade (splitSum base n sq)
  let q ← lane1 fnSqrt (divNat t (r.rows * r.cols))
  let k ← lane2 fnDiv q r.dClip
  let c := maxY32 y32One k
  sc.mapM (fun row => row.mapM (fun x => lane2 fnDiv x c))

/-- Choices of order that a Rule F commit takes. -/
def ruleFDraws (r : Region) : Nat := 2 * rowShares * r.rows + 256

/-! ### Rule P (R255 to R257) -/

/-- A matrix as its rows. -/
abbrev Mat := List (List Word)

/-- The transpose of a matrix with `c` columns. -/
def Mat.tr (a : Mat) (c : Nat) : Mat := transpose c a

/-- A sum of products, one engine's work. -/
def dotLane (x y : List Word) : Lane Word := do
  let p ← laneMade (zipMade mulY32 x y)
  laneMade (veSumMade p)

/-- Product of an r × k and a k × c matrix, the second given by its columns. -/
def mulCols (a : Mat) (bt : Mat) : Lane Mat := a.mapM (fun x => bt.mapM (fun y => dotLane x y))

/-- Product of square matrices. -/
def Mat.mul (a b : Mat) : Lane Mat := mulCols a (transpose a.length b)

/-- A matrix with a function applied to each element and its place. -/
def Mat.mapAt (a : Mat) (f : Nat → Nat → Word → Lane Word) : Lane Mat :=
  (List.range a.length).mapM (fun i =>
    (List.range (a.getD i []).length).mapM (fun j => f i j ((a.getD i []).getD j 0)))

/-- The identity times a value. -/
def scalarMat (n : Nat) (x : Word) : Mat :=
  (List.range n).map (fun i => (List.range n).map (fun j => if i = j then x else 0))

/-- A + ε I. -/
def Mat.plusDiag (a : Mat) (eps : Word) : Lane Mat :=
  a.mapAt (fun i j x => if i = j then lane2 addY32 x eps else pure x)

/-- One row of the factor: its elements left of the diagonal, in order. -/
def choleskyRow (l : Mat) (row : List Word) (i : Nat) : Lane (List Word) :=
  (List.range i).foldlM (fun (done : List Word) j => do
    let lj := l.getD j []
    let t ← dotLane done (lj.take j)
    let d ← lane2 subY32 (row.getD j 0) t
    let x ← lane2 fnDiv d (lj.getD j y32One)
    pure (done ++ [x])) []

/-- Cholesky factorisation of A, row by row; none where a pivot falls below `floor` or is not finite. -/
def cholesky (a : Mat) (floor : Word) : Lane (Option Mat) :=
  (List.range a.length).foldlM (fun (acc : Option Mat) i =>
    match acc with
    | none => pure none
    | some l => do
      let row := a.getD i []
      let off ← choleskyRow l row i
      let t ← dotLane off off
      let pivot ← lane2 subY32 (row.getD i 0) t
      if nonFinite pivot ∨ y32Key pivot < y32Key floor then pure none
      else
        let d ← lane1 fnSqrt pivot
        pure (some (l ++ [off ++ [d]]))) (some [])

/-- max |M − I| ≤ 2⁻¹⁶. -/
def nearIdentity (m : Mat) : Bool :=
  (List.range m.length).all (fun i => (List.range (m.getD i []).length).all (fun j =>
    let x := (m.getD i []).getD j 0
    let d := absY32 (if i = j then subY32 x y32One else x)
    !isNaN d && decide (y32Key d ≤ 0x37800000)))

/-- The coupled Newton iteration, at most `n` times; none where it has not ended. -/
def newton : Nat → Mat → Mat → Lane (Option Mat)
  | 0, x, m => pure (if nearIdentity m then some x else none)
  | n + 1, x, m =>
    if nearIdentity m then pure (some x)
    else do
      let t ← m.mapAt (fun i j v => do
        let d ← lane2 subY32 (if i = j then 0x40A00000 else 0) v
        lane2 mulY32 d 0x3E800000)
      let t2 ← t.mul t
      let t4 ← t2.mul t2
      let x' ← x.mul t
      let m' ← t4.mul m
      newton n x' m'

/-- Outcome of a refresh of one root. -/
inductive Refresh where
  | root (x : Mat)
  | pivot
  | noconv
  deriving DecidableEq, Repr, Inhabited

/-- A refresh of A^(−1/4) for a statistic (R256). -/
def refreshRoot (stat : Mat) (eps pivotMin : Word) : Lane Refresh := do
  let a ← stat.plusDiag eps
  let n := a.length
  let top := (List.range n).foldl (fun m i => maxY32 m ((a.getD i []).getD i 0)) 0
  let f ← cholesky a (mulY32 pivotMin top)
  match f with
  | none => pure .pivot
  | some _ =>
    let sq ← laneMade (mapMade (fun v => mulY32 v v) a.flatten)
    let t ← laneMade (veSumMade sq)
    let norm ← lane1 fnSqrt t
    let c := fnSqrt (fnSqrt norm)
    let x0 ← lane2 fnDiv y32One c
    let m0 ← a.mapAt (fun _ _ v => lane2 fnDiv v norm)
    let o ← newton 24 (scalarMat n x0) m0
    match o with
    | some x => pure (.root x)
    | none => pure .noconv

/-- The stored parts of a Rule P block. -/
structure PBlock where
  l     : Mat := []
  r     : Mat := []
  head  : Nat := 0
  lRoot : Mat := []
  rRoot : Mat := []
  deriving DecidableEq, Repr, Inhabited

/-- β2 X + P, element by element. -/
def accumulate (r : Region) (a p : Mat) : Lane Mat :=
  (a.zip p).mapM (fun q => (q.1.zip q.2).mapM (fun z => do
    let x ← lane2 mulY32 r.beta2 z.1
    lane2 addY32 x z.2))

/-- Steps 1 and 2 of R255 for a block with gradient G: the new statistics and roots, and how many
refreshes failed at a pivot and in the iteration. -/
def PBlock.advance (b : PBlock) (r : Region) (pivotMin : Word) (g : Mat) (c : Nat) : Lane (PBlock × Nat × Nat) := do
  let gt := transpose c g
  let gg ← mulCols g g
  let l ← accumulate r b.l gg
  let hh ← mulCols gt gt
  let q ← accumulate r b.r hh
  let b1 := { b with l := l, r := q }
  if r.count % r.period ≠ 0 then pure (b1, 0, 0)
  else
    let fl ← refreshRoot l r.eps pivotMin
    let fr ← refreshRoot q r.eps pivotMin
    match fl, fr with
    | .root x, .root y => pure ({ b1 with lRoot := x, rRoot := y, head := 1 }, 0, 0)
    | _, _ =>
      let pv := b2n (decide (fl = .pivot)) + b2n (decide (fr = .pivot))
      let nc := b2n (decide (fl = .noconv)) + b2n (decide (fr = .noconv))
      pure (if b.head % 2 = 1 then b1 else { b1 with head := 2 }, pv, nc)

/-- Δ of a block (R255, step 4). -/
def PBlock.delta (b : PBlock) (eps : Word) (m : Mat) (c : Nat) : Lane Mat := do
  if b.head % 2 = 1 then
    let a ← mulCols b.lRoot (transpose c m)
    mulCols a (transpose b.rRoot.length b.rRoot)
  else
    let diag (a : Mat) : Lane (List Word) := (List.range a.length).mapM (fun i => do
      let x ← lane2 addY32 ((a.getD i []).getD i 0) eps
      let y ← lane1 fnSqrt x
      lane1 fnRsqrt y)
    let dl ← diag b.l
    let dr ← diag b.r
    m.mapAt (fun i j x => do
      let y ← lane2 mulY32 x (dl.getD i 0)
      lane2 mulY32 y (dr.getD j 0))

end Sys2Proof.Machine
end

