-- ==== Sys2Proof/Machine/Steps.lean ====
section
/-! DEFINITION. Meanings of the training step: NOP, STEP_OPEN, the head of a ring, STEP_CLOSE, the
step timeout and the step barrier; STASH_PUSH and STASH_POP (R177 to R199). -/

namespace Sys2Proof.Machine

/-- NOP, R349: without STEP_OPEN it issues and has no effect. -/
def execNop (ring : Fin 1024) (idx : Nat) (s : State) : Host.Outcome State Fault Refusal :=
  if (s.entry ring idx).any (fun e => e.stepOpen) then .next s
  else s.issue ring idx opNOP (fun s _ _ => .ok (s.finish ring idx 0x00 0))

/-! ### Opening (R177 to R180) -/

/-- The slots from `first` on, `n` of them, all lie in the lease of plot `p`. -/
def State.slotsLeased (s : State) (p first n : Nat) : Bool :=
  decide (n = 0 ∨ (s.rd (PLOT_SLOTS.SLOT_FIRST p) ≤ first
    ∧ first + n ≤ s.rd (PLOT_SLOTS.SLOT_FIRST p) + s.rd (PLOT_SLOTS.SLOT_COUNT p)))

/-- The step that a NOP opens: admitted, or refused for its budget (R180). -/
def State.newStep (s : State) (p : Nat) (e : Entry) (r : Nat) : Step :=
  let first := e.fld 24 8 0
  let n := e.fld 24 18 9
  { num := BitVec.ofNat 32 (e.u32 8), budget := e.u32 12, slotFirst := first, slotCount := n
    skipNf := e.flag 24 19, barrier := e.flag 24 20, recAddr := e.u64 16, recFunc := s.rd (RING_CFG.FUNC r)
    refused := decide (s.freeStash p < e.u32 12 * stashUnit)
    deadline := s.now + s.rd FLT_TMO_STEP.S * perS, energy0 := s.plotEnergy p
    stashPeak := (s.plot p).level, spillPeak := (s.plot p).spill
    start := (List.range n).foldl (fun t k => Tab.put t (first + k) (s.slot (first + k)).length) [] }

/-- The checks of a STEP_OPEN. -/
def State.openFields (s : State) (p : Nat) (e : Entry) : List (Nat × Bool) :=
  [e.reserved [(212, 64)], (8, (s.plot p).lastNum.any (fun n => decide (BitVec.ofNat 32 (e.u32 8) ≠ n + 1))),
    (16, decide (e.u64 16 % 64 ≠ 0)), (24, !s.slotsLeased p (e.fld 24 8 0) (e.fld 24 18 9))]

/-- A step of plot `p` has opened: a STEP_OPEN of another ring that stands at its head waits for the step's completion,
and is not charged for it (R178). -/
def State.stepOpensWait (s : State) (p r : Nat) : State :=
  (s.rings.filter (fun q => decide (q.1 ≠ r ∧ s.ringPlot q.1 = p))).foldl (fun s q =>
    s.modRing q.1 (fun k => { k with entries := k.entries.map (fun f =>
      if f.stage = 1 ∧ f.opcode = opNOP ∧ f.stepOpen = true then { f with stage := 0, deadline := none } else f) })) s

/-- STEP_OPEN, R177 to R180; a NOP that also carries IN_STEP becomes the first member of the step it
opens (R181). -/
def stepOpen (s : State) (p : Nat) (e : Entry) (r i : Nat) : Except Fail State := do
  let num := BitVec.ofNat 32 (e.u32 8)
  checks (s.openFields p e)
  let k := s.newStep p e r
  let k' := if e.inStep then { k with admitted := 1, closing := e.stepClose } else k
  let s1 := (s.modPlot p (fun q => { q with step := some k', lastNum := some num })).stepOpensWait p r
  let s2 := s1.modRing r (fun q => { q with entries := q.entries.map (fun f =>
    if f.idx = i ∧ e.inStep = true then { f with member := true, order := 1 } else f) })
  pure (s2.finish r i (if e.inStep && k.refused then 0x20 else 0x00) 0)

/-- STEP_OPEN: it waits while a step of its plot is open (R178). -/
def execStepOpen (ring : Fin 1024) (idx : Nat) (s : State) : Host.Outcome State Fault Refusal :=
  if ¬ (s.entry ring idx).any (fun e => e.stepOpen) = true
      ∨ (s.plot (s.ringPlot ring)).step.isSome = true then .next s
  else s.issue ring idx opNOP (fun s p e => stepOpen s p e ring idx)

/-! ### The head of a ring (R181, R182, R355) -/

/-- What the membership rule makes of a descriptor with IN_STEP. -/
inductive Judged where
  | waits
  | closed
  | admitted
  deriving DecidableEq, Repr

/-- R181, R182: δ against the open step, or against the last step opened. -/
def State.judge (s : State) (p : Nat) (e : Entry) : Judged :=
  let q := s.plot p
  let delta (n : Word) : Nat := (e.stepSeq + 256 - n.toNat % 256) % 256
  match q.step, q.lastNum with
  | some k, _ =>
    let d := delta k.num
    if d = 0 then (if k.closing then .closed else .admitted)
    else if d < 128 then .waits else .closed
  | none, some n =>
    let d := delta n
    if d = 0 ∨ 128 ≤ d then .closed else .waits
  | none, none => .waits

/-- Descriptor `i` of ring `r` is at the head with its timer running. -/
def State.atHead (s : State) (r i : Nat) (member : Bool) (order : Nat) : State :=
  let d := s.now + s.rd FLT_TMO_DESC.MS * perMs
  s.modRing r (fun q => { q with entries := q.entries.map (fun e =>
    if e.idx = i then { e with stage := 1, deadline := some d, member := member, order := order } else e) })

/-- A descriptor is admitted as the next member of the open step; the first UPDATE is its gate (R181, R182, R184). -/
def State.takeMember (s : State) (p r : Nat) (e : Entry) : State :=
  let n := (s.stepOf p).admitted + 1
  (s.atHead r e.idx true n).modStep p (fun k =>
    { k with admitted := n, closing := k.closing || e.stepClose
             gateAt := if e.opcode = opUPDATE ∧ k.gateAt = none then some n else k.gateAt })

/-- The update phase of plot `p` ends before it begins: every UPDATE member retires with `st`. -/
def State.skipPhase (s : State) (p : Nat) (e : Entry) (st : Nat) (flags : List Nat) : State :=
  let g : Gate := { rtab := e.u16 8, first := e.u16 14, count := e.u16 16, skip := some (BitVec.ofNat 8 st) }
  (s.flagStep p flags).modStep p (fun k => { k with gate := some g })

/-- An UPDATE that is the gate of its step ends before the gate has decided: the update phase is skipped (R185). -/
def State.gateLost (s : State) (p : Nat) (e : Entry) : State :=
  let k := s.stepOf p
  if e.member = true ∧ k.gateAt = some e.order ∧ k.gate = none then s.skipPhase p e 0x22 [6] else s

/-- An UPDATE outside a step reads and checks its records at the head of its ring (R245). -/
def State.readOwnRange (s : State) (p r : Nat) (e : Entry) : State :=
  if e.opcode = opUPDATE then
    match s.ownRange p e with
    | .ok rs => s.modRing r (fun q => { q with entries := q.entries.map (fun f =>
        if f.idx = e.idx then { f with regions := some rs } else f) })
    | .error f => s.failDesc r e.idx p f
  else s

/-- A descriptor with IN_STEP is judged at the head of its ring (R181, R182).  One with a header error that is admitted
fails there, a closing one after every member before it has retired. -/
def State.judgeHead (s : State) (p r : Nat) (e : Entry) : State :=
  match s.judge p e, e.headerError p with
  | .waits, _ => s
  | .closed, none => s.finish r e.idx 0x21 0
  | .closed, some v => s.finish r e.idx 0x10 v
  | .admitted, none => s.takeMember p r e
  | .admitted, some v =>
    let k := s.stepOf p
    if e.stepClose = true ∧ k.members ≠ k.admitted then s
    else
      let s1 := s.takeMember p r e
      (((s1.entry r e.idx).elim s1 (s1.gateLost p)).finish r e.idx 0x10 v)

/-- DESCRIPTOR_REACH_HEAD, R181, R182, R245, R355: fetched, with every earlier descriptor of its ring
issued, and no FLAG_WAIT among them still waiting.  The waits of R178 and R181 come before the timer starts. -/
def execDescriptorReachHead (ring : Fin 1024) (idx : Nat) (s : State) : Host.Outcome State Fault Refusal :=
  match s.entry ring idx with
  | none => .next s
  | some e =>
    let p := s.ringPlot ring
    let earlier := (s.ring ring).entries.takeWhile (fun f => decide (f.idx ≠ idx))
    if e.stage = 0 ∧ earlier.all Entry.hasIssued = true
        ∧ s.rd (RING_STS.STATE ring) = 1 ∧ s.plotState p = plotBOUND then
      if e.stepOpen = true ∧ e.headerError p = none then
        .next (if (s.plot p).step.isSome then s else s.atHead ring idx false 0)
      else if e.inStep then .next (s.judgeHead p ring e)
      else .next ((s.atHead ring idx false 0).readOwnRange p ring e)
    else .next s

/-! ### Completion and timeout (R182, R183, R187) -/

/-- STEP_CLOSE, R182, R183: the closing member has executed; it is counted, what its own retirement
does to the stash happens, and the step completes before it retires. -/
def execStepClose (ring : Fin 1024) (idx : Nat) (s : State) : Host.Outcome State Fault Refusal :=
  match s.entry ring idx with
  | none => .next s
  | some e =>
    let p := s.ringPlot ring
    if e.stage = 3 ∧ e.member = true ∧ e.stepClose = true ∧ (s.plot p).step.isSome = true then
      let s1 := ((s.retireStash p e).countMember p ring e).modRing ring (fun q =>
        { q with entries := q.entries.map (fun f =>
          if f.idx = idx then { f with member := false, links := [], pops := [] } else f) })
      .next (s1.completeStep p true)
    else .next s

/-- STEP_TIMEOUT, R187: after commit has begun the record carries TIMEOUT; before, members not yet
issued abort, the update phase is skipped, and a barrier that has not answered counts as failed. -/
def execStepTimeout (plot : Fin 64) (s : State) : Host.Outcome State Fault Refusal :=
  let p := plot.val
  match (s.plot p).step with
  | none => .next s
  | some k =>
    if s.now < k.deadline ∨ k.timedOut = true ∨ bit k.flags.toNat 8 = true then .next s
    else if k.gate.any (fun g => g.begun) then .next (s.flagStep p [8])
    else
      let s1 := s.flagStep p (if k.report ∧ k.answer = none then [6, 8, 9] else [6, 8])
      .next ((s1.modStep p (fun k => { k with timedOut := true })).settleStep p)

/-! ### Step barrier (R142, R185) -/

/-- STEP_BARRIER_ANSWER, R142: the manager's answer reaches the steps of its lease that wait for it. -/
def execStepBarrierAnswer (lease total : Nat) (failed : Bool) (s : State) :
    Host.Outcome State Fault Refusal :=
  let s1 := (List.range 64).foldl (fun s p =>
    if s.rd (PLOT_LEASE_ID.LEASE_ID p) = lease then
      s.modStep p (fun k => if k.report ∧ k.answer = none then
        { k with answer := some failed, totalNf := total } else k)
    else s) s
  .next (State.answered { s1 with mgr := { s1.mgr with
    answers := s1.mgr.answers.filter (fun a => decide (a.1 ≠ lease)) } } (1 + lease))

/-- BARRIER_REPORT, R142: the manager receives a device's report. -/
def execBarrierReport (node : Fin 1024) (lease total : Nat) (failed : Bool) (s : State) :
    Host.Outcome State Fault Refusal :=
  if s.mgr.managerNode = some s.node then
    .next (s.takeReport lease { node := node, total := total, failed := failed })
  else .next s

/-! ### STASH_PUSH and STASH_POP (R191 to R199) -/

/-- Rows of each slot: from H_LEN, or equal shares (Table 7.4). -/
def State.slotRows (s : State) (p : Nat) (e : Entry) : Except Fail (List Nat) := do
  let n := e.fld 20 18 9
  let rows := e.u32 16
  if e.flag 20 19 then
    let w ← s.loadWords p (Tab.val (s.plot p).handles (e.u16 12))
    let l := (w.take n).map BitVec.toNat
    if sumNat l = rows then pure l else throw (descError 12)
  else pure (List.replicate n (rows / n))

/-- The checks that a push and a pop share, a pop also of the record that it writes under (R64), and the rows of each
slot. -/
def State.stashChecks (s : State) (p : Nat) (e : Entry) : Except Fail (List Nat) := do
  let n := e.fld 20 18 9
  let rows := e.u32 16
  checks [e.reserved [(111, 64), (179, 128)], (8, s.badHandle p (e.u16 8) (fun t =>
      decide (rows ≤ t.rows) && (decide (e.opcode ≠ opPOP) || !isNarrow t.fmt || t.scaleOk))),
    (12, e.flag 20 19 && s.badHandle p (e.u16 12) (fun t => decide (t.fmt = 0xE ∧ n ≤ t.count))),
    (16, !e.flag 20 19 && decide (rows % n ≠ 0)), (20, !s.slotsLeased p (e.fld 20 8 0) n)]
  s.slotRows p e

/-- The bytes of rows r0 to r0 + nr - 1 of a plain tensor: its planes one after the other (R60, R192). -/
def State.rowBytes (s : State) (p : Nat) (t : Tensor) (r0 nr : Nat) : Except Fail (List Byte) := do
  let k := elemBytes t.fmt
  let a ← s.readPlot p (t.addr + k * (r0 * t.cols)) (k * (nr * t.cols))
  if t.fmt = 0xD then
    let b ← s.readPlot p (t.addr + t.residueOff + r0 * t.cols) (nr * t.cols)
    pure (a ++ b)
  else pure a

/-- The first `nb` blocks of a narrow tensor as bytes, each with the flag bits of its burst (R70). -/
def State.blockBytesOf (s : State) (p : Nat) (t : Tensor) (nb : Nat) :
    Except Fail (List (List Byte × Nat)) := do
  let per := blocksPerBurst t.fmt
  let m := ceilDiv nb per
  let raw ← s.readPlot p t.addr (256 * m)
  let bursts := (List.range m).map (fun j => (raw.drop (256 * j)).take 256)
  if (List.range m).all (fun j => headerOk (leNat ((bursts.getD j []).take 4)) t.fmt t.gen.toNat
      (t.burstCount j)) then
    let w := 1 + 4 * t.fmt
    pure ((List.range nb).map (fun b =>
      let l := bursts.getD (b / per) []
      ((l.drop (4 + b % per * w)).take w, bits (leNat (l.take 4)) 14 10)))
  else throw formatError

/-- Bitwise or of some numbers. -/
def orNat (l : List Nat) : Nat := l.foldl (fun a b => a ||| b) 0

/-- Row offsets of shares. -/
def offsets : Nat → List Nat → List Nat
  | _, [] => []
  | a, n :: l => a :: offsets (a + n) l

/-- The entries of a push, one for each slot, before they are placed (R192). -/
def State.pushEntries (s : State) (p : Nat) (e : Entry) (t : Tensor) (rows : List Nat) :
    Except Fail (List StashEntry) := do
  let base : StashEntry := { tag := e.u16 10, fmt := t.fmt, cols := t.cols, sEnc := t.sEnc, gen := t.gen }
  let parts := (offsets 0 rows).zip rows
  if isNarrow t.fmt then
    let per := blocksPerBurst t.fmt
    let all ← s.blockBytesOf p t (sumNat rows * t.rowBlocks)
    pure (parts.map (fun q =>
      let mine := (all.drop (q.1 * t.rowBlocks)).take (q.2 * t.rowBlocks)
      let n := ceilDiv mine.length per
      { base with
        rows := q.2, data := mine.flatMap (fun b => b.1), size := stashSize (256 * n)
        flags := (List.range n).map (fun j => orNat (((mine.drop (per * j)).take per).map (fun b => b.2))) }))
  else
    parts.mapM (fun q => do
      let d ← s.rowBytes p t q.1 q.2
      pure { base with rows := q.2, data := d, size := stashSize d.length })

/-- The bytes that an entry has in the spill extent: rows, or its own bursts (R192). -/
def StashEntry.bytes (e : StashEntry) : List Byte :=
  if isNarrow e.fmt then
    let per := blocksPerBurst e.fmt
    let w := 1 + 4 * e.fmt
    let n := e.data.length / w
    (List.range e.flags.length).flatMap (fun j =>
      padTo 256 (leBytes 4 (e.gen.toNat * 2 ^ 16 + e.flags.getD j 0 * 2 ^ 10
          + min per (n - per * j) * 16 + e.fmt) ++ (e.data.drop (per * w * j)).take (per * w)))
  else e.data

/-- The lowest free place of `size` bytes in an extent of `cap` bytes whose used parts rise. -/
def firstFit (cap size : Nat) : Nat → List (Nat × Nat) → Option Nat
  | off, [] => if off + size ≤ cap then some off else none
  | off, u :: l => if off + size ≤ u.1 then some off else firstFit cap size (max off (u.1 + u.2)) l

/-- A part put at its place among parts that rise. -/
def insPart (x : Nat × Nat) : List (Nat × Nat) → List (Nat × Nat)
  | [] => [x]
  | y :: l => if x.1 ≤ y.1 then x :: y :: l else y :: insPart x l

/-- Parts of the spill extent of plot `p` in use: entries in its slots and entries of pushes that have
not retired. -/
def State.spillUsed (s : State) (p : Nat) : List (Nat × Nat) :=
  let slots := (List.range (s.rd (PLOT_SLOTS.SLOT_COUNT p))).flatMap (fun k =>
    s.slot (s.rd (PLOT_SLOTS.SLOT_FIRST p) + k))
  let held := s.rings.flatMap (fun q => if s.ringPlot q.1 = p then
    q.2.entries.flatMap (fun e => e.links.map (fun l => l.2)) else [])
  let l := ((slots ++ held).filter (fun e => e.spilled)).map (fun e => (e.place, e.size))
  l.foldl (fun acc x => insPart x acc) []

/-- Base of the spill extent in host memory (Table 7.9). -/
def State.spillBase (s : State) (p : Nat) : Nat :=
  s.rd (CFG_STASH_SPILL_ADDR_LO.ADDR_LO p) * 4096 + s.rd (CFG_STASH_SPILL_ADDR_HI.ADDR_HI p) * 2 ^ 32

/-- Entries placed in the spill extent, each whole; none where one does not fit (R193, R194). -/
def State.spillEntries (s : State) (p : Nat) (used : List (Nat × Nat)) :
    List StashEntry → Option (List StashEntry)
  | [] => some []
  | e :: l =>
    match firstFit (s.rd (CFG_STASH_SPILL_SIZE.PAGES p) * 4096) e.size 0 used with
    | none => none
    | some a =>
      let used' := insPart (a, e.size) used
      (State.spillEntries s p used' l).map (fun r => { e with spilled := true, place := a } :: r)

/-- Placed entries wait in the descriptor for its retirement (R198). -/
def State.holdLinks (s : State) (r i : Nat) (l : List (Nat × StashEntry)) : State :=
  s.modRing r (fun q => { q with entries := q.entries.map (fun e =>
    if e.idx = i then { e with links := l } else e) })

/-- Entries placed in HBM one after the other, with the state that has them (R192). -/
def State.placeAll (s : State) (p r home : Nat) : List StashEntry → State × List StashEntry
  | [] => (s, [])
  | e :: l =>
    let e' := { e with place := s.stashPlace p home e.size }
    let s1 := (s.takeStash p e').charge p r (16 + e'.place) (hbmByteEnergy * e.data.length)
    let q := State.placeAll s1 p r home l
    (q.1, e' :: q.2)

/-- The stash engine of a die moves entries between its tile memory and the stash: its lines, and the HBM
accesses of those that lie in HBM (R192, R199, Table 19.8). -/
def State.stashLines (s : State) (home : Nat) (reading : Bool) (l : List StashEntry) : State :=
  l.foldl (fun s x =>
    let s1 := s.perf home 4 (ceilDiv x.data.length 64)
    if x.spilled then s1 else s1.perf x.place (if reading then 5 else 6) (ceilDiv x.data.length 32)) s

/-- The grove die of a tensor's first byte. -/
def State.homeDie (s : State) (p : Nat) (t : Tensor) : Nat :=
  ((s.pieces p t.addr 1).headD (0, 0)).1 / stackBytes

/-- STASH_PUSH, R191 to R194, R198, R199. -/
def stashPush (s : State) (p : Nat) (e : Entry) (r i : Nat) : Except Fail State := do
  let first := e.fld 20 8 0
  let n := e.fld 20 18 9
  if n = 0 then do
    checks [e.reserved [(111, 64), (179, 128)]]
    pure (s.finish r i 0x01 0)
  else
    let rows ← s.stashChecks p e
    let t := Tab.val (s.plot p).handles (e.u16 8)
    let es ← s.pushEntries p e t rows
    let size := sumNat (es.map (fun x => x.size))
    let limit := if e.member then (s.stepOf p).budget * stashUnit else s.freeStash p
    let home := s.homeDie p t
    let link (l : List StashEntry) : List (Nat × StashEntry) :=
      ((List.range l.length).map (· + first)).zip l
    let fail (s : State) (flags : List Nat) : State :=
      let s1 := if e.member then (s.flagStep p flags).modStep p (fun k => { k with aborted := true }) else s
      s1.finish r i 0x1C 0
    if (s.plot p).level + size ≤ limit then
      let (s1, es') := s.placeAll p r home es
      let s2 := (s1.stageAll p r home e).stashLines home false es'
      pure (((s2.holdLinks r i (link es')).showStash p).finish r i 0x00 0)
    else if s.rd (CFG_STASH_OVERFLOW.POLICY p) = 0 then pure (fail s [4, 6])
    else
      match s.spillEntries p (s.spillUsed p) es with
      | none => pure (fail s [1, 4, 6])
      | some es' =>
        let again := e.member && bit (s.stepOf p).flags.toNat 1
        let s1 := s.wr (STS_STASH_SPILLED.SPILLED p) 1
        let s2 := if again then s1 else s1.wsq (STS_STASH_SPILLED.SEQ p)
        let s3 := if e.member then s2.flagStep p [1] else s2
        let s4 := es'.foldl (fun (s : State) x => (s.hostWrite (s.rd (RING_CFG.FUNC r)) (s.spillBase p + x.place) x.bytes
          true).takeStash p x) s3
        let s5 := (s4.stageAll p r home e).stashLines home false es'
        pure (((s5.holdLinks r i (link es')).showStash p).finish r i 0x00 0)

/-- STASH_PUSH. -/
def execStashPush (ring : Fin 1024) (idx : Nat) (s : State) : Host.Outcome State Fault Refusal :=
  s.issue ring idx opPUSH (fun s p e => stashPush s p e ring idx)

/-- Rows of a plain entry written to H_DST from row `r0` (R195). -/
def State.putRows (s : State) (p r : Nat) (t : Tensor) (r0 : Nat) (x : StashEntry) : Except Fail State := do
  let k := elemBytes t.fmt
  let n := k * (x.rows * t.cols)
  let s1 ← s.writePlot p r (t.addr + k * (r0 * t.cols)) (x.data.take n)
  if t.fmt = 0xD then s1.writePlot p r (t.addr + t.residueOff + r0 * t.cols) (x.data.drop n)
  else pure s1

/-- The blocks of a narrow entry, each with the flags of its burst. -/
def StashEntry.blocks (x : StashEntry) : List (List Byte × Nat) :=
  let w := 1 + 4 * x.fmt
  (List.range (x.data.length / w)).map (fun b =>
    ((x.data.drop (w * b)).take w, x.flags.getD (b / blocksPerBurst x.fmt) 0))

/-- A restoring write of blocks into a narrow tensor from its first block (R197). -/
def State.restore (s : State) (p r h : Nat) (t : Tensor) (sEnc : Word) (bs : List (List Byte × Nat)) :
    Except Fail State := do
  let per := blocksPerBurst t.fmt
  let gen := t.gen + 1
  let s1 := s.modTensor p h (fun t => { t with sEnc := sEnc, gen := gen })
  (List.range (ceilDiv bs.length per)).foldlM (fun s j =>
    let mine := (bs.drop (per * j)).take per
    let head := gen.toNat * 2 ^ 16 + orNat (mine.map (fun b => b.2)) * 2 ^ 10 + t.burstCount j * 16 + t.fmt
    s.writePlot p r (t.addr + 256 * j) (padTo 256 (leBytes 4 head ++ mine.flatMap (fun b => b.1)))) s1

/-- STASH_POP, R195 to R199. -/
def stashPop (s : State) (p : Nat) (e : Entry) (r i : Nat) : Except Fail State := do
  let first := e.fld 20 8 0
  let n := e.fld 20 18 9
  if n = 0 then do
    checks [e.reserved [(111, 64), (179, 128)]]
    pure (s.finish r i 0x01 0)
  else
    let rows ← s.stashChecks p e
    let t := Tab.val (s.plot p).handles (e.u16 8)
    let slots := (List.range n).map (· + first)
    let tops := slots.filterMap (fun k => (s.slot k).head?)
    if tops.length ≠ n ∨ tops.any (fun x => decide (x.tag ≠ e.u16 10)) = true then throw (.code 0x1D 0)
    else if tops.any (fun x => decide (x.fmt ≠ t.fmt)) then throw (descError 8)
    else if tops.map (fun x => x.rows) ≠ rows ∨ tops.any (fun x => decide (x.cols ≠ t.cols)) = true
        ∨ (isNarrow t.fmt = true ∧ tops.any (fun x => decide (x.sEnc ≠ (tops.headD {}).sEnc)) = true) then
      throw (.code 0x1D 0)
    else if tops.any (fun x => !x.spilled && s.fenced x.place) then throw poisonedQuiet
    else
      let s1 := tops.foldl (fun s x =>
        if x.spilled then s else s.charge p r (16 + x.place) (hbmByteEnergy * x.data.length)) s
      let s2 ← if sumNat rows = 0 then pure s1
        else if isNarrow t.fmt then
          s1.restore p r (e.u16 8) t (tops.headD {}).sEnc (tops.flatMap StashEntry.blocks)
        else ((offsets 0 rows).zip tops).foldlM (fun s q => s.putRows p r t q.1 q.2) s1
      let home := s.homeDie p t
      let s3 := ((s2.stashLines home true tops).stageAll p r home e).modRing r (fun q => { q with entries := q.entries.map (fun f =>
        if f.idx = i then { f with pops := slots } else f) })
      pure (s3.finish r i 0x00 0)

/-- STASH_POP. -/
def execStashPop (ring : Fin 1024) (idx : Nat) (s : State) : Host.Outcome State Fault Refusal :=
  s.issue ring idx opPOP (fun s p e => stashPop s p e ring idx)

end Sys2Proof.Machine
end

