-- ==== Sys2Proof/Machine/Rings.lean ====
section
/-! DEFINITION. Meanings of the rings and the glade: doorbells, ring set-up, the life of a descriptor
from its fetch to its retirement or timeout, COPY, FENCE, flags, slab entries and the host's aperture
(R330 to R337, R343 to R364). -/

namespace Sys2Proof.Machine

/-! ### Functions -/

/-- Function `f` is bound to some plot; the physical function needs no binding (R329, R332). -/
def State.funcBound (s : State) (f : Nat) : Bool :=
  decide (f = 0) || s.boundPlots.any (fun p => decide (s.rd (PLOT_FUNC.VF p) = f))

/-- The host reaches function `f`: the link is up, the function exists and is in D0 (R324, R340). -/
def State.funcUp (s : State) (f : Nat) : Bool :=
  s.pcieRuns && s.pcie.answering && !(Tab.val s.pcie.funcs f).d3
  && (decide (f = 0) || (s.pcie.vfEnable && decide (f ≤ s.pcie.numVfs ∧ s.rd SEC_STS.RECOVERY = 0)))

/-- Leaving Fallow begins, unless coolant refuses it (R438, R482). -/
def State.wakeUp (s : State) : State :=
  if s.rd CTL_PSTATE.STATE ≠ 2 then s
  else if s.glob.coolFallow ∧ s.rd PWR_COOL_STS.FLOW_PCT < 80 then s.wr CTL_PSTATE.ERR 2
  else s.wr CTL_PSTATE.STATE 3

/-! ### Doorbells (R332, R345, R482) -/

/-- Difference of two free-running counts. -/
def ahead (a b : Nat) : Nat := (a + 2 ^ 32 - b) % 2 ^ 32

/-- A doorbell write that reaches the ring front end. -/
def doorbell (s : State) (func ring : Nat) (tail high : Nat) : State :=
  if s.rd (RING_CFG.FUNC ring) ≠ func ∨ s.funcBound func = false then
    s.countUp CNT_PCIE_ERR.DOORBELL_REFUSED 1
  else
    let size := 2 ^ s.rd (RING_CFG.SIZE_LOG2 ring)
    if high ≠ 0 ∨ s.rd (RING_CFG.ENABLE ring) = 0 ∨ s.rd (RING_STS.STATE ring) ≠ 1
        ∨ size < ahead tail (s.rd (RING_RETIRED.RETIRED ring)) ∨ size < ahead tail (s.rd (RING_TAIL.TAIL ring)) then
      s.countUp (RING_STS.DB_ERR ring) 1
    else
      let s1 := s.wr (RING_TAIL.TAIL ring) tail
      if s.rd CTL_PSTATE.AUTO_WAKE = 1 then s1.wakeUp else s1

/-- DOORBELL, R332, R345; a poisoned write is dropped and is C2 of the ring's plot (Table 12.4). -/
def execDoorbell (func : Fin 64) (ring : Fin 1024) (value : BitVec 64) (tlp : Tlp) (s : State) :
    Host.Outcome State Fault Refusal :=
  if s.funcUp func = true ∧ ¬ s.faults.windthrow = true ∧ s.rd SEC_STS.RECOVERY = 0 then
    if s.tlpBad tlp then .next (s.pcieNonFatal [s.ringPlot ring] ring)
    else .next (doorbell s func ring (value.toNat % 2 ^ 32) (value.toNat / 2 ^ 32))
  else .next s

/-! ### Ring set-up (R344, R375) -/

/-- Byte address of RING_CFG of a ring. -/
def ringCfgAddr (ring : Nat) : Nat := 0x100010 + 0x20 * ring

/-- The set-up fields of a RING_CFG write; SIZE_LOG2 stores the nearest of 4 to 16. -/
def State.storeRingCfg (s : State) (ring v : Nat) : State :=
  (((s.wr (RING_CFG.VECTOR ring) (bits v 28 18)).wr (RING_CFG.FUNC ring) (bits v 17 12)).wr
    (RING_CFG.PLOT ring) (bits v 11 6)).wr (RING_CFG.SIZE_LOG2 ring) (clampTo 4 16 (bits v 4 0))

/-- FUNC and VECTOR suit a ring of its plot (R333, R344). -/
def State.ringSuits (s : State) (ring : Nat) : Bool :=
  let f := s.rd (RING_CFG.FUNC ring)
  let p := s.rd (RING_CFG.PLOT ring)
  let v := s.rd (RING_CFG.VECTOR ring)
  (decide (f = 0) || (s.plotBound p && decide (s.rd (PLOT_FUNC.VF p) = f)))
  && (if f = 0 then decide (2 ≤ v ∧ v < 2048) else decide (1 ≤ v ∧ v < 32))

/-- A ring starts: counts and its energy at zero, nothing fetched. -/
def State.startRing (s : State) (ring : Nat) : State :=
  ((((((s.wr (RING_CFG.ENABLE ring) 1).wr (RING_STS.STATE ring) 1).wr (RING_RETIRED.RETIRED ring) 0).wr
    (RING_TAIL.TAIL ring) 0).wr (PWR_RING_ENERGY_LO.COUNT_LO ring) 0).wr
    (PWR_RING_ENERGY_HI.COUNT_HI ring) 0).modRing ring (fun _ => {})

/-- RING_ENABLE, R344: a write of RING_CFG with ENABLE = 1. -/
def execRingEnable (path : Fin 6) (ring : Fin 1024) (v : BitVec 31) (s : State) :
    Host.Outcome State Fault Refusal :=
  if s.writeOpen path (ringCfgAddr ring) = true ∧ s.rd (RING_CFG.ENABLE ring) = 0 then
    let s1 := s.storeRingCfg ring v.toNat
    .next (if s1.ringSuits ring then s1.startRing ring else s1.wr (RING_STS.STATE ring) 2)
  else .next s

/-- RING_DISABLE, R344: a write of RING_CFG with ENABLE = 0. -/
def execRingDisable (path : Fin 6) (ring : Fin 1024) (v : BitVec 31) (s : State) :
    Host.Outcome State Fault Refusal :=
  if s.writeOpen path (ringCfgAddr ring) = true then
    if s.rd (RING_CFG.ENABLE ring) = 0 then .next (s.storeRingCfg ring v.toNat)
    else if s.rd (RING_RETIRED.RETIRED ring) = s.rd (RING_TAIL.TAIL ring) then
      .next (((s.wr (RING_CFG.ENABLE ring) 0).wr (RING_STS.STATE ring) 0).modRing ring (fun _ => {}))
    else .next s
  else .next s

/-! ### Fetch (R346, R348) -/

/-- The ring may fetch its next descriptor. -/
def State.mayFetch (s : State) (ring : Nat) : Bool :=
  let q := s.ring ring
  let phase := s.rd CTL_BRINGUP_STS.PHASE
  s.running && decide (2 ≤ phase ∧ phase ≤ 3 ∧ s.rd (RING_CFG.ENABLE ring) = 1 ∧ s.rd (RING_STS.STATE ring) = 1
    ∧ q.fetched % 2 ^ 32 ≠ s.rd (RING_TAIL.TAIL ring) ∧ q.entries.length < 64
    ∧ s.plotState (s.ringPlot ring) ≠ plotRESETTING ∧ s.plotState (s.ringPlot ring) ≠ plotRELEASING)
  && s.funcUp (s.rd (RING_CFG.FUNC ring))
  && s.mayTake { kind := 4, plot := some (s.ringPlot ring), func := s.rd (RING_CFG.FUNC ring) }
  && (!s.mgr.fencedSelf || decide (s.rd (PLOT_LEASE_ID.LEASE_ID (s.ringPlot ring)) = 0))

/-- The host address of descriptor `n` of a ring (R343). -/
def State.descAddr (s : State) (ring n : Nat) : Nat :=
  s.rd (RING_BASE_LO.ADDR_LO ring) * 4096 + s.rd (RING_BASE_HI.ADDR_HI ring) * 2 ^ 32
    + 64 * (n % 2 ^ s.rd (RING_CFG.SIZE_LOG2 ring))

/-- DESCRIPTOR_FETCH, R346, R348: the 64-byte read returns; one that returns no data fails its
descriptor (R336, R337).  A header error ends the descriptor here unless it has IN_STEP: then it is judged at the head,
where it may be a member (R181). -/
def execDescriptorFetch (ring : Fin 1024) (raw : BitVec 512) (how : HostRead) (s : State) :
    Host.Outcome State Fault Refusal :=
  if s.mayFetch ring then
    let n := (s.ring ring).fetched
    let p := s.ringPlot ring
    let e : Entry := { idx := n, raw := raw }
    let s0 := s.send (.dmaRead (s.rd (RING_CFG.FUNC ring)) (s.descAddr ring n) 64 s.freeTag)
    let s1 := s0.modRing ring (fun q => { q with entries := q.entries ++ [e], fetched := n + 1 })
    match (if how = .badEcrc ∧ s.pcie.ecrcCheck = false then .data else how) with
    | .data => match e.headerError p with
      | some v => .next (if e.inStep then s1 else s1.finish ring n 0x10 v)
      | none => .next s1
    | .poisoned | .badEcrc => .next (s1.readLost ring n p false)
    | .timedOut => .next (s1.readLost ring n p true)
  else .next s

/-! ### Retirement (R352, R353, R366, R367) -/

/-- The 16 bytes of a completion (Table 13.4). -/
def completionBytes (e : Entry) (sizeLog2 : Nat) : List Byte :=
  leBytes 4 e.idx ++ [e.status, BitVec.ofNat 8 e.opcode, BitVec.ofNat 8 (phaseOf e.idx sizeLog2), 0]
  ++ leBytes 4 e.value.toNat ++ leBytes 4 e.user

/-- What takes effect with a retirement: the stash, a routine, tensor records, a local flip. -/
def State.retireEffects (s : State) (p : Nat) (e : Entry) : State :=
  let s1 := (s.retireStash p e).registerRoutine p e
  let s2 := s1.modPlot p (fun q => { q with
    handles := e.records.foldl (fun t x => Tab.put t x.1 x.2) q.handles })
  match e.flip with
  | some (k, o) => s2.flipSlab k (BitVec.ofNat 2 o) 0
  | none => s2

/-- The completion stands in host memory, RING_RETIRED has advanced and the vector is signalled. -/
def State.complete (s : State) (ring : Nat) (e : Entry) : State :=
  let lg := s.rd (RING_CFG.SIZE_LOG2 ring)
  let base := s.rd (RING_CPL_LO.ADDR_LO ring) * 4096 + s.rd (RING_CPL_HI.ADDR_HI ring) * 2 ^ 32
  let s1 := s.hostWrite (s.rd (RING_CFG.FUNC ring)) (base + 16 * (e.idx % 2 ^ lg)) (completionBytes e lg) false
  let s2 := (s1.countWrap (RING_RETIRED.RETIRED ring) 1).modRing ring (fun q =>
    { q with entries := q.entries.drop 1 })
  if failing e.status.toNat || e.intr then
    s2.msix (s.rd (RING_CFG.FUNC ring)) (s.rd (RING_CFG.VECTOR ring))
  else s2

/-- A descriptor retires: an event that waits for its replay notes how it ended (R40). -/
def State.settleReplays (s : State) (ring : Nat) (e : Entry) : State :=
  { s with faults := { s.faults with events := s.faults.events.map (fun v =>
    if (ring, e.idx) ∈ v.waits then { v with failed := v.failed || decide (2 ≤ e.status.toNat) } else v) } }

/-- DESCRIPTOR_RETIRE, R366, R367: the oldest descriptor of the ring, finished and with nothing
outstanding.  A closing member waits for its step to complete (R183). -/
def execDescriptorRetire (ring : Fin 1024) (s : State) : Host.Outcome State Fault Refusal :=
  match (s.ring ring).entries with
  | [] => .next s
  | e :: _ =>
    let p := s.ringPlot ring
    let closes := e.member && e.stepClose && (s.plot p).step.isSome
    if e.stage = 3 ∧ closes = false ∧ s.idleEntry ring e.idx = true ∧ s.rd (RING_STS.STATE ring) = 1
        ∧ s.funcUp (s.rd (RING_CFG.FUNC ring)) = true then
      let s1 := (s.retireEffects p e).dropEpoch ring e.idx
      let s2 := if e.member then (s1.countMember p ring e).settleStep p else s1
      .next ((s2.complete ring e).settleReplays ring e)
    else .next s

/-- The engines that still work for a descriptor stop: tiles, partials, epochs, cores. -/
def State.stopEngines (s : State) (ring idx : Nat) : State :=
  let runs (c : Sched) : Bool := c.job.any (fun j => decide (j.ring = ring ∧ j.idx = idx))
  let s1 := (s.fabric.scheds.filter (fun q => runs q.2)).foldl (fun s q => s.failEpoch q.1 false) s
  let s2 := (s1.dropEpoch ring idx).dropJob ring idx
  let s3 := { s2 with vecJobs := s2.vecJobs.filter (fun j => decide (j.ring ≠ ring ∨ j.idx ≠ idx)) }
  (List.range 32).foldl (fun s c =>
    if (s.core c).job = some (ring, idx) then s.modCore c (fun k => { k with job := none }) else s) s3

/-- Everything that still works for a descriptor stops, its transactions too. -/
def State.stopWork (s : State) (ring idx : Nat) : State := (s.stopEngines ring idx).dropTags ring idx

/-- DESCRIPTOR_TIMEOUT, R355: the timer of a descriptor at the head or at work expires; a CORE_CALL whose routine runs
ends with CORE_ERROR (R201), and an UPDATE that was to be its step's gate takes the update phase with it (R185). -/
def execDescriptorTimeout (ring : Fin 1024) (idx : Nat) (s : State) : Host.Outcome State Fault Refusal :=
  match s.entry ring idx with
  | none => .next s
  | some e =>
    let untimed := decide (e.opcode = opFLAGWAIT) && e.flag 10 3
    if (e.stage = 1 ∨ e.stage = 2) ∧ e.deadline.any (fun d => decide (d ≤ s.now)) = true ∧ untimed = false then
      let s1 := ((s.gateLost (s.ringPlot ring) e).stopWork ring idx).countUp CNT_FLT_B.DESC_TMO 1
      .next (if e.opcode = opCORECALL ∧ e.stage = 2 then s1.endCall ring idx 0x19 0 else s1.finish ring idx 0x17 0)
    else .next s

/-! ### COPY (R351, R360, R361) -/

/-- The field checks of a COPY, before anything is read. -/
def State.copyFields (s : State) (e : Entry) : List (Nat × Bool) :=
  let sk := e.srcKind
  let dk := e.dstKind
  [e.reserved [(233, 64), (246, 240), (250, 248)],
   (30, decide (4 < sk) || decide (4 < dk) || decide (sk = 3 ∧ dk = 3)
     || (e.flag 30 6 && decide (¬ (sk = 0 ∧ dk = 0))) || (e.flipFlag && decide (dk ≠ 2 ∧ dk ≠ 3))),
   (31, e.flipFlag && decide (e.newOwner ≠ 1 ∧ e.newOwner ≠ 2)),
   (16, e.flipFlag && decide (dk = 2) && decide (1 < (s.slabsIn (e.u64 16) e.copyLen).length)),
   (8, decide ((sk = 0 ∨ sk = 4) ∧ 65536 ≤ e.u64 8)), (16, decide ((dk = 0 ∨ dk = 4) ∧ 65536 ≤ e.u64 16)),
   (24, decide ((sk = 4 ∨ dk = 4) ∧ e.copyLen % 64 ≠ 0))]

/-- The checks of what SRC and DST name. -/
def State.copyNames (s : State) (p : Nat) (e : Entry) : List (Nat × Bool) :=
  let sk := e.srcKind
  let dk := e.dstKind
  let n := e.copyLen
  let both := decide (sk = 0 ∧ dk = 0)
  let d := s.tensorOf p (e.u16 16)
  [(8, decide (sk = 0) && s.badHandle p (e.u16 8) (fun t =>
      if both then decide (n ≤ t.count) && (e.flag 30 6 || decide (t.fmt = d.fmt)) else decide (n ≤ t.bytes))),
   (16, decide (dk = 0) && (if both then s.badOutput p (e.u16 16) (fun t => decide (n ≤ t.count))
      else s.badOutput p (e.u16 16) (fun t => decide (n ≤ t.bytes)))),
   (8, decide (sk = 4 ∧ 0xFFFF < e.u64 8 + n / 64)), (16, decide (dk = 4 ∧ 0xFFFF < e.u64 16 + n / 64))]

/-- A COPY begins: the source is read where it is here, or asked for from the host or the peer. -/
def copyRun (s : State) (p : Nat) (e : Entry) (r i : Nat) : Except Fail State := do
  checkAll (decide (e.copyLen = 0)) (s.copyFields e) (s.copyNames p e)
  let n := e.copyLen
  let a := e.u64 8
  let func := s.rd (RING_CFG.FUNC r)
  if n = 0 then pure (s.finish r i 0x01 0)
  else
    let own := decide (e.copyNode = s.node)
    if e.dstKind = 2 ∧ s.gladeOpen p (e.u64 16) n = false then pure (s.refuseSlab r i)
    else if e.srcKind = 2 ∧ s.gladeOpen p a n = false then pure (s.refuseSlab r i)
    else if e.srcKind = 3 ∧ own = true ∧ (s.peerSlab s.node a n).isNone = true then pure (s.refuseSlab r i)
    else if e.srcKind = 0 ∧ e.dstKind = 0 then s.copyElems p r i e
    else if e.srcKind = 1 then
      pure ((s.hostPieces a n).foldl (fun s q => s.askTag
        { kind := 4, plot := some p, ring := r, idx := i, func := func, addr := q.2.1, len := q.2.2, off := q.1 }) s)
    else if e.srcKind = 3 ∧ own = false then
      pure (s.askTag { kind := 1, peer := some e.copyNode, plot := some p, ring := r, idx := i, typ := 4
                       addr := a, len := n, bytes := leBytes 32 (Config.transferHeader a n 0).toNat })
    else
      let b ← s.copySource p e
      s.deliver p r i e b

/-- A COPY that flips a peer's slab waits for every earlier descriptor of its ring to retire (R371). -/
def State.flipWaits (s : State) (ring idx : Nat) : Bool :=
  (s.entry ring idx).any (fun e => e.flipFlag && decide (e.dstKind = 3 ∧ e.copyNode ≠ s.node))
  && ((s.ring ring).entries.head?).any (fun e => decide (e.idx ≠ idx))

/-- COPY, R360, R361. -/
def execCopy (ring : Fin 1024) (idx : Nat) (s : State) : Host.Outcome State Fault Refusal :=
  if (s.entry ring idx).any (fun e => decide (e.dstKind = 4)) = true
      ∨ (s.flipWaits ring idx && !s.stopped ring idx) = true then .next s
  else s.issue ring idx opCOPY (fun s p e => copyRun s p e ring idx)

/-- TENSOR_RECORD_COPY, R351: COPY with DST_KIND 0b100. -/
def execTensorRecordCopy (ring : Fin 1024) (idx : Nat) (s : State) : Host.Outcome State Fault Refusal :=
  if (s.entry ring idx).any (fun e => decide (e.dstKind = 4)) then
    s.issue ring idx opCOPY (fun s p e => copyRun s p e ring idx)
  else .next s

/-- DMA_COMPLETION, R336, R337: data of a device read arrives; an unexpected one, or one whose plot is
resetting or whose descriptor has ended, is discarded. -/
def execDmaCompletion (tag : Fin 8192) (data : List (BitVec 8)) (tlp : Tlp) (s : State) :
    Host.Outcome State Fault Refusal :=
  if s.pcieRuns = false then .next s else
  match s.tags.used.find? (fun t => decide (t.tag = tag.val ∧ t.kind = 4)) with
  | none => .next (s.latchSure 24 5 [] 0 tag 0 (some 0))
  | some t =>
    let p := s.ringPlot t.ring
    let live := decide (s.plotState p = plotBOUND)
    if s.tlpBad tlp then
      .next (if live then (s.dropTag t).readLost t.ring t.idx p false else s.dropTag t)
    else
      let got := t.data ++ data
      if got.length < t.len then
        .next { s with tags := { s.tags with
          used := s.tags.used.map (fun u => if u.tag = t.tag then { u with data := got, deadline := s.transferDue } else u) } }
      else .next (if live then (s.dropTag t).gather t.ring t.idx t.off (got.take t.len) else s.dropTag t)

/-- The least time of a Completion Timeout Value in SOSC periods: the default range, then ranges A to D of the PCI
Express Base Specification (PRESUMED, safe: log 185). -/
def cplTime (v : Nat) : Nat :=
  if v = 2 then perMs else if v = 5 then 16 * perMs else if v = 6 then 65 * perMs else if v = 9 then 260 * perMs
  else if v = 10 then perS else if v = 13 then 4 * perS else if v = 14 then 17 * perS else 50 * perUs

/-- COMPLETION_TIMEOUT, R336: a read ends at its completion timeout, unless that is disabled. -/
def execCompletionTimeout (tag : Fin 8192) (s : State) : Host.Outcome State Fault Refusal :=
  match s.tags.used.find? (fun t => decide (t.tag = tag.val ∧ t.kind = 4)) with
  | none => .next s
  | some t =>
    if s.pcie.cplOff = false ∧ s.past t.takenAt (cplTime s.pcie.cplValue) = true then
      .next ((s.dropTag t).readLost t.ring t.idx (s.ringPlot t.ring) true)
    else .next s

/-! ### FENCE and flags (R362, R363, R370) -/

/-- FENCE, R370. -/
def execFence (ring : Fin 1024) (idx : Nat) (s : State) : Host.Outcome State Fault Refusal :=
  s.issue ring idx opFENCE (fun s _ e => do
    checks [e.reserved []]
    pure (s.finish ring idx 0x00 0))

/-- A slab belongs to a plot by its entry's PLOT field. -/
def State.slabIs (s : State) (n p : Nat) : Bool := decide ((s.slab n).owned.toNat = p)

/-- FLAG_SET, R362: it waits while its slab is CLAIMED. -/
def execFlagSet (ring : Fin 1024) (idx : Nat) (s : State) : Host.Outcome State Fault Refusal :=
  if (!s.stopped ring idx && (s.entry ring idx).any (fun e =>
      s.slabIs (e.u16 8) (s.ringPlot ring) && (s.slab (e.u16 8)).claimed)) = true then
    .next s
  else s.issue ring idx opFLAGSET (fun s p e => do
    checks [e.reserved [(81, 64), (105, 96)], (8, !s.slabIs (e.u16 8) p)]
    pure ((s.flipSlab (e.u16 8) (BitVec.ofNat 2 (e.fld 10 1 0)) (e.fld 12 9 0)).finish ring idx 0x00 0))

/-- A slab's flag matches a FLAG_WAIT (R363). -/
def State.flagMatches (s : State) (e : Entry) : Bool :=
  let b := s.slab (e.u16 8)
  decide (b.owner.toNat = e.fld 10 1 0)
  && (if e.flag 10 2 then decide ((b.gen.toNat + 256 - e.u8 11) % 256 ≤ 127) else decide (b.gen.toNat = e.u8 11))

/-- FLAG_WAIT, R363: it retires at once if the flag matches, else it waits. -/
def execFlagWait (ring : Fin 1024) (idx : Nat) (s : State) : Host.Outcome State Fault Refusal :=
  s.issue ring idx opFLAGWAIT (fun s p e => do
    checks [e.reserved [(83, 64), (95, 88)], (8, !s.slabIs (e.u16 8) p)]
    pure (if s.flagMatches e then s.finish ring idx 0x00 0 else s))

/-- FLAG_WAIT_MATCH, R363: the flag has come to match. -/
def execFlagWaitMatch (ring : Fin 1024) (idx : Nat) (s : State) : Host.Outcome State Fault Refusal :=
  match s.entry ring idx with
  | none => .next s
  | some e =>
    if e.stage = 2 ∧ e.opcode = opFLAGWAIT ∧ s.flagMatches e = true then .next (s.finish ring idx 0x00 0)
    else .next s

/-! ### Slab entries and the aperture (R331, R359) -/

/-- The glade lease of a plot covers a slab. -/
def State.inGlade (s : State) (p : Nat) (e : Slab) : Bool :=
  let lo := s.rd (PLOT_GLADE.BASE p) * 2 ^ 26
  s.plotBound p && decide (lo ≤ e.start ∧ e.start + e.bytes ≤ lo + s.rd (PLOT_GLADE.SIZE p) * 2 ^ 26)

/-- The slab that a written entry describes, over the entry held. -/
def slabWritten (old : Slab) (v : Nat) : Slab :=
  let p := BitVec.ofNat 6 (bits v 35 30)
  let o := BitVec.ofNat 2 (bits v 1 0)
  { old with base := BitVec.ofNat 24 (bits v 63 40), size := BitVec.ofNat 4 (bits v 39 36)
             plot := p, plotB := p, plotC := p, owner := o
             gen := if o = old.owner then old.gen else old.gen + 1 }

/-- The write may be applied (R359). -/
def State.slabWriteOk (s : State) (n v : Nat) : Bool :=
  let old := s.slab n
  let new := slabWritten old v
  decide ((old.owner = ownFREE ∨ old.owner = ownHOST) ∧ old.claimed = false
    ∧ (new.owner = ownFREE ∨ new.owner = ownHOST))
  && (decide (new.owner = ownFREE) || (decide (new.size.toNat ≤ 8 ∧ new.start % new.bytes = 0)
    && s.inGlade new.owned.toNat new
    && s.slabs.all (fun q => decide (q.1 = n ∨ q.2.owner = ownFREE) || !q.2.overlaps new)))

/-- SLAB_ENTRY_WRITE, R357, R359: one aligned 8-byte write; any other write is ignored and counted. -/
def execSlabEntryWrite (path : Fin 6) (entry : Fin 65536) (value : BitVec 64) (whole : Bool) (s : State) :
    Host.Outcome State Fault Refusal :=
  if s.writeOpen path (0x180000 + 8 * entry) then
    if whole = true ∧ s.slabWriteOk entry value.toNat = true then
      .next (s.modSlab entry (fun e => slabWritten e value.toNat))
    else .next (s.countUp CNT_GLADE_ERR.ENTRY_REFUSED 1)
  else .next s

/-- The physical function owns a ring of plot `p`. -/
def State.pfOwns (s : State) (p : Nat) : Bool :=
  (List.range 1024).any (fun r => decide (s.rd (RING_CFG.ENABLE r) = 1 ∧ s.rd (RING_CFG.FUNC r) = 0
    ∧ s.rd (RING_CFG.PLOT r) = p))

/-- A host access through BAR2 reaches its slab (R331, R481). -/
def State.bar2Slab (s : State) (a n : Nat) : Option Slab :=
  match s.slabOf a n with
  | none => none
  | some (_, e) =>
    let stk := gladeToHbm a / stackBytes
    if e.owner = ownHOST ∧ s.pfOwns e.owned.toNat = true ∧ s.rd CTL_PSTATE.STATE = 0
        ∧ s.rdBit STS_INSERVICE.STACKS stk = true ∧ s.fenced stk = false then some e
    else none

/-- A refused access is an Unsupported Request: counted, and reported as non-fatal (R331, Table 12.4). -/
def State.refuseBar2 (s : State) (reading : Bool) : State :=
  let s1 := (s.countUp CNT_PCIE_ERR.GLADE_REFUSED 1).pcieNonFatal [] 0
  if reading then s1.send (.bar2 none) else s1

/-- BAR2_ACCESS, R331, R337, R18: a read of `len` bytes, or a write; it waits while its memory stalls (R21, R47), a
bad write is dropped and is C2 of the slab's plot, and a read of a poisoned unit or a retired page returns no data. -/
def execBar2Access (addr : BitVec 36) (write : Option (List (BitVec 8))) (len : Nat) (tlp : Tlp)
    (s : State) : Host.Outcome State Fault Refusal :=
  let a := addr.toNat
  let n := match write with
    | some l => l.length
    | none => len
  let l := gladePieces a n
  if s.hostReaches = true ∧ ¬ s.faults.windthrow = true ∧ l.any (fun q => s.stalledAt q.1 q.2) = false then
    match s.bar2Slab a n, write with
    | none, w => .next (s.refuseBar2 w.isNone)
    | some e, some b =>
      .next (if s.tlpBad tlp then s.pcieNonFatal [e.owned.toNat] a
        else if (s.accessFail false l).isSome then s
        else (State.moved { s with hbm := s.hbm.writePieces l b } e.owned.toNat noRing false l))
    | some e, none =>
      match s.accessFail true l with
      | some (.poison q) => .next ((s.poisonEvent e.owned.toNat q).send (.bar2 none))
      | some (.code _ _) => .next (s.send (.bar2 none))
      | none => .next ((s.moved e.owned.toNat noRing true l).send (.bar2 (some (s.readPieces l))))
  else .next s

end Sys2Proof.Machine
end

