-- ==== Sys2Proof/Machine/PlotOps.lean ====
section
/-! DEFINITION. Shared operations of plots: clearing, the checks of a bind, the plot reset of R384 and the
release of R383 (R376 to R389). -/

namespace Sys2Proof.Machine

/-! ### What a plot leases -/

/-- The banks (64 * die + bank) that plot `p` leases. -/
def State.banksOf (s : State) (p : Nat) : List Nat :=
  (List.range 1024).filter (fun b => s.leasesBank p (b / 64) (b % 64))

/-- The extents (96 * stack + extent) that plot `p` leases. -/
def State.extentsOf (s : State) (p : Nat) : List Nat :=
  (List.range 16).flatMap (fun n => (s.extsIn p n).map (fun e => 96 * n + e))

/-- The glade GiBs that the lease of plot `p` covers. -/
def State.gladeGibs (s : State) (p : Nat) : List Nat :=
  blocksOf extentBytes (s.rd (PLOT_GLADE.BASE p) * 2 ^ 26) (s.rd (PLOT_GLADE.SIZE p) * 2 ^ 26)

/-- The rings of plot `p` (RING_CFG.PLOT) that are enabled. -/
def State.ringsOf (s : State) (p : Nat) : List Nat :=
  (List.range 1024).filter (fun r => decide (s.rd (RING_CFG.PLOT r) = p ∧ s.rd (RING_CFG.ENABLE r) = 1))

/-- The plot is drained (R379). -/
def State.drained (s : State) (p : Nat) : Bool :=
  (s.ringsOf p).all (fun r => decide (s.rd (RING_RETIRED.RETIRED r) = s.rd (RING_TAIL.TAIL r)))
  && (s.plot p).step.isNone
  && (s.coresOf p).all (fun c => (s.core c).job.isNone)
  && (s.tags.used ++ s.tags.waiting).all (fun t => decide (t.plot ≠ some p))

/-! ### Clearing (Table 14.4 steps 3 to 6, Table 14.5 step 7) -/

/-- Leased banks are flash-cleared and the TCM of leased cores is cleared to zero, on dies in service; in
Fallow the clearing of banks waits for the exit (R382, R401, R481). -/
def State.clearBanks (s : State) (p : Nat) : State :=
  let banks := (s.banksOf p).filter (fun b => s.groveUp (b / 64))
  let s1 := if s.rd CTL_PSTATE.STATE = 0 then
      banks.foldl (fun s b => s.modBank (b / 64) (b % 64) (fun k => { k with
        cleared := k.cleared + 1, poison := [] })) s
    else { s with glob := { s.glob with fallowClear := banks.foldl (fun l b => addAsc b l) s.glob.fallowClear } }
  (s.coresOf p).foldl (fun s c => s.modCore c (fun k => { k with tcm := [], args := [] })) s1

/-- The clean-page map is set for every leased extent (R386). -/
def State.cleanExtents (s : State) (p : Nat) : State :=
  { s with hbm := (s.extentsOf p).foldl (fun h x => h.setClean (x / 96) (x % 96)) s.hbm }

/-- The generators of leased engines are seeded (R171). -/
def State.seedEngines (s : State) (p : Nat) : State :=
  (s.vesLeased p).foldl State.seedVe s

/-- Every tensor record of the plot's handle table is not VALID. -/
def State.voidHandles (s : State) (p : Nat) : State :=
  s.modPlot p (fun q => { q with handles := Tab.mapV (fun _ t => { t with valid := false }) q.handles })

/-- The plot's registers of chapters 5 and 7 to 9 at their reset values. -/
def State.resetPlotRegs (s : State) (p : Nat) : State :=
  let rows := regRows.filter (fun r => decide (0x88000 ≤ r.base ∧ r.base < 0x8C000))
  let s1 := rows.foldl (fun s r =>
    let copies := if r.base % 0x40 = 0x24 ∧ r.dims.length = 2 then 5 else 1
    (List.range copies).foldl (fun s i =>
      let a := r.base + 0x40 * p + 4 * i
      r.flds.foldl (fun s f => s.wrReset (fieldAt r a f)) s) s) s
  { s1 with regs := { s1.regs with late := s1.regs.late.filter (fun q => !lateOf p q.1) } }

/-- A slab becomes FREE, loses any claim and advances GEN (R374). -/
def Slab.freed (e : Slab) : Slab := { e with owner := ownFREE, claimed := false, gen := e.gen + 1 }

/-- Every slab, not FREE, that a test picks becomes FREE; transfers into it are dropped. -/
def State.freeSlabs (s : State) (pick : Slab → Bool) : State :=
  let hit (e : Slab) : Bool := decide (e.owner ≠ ownFREE) && pick e
  { s with slabs := Tab.mapV (fun _ e => if hit e then e.freed else e) s.slabs
           puts := s.puts.filter (fun u => !hit (s.slab u.slab)) }

/-! ### Checks of a bind (R381) -/

/-- Two bit fields share a one. -/
def State.overlap (s : State) (p q : Nat) (f : Nat → Fld) : Bool :=
  (List.range 64).any (fun i => s.rdBit (f p) i && s.rdBit (f q) i)

/-- Two ranges, first and count, share a member. -/
def rangesMeet (a n b m : Nat) : Bool := decide (0 < n ∧ 0 < m ∧ a < b + m ∧ b < a + n)

/-- Plots `p` and `q` name one exclusive resource. -/
def State.conflict (s : State) (p q : Nat) : Bool :=
  s.overlap p q PLOT_ARRAYS_LO.ARRAYS_LO || s.overlap p q PLOT_ARRAYS_HI.ARRAYS_HI
  || s.overlap p q PLOT_VE_LO.VE_LO || s.overlap p q PLOT_VE_HI.VE_HI || s.overlap p q PLOT_CORES.CORES
  || (List.range 16).any (fun n => s.overlap p q (fun x => PLOT_BANKS_LO.BANKS_LO x n)
      || s.overlap p q (fun x => PLOT_BANKS_HI.BANKS_HI x n) || s.overlap p q (fun x => PLOT_HBM_0.EXT_0 x n)
      || s.overlap p q (fun x => PLOT_HBM_1.EXT_1 x n) || s.overlap p q (fun x => PLOT_HBM_2.EXT_2 x n))
  || rangesMeet (s.rd (PLOT_GLADE.BASE p)) (s.rd (PLOT_GLADE.SIZE p)) (s.rd (PLOT_GLADE.BASE q))
      (s.rd (PLOT_GLADE.SIZE q))
  || rangesMeet (s.rd (PLOT_SLOTS.SLOT_FIRST p)) (s.rd (PLOT_SLOTS.SLOT_COUNT p)) (s.rd (PLOT_SLOTS.SLOT_FIRST q))
      (s.rd (PLOT_SLOTS.SLOT_COUNT q))
  || decide (s.rd (PLOT_FUNC.VF p) ≠ 0 ∧ s.rd (PLOT_FUNC.VF p) = s.rd (PLOT_FUNC.VF q))

/-- Some resource of the lease is fenced or retired. -/
def State.namesFenced (s : State) (p : Nat) : Bool :=
  (List.range 16).any (fun g => s.fenced g && s.holdsDie p g)
  || (s.banksOf p).any (fun b => (s.bank (b / 64) (b % 64)).retired)
  || (List.range 24).any (fun k => s.leasesPort p k && decide (s.portState k = portRETIRED))
  || (s.gladeGibs p).any (fun g => s.fenced (g % 16))

/-- A leased array or vector engine lies on a die where the plot holds no bank. -/
def State.incomplete (s : State) (p : Nat) : Bool :=
  (List.range 16).any (fun g =>
    ((List.range 3).any (s.leasesArray p g) || (List.range 4).any (s.leasesVe p g))
    && decide (s.rd (PLOT_BANKS_LO.BANKS_LO p g) = 0 ∧ s.rd (PLOT_BANKS_HI.BANKS_HI p g) = 0))

/-- A range or share breaks Table 14.1 or R378. -/
def State.outOfRange (s : State) (p : Nat) : Bool :=
  let others := s.boundPlots.filter (fun q => decide (q ≠ p))
  decide (512 < s.rd (PLOT_SLOTS.SLOT_FIRST p) + s.rd (PLOT_SLOTS.SLOT_COUNT p))
  || decide (1024 < s.rd (PLOT_GLADE.BASE p) + s.rd (PLOT_GLADE.SIZE p))
  || decide (8192 - s.rd LNK_TAG_CFG.LOCAL_RESERVE
      < s.rd (PLOT_TAGS.TAGS p) + sumNat (others.map (fun q => s.rd (PLOT_TAGS.TAGS q))))

/-- ERR of a bind: 0 none, 1 CONFLICT, 2 FENCED, 5 INCOMPLETE, 6 RANGE, the first in that order. -/
def State.bindErr (s : State) (p : Nat) : Nat :=
  if s.boundPlots.any (fun q => decide (q ≠ p) && s.conflict p q) then 1
  else if s.namesFenced p then 2
  else if s.incomplete p then 5
  else if s.outOfRange p then 6
  else 0

/-! ### Plot reset (R384, R385) -/

/-- Everything that works for the plot stops at its boundary: its descriptors' engines, its peer transfers,
its waits; DMA reads stay until they end (Table 14.5, steps 3 and 4). -/
def State.stopPlot (s : State) (p : Nat) : State :=
  let s1 := (s.ringsOf p).foldl (fun s r => (s.ring r).entries.foldl (fun s e => s.stopEngines r e.idx) s) s
  State.refreshTags { s1 with tags := { s1.tags with
    used := s1.tags.used.filter (fun t => decide (t.plot ≠ some p ∨ t.kind = 4))
    waiting := s1.tags.waiting.filter (fun t => decide (t.plot ≠ some p)) } }

/-- An event of a bound plot is told on its function's vector 0 (R333). -/
def State.tellPlot (s : State) (p : Nat) : State :=
  let vf := s.rd (PLOT_FUNC.VF p)
  if vf = 0 then s else s.msix vf 0

/-- A plot reset starts, joins the one in progress, or waits for the end of a bind (R384, R385). -/
def State.startReset (s : State) (p : Nat) (clear flr release : Bool) : State :=
  if s.plotState p = plotBOUND then
    State.stopPlot (((s.tellPlot p).wr (PLOT_STS.STATE p) plotRESETTING).modPlot p (fun q => { q with
      reset := some { clear := clear, flr := flr, release := release, startedAt := s.now } })) p
  else if s.plotState p = plotRESETTING then
    s.modPlot p (fun q => { q with reset := q.reset.map (fun r => { r with
      clear := r.clear || clear, flr := r.flr || flr, release := r.release || release }) })
  else if s.plotState p = plotBINDING then s.modPlot p (fun q => { q with c2Binding := true })
  else s

/-- The pages and banks of the plot that are marked for retirement are retired now (R22, R25). -/
def State.retireMarked (s : State) (p : Nat) : State :=
  let mine (g : Nat) : Bool := decide (s.ownerOfPage g = some p)
  let s1 := { s with hbm := { s.hbm with
    retired := (s.hbm.marked.filter mine).foldl (fun l g => addAsc g l) s.hbm.retired
    marked := s.hbm.marked.filter (fun g => !mine g) } }
  (s1.banksOf p).foldl (fun s b => s.modBank (b / 64) (b % 64) (fun k =>
    { k with retired := k.retired || k.marked, marked := false })) s1

/-- The plot is released: its resources return, its function is unbound, its routines are gone (R383, R401). -/
def State.releasePlot (s : State) (p : Nat) : State :=
  let s1 := ((s.tellPlot p).retireMarked p).evictAll p
  (((s1.wr (PLOT_STS.STATE p) plotUNBOUND).wr (PLOT_STS.RETIRED_PAGES p) 0).modPlot p (fun q => { q with
    routines := [], reset := none, lastNum := none, masks := false })).refreshPath

/-- Every stack of the plot's slots is empty, and nothing of its stash or spill extent is in use. -/
def State.emptyStash (s : State) (p : Nat) : State :=
  let first := s.rd (PLOT_SLOTS.SLOT_FIRST p)
  let s1 := (List.range (s.rd (PLOT_SLOTS.SLOT_COUNT p))).foldl (fun s i => s.setSlot (first + i) []) s
  (s1.modPlot p (fun q => { q with level := 0, stashUse := [], spill := 0 })).showStash p

/-- Step 6 of Table 14.5: the step ends with or without its record (R190), the stash is empty, slabs are FREE
and the plot's rings are DISABLED (R374). -/
def State.drainPlot (s : State) (p : Nat) (r : PlotReset) : State :=
  let s1 := (s.modStep p (fun k => k.flag [10])).completeStep p (!r.flr && !r.release)
  let s2 := (s1.emptyStash p).freeSlabs (fun e => decide (e.owned.toNat = p))
  let s3 := (s.ringsOf p).foldl (fun s q =>
    ((s.wr (RING_CFG.ENABLE q) 0).wr (RING_STS.STATE q) 0).modRing q (fun _ => {})) s2
  s3.modPlot p (fun q => { q with requests := [], reset := some { r with drained := true } })

/-- Steps 7 and 8 of Table 14.5: banks cleared, generators seeded, and with clearing the extents clean and the
handles and routines gone; the plot is BOUND again, or released. -/
def State.finishReset (s : State) (p : Nat) (r : PlotReset) : State :=
  let s1 := (s.clearBanks p).seedEngines p
  let s2 := if r.clear then (((s1.cleanExtents p).voidHandles p).evictAll p).modPlot p (fun q => { q with routines := [] })
    else s1
  let s3 := (s2.wr (PLOT_STS.STATE p) plotBOUND).modPlot p (fun q => { q with reset := none })
  if r.release then s3.releasePlot p else s3

/-- A reset of the plot that no fault-word bit names is C2 for it all the same: counted, logged for the whole
device, and told on PF vector 0 (R327, R461). -/
def State.c2Reset (s : State) (p : Nat) (clear flr : Bool) : State :=
  let s1 := (s.countUp CNT_FLT_A.C2 1).logFault { die := 255, plots := [p], time := s.now } 2
  (s1.msix 0 0).startReset p clear flr false

end Sys2Proof.Machine
end

