-- ==== Sys2Proof/Machine/Mgmt.lean ====
section
/-! DEFINITION. Meanings of the management segment and of the manager's roles (R305 to R321, R449, R459 to
R462). -/

namespace Sys2Proof.Machine

/-! ### The segment (R306 to R310) -/

/-- The flags of the receive status word that make a frame bad (Table 11.1). -/
def badFlags (fcsOk aligned : Bool) (octets : Nat) : Nat :=
  b2n (!fcsOk) + 2 * b2n (decide (octets < 64)) + 4 * b2n (decide (1522 < octets)) + 8 * b2n (!aligned)

/-- Bad frames counted by kind (Table 11.9). -/
def State.countBad (s : State) (fcsOk aligned : Bool) (octets : Nat) : State :=
  (((s.countWrap CNT_MGT_RX_BAD.FCS (b2n (!fcsOk))).countWrap CNT_MGT_RX_BAD.RUNT
    (b2n (decide (octets < 64)))).countWrap CNT_MGT_RX_BAD.OVERSIZE (b2n (decide (1522 < octets)))).countWrap
    CNT_MGT_RX_BAD.ALIGN (b2n (!aligned))

/-- A frame goes to firmware with its status word, cut to 1,522 bytes; firmware only logs one that has a flag set
(R308, R309). -/
def State.deliverFrame (s : State) (flags : Nat) (frame : List Byte) : State :=
  let trunc := if 1522 < frame.length then 16 else 0
  let w := BitVec.ofNat 32 (min frame.length 1522 * 2 ^ 16 + flags + trunc)
  s.modMac (fun m => { m with
    delivered := m.delivered ++ [(w, frame.take 1522)], badLog := m.badLog + (if flags = 0 then 0 else 1) })

/-- EtherType, VERSION and the zero bits of a management frame are right (R310); addresses take its first 12 bytes. -/
def mgtHeaderOk (b : List Byte) : Bool :=
  decide ((b.drop 12).take 2 = [0x88, 0xB5] ∧ leNat ((b.drop 14).take 4) = 2)

/-- The MAC accepts broadcast frames and those to its own address (R310). -/
def State.mgtAddressOk (s : State) (b : List Byte) : Bool :=
  let dst := leNat (b.take 6).reverse
  decide (dst = broadcastMac.toNat ∨ dst = (Config.macAddress s.deviceId 24).toNat)

/-- The FCS of a received frame stands in its last four bytes. -/
def fcsOk (b : List Byte) : Bool :=
  decide (leNat (b.drop (b.length - 4)) = fcs (b.take (b.length - 4)))

/-- The segment's MAC works: the device is neither dormant nor before its boot, and its island runs (R48). -/
def State.segmentUp (s : State) : Bool :=
  decide (1 ≤ s.rd CTL_BRINGUP_STS.PHASE) && !s.glob.dormant && !(Tab.val s.clocks.loops 13).islandStopped

/-- MGT_FRAME_RECEIVE, R308 to R310: `frame` runs from the destination address through the FCS, `untagged` tells a
JOIN_HELLO, `tagOk` what the tag check says of another frame. -/
def execMgtFrameReceive (aligned untagged tagOk : Bool) (src : Fin 1024) (frame : List (BitVec 8)) (s : State) :
    Host.Outcome State Fault Refusal :=
  let flags := badFlags (fcsOk frame) aligned frame.length
  if s.segmentUp then
    if flags ≠ 0 then
      let s1 := s.countBad (fcsOk frame) aligned frame.length
      .next (if s.rd CFG_MGT_DELIVER_BAD.DELIVER = 1 then s1.deliverFrame flags frame else s1)
    else if !s.mgtAddressOk frame || !mgtHeaderOk frame then .next (s.countWrap CNT_MGT_RX_DROP.FILTERED 1)
    else if untagged then .next (s.deliverFrame 0 frame)
    else
      let n := leNat ((frame.drop 18).take 8)
      if tagOk = true ∧ s.mgr.copseKey.isSome = true ∧ Tab.val s.mac.ctrlRx src ≤ n then
        .next ((s.modMac (fun m => { m with ctrlRx := Tab.put m.ctrlRx src (n + 1) })).deliverFrame 0 frame)
      else .next (s.countWrap CNT_MGT_RX_DROP.AUTH_FAIL 1)
  else .next s

/-- SOSC periods of a number of slot times of 51.2 µs (R306). -/
def slotTimes (n : Nat) : Nat := ceilDiv (n * 4096) 10

/-- COLLISION, R306: a late one drops the frame, the one of the 16th attempt too; else the frame backs off for a number
of slot times drawn from 2 to the power of its attempts, at most 2¹⁰. -/
def execCollision (late : Bool) (s : State) : Host.Outcome State Fault Refusal :=
  if s.mac.sending.isSome = true ∧ s.mac.backoff = false ∧ s.now < s.mac.sendEnd then
    let s1 := s.countWrap CNT_MGT_TX.COLLISIONS 1
    if late then .next (s1.countWrap CNT_MGT_TX.LATE 1).macNext
    else if 16 ≤ s.mac.attempts then .next (s1.countWrap CNT_MGT_TX.EXCESSIVE 1).macNext
    else .next ((s1.modMac (fun m => { m with
      backoff := true, backoffEnd := s.now + slotTimes (Config.backoff s.draws % 2 ^ min m.attempts 10) })).tick)
  else .next s

/-- BACKOFF_EXPIRY, R306: the back-off over, the frame is attempted again; with none backing off, the next waiting one
goes. -/
def execBackoffExpiry (s : State) : Host.Outcome State Fault Refusal :=
  if s.mac.backoff then
    if s.mac.backoffEnd ≤ s.now ∧ (Tab.val s.clocks.loops 13).islandStopped = false then
      match s.mac.sending with
      | some f => .next (s.macAttempt f (s.mac.attempts + 1))
      | none => .next s.macNext
    else .next s
  else .next s.macResume

/-- LOCAL_ID takes effect once NODE_COUNT exceeds it (R322). -/
def State.takePlcaId (s : State) : State :=
  let i := s.rd CFG_MGT_PLCA.LOCAL_ID
  if i < s.rd CFG_MGT_PLCA.NODE_COUNT then s.modMac (fun m => { m with plcaId := i }) else s

/-- What the node sends in one opportunity: a frame that was backing off first, else the next waiting one. -/
def State.opportunity (s : State) : State :=
  match s.mac.backoff, s.mac.sending with
  | true, some f => s.macAttempt f (s.mac.attempts + 1)
  | _, _ => if s.mac.queue.isEmpty then s else s.macNext

/-- PLCA_BEACON, R307: the status is OK again, and the node sends in its opportunity, one frame and its burst;
the coordinator's beacon is its own. -/
def execPlcaBeacon (s : State) : Host.Outcome State Fault Refusal :=
  if s.segmentUp = true ∧ s.rd CFG_MGT_MAC.PLCA_EN = 1 then
    let s1 := (s.takePlcaId).modMac (fun m => { m with plcaOk := true })
    let s2 := if s1.mac.plcaId = 0 then s1.send .beacon else s1
    .next ((List.range (1 + s.rd CFG_MGT_PLCA.BURST)).foldl (fun s _ => s.opportunity) s2)
  else .next s

/-- PLCA_STATUS_CHANGE, R307: the status is not OK and the MAC goes on under CSMA/CD. -/
def execPlcaStatusChange (s : State) : Host.Outcome State Fault Refusal :=
  .next (s.modMac (fun m => { m with plcaOk := false })).macResume

/-- JOIN_HELLO, R310: it can only cause an admission attempt on the Xasin ports. -/
def execJoinHello (s : State) : Host.Outcome State Fault Refusal :=
  .next (((List.range 24).filter (fun p => s.fabricUp && decide (s.portState p = portADMITFAILED)
    && !s.ethernet p)).foldl (fun s p => s.startAdmission p 0 (s.link p 0).adm.first) s)

/-! ### Members (R311 to R316) -/

/-- This device is the manager. -/
def State.isManager (s : State) : Bool := decide (s.rd STS_MGT_ROLE.MGR_ROLE = 1)

/-- Of some members, the node whose device identity is lowest. -/
def lowestId (l : List (Nat × Member)) : Option Nat :=
  (l.foldl (fun (best : Option (Nat × Member)) e =>
    match best with
    | none => some e
    | some b => if e.2.devId < b.2.devId then some e else some b) none).map (fun e => e.1)

/-- The member of a copse, joined and in service, with the lowest device identity (R313). -/
def State.lowestIn (s : State) (copse : Nat) : Option Nat :=
  lowestId (s.mgr.members.filter (fun e => decide (e.2.copse = copse) && !e.2.failed))

/-- The copses of the members. -/
def State.memberCopses (s : State) : List Nat := s.mgr.members.foldl (fun a e => addAsc e.2.copse a) []

/-- The lead of a copse at the present membership epoch (R313). -/
def State.leadOf (s : State) (copse : Nat) : Option Nat := Tab.look s.mgr.copseLeads copse

/-- A control frame to a device of a copse through the copse's lead, on the segment where this device is the
lead itself. -/
def State.viaLead (s : State) (copse : Nat) (c : Ctrl) : State :=
  match s.leadOf copse with
  | some l => if l = s.node then s.segmentSend none c else s.controlTo l c
  | none => s.segmentSend none c

/-- The device that firmware configuration names as the standby, else the worker with the lowest identity in another
copse, else in its own (R312); a node to pass over is one that has just gone silent as the manager. -/
def State.pickStandby (s : State) (gone : Option Nat) : Option Nat :=
  let l := s.mgr.members.filter (fun e => decide (e.1 ≠ s.node ∧ some e.1 ≠ gone) && !e.2.failed)
  match l.find? (fun e => decide (s.flash.cfgStandby = some e.2.devId)) with
  | some e => some e.1
  | none =>
    let w := l.filter (fun e => decide (e.2.role = 1))
    match lowestId (w.filter (fun e => decide (e.2.copse ≠ s.mgr.copse))) with
    | some n => some n
    | none => lowestId w

/-- The manager keeps a standby that is a member in service, and names another where it has none (R312). -/
def State.ensureStandby (s : State) (gone : Option Nat) : State :=
  let ok := s.mgr.standby.any (fun n => (Tab.look s.mgr.members n).any (fun m => !m.failed))
  if ok then s else s.modMgr (fun m => { m with standby := s.pickStandby gone })

/-- Leads and copse keys of the present members; this device's own lead bit and key are among them (R310, R313). -/
def State.appoint (s : State) : State :=
  let l := s.memberCopses
  let leads := l.foldl (fun t c => match s.lowestIn c with
    | some n => Tab.ins t c n
    | none => t) ([] : Tab Nat)
  let keys := l.foldl (fun t c => Tab.put t c (Config.copseKey (s.draws + c))) ([] : Tab (BitVec 256))
  let s1 := State.modMgr { s with draws := s.draws + 1024 } (fun m => { m with
    copseLeads := leads, keys := keys
    copseKey := some (Tab.val keys s.mgr.copse) })
  s1.wr STS_MGT_ROLE.LEAD (b2n (decide (s1.leadOf s1.mgr.copse = some s1.node)))

/-- The membership epoch rises; leads and copse keys are those of the new epoch (R310, R313). -/
def State.raiseEpoch (s : State) : State :=
  ((s.modMgr (fun m => { m with epoch := (m.epoch + 1) % 2 ^ 32 })).appoint).ensureStandby none

/-- Every table goes out at the present epoch, with each device's role, lead and copse key, and the heartbeat periods
(R310, R313, R457). -/
def State.sendTables (s : State) : State :=
  let e := s.mgr.epoch
  (s.mgr.members.filter (fun q => decide (q.1 ≠ s.node) && !q.2.failed)).foldl (fun s q =>
    let t (k : Nat) : Ctrl := .table q.1 k e q.2.role (decide (s.leadOf q.2.copse = some q.1)) (Tab.val s.mgr.keys q.2.copse)
    (((s.controlTo q.1 (t 0)).controlTo q.1 (t 1)).controlTo q.1 (t 2)).controlTo
      q.1 (.hbPeriods (s.rd FLT_TMO_HB.DEVICE) (s.rd FLT_TMO_HB.MGR_MS))) s

/-- A new membership epoch with its tables (R313, R314). -/
def State.newEpoch (s : State) : State := s.raiseEpoch.sendTables

/-- What R315 decides: a status of Table 11.3 and, if accepted, the role.  Node numbers of members declared failed are
still taken. -/
def State.joinVerdict (s : State) (devId copse : Nat) (partners : List Nat) : Nat × Nat :=
  let kept := s.mgr.members.filter (fun e => decide (e.2.devId ≠ devId))
  let l := kept.filter (fun e => !e.2.failed)
  let here := l.filter (fun e => decide (e.2.copse = copse))
  let workers := (here.filter (fun e => decide (e.2.role = 1))).length
  let copses := l.foldl (fun (a : List Nat) e => addAsc e.2.copse a) []
  if devId ∈ s.mgr.revoked then (4, 0)
  else if here.any (fun e => decide (e.1 ∉ partners)) then (5, 0)
  else if 64 ≤ copses.length ∧ copse ∉ copses then (6, 0)
  else
    let role := if workers < 8 ∧ (l.filter (fun e => decide (e.2.role = 1))).length < 512 then 1
      else if here.all (fun e => decide (e.2.role ≠ 2)) then 2 else 0
    if role = 0 then (if 8 ≤ workers then (3, 0) else (1, 0))
    else if 1024 ≤ kept.length then (2, 0)
    else (0, role)

/-- A copse lead passes an answer on to the partners that hold no node number (R314). -/
def State.relayAnswer (s : State) (c : Ctrl) : State :=
  ((List.range 24).filter (fun p => !s.ethernet p && (s.port p).link.keys && !(s.port p).link.adm.assigned)).foldl
    (fun s p => s.control p (s.rd (LNK_PORT_STS.PARTNER p)) c) s

/-- A join answer goes to the lead of the copse, which passes it on over the device's admitted session (R314). -/
def State.answerJoin (s : State) (copse : Nat) (c : Ctrl) : State :=
  match s.leadOf copse with
  | some l => if l = s.node then s.relayAnswer c else s.controlTo l c
  | none => s.relayAnswer c

/-- One join request decided (R315). -/
def State.decideJoin (s : State) (devId copse : Nat) (partners : List Nat) : State :=
  let v := s.joinVerdict devId copse partners
  if v.1 ≠ 0 then s.answerJoin copse (.joinAnswer devId v.1 0 0 0)
  else
    let kept := s.mgr.members.filter (fun e => decide (e.2.devId ≠ devId))
    let n := lowestFree (kept.map (fun e => e.1)) kept.length
    let s1 := (s.modMgr (fun m => { m with
      members := Tab.ins kept n { devId := devId, copse := copse, role := v.2, partners := partners } })).raiseEpoch
    (s1.answerJoin copse (.joinAnswer devId 0 n v.2 (Tab.val s1.mgr.keys copse))).sendTables

/-- The system lock for a join or leave, and for a substitution (Table 17.10). -/
def joinLock : Lock := { kind := 10, unit := 0 }
/-- The system lock for a substitution. -/
def substLock : Lock := { kind := 9, unit := 0 }

/-- A leave may be granted: no cross-device lease includes the device (R316). -/
def State.mayLeave (s : State) (n : Nat) : Bool := s.mgr.leases.all (fun e => decide (n ∉ e.2))

/-- A leave granted at a new epoch, in whose table the device has no role; the node number is free (R316). -/
def State.grantLeave (s : State) (n : Nat) : State :=
  let s1 := (s.modMgr (fun m => { m with members := Tab.del m.members n })).raiseEpoch
  ((s1.controlTo n (.leaveGranted n)).controlTo n (.table n 0 s1.mgr.epoch 0 false 0)).sendTables

/-- One waiting change decided; a leave that may not be granted yet keeps its place (R314, R316). -/
def State.decideChange (s : State) : MemberReq → State
  | .join d c l => s.decideJoin d c l
  | .leave n => if s.mayLeave n then s.grantLeave n else s.modMgr (fun m => { m with queue := m.queue ++ [.leave n] })

/-- Waiting joins and leaves are decided one at a time, in order of arrival, once the lock is granted
(R314). -/
def State.drainMembership (s : State) : State :=
  if s.hasLock joinLock then
    (s.mgr.queue.foldl State.decideChange (s.modMgr (fun m => { m with queue := [] }))).lockRelease joinLock
  else s

/-- A change of membership arrives at the manager. -/
def State.askMembership (s : State) (q : MemberReq) : State :=
  ((s.modMgr (fun m => { m with queue := if q ∈ m.queue then m.queue else m.queue ++ [q] })).lockRequest
    joinLock).drainMembership

/-- JOIN_REQ, R314: the copse lead forwards the request with what the copse map says of the device's direct ports. -/
def execJoinReq (devId : BitVec 64) (partners : List (Fin 1024)) (s : State) : Host.Outcome State Fault Refusal :=
  let l := partners.map (fun n => n.val)
  if s.rd STS_MGT_ROLE.LEAD = 1 then
    if s.isManager then .next (s.askMembership (.join devId.toNat s.mgr.copse l))
    else .next (s.toManager (.joinForward devId.toNat s.mgr.copse l))
  else .next s

/-- JOIN_FORWARD, R314, R315: the manager decides the request in order. -/
def execJoinForward (devId : BitVec 64) (copse : Nat) (partners : List (Fin 1024)) (s : State) :
    Host.Outcome State Fault Refusal :=
  if s.isManager then .next (s.askMembership (.join devId.toNat copse (partners.map (fun n => n.val)))) else .next s

/-- The plots of this device that the manager leases across devices. -/
def State.crossPlots (s : State) : List Nat :=
  s.boundPlots.filter (fun p => decide (s.rd (PLOT_LEASE_ID.LEASE_ID p) ≠ 0))

/-- A device that joins again after a FENCE has no part in its former leases: their plots are reset without clearing and
are managed no longer (DESIGN CHOICE, safe: log 184). -/
def State.leaveLeases (s : State) : State :=
  if s.mgr.fencedSelf then
    s.crossPlots.foldl (fun s p =>
      ((s.startReset p false false false).wr (PLOT_STS.MANAGED p) 0).wr (PLOT_LEASE_ID.LEASE_ID p) 0) s
  else s

/-- JOIN_ANSWER, R310, R314: the joining device takes its copse key and waits for the tables, with which its role and
number are in force, or takes the refusal; a copse lead passes the answer for another device on. -/
def execJoinAnswer (devId : BitVec 64) (status : Fin 7) (node : Fin 1024) (spare : Bool) (manager : Fin 1024)
    (copse : Nat) (key : BitVec 256) (s : State) : Host.Outcome State Fault Refusal :=
  let role := if spare then 2 else 1
  if devId.toNat = s.deviceId then
    if s.mgr.joining then
      let s1 := s.answered 0
      if status = 0 then
        .next (s1.leaveLeases.modMgr (fun m => { m with
          joining := false, copseKey := some key, managerNode := some manager.val, copse := copse, hbSeq := 0
          fencedSelf := false, pending := some (role, node.val) }))
      else .next (s1.modMgr (fun m => { m with joining := false, refused := true }))
    else .next s
  else if s.rd STS_MGT_ROLE.LEAD = 1 then
    .next (s.relayAnswer (.joinAnswer devId.toNat status node role key))
  else .next s

/-- A manager that meets a higher manager epoch, or the same with a lower device identity, stands down to
worker (R311, R320). -/
def State.followManager (s : State) (n epoch : Nat) : State :=
  let s1 := if s.isManager then s.wr STS_MGT_ROLE.MGR_ROLE 0 else s
  (s1.wr STS_MGT_ROLE.MGR_EPOCH epoch).modMgr (fun m => { m with mgrEpoch := epoch, managerNode := some n })

/-- The role that a table gives this device is in force: with the number of its join answer, or none once it has left
(R314, R316). -/
def State.takeRole (s : State) (role : Nat) : State :=
  if role = 0 then
    (((s.wr STS_MGT_ROLE.ROLE 0).wr STS_MGT_ROLE.NODE 0).wr STS_MGT_ROLE.MGR_ROLE 0).modMgr (fun m => { m with
      managerNode := none, copseKey := none, leaving := false, pending := none })
  else match s.mgr.pending with
    | some q => ((s.wr STS_MGT_ROLE.ROLE q.1).wr STS_MGT_ROLE.NODE q.2).modMgr (fun m => { m with pending := none })
    | none => s.wr STS_MGT_ROLE.ROLE role

/-- TABLE_WRITE, R313, R314, R320, R457: a table of the manager applies only above the epoch held, and one at a lower
manager epoch not at all; role, lead, copse key and heartbeat periods come with it, and a substitution is told to the
host on PF vector 1 (R459). -/
def execTableWrite (epoch : BitVec 32) (table : TableWrite) (role : Fin 3) (lead substituted : Bool) (hb : BitVec 32)
    (key : BitVec 256) (mgrEpoch : BitVec 32) (mgrNode : Fin 1024) (s : State) : Host.Outcome State Fault Refusal :=
  if s.fabricUp = true ∧ (s.rd STS_MGT_ROLE.ROLE ≠ 0 ∨ s.mgr.pending.isSome = true)
      ∧ s.mgr.mgrEpoch ≤ mgrEpoch.toNat then
    let s0 := if s.mgr.mgrEpoch < mgrEpoch.toNat then s.followManager mgrNode mgrEpoch.toNat else s
    let s1 := s0.writeTable epoch table
    if s.mgr.epoch < epoch.toNat then
      let s2 := (s1.wr STS_MGT_ROLE.LEAD (b2n lead)).modMgr (fun m => { m with
        epoch := epoch.toNat, copseKey := some key })
      let s3 := (s2.wr FLT_TMO_HB.DEVICE (hb.toNat % 65536)).wr FLT_TMO_HB.MGR_MS (hb.toNat / 65536)
      let s4 := s3.takeRole role
      .next (if substituted then s4.msix 0 1 else s4)
    else .next s1
  else .next s

/-- The spare of a copse, if it has one in service. -/
def State.spareOf (s : State) (copse : Nat) : Option Nat :=
  (s.mgr.members.find? (fun e => decide (e.2.copse = copse ∧ e.2.role = 2) && !e.2.failed)).map (fun e => e.1)

/-- LEAVE_REQUEST, R316: the manager takes the request, and asks for the spare's substitution where leases include a
worker; any other joined device sends its own host's request to the manager.  A manager's own is not granted
(DESIGN CHOICE, safe: log 182). -/
def execLeaveRequest (node : Fin 1024) (s : State) : Host.Outcome State Fault Refusal :=
  if s.isManager then
    match Tab.look s.mgr.members node with
    | none => .next s
    | some e =>
      if node.val = s.node then .next s
      else
        let s1 := s.askMembership (.leave node)
        .next (if s1.mayLeave node ∨ e.role ≠ 1 ∨ s1.spareOf e.copse = none ∨ node.val ∈ s1.mgr.substituting then s1
          else (s1.modMgr (fun m => { m with substituting := m.substituting ++ [node.val] })).lockRequest substLock)
  else if s.rd STS_MGT_ROLE.ROLE ≠ 0 ∧ node.val = s.node then
    .next ((s.modMgr (fun m => { m with leaving := true })).toManager (.leaveReq node))
  else .next s

/-! ### Heartbeats and fencing (R317, R318) -/

/-- The device's fault summary, as FLT_SUMMARY reads. -/
def State.faultSummary (s : State) : Nat :=
  s.rd FLT_SUMMARY.HELD * 2 ^ 31 + s.rd FLT_SUMMARY.HIGHEST * 2 ^ 28 + s.rd FLT_SUMMARY.DIES

/-- The device heartbeat's period, from DEVICE in units of 10 µs, in SOSC periods (R317). -/
def State.hbPeriod (s : State) : Nat := s.rd FLT_TMO_HB.DEVICE * 10 * perUs

/-- The manager heartbeat's period in SOSC periods (R319). -/
def State.mgrPeriod (s : State) : Nat := s.rd FLT_TMO_HB.MGR_MS * perMs

/-- HEARTBEAT_SEND, R317: once per period, on two routes where the route table offers two. -/
def execHeartbeatSend (s : State) : Host.Outcome State Fault Refusal :=
  match s.mgr.managerNode with
  | none => .next s
  | some m =>
    if s.fabricUp = true ∧ s.rd STS_MGT_ROLE.ROLE ≠ 0 ∧ m ≠ s.node ∧ s.mgr.fencedSelf = false
        ∧ s.past s.mgr.hbAt s.hbPeriod = true then
      let n := s.mgr.hbSeq
      let ports := ((s.routeOf m).filter (s.reaches m)).take 2
      .next (ports.foldl (fun s p => s.control p m (.heartbeat n s.faultSummary))
        (s.modMgr (fun g => { g with hbSeq := (n + 1) % 2 ^ 32, hbAt := s.now })))
    else .next s

/-- A member's entry changed. -/
def State.modMember (s : State) (n : Nat) (f : Member → Member) : State :=
  match Tab.look s.mgr.members n with
  | none => s
  | some e => s.modMgr (fun m => { m with members := Tab.ins m.members n (f e) })

/-- HEARTBEAT, R317: the manager's current window of the device is not empty. -/
def execHeartbeat (node : Fin 1024) (summary : BitVec 32) (s : State) : Host.Outcome State Fault Refusal :=
  if s.isManager then
    .next (s.modMember node (fun m => { m with window := true, summary := summary.toNat }))
  else .next s

/-- A device is declared failed: FENCE goes out on the segment and on every Xasin route, and its spare's
substitution asks for the system lock (R318, R459). -/
def State.declareFailed (s : State) (n : Nat) : State :=
  match Tab.look s.mgr.members n with
  | none => s
  | some e =>
    if e.failed then s
    else
      let s1 := (s.modMember n (fun m => { m with failed := true })).viaLead e.copse (.fence n)
      let s2 := ((s1.routeOf n).filter (s1.reaches n)).foldl (fun s p => s.control p n (.fence n)) s1
      (s2.modMgr (fun m => { m with substituting := m.substituting ++ [n] })).lockRequest substLock

/-- A window of the manager closes for one device. -/
def State.closeWindow (s : State) (n : Nat) : State :=
  match Tab.look s.mgr.members n with
  | none => s
  | some e =>
    if e.failed ∨ n = s.node then s
    else if e.window then s.modMember n (fun m => { m with window := false, empty := 0 })
    else
      let s1 := s.modMember n (fun m => { m with empty := m.empty + 1 })
      if 5 ≤ e.empty + 1 then s1.declareFailed n else s1

/-- HEARTBEAT_WINDOW, R317, R318: a window of 0.95 periods closes for every member. -/
def execHeartbeatWindow (s : State) : Host.Outcome State Fault Refusal :=
  if s.isManager = true ∧ s.past s.mgr.windowAt (s.hbPeriod * 95 / 100) = true then
    .next ((s.mgr.members.map (fun e => e.1)).foldl State.closeWindow (s.modMgr (fun m => { m with windowAt := s.now })))
  else .next s

/-- Flits of transfers and control frames that have not left never do: only ADMIT flits and those that are sent again
stay queued (R318). -/
def LinkSide.hold (l : LinkSide) : LinkSide := { l with queue := l.queue.filter (fun f => f.old || decide (f.typ = 2)) }

/-- That on every link. -/
def State.holdFlits (s : State) : State :=
  { s with ports := Tab.mapV (fun _ q => { q with link := q.link.hold, paths := Tab.mapV (fun _ l => l.hold) q.paths }) s.ports }

/-- FENCE_FRAME, R318, R462: a device named stops the work of its cross-device plots and sends nothing on Xasin but
admission messages; it is unassigned and asks to join again (DEDUCED, unsafe: log 184).  A copse lead passes a FENCE for another device on to the segment. -/
def execFenceFrame (node : Fin 1024) (s : State) : Host.Outcome State Fault Refusal :=
  if s.rd STS_MGT_ROLE.ROLE = 0 then .next s
  else if node.val = s.node then
    let s1 := (s.crossPlots.foldl State.stopPlot (s.modMgr (fun m => { m with fencedSelf := true }))).holdFlits
    .next (s1.takeRole 0).askJoin
  else if s.rd STS_MGT_ROLE.LEAD = 1 then .next (s.segmentSend (some node.val) (.fence node))
  else .next s

/-! ### Manager, standby, takeover (R311, R312, R319, R320) -/

/-- What a takeover needs of the members and of the leases, as the manager's heartbeat carries them. -/
def Mgr.memberWords (m : Mgr) : List Nat := m.members.flatMap (fun e => [e.1, e.2.devId, e.2.copse, e.2.role])
/-- The leases. -/
def Mgr.leaseWords (m : Mgr) : List Nat := m.leases.flatMap (fun e => e.1 :: e.2.length :: e.2)

/-- MANAGER_HEARTBEAT, R319: the manager's heartbeat to the standby, once per period.  That it names the standby and
carries the members and the leases is a DESIGN CHOICE, safe: log 183. -/
def execManagerHeartbeat (s : State) : Host.Outcome State Fault Refusal :=
  match s.mgr.standby with
  | none => .next s
  | some n =>
    if s.isManager = true ∧ s.past s.mgr.mgrHbAt s.mgrPeriod = true then
      .next ((s.modMgr (fun m => { m with mgrHbAt := s.now })).controlTo n
        (.mgrHeartbeat s.mgr.mgrEpoch s.mgr.epoch s.mgr.memberWords s.mgr.leaseWords))
    else .next s

/-- What a heartbeat of the manager tells the standby. -/
def State.learn (s : State) (members : List (Fin 1024 × BitVec 64 × Nat × Fin 3))
    (leases : List (BitVec 32 × List (Fin 1024))) : State :=
  s.modMgr (fun m => { m with
    mgrWindow := true
    members := members.foldl (fun t e => Tab.ins t e.1 { devId := e.2.1.toNat, copse := e.2.2.1, role := e.2.2.2 }) []
    leases := leases.foldl (fun t e => Tab.put t e.1.toNat (e.2.map (fun n => n.val))) [] })

/-- MANAGER_HEARTBEAT_ARRIVE, R312, R319, R320: a joined device that the manager heartbeats is the standby, and the
window is not empty; a manager that hears of a higher manager epoch stands down. -/
def execManagerHeartbeatArrive (node : Fin 1024) (mgrEpoch epoch : BitVec 32)
    (members : List (Fin 1024 × BitVec 64 × Nat × Fin 3)) (leases : List (BitVec 32 × List (Fin 1024))) (s : State) :
    Host.Outcome State Fault Refusal :=
  let e := mgrEpoch.toNat
  if s.isManager then .next (if s.mgr.mgrEpoch < e then s.followManager node e else s)
  else if s.rd STS_MGT_ROLE.ROLE ≠ 0 ∧ s.mgr.mgrEpoch ≤ e then
    let s1 := if s.rd STS_MGT_ROLE.MGR_ROLE = 2 then s
      else (s.wr STS_MGT_ROLE.MGR_ROLE 2).modMgr (fun m => { m with mgrEmpty := 0, mgrWindowAt := s.now })
    .next (((s1.followManager node e).learn members leases).modMgr (fun m => { m with
      epoch := max m.epoch epoch.toNat }))
  else .next s

/-- The copse leads that the standby knows: of each copse the member with the lowest identity (R313). -/
def State.knownLeads (s : State) : List Nat := s.memberCopses.filterMap s.lowestIn

/-- STANDBY_WINDOW, R319: a window of 0.95 periods of the manager heartbeat closes; after five empty windows the standby
polls every copse lead, among which it answers for itself. -/
def execStandbyWindow (s : State) : Host.Outcome State Fault Refusal :=
  if s.rd STS_MGT_ROLE.MGR_ROLE = 2 ∧ s.mgr.polling = false ∧ s.past s.mgr.mgrWindowAt (s.mgrPeriod * 95 / 100) = true then
    let s1 := s.modMgr (fun m => { m with mgrWindowAt := s.now })
    if s.mgr.mgrWindow then .next (s1.modMgr (fun m => { m with mgrWindow := false, mgrEmpty := 0 }))
    else if s.mgr.mgrEmpty + 1 < 5 then .next (s1.modMgr (fun m => { m with mgrEmpty := m.mgrEmpty + 1 }))
    else
      let l := s.knownLeads
      .next ((l.filter (fun n => decide (n ≠ s.node))).foldl (fun s n => s.controlTo n .poll)
        (s1.modMgr (fun m => { m with
          mgrEmpty := 5, polling := true, pollAt := s.now, silent := l.filter (fun n => decide (n = s.node)), leads := l })))
  else .next s

/-- LEAD_POLL, R319: a copse lead answers whether the manager is silent toward it. -/
def execLeadPoll (node : Fin 1024) (silent : Bool) (s : State) : Host.Outcome State Fault Refusal :=
  if s.rd STS_MGT_ROLE.LEAD = 1 then .next (s.controlTo node (.pollAnswer silent)) else .next s

/-- POLL_ANSWER, R319: an answer within 5 ms counts. -/
def execPollAnswer (node : Fin 1024) (silent : Bool) (s : State) : Host.Outcome State Fault Refusal :=
  if s.mgr.polling = true ∧ node.val ∈ s.mgr.leads ∧ silent = true ∧ s.now ≤ s.mgr.pollAt + 5 * perMs then
    .next (s.modMgr (fun m => { m with silent := addAsc node m.silent }))
  else .next s

/-- The nodes to which this device has a route, but for itself. -/
def State.routedNodes (s : State) : List Nat :=
  (s.fabric.routes.map (fun e => e.1)).filter (fun n => decide (n ≠ s.node))

/-- This device becomes the manager at the next manager epoch, announces itself to every device and names a standby,
which is not the manager that went silent (R319). -/
def State.takeOver (s : State) : State :=
  let e := (s.mgr.mgrEpoch + 1) % 2 ^ 32
  let s1 := ((s.wr STS_MGT_ROLE.MGR_ROLE 1).wr STS_MGT_ROLE.MGR_EPOCH e).modMgr (fun m => { m with
    mgrEpoch := e, managerNode := some s.node, polling := false, mgrEmpty := 0, silent := [], standby := none
    windowAt := s.now, mgrHbAt := s.now
    copseLeads := s.memberCopses.foldl (fun t c => match s.lowestIn c with
      | some n => Tab.ins t c n
      | none => t) [] })
  let s2 := s1.routedNodes.foldl (fun s n => s.controlTo n (.announce e s.deviceId)) s1
  (s2.ensureStandby s.mgr.managerNode).lockRequest joinLock |>.drainMembership

/-- POLL_TIMEOUT, R319: 5 ms after the poll, takeover with more than half of the leads, else the isolation is reported
to the host on PF vector 0. -/
def execPollTimeout (s : State) : Host.Outcome State Fault Refusal :=
  if s.mgr.polling = true ∧ s.past s.mgr.pollAt (5 * perMs) = true then
    if s.mgr.leads.length < 2 * s.mgr.silent.length then .next s.takeOver
    else .next ((s.modMgr (fun m => { m with polling := false, mgrEmpty := 0 })).msix 0 0)
  else .next s

/-- Barrier reports, a join and a leave request that wait go to the new manager (R320). -/
def State.resendPending (s : State) (n : Nat) : State :=
  let s1 := s.mgr.answers.foldl (fun s a => s.request (some n) (1 + a.1) (.barrierReport a.1 a.2.1 a.2.2)) s
  let s2 := if s.mgr.joining then s1.request none 0 (.joinReq s.deviceId s.partners) else s1
  if s.mgr.leaving then s2.controlTo n (.leaveReq s.node) else s2

/-- MANAGER_ANNOUNCE, R311, R319, R320: a manager at a higher epoch, or at this epoch with a lower identity than
this manager's own; a standby of the former manager is none any longer. -/
def execManagerAnnounce (node : Fin 1024) (mgrEpoch : BitVec 32) (devId : BitVec 64) (s : State) :
    Host.Outcome State Fault Refusal :=
  let e := mgrEpoch.toNat
  if s.mgr.mgrEpoch < e ∨ (e = s.mgr.mgrEpoch ∧ (s.isManager = false ∨ devId.toNat < s.deviceId)) then
    let s1 := if s.rd STS_MGT_ROLE.MGR_ROLE = 2 ∧ s.mgr.managerNode ≠ some node.val then
        (s.wr STS_MGT_ROLE.MGR_ROLE 0).modMgr (fun m => { m with polling := false, silent := [] })
      else s
    .next ((s1.followManager node e).resendPending node)
  else .next s

/-- An authorisation for a port retired with cause HOSTILE whose partner it names; it lapses at the next membership
epoch. -/
def State.takeAuth (s : State) (port node : Nat) : State :=
  if s.rd (LNK_PORT_STS.CAUSE port) = 3 ∧ s.rd (LNK_PORT_STS.PARTNER port) = node then
    s.modPort port (fun q => { q with requalAuth := some s.mgr.epoch })
  else s

/-- REQUAL_AUTH, R321: the frame names a port retired with cause HOSTILE and its partner; on the manager, its host's
request names the device to which one such frame goes. -/
def execRequalAuth (target : Option (Fin 1024)) (port : Fin 24) (node : Fin 1024) (s : State) :
    Host.Outcome State Fault Refusal :=
  match target with
  | none => .next (s.takeAuth port node)
  | some d =>
    if s.isManager then
      .next (if d.val = s.node then s.takeAuth port node else s.controlTo d (.requalAuth port node))
    else .next s

/-- DEVICE_DOWN, R449: a declared failure at once. -/
def execDeviceDown (node : Fin 1024) (s : State) : Host.Outcome State Fault Refusal :=
  .next (if s.isManager then s.declareFailed node else s)

/-- STAND_DOWN, R449: the standby takes over without windows and without a poll. -/
def execStandDown (s : State) : Host.Outcome State Fault Refusal :=
  if s.rd STS_MGT_ROLE.MGR_ROLE = 2 then .next s.takeOver else .next s

/-! ### Substitution (R459 to R461) -/

/-- The step barriers of a lease in progress answer failed (Table 17.8, step 7). -/
def State.failBarriers (s : State) (lease : Nat) (nodes : List Nat) : State :=
  let s1 := s.modMgr (fun m => { m with reports := Tab.put m.reports lease [] })
  nodes.foldl (fun s n =>
    if n = s.node then
      (List.range 64).foldl (fun s p =>
        if s.rd (PLOT_LEASE_ID.LEASE_ID p) = lease then
          s.modPlot p (fun q => { q with step := q.step.map (fun k =>
            if k.report ∧ k.answer = none then { k with answer := some true } else k) })
        else s) s
    else s.controlTo n (.barrierAnswer lease 0 true)) s1

/-- The leases that include a node. -/
def State.leasesOf (s : State) (n : Nat) : List (Nat × List Nat) := s.mgr.leases.filter (fun e => decide (n ∈ e.2))

/-- The spare takes the failed worker's place in one lease: its share is bound there, barriers answer failed
(R459, steps 6 and 7). -/
def State.substituteIn (s : State) (n spare : Nat) (e : Nat × List Nat) : State :=
  let nodes := e.2.map (fun x => if x = n then spare else x)
  let s1 := s.modMgr (fun m => { m with leases := Tab.put m.leases e.1 nodes })
  let rest := e.2.filter (fun x => decide (x ≠ n))
  let s2 := (s1.controlTo spare (.substitute e.1 n spare)).failBarriers e.1 rest
  if s.node ∈ rest then s2.msix 0 1 else s2

/-- Without a spare every surviving share of a lease is reset without clearing (R461). -/
def State.resetShares (s : State) (n : Nat) (e : Nat × List Nat) : State :=
  (e.2.filter (fun x => decide (x ≠ n))).foldl (fun s x =>
    if x = s.node then
      (s.boundPlots.filter (fun p => decide (s.rd (PLOT_LEASE_ID.LEASE_ID p) = e.1))).foldl
        (fun s p => s.c2Reset p false false) s
    else s.controlTo x (.plotReset e.1 false)) s

/-- The place of a failed member is vacant; a worker that leaves keeps its entry until its leave is granted. -/
def State.vacate (s : State) (n : Nat) : State :=
  match Tab.look s.mgr.members n with
  | none => s
  | some e => s.modMgr (fun m => { m with members := if e.failed then Tab.del m.members n else Tab.ins m.members n { e with role := 2 } })

/-- SPARE_SUBSTITUTION, R316, R459 to R461, R467: under the system lock, the oldest failure or leave is handled and the
membership epoch rises; then the lock passes on and waiting joins and leaves follow. -/
def execSpareSubstitution (s : State) : Host.Outcome State Fault Refusal :=
  match s.mgr.substituting with
  | [] => .next s
  | n :: rest =>
    if s.isManager = true ∧ s.hasLock substLock = true then
      let copse := ((Tab.look s.mgr.members n).getD {}).copse
      let role := ((Tab.look s.mgr.members n).getD {}).role
      let spare := if role = 1 then s.spareOf copse else none
      let s1 := (s.modMgr (fun m => { m with substituting := rest })).vacate n
      let s2 := match spare with
        | some k => (s1.leasesOf n).foldl (fun (s : State) e => s.substituteIn n k e)
            (s1.modMember k (fun m => { m with role := 1 }))
        | none => if role = 1 then ((s1.leasesOf n).foldl (fun (s : State) e => s.resetShares n e) s1).msix 0 1 else s1
      let s3 := s2.newEpoch.lockRelease substLock
      .next (if rest.isEmpty then (s3.lockRequest joinLock).drainMembership else s3.lockRequest substLock)
    else .next s

end Sys2Proof.Machine
end

