-- ==== Sys2Proof/Machine/PcieOps.lean ====
section
/-! DEFINITION. Shared operations of the PCI Express attachment: function level resets (R338 to R340) and the
DOE mailbox (R341). -/

namespace Sys2Proof.Machine

/-- Table 12.1 but for what the PCI-SIG and firmware configuration give: device IDs of the physical function and of the
virtual ones, revision of steppings A0 and A1, class code, interrupt pin. -/
structure Identity where
  pfDevice : Nat := 0x0025
  vfDevice : Nat := 0x0026
  revisionA0 : Nat := 0x00
  revisionA1 : Nat := 0x01
  classCode : Nat := 0x120000
  interruptPin : Nat := 0
  deriving DecidableEq, Repr

/-- The SR-IOV capability (R328). -/
structure SrIov where
  totalVfs : Nat := 63
  initialVfs : Nat := 63
  firstOffset : Nat := 1
  stride : Nat := 1
  pageBytes : Nat := 4096
  deriving DecidableEq, Repr

/-- Requester ID of function `n`, from that of the physical function (R328). -/
def requesterId (c : SrIov) (pf n : Nat) : Nat := if n = 0 then pf else pf + c.firstOffset + c.stride * (n - 1)

/-- A key of the register file lies in a range of byte addresses. -/
def keyIn (lo hi k : Nat) : Bool := decide (32 * lo ≤ k ∧ k < 32 * hi)

/-- The registers of a range of addresses at their reset values. -/
def RegFile.clear (r : RegFile) (lo hi : Nat) : RegFile :=
  { r with field := r.field.filter (fun e => !keyIn lo hi e.1)
           copyB := r.copyB.filter (fun e => !keyIn lo hi e.1)
           copyC := r.copyC.filter (fun e => !keyIn lo hi e.1) }

/-- The registers of a range of addresses at their reset values. -/
def State.clearRegs (s : State) (lo hi : Nat) : State := { s with regs := s.regs.clear lo hi }

/-- The PCI Express part changed. -/
def State.modPcie (s : State) (f : Pcie → Pcie) : State := { s with pcie := f s.pcie }

/-- A function changed. -/
def State.modFunc (s : State) (n : Nat) (f : Func → Func) : State :=
  s.modPcie (fun p => { p with funcs := Tab.upd p.funcs n f })

/-- An FLR of a virtual function resets its plot with clearing; a plot that spans devices is reported to the
manager (R338, R384). -/
def State.vfReset (s : State) (vf : Nat) : State :=
  (s.boundPlots.filter (fun p => decide (s.rd (PLOT_FUNC.VF p) = vf))).foldl (fun s p =>
    let s1 := s.startReset p true true false
    if s.rd (PLOT_STS.MANAGED p) = 1 then s1.toManager (.plotWasReset (s.rd (PLOT_LEASE_ID.LEASE_ID p))) else s1) s

/-- An FLR of the physical function: VF Enable clears, every bound plot is reset with clearing, ring set-up and
MSI-X tables return to their reset values, a DOE object ends (R339, R340).  `c2` marks the resets as C2 of
their plots (R327). -/
def State.pfReset (s : State) (c2 : Bool) : State :=
  let s1 := s.boundPlots.foldl (fun s p =>
    let s1 := if c2 then s.c2Reset p true true else s.startReset p true true false
    if s.rd (PLOT_STS.MANAGED p) = 1 then s1.toManager (.plotWasReset (s.rd (PLOT_LEASE_ID.LEASE_ID p))) else s1) s
  let s2 := { s1.clearRegs 0x100000 0x108000 with rings := [] }
  s2.modPcie (fun p => { p with
    vfEnable := false, doeBusy := false, doeObject := none
    funcs := Tab.mapV (fun _ f => { f with unmasked := [], entries := [], pend := [] }) p.funcs })

/-- The link is down: no rate, no width; training begins again while PERST_N is high. -/
def State.linkDown (s : State) : State :=
  (((s.wr STS_PCIE_LINK.UP 0).wr STS_PCIE_LINK.WIDTH 0).wr STS_PCIE_LINK.RATE 0).modPcie (fun p => { p with
    training := !s.glob.perstLow && !s.glob.dormant })

/-- Configuration space answers: the link is up, its island runs, and requests are answered (R48, R473). -/
def State.configOpen (s : State) : Bool := s.pcieRuns && s.pcie.answering

/-- A request to the DOE mailbox is taken and its object is in progress until its answer is given, or it is not taken
while another is in progress, which shows as DOE Busy (R341).  That the answer comes with the next tick is a DESIGN
CHOICE, safe: log 188. -/
def State.doe (s : State) (answer : Doe) : State :=
  if s.configOpen then
    match s.pcie.doeObject with
    | some _ => s.modPcie (fun p => { p with doeBusy := true })
    | none => s.modPcie (fun p => { p with doeObject := some answer })
  else s

end Sys2Proof.Machine
end

