-- ==== Sys2Proof/Machine/ResetOps.lean ====
section
/-! DEFINITION. Shared operations of faults and resets: windthrow (R450), the C3 path (R449), a warm reset and
what survives it (R470 to R472, R486, R487), the boot of Table 15.3 (R407 to R410), power loss (R417). -/

namespace Sys2Proof.Machine

/-! ### Keys and windthrow -/

/-- Every key slot is zeroised (R403). -/
def State.zeroKeys (s : State) : State :=
  let noKeys (l : LinkSide) : LinkSide := { l with
    keys := false, txCtrl := 0, rxCtrl := 0, txSeal := 0, rxSeal := 0, adm := { l.adm with eph := 0 } }
  { s with
    sec := { s.sec with keysZeroised := s.sec.keysZeroised + 1 }
    ports := Tab.mapV (fun _ q => { q with link := noKeys q.link, paths := Tab.mapV (fun _ l => noKeys l) q.paths }) s.ports
    mgr := { s.mgr with copseKey := none, keys := [] } }

/-- The compute supply of a grove die is removed. -/
def State.supplyOff (s : State) (gd : Nat) : State :=
  (s.modDie gd (fun k => { k with supplyOn := false, targetMv := 0, brownout := none, droop := false })).wr
    (STS_GD_POWER.VOLT_MV gd) 0

/-- Every port that is not retired goes DOWN at once; nothing moves to another port. -/
def State.allPortsDown (s : State) : State :=
  let ports := (List.range 24).filter (fun p => decide (s.portState p ≠ portRETIRED))
  let s1 := ports.foldl (fun s p => s.setPortState p portDOWN) s
  ports.foldl State.portOut s1

/-- Windthrow: compute supplies removed, keys zeroised, uses of the identity key refused, ports DOWN, FAULT_N
low (R450, R451). -/
def State.enterWindthrow (s : State) : State :=
  if s.faults.windthrow then s
  else
    let s1 := (List.range 16).foldl State.supplyOff s.allPortsDown.zeroKeys
    let s2 := { s1 with
      faults := { s1.faults with windthrow := true }
      sec := { s1.sec with identityRefused := true }
      matJobs := [], vecJobs := [] }
    (s2.wr CTL_BRINGUP_STS.PHASE 6).refreshFaults

/-- A latch of any class acts: C4 is windthrow at once (R433, R450). -/
def State.strike (s : State) (die b : Nat) (plots : List Nat) (unit detail : Nat) : State :=
  let s1 := s.latch die b plots unit detail 0
  if topClass die b = 4 then s1.enterWindthrow else s1

/-! ### Leaving the system; C3 (R449, R471) -/

/-- Core 2 tells the manager, or the standby if this device is the manager, that it goes (R449). -/
def State.depart (s : State) : State :=
  if s.sec.booted = false ∨ s.rd STS_MGT_ROLE.ROLE = 0 then s
  else if s.isManager then
    match s.mgr.standby with
    | some n => (s.controlTo n .standDown).segmentSend (some n) .standDown
    | none => s
  else (s.toManager .deviceDown).segmentSend s.mgr.managerNode .deviceDown

/-- Issue and fetching stop, and the device leaves the system, once (R449). -/
def State.stopDevice (s : State) : State :=
  if s.faults.stopped then s
  else State.depart { s with faults := { s.faults with stopped := true } }

/-- The device holds stopped until the host asks for a warm reset (R449). -/
def State.holdDevice (s : State) : State :=
  let s1 := (s.wr FLT_SUMMARY.HELD 1).wr CTL_BRINGUP_STS.PHASE 5
  { s1 with glob := { s1.glob with warm := false } }

/-- A C3 event: counted, everything stops, and a warm reset follows or the device holds (R449). -/
def State.deviceFatal (s : State) : State :=
  let times := recent s.now perHour s.faults.c3Times ++ [s.now]
  let s1 := s.countUp CNT_FLT_B.C3 1
  let s2 := { s1 with faults := { s1.faults with c3Times := times } }
  if s2.faults.windthrow then s2
  else
    let s3 := s2.stopDevice
    if s3.rd FLT_CFG.AUTO_WARM = 0 ∨ 3 ≤ times.length then s3.holdDevice
    else { s3 with glob := { s3.glob with warm := true } }

/-- A warm reset is asked for: the device stops as for a C3 event; one that has started already is the same
warm reset (R471, R507).  In windthrow and Dormant nothing happens (R450, R484). -/
def State.startWarm (s : State) : State :=
  if s.faults.windthrow || s.glob.dormant || s.glob.warm then s
  else
    let s1 := s.stopDevice
    { s1 with glob := { s1.glob with warm := true } }

/-- An event that no fault-word bit names is C3 all the same: logged for the whole device. -/
def State.fatalEvent (s : State) : State := (s.logFault { die := 255, time := s.now } 3).deviceFatal

/-! ### What survives (Table 18.7) -/

/-- A register file with only the fields that a test keeps; shadows and waiting values are gone. -/
def RegFile.keep (r : RegFile) (ok : Nat → Bool) : RegFile :=
  { field := r.field.filter (fun e => ok e.1), copyB := r.copyB.filter (fun e => ok e.1),
    copyC := r.copyC.filter (fun e => ok e.1) }

/-- Addresses of settings: clocks, power, fault, links, management, security, grove windows, and AUTO_WAKE. -/
def settingBlock (a : Nat) : Bool :=
  decide (a = 0x114 ∨ (0x10000 ≤ a ∧ a < 0x80000) ∨ (0x200000 ≤ a ∧ a < 0x410000) ∨ (0x800000 ≤ a ∧ a < 0x900000))

/-- CLK_SSC, CFG_ENERGY_MODE and CTL_GD_PERFSEL return to their defaults (R487). -/
def returning (a : Nat) : Bool :=
  decide (a = 0x10010 ∨ a = 0x2001C ∨ (0x800000 ≤ a ∧ a % 0x10000 = 0x400))

/-- The field at a key is a setting that a warm reset keeps. -/
def isSetting (k : Nat) : Bool :=
  match rowAt (k / 32) with
  | none => false
  | some r => r.flds.any (fun f => decide (fieldLow f = k % 32 ∧ (f.acc = .rw ∨ f.acc = .rwt)))
      && settingBlock (k / 32) && !returning (k / 32)

/-- What the fuses and the security root hold: identity, SVN, lifecycle. -/
def fuseKeys (k : Nat) : Bool :=
  decide (k / 32 ≤ 0xC ∨ k = SEC_STS.LIFECYCLE.key ∨ k = SEC_STS.FUSE_SVN.key)

/-- What flash holds: image states, half-cycles, life. -/
def flashKeys (k : Nat) : Bool :=
  let a := k / 32
  decide (a = 0x400030 ∨ a = 0x400034 ∨ a = 0x20048 ∨ (0x20100 ≤ a ∧ a < 0x20164))

/-- What the always-on island keeps while it is powered: SOSC count, device energy, debug, the pins' code. -/
def aliveKeys (k : Nat) : Bool :=
  let a := k / 32
  decide (a = 0x10040 ∨ a = 0x10044 ∨ a = 0x20020 ∨ a = 0x20024 ∨ k = SEC_STS.DEBUG.key ∨ k = PWR_STS.PINS.key)

/-- Kept by a warm reset and PERST_N. -/
def keptWarm (k : Nat) : Bool :=
  isSetting k || fuseKeys k || flashKeys k || aliveKeys k || decide (k = CNT_FLT_B.C3.key)

/-- Kept in Dormant. -/
def keptDormant (k : Nat) : Bool := fuseKeys k || flashKeys k || aliveKeys k

/-- Kept by a power cycle: what the fuses hold, and the image states of flash. -/
def keptOff (k : Nat) : Bool := fuseKeys k || decide (k / 32 = 0x400030 ∨ k / 32 = 0x400034)

/-- The mode in which a port runs after a reset: MODE, at the reduced rate until full bring-up (R266, R475). -/
def State.modeAtReset (s : State) (p : Nat) : Nat :=
  let m := s.rd (LNK_PORT_CTL.MODE p)
  if 5 ≤ m then m - 2 else m

/-- Records of flash apply again: lanes, groups, channels, ports, pages and banks stay retired (R12, R22, R25,
R28). -/
def State.reapply (s : State) : State :=
  let one (s : State) (r : LaneRec) : State :=
    if r.kind = 0 then (s.modPort r.unit (fun q => { q with lanesRetired := addAsc r.sub q.lanesRetired })).showLanes r.unit
    else if r.kind = 1 then
      let x := (r.sub / 32, r.sub % 32)
      s.modChannel r.unit (fun c => if x ∈ c.lanesRetired then c else { c with lanesRetired := c.lanesRetired ++ [x] })
    else if r.kind = 2 then s.modChannel r.unit (fun c => { c with groupsRetired := addAsc (r.sub / 32) c.groupsRetired })
    else if r.kind = 3 then s.modChannel r.unit (fun c => { c with retired := true })
    else ((s.setPortState r.unit portRETIRED).wr (LNK_PORT_STS.CAUSE r.unit) r.cause).wr (LNK_PORT_STS.PARTNER r.unit)
      (if r.cause = 3 then r.sub else 0)
  let s1 := ((s.flash.lanesEven ++ s.flash.lanesOdd).filter (fun r => r.whole && decide (r.unit < (if 1 ≤ r.kind ∧ r.kind ≤ 3 then 32 else 24)))).foldl one s
  let s2 := { s1 with hbm := { s1.hbm with retired := s1.flash.pages, marked := [] } }
  s2.flash.banks.foldl (fun s b => s.modBank (b / 64) (b % 64) (fun k => { k with retired := true })) s2

/-- What every reset leaves alone: the queue, what was sent, host memory, flash without a staging in progress. -/
def State.kept (s : State) (regs : RegFile) : State :=
  { pending := s.pending, draws := s.draws, out := s.out, host := s.host, regs := regs
    flash := { s.flash with staging := none }
    hbm := { mem := s.hbm.mem, poison := s.hbm.poison } }

/-- Ports after a reset: nothing linked, the configured mode at its reduced rate. -/
def State.portsAtReset (s : State) : State :=
  (List.range 24).foldl (fun s p => s.modPort p (fun q => { q with appliedMode := s.modeAtReset p })) s

/-- What holds of the dies other than the always-on island once a warm reset has stopped them: everything at its
reset value but for what Table 18.7 keeps.  With `perst` PCI Express starts anew as well (R470). -/
def State.stopDies (s : State) (perst : Bool) : State :=
  let t := s.kept (s.regs.keep keptWarm)
  let t1 := { t with
    clocks := { loops := s.clocks.loops, refDown := s.clocks.refDown, divBridge := s.rd CLK_DIV.BRIDGE_DIV,
                divMgt := s.rd CLK_DIV.MGT_BUS_DIV, divHbm := List.replicate 16 (s.rd CLK_DIV.HBM_CTL_DIV),
                hbmRate := (List.range 4).foldl (fun t g => Tab.put t g (s.rd CLK_HBM_RATE.HBM_PIN_RATE)) [] }
    fabric := { pathVe := List.range 24 }
    mgr := { candidate := s.mgr.candidate, mgrSel := s.mgr.mgrSel, mgrEpoch := s.mgr.mgrEpoch }
    mac := { plcaId := s.mac.plcaId }
    pcie := if perst then { } else { s.pcie with answering := false, training := !s.glob.perstLow, doeBusy := false, doeObject := none }
    sec := { lifecycle := s.sec.lifecycle, keysZeroised := s.sec.keysZeroised + 1, identityRefused := s.sec.identityRefused }
    power := { s.power with frac16 := 16, gatedSince := false, hold := false, holdAt := none, badReads := 0, lowFlow := 0, goodFlow := 0, coolRead := false,
                            acts := [], energyMode := 0, unFrac := 0,
                            dies := Tab.mapV (fun _ k => { k with supplyOn := false, targetMv := 0, droop := false,
                                                                   brownout := none, throttle := false, gatedHalf := false }) s.power.dies }
    faults := { c3Times := s.faults.c3Times, thermTripN := s.faults.thermTripN }
    glob := { poweredOn := true, perstLow := s.glob.perstLow, bootAt := s.now } }
  (t1.portsAtReset).reapply

/-- Every waiting record reaches flash (R30, R417). -/
def Flash.flush (f : Flash) : Flash :=
  (List.range (2 * f.pendLane.length + f.pendLog.length + f.pendLife.length)).foldl (fun f _ => f.writeNext) f

/-- The first die at which a figure is largest. -/
def worstDie (f : Nat → Nat) : Nat := (List.range 25).foldl (fun m d => if f m < f d then d else m) 0

/-- USED and WORST_DIE as the life accumulators stand (R440). -/
def State.showLife (s : State) : State :=
  let old := worstDie (fun d => (s.die d).life)
  (s.wr PWR_LIFE.USED (min ((s.die old).life / 16000) 65535)).wr PWR_LIFE.WORST_DIE old

/-- The device without power: fuses and flash remain, and the life counters as flash last took them (R31). -/
def State.powerOff (s : State) : State :=
  let t := s.kept (s.regs.keep keptOff)
  let rec0 := (s.flash.life.find? (fun r => r.whole)).getD {}
  State.showLife { (rec0.half.zipIdx).foldl (fun (s : State) q => s.wr (PWR_HALF_CYCLES.COUNT q.2) q.1) t with
    hbm := {}
    flash := { t.flash with overwrites := max t.flash.overwrites rec0.overwrites }
    mgr := { mgrSel := s.mgr.mgrSel }
    clocks := { refDown := s.clocks.refDown }
    sec := { lifecycle := s.sec.lifecycle }
    power := { lifetime := rec0.energy,
               dies := (List.range 25).foldl (fun t d => Tab.put t d { life := rec0.life.getD d 0 }) [] }
    glob := { perstLow := s.glob.perstLow } }

/-- In Dormant only the always-on island lives (R483, Table 18.7). -/
def State.sleep (s : State) : State :=
  let t := s.kept (s.regs.keep keptDormant)
  let t1 := { t with
    hbm := {}
    mgr := { mgrSel := s.mgr.mgrSel, candidate := s.mgr.candidate, mgrEpoch := s.mgr.mgrEpoch }
    clocks := { refDown := s.clocks.refDown }
    sec := { lifecycle := s.sec.lifecycle, keysZeroised := s.sec.keysZeroised + 1, identityRefused := s.sec.identityRefused }
    power := { lifetime := s.power.lifetime, envCode := s.power.envCode, undervolt := s.power.undervolt,
               devFrac := s.power.devFrac,
               dies := Tab.mapV (fun _ k => { k with supplyOn := false, targetMv := 0, droop := false, brownout := none,
                                                      throttle := false, gatedHalf := false }) s.power.dies }
    faults := { started := true, faultN := true, thermTripN := s.faults.thermTripN }
    glob := { poweredOn := true, perstLow := s.glob.perstLow, dormant := true } }
  (t1.wr CTL_PSTATE.STATE 4).refreshFaults

/-! ### Images and boot (R407 to R411) -/

/-- An image slot: false is A, true is B. -/
def Flash.img (f : Flash) (b : Bool) : ImageSlot := if b then f.imgB else f.imgA

/-- A marking is a write of the alternate header copy with a higher sequence number (R409). -/
def Flash.setImg (f : Flash) (b : Bool) (i : ImageSlot) : Flash :=
  if b then { f with imgB := i, headerSeq := f.headerSeq + 1 } else { f with imgA := i, headerSeq := f.headerSeq + 1 }

/-- SEC_IMG_A and SEC_IMG_B as the partition header stands. -/
def State.showImages (s : State) : State :=
  let a := s.flash.imgA
  let b := s.flash.imgB
  let s1 := ((s.wr SEC_IMG_A.STATE a.state).wr SEC_IMG_A.SVN a.svn).wr SEC_IMG_A.CONFIRM_SEQ a.confirmSeq
  ((s1.wr SEC_IMG_B.STATE b.state).wr SEC_IMG_B.SVN b.svn).wr SEC_IMG_B.CONFIRM_SEQ b.confirmSeq

/-- An image slot rewritten. -/
def State.setImage (s : State) (b : Bool) (i : ImageSlot) : State :=
  State.showImages { s with flash := s.flash.setImg b i }

/-- The state of an image marked: 0 EMPTY, 1 VALID, 2 PENDING, 3 TRIAL, 4 BAD. -/
def State.markImage (s : State) (b : Bool) (st : Nat) : State :=
  s.setImage b { s.flash.img b with state := st }

/-- The copy of the partition header in force, 0 or 1: each write goes to the other one with the next sequence number
(R409). -/
def Flash.headerCopy (f : Flash) : Nat := f.headerSeq % 2

/-- Bytes programmed into a slot (R27); the header is not written for them. -/
def Flash.program (f : Flash) (b : Bool) (l : List Byte) : Flash :=
  if b then { f with imgB := { f.imgB with bytes := f.imgB.bytes ++ l } }
  else { f with imgA := { f.imgA with bytes := f.imgA.bytes ++ l } }

/-- The image that the order of R409 takes. -/
def Flash.choose (f : Flash) : Option Bool :=
  if f.imgA.state = 2 then some false
  else if f.imgB.state = 2 then some true
  else if f.imgA.state = 1 ∧ (f.imgB.state ≠ 1 ∨ f.imgB.confirmSeq ≤ f.imgA.confirmSeq) then some false
  else if f.imgB.state = 1 then some true
  else none

/-- An image is verified (R408). -/
def State.verified (s : State) (i : ImageSlot) : Bool :=
  i.chainOk && i.digestsOk && decide (s.rd SEC_STS.FUSE_SVN ≤ i.svn)

/-- Images are tried in the order of R409; one that fails is marked BAD. -/
def State.tryImages : Nat → State → State × Option Bool
  | 0, s => (s, none)
  | n + 1, s =>
    match s.flash.choose with
    | none => (s, none)
    | some b =>
      if s.verified (s.flash.img b) then
        (if (s.flash.img b).state = 2 then s.markImage b 3 else s, some b)
      else State.tryImages n (s.markImage b 4)

/-- A manager candidate becomes a manager as its core 2 starts, but not while PERST_N is low, at whose release the
candidate is chosen: the first member of its own system, lead of its copse (R311, R313). -/
def State.claimManager (s : State) : State :=
  if s.mgr.candidate = true ∧ s.sec.booted = true ∧ s.rd STS_MGT_ROLE.ROLE = 0 ∧ s.glob.perstLow = false then
    let s1 := (((s.wr STS_MGT_ROLE.MGR_ROLE 1).wr STS_MGT_ROLE.ROLE 1).wr STS_MGT_ROLE.NODE 0).wr
      STS_MGT_ROLE.MGR_EPOCH s.mgr.mgrEpoch
    (s1.modMgr (fun m => { m with
      managerNode := some 0, copse := 0, windowAt := s.now, mgrHbAt := s.now
      members := [(0, { devId := s.deviceId, role := 1 })] })).appoint
  else s

/-- Core 0 is released on an image: the status that Table 15.3 leaves at step 7. -/
def State.release (s : State) (b : Bool) : State :=
  let i := s.flash.img b
  let trial := decide (i.state = 3)
  let s1 := ((((s.wr SEC_STS.BOOT_IMAGE (b2n b)).wr SEC_STS.TRIAL (b2n trial)).wr SEC_STS.IMAGE_SVN i.svn).wr
    SEC_STS.RECOVERY 0).wr SEC_FW_STS.STATE (if trial then 5 else 0)
  let s2 := { s1 with sec := { s1.sec with
    booted := true, extension := false, measured := i.measurement
    trialDeadline := if trial then some (s.now + 120 * perS) else none } }
  ((s2.wr CTL_BRINGUP_STS.PHASE 1).wrReset CTL_CORE_STS.RUNNING).claimManager

/-- No image can be booted: recovery, logged and no fault class event (R410). -/
def State.recover (s : State) : State :=
  let s1 := ((s.wr SEC_STS.RECOVERY 1).wr CTL_BRINGUP_STS.PHASE 4).wr CTL_CORE_STS.RUNNING 0
  State.logFault { s1 with sec := { s1.sec with booted := false } } { die := 255, kind := 4, time := s.now } 0

/-- An image is taken and released, or recovery is entered. -/
def State.bootNext (s : State) : State :=
  match State.tryImages 2 s with
  | (t, some b) => t.release b
  | (t, none) => t.recover

/-- An image in TRIAL at boot has not been confirmed (R409). -/
def State.dropTrial (s : State) : State :=
  [false, true].foldl (fun s b => if (s.flash.img b).state = 3 then s.markImage b 4 else s) s

/-- Lanes that fail die-mesh qualification are retired (R12, R13). -/
def State.qualifyLanes (s : State) (l : List (Fin 32 × Fin 8 × Fin 32)) : State :=
  l.foldl (fun s x =>
    if x.2.1.val < groupsOf x.1 ∧ x.2.1.val ∉ (s.channel x.1).groupsRetired ∧ (s.channel x.1).retired = false then
      s.retireDieLane x.1 x.2.1 x.2.2 (channelEnds x.1).1
    else s) s

/-- The boot of Table 15.3 and the start of bring-up: the collector starts, references' loops lock, the image is
chosen, the configuration record is checked, channels are qualified (R43, R407, R451, R473). -/
def State.boot (s : State) (env : BootEnv) : State :=
  let s1 := (((List.range 15).filter (fun l => decide (refOfLoop l ∉ s.clocks.refDown))).foldl State.gainLock s).wr
    CLK_STATUS.SOSC_OK 1
  let s2 := { s1 with
    faults := { s1.faults with started := true,
                               lastWord := (List.range 24).foldl (fun t d => Tab.put t d s.now) [] }
    flash := if env.cfgOk then s1.flash else { s1.flash with cfgManager := none, cfgStandby := none, cfgRefMode := 0 } }
  let s3 := (s2.wr SEC_STS.CFG_DEFAULTED (b2n (!env.cfgOk))).wr SEC_STS.LIFECYCLE s2.sec.lifecycle
  let s4 := { s3 with glob := { s3.glob with dormant := false, bootAt := s.now } }
  (((s4.showImages.dropTrial).bootNext).qualifyLanes env.badLanes).refreshEnvelope.refreshFaults

/-- A warm reset or PERST_N: every die but the always-on island stops, then boots (R470, R471, R472). -/
def State.rebootDies (s : State) (perst : Bool) (env : BootEnv) : State := (s.stopDies perst).boot env

end Sys2Proof.Machine
end

