-- ==== Sys2Proof/Machine/Bringup.lean ====
section
/-! DEFINITION. Meanings of bring-up, resets and power states (R470 to R489, R505, R511, R512). -/

namespace Sys2Proof.Machine

/-! ### Power-on and PERST_N -/

/-- POWER_ON, R511, R407: power-on reset is released and the boot ROM starts. -/
def execPowerOn (env : BootEnv) (s : State) : Host.Outcome State Fault Refusal :=
  if s.glob.poweredOn then .next s
  else
    let s1 := (s.set64 CLK_SOSC_COUNT_LO.COUNT_LO CLK_SOSC_COUNT_HI.COUNT_HI 0)
    let s2 := { s1 with
      glob := { s1.glob with poweredOn := true }
      fabric := { pathVe := List.range 24 }
      pcie := { s1.pcie with training := !s1.glob.perstLow } }
    .next ((s2.reapply).boot env)

/-- PERST_N_ASSERT, R472, R512: acts at once, but for the frame that leaves first; in windthrow and Dormant only
PCI Express is reset (R450, R484). -/
def execPerstNAssert (env : BootEnv) (s : State) : Host.Outcome State Fault Refusal :=
  let low (s : State) : State := { s with glob := { s.glob with perstLow := true } }
  if s.glob.perstLow then .next s
  else if s.glob.poweredOn = false then .next (low s)
  else if s.faults.windthrow || s.glob.dormant then
    .next (State.linkDown { low s with pcie := {} })
  else .next ((low s.depart).rebootDies true env)

/-- PERST_N_RELEASE, R473, R512, R311: MGR_SEL is sampled, link training begins, and Dormant ends (R484). -/
def execPerstNRelease (mgrSel : Bool) (env : BootEnv) (s : State) : Host.Outcome State Fault Refusal :=
  if s.glob.perstLow then
    let s1 := { s with
      glob := { s.glob with perstLow := false }
      mgr := { s.mgr with mgrSel := mgrSel, candidate := s.flash.cfgManager.getD mgrSel } }
    if s.glob.poweredOn = false then .next s1
    else if s.glob.dormant then .next (s1.rebootDies true env |>.modPcie (fun p => { p with training := true }))
    else if s.faults.windthrow then .next (s1.modPcie (fun p => { p with training := true }))
    else .next ((s1.modPcie (fun p => { p with training := true })).claimManager)
  else .next s

/-! ### Bring-up (Table 18.2) -/

/-- Bring-up is under way: an image runs, and nothing holds or stops the device. -/
def State.bringing (s : State) : Bool :=
  let phase := s.rd CTL_BRINGUP_STS.PHASE
  s.sec.booted && decide (phase = 1 ∨ phase = 2) && !s.faults.stopped

/-- Grove die `gd` does not come into service; without GD0 and GD8 bring-up fails, which is C3 (R15, R474). -/
def State.failQualify (s : State) (gd : Nat) : State :=
  let s1 := s.fenceDie gd
  if s.noRoot = false ∧ s1.noRoot = true then s1.fatalEvent else s1

/-- STACK_TRAINED, R473, R474: the stack is ready, or fails and fences its die. -/
def execStackTrained (stack : Fin 16) (good : Bool) (s : State) : Host.Outcome State Fault Refusal :=
  if s.bringing = true ∧ s.fenced stack = false ∧ (s.stack stack).trained = false
      ∧ s.loopLocked (1 + stack / 4) = true then
    if good then
      .next ((s.modStack stack (fun k => { k with trained := true })).wrBit STS_INSERVICE.STACKS stack true)
    else .next (s.failQualify stack)
  else .next s

/-- EXTENSION_LOAD, R407 step 8, R409: from H0, or from H8 if GD0 is fenced; a part whose digest differs marks its
image BAD, and the other image boots. -/
def execExtensionLoad (good : Bool) (s : State) : Host.Outcome State Fault Refusal :=
  let h := if s.fenced 0 then 8 else 0
  if s.bringing = true ∧ s.sec.extension = false ∧ (s.stack h).trained = true then
    if good then .next { s with sec := { s.sec with extension := true } }
    else .next ((s.markImage (decide (s.rd SEC_STS.BOOT_IMAGE = 1)) 4).bootNext)
  else .next s

/-- A route of qualified channels joins the die to GD0 or GD8 (R474). -/
def State.routed (s : State) (gd : Nat) : Bool :=
  decide (gd = 0 ∨ gd = 8) || (List.range 16).any (fun d => s.groveUp d && s.joined gd d)

/-- What a bound plot leases on a die that joins is cleared, seeded or set clean before the plot uses it (R478). -/
def State.joinLease (s : State) (gd p : Nat) : State :=
  let s1 := ((List.range 64).filter (s.leasesBank p gd)).foldl (fun s b => s.modBank gd b (fun k => { k with
    cleared := k.cleared + 1, poison := [] })) s
  let s2 := ((List.range 4).filter (s.leasesVe p gd)).foldl (fun s v => s.seedVe (4 * gd + v)) s1
  { s2 with hbm := (s2.extsIn p gd).foldl (fun h e => h.setClean gd e) s2.hbm }

/-- GROVE_DIE_JOIN, R473, R474, R478, R499: `tileOk` is the test of tile memory.  A die not yet qualified stays off
during a sudden coolant stop (Table 16.5). -/
def execGroveDieJoin (gd : Fin 16) (badLanes : List (Fin 32 × Fin 8 × Fin 32)) (tileOk : Bool) (s : State) :
    Host.Outcome State Fault Refusal :=
  if s.bringing = true ∧ s.sec.extension = true ∧ (s.stack gd).trained = true ∧ s.fenced gd = false
      ∧ s.groveUp gd = false ∧ s.power.hold = false then
    let s1 := s.qualifyLanes badLanes
    if tileOk = false ∨ gd.val ∈ s.clocks.soscBad then .next (s1.failQualify gd)
    else if s1.routed gd = false then .next s1
    else
      let v := s1.rd PWR_VOLT_CFG.VMIN_MV
      let s2 := (s1.modDie gd (fun k => { k with supplyOn := true, targetMv := v, windowAt := s.now })).wr (STS_GD_POWER.VOLT_MV gd) v
      let s3 := { s2 with
        pkg := { s2.pkg with qualified := addAsc gd s2.pkg.qualified }
        power := { s2.power with target := if s2.rd STS_INSERVICE.GROVE = 0 then v else s2.power.target } }
      let s4 := (s3.wrBit STS_INSERVICE.GROVE gd true).wr CTL_BRINGUP_STS.PHASE 2
      .next (s4.boundPlots.foldl (fun s p => s.joinLease gd p) s4).refreshPath
  else .next s

/-- BRINGUP_FULL, R474, R477, R479: dies that have not qualified are fenced, and with the mask of R15
final those outside its set; PHASE is FULL, ports move to their link
adders at the next epoch boundary, and set-aside tiles may run again. -/
def execBringupFull (s : State) : Host.Outcome State Fault Refusal :=
  if s.bringing = true ∧ s.rd CTL_BRINGUP_STS.PHASE = 2 then
    let late := (List.range 16).filter (fun d => !s.groveUp d && !s.fenced d)
    let s1 := late.foldl State.failQualify s
    let s2 := ((s1.wr CTL_BRINGUP_STS.PHASE 3).wr CTL_BRINGUP_STS.FULL_MS
      (min ((s.now - s.glob.bootAt) / perMs) 65535)).fenceUnreached
    let moving := s2.fabric.pathVe.filter (fun p => decide (p ∉ s2.fabric.adderFault)
      && !s2.fabric.pathWant.any (fun w => decide (w.1 = p)))
    let fab := { s2.fabric with pathWant := s2.fabric.pathWant ++ moving.map (fun p => (p, false)) }
    let jobs := s2.matJobs.map (fun j => { j with tiles := j.tiles.map (fun t =>
      { t with setAside := false, demand := (if t.setAside then none else t.demand) }) })
    let s3 := { s2 with fabric := fab, matJobs := jobs }
    .next s3.formFloor
  else .next s

/-! ### Resets -/

/-- SCAN_INSTRUCTION, R505: every die stops, and the event is C3. -/
def execScanInstruction (s : State) : Host.Outcome State Fault Refusal :=
  if s.glob.poweredOn = true ∧ s.faults.scanStop = false then
    .next (State.fatalEvent { s with faults := { s.faults with scanStop := true } })
  else .next s

/-- CTL_RESET, R471, R489: only with KEY = 0xA17E and CMD = 0b01. -/
def execCtlReset (path : Fin 6) (v : BitVec 32) (s : State) : Host.Outcome State Fault Refusal :=
  if s.writeOpen path 0x110 = true ∧ bits v.toNat 31 16 = 0xA17E ∧ bits v.toNat 1 0 = 1 then .next s.startWarm
  else .next s

/-- WARM_RESET_DIE_STOP, R471: the dies stop, and the boot of Table 15.3 runs again. -/
def execWarmResetDieStop (env : BootEnv) (s : State) : Host.Outcome State Fault Refusal :=
  if s.glob.warm = true ∧ s.faults.windthrow = false then .next (s.rebootDies false env) else .next s

/-! ### Fallow and Dormant (R480 to R484) -/

/-- A write of CTL_PSTATE: AUTO_WAKE is stored beside the request. -/
def State.storeAutoWake (s : State) (a : Bool) : State := s.wr CTL_PSTATE.AUTO_WAKE (b2n a)

/-- Entry to Fallow begins: life counters are appended, stacks go to self-refresh (R31, R480). -/
def State.beginFallow (s : State) : State :=
  let s1 := (s.appendLife).wr CTL_PSTATE.STATE 1
  ((List.range 16).filter s1.groveUp).foldl (fun s n => s.modStack n (fun k => { k with selfRefresh := true })) s1

/-- FALLOW, R480: accepted in PHASE FULL with every bound plot drained; ERR says why not. -/
def execFallow (path : Fin 6) (autoWake : Bool) (s : State) : Host.Outcome State Fault Refusal :=
  if s.writeOpen path 0x114 = true ∧ s.faults.windthrow = false then
    let s1 := s.storeAutoWake autoWake
    if s1.rd CTL_PSTATE.STATE ≠ 0 then .next s1
    else if s1.rd CTL_BRINGUP_STS.PHASE ≠ 3 then .next (s1.wr CTL_PSTATE.ERR 6)
    else if s1.boundPlots.all s1.drained then .next s1.beginFallow
    else .next (s1.wr CTL_PSTATE.ERR 1)
  else .next s

/-- FALLOW_ENTRY_COMPLETE, R480: the grove dies are power-gated. -/
def execFallowEntryComplete (s : State) : Host.Outcome State Fault Refusal :=
  if s.rd CTL_PSTATE.STATE = 1 then .next (((List.range 16).foldl State.supplyOff s).wr CTL_PSTATE.STATE 2)
  else .next s

/-- RUN, R482, R438. -/
def execRun (path : Fin 6) (autoWake : Bool) (s : State) : Host.Outcome State Fault Refusal :=
  if s.writeOpen path 0x114 = true ∧ s.faults.windthrow = false then .next (s.storeAutoWake autoWake).wakeUp
  else .next s

/-- A grove die comes back from Fallow: supply at VMIN, banks flash-cleared, its stack out of self-refresh, its
performance selections at their defaults (Table 18.5). -/
def State.wakeDie (s : State) (gd : Nat) : State :=
  let v := s.rd PWR_VOLT_CFG.VMIN_MV
  let s1 := ((s.modDie gd (fun k => { k with supplyOn := true, targetMv := v, windowAt := s.now })).wr (STS_GD_POWER.VOLT_MV gd) v).modStack
    gd (fun k => { k with selfRefresh := false })
  let s2 := (List.range 64).foldl (fun s b => s.modBank gd b (fun k => { k with
    cleared := k.cleared + 1, poison := [] })) s1
  s2.wrResets [CTL_GD_PERFSEL.SEL_0 gd, CTL_GD_PERFSEL.SEL_1 gd, CTL_GD_PERFSEL.SEL_2 gd, CTL_GD_PERFSEL.SEL_3 gd]

/-- FALLOW_EXIT_COMPLETE, R482, Table 18.5: a die whose channels fail their retest is fenced, and its plots take C2. -/
def execFallowExitComplete (failed : List (Fin 16)) (s : State) : Host.Outcome State Fault Refusal :=
  if s.rd CTL_PSTATE.STATE = 3 then
    let s1 := ((List.range 16).filter s.groveUp).foldl State.wakeDie s
    let s2 := (List.range 32).foldl (fun s c => s.modCore c (fun k => { k with tcm := [], args := [] })) s1
    let s3 := { s2 with
      glob := { s2.glob with coolFallow := false, fallowClear := [] }
      power := { s2.power with target := s2.rd PWR_VOLT_CFG.VMIN_MV } }
    let s4 := (s3.wr PWR_COOL_STS.STATE 0).wr CTL_PSTATE.STATE 0
    let s5 := failed.foldl (fun s d => s.fenceDie d) s4
    .next ((plotsFenced s4 s5).foldl (fun s p => s.c2Reset p false false) s5)
  else .next s

/-- DORMANT, R483: refused while a plot is not UNBOUND, the device is joined, or staging is in progress. -/
def execDormant (path : Fin 6) (autoWake : Bool) (s : State) : Host.Outcome State Fault Refusal :=
  if s.writeOpen path 0x114 = true ∧ s.faults.windthrow = false then
    let s1 := s.storeAutoWake autoWake
    if s1.rd CTL_PSTATE.STATE ≠ 0 ∧ s1.rd CTL_PSTATE.STATE ≠ 2 then .next s1
    else if (List.range 64).any (fun p => decide (s1.plotState p ≠ plotUNBOUND)) then .next (s1.wr CTL_PSTATE.ERR 5)
    else if s1.rd STS_MGT_ROLE.ROLE ≠ 0 then .next (s1.wr CTL_PSTATE.ERR 3)
    else if s1.flash.staging.isSome then .next (s1.wr CTL_PSTATE.ERR 4)
    else .next ((s1.appendLife).wr CTL_PSTATE.STATE 4)
  else .next s

/-- DORMANT_ENTRY_COMPLETE, R483: only the always-on island lives. -/
def execDormantEntryComplete (s : State) : Host.Outcome State Fault Refusal :=
  if s.rd CTL_PSTATE.STATE = 4 ∧ s.glob.dormant = false then .next s.sleep else .next s

/-! ### SMBus sideband (R506, R507) -/

/-- Core 3 serves the sideband: an image runs, and the device is not in Dormant. -/
def State.sideband (s : State) : Bool := s.sec.booted && !s.glob.dormant

/-- STATUS: PHASE, power state, highest class, hottest junction. -/
def execStatus (pecOk : Bool) (s : State) : Host.Outcome State Fault Refusal :=
  if pecOk = true ∧ s.glob.poweredOn = true then
    .next (s.send (.smbus ([s.rd CTL_BRINGUP_STS.PHASE, s.rd CTL_PSTATE.STATE, s.rd FLT_SUMMARY.HIGHEST,
      s.rd STS_THERM.HOTTEST_C].map (BitVec.ofNat 8))))
  else .next s

/-- SET_ADDR: the low two bits must be zero. -/
def execSetAddr (pecOk : Bool) (ptr : BitVec 32) (s : State) : Host.Outcome State Fault Refusal :=
  if pecOk = true ∧ s.sideband = true ∧ s.faults.windthrow = false ∧ ptr.toNat % 4 = 0 then
    .next { s with glob := { s.glob with smbAddr := ptr } }
  else .next s

/-- READ_REG: the register at the pointer, which advances by 4; outside the three blocks zeros, and it stays. -/
def execReadReg (pecOk : Bool) (s : State) : Host.Outcome State Fault Refusal :=
  if pecOk = true ∧ s.sideband = true then
    let a := s.glob.smbAddr.toNat
    if sidebandBlock a then
      let s1 := s.latchRead 5 a
      .next (State.send { s1 with glob := { s1.glob with smbAddr := s.glob.smbAddr + 4 } }
        (.smbus (leBytes 4 (s.readWord 5 a))))
    else .next (s.send (.smbus [0, 0, 0, 0]))
  else .next s

/-- WARM_RESET: only with the word 0xA17E, and not in windthrow. -/
def execWarmReset (pecOk : Bool) (word : BitVec 16) (s : State) : Host.Outcome State Fault Refusal :=
  if pecOk = true ∧ s.sideband = true ∧ word = 0xA17E then .next s.startWarm else .next s

/-- WAKE: ends Dormant with a warm reset (R484); no effect in any other state. -/
def execWake (pecOk : Bool) (env : BootEnv) (s : State) : Host.Outcome State Fault Refusal :=
  if pecOk = true ∧ s.glob.dormant = true then .next (s.rebootDies false env) else .next s

end Sys2Proof.Machine
end

