-- ==== Sys2Proof/Machine/Power.lean ====
section
/-! DEFINITION. Meanings of power, temperature and coolant (R416 to R441).  Powers are given in mW; energies of an
attribution interval in 2⁻³² µJ; modelled energies in 0.1 fJ. -/

namespace Sys2Proof.Machine

/-! ### The 48 V input and the envelope pins (R417, R419) -/

/-- The power part changed. -/
def State.modPower (s : State) (f : Power → Power) : State := { s with power := f s.power }

/-- INPUT_UNDERVOLTAGE. -/
def execInputUndervoltage (s : State) : Host.Outcome State Fault Refusal :=
  .next (s.modPower (fun k => { k with undervolt := true })).refreshEnvelope

/-- INPUT_RESTORED: the input has stayed above 45 V since a SOSC time, 10 ms ago or more. -/
def execInputRestored (since : Nat) (s : State) : Host.Outcome State Fault Refusal :=
  if s.past since (10 * perMs) then .next (s.modPower (fun k => { k with undervolt := false })).refreshEnvelope
  else .next s

/-- INPUT_POWER_LOSS: the input has been below 40 V since a SOSC time, 50 µs ago or more; issue stops, pending records
are written, then power is lost. -/
def execInputPowerLoss (since : Nat) (s : State) : Host.Outcome State Fault Refusal :=
  if s.past since (50 * perUs) then .next (State.powerOff { s with flash := s.flash.flush }) else .next s

/-- ENVELOPE_CODE: the pins have held a code since a SOSC time, 16 periods ago or more. -/
def execEnvelopeCode (code : Fin 8) (since : Nat) (s : State) : Host.Outcome State Fault Refusal :=
  if s.past since 16 then .next (s.modPower (fun k => { k with envCode := code })).refreshEnvelope else .next s

/-! ### The voltage follower (R421, R422, Table 2.1) -/

/-- Table 2.1: supply in mV, and the row-step rate in 0.01 G/s at 25, 60, 85 and 105 °C. -/
def rateTable : List (Nat × Nat × Nat × Nat × Nat) :=
  [(420, 46, 55, 60, 64), (450, 61, 70, 75, 79), (500, 88, 95, 99, 102), (550, 121, 123, 124, 124),
   (600, 152, 150, 148, 146), (650, 172, 168, 165, 162), (720, 196, 190, 186, 182)]

/-- The two points of a row of Table 2.1 between which a temperature lies; below 25 °C the first two, extended
(R34). -/
def ratePoints (r : Nat × Nat × Nat × Nat) (t : Nat) : (Nat × Nat) × (Nat × Nat) :=
  if t < 60 then ((25, r.1), (60, r.2.1))
  else if t < 85 then ((60, r.2.1), (85, r.2.2.1))
  else ((85, r.2.2.1), (105, r.2.2.2))

/-- The rate of a row of Table 2.1 at a temperature, times the distance of its points. -/
def rateIn (r : Nat × Nat × Nat × Nat) (t : Nat) : Int :=
  let p := ratePoints r t
  (p.1.2 : Int) * ((p.2.1 : Int) - t) + (p.2.2 : Int) * ((t : Int) - p.1.1)

/-- The typical row-step rate at a supply and a temperature, as numerator and denominator (R34). -/
def rateAt (mv t : Nat) : Nat × Nat :=
  let t := min t 105
  match (rateTable.zip (rateTable.drop 1)).find? (fun q => decide (mv < q.2.1 ∨ q.2.1 = 720)) with
  | none => (1, 1)
  | some (a, b) =>
    let n := rateIn a.2 t * ((b.1 : Int) - mv) + rateIn b.2 t * ((mv : Int) - a.1)
    let p := ratePoints a.2 t
    (n.toNat, (b.1 - a.1) * (p.2.1 - p.1.1))

/-- Row-steps of the typical rate in a window of 8,192 SOSC periods, 1.024 ms, as a fraction. -/
def windowSteps (mv t : Nat) : Nat × Nat :=
  let r := rateAt mv t
  (10240 * r.1, r.2)

/-- A replica's count as its die can deliver it: the die's rate lies within 7 % of the typical one, which interpolation
gives to within 2 %, and the reading within 2 % of the rate (R34, R38); below 420 mV it lies above zero and below that at
420 mV (R36). -/
def rateReading (mv t n : Nat) : Nat :=
  let hi := windowSteps (max 420 mv) t
  let lo := if mv < 420 then (1, 1) else (93 * 98 * 98 * hi.1 / 1000000, hi.2)
  clampTo (lo.1 / lo.2) (107 * 102 * 102 * hi.1 / 1000000 / hi.2) n

/-- RATE_WINDOW, R38: at the end of a window of 8,192 periods, the replica's row-steps in it. -/
def execRateWindow (gd : Fin 16) (count : Nat) (s : State) : Host.Outcome State Fault Refusal :=
  if s.fenced gd = false ∧ (s.die gd).supplyOn = true ∧ s.past (s.die gd).windowAt 8192 = true then
    .next ((s.wr (STS_GD_RATE.RATE_COUNT gd) (rateReading (s.rd (STS_GD_POWER.VOLT_MV gd)) (s.die gd).tempC count)).modDie
      gd (fun k => { k with windowAt := s.now }))
  else .next s

/-- Exact sum of two fractions. -/
def addFrac (a b : Nat × Nat) : Nat × Nat := (a.1 * b.2 + b.1 * a.2, a.2 * b.2)

/-- A die's compute power scaled from supply `v0` to supply `v`, as a fraction. -/
def scaledPower (mw v0 v t : Nat) : Nat × Nat :=
  if v0 = 0 then (mw, 1)
  else
    let a := rateAt v t
    let b := rateAt v0 t
    (mw * (v * v) * a.1 * b.2, v0 * v0 * b.1 * a.2)

/-- Predicted power of the device at supply `v`, as a fraction. -/
def State.predicted (s : State) (power : Nat) (compute : List Nat) (v : Nat) : Nat × Nat :=
  (compute.zipIdx).foldl (fun a q =>
    let k := s.die q.2
    addFrac a (scaledPower q.1 (s.rd (STS_GD_POWER.VOLT_MV q.2)) v k.tempC)) (power - sumNat compute, 1)

/-- The supplies of the follower: VMIN_MV to VMAX_MV in steps of 10 mV, highest first. -/
def State.voltSteps (s : State) : List Nat :=
  let lo := s.rd PWR_VOLT_CFG.VMIN_MV
  ((List.range ((s.rd PWR_VOLT_CFG.VMAX_MV - lo) / 10 + 1)).map (fun k => lo + 10 * k)).reverse

/-- The highest supply whose predicted power is at or below 0.97 × E; VMIN_MV where none is. -/
def State.bestVolt (s : State) (power : Nat) (compute : List Nat) : Nat :=
  (s.voltSteps.find? (fun v =>
    let p := s.predicted power compute v
    decide (p.1 ≤ 970 * s.envelope * p.2))).getD (s.rd PWR_VOLT_CFG.VMIN_MV)

/-- Grove dies with their compute supply on. -/
def State.supplied (s : State) : List Nat := (List.range 16).filter (fun d => (s.die d).supplyOn)

/-- A supply moves toward its target by at most `d`. -/
def toward (v target d : Nat) : Nat := if v < target then min target (v + d) else max target (v - d)

/-- The ramp of one control interval, at 6 mV/µs (R422). -/
def State.rampVolts (s : State) : State :=
  s.supplied.foldl (fun s d => s.wr (STS_GD_POWER.VOLT_MV d)
    (toward (s.rd (STS_GD_POWER.VOLT_MV d)) (s.die d).targetMv 96)) s

/-- The target of a die: the follower's, at most 10 mV up, and only if the interval was whole at the present
supply; a throttled die goes down 10 mV and never up (R421, R422, R432). -/
def nextTarget (k : Die) (target vmin : Nat) (steady : Bool) : Nat :=
  if k.throttle then min k.targetMv (max vmin (min (k.targetMv - 10) target))
  else if target ≤ k.targetMv then target
  else if steady then min target (k.targetMv + 10)
  else k.targetMv

/-- The follower's choice at the end of a control interval; `steady` tells that no supply moved during it. -/
def State.follow (s : State) (power : Nat) (compute : List Nat) (steady : Bool) : State :=
  let best := s.bestVolt power compute
  let goal := if best ≤ s.power.target then best else if steady then min best (s.power.target + 10) else s.power.target
  let s1 := s.modPower (fun k => { k with target := goal })
  s1.supplied.foldl (fun s d => s.modDie d (fun k => { k with
    targetMv := nextTarget k goal (s.rd PWR_VOLT_CFG.VMIN_MV) steady })) s1

/-- CONTROL_INTERVAL, R421 to R423, at the end of each 128 periods: measured power in mW, with the part of each compute
domain. -/
def execControlInterval (power : Nat) (compute : List Nat) (s : State) : Host.Outcome State Fault Refusal :=
  if ¬ (compute.length = 16) then .fault .malformedCommand else
  if s.past s.power.controlAt 128 = false then .next s else
  let steady := s.supplied.all (fun d => decide (s.rd (STS_GD_POWER.VOLT_MV d) = (s.die d).targetMv))
  let s1 := s.rampVolts.wr PWR_MEAS.POWER_W (min (power / 1000) 2047)
  let s2 := if s1.power.gatedSince then
      s1.supplied.foldl (fun s d => s.perf d 9 1) (s1.countUp CNT_PWR_LIMIT.GATED 1) else s1
  let s3 := s2.modPower (fun k => { k with gatedSince := decide (k.frac16 < 16), controlAt := s.now })
  .next (if s3.power.hold then s3 else s3.follow power compute steady)

/-! ### Issue gating (R423) -/

/-- The next fraction, in sixteenths, for a mean power, its issue-dependent part and the limit held. -/
def nextFrac (f power issue limit : Nat) : Nat :=
  if limit < power then
    ((List.range f).map (fun k => f - k)).find? (fun g =>
      decide ((power - issue) * f + issue * g ≤ limit * f)) |>.getD 1
  else if 100 * power ≤ 97 * limit then min 16 (f + 1)
  else f

/-- GATING_INTERVAL, at the end of each 16 periods: mean power of the last 2 µs, and its issue-dependent part. -/
def execGatingInterval (power issue : Nat) (s : State) : Host.Outcome State Fault Refusal :=
  if s.past s.power.gateAt 16 = false then .next s else
  let f := nextFrac s.power.frac16 power issue (1000 * s.envelope)
  .next ((s.modPower (fun k => { k with
    frac16 := f, gatedSince := k.gatedSince || decide (f < 16), gateAt := s.now })).wr PWR_STS.GATING (if f < 16 then 1 else 0))

/-! ### Droop and brown-out (R425 to R427) -/

/-- PWR_STS.DROOP as the dies stand. -/
def State.refreshDroop (s : State) : State := s.wr PWR_STS.DROOP (if s.droopActive then 1 else 0)

/-- DROOP. -/
def execDroop (gd : Fin 16) (s : State) : Host.Outcome State Fault Refusal :=
  if (s.die gd).supplyOn = true ∧ (s.die gd).droop = false then
    .next ((((s.modDie gd (fun k => { k with droop := true })).wr (STS_GD_POWER.DROOP gd) 1).countUp
      CNT_PWR_EVENTS.DROOPS 1).refreshDroop)
  else .next s

/-- DROOP_CLEAR: the voltage has stayed within 15 mV of its target since a SOSC time, 2 µs ago or more. -/
def execDroopClear (gd : Fin 16) (since : Nat) (s : State) : Host.Outcome State Fault Refusal :=
  if (s.die gd).droop = true ∧ s.past since 16 = true then
    let s1 := ((s.modDie gd (fun k => { k with droop := false })).wr (STS_GD_POWER.DROOP gd) 0).refreshDroop
    .next { s1 with clocks := { s1.clocks with lastDroop := some s.now } }
  else .next s

/-- A tile that runs on array `a` restarts from its first pass, its stacks discarded (R99). -/
def State.restartTile (s : State) (a : Nat) : State :=
  match s.tileOn a with
  | none => s
  | some (r, i, k, _, t, _) =>
    if t.demand = none ∧ t.granted = none then
      (s.modTile r i k Tile.fresh).modArray a (fun g => { g with shadow := none })
    else s

/-- The EXCHANGE of a schedule runs over a port whose path some of the vector engines `here` carry (R173). -/
def State.onPath (s : State) (here : Nat → Bool) (c : Sched) : Bool :=
  match c.job with
  | some j => decide (j.op = opEXCHANGE) && s.fabric.pathVe.any (fun p =>
      (s.pathVe j.plot p).any here && c.nodes.any (fun n => decide (p ∈ s.routeOf n)))
  | none => false

/-- The EXCHANGE descriptors of such schedules. -/
def State.jobsOnPath (s : State) (here : Nat → Bool) : List (Nat × Nat) :=
  (s.fabric.scheds.filter (fun q => s.onPath here q.2)).filterMap (fun q => q.2.job.map (fun j => (j.ring, j.idx)))

/-- The vector engines of grove die `gd` that carry a plot's share of the path of a port lose what they hold: the
epochs over such ports fail for their replay (R175, R231). -/
def State.failPathOn (s : State) (here : Nat → Bool) : State :=
  (s.fabric.scheds.filter (fun q => s.onPath here q.2)).foldl (fun s q => s.failEpoch q.1 false) s

/-- BROWNOUT: the die stops issue, and its work in flight is discarded and restarts. -/
def execBrownout (gd : Fin 16) (s : State) : Host.Outcome State Fault Refusal :=
  if (s.die gd).supplyOn = true ∧ (s.die gd).brownout = none then
    let s1 := ((s.modDie gd (fun k => { k with brownout := some s.now })).wr (STS_GD_POWER.BROWNOUT gd) 1).countUp
      CNT_PWR_EVENTS.BROWNOUTS 1
    let s2 := [0, 1, 2].foldl (fun (s : State) m => s.restartTile (3 * gd + m)) (s1.latch0 gd 22)
    .next (s2.failPathOn (fun v => decide (v / 4 = gd)))
  else .next s

/-- The brown-out detector of a die is released. -/
def State.endBrownout (s : State) (gd : Nat) : State :=
  (s.modDie gd (fun k => { k with brownout := none })).wr (STS_GD_POWER.BROWNOUT gd) 0

/-- BROWNOUT_RECOVER: within 1 ms. -/
def execBrownoutRecover (gd : Fin 16) (s : State) : Host.Outcome State Fault Refusal :=
  match (s.die gd).brownout with
  | some t => if s.now < t + perMs then .next (s.endBrownout gd) else .next s
  | none => .next s

/-- BROWNOUT_TIMEOUT: after 1 ms the die is fenced, and its plots take C2. -/
def execBrownoutTimeout (gd : Fin 16) (s : State) : Host.Outcome State Fault Refusal :=
  match (s.die gd).brownout with
  | some t =>
    if t + perMs ≤ s.now then
      let s1 := (s.endBrownout gd).supplyOff gd
      let s2 := s1.fenceDie gd
      .next (s2.latch gd 23 (plotsFenced s1 s2) gd 0 0)
    else .next s
  | none => .next s

/-! ### Energy (R428 to R431) -/

/-- Modelled energies in 0.1 fJ over one interval of 128 µs: 7 W, 8 W and 1.2 W (R430). -/
def idleDie : Nat := 8960000000000
/-- A port in UP, TEST, TRAINING or ADMITTING. -/
def idlePort : Nat := 10240000000000
/-- A port in low-power idle. -/
def idleLpi : Nat := 1536000000000

/-- Units of a grove domain that plot `p` leases, of its 71 arrays, vector engines and banks. -/
def State.unitsOn (s : State) (p gd : Nat) : Nat :=
  howMany (s.leasesArray p gd) (List.range 3) + howMany (s.leasesVe p gd) (List.range 4)
    + howMany (s.leasesBank p gd) (List.range 64)

/-- Modelled activity of plot `p` on a domain, of one ring or of all. -/
def State.activity (s : State) (p : Nat) (ring : Option Nat) (dom : Nat) : Nat :=
  sumNat ((s.power.acts.filter (fun a => decide (a.plot = p ∧ a.domain = dom)
    && ring.all (fun r => decide (r = a.ring)))).map (fun a => a.amount))

/-- One share of a domain: who, a ring or none, and its weight; `none` for the plot is unattributed. -/
structure Share where
  /-- Plot. -/
  plot : Option Nat
  /-- Activity part, per ring. -/
  rings : List (Nat × Nat)
  /-- Whole weight. -/
  weight : Nat
  deriving DecidableEq, Repr

/-- The rings with activity of a plot. -/
def State.ringsActive (s : State) (p : Nat) : List Nat :=
  (s.power.acts.filter (fun a => decide (a.plot = p))).foldl (fun l a => addAsc a.ring l) []

/-- The plots that an interval concerns: bound, or with activity. -/
def State.plotsActive (s : State) : List Nat :=
  (List.range 64).filter (fun p => s.plotBound p || s.power.acts.any (fun a => decide (a.plot = p)))

/-- The share of plot `p` in the domains `doms`, its activity multiplied by `k`, with an idle part. -/
def State.share (s : State) (p k idle : Nat) (doms : List Nat) : Share :=
  let act (r : Option Nat) : Nat := k * sumNat (doms.map (s.activity p r))
  { plot := some p, rings := (s.ringsActive p).map (fun r => (r, act (some r))), weight := act none + idle }

/-- Shares of the domain of grove die `gd`, in 1/(71 × 360000) of 0.1 fJ (R429, R430). -/
def State.groveShares (s : State) (gd : Nat) : List Share :=
  let v := s.rd (STS_GD_POWER.VOLT_MV gd)
  let idle := if s.groveUp gd then idleDie * (v * v) else 0
  let l := s.plotsActive.map (fun p =>
    s.share p (71 * (v * v)) (if s.plotBound p then idle * s.unitsOn p gd else 0) [gd])
  let used := sumNat (s.boundPlots.map (fun p => s.unitsOn p gd))
  l ++ [{ plot := none, rings := [], weight := idle * (71 - used) }]

/-- Shares of a group of four stacks, which have no idle figure. -/
def State.hbmShares (s : State) (g : Nat) : List Share :=
  s.plotsActive.map (fun p => s.share p 1 0 ((List.range 4).map (fun n => 16 + 4 * g + n)))

/-- Idle figure of a port by its state (R430). -/
def State.portIdle (s : State) (k : Nat) : Nat :=
  let v := s.portState k
  if v = portUP ∨ v = portTEST ∨ v = portTRAINING ∨ v = portADMITTING then idlePort
  else if v = portLPI then idleLpi else 0

/-- The bound plots that name a port. -/
def State.namers (s : State) (k : Nat) : List Nat := s.boundPlots.filter (fun p => s.leasesPort p k)

/-- The common multiple by which the weights of a verge die are counted. -/
def State.vergeScale (s : State) (k : Nat) : Nat :=
  ([3 * k, 3 * k + 1, 3 * k + 2].map (fun p => max 1 (s.namers p).length)).foldl (· * ·) 1

/-- Shares of verge die `k`, in 1/`vergeScale` of 0.1 fJ: each port's idle figure is split among the plots that
name it (R429). -/
def State.vergeShares (s : State) (k : Nat) : List Share :=
  let ports := [3 * k, 3 * k + 1, 3 * k + 2]
  let m := s.vergeScale k
  let l := s.plotsActive.map (fun p =>
    s.share p m (sumNat (ports.map (fun q => if p ∈ s.namers q then s.portIdle q * (m / (s.namers q).length) else 0)))
      (ports.map (fun q => 32 + q)))
  l ++ [{ plot := none, rings := [],
          weight := m * sumNat (ports.map (fun q => if s.namers q = [] then s.portIdle q else 0)) }]

/-- A plot's counter advances by an energy in 2⁻³² µJ; the whole µJ that it counted. -/
def State.chargePlot (s : State) (p e : Nat) : State × Nat :=
  let f := (s.plot p).frac + e
  ((s.modPlot p (fun q => { q with frac := f % 2 ^ 32 })).count64 (PWR_PLOT_ENERGY_LO.COUNT_LO p)
    (PWR_PLOT_ENERGY_HI.COUNT_HI p) (f / 2 ^ 32), f / 2 ^ 32)

/-- A ring's counter advances. -/
def State.chargeRing (s : State) (r e : Nat) : State :=
  if 1024 ≤ r then s
  else
    let f := (s.ring r).frac + e
    (s.modRing r (fun q => { q with frac := f % 2 ^ 32 })).count64 (PWR_RING_ENERGY_LO.COUNT_LO r)
      (PWR_RING_ENERGY_HI.COUNT_HI r) (f / 2 ^ 32)

/-- PWR_ENERGY_UNATTR advances. -/
def State.chargeNone (s : State) (e : Nat) : State × Nat :=
  let f := s.power.unFrac + e
  ((s.modPower (fun k => { k with unFrac := f % 2 ^ 32 })).count64 PWR_ENERGY_UNATTR_LO.COUNT_LO
    PWR_ENERGY_UNATTR_HI.COUNT_HI (f / 2 ^ 32), f / 2 ^ 32)

/-- One domain divided: `give w` is the energy, in 2⁻³² µJ, of a weight.  The energy that plots received, and the
µJ that their counters advanced. -/
def State.divide (s : State) (give : Nat → Nat) (l : List Share) : State × Nat × Nat :=
  l.foldl (fun (a : State × Nat × Nat) h =>
    match h.plot with
    | none => a
    | some p =>
      let e := give h.weight
      let c := a.1.chargePlot p e
      (h.rings.foldl (fun (s : State) q => s.chargeRing q.1 (give q.2)) c.1, a.2.1 + e, a.2.2 + c.2)) (s, 0, 0)

/-- PWR_ENERGY_DEV and the lifetime counter advance by `u` µJ (R428). -/
def State.chargeDevice (s : State) (u : Nat) : State :=
  (s.count64 PWR_ENERGY_DEV_LO.COUNT_LO PWR_ENERGY_DEV_HI.COUNT_HI u).modPower (fun k => { k with lifetime := k.lifetime + u })

/-- The domains of an interval: measured energy, shares, and the fraction of 0.1 fJ that a weight counts. -/
def State.domains (s : State) (grove hbm verge : List Nat) : List (Nat × List Share × Nat) :=
  (List.range 16).map (fun d => (grove.getD d 0, s.groveShares d, 71 * 360000))
  ++ (List.range 4).map (fun g => (hbm.getD g 0, s.hbmShares g, 1))
  ++ (List.range 8).map (fun k => (verge.getD k 0, s.vergeShares k, s.vergeScale k))

/-- Measured mode: the energy of each domain in proportion to weights; what no plot receives is unattributed, and
the device's counter advances by the sum (R429). -/
def State.attributeMeasured (s : State) (l : List (Nat × List Share × Nat)) (rest : Nat) : State :=
  let a := l.foldl (fun (a : State × Nat × Nat) d =>
    let w := sumNat (d.2.1.map (fun h => h.weight))
    let b := a.1.divide (fun x => if w = 0 then 0 else d.1 * x / w) d.2.1
    (b.1, a.2.1 + (d.1 - b.2.1), a.2.2 + b.2.2)) (s, rest, 0)
  let c := a.1.chargeNone a.2.1
  c.1.chargeDevice (a.2.2 + c.2)

/-- Modelled mode: each plot by its weights alone, UNATTR by the unleased parts; the device's counter stays
measured (R430). -/
def State.attributeModelled (s : State) (l : List (Nat × List Share × Nat)) (total : Nat) : State :=
  let give (k x : Nat) : Nat := x * 2 ^ 32 / (k * 10 ^ 10)
  let s1 := l.foldl (fun (s : State) d =>
    let b := s.divide (give d.2.2) d.2.1
    (b.1.chargeNone (sumNat (d.2.1.map (fun h => if h.plot = none then give d.2.2 h.weight else 0)))).1) s
  let f := s1.power.devFrac + total
  (s1.modPower (fun k => { k with devFrac := f % 2 ^ 32 })).chargeDevice (f / 2 ^ 32)

/-- ATTRIBUTION_INTERVAL, R429 to R431, at the end of each 1,024 periods. -/
def execAttributionInterval (grove hbm verge : List Nat) (rest : Nat) (s : State) : Host.Outcome State Fault Refusal :=
  if ¬ (grove.length = 16 ∧ hbm.length = 4 ∧ verge.length = 8) then .fault .malformedCommand else
  if s.past s.power.attribAt 1024 = false then .next s else
  let l := s.domains grove hbm verge
  let s1 := if s.power.energyMode = 0 then s.attributeMeasured l rest
    else s.attributeModelled l (sumNat grove + sumNat hbm + sumNat verge + rest)
  .next (s1.modPower (fun k => { k with acts := [], energyMode := s.rd CFG_ENERGY_MODE.MODE, attribAt := s.now }))

/-! ### Temperature (R432 to R434, R440, R441) -/

/-- A flag of STS_THERM is set: SEQ advances. -/
def State.thermFlag (s : State) (f : Fld) : State := (s.wr f 1).wsq STS_THERM.SEQ

/-- The half-cycle count of R440: the die, and whether a half-cycle is counted. -/
def halfCycle (k : Die) (t : Int) : Die × Bool :=
  if k.started = false then ({ k with tp := t, ext := t, dirUp := true, started := true }, false)
  else
    let dir : Int := if k.dirUp then 1 else -1
    if 0 < (t - k.ext) * dir then ({ k with ext := t }, false)
    else if 5 ≤ (k.ext - t) * dir then
      let d := (k.ext - k.tp).natAbs
      let k1 := { k with tp := k.ext, ext := t, dirUp := !k.dirUp }
      if 20 < d then ({ k1 with life := k1.life + d * d }, true) else (k1, false)
    else (k, false)

/-- WARN of a die: signalled once, and again only after it has read below WARN_C − 3 (R432). -/
def State.warnDie (s : State) (d t : Nat) : State :=
  let w := s.rd PWR_THERM_CFG.WARN_C
  if w ≤ t ∧ (s.die d).warned = false then
    ((s.modDie d (fun k => { k with warned := true })).thermFlag STS_THERM.WARN).msix 0 0
  else if t + 3 < w then s.modDie d (fun k => { k with warned := false })
  else s

/-- Throttling of a grove die, and gating to half at VMIN (R432). -/
def State.throttleDie (s : State) (d t : Nat) : State :=
  let h := s.rd PWR_THERM_CFG.THROTTLE_C
  let k := s.die d
  let on := decide (h ≤ t) || (k.throttle && !decide (t + 3 < h))
  let half := on && decide (h + 3 ≤ t) && decide (k.targetMv ≤ s.rd PWR_VOLT_CFG.VMIN_MV)
  let s1 := if on = true ∧ k.throttle = false then s.thermFlag STS_THERM.THROTTLE else s
  ((s1.modDie d (fun k => { k with throttle := on, gatedHalf := half })).wr (STS_GD_POWER.THROTTLE d)
    (if on then 1 else 0)).wr (STS_GD_POWER.TEMP_C d) t

/-- One die's reading. -/
def State.readDie (s : State) (d t : Nat) : State :=
  let s1 := (s.modDie d (fun k => { k with tempC := t })).warnDie d t
  let s2 := if d < 16 then s1.throttleDie d t else s1
  let h := halfCycle (s2.die d) t
  let s3 := s2.modDie d (fun _ => h.1)
  if h.2 then s3.countUp (PWR_HALF_CYCLES.COUNT d) 1 else s3

/-- HOTTEST_C, HOTTEST_DIE, USED and WORST_DIE. -/
def State.showHottest (s : State) : State :=
  let hot := worstDie (fun d => (s.die d).tempC)
  ((s.wr STS_THERM.HOTTEST_C (s.die hot).tempC).wr STS_THERM.HOTTEST_DIE hot).showLife

/-- The sensors of a die among all 74: four on each grove die, one on each verge die, two on the clearing die. -/
def sensorsOf (d : Nat) (l : List (BitVec 8)) : List (BitVec 8) :=
  if d < 16 then (l.drop (4 * d)).take 4 else if d < 24 then (l.drop (48 + d)).take 1 else (l.drop 72).take 2

/-- A die's junction temperature, its hottest sensor. -/
def junction (d : Nat) (l : List (BitVec 8)) : Nat := (sensorsOf d l).foldl (fun m t => max m t.toNat) 0

/-- TEMPERATURE_READ, every 1,024 periods: the sensors of every die. -/
def execTemperatureRead (sensors : List (BitVec 8)) (s : State) : Host.Outcome State Fault Refusal :=
  if ¬ (sensors.length = 74) then .fault .malformedCommand else
  if s.past s.power.tempAt 1024 = false then .next s else
  .next (((List.range 25).foldl (fun (s : State) d => s.readDie d (junction d sensors))
    (s.modPower (fun k => { k with tempAt := s.now }))).showHottest)

/-- THERMAL_TRIP, R433. -/
def execThermalTrip (die : Fin 25) (s : State) : Host.Outcome State Fault Refusal :=
  .next (State.strike { s with faults := { s.faults with thermTripN := false } } die 63 [] die 0).refreshFaults

/-- HBM_TEMPERATURE_READ, R434, every 1 ms. -/
def execHbmTemperatureRead (stack : Fin 16) (temp : BitVec 8) (s : State) : Host.Outcome State Fault Refusal :=
  if s.past (s.stack stack).tempAt perMs = false then .next s else
  let t := temp.toNat
  let was := (s.stack stack).halved
  let now := decide (95 ≤ t) || (was && !decide (t < 92))
  let s1 := s.modStack stack (fun k => { k with tempC := t, tempAt := s.now, doubleRefresh := decide (85 ≤ t), halved := now })
  if now = true ∧ was = false then .next (s1.thermFlag STS_THERM.HBM_HOT)
  else if (List.range 16).any (fun n => (s1.stack n).halved) then .next s1
  else .next (s1.wr STS_THERM.HBM_HOT 0)

/-! ### Coolant (R435 to R438) -/

/-- Flow in percent: the largest n ≤ 255 with (n ÷ 100)² ≤ ΔP ÷ DP_NOM. -/
def flowOf (dp nom : Nat) : Nat :=
  (((List.range 256).reverse).find? (fun n => decide (n * n * nom ≤ 10000 * dp))).getD 0

/-- The pressure reading taken: flow, and readings failed in a row. -/
def State.readPressure (s : State) (pressure : Option Nat) : State :=
  match pressure with
  | some dp =>
    let nom := s.rd PWR_COOL_CFG.DP_NOM
    let s1 := s.modPower (fun k => { k with badReads := 0, coolRead := true })
    if nom = 0 then s1.tick.wr PWR_COOL_STS.FLOW_PCT (Config.flow s.draws)
    else s1.wr PWR_COOL_STS.FLOW_PCT (flowOf dp nom)
  | none =>
    let s1 := s.modPower (fun k => { k with badReads := k.badReads + 1 })
    if 20 ≤ s1.power.badReads then s1.wr PWR_COOL_STS.FLOW_PCT 0 else s1

/-- A warning of PWR_COOL_STS: set below its flow, signalled as it sets (R436). -/
def State.coolWarn (s : State) (f : Fld) (pct : Nat) : State :=
  let below := decide (s.rd PWR_COOL_STS.FLOW_PCT < pct)
  let s1 := s.wr f (if below then 1 else 0)
  if below = true ∧ s.rd f = 0 then s1.msix 0 0 else s1

/-- NORMAL or REDUCED, while the device neither holds nor is in Fallow for want of flow. -/
def State.coolState (s : State) : State :=
  if 2 ≤ s.rd PWR_COOL_STS.STATE then s
  else s.wr PWR_COOL_STS.STATE (if s.power.capW < s.rd PWR_ENV_LIMIT.WATTS then 1 else 0)

/-- COOLANT_READ, every 1 ms: differential pressure in 0.1 kPa, inlet temperature, tachometer edges present. -/
def execCoolantRead (pressure : Option Nat) (inlet : Option (BitVec 8)) (tach : Bool) (s : State) :
    Host.Outcome State Fault Refusal :=
  if s.past s.power.coolAt perMs = false then .next s else
  let s1 := s.readPressure pressure
  let s2 := match inlet with
    | some t => s1.wr PWR_COOL_STS.INLET_C t.toNat
    | none => s1
  let s3 := (s2.wr PWR_COOL_STS.SENSE_OK (if pressure.isSome && inlet.isSome then 1 else 0)).wr PWR_COOL_STS.TACH_OK
    (if tach then 1 else 0)
  let s4 := s3.modPower (fun k => { k with
    lowFlow := if s3.rd PWR_COOL_STS.FLOW_PCT < 20 then k.lowFlow + 1 else 0
    goodFlow := if 30 ≤ s3.rd PWR_COOL_STS.FLOW_PCT ∧ tach = true then k.goodFlow + 1 else 0
    coolAt := s.now })
  .next ((((s4.coolWarn PWR_COOL_STS.W80 80).coolWarn PWR_COOL_STS.W60 60).coolWarn PWR_COOL_STS.W40
    40).refreshEnvelope).coolState

/-- A sudden stop, in RUN and not held already: issue stops, compute supplies go to VHOLD, COOL_HOLD latches
(Table 16.4, step 2). -/
def State.suddenStop (s : State) : State :=
  if s.power.hold = true ∨ s.rd CTL_PSTATE.STATE ≠ 0 then s
  else
    let s1 := (s.modPower (fun k => { k with hold := true, holdAt := some s.now })).wr PWR_COOL_STS.STATE 2
    let s2 := s1.supplied.foldl (fun (s : State) d => s.modDie d (fun k => { k with
      targetMv := s.rd PWR_VOLT_CFG.VHOLD_MV })) s1
    s2.latch0 24 23

/-- TACH_LOSS: no edge for TACH_LOSS_MS since the last one, at a SOSC time; a lost tachometer is a sudden stop. -/
def execTachLoss (lastEdge : Nat) (s : State) : Host.Outcome State Fault Refusal :=
  if s.past lastEdge (s.rd PWR_COOL_CFG.TACH_LOSS_MS * perMs) then
    .next ((s.wr PWR_COOL_STS.TACH_OK 0).modPower (fun k => { k with goodFlow := 0 })).suddenStop
  else .next s

/-- The monitor sees a sudden stop: 20 ms of low flow or of failed readings, or an inlet above 60 °C (R435 to
R437). -/
def State.stopSeen (s : State) : Bool :=
  decide (20 ≤ s.power.lowFlow ∨ 20 ≤ s.power.badReads ∨ 60 < s.rd PWR_COOL_STS.INLET_C)

/-- SUDDEN_STOP. -/
def execSuddenStop (s : State) : Host.Outcome State Fault Refusal :=
  if s.stopSeen then .next s.suddenStop else .next s

/-- COOLANT_RECOVER, step 3a: flow at or above 30 % with the tachometer present for 50 ms, and issue resumes under the
cap. -/
def execCoolantRecover (s : State) : Host.Outcome State Fault Refusal :=
  if s.power.hold = true ∧ s.power.holdAt.isSome = true ∧ 50 ≤ s.power.goodFlow ∧ 30 ≤ s.rd PWR_COOL_STS.FLOW_PCT
      ∧ s.rd PWR_COOL_STS.TACH_OK = 1 ∧ s.rd PWR_COOL_STS.INLET_C ≤ 60 then
    .next (((s.modPower (fun k => { k with hold := false, holdAt := none })).wr PWR_COOL_STS.STATE 1).refreshEnvelope)
  else .next s

/-- COOLANT_HOLD_TIMEOUT, step 3b: no recovery by 200 ms is C2 for every bound plot. -/
def execCoolantHoldTimeout (s : State) : Host.Outcome State Fault Refusal :=
  match s.power.holdAt with
  | some t =>
    if t + 200 * perMs ≤ s.now then
      .next ((s.modPower (fun k => { k with holdAt := none })).latch 24 24 s.boundPlots 0 0 0)
    else .next s
  | none => .next s

/-- COOLANT_FALLOW_ENTRY, step 4: after the plot resets of step 3b the device enters Fallow. -/
def execCoolantFallowEntry (s : State) : Host.Outcome State Fault Refusal :=
  if s.power.hold = true ∧ s.power.holdAt = none ∧ s.rd CTL_PSTATE.STATE = 0
      ∧ s.faults.events.all (fun e => decide (e.die ≠ 24 ∨ e.bit ≠ 24)) = true
      ∧ s.boundPlots.all (fun p => decide (s.plotState p ≠ plotRESETTING)) = true then
    let s1 := (s.beginFallow.modPower (fun k => { k with hold := false })).wr PWR_COOL_STS.STATE 3
    .next { s1 with glob := { s1.glob with coolFallow := true } }
  else .next s

end Sys2Proof.Machine
end

