-- ==== Sys2Proof/Machine/Transfers.lean ====
section
/-! DEFINITION. Meanings of peer transfers and of transaction tags: puts and reads as the remote device takes
them, seals, completions, tags (R286, R289, R298 to R302, R361, R368, R481). -/

namespace Sys2Proof.Machine

/-- A completion of a put or read goes back to its sender with a completion code (Table 10.3, R361). -/
def State.sendCompletion (s : State) (p node tag status : Nat) : State :=
  s.sendFlits p node 9 0 [(tag + 2 ^ 13 + 2 ^ 14, Config.completionBody status)]

/-- Peer transfers arrive on the port from a node; what names a node without a route entry is discarded
(R316). -/
def State.peerOpen (s : State) (p node : Nat) : Bool :=
  s.fabricUp && !(s.routeOf node).isEmpty && s.portCarries p && (!s.ethernet p || (s.link p node).keys)

/-- A peer's access to the glade waits for a stack that has not trained, or whose requests stall (R21, R47, R523). -/
def State.gladeWaits (s : State) (a n : Nat) : Bool :=
  let l := gladePieces a n
  (!s.full && !s.rangesReady l) || l.any (fun q => s.stalledAt q.1 q.2)

/-- The slab that a peer's access may use, or none with the refusal counted: in Fallow as GLADE_REFUSED
(R481), else as SLAB_REFUSED (R361). -/
def State.admitPeer (s : State) (src a n : Nat) : State × Option (Nat × Slab) :=
  if s.rd CTL_PSTATE.STATE ≠ 0 then (s.countUp CNT_PCIE_ERR.GLADE_REFUSED 1, none)
  else match s.peerSlab src a n with
    | none => (s.countRefused 1, none)
    | some k => (s, some (k, s.slab k))

/-- PUT_RECEIVE, R361, R481: the first flit of a peer put, with its transfer header and the data beside it. -/
def execPutReceive (port : Fin 24) (src : Fin 1024) (tag : Fin 8192) (addr : BitVec 36) (len : Nat)
    (flip : Option (Fin 4)) (data : List (BitVec 8)) (s : State) : Host.Outcome State Fault Refusal :=
  if ¬ (data.length ≤ 208) then .fault .malformedCommand else
  if s.peerOpen port src = true ∧ s.gladeWaits addr.toNat len = false then
    match s.admitPeer src addr.toNat len with
    | (t, none) => .next (t.sendCompletion port src tag 0x15)
    | (t, some (k, _)) =>
      let u : Put := { src := src, tag := tag, port := port, slab := k, addr := addr.toNat, len := len
                       data := data, flip := flip.map (fun f => f.val) }
      .next (State.modSlab { t with puts := t.puts ++ [u] } k (fun e => { e with claimed := true }))
  else .next s

/-- The completion code of a failed access. -/
def Fail.status : Fail → Nat
  | .code st _ => st
  | .poison _ => 0x12

/-- A put whose seal has verified: its data is visible, the claim ends, the slab flips, and the completion
goes back (R286, R361, R368). -/
def State.landPut (s : State) (u : Put) : State :=
  let p := (s.slab u.slab).owned.toNat
  let l := gladePieces u.addr u.len
  let s0 := { s with puts := s.puts.filter (fun v => decide (v ≠ u)) }.unclaim u.slab
  match s0.accessFail false l with
  | some f => s0.sendCompletion u.port u.src u.tag f.status
  | none =>
    let s1 := State.moved { s0 with hbm := s0.hbm.writePieces l u.data } p noRing false l
    let s2 := match u.flip with
      | some o => s1.flipSlab u.slab (BitVec.ofNat 2 o) 0
      | none => s1
    s2.sendCompletion u.port u.src u.tag 0

/-- A remote read of this device whose data has all come and whose seal has verified. -/
def State.landRead (s : State) (t : TagUse) : State :=
  (s.dropTag t).gather t.ring t.idx 0 (t.data.take t.len)

/-- A read of this device whose data came with a seal that fails ends with TRANSFER_FAILED (R354). -/
def State.failRead (s : State) (p src tag : Nat) : State :=
  match s.tags.used.find? (fun t => decide (t.tag = tag ∧ t.kind = 1 ∧ t.peer = some src ∧ t.port = p)) with
  | some t => (s.dropTag t).finish t.ring t.idx 0x16 0
  | none => s

/-- SEAL_RECEIVE, R286, R289: `sealOk` tells whether the seal of the transfer verified.  A put or a read
becomes visible; a seal that fails quarantines the port. -/
def execSealReceive (port : Fin 24) (src : Fin 1024) (tag : Fin 8192) (sealOk : Bool) (s : State) :
    Host.Outcome State Fault Refusal :=
  if s.peerOpen port src then
    if sealOk then
      match s.puts.find? (fun u => decide (u.port = port.val ∧ u.src = src.val ∧ u.tag = tag.val
          ∧ u.data.length = u.len)) with
      | some u => .next (s.landPut u)
      | none =>
        match s.tags.used.find? (fun t => decide (t.tag = tag.val ∧ t.kind = 1 ∧ t.peer = some src.val
            ∧ t.len ≤ t.data.length)) with
        | some t => .next (s.landRead t)
        | none => .next s
    else .next (((s.failRead port src tag).countWrap (CNT_LNK_SEC.SEAL_FAIL port) 1).quarantine port src)
  else .next s

/-- READ_REQ, R300, R361: a peer reads; the data goes back under the request's tag, and its seal after it.
The slab is claimed for as long as it is read. -/
def execReadReq (port : Fin 24) (src : Fin 1024) (tag : Fin 8192) (addr : BitVec 36) (len : Nat) (s : State) :
    Host.Outcome State Fault Refusal :=
  if s.peerOpen port src = true ∧ s.gladeWaits addr.toNat len = false then
    match s.admitPeer src addr.toNat len with
    | (t, none) => .next (t.sendCompletion port src tag 0x15)
    | (t, some (_, e)) =>
      let l := gladePieces addr.toNat len
      match t.accessFail true l with
      | some f => .next ((match f with
          | .poison a => t.poisonEvent e.owned.toNat a
          | .code _ _ => t).sendCompletion port src tag f.status)
      | none =>
        let b := t.readPieces l
        let t1 := (t.moved e.owned.toNat noRing true l).sendFlits port src 5 0 (piecesOf tag b)
        .next (t1.sendFlits port src 8 0 [(tag, leBytes 32 (Config.hmac (t.link port src).txSeal
          (sealInput t.node src tag 0 b)).toNat)])
  else .next s

/-- READ_DATA, R286, R456: data of a read that this device began; it is not visible before its seal. -/
def execReadData (port : Fin 24) (src : Fin 1024) (tag : Fin 8192) (data : List (BitVec 8)) (s : State) :
    Host.Outcome State Fault Refusal :=
  if ¬ (data.length ≤ 240) then .fault .malformedCommand else
  if s.peerOpen port src then
    .next { s with tags := { s.tags with used := s.tags.used.map (fun t =>
      if t.tag = tag.val ∧ t.kind = 1 ∧ t.peer = some src.val ∧ t.port = port.val then
        { t with data := t.data ++ data, deadline := s.transferDue } else t) } }
  else .next s

/-- COMPLETION, R361: the remote device answers a put, or refuses a read; its COPY finishes. -/
def execCompletion (port : Fin 24) (src : Fin 1024) (tag : Fin 8192) (status : BitVec 8) (s : State) :
    Host.Outcome State Fault Refusal :=
  if s.peerOpen port src then
    match s.tags.used.find? (fun t => decide (t.tag = tag.val ∧ t.kind ≤ 1 ∧ t.peer = some src.val
        ∧ t.port = port.val)) with
    | none => .next s
    | some t =>
      if status = 0 then
        (if t.kind = 0 then .next ((s.dropTag t).finishIfIdle t.ring t.idx) else .next s)
      else .next ((s.dropTag t).finish t.ring t.idx status.toNat 0)
  else .next s

/-- The schedule whose job a stream belongs to. -/
def State.schedOf (s : State) (t : TagUse) : Option Nat :=
  (s.fabric.scheds.find? (fun q => q.2.job.any (fun j => decide (j.ring = t.ring ∧ j.idx = t.idx)))).map
    (fun q => q.1)

/-- TAG_GRANT, R301, R302: a free tag goes to the oldest waiting transaction that may take it. -/
def execTagGrant (s : State) : Host.Outcome State Fault Refusal :=
  match s.firstWaiting [] s.tags.waiting with
  | none => .next s
  | some (t, rest) =>
    let s1 := State.beginTx { s with tags := { s.tags with waiting := rest } } { t with tag := s.freeTag }
    match (if t.kind = 2 then s1.schedOf t else none) with
    | some k => .next (s1.tryFinish k)
    | none => .next s1

end Sys2Proof.Machine
end

