-- ==== Sys2Proof/Machine/Faults.lean ====
section
/-! DEFINITION. Meanings of faults: stalls and timeouts, collection, classes, the fault log, timeout registers
(R39 to R41, R443 to R469). -/

namespace Sys2Proof.Machine

/-! ### Engine resets (R40, R373, R456) -/

/-- The plots that a fault of engine `e` of grove die `gd` names. -/
def State.engineOwners (s : State) (gd e : Nat) : List Nat :=
  if e < 7 then (s.ownerOfEngine gd e).toList else s.namedByDie gd

/-- An engine is reset: an array's tile restarts, or fails if it replays already; a vector engine's generators
are seeded again and its reductions fail for their replay.  `bit` is latched, with the class where the event fixes it
(R40, R171, R373, R463). -/
def State.resetEngine (s : State) (gd e bit : Nat) : State :=
  let owners := s.engineOwners gd e
  let s1 := s.clearEngine gd e
  if e < 3 then
    match s1.tileOn (3 * gd + e) with
    | none => s1.latchSure gd bit owners e 0 0 (some 1)
    | some (r, i, _) =>
      if (s1.engine gd e).replaying then
        ((s1.modEngine gd e (fun g => { g with replaying := false })).failJob r i (.code 0x18 0)).latchSure gd bit
          owners e 0 0 (some 2)
      else
        ((s1.restartTile (3 * gd + e)).modEngine gd e (fun g => { g with replaying := true })).latchReplay gd bit
          owners e [(r, i)]
  else if e < 7 then
    let here := s1.jobsOnPath (fun v => decide (v = 4 * gd + (e - 3)))
    (s1.failPathOn (fun v => decide (v = 4 * gd + (e - 3)))).latchReplay gd bit
      owners e here
  else s1.latchSure gd bit owners e 0 0 (some 1)

/-- The grove die at a channel end: the one that stalled, or the grove end of a verge or clearing channel. -/
def stallDie (ch : Nat) (first : Bool) : Nat :=
  let ends := channelEnds ch
  if ch < 22 then (if first then ends.1 else ends.2) else ends.2

/-- Every group of a channel is retested (R11, R40). -/
def State.retestAll (s : State) (ch : Nat) : State :=
  ((List.range (groupsOf ch)).filter (fun g => decide (g ∉ (s.channel ch).groupsRetired))).foldl (fun s g =>
    (s.modChannel ch (fun c => { c with retest := addAsc g c.retest })).lockRequest { kind := 4, unit := 8 * ch + g }) s

/-- A loop-kernel core stops: its routine ends with CORE_ERROR (R201). -/
def State.stopCore (s : State) (c : Nat) : State :=
  match (s.core c).job with
  | some (r, i) => s.endCall r i 0x19 0
  | none => s

/-- WATCHDOG_EXPIRY, R40, R41: the handshake's request changed at SOSC time `since`, and PERIOD_US has passed; held
while the die's brown-out detector is asserted. -/
def execWatchdogExpiry (what : Watched) (since : Nat) (s : State) : Host.Outcome State Fault Refusal :=
  if s.past since (s.rd CFG_STALL_WDOG.PERIOD_US * perUs) = false then .next s
  else match what with
  | .engine gd e =>
    if s.groveUp gd = true ∧ (s.die gd).supplyOn = true ∧ (s.die gd).brownout = none then
      .next (s.resetEngine gd e (12 + e))
    else .next s
  | .channel ch first =>
    let d := stallDie ch first
    if (s.channel ch).retired = false ∧ s.fenced d = false ∧ (s.die d).supplyOn = true ∧ (s.die d).brownout = none then
      .next ((s.latch d 11 [] ch 0 0).retestAll ch)
    else .next s
  | .core c =>
    if s.sec.booted then
      if c.val < 4 then .next (s.latch 24 3 [] c 0 0)
      else .next ((s.latch 24 2 (s.boundPlots.filter (fun p => s.leasesCore p c)) c 0 0).stopCore c)
    else .next s

/-- ENGINE_TIMEOUT, R456: the request was made at SOSC time `since`; `core` is given where a stream of that loop-kernel
core waited.  In a brown-out no other fault of the die is reported (R41). -/
def execEngineTimeout (gd : Fin 16) (engine : Fin 9) (core : Option (Fin 28)) (since : Nat) (s : State) :
    Host.Outcome State Fault Refusal :=
  if s.groveUp gd = true ∧ s.brownedOut gd = false ∧ s.past since (s.rd FLT_TMO_ENGINE.MS * perMs) = true then
    match core with
    | some c =>
      let c := c.val + 4
      .next ((s.latchSure gd 21 (s.boundPlots.filter (fun p => s.leasesCore p c)) c 0 0 (some 2)).stopCore c)
    | none => .next (s.resetEngine gd engine 21)
  else .next s

/-! ### The transfer timeout (R456) -/

/-- TRANSFER_TMO latches with the plot that a transaction is charged to. -/
def State.latchTmo (s : State) (plot : Option Nat) (unit : Nat) (sure : Option Nat) : State :=
  s.latchSure 24 15 plot.toList unit 0 0 sure

/-- It latches for work that is replayed. -/
def State.latchTmoReplay (s : State) (plot : Option Nat) (unit r i : Nat) : State :=
  s.latchReplay 24 15 plot.toList unit [(r, i)]

/-- A peer transaction times out: a port whose partner has stalled is retrained and its transfers move; else the
transfer fails (R230, R274, R288). -/
def State.peerTimeout (s : State) (t : TagUse) (node : Nat) : State :=
  if (s.link t.port node).unacked ≠ 0 then (s.stalled t.port).latchTmo none t.port (some 1)
  else if t.kind = 2 then
    match s.schedOf t with
    | some k => (s.failEpoch k false).latchTmoReplay t.plot t.port t.ring t.idx
    | none => (s.dropTag t).latchTmo t.plot t.port (some 1)
  else ((s.dropTag t).finish t.ring t.idx 0x16 0).latchTmo t.plot t.port (some 2)

/-- A DMA read times out: DMA_ERROR, C2, and CPL_TIMEOUT counts (R336). -/
def State.dmaTimeout (s : State) (t : TagUse) : State :=
  (((s.countUp CNT_PCIE_ERR.CPL_TIMEOUT 1).dropTag t).finish t.ring t.idx 0x13 0).latchTmo t.plot 0 (some 2)

/-- Tiles whose partials have not all arrived are discarded and run again; tiles written stand (R159, R373). -/
def MatJob.replayGroups (j : MatJob) (shares : Nat) : MatJob :=
  let lost (g : Nat) : Bool := j.arrived.any (fun q => decide (q.1 = g ∧ q.2 < shares))
  { j with
    tiles := j.tiles.mapIdx (fun k t => if lost (k / shares) && t.done then
      { t.fresh with done := false, array := none } else t)
    partials := j.partials.filter (fun q => !lost q.1)
    combine := j.combine.filter (fun q => !lost q.1)
    arrived := j.arrived.filter (fun q => !lost q.1) }

/-- Partials have not all arrived: replayed once, or REPLAY_FAILED (R159, R373). -/
def State.partialTimeout (s : State) (r i : Nat) : State :=
  let p := s.ringPlot r
  match s.entry r i with
  | none => s
  | some e =>
    let s1 := s.modEntry r i (fun e => { e with replayed := true })
    match s.job r i, s.vecJob r i with
    | some j, _ =>
      if j.arrived.all (fun q => decide (e.mShares ≤ q.2)) then s
      else if e.replayed then (s.failJob r i (.code 0x18 0)).latchTmo (some p) 0 (some 2)
      else (s1.modJob r i (fun j => j.replayGroups e.mShares)).latchTmoReplay (some p) 0 r i
    | none, some _ =>
      let s2 := { s1 with vecJobs := s1.vecJobs.filter (fun j => decide (j.ring ≠ r ∨ j.idx ≠ i)) }
      if e.replayed = true ∨ (e.opcode = opNORMBWD ∧ (e.u16 18 = e.u16 8 ∨ e.u16 18 = e.u16 10)) then
        (s2.finish r i 0x18 0).latchTmo (some p) 0 (some 2)
      else match (if e.opcode = opREDUCE then reduce s2 p e r i else normBwd s2 p e r i) with
        | .ok t => t.latchTmoReplay (some p) 0 r i
        | .error f => (s2.failDesc r i p f).latchTmo (some p) 0 (some 2)
    | none, none => s

/-- TRANSFER_TIMEOUT, R456: the timer of a tag has passed and no row repair holds it (R21), or a wait that began at SOSC
time `since` has lasted the transfer timeout.  No timer ends a control request: its answer waits for other devices
(DEDUCED, safe: log 181). -/
def execTransferTimeout (what : TimedOut) (s : State) : Host.Outcome State Fault Refusal :=
  match what with
  | .tag t =>
    match s.tags.used.find? (fun u => decide (u.tag = t.val)) with
    | none => .next s
    | some u =>
      if u.kind = 3 ∨ s.now < u.deadline ∨ s.tagHeld u = true then .next s
      else match u.peer with
      | some node => .next (s.peerTimeout u node)
      | none => .next (s.dmaTimeout u)
  | .epoch k since =>
    match (s.sched k).job with
    | some j => if j.failed.isSome = true ∨ s.past since (s.rd FLT_TMO_TRANSFER.UNITS * 100 * perUs) = false then .next s
      else .next ((s.failEpoch k false).latchTmoReplay (some j.plot) 0 j.ring j.idx)
    | none => .next s
  | .partials r i since =>
    .next (if s.past since (s.rd FLT_TMO_TRANSFER.UNITS * 100 * perUs) then s.partialTimeout r i else s)

/-! ### Collection (R443 to R445) -/

/-- The port whose link adder a bit of a verge die's word names. -/
def adderPort (die b : Nat) : Option Nat :=
  if 16 ≤ die ∧ die < 24 ∧ b < 24 ∧ b % 8 = 7 then some (3 * (die - 16) + b / 8) else none

/-- BUF_UNCORR of a verge die, Table 17.3 bit 32: the port named as the unit is retrained, where it is one of the
die's ports and carries a link. -/
def State.bufferFault (s : State) (die b p : Nat) : State :=
  if 16 ≤ die ∧ die < 24 ∧ b = 32 ∧ dieOfPort p = die ∧ (s.portState p = portUP ∨ s.portState p = portLPI) then
    s.portLeave p portTRAINING
  else s

/-- An error line latches, and what hangs on the bit itself follows: a port whose link adder has a fault moves to
the vector-engine path, and its epochs in flight are replayed there (R172, R175, R443). -/
def State.errorLine (s : State) (die b : Nat) (plots : List Nat) (unit detail : Nat) : State :=
  let s0 := if die = 24 ∧ b = 4 then { s with pcie := { s.pcie with corrErr := s.pcie.corrErr + 1 } } else s
  let s1 := s0.strike die b plots unit detail
  match adderPort die b with
  | some p => (State.wantPath { s1 with fabric := { s1.fabric with adderFault := addAsc p s1.fabric.adderFault } }
      p).failEpochsOn p false
  | none => s1.bufferFault die b unit

/-- The bit of a die's word that a blocked access latches (R388). -/
def firebreakBit (die : Nat) : Nat := if die < 16 then 27 else if die < 24 then 35 else 26

/-- FAULT_LATCH, R443: a FIREBREAK bit stands for an access of the named plots that was blocked, and counts in
their BLOCKED (R388).  A brown-out is the only fault reported for its die (R41). -/
def execFaultLatch (die : Fin 25) (bit : Fin 64) (plots : List (Fin 64)) (unit : BitVec 8) (detail : BitVec 64)
    (s : State) : Host.Outcome State Fault Refusal :=
  if s.faults.started = true ∧ (die.val < 16 → bit.val ≠ 22 → s.brownedOut die = false) then
    let s1 := if bit.val = firebreakBit die.val then
        plots.foldl (fun (s : State) (p : Fin 64) => s.countUp (CNT_FIREBREAK.BLOCKED p.val) 1) s else s
    .next (s1.errorLine die bit (plots.map (fun p => p.val)) unit.toNat detail.toNat)
  else .next s

/-- The fault word of a die (R443). -/
def State.faultWord (s : State) (d : Nat) : BitVec 64 :=
  BitVec.ofNat 64 (s.rd (FLT_WORD_LO.WORD_LO d) + 2 ^ 32 * s.rd (FLT_WORD_HI.WORD_HI d))

/-- FAULT_WORD_SEND, R444. -/
def execFaultWordSend (die : Fin 24) (s : State) : Host.Outcome State Fault Refusal :=
  .next { s with faults := { s.faults with onWay := addAsc die s.faults.onWay } }

/-- FAULT_WORD_ARRIVE, R444: a word that was sent, or one that has gained a bit. -/
def execFaultWordArrive (die : Fin 24) (s : State) : Host.Outcome State Fault Refusal :=
  let w := s.faultWord die
  if s.faults.started = true ∧ (die.val ∈ s.faults.onWay ∨ w &&& ~~~(Tab.val s.faults.atClearing die) ≠ 0) then
    .next { s with faults := { s.faults with
      onWay := without die s.faults.onWay
      atClearing := Tab.put s.faults.atClearing die w
      lastWord := Tab.put s.faults.lastWord die s.now } }
  else .next s

/-- DIE_SILENT, R445: no word for 12,288 periods. -/
def execDieSilent (die : Fin 24) (s : State) : Host.Outcome State Fault Refusal :=
  let d := die.val
  if s.faults.started = true ∧ s.rdBit FLT_SILENT.SILENT d = false
      ∧ Tab.val s.faults.lastWord d + 12288 ≤ s.now then
    let s1 := s.wrBit FLT_SILENT.SILENT d true
    if d < 16 then
      let s2 := s1.fenceDie d
      .next (s2.latchSure 24 22 (plotsFenced s1 s2) d 0 0 (some (if s2.noRoot then 3 else 2)))
    else
      let ports := [3 * (d - 16), 3 * (d - 16) + 1, 3 * (d - 16) + 2]
      let s2 := (ports.foldl (fun (s : State) p => s.failEpochsOn p false) s1).vergeOut (d - 16)
      .next ((ports.foldl State.wantPath s2).latchSure 24 22 [] d 0 0 (some 1))
  else .next s

/-! ### Classes (R447 to R449) -/

/-- The replays that an event waits for have ended. -/
def State.replaysOver (s : State) (e : Event) : Bool :=
  e.waits.all (fun w => (s.entry w.1 w.2).all (fun x => decide (x.stage = 3)))

/-- One of them failed: a descriptor ended with an error (R40). -/
def State.replayFailed (s : State) (e : Event) : Bool :=
  e.failed || e.waits.any (fun w => (s.entry w.1 w.2).any (fun x => decide (x.stage = 3 ∧ 2 ≤ x.status.toNat)))

/-- Core 1 may decide an event as a class: its table lists it, the event does not fix another, the replays that settle
it are over, and the word has reached the clearing die (R40, R447). -/
def State.mayDecide (s : State) (e : Event) (cls : Nat) : Bool :=
  decide (cls ∈ faultClasses e.die e.bit) && e.sure.all (fun c => decide (c = cls))
  && (e.waits.isEmpty || s.replaysOver e && decide (cls = if s.replayFailed e then 2 else 1))
  && (decide (24 ≤ e.die) || !s.faultBit e.die e.bit
      || (Tab.val s.faults.atClearing e.die).getLsbD e.bit)

/-- The decided class of a bit: the higher of its earlier one and the new one (R447). -/
def State.noteClass (s : State) (die b cls : Nat) : State :=
  if s.faultBit die b then
    { s with faults := { s.faults with decided := Tab.upd s.faults.decided (64 * die + b) (fun c => max c (cls + 1)) } }
  else s

/-- The action of a class (Table 17.1); in windthrow nothing more follows. -/
def State.classAction (s : State) (e : Event) (cls : Nat) : State :=
  if cls = 1 then s.countUp CNT_FLT_A.C1 1
  else if cls = 2 then
    let s1 := s.countUp CNT_FLT_A.C2 1
    if s1.faults.windthrow then s1 else e.plots.foldl (fun (s : State) p => s.startReset p false false false) s1
  else if cls = 3 then s.deviceFatal
  else s

/-- FAULT_CLASS_DECIDE, R447: event number `pos` of those that wait; it is logged from class C1 on (R455). -/
def execFaultClassDecide (pos : Nat) (cls : Fin 5) (s : State) : Host.Outcome State Fault Refusal :=
  match s.faults.events[pos]? with
  | none => .next s
  | some e =>
    if s.sec.booted = true ∧ s.mayDecide e cls = true then
      let s1 := State.noteClass { s with faults := { s.faults with events := s.faults.events.eraseIdx pos } }
        e.die e.bit cls
      let s2 := if 1 ≤ cls.val ∨ e.kind ≠ 0 then s1.logFault e cls else s1
      .next (s2.classAction e cls).refreshFaults
    else .next s

/-! ### Injection, the fault log, sequence numbers (R452, R455, R468) -/

/-- FLT_INJECT, R468: in lifecycle FACTORY_TEST only.  The event names every plot of the die, or every bound
plot. -/
def execFltInject (path : Fin 6) (v : BitVec 32) (s : State) : Host.Outcome State Fault Refusal :=
  let d := bits v.toNat 28 24
  if s.writeOpen path 0x40040 = true ∧ s.sec.lifecycle = 1 ∧ bit v.toNat 31 = true ∧ d ≤ 24 then
    .next (s.errorLine d (bits v.toNat 21 16) (if d < 16 then s.namedByDie d else s.boundPlots) 0 0)
  else .next s

/-- The 32 bytes of a fault-log record (Table 17.5). -/
def FaultRec.bytes (r : FaultRec) : List Byte :=
  let b := leBytes 4 r.seq ++ leBytes 8 r.time ++ [r.die, r.bit, r.cls, r.kind, r.plot, r.unit].map (BitVec.ofNat 8)
    ++ leBytes 2 0 ++ leBytes 8 r.detail
  b ++ leBytes 4 (crc32 b)

/-- FAULT_LOG_SELECT, R455: fetching starts, and READY is 0 until the record is there. -/
def execFaultLogSelect (path : Fin 6) (index : BitVec 19) (s : State) : Host.Outcome State Fault Refusal :=
  if s.writeOpen path 0x40050 then
    let s1 := (s.wr FLT_LOG_SEL.INDEX index.toNat).wr FLT_LOG_SEL.READY 0
    .next { s1 with faults := { s1.faults with logFetch := some index.toNat } }
  else .next s

/-- FAULT_LOG_READY: the record, or zeros past the oldest one. -/
def execFaultLogReady (s : State) : Host.Outcome State Fault Refusal :=
  match s.faults.logFetch with
  | none => .next s
  | some n =>
    let b := match s.flash.log[n]? with
      | some r => r.bytes
      | none => leBytes 32 0
    let s1 := (List.range 8).foldl (fun (s : State) i =>
      s.wr (FLT_LOG_DATA.DATA i) (leNat ((b.drop (4 * i)).take 4))) (s.wr FLT_LOG_SEL.READY 1)
    .next { s1 with faults := { s1.faults with logFetch := none } }

/-- FAULT_SEQ_WRITE_BACK, R452. -/
def execFaultSeqWriteBack (path : Fin 6) (die : Fin 25) (seq : BitVec 8) (s : State) :
    Host.Outcome State Fault Refusal :=
  if s.writeOpen path (0x40108 + 0x20 * die) then .next (s.faultWriteBack die seq.toNat) else .next s

/-! ### Timeout registers (R457) -/

/-- The chain in µs: 4 × link retry, transfer, engine, descriptor, step. -/
def State.tmoChain (s : State) : Nat × Nat × Nat × Nat × Nat :=
  (4 * s.rd FLT_TMO_LINK.US, 100 * s.rd FLT_TMO_TRANSFER.UNITS, 1000 * s.rd FLT_TMO_ENGINE.MS,
   1000 * s.rd FLT_TMO_DESC.MS, 1000000 * s.rd FLT_TMO_STEP.S)

/-- The value nearest to `v` between the bounds of the field and those of its neighbours in the chain. -/
def chained (lo hi below above v : Nat) : Nat := clampTo (max lo below) (min hi above) v

/-- TIMEOUT_REGISTER_WRITE: 0 engine, 1 transfer, 2 link, 3 descriptor, 4 step, 5 drain, 6 heartbeats. -/
def execTimeoutRegisterWrite (path : Fin 6) (reg : Fin 7) (v : BitVec 32) (s : State) :
    Host.Outcome State Fault Refusal :=
  if s.writeOpen path (0x40010 + 4 * reg) then
    let c := s.tmoChain
    let w := v.toNat
    match reg.val with
    | 0 => .next (s.wr FLT_TMO_ENGINE.MS (chained 1 1000 (ceilDiv c.2.1 1000) (c.2.2.2.1 / 1000) (bits w 9 0)))
    | 1 => .next (s.wr FLT_TMO_TRANSFER.UNITS (chained 1 1000 (ceilDiv c.1 100) (c.2.2.1 / 100) (bits w 9 0)))
    | 2 => .next (s.wr FLT_TMO_LINK.US (chained 2 1000 0 (c.2.1 / 4) (bits w 9 0)))
    | 3 => .next (s.wr FLT_TMO_DESC.MS (chained 1 (2 ^ 32 - 1) (ceilDiv c.2.2.1 1000) (c.2.2.2.2 / 1000) w))
    | 4 => .next (s.wr FLT_TMO_STEP.S (chained 1 65535 (ceilDiv c.2.2.2.1 1000000) 65535 (bits w 15 0)))
    | 5 => .next (s.wr FLT_TMO_DRAIN.MS (clampTo 5 90 (bits w 6 0)))
    | _ => .next ((s.wr FLT_TMO_HB.MGR_MS (clampTo 1 1000 (bits w 31 16))).wr FLT_TMO_HB.DEVICE
        (clampTo 25 10000 (bits w 15 0)))
  else .next s

end Sys2Proof.Machine
end

