-- ==== Sys2Proof/Machine/Links.lean ====
section
/-! DEFINITION. Meanings of the links: modes, flits, retries, lanes, re-qualification, low-power idle,
signal, Ethernet frames (R265 to R294). -/

namespace Sys2Proof.Machine

/-! ### Modes (R265, R266) -/

/-- Byte address of LNK_PORT_CTL of a port. -/
def portCtlAddr (port : Nat) : Nat := 0x201000 + 0x40 * port

/-- A frequency change of a port that has not started is no longer wanted. -/
def State.unwantFreq (s : State) (p : Nat) : State :=
  if 4 + p ∈ s.clocks.active then s
  else State.lockAbandon { s with clocks := { s.clocks with
    wanted := s.clocks.wanted.filter (fun f => decide (f.target ≠ 4 + p ∨ (s.port p).upgrade = true)) } } (freqLock (4 + p))

/-- MODE written: stored unless it is 0x7 or above; a port not in that mode asks for the change, one that is in it
wants none, and FLOOR_W is formed again (R265, R304, R424). -/
def State.writePortMode (s : State) (p mode : Nat) : State :=
  if 7 ≤ mode then s
  else
    let s1 := (s.wr (LNK_PORT_CTL.MODE p) mode).formFloor
    if s1.modeDiffers p ∧ s1.portState p ≠ portRETIRED then
      ((s1.wakePort p).wantFreq (4 + p)).lockRequest (freqLock (4 + p))
    else s1.unwantFreq p

/-- The fields of a LNK_PORT_CTL write beside REQUAL (Table 10.16). -/
def State.storePortCtl (s : State) (p v : Nat) : State :=
  let s1 := (s.wr (LNK_PORT_CTL.LPI_IDLE_US p) (max 1 (bits v 31 24))).wr (LNK_PORT_CTL.LPI_WAKE p)
    (max 15 (bits v 23 16))
  (s1.wr (LNK_PORT_CTL.LPI_EN p) (bits v 7 7)).writePortMode p (bits v 3 0)

/-- MODE_CHANGE, R265: a write of LNK_PORT_CTL that does not ask for re-qualification. -/
def execModeChange (path : Fin 6) (port : Fin 24) (v : BitVec 32) (s : State) : Host.Outcome State Fault Refusal :=
  if s.writeOpen path (portCtlAddr port) then .next (s.storePortCtl port v.toNat) else .next s

/-- PORT_RATE_UPGRADE, R266, R475: at full bring-up a port still at its reduced rate asks for the change to
the rate of its MODE; for a Xasin port it is one of rate only. -/
def execPortRateUpgrade (port : Fin 24) (s : State) : Host.Outcome State Fault Refusal :=
  let m := s.rd (LNK_PORT_CTL.MODE port)
  if s.fabricUp = true ∧ (s.port port).reduced = true ∧ s.portState port ≠ portRETIRED then
    if m = 1 ∧ s.portCarries port = true then .next (((s.modPort port (fun q => { q with upgrade := true })).wakePort port).wantFreq (4 + port))
    else if 5 ≤ m ∧ m < 7 then
      .next (((s.modPort port (fun q => { q with reduced := false })).wantFreq (4 + port)).lockRequest
        (freqLock (4 + port)))
    else .next s
  else .next s

/-! ### Flits (R267 to R273) -/

/-- The port takes flits: it carries traffic and is awake, or its ends go through admission. -/
def State.portTakes (s : State) (p : Nat) : Bool :=
  s.fabricUp && ((s.portCarries p && decide (s.portState p ≠ portLPI)) || decide (s.portState p = portADMITTING))

/-- Symbols of a codeword of 544 on the lane at place `k` of `n` in service, dealt in turn (R270). -/
def symbolsOn (n k : Nat) : Nat := (544 + n - 1 - k) / n

/-- A codeword decoded: its symbols in error are counted on the lanes they were dealt to, and up to 16 of them are
corrected (R270, Table 10.20). -/
def State.codeword (s : State) (p : Nat) (errs : List Nat) : State :=
  let lanes := s.lanesUp p
  let n := errs.length
  let s1 := s.modPort p (fun q => { q with
    fecErrs := errs.foldl (fun t i => Tab.upd t (lanes.getD (i % max 1 lanes.length) 0) (fun c => c + 1)) q.fecErrs
    fecSyms := lanes.zipIdx.foldl (fun t e => Tab.upd t e.1 (fun c => c + symbolsOn lanes.length e.2)) q.fecSyms })
  if n = 0 then s1
  else if n ≤ 16 then (s1.countWrap (CNT_LNK_FEC.CORR p) 1).latch (dieOfPort p) (portBit p 0) [] p 0 0
  else s1.countWrap (CNT_LNK_FEC.UNCORR p) 1

/-- The next flit of a port leaves the decoder: two codewords carry five flits, the third of them begins in the first
codeword and ends in the second, and an uncorrectable codeword fails every flit that overlaps it (R270).  The pair tells
whether this flit failed. -/
def State.decodeFlit (s : State) (p : Nat) (errs : List Nat) : Bool × State :=
  let q := s.port p
  let bad := decide (16 < errs.length)
  let fresh := decide (q.fecPos = 0 ∨ q.fecPos = 2)
  let s1 := if fresh then s.codeword p errs else s
  let lost := if q.fecPos = 0 then bad else if q.fecPos = 2 then q.fecBad || bad else q.fecBad
  (lost, s1.modPort p (fun r => { r with
    fecPos := (q.fecPos + 1) % 5, fecBad := if fresh then bad else q.fecBad, activeAt := s.now }))

/-- The wake time that this end advertises, in ns. -/
def State.ownWake (s : State) (p : Nat) : Nat := max 1500 (100 * s.rd (LNK_PORT_CTL.LPI_WAKE p))

/-- Nothing waits, nothing is unacknowledged, and no credit is owed (R280). -/
def LinkSide.quiet (l : LinkSide) : Bool := decide (l.queue = [] ∧ l.buffer = [] ∧ l.credits = 1024)

/-- Low-power idle begins once both ends have proposed it and nothing of this link is under way (R280). -/
def State.settleLpi (s : State) (p : Nat) : State :=
  match (s.port p).lpiHeard with
  | none => s
  | some w =>
    if s.portState p = portUP ∧ (s.port p).lpiOffer = true ∧ (s.port p).link.quiet = true then
      ((s.setPortState p portLPI).wr (STS_LNK_LPI.WAKE_NS p) (max (s.ownWake p) w)).modPort p (fun q => { q with
        lpiOffer := false, lpiHeard := none })
    else s

/-- FLIT_RECEIVE, R268, R270, R272: a flit comes on a native port; `word` names the symbols in error of the codeword that
begins to be used with it, if one does, `tagOk` what the tag check says if it is a control frame. -/
def execFlitReceive (port : Fin 24) (bytes : List (BitVec 8)) (word : List (Fin 544)) (tagOk : Bool)
    (s : State) : Host.Outcome State Fault Refusal :=
  if ¬ (bytes.length = 256) then .fault .malformedCommand else
  if s.portTakes port = true ∧ s.ethernet port = false then
    let d := s.decodeFlit port ((word.map (fun i => i.val)).eraseDups)
    if d.1 || !flitCrcOk bytes then .next (d.2.rejectFlit port 0)
    else .next ((d.2.flitIn port 0 bytes tagOk).settleLpi port)
  else .next s

/-- Frames dropped on an Ethernet port. -/
def State.dropFrame (s : State) (p : Nat) : State := s.modPort p (fun q => { q with drops := q.drops + 1 })

/-- The flits of a frame from its EtherType on, if the frame is well formed (R291). -/
def frameFlits (b : List Byte) : Option (List (List Byte)) :=
  let head := leNat ((b.drop 2).take 4)
  let n := bits head 7 4
  if b.take 2 = [0x88, 0xB5] ∧ bits head 3 0 = 1 ∧ 1 ≤ n ∧ n ≤ 5 ∧ b.length = 6 + 256 * n then
    some ((List.range n).map (fun i => (b.drop (6 + 256 * i)).take 256))
  else none

/-- ETHERNET_FRAME_RECEIVE, R290 to R293: the bytes from the EtherType to before the FCS, with any VLAN tag
removed; each flit goes to the link layer of the path from `node`. -/
def execEthernetFrameReceive (port : Fin 24) (node : Fin 1024) (fcsOk unicast : Bool) (bytes : List (BitVec 8))
    (tagOk : Bool) (s : State) : Host.Outcome State Fault Refusal :=
  if s.portTakes port = true ∧ s.ethernet port = true then
    match (if fcsOk && unicast then frameFlits bytes else none) with
    | none => .next (s.dropFrame port)
    | some l => .next (l.foldl (fun s b =>
        if s.portTakes port then
          (if flitCrcOk b then s.flitIn port node b tagOk else s.rejectFlit port node)
        else s) s)
  else .next s

/-! ### Retries (R271, R272, R275, R276) -/

/-- NAK_RECEIVE, R272, R275: the partner expects `seq`; `errs` are the symbols in error of each lane in the
codewords that carried the failed flit. -/
def execNakReceive (port : Fin 24) (node : Fin 1024) (seq : Fin 4096) (errs : List Nat) (s : State) :
    Host.Outcome State Fault Refusal :=
  if ¬ (errs.length = 4) then .fault .malformedCommand else
  if s.portTakes port then
    let s1 := s.ackTo port node ((seq.val + 4095) % 4096)
    if (s1.link port node).unacked = 0 then .next ((s1.pumpLink port node).settleLpi port)
    else .next (s1.retry port node (worstLane errs))
  else .next s

/-- LINK_RETRY_TIMEOUT, R272, R275, R456: the acknowledged SEQ has stood still for the link retry timeout; the retry is
the port's. -/
def execLinkRetryTimeout (port : Fin 24) (node : Fin 1024) (s : State) : Host.Outcome State Fault Refusal :=
  let l := s.link port node
  if s.portTakes port = true ∧ l.unacked ≠ 0 ∧ l.retryDue ≤ s.now then .next (s.retry port node none) else .next s

/-- NAK_RESEND_TIMEOUT, R272, R456: the NAK has brought nothing for the link retry timeout. -/
def execNakResendTimeout (port : Fin 24) (node : Fin 1024) (s : State) : Host.Outcome State Fault Refusal :=
  let l := s.link port node
  if s.portTakes port = true ∧ l.nakSent = true ∧ l.nakDue ≤ s.now then
    .next ((s.modLink port node (fun l => { l with nakDue := s.linkDue })).idleFlit port node true 0)
  else .next s

/-- A lane's symbol error rate of a window is above a threshold given in errors per 2^24 symbols ÷ `div`. -/
def serAbove (err syms thresh div : Nat) : Bool := decide (thresh * syms < err * 2 ^ 24 * div)

/-- One lane's window: shown, and followed as long as it stays above CFG_LNK_BER_THRESH (R276). -/
def State.laneWindow (s : State) (p lane err syms : Nat) : State :=
  let s1 := s.wr (STS_LNK_LANE_SER.ERRORS p lane) err
  let since := Tab.val (s.port p).serHigh lane
  let v := if lane ∉ (s.port p).lanesRetired ∧ serAbove err syms (s.rd CFG_LNK_BER_THRESH.THRESH) 1 = true then
      (if since = 0 then 1 + (s.now - 8192) else since) else 0
  s1.modPort p (fun q => { q with serHigh := Tab.put q.serHigh lane v })

/-- The lane has stayed above the threshold for CFG_LNK_BER_HOLD. -/
def State.laneBad (s : State) (p lane : Nat) : Bool :=
  let since := Tab.val (s.port p).serHigh lane
  decide (since ≠ 0 ∧ since - 1 + s.rd CFG_LNK_BER_HOLD.HOLD_MS * perMs ≤ s.now)

/-- SER_WINDOW, R270, R276: a window of 8,192 SOSC periods ends; each lane's symbols in error in it, of those it
received, are shown and held against the threshold. -/
def execSerWindow (port : Fin 24) (s : State) : Host.Outcome State Fault Refusal :=
  let q := s.port port
  if s.fabricUp = true ∧ s.portCarries port = true ∧ s.ethernet port = false ∧ q.serAt + 8192 ≤ s.now then
    let s1 := (List.range 4).foldl (fun s i => s.laneWindow port i (Tab.val q.fecErrs i) (Tab.val q.fecSyms i)) s
    let s2 := s1.modPort port (fun q => { q with fecErrs := [], fecSyms := [], serAt := s.now })
    let bad := (s2.lanesUp port).filter (s2.laneBad port)
    .next (bad.foldl (fun s i => if s.portCarries port then s.retireLanes port [i] true else s) s2)
  else .next s

/-- LANE_RETIRE, R277, R278: the partner's control frame names the lanes it retires. -/
def execLaneRetire (port : Fin 24) (lanes : List (Fin 4)) (s : State) : Host.Outcome State Fault Refusal :=
  if s.fabricUp = true ∧ s.portCarries port = true ∧ s.ethernet port = false then
    .next (s.retireLanes port (lanes.map (fun i => i.val)) false)
  else .next s

/-! ### Re-qualification (R279, R321) -/

/-- The lock of a port's re-qualification (Table 17.10). -/
def requalLock (p : Nat) : Lock := { kind := 5, unit := p }

/-- The lanes that a re-qualification drives: the retired ones, or all of a port that is itself retired. -/
def State.requalLanes (s : State) (p : Nat) : List Nat :=
  if s.portState p = portRETIRED then [0, 1, 2, 3] else (s.port p).lanesRetired

/-- A re-qualification has lanes to test, on a port in service or on a retired one that the manager authorised. -/
def State.mayRequal (s : State) (p : Nat) : Bool :=
  !(s.requalLanes p).isEmpty
  && (decide (s.portState p = portUP ∨ s.portState p = portLPI) || s.requalAuthorised p)

/-- REQUAL, R279, R321, R466: a write of LNK_PORT_CTL with REQUAL = 1.  The request is ignored on a port
retired with cause HOSTILE that holds no authorisation, and where no lane can be re-qualified. -/
def execRequal (path : Fin 6) (port : Fin 24) (v : BitVec 32) (s : State) : Host.Outcome State Fault Refusal :=
  if s.writeOpen path (portCtlAddr port) then
    let s1 := s.storePortCtl port v.toNat
    if s1.lockDropped (requalLock port) = true ∨ s1.mayRequal port = false then .next s1
    else .next ((s1.modPort port (fun q => { q with requalWait := true })).lockRequest (requalLock port))
  else .next s

/-- REQUAL_START, R279: the granted request of this end, or the partner's, starts the PRBS31 pattern; a granted request
that can no longer be served gives its lock back. -/
def execRequalStart (port : Fin 24) (remote : Bool) (s : State) : Host.Outcome State Fault Refusal :=
  let own := (s.port port).requalWait && s.hasLock (requalLock port)
  let lanes := s.requalLanes port
  if (remote || own) = true ∧ s.mayRequal port = true ∧ (s.port port).requalRun = [] then
    let s1 := (s.wakePort port).modPort port (fun q => { q with
      requalWait := false, requalRun := lanes, requalAt := s.now })
    .next ((if s1.portState port = portUP then (s1.failEpochsOn port false).setPortState port portTEST else s1).send
      (.prbs port lanes))
  else if own = true ∧ s.mayRequal port = false then
    .next ((s.modPort port (fun q => { q with requalWait := false })).lockRelease (requalLock port))
  else .next s

/-- A lane-retirement record of flash is removed, as only re-qualification may (R29). -/
def Flash.dropLane (f : Flash) (kind unit sub : Nat) : Flash :=
  let keep (r : LaneRec) : Bool := !decide (r.kind = kind ∧ r.unit = unit ∧ (kind = 4 ∨ r.sub = sub))
  { f with lanesEven := f.lanesEven.filter keep, lanesOdd := f.lanesOdd.filter keep
           pendLane := f.pendLane.filter keep
           laneFirst := f.laneFirst && (f.pendLane.head?).any keep }

/-- A record removed by re-qualification is logged (Table 17.5, KIND 0x5). -/
def State.laneRestored (s : State) (p sub kind : Nat) : State :=
  State.logFault { s with flash := s.flash.dropLane kind p sub }
    { die := dieOfPort p, bit := portBit p 2, unit := p, detail := sub, kind := 5, time := s.now } 0

/-- REQUAL_COMPLETE, R279: 10 s of the pattern have passed; lanes whose error rate stayed below a sixteenth of the threshold, without an
uncorrectable codeword, come back; the realignment waits for a ring reconfiguration (Table 17.10).  A retired
port with two good lanes leaves retirement and trains again. -/
def execRequalComplete (port : Fin 24) (errs : List Nat) (syms : Nat) (uncorr : List (Fin 4)) (s : State) :
    Host.Outcome State Fault Refusal :=
  if ¬ (errs.length = 4) then .fault .malformedCommand else
  let run := (s.port port).requalRun
  if run ≠ [] ∧ ¬ s.hasLock { kind := 6, unit := port } = true ∧ (s.port port).requalAt + 10 * perS ≤ s.now then
    let thresh := s.rd CFG_LNK_BER_THRESH.THRESH
    let good := run.filter (fun i => !serAbove (errs.getD i 0) syms thresh 16
      && !decide (errs.getD i 0 * 2 ^ 24 * 16 = thresh * syms) && !(uncorr.any (fun u => decide (u.val = i))))
    let s1 := s.modPort port (fun q => { q with
      requalRun := [], requalAuth := none, lanesRetired := q.lanesRetired.filter (fun i => decide (i ∉ good)) })
    let s2 := (good.filter (fun i => decide (i ∈ (s.port port).lanesRetired))).foldl
      (fun s i => s.laneRestored port i 0) s1
    let s3 := if s.portState port = portTEST then (((s2.modPort port (fun q => { q with
        fecPos := 0, fecBad := false })).setPortState port portUP).showLanes port).goBackN port
          (s.rd (LNK_PORT_STS.PARTNER port))
      else if s.portState port = portRETIRED ∧ 2 ≤ good.length then
        ((s2.laneRestored port 0 4).wr (LNK_PORT_STS.CAUSE port) 0).setPortState port portTRAINING
      else s2
    .next (s3.lockRelease (requalLock port))
  else .next s

/-! ### Low-power idle (R280, R281) -/

/-- The port has been idle for LPI_IDLE_US (R280). -/
def State.idleLong (s : State) (p : Nat) : Bool := s.past (s.port p).activeAt (s.rd (LNK_PORT_CTL.LPI_IDLE_US p) * perUs)

/-- This end proposes low-power idle to the partner. -/
def State.proposeLpi (s : State) (p : Nat) : State :=
  let heard := (s.port p).lpiHeard
  (s.control p (s.rd (LNK_PORT_STS.PARTNER p)) (.lpi (s.ownWake p))).modPort p (fun q => { q with
    lpiOffer := true, lpiHeard := heard })

/-- LPI_IDLE_TIMEOUT, R280, R281: a native port that has been idle proposes; an Ethernet port follows
clause 78 where its PHY type has one. -/
def execLpiIdleTimeout (port : Fin 24) (s : State) : Host.Outcome State Fault Refusal :=
  if s.fabricUp = true ∧ s.portState port = portUP ∧ s.rd (LNK_PORT_CTL.LPI_EN port) = 1
      ∧ s.idleLong port = true then
    if s.ethernet port then
      let m := (s.port port).appliedMode
      if Config.clause78 m ∧ (s.port port).paths.all (fun q => q.2.quiet) = true then
        .next ((s.setPortState port portLPI).wr (STS_LNK_LPI.WAKE_NS port) (Config.clause78Wake m))
      else .next s
    else if (s.port port).link.quiet then
      .next (if (s.port port).lpiOffer then s else s.proposeLpi port)
    else .next s
  else .next s

/-- Nothing but CONTROL flits is under way on a link. -/
def LinkSide.calm (l : LinkSide) : Bool := l.queue.isEmpty && l.buffer.all (fun f => decide (f.typ = 1))

/-- LPI_AGREEMENT, R280: the partner's frame with its advertised wake time.  This end proposes too, unless it has
traffic of its own, and the port enters low-power idle once all is acknowledged and no credit is owed. -/
def execLpiAgreement (port : Fin 24) (wakeNs : Fin 65536) (s : State) : Host.Outcome State Fault Refusal :=
  if s.fabricUp = true ∧ s.portState port = portUP ∧ s.rd (LNK_PORT_CTL.LPI_EN port) = 1
      ∧ s.ethernet port = false then
    if (s.port port).link.calm then
      let s1 := s.modPort port (fun q => { q with lpiHeard := some wakeNs.val })
      .next ((if (s.port port).lpiOffer then s1 else s1.proposeLpi port).settleLpi port)
    else .next (s.cancelLpi port)
  else .next s

/-- LPI_WAKE, R280: the port wakes, and what waits leaves one wake time later. -/
def execLpiWake (port : Fin 24) (s : State) : Host.Outcome State Fault Refusal :=
  if s.fabricUp = true ∧ s.portState port = portLPI then
    let s1 := s.wakePort port
    .next (s1.pumpPort port)
  else .next s

/-! ### Signal (R288, R294) -/

/-- SIGNAL_LOST, R288, R274, R403: the port goes DOWN, its transfers move or fail, C1, and the manager
hears of it. -/
def execSignalLost (port : Fin 24) (s : State) : Host.Outcome State Fault Refusal :=
  if s.fabricUp = true ∧ s.portCarries port = true then
    let who := s.rd (LNK_PORT_STS.PARTNER port)
    let s1 := ((s.portLeave port portDOWN).modPort port (fun q => { q with
      lostAt := if s.ethernet port then some s.now else none })).latch
        (dieOfPort port) (portBit port 4) [] port who 0
    .next (s1.toManager (.portReport port who 0))
  else .next s

/-- An Ethernet port's loss of link that has lasted more than 1 s counts; the third within one hour retires
the port with cause FAULT (R294). -/
def State.longLoss (s : State) (p : Nat) : State :=
  match (s.port p).lostAt with
  | none => s
  | some t =>
    if t + perS < s.now then
      let l := recent s.now perHour (s.port p).losses ++ [s.now]
      let s1 := s.modPort p (fun q => { q with lostAt := none, losses := l })
      if 3 ≤ l.length then s1.retirePort p 2 else s1
    else s

/-- SIGNAL_PROBE, R288: every 100 ms a DOWN port probes; where a signal is found, training begins.  Training that finds
none does not complete, and the port is DOWN without a fault. -/
def execSignalProbe (port : Fin 24) (found : Bool) (s : State) : Host.Outcome State Fault Refusal :=
  if s.fabricUp = true ∧ s.portState port = portTRAINING ∧ found = false then
    .next ((s.setPortState port portDOWN).modPort port (fun q => { q with probeAt := s.now + 100 * perMs })).askJoin
  else if s.fabricUp = true ∧ s.portState port = portDOWN ∧ s.rd (LNK_PORT_CTL.MODE port) ≠ 0
      ∧ (s.port port).probeAt ≤ s.now then
    let s1 := (s.longLoss port).modPort port (fun q => { q with probeAt := s.now + 100 * perMs })
    if s1.portState port ≠ portDOWN then .next s1
    else if found then
      .next ((s1.setPortState port portTRAINING).modPort port (fun q => { q with
        lostAt := none, reduced := q.reduced || (decide (q.appliedMode ≤ 2) && !s.full) }))
    else .next (s1.send (.probe port))
  else .next s

end Sys2Proof.Machine
end

