-- ==== Sys2Proof/Machine/PcieLink.lean ====
section
/-! DEFINITION. Meanings of the PCI Express attachment (R323 to R341, R473). -/

namespace Sys2Proof.Machine

/-- PCIE_LINK_UP, R323: training completes at a rate of 2.5 to 32 GT/s (0 to 4) and a width of 1, 2, 4, 8 or 16
lanes (0 to 4), or a link that is up changes its rate or width; no other island moves. -/
def execPcieLinkUp (rate : Fin 5) (width : Fin 5) (s : State) : Host.Outcome State Fault Refusal :=
  if (s.pcie.training = true ∨ s.rd STS_PCIE_LINK.UP = 1) ∧ s.glob.perstLow = false ∧ s.loopLocked 0 = true then
    .next (((((s.modPcie (fun p => { p with training := false })).wr STS_PCIE_LINK.UP 1).wr STS_PCIE_LINK.RATE
      (rate + 1)).wr STS_PCIE_LINK.WIDTH (2 ^ width.val)).wr STS_PCIE_LINK.REFMODE s.flash.cfgRefMode)
  else .next s

/-- CONFIGURATION_REQUESTS_ANSWERED, R473: after core 0 is released and PERST_N is high. -/
def execConfigurationRequestsAnswered (s : State) : Host.Outcome State Fault Refusal :=
  if 1 ≤ s.rd CTL_BRINGUP_STS.PHASE ∧ s.glob.perstLow = false then
    .next (s.modPcie (fun p => { p with answering := true }))
  else .next s

/-- PCIE_LINK_DOWN, R327. -/
def execPcieLinkDown (s : State) : Host.Outcome State Fault Refusal :=
  if s.rd STS_PCIE_LINK.UP = 1 then .next (s.linkDown.pfReset true) else .next s

/-- HOT_RESET, R327. -/
def execHotReset (s : State) : Host.Outcome State Fault Refusal :=
  if s.rd STS_PCIE_LINK.UP = 1 then .next (s.pfReset true) else .next s

/-- VF_FLR, R338, R339. -/
def execVfFlr (vf : Fin 64) (s : State) : Host.Outcome State Fault Refusal :=
  if s.configOpen = true ∧ s.pcie.vfEnable = true ∧ 1 ≤ vf.val ∧ vf.val ≤ s.pcie.numVfs then
    .next (s.vfReset vf)
  else .next s

/-- PF_FLR, R339, R340. -/
def execPfFlr (s : State) : Host.Outcome State Fault Refusal :=
  if s.configOpen then .next (s.pfReset false) else .next s

/-- A ring of the function holds an unretired descriptor. -/
def State.holdsWork (s : State) (func : Nat) : Bool :=
  (List.range 1024).any (fun r => decide (s.rd (RING_CFG.ENABLE r) = 1 ∧ s.rd (RING_CFG.FUNC r) = func
    ∧ s.rd (RING_RETIRED.RETIRED r) ≠ s.rd (RING_TAIL.TAIL r)))

/-- D3HOT_ENTRY, R324: the function fetches and issues nothing; with unretired descriptors it is an FLR. -/
def execD3hotEntry (func : Fin 64) (s : State) : Host.Outcome State Fault Refusal :=
  if s.configOpen = true ∧ (func.val = 0 ∨ (s.pcie.vfEnable = true ∧ func.val ≤ s.pcie.numVfs)) then
    let s1 := if s.holdsWork func then (if func.val = 0 then s.pfReset false else s.vfReset func) else s
    .next (s1.modFunc func (fun f => { f with d3 := true }))
  else .next s

/-- D0_ENTRY, R324. -/
def execD0Entry (func : Fin 64) (s : State) : Host.Outcome State Fault Refusal :=
  if s.configOpen then .next (s.modFunc func (fun f => { f with d3 := false })) else .next s

/-- MSIX_UNMASK, R333: one message however many events arrived. -/
def execMsixUnmask (func : Fin 64) (vector : Fin 2048) (s : State) : Host.Outcome State Fault Refusal :=
  if s.funcUp func = true ∧ vector.val < vectorsOf func then
    let f := Tab.val s.pcie.funcs func
    let s1 := s.modFunc func (fun f => { f with
      unmasked := addAsc vector f.unmasked, pend := without vector f.pend })
    .next (if vector.val ∈ f.pend then s1.send (.msix func vector) else s1)
  else .next s

/-- PCIE_FATAL_ERROR, R337, R327, R448: C2 for every bound plot; a surprise down takes the link with it. -/
def execPcieFatalError (down : Bool) (s : State) : Host.Outcome State Fault Refusal :=
  if s.rd STS_PCIE_LINK.UP = 1 then
    let s1 := (s.modPcie (fun p => { p with fatal := p.fatal + 1 })).latch 24 6 s.boundPlots 0 0 0
    .next ((if down then s1.linkDown else s1).pfReset false)
  else .next s

/-! ### DOE and SPDM (R341) -/

/-- DOE_DISCOVERY. -/
def execDoeDiscovery (s : State) : Host.Outcome State Fault Refusal := .next (s.doe .discovery)

/-- DOE_ABORT: the object in progress ends. -/
def execDoeAbort (s : State) : Host.Outcome State Fault Refusal :=
  if s.configOpen then .next (s.modPcie (fun p => { p with doeBusy := false, doeObject := none })) else .next s

/-- GET_VERSION: 1.2 alone. -/
def execGetVersion (s : State) : Host.Outcome State Fault Refusal := .next (s.doe .version)

/-- GET_CAPABILITIES. -/
def execGetCapabilities (s : State) : Host.Outcome State Fault Refusal :=
  .next (s.doe .capabilities)

/-- NEGOTIATE_ALGORITHMS. -/
def execNegotiateAlgorithms (s : State) : Host.Outcome State Fault Refusal :=
  .next (s.doe .algorithms)

/-- GET_DIGESTS: slot 0. -/
def execGetDigests (s : State) : Host.Outcome State Fault Refusal := .next (s.doe .digests)

/-- GET_CERTIFICATE: at most 1,024 bytes of the manufacturing chain, which SPDM presents in slot 0 (R404). -/
def execGetCertificate (slot : Fin 8) (start len : Nat) (s : State) :
    Host.Outcome State Fault Refusal :=
  .next (s.doe (if slot = 0 then
    .certificate ((s.flash.manufChain.drop start).take (min 1024 len)) else .error))

/-- CHALLENGE: signed by the device identity key, unless its uses are refused (R402, R406, R450). -/
def execChallenge (slot : Fin 8) (s : State) : Host.Outcome State Fault Refusal :=
  .next (s.doe (if slot = 0 ∧ s.sec.identityRefused = false then .challengeAuth else .error))

/-- GET_MEASUREMENTS: the measurement of the firmware that booted (R407), which the identity key signs. -/
def execGetMeasurements (s : State) : Host.Outcome State Fault Refusal :=
  .next (s.doe (if s.sec.identityRefused then .error else .measurements s.sec.measured))

end Sys2Proof.Machine
end

