-- ==== Sys2Proof/Machine/Plots.lean ====
section
/-! DEFINITION. Meanings of the plot commands: bind, release, reset, lease writes (R379 to R389). -/

namespace Sys2Proof.Machine

/-- Byte address of the first register of a plot. -/
def plotAddr (p : Nat) : Nat := 0x80000 + 0x200 * p

/-- A command of a source reaches the plot. -/
def State.sourceOpen (s : State) (src : PlotSource) (addr : Nat) : Bool :=
  match src with
  | .path p => s.writeOpen p addr
  | .manager _ _ => s.fabricUp

/-- The source is the manager. -/
def byManager : PlotSource → Bool
  | .path _ => false
  | .manager _ _ => true

/-- A lease of the manager marks the plot as managed under its identity; the manager keeps which nodes it
covers (R389). -/
def State.noteLease (s : State) (p : Nat) : PlotSource → State
  | .path _ => s
  | .manager lease nodes =>
    let s1 := (s.wr (PLOT_STS.MANAGED p) 1).wr (PLOT_LEASE_ID.LEASE_ID p) lease.toNat
    if s1.rd STS_MGT_ROLE.MGR_ROLE = 1 ∧ nodes ≠ [] then
      { s1 with mgr := { s1.mgr with leases := Tab.put s1.mgr.leases lease.toNat (nodes.map (fun n => n.val)) } }
    else s1

/-- ERR of a plot. -/
def State.plotErr (s : State) (p e : Nat) : State := s.wr (PLOT_STS.ERR p) e

/-- BIND, R381, R382: the checks against the owner tables; a lease that passes them is BINDING. -/
def execBind (plot : Fin 64) (src : PlotSource) (s : State) : Host.Outcome State Fault Refusal :=
  if s.sourceOpen src (plotAddr plot) then
    if s.plotState plot ≠ plotUNBOUND then .next (s.plotErr plot 3)
    else
      let s1 := s.noteLease plot src
      match s1.bindErr plot with
      | 0 => .next ((s1.plotErr plot 0).wr (PLOT_STS.STATE plot) plotBINDING)
      | e => .next (s1.plotErr plot e)
  else .next s

/-- BIND_COMPLETE, R382, R429, R385: steps 3 to 7 of Table 14.4. -/
def execBindComplete (plot : Fin 64) (s : State) : Host.Outcome State Fault Refusal :=
  if s.plotState plot = plotBINDING then
    let p := plot.val
    let lo := s.rd (PLOT_GLADE.BASE p) * 2 ^ 26
    let hi := lo + s.rd (PLOT_GLADE.SIZE p) * 2 ^ 26
    let s1 := (((((s.clearBanks p).evictAll p).cleanExtents p).seedEngines p).resetPlotRegs p).voidHandles p
    let s2 := s1.freeSlabs (fun e => decide (lo < e.start + e.bytes ∧ e.start < hi))
    let s3 := (s2.set64 (PWR_PLOT_ENERGY_LO.COUNT_LO p) (PWR_PLOT_ENERGY_HI.COUNT_HI p) 0).modPlot p (fun q =>
      { q with routines := [], lastNum := none, frac := 0, step := none, reset := none, c2Binding := false, masks := true
               boundUser := BitVec.ofNat 32 (s.rd (PLOT_USER.USER p)) })
    let s4 := ((s3.emptyStash p).plotErr p 0).wr (PLOT_STS.STATE p) plotBOUND
    let s5 := (s4.wr (PLOT_STS.RETIRED_PAGES p) (s4.retiredPagesOf p))
    let s6 := (s5.tellPlot p).refreshPath
    .next (if (s.plot p).c2Binding then s6.startReset p false false false else s6)
  else .next s

/-- A managed plot does not take a host's lease writes or RELEASE (R389). -/
def State.managedFrom (s : State) (p : Nat) (src : PlotSource) : Bool :=
  decide (s.rd (PLOT_STS.MANAGED p) = 1) && !byManager src

/-- A plot that the manager no longer leases; on the manager itself the lease is over, and leaves that waited for it
may be granted (R316, R389). -/
def State.endLease (s : State) (p : Nat) (src : PlotSource) : State :=
  match src with
  | .path _ => s
  | .manager lease _ =>
    let s1 := (s.wr (PLOT_STS.MANAGED p) 0).wr (PLOT_LEASE_ID.LEASE_ID p) 0
    if s1.isManager then
      (((s1.modMgr (fun m => { m with leases := Tab.del m.leases lease.toNat })).lockRequest joinLock).drainMembership)
    else s1

/-- RELEASE, R383, R380, R389: a drained plot becomes UNBOUND; another is reset with clearing first. -/
def execRelease (plot : Fin 64) (src : PlotSource) (s : State) : Host.Outcome State Fault Refusal :=
  if s.sourceOpen src (plotAddr plot) then
    if s.managedFrom plot src then .next (s.plotErr plot 4)
    else if s.plotState plot ≠ plotBOUND then .next (s.plotErr plot 3)
    else
      let s1 := s.endLease plot src
      .next (if s1.drained plot then s1.releasePlot plot else s1.startReset plot true false true)
  else .next s

/-- RESET or RESET_CLEAR: accepted in BOUND and RESETTING; a host's reset of a managed plot is reported to
the manager (R384, R385, R389). -/
def plotResetCommand (s : State) (p : Nat) (src : PlotSource) (clear : Bool) : State :=
  if s.sourceOpen src (plotAddr p) then
    if s.plotState p = plotBOUND ∨ s.plotState p = plotRESETTING then
      let s1 := s.startReset p clear false false
      if s.managedFrom p src then s1.toManager (.plotWasReset (s.rd (PLOT_LEASE_ID.LEASE_ID p))) else s1
    else s.plotErr p 3
  else s

/-- RESET, R384. -/
def execReset (plot : Fin 64) (src : PlotSource) (s : State) : Host.Outcome State Fault Refusal :=
  .next (plotResetCommand s plot src false)

/-- RESET_CLEAR, R384. -/
def execResetClear (plot : Fin 64) (src : PlotSource) (s : State) : Host.Outcome State Fault Refusal :=
  .next (plotResetCommand s plot src true)

/-- The reset of a plot whose step 6 is still to come. -/
def State.resetOf (s : State) (p : Nat) : Option PlotReset :=
  if s.plotState p = plotRESETTING then (s.plot p).reset else none

/-- Nothing of the plot is outstanding: its tags are free and its last completions have come. -/
def State.quietPlot (s : State) (p : Nat) : Bool := s.tags.used.all (fun t => decide (t.plot ≠ some p))

/-- PLOT_DRAINED, R384 steps 4 and 6, R190, R374. -/
def execPlotDrained (plot : Fin 64) (s : State) : Host.Outcome State Fault Refusal :=
  match s.resetOf plot with
  | none => .next s
  | some r =>
    if r.drained = false ∧ s.quietPlot plot = true then .next (s.drainPlot plot r) else .next s

/-- PLOT_DRAIN_TIMEOUT, R384 step 5: the engines of the plot that still run are reset; an engine reset that fails on a
die is C3. -/
def execPlotDrainTimeout (plot : Fin 64) (stuck : Option (Fin 16)) (running : List (Fin 16 × Fin 9)) (s : State) :
    Host.Outcome State Fault Refusal :=
  match s.resetOf plot with
  | none => .next s
  | some r =>
    if r.drained = false ∧ r.startedAt + s.rd FLT_TMO_DRAIN.MS * perMs ≤ s.now then
      let s1 := State.refreshTags { s with tags := { s.tags with
        used := s.tags.used.filter (fun t => decide (t.plot ≠ some plot.val)) } }
      let s1 := (running.filter (fun e => s1.ownerOfEngine e.1 e.2 == some plot.val)).foldl (fun s e =>
        s.clearEngine e.1 e.2) s1
      match stuck with
      | some gd => .next (s1.latch gd 28 [plot.val] gd 0 0)
      | none => .next (s1.drainPlot plot r)
    else .next s

/-- PLOT_RESET_COMPLETE, R384 steps 7 and 8. -/
def execPlotResetComplete (plot : Fin 64) (s : State) : Host.Outcome State Fault Refusal :=
  match s.resetOf plot with
  | none => .next s
  | some r => if r.drained then .next (s.finishReset plot r) else .next s

/-- The lease registers of a plot: everything but PLOT_CTL, PLOT_STS, PLOT_LEASE_ID and CNT_FIREBREAK. -/
def leaseOffset (o : Nat) : Bool :=
  decide ((0x008 ≤ o ∧ o < 0x034) ∨ (0x080 ≤ o ∧ o < 0x200))

/-- PLOT_LEASE_WRITE, R379, R389: stored in UNBOUND, else ignored and counted. -/
def execPlotLeaseWrite (src : PlotSource) (addr : BitVec 24) (v : BitVec 32) (s : State) :
    Host.Outcome State Fault Refusal :=
  let a := addr.toNat
  let p := (a - 0x80000) / 0x200
  if 0x80000 ≤ a ∧ a < 0x88000 ∧ leaseOffset (a % 0x200) = true ∧ s.sourceOpen src a = true then
    if s.managedFrom p src then .next ((s.plotErr p 4).countUp (CNT_FIREBREAK.LEASE_REFUSED p) 1)
    else if s.plotState p = plotUNBOUND then .next ((s.noteLease p src).storeWord a v.toNat)
    else .next (s.countUp (CNT_FIREBREAK.LEASE_REFUSED p) 1)
  else .next s

end Sys2Proof.Machine
end

