-- ==== Sys2Proof/Machine/Security.lean ====
section
/-! DEFINITION. Meanings of the security root: the firmware mailbox (R404, R406, R501) and firmware images (R409
to R414).  The bytes of an image are represented by what verification says of them. -/

namespace Sys2Proof.Machine

/-! ### The firmware mailbox (R501) -/

/-- The first bytes of CTL_MBOX_DATA. -/
def State.boxBytes (s : State) (n : Nat) : List Byte :=
  (List.range n).map (fun i => BitVec.ofNat 8 (s.rd (CTL_MBOX_DATA.DATA (i / 4)) / 256 ^ (i % 4)))

/-- One byte of CTL_MBOX_DATA changed. -/
def State.putBoxByte (s : State) (i : Nat) (b : Byte) : State :=
  let f := CTL_MBOX_DATA.DATA (i / 4)
  let w := s.rd f
  let k := 256 ^ (i % 4)
  s.wr f (w - w / k % 256 * k + b.toNat * k)

/-- Bytes written to CTL_MBOX_DATA from a place on. -/
def State.putBox (s : State) (i : Nat) : List Byte → State
  | [] => s
  | b :: l => State.putBox (s.putBoxByte i b) (i + 1) l

/-- An answer: its bytes from byte 0, LEN, RESULT, and SEQ advances; BUSY is 0 again (R501). -/
def State.boxAnswer (s : State) (result : Nat) (bytes : List Byte) : State :=
  ((((s.putBox 0 bytes).wr CTL_MBOX_STS.LEN bytes.length).wr CTL_MBOX_STS.RESULT result).wr CTL_MBOX_STS.BUSY 0).wsq
    CTL_MBOX_STS.SEQ

/-- The physical function's write of CTL_MBOX_CMD reaches core 3. -/
def State.boxOpen (s : State) : Bool := s.writeOpen 0 0x400 && s.sec.booted && !s.glob.dormant

/-- A write of CTL_MBOX_CMD: the command is served while BUSY is 1, and ignored while another one is (R501). -/
def State.boxCommand (s : State) (r : BoxReq) : State :=
  if s.boxOpen = true ∧ s.sec.box = none then
    { s.wr CTL_MBOX_STS.BUSY 1 with sec := { s.sec with box := some r } }
  else s

/-- The device identity key may not be used: debug, windthrow, or until a power cycle (R406, R501). -/
def State.keyRefused (s : State) : Bool :=
  s.sec.identityRefused || s.faults.windthrow || decide (s.rd SEC_STS.DEBUG = 1)

/-- The flash part changed by a certificate write to both header copies (R409, R501). -/
def State.writeCerts (s : State) (f : Flash → Flash) : State :=
  let g := f s.flash
  { s with flash := { g with headerSeq := g.headerSeq + 2 } }

/-- GET_CSR is answered (R404). -/
def State.serveCsr (s : State) : State :=
  if s.keyRefused then s.boxAnswer 3 [] else s.tick.boxAnswer 0 ((Config.csr s.draws).take 8192)

/-- INSTALL_ROOT is answered: while none is held, or the new one is signed by the present root (R404). -/
def State.serveRoot (s : State) (len : Nat) (signed : Bool) : State :=
  if s.flash.root.isSome = true ∧ signed = false then s.boxAnswer 3 []
  else (s.writeCerts (fun f => { f with root := some (s.boxBytes len) })).boxAnswer 0 []

/-- INSTALL_CHAIN is answered: it leads to the held root and its leaf names the device identity key (R404). -/
def State.serveChain (s : State) (len : Nat) (verifies : Bool) : State :=
  if s.flash.root.isSome = true ∧ verifies = true then
    (s.writeCerts (fun f => { f with instChain := s.boxBytes len })).boxAnswer 0 []
  else s.boxAnswer 2 []

/-- REMOVE_ROOT is answered: in lifecycle RMA (R404). -/
def State.serveRemove (s : State) : State :=
  if s.sec.lifecycle = 3 then (s.writeCerts (fun f => { f with root := none, instChain := [] })).boxAnswer 0 []
  else s.boxAnswer 3 []

/-- GET_NONCE is answered (R406). -/
def State.serveNonce (s : State) : State :=
  match s.sec.nonce with
  | some n => s.boxAnswer 0 n
  | none => s.boxAnswer 1 []

/-- Core debug unlocked: every bound plot reset with clearing, every key slot zeroised, the identity key refused
until a power cycle (R406). -/
def State.unlockDebug (s : State) : State :=
  let s1 := s.wr SEC_STS.DEBUG 1
  let s2 := s1.boundPlots.foldl (fun s p => s.startReset p true false false) s1
  let s3 := s2.zeroKeys
  { s3 with sec := { s3.sec with identityRefused := true } }

/-- DEBUG_UNLOCK is answered (R406). -/
def State.serveUnlock (s : State) (good : Bool) : State :=
  if good = true ∧ s.sec.nonce.isSome = true then s.unlockDebug.boxAnswer 0 [] else s.boxAnswer 2 []

/-- GET_CHAIN is answered: one byte chooses the manufacturing or the installation chain (R404, R501). -/
def State.serveGetChain (s : State) (len : Nat) : State :=
  let which := (s.boxBytes 1).headD 0
  let chain := if which = 0 then s.flash.manufChain else s.flash.instChain
  if len ≠ 1 ∨ 1 < which.toNat ∨ chain = [] then s.boxAnswer 1 []
  else s.boxAnswer 0 (chain.take 8192)

/-- A mailbox command is answered; a LEN above 8,192 is TOO_LARGE (R501, Table 19.7). -/
def State.serveBox (s : State) (r : BoxReq) : State :=
  if 8192 < r.len then s.boxAnswer 4 []
  else if r.cmd = 1 then s.serveCsr
  else if r.cmd = 2 then s.serveRoot r.len r.good
  else if r.cmd = 3 then s.serveChain r.len r.good
  else if r.cmd = 4 then s.serveRemove
  else if r.cmd = 5 then s.serveNonce
  else if r.cmd = 6 then s.serveUnlock r.good
  else if r.cmd = 7 then s.serveGetChain r.len
  else s.boxAnswer 1 []

/-- Core 3 answers the mailbox command in progress. -/
def State.answerBox (s : State) : State :=
  match s.sec.box with
  | some r => { s with sec := { s.sec with box := none } }.serveBox r
  | none => s

/-- One period of the clearing die's SOSC passes, if the device has power; a DOE object and a mailbox command in
progress are answered.  That the answers come with the next tick is a DESIGN CHOICE, safe: log 188. -/
def State.idleTick (s : State) : State :=
  if s.glob.poweredOn then
    (s.count64 CLK_SOSC_COUNT_LO.COUNT_LO CLK_SOSC_COUNT_HI.COUNT_HI 1).answerDoe.answerBox
  else s

/-- GET_CSR, R404, R501. -/
def execGetCsr (len : BitVec 14) (s : State) : Host.Outcome State Fault Refusal :=
  .next (s.boxCommand { cmd := 1, len := len.toNat })

/-- INSTALL_ROOT, R404, R501; `signed`: by the present root. -/
def execInstallRoot (len : BitVec 14) (signed : Bool) (s : State) : Host.Outcome State Fault Refusal :=
  .next (s.boxCommand { cmd := 2, len := len.toNat, good := signed })

/-- INSTALL_CHAIN, R404, R501; `verifies`: to the held root, its leaf naming the device identity key. -/
def execInstallChain (len : BitVec 14) (verifies : Bool) (s : State) : Host.Outcome State Fault Refusal :=
  .next (s.boxCommand { cmd := 3, len := len.toNat, good := verifies })

/-- REMOVE_ROOT, R404, R501. -/
def execRemoveRoot (len : BitVec 14) (s : State) : Host.Outcome State Fault Refusal :=
  .next (s.boxCommand { cmd := 4, len := len.toNat })

/-- GET_NONCE, R406, R501. -/
def execGetNonce (len : BitVec 14) (s : State) : Host.Outcome State Fault Refusal :=
  .next (s.boxCommand { cmd := 5, len := len.toNat })

/-- DEBUG_UNLOCK, R406: `good` is a token of Keloux's debug key over the last nonce and the device identity. -/
def execDebugUnlock (len : BitVec 14) (good : Bool) (s : State) : Host.Outcome State Fault Refusal :=
  .next (s.boxCommand { cmd := 6, len := len.toNat, good := good })

/-- GET_CHAIN, R404, R501. -/
def execGetChain (len : BitVec 14) (s : State) : Host.Outcome State Fault Refusal :=
  .next (s.boxCommand { cmd := 7, len := len.toNat })

/-- NONCE_REQ, R406: core 3 draws 32 fresh bytes. -/
def execNonceReq (path : Fin 6) (s : State) : Host.Outcome State Fault Refusal :=
  if s.writeOpen path 0x400038 = true ∧ s.sec.booted = true then
    let bytes := (List.range 32).map (fun i => Config.freeByte (s.draws + i))
    .next { s with draws := s.draws + 32, sec := { s.sec with nonce := some bytes } }
  else .next s

/-! ### Firmware images (R409 to R414) -/

/-- The slot of the running image. -/
def State.runImage (s : State) : Bool := decide (s.rd SEC_STS.BOOT_IMAGE = 1)

/-- SEC_FW_STS.STATE with no staging in progress: TRIAL, PENDING or IDLE. -/
def State.fwIdle (s : State) : Nat :=
  if s.rd SEC_STS.TRIAL = 1 then 5
  else if s.flash.imgA.state = 2 ∨ s.flash.imgB.state = 2 then 4 else 0

/-- A command's result: RESULT is set and SEQ advances (Table 15.8). -/
def State.fwResult (s : State) (r : Nat) : State := (s.wr SEC_FW_STS.RESULT r).wsq SEC_FW_STS.SEQ

/-- The end of a staging, with its result. -/
def State.fwEnd (s : State) (r : Nat) : State :=
  let s1 := { s with flash := { s.flash with staging := none } }
  (((s1.wr SEC_FW_STS.STATE s1.fwIdle).fwResult r).lockRelease { kind := 8, unit := 0 }).drainMembership

/-- A write of SEC_FW_CTL reaches the firmware. -/
def State.fwOpen (s : State) (path : Nat) : Bool := s.writeOpen path 0x400010 && s.sec.booted

/-- First glade address of the image (Table 15.9). -/
def State.fwSource (s : State) : Nat := 2 ^ 32 * s.rd SEC_FW_SRC_HI.SRC_HI + 4096 * s.rd SEC_FW_SRC_LO.SRC_LO

/-- The plot whose HOST-owned slabs cover every 4 KiB of a glade range, if its rings are the physical function's
(R412). -/
def State.fwPlot (s : State) (a n : Nat) : Bool :=
  let blocks := blocksOf 4096 a n
  match s.slabOf a 1 with
  | none => false
  | some (_, e) => s.pfOwns e.owned.toNat && blocks.all (fun b =>
      (s.slabOf (4096 * b) 1).any (fun q => decide (q.2.owner = ownHOST ∧ q.2.owned = e.owned)))

/-- What verification under R408 answers: nothing, BAD_SIGNATURE or ROLLBACK. -/
def State.fwVerdict (s : State) (i : ImageSlot) : Option Nat :=
  if i.chainOk = false ∨ i.digestsOk = false then some 2
  else if i.svn < s.rd SEC_STS.FUSE_SVN then some 3
  else none

/-- The image of `len` bytes that a verification's outcome stands for; none is shorter than its header. -/
def imageOf (c : ImageCheck) (len : Nat) : ImageSlot :=
  { svn := c.svn, chainOk := c.chainOk && decide (4096 ≤ len), digestsOk := c.digestsOk, measurement := c.measurement }

/-- The device has joined a system. -/
def State.inSystem (s : State) : Bool := decide (s.rd STS_MGT_ROLE.ROLE ≠ 0)

/-- WRITING begins or goes on: the slot reads EMPTY before its first sector is erased (R412). -/
def State.fwWriting (s : State) (g : Staging) : State :=
  let b := decide (g.slot = 1)
  (if (s.flash.img b).state = 0 then s else s.setImage b { s.flash.img b with state := 0, bytes := [] }).wr
    SEC_FW_STS.STATE 3

/-- The manager's arbiter is asked for the staging lock; STATE reads WAIT_LOCK until it is held (R413). -/
def State.fwLock (s : State) (g : Staging) : State :=
  if s.inSystem = false then s.fwWriting g
  else if s.isManager then
    let s1 := s.lockRequest { kind := 8, unit := 0 }
    if s1.hasLock { kind := 8, unit := 0 } then s1.fwWriting g else s1.wr SEC_FW_STS.STATE 1
  else s.wr SEC_FW_STS.STATE 1

/-- STAGE, R412, R413: refused, too large, not verified, or accepted; in Fallow it waits (Table 18.6). -/
def execStage (path : Fin 6) (image : ImageCheck) (s : State) : Host.Outcome State Fault Refusal :=
  if ¬ (image.measurement.length = 32) then .fault .malformedCommand else
  if s.fwOpen path then
    let len := s.rd SEC_FW_LEN.LEN
    if s.rd SEC_CFG.STAGE_EN = 0 ∨ s.flash.staging.isSome = true ∨ s.rd SEC_STS.TRIAL = 1
        ∨ s.faults.windthrow = true then .next (s.fwResult 6)
    else if 24 * 2 ^ 20 < len then .next (s.fwResult 4)
    else if s.fwPlot s.fwSource len = false then .next (s.fwResult 6)
    else
      let g : Staging :=
        { slot := if s.runImage then 0 else 1, image := imageOf image len, sectorsLeft := ceilDiv len flashSector,
          bytes := s.readGlade s.fwSource len }
      let s1 := { s with flash := { s.flash with staging := some g } }
      if s.rd CTL_PSTATE.STATE ≠ 0 then .next (s1.wr SEC_FW_STS.STATE 1)
      else match s.fwVerdict g.image with
        | some r => .next (s1.fwEnd r)
        | none => .next (s1.fwLock g)
  else .next s

/-- The staging lock is held: no system, the manager's own arbiter, or the manager's grant. -/
def State.fwHolds (s : State) (granted : Bool) : Bool :=
  !s.inSystem || (if s.isManager then s.hasLock { kind := 8, unit := 0 } else granted)

/-- The lock passes between sectors: what waits for it goes first (R464, R467). -/
def State.fwPass (s : State) (g : Staging) : State :=
  if s.inSystem = true ∧ s.isManager = true then
    let s1 := (s.lockRelease { kind := 8, unit := 0 }).drainMembership
    let s2 := s1.lockRequest { kind := 8, unit := 0 }
    if s2.hasLock { kind := 8, unit := 0 } then s2.fwWriting g else s2.wr SEC_FW_STS.STATE 1
  else s

/-- One sector of the staged image is erased and programmed. -/
def State.fwSector (s : State) (g : Staging) (good : Bool) : State :=
  let s1 := s.fwWriting g
  let b := decide (g.slot = 1)
  if good = false then s1.fwEnd 5
  else
    let s2 := { s1 with flash := s1.flash.program b (g.bytes.take flashSector) }
    if g.abort then s2.fwEnd 7
    else if g.sectorsLeft ≤ 1 then
      (s2.setImage b { g.image with state := 2, bytes := (s2.flash.img b).bytes }).fwEnd 0
    else
      let h := { g with sectorsLeft := g.sectorsLeft - 1, bytes := g.bytes.drop flashSector }
      State.fwPass { s2 with flash := { s2.flash with staging := some h } } h

/-- FLASH_SECTOR_PROGRAM, R30, R413, R467: waits for records, for the staging lock and in Fallow; a sector that
does not read back equal is FLASH_ERROR. -/
def execFlashSectorProgram (good granted : Bool) (s : State) : Host.Outcome State Fault Refusal :=
  match s.flash.staging with
  | none => .next s
  | some g =>
    if s.flash.waits = true ∨ s.sec.booted = false ∨ s.rd CTL_PSTATE.STATE ≠ 0 then .next s
    else match s.fwVerdict g.image with
      | some r => .next (s.fwEnd r)
      | none =>
        let s1 := if s.inSystem = true ∧ s.isManager = true then s.lockRequest { kind := 8, unit := 0 } else s
        if s1.fwHolds granted then .next (s1.fwSector g good) else .next (s1.wr SEC_FW_STS.STATE 1)

/-- A TRIAL image is confirmed: VALID with a new confirmation sequence; SVN_AUTO blows fuses (R411). -/
def State.confirmImage (s : State) : State :=
  let b := s.runImage
  let i := s.flash.img b
  let s1 := s.setImage b { i with state := 1, confirmSeq := (max s.flash.imgA.confirmSeq s.flash.imgB.confirmSeq + 1) % 65536 }
  let s2 := if s1.rd SEC_CFG.SVN_AUTO = 1 ∧ s1.rd SEC_STS.FUSE_SVN < i.svn then s1.wr SEC_STS.FUSE_SVN i.svn else s1
  let s3 := s2.wr SEC_STS.TRIAL 0
  let s4 := { s3 with sec := { s3.sec with trialDeadline := none } }
  s4.wr SEC_FW_STS.STATE s4.fwIdle

/-- CONFIRM, R411: for a TRIAL image while MANUAL_CONFIRM is 1. -/
def execConfirm (path : Fin 6) (s : State) : Host.Outcome State Fault Refusal :=
  if s.fwOpen path then
    if s.rd SEC_STS.TRIAL = 1 ∧ s.rd SEC_CFG.MANUAL_CONFIRM = 1 then .next (s.confirmImage.fwResult 0)
    else .next (s.fwResult 6)
  else .next s

/-- SELF_TEST_PASS, R411: after full bring-up, while MANUAL_CONFIRM is 0. -/
def execSelfTestPass (s : State) : Host.Outcome State Fault Refusal :=
  if s.sec.booted = true ∧ s.rd SEC_STS.TRIAL = 1 ∧ s.rd SEC_CFG.MANUAL_CONFIRM = 0 ∧ s.rd CTL_BRINGUP_STS.PHASE = 3 then
    .next s.confirmImage
  else .next s

/-- CONFIRM_TIMEOUT, R411: the confirmation window has ended, and the device performs a warm reset. -/
def execConfirmTimeout (s : State) : Host.Outcome State Fault Refusal :=
  match s.sec.trialDeadline with
  | some t => if t ≤ s.now then .next s.startWarm else .next s
  | none => .next s

/-- REVERT, R414: a running TRIAL image is BAD and the device resets; a PENDING image is BAD. -/
def execRevert (path : Fin 6) (s : State) : Host.Outcome State Fault Refusal :=
  if s.fwOpen path then
    let b := s.runImage
    if s.flash.staging.isSome then .next (s.fwResult 1)
    else if s.rd SEC_STS.TRIAL = 1 then .next ((s.markImage b 4).fwResult 0).startWarm
    else if (s.flash.img (!b)).state = 2 then
      let s1 := s.markImage (!b) 4
      .next ((s1.wr SEC_FW_STS.STATE s1.fwIdle).fwResult 0)
    else .next (s.fwResult 6)
  else .next s

/-- COMMIT_SVN, R414: fuses are blown up to the running VALID image's SVN. -/
def execCommitSvn (path : Fin 6) (s : State) : Host.Outcome State Fault Refusal :=
  if s.fwOpen path then
    let i := s.flash.img s.runImage
    if s.flash.staging.isSome then .next (s.fwResult 1)
    else if i.state = 1 then .next ((s.wr SEC_STS.FUSE_SVN (max (s.rd SEC_STS.FUSE_SVN) i.svn)).fwResult 0)
    else .next (s.fwResult 6)
  else .next s

/-- ABORT, R413: at once while the lock is awaited, else at the next sector boundary. -/
def execAbort (path : Fin 6) (s : State) : Host.Outcome State Fault Refusal :=
  if s.fwOpen path then
    match s.flash.staging with
    | none => .next (s.fwResult 6)
    | some g =>
      if s.rd SEC_FW_STS.STATE = 3 then
        .next { s with flash := { s.flash with staging := some { g with abort := true } } }
      else .next (s.fwEnd 7)
  else .next s

/-- The staging of recovery: slot A, as long as SEC_FW_LEN says (R410). -/
def State.recoveryStaging (s : State) (len : Nat) : Staging :=
  match s.flash.staging with
  | some g => g
  | none => { slot := 0, sectorsLeft := ceilDiv len flashSector }

/-- The bytes of SEC_RECOVERY_WIN. -/
def State.windowBytes (s : State) : List Byte :=
  (List.range (flashSector / 4)).flatMap (fun i => leBytes 4 (Tab.val s.sec.window i).toNat)

/-- RECOVERY_CHUNK, R410: in recovery only, the next 64 KiB of an image from SEC_RECOVERY_WIN; after the last the
image is verified and marked PENDING.  It waits for records (R30). -/
def execRecoveryChunk (path : Fin 6) (image : ImageCheck) (s : State) : Host.Outcome State Fault Refusal :=
  if ¬ (image.measurement.length = 32) then .fault .malformedCommand else
  if s.writeOpen path 0x400010 = true ∧ s.flash.waits = false then
    let len := s.rd SEC_FW_LEN.LEN
    if s.rd SEC_STS.RECOVERY = 0 ∨ s.faults.windthrow = true then .next (s.fwResult 6)
    else if 24 * 2 ^ 20 < len then .next (s.fwResult 4)
    else
      let g := s.recoveryStaging len
      let s0 := if s.flash.staging.isSome then s else s.setImage false { s.flash.imgA with state := 0, bytes := [] }
      let chunk := s.windowBytes.take (min flashSector (len - s0.flash.imgA.bytes.length))
      let s1 := { s0 with flash := s0.flash.program false chunk }
      if 1 < g.sectorsLeft then
        .next (State.fwResult { s1 with flash := { s1.flash with
          staging := some { g with sectorsLeft := g.sectorsLeft - 1 } } } 0)
      else match s.fwVerdict (imageOf image len) with
        | some r => .next (s1.fwEnd r)
        | none => .next ((s1.setImage false { imageOf image len with
            state := 2, bytes := s1.flash.imgA.bytes }).fwEnd 0)
  else .next s

end Sys2Proof.Machine
end

