-- ==== Sys2Proof/Machine/RegWrite.lean ====
section
/-! DEFINITION. Meanings of register access that has no row of its own (R491 to R499, R501, R333), write-backs of
a SEQ (R494), latching reads (R495), the scrub of triplicated fields (R497, R498, R405) and performance
selections (R502). -/

namespace Sys2Proof.Machine

/-! ### Storing rules (R493 and the tables that the entries name) -/

/-- Fields with a stated range: key, least and greatest value. -/
def fieldBounds : List (Nat × Nat × Nat) :=
  [(CLK_DIV.BRIDGE_DIV.key, 1, 15), (CLK_DIV.MGT_BUS_DIV.key, 4, 31), (CFG_STALL_WDOG.PERIOD_US.key, 20, 2000),
   (PWR_ENV_LEVEL_LO.LEVEL_0.key, 0, 160), (PWR_ENV_LEVEL_LO.LEVEL_1.key, 0, 160),
   (PWR_ENV_LEVEL_LO.LEVEL_2.key, 0, 160), (PWR_ENV_LEVEL_LO.LEVEL_3.key, 0, 160),
   (PWR_ENV_LEVEL_HI.LEVEL_4.key, 0, 160), (PWR_ENV_LEVEL_HI.LEVEL_5.key, 0, 160),
   (PWR_ENV_LEVEL_HI.LEVEL_6.key, 0, 160), (PWR_ENV_LEVEL_HI.LEVEL_7.key, 0, 160),
   (PWR_ENV_LIMIT.WATTS.key, 0, 1600), (PWR_PEAK_LIMIT.WATTS.key, 0, 1600),
   (PWR_VOLT_CFG.VHOLD_MV.key, 420, 720), (PWR_VOLT_CFG.VMIN_MV.key, 420, 720), (PWR_VOLT_CFG.VMAX_MV.key, 420, 720),
   (PWR_THERM_CFG.THROTTLE_C.key, 60, 105), (PWR_THERM_CFG.WARN_C.key, 60, 105),
   (PWR_COOL_CFG.TACH_LOSS_MS.key, 5, 100),
   (CFG_LNK_RETRY_MAX.MAX.key, 1, 65535), (CFG_LNK_RETRY_WINDOW.WINDOW_MS.key, 1, 65535),
   (CFG_LNK_BER_HOLD.HOLD_MS.key, 1, 65535), (LNK_TAG_CFG.LOCAL_RESERVE.key, 16, 4096),
   (LNK_TAG_CFG.DEFAULT_CAP.key, 1, 4096), (CFG_MGT_PLCA.NODE_COUNT.key, 1, 10),
   ((CFG_MEM_SCRUB.TILE_PASS_S 0).key, 1, 60), ((CFG_MEM_SCRUB.HBM_PASS_H 0).key, 1, 48)]

/-- What a field (of the first copy of its register) stores of a written value. -/
def legalField (f : Fld) (x : Nat) : Nat :=
  if f.key = (CFG_SCHED_CTL.WARM_FORM 0).key then (if x = 3 then 0 else x)
  else if f.key = (CFG_SCHED_CTL.DECAY_FORM 0).key then (if 5 ≤ x then 0 else x)
  else match fieldBounds.find? (fun b => decide (b.1 = f.key)) with
    | some b => clampTo b.2.1 b.2.2 x
    | none => x

/-- The word that a written word stores: each writable field by its rule, the other bits zero. -/
def legalWord (row : RegRow) (v : Nat) : Nat :=
  row.flds.foldl (fun w f =>
    if f.acc = .rw ∨ f.acc = .rwt then
      w + legalField f (v / 2 ^ fieldLow f % 2 ^ f.width) * 2 ^ fieldLow f
    else w) 0

/-- The plot whose open step delays a write at an address: the stash size and spill registers, and the schedule's
(R202, R261). -/
def latePlot (a : Nat) : Option Nat :=
  if 0x89000 ≤ a ∧ a < 0x8A000 ∧ 4 ≤ a % 0x40 ∧ a % 0x40 ≤ 0x10 then some ((a - 0x89000) / 0x40)
  else if 0x8B000 ≤ a ∧ a < 0x8C000 ∧ a % 0x40 ≤ 0x20 then some ((a - 0x8B000) / 0x40)
  else none

/-- What follows a stored word at once: masked faults, the envelope, the node identifier of PLCA. -/
def State.afterWrite (s : State) (a : Nat) : State :=
  if 0x20000 ≤ a ∧ a < 0x20010 then s.refreshEnvelope
  else if 0x40000 ≤ a ∧ a < 0x80000 then s.refreshFaults
  else if a = 0x300004 then s.takePlcaId
  else s

/-- The word stored under the rules of its register, now or when the step that is open completes; RING_BASE and
RING_CPL of an enabled ring store nothing (R344), a fault mask only the bits that may be masked (R453), and
only the physical function reaches the mailbox (R501). -/
def State.writePlain (s : State) (path : Nat) (row : RegRow) (a v : Nat) : State :=
  let w := legalWord row v
  if 0x100000 ≤ a ∧ a < 0x108000 ∧ s.rd (RING_CFG.ENABLE ((a - 0x100000) / 0x20)) = 1 then s
  else if 0x2000 ≤ a ∧ a < 0x4000 then (if path = 0 ∧ s.sec.box = none then s.storeWord a w else s)
  else if 0x40100 ≤ a ∧ a < 0x40420 then
    let die := (a - 0x40100) / 0x20
    (s.storeWord a (if a % 0x20 = 0x0C then maskStored die 0 w else maskStored die 32 w)).afterWrite a
  else match latePlot a with
    | some p =>
      if (s.plot p).step.isSome then
        { s with regs := { s.regs with late := Tab.ins s.regs.late a (BitVec.ofNat 32 w) } }
      else s.storeWord a w
    | none => (s.storeWord a w).afterWrite a

/-- A word of a function's MSI-X table; the Mask bit cleared sends the one message that waits (R333). -/
def State.writeMsix (s : State) (func off : Nat) (v : Word) : State :=
  let n := off / 16
  let f := Tab.val s.pcie.funcs func
  if off % 16 = 12 then
    if v.toNat % 2 = 1 then s.modFunc func (fun f => { f with unmasked := without n f.unmasked })
    else
      let s1 := s.modFunc func (fun f => { f with unmasked := addAsc n f.unmasked, pend := without n f.pend })
      if n ∈ f.pend then s1.send (.msix func n) else s1
  else s.modFunc func (fun f => { f with entries := Tab.put f.entries (off / 4) v })

/-- An access that BAR0 does not take is counted, and reported as an Unsupported Request (R330, Table 12.4). -/
def State.oddAccess (s : State) : State :=
  if s.hostReaches then (s.countUp CNT_PCIE_ERR.ACCESS 1).pcieNonFatal [] 0 else s

/-- A word written on a path. -/
def State.writeWord (s : State) (path a : Nat) (v : Word) : State :=
  if a % 4 ≠ 0 then (if path = 0 then s.oddAccess else s)
  else if ¬ s.writeOpen path a = true then s
  else if 0xF00000 ≤ a ∧ a < 0xF08000 then s.writeMsix 0 (a - 0xF00000) v
  else if a = 0x400 then
    if path = 0 then s.boxCommand { len := bits v.toNat 29 16 } else s
  else if 0x410000 ≤ a ∧ a < 0x420000 then
    (if s.rd SEC_STS.RECOVERY = 1 then
      { s with sec := { s.sec with window := Tab.put s.sec.window ((a - 0x410000) / 4) v } } else s)
  else if a = 0x114 then s.wr CTL_PSTATE.AUTO_WAKE (bits v.toNat 8 8)
  else match rowAt a with
    | some row => s.writePlain path row a v.toNat
    | none => s

/-- REGISTER_WRITE, R491 to R493, R496, R499, R330, R333, R328, R337, R335. -/
def execRegisterWrite (path : Fin 6) (target : RegTarget) (s : State) : Host.Outcome State Fault Refusal :=
  if target.plain then
    match target with
    | .word a v => .next (s.writeWord path a.toNat v)
    | .odd => .next (if path.val = 0 then s.oddAccess else s)
    | .vfMsix vf off v =>
      if path.val = 0 ∧ 1 ≤ vf.val ∧ s.funcUp vf = true ∧ s.faults.windthrow = false ∧ s.rd SEC_STS.RECOVERY = 0 then
        .next (if off.toNat % 4 = 0 then s.writeMsix vf off.toNat v else s.oddAccess)
      else .next s
    | .numVfs n => .next (if s.configOpen then s.modPcie (fun p => { p with numVfs := min 63 n.toNat }) else s)
    | .vfEnable on => .next (if s.configOpen then s.modPcie (fun p => { p with vfEnable := on }) else s)
    | .ecrcCheck on => .next (if s.configOpen then s.modPcie (fun p => { p with ecrcCheck := on }) else s)
    | .ecrcGen on => .next (if s.configOpen then s.modPcie (fun p => { p with ecrcGen := on }) else s)
    | .relaxed n on => .next (if s.configOpen then s.modFunc n (fun f => { f with relaxed := on }) else s)
    | .payloads m r => .next (if s.configOpen then
        s.modPcie (fun p => { p with mps := 128 * 2 ^ m.val, mrrs := 128 * 2 ^ r.val }) else s)
    | .cplTimeout v off => .next (if s.configOpen then
        s.modPcie (fun p => { p with cplValue := v, cplOff := off }) else s)
    | .bad what a v =>
      .next (if path.val ≠ 0 ∨ s.hostReaches = false then s
        else if s.tlpBad what then s.pcieNonFatal [] a.toNat else s.writeWord 0 a.toNat v)
    | .tenBitTag on => .next (if s.configOpen then s.modPcie (fun p => { p with tenBit := on }) else s)
  else .fault .malformedCommand

/-- LOW_WORD_READ, R495, R452. -/
def execLowWordRead (path : Fin 6) (addr : BitVec 24) (s : State) : Host.Outcome State Fault Refusal :=
  if s.pathOpen path addr.toNat = true ∧ ¬ s.fencedWindow addr.toNat = true then .next (s.latchRead path addr.toNat)
  else .next s

/-- The SEQ of a WSQ register at an address and the flags that a write-back clears (Tables 5.8, 7.11, 15.8,
16.12, 19.6). -/
def wsqAt (path a : Nat) : Option (Fld × List Fld) :=
  if 0x88000 ≤ a ∧ a < 0x89000 ∧ a % 0x40 = 4 then
    let p := (a - 0x88000) / 0x40
    some (STS_ESC_OVERRUN.SEQ p, [STS_ESC_OVERRUN.OVERRUN p])
  else if 0x89000 ≤ a ∧ a < 0x8A000 ∧ a % 0x40 = 0x14 then
    let p := (a - 0x89000) / 0x40
    some (STS_STASH_SPILLED.SEQ p, [STS_STASH_SPILLED.SPILLED p])
  else if a = 0x20034 then some (STS_THERM.SEQ, [STS_THERM.WARN, STS_THERM.THROTTLE, STS_THERM.HBM_HOT])
  else if a = 0x400014 then some (SEC_FW_STS.SEQ, [SEC_FW_STS.RESULT])
  else if a = 0x404 ∧ path = 0 then some (CTL_MBOX_STS.SEQ, [CTL_MBOX_STS.RESULT])
  else none

/-- WSQ_WRITE_BACK, R494. -/
def execWsqWriteBack (path : Fin 6) (addr : BitVec 24) (seq : BitVec 8) (s : State) :
    Host.Outcome State Fault Refusal :=
  if s.writeOpen path addr.toNat then
    match wsqAt path addr.toNat with
    | some (f, flags) => .next (s.wsqBack f seq.toNat flags)
    | none => .next s
  else .next s

/-- PERFSEL_WRITE, R502: every counter whose selection is written starts again from zero; a code that the table
does not list keeps the selection (R493). -/
def execPerfselWrite (path : Fin 6) (gd : Fin 16) (v : BitVec 32) (s : State) : Host.Outcome State Fault Refusal :=
  if s.writeOpen path (0x800400 + 0x10000 * gd) then
    let put (s : State) (k : Nat) (f : Fld) : State :=
      let x := bits v.toNat (8 * k + 7) (8 * k)
      if x ≤ 9 then (s.wr f x).wr (CNT_GD_PERF.COUNT gd k) 0 else s
    .next (put (put (put (put s 0 (CTL_GD_PERFSEL.SEL_0 gd)) 1 (CTL_GD_PERFSEL.SEL_1 gd)) 2
      (CTL_GD_PERFSEL.SEL_2 gd)) 3 (CTL_GD_PERFSEL.SEL_3 gd))
  else .next s

/-! ### The scrub of triplicated fields (R497) -/

/-- The RWT field that a key names. -/
def rwtField (key : Nat) : Option Fld :=
  match rowAt (key / 32) with
  | some row =>
    match row.flds.find? (fun f => decide (fieldLow f = key % 32 ∧ f.acc = .rwt)) with
    | some f => some (fieldAt row (key / 32) f)
    | none => none
  | none => none

/-- One upset copy. -/
def State.upset (s : State) (u : Upset) : State :=
  match u with
  | .field key copy v =>
    match rwtField key with
    | some f =>
      let x := v % 2 ^ f.width
      let put (t : Tab Nat) : Tab Nat := Tab.putD t key x f.reset
      if copy.val = 0 then { s with regs := { s.regs with field := put s.regs.field } }
      else if copy.val = 1 then { s with regs := { s.regs with copyB := put s.regs.copyB } }
      else { s with regs := { s.regs with copyC := put s.regs.copyC } }
    | none => s
  | .slabPlot n copy v =>
    s.modSlab n (fun e =>
      if copy.val = 0 then { e with plot := v } else if copy.val = 1 then { e with plotB := v }
      else { e with plotC := v })
  | .derived _ _ => s

/-- How three copies stand: they agree, two agree, or none do. -/
inductive Vote where
  | agree | corrected | double
  deriving DecidableEq, Repr

/-- The vote over three copies. -/
def voteOf {α : Type} [DecidableEq α] (a b c : α) : Vote :=
  if a = b ∧ b = c then .agree else if a = b ∨ a = c ∨ b = c then .corrected else .double

/-- The outcome of a vote of a clearing-die field: SEC_CFG has bits of its own and is windthrow when no two
copies agree (R405, R498). -/
def State.voted (s : State) (sec : Bool) (v : Vote) : State :=
  match v with
  | .agree => s
  | .corrected => if sec then (s.countUp CNT_SEC.VOTE_CORR 1).latch0 24 20 else s.latch0 24 18
  | .double => if sec then s.strike 24 21 [] 0 0 else s.latch0 24 19

/-- The vote over a field by its key: the copies become what it reads as (R497). -/
def State.voteField (s : State) (key : Nat) : State :=
  match rwtField key with
  | some f =>
    let v := voteOf (Tab.valD s.regs.field key f.reset) (Tab.valD s.regs.copyB key f.reset)
      (Tab.valD s.regs.copyC key f.reset)
    State.voted (s.wr f (s.rd f)) (decide (key / 32 = 0x400004)) v
  | none => s

/-- The vote over PLOT of a slab entry. -/
def State.voteSlab (s : State) (n : Nat) : State :=
  let e := s.slab n
  State.voted (s.modSlab n (fun e => { e with plot := e.owned, plotB := e.owned, plotC := e.owned })) false
    (voteOf e.plot e.plotB e.plotC)

/-- The vote over a mask or permission that a die holds; it is derived anew from the leases (R498). -/
def State.voteDerived (s : State) (u : Upset) : State :=
  match u with
  | .derived die noMajority =>
    if s.fenced die then s
    else s.latch0 die (if die.val < 16 then (if noMajority then 30 else 29) else (if noMajority then 34 else 33))
  | .field _ _ _ => s
  | .slabPlot _ _ _ => s

/-- RWT_SCRUB, R497, R498, R405: 4,096 periods after the last one, the copies as the upsets left them are voted,
every field whose copies are not all at reset and every slab entry that is not empty. -/
def execRwtScrub (upsets : List Upset) (s : State) : Host.Outcome State Fault Refusal :=
  if s.glob.dormant = true ∨ ¬ s.past s.regs.scrubAt 4096 = true then .next s
  else
    let s1 := upsets.foldl State.upset { s with regs := { s.regs with scrubAt := s.now } }
    let keys := ((s1.regs.field ++ s1.regs.copyB ++ s1.regs.copyC).map (fun e => e.1)).foldl
      (fun (l : List Nat) k => addAsc k l) []
    let s2 := keys.foldl State.voteField s1
    let s3 := (s2.slabs.map (fun e => e.1)).foldl State.voteSlab s2
    let s4 := upsets.foldl State.voteDerived s3
    .next s4.refreshFaults.refreshEnvelope

end Sys2Proof.Machine
end

