-- ==== Sys2Proof/Machine/Update.lean ====
section
/-! DEFINITION. Meanings of the update phase: the gate and UPDATE (R184 to R187, R239 to R263). -/

namespace Sys2Proof.Machine

/-! ### The gate (R184, R185, R242, R246, R247, R260, R261) -/

/-- Members of the step of plot `p` admitted before `order` that are no UPDATE and have not retired. -/
def State.workPending (s : State) (p order : Nat) : Bool :=
  s.rings.any (fun q => decide (s.ringPlot q.1 = p)
    && q.2.entries.any (fun e => e.member && decide (e.order < order ∧ e.opcode ≠ opUPDATE)))

/-- The checks of the gate, and the region records it keeps. -/
def State.gateRegions (s : State) (p : Nat) (e : Entry) : Except Fail (List Region) := do
  checks [e.reserved updateUsed, (20, nonFinite e.gscale),
    (8, decide (0 < e.u16 16) && s.badTable p (e.u16 8) (e.u16 14 + e.u16 16))]
  let rs ← if e.u16 16 = 0 then pure [] else s.readRegions p (e.u16 8) (e.u16 14) (e.u16 16)
  s.checkRegions p rs
  pure rs

/-- The gate passes: the records are kept, the rate is formed, the schedule count advances. -/
def State.openPhase (s : State) (p : Nat) (e : Entry) (rs : List Region) : State :=
  let rate := s.schedRate p
  let g : Gate := { rtab := e.u16 8, first := e.u16 14, count := e.u16 16, recs := rs, rate := rate,
                    begun := true }
  ((s.wr (STS_SCHED_RATE.RATE p) rate.toNat).countWrap (CNT_SCHED_STEP.COUNT p) 1).modStep p (fun k =>
    { k with gate := some g })

/-- What the gate decides once it may (R185): the update phase is skipped, fails, or begins. -/
def State.decideGate (s : State) (p r i : Nat) (e : Entry) : State :=
  let k := s.stepOf p
  let und := s.undrained k
  let own := k.memberFailed || und
  let bar := k.barrier && decide (k.answer = some true)
  let total := if k.barrier then k.totalNf else k.nonfinite
  if own || bar then
    (s.skipPhase p e 0x22 (6 :: named [(und, 5), (bar, 9)])).finish r i 0x22 0
  else if k.skipNf ∧ total ≠ 0 then (s.skipPhase p e 0x03 [6]).finish r i 0x03 0
  else match s.gateRegions p e with
    | .ok rs => s.openPhase p e rs
    | .error f => (s.skipPhase p e 0x22 [6]).failDesc r i p f

/-- UPDATE_GATE, R184: the first UPDATE member issues once every other member admitted before it has
retired and, with BARRIER, the step barrier has answered; this device's report goes out first. -/
def execUpdateGate (ring : Fin 1024) (idx : Nat) (s : State) : Host.Outcome State Fault Refusal :=
  match s.mayIssue ring idx opUPDATE with
  | none => .next s
  | some e =>
    let p := s.ringPlot ring
    let k := s.stepOf p
    if e.member = true ∧ k.gateAt = some e.order ∧ k.gate = none
        ∧ ((s.memberStop p e).isSome = true ∨ s.workPending p e.order = false) then
      match s.memberStop p e with
      | some st =>
        let s1 := if k.barrier ∧ ¬ k.report = true then s.sendReport p true else s
        .next ((s1.skipPhase p e st (if st = 0x22 then [6] else [])).finish ring idx st 0)
      | none =>
        let s1 := if k.barrier ∧ ¬ k.report = true then
            s.sendReport p (k.memberFailed || s.undrained k) else s
        if k.barrier ∧ (s1.stepOf p).answer = none then .next s1
        else .next (s1.decideGate p ring idx e)
    else .next s

/-! ### Commit of one region (R248 to R258) -/

/-- A piece of a region's work: elements of one 32-element block, or of one block of Rule P. -/
structure Piece where
  /-- Its row. -/
  row  : Nat
  /-- Its elements. -/
  idx  : List Nat
  /-- It is the last of its row. -/
  last : Bool
  deriving DecidableEq, Repr

/-- The 32-element blocks of the rows that a commit reads and writes: all, or those touched (R249, R522). -/
def regionPieces (r : Region) (rows : Option (List Nat)) : List Piece :=
  (rows.getD (List.range r.rows)).flatMap (fun row =>
    (List.range (ceilDiv r.cols 32)).map (fun b =>
      { row := row, idx := (List.range (min 32 (r.cols - 32 * b))).map (fun j => row * r.cols + 32 * b + j)
        last := decide (b + 1 = ceilDiv r.cols 32) }))

/-- Pieces committed one after the other; what was written before a failure stays (R251). -/
def runPieces {α : Type} (f : State → α → Except Fail State) : List α → State → State × Option Fail
  | [], s => (s, none)
  | q :: l, s => match f s q with
    | .ok t => runPieces f l t
    | .error x => (s, some x)

/-- The grove die whose stack holds element `i` of H_W (R250). -/
def State.regionDie (s : State) (p : Nat) (r : Region) (i : Nat) : Nat :=
  let t := s.tensorOf p (r.h 2)
  match s.pieces p (t.addr + 2 * i) 2 with
  | q :: _ => q.1 / stackBytes
  | [] => 0

/-- The vector engine of plot `p` that works on a piece: one of the grove die whose stack holds its part of H_W, if the
plot has one there (R250). -/
def State.pieceVe (s : State) (p : Nat) (r : Region) (idx : List Nat) : Nat :=
  let gd := s.regionDie p r (idx.headD 0)
  ((s.vesOf p).find? (fun v => decide (v / 4 = gd))).getD (s.firstVe p)

/-- The vector engines on which a region's work is placed: those of the dies whose stacks hold H_W (R250). -/
def State.regionVes (s : State) (p : Nat) (r : Region) : List Nat :=
  let t := s.tensorOf p (r.h 2)
  let l := s.pieces p t.addr t.bytes
  (s.vesOf p).filter (fun v => l.any (fun q => decide (q.1 / stackBytes = v / 4)))

/-- Some elements of a state tensor written, with the draws of vector engine `v` where ROUND selects them (R72,
R249). -/
def State.putState (s : State) (p ring : Nat) (e : Entry) (v h : Nat) (idx : List Nat) (l : List Word) :
    Except Fail State := do
  let s1 := if e.stochastic then s.drawVe v (idx.length + 32) else s
  let (s2, _) ← s1.store p ring h { draws := if e.stochastic then some (s.gens v) else none, elems := idx }
    (fun i => (idx.idxOf? i).bind (fun k => (l[k]?).map y32Val))
  pure s2

/-- The elements of a piece as the state before the commit holds them (R249, stage 1), where the rule keeps that
tensor; `off` is the offset of the first element. -/
def State.pieceOf (s : State) (p : Nat) (on : Bool) (h off : Nat) (idx : List Nat) : Except Fail (List Word) :=
  if on then s.elems p (s.tensorOf p h) (idx.map (· + off)) else pure []

/-- What a piece counts: non-finite values read and produced, unused codes read (R62, R140, R147). -/
def State.countPiece (s s0 : State) (p : Nat) (e : Entry) (r : Region) (idx : List Nat) (reads : List (List Word))
    (made : Nat) : State :=
  let narrow (on : Bool) (h : Nat) : Nat := if on then s0.unusedCodes p (s0.tensorOf p h) idx else 0
  (s.countNf p e.member ((reads.map countNonFinite).foldl (· + ·) 0 + made)).countWrap (CNT_STORED_SAT.COUNT p)
    (narrow r.hasM (r.h 6) + narrow (decide (r.rule = 2)) (r.h 8))

/-- One element under Rule M or A, after the missed steps of its row: (w, m, u). -/
def elemMA (r : Region) (eta bias1 root2 : Word) (gap : Nat) (w m u g : Word) : Lane (Word × Word × Word) := do
  let f := missed r eta gap
  let scale (c x : Word) : Lane Word := if gap ≤ 1 then pure x else lane2 mulY32 c x
  let w0 ← scale f.2.2 w
  let m0 ← scale f.1 m
  if r.rule = 1 then
    let o ← ruleM r eta w0 m0 g
    pure (o.1, o.2, 0)
  else
    let u0 ← scale f.2.1 u
    ruleA r eta bias1 root2 w0 m0 u0 g

/-- A block under Rule M or A is read, changed and written (R249, R253, R258); the last of a touched row sets the
row's count. -/
def State.pieceMA (s0 : State) (p ring : Nat) (e : Entry) (r : Region) (eta : Word) (counts : List Word) (s : State)
    (q : Piece) : Except Fail State := do
  let w ← s0.pieceOf p true (r.h 2) 0 q.idx
  let g0 ← s0.pieceOf p true (r.h 4) r.goff q.idx
  let m ← s0.pieceOf p r.hasM (r.h 6) 0 q.idx
  let u ← s0.pieceOf p (decide (r.rule = 2)) (r.h 8) 0 q.idx
  let gap := if r.lazy then gapOf r.n (counts.getD q.row 0).toNat else 1
  let bias1 := fnBias r.beta1 r.n
  let root2 := fnSqrt (fnBias r.beta2 r.n)
  let (l, made) := (do
    let g ← laneMade (mapMade (mulY32 e.gscale) g0)
    (List.range q.idx.length).mapM (fun k =>
      elemMA r eta bias1 root2 gap (w.getD k 0) (m.getD k 0) (u.getD k 0) (g.getD k 0)) : Lane _).run 0
  let v := s0.pieceVe p r q.idx
  let s1 ← s.putState p ring e v (r.h 2) q.idx (l.map (fun o => o.1))
  let s2 ← if r.hasM then s1.putState p ring e v (r.h 6) q.idx (l.map (fun o => o.2.1)) else pure s1
  let s3 ← if r.rule = 2 then s2.putState p ring e v (r.h 8) q.idx (l.map (fun o => o.2.2)) else pure s2
  let s4 ← if r.lazy ∧ q.last = true then
      s3.storeWords p ring (s3.tensorOf p (r.h 12)) [(q.row, BitVec.ofNat 32 r.n)]
    else pure s3
  pure (s4.countPiece s0 p e r q.idx [w, g0, m, u] made)

/-- A block of the third pass of Rule F (R254). -/
def State.pieceF (s0 : State) (p ring : Nat) (e : Entry) (r : Region) (eta : Word) (sc : List Word) (s : State)
    (q : Piece) : Except Fail State := do
  let w ← s0.pieceOf p true (r.h 2) 0 q.idx
  let m ← s0.pieceOf p r.hasM (r.h 6) 0 q.idx
  let (l, made) := ((List.range q.idx.length).mapM (fun k => do
    let x := sc.getD (q.idx.getD k 0) 0
    let m' ← if r.hasM then blend r.beta1 (m.getD k 0) x else pure x
    let w' ← stepDown eta r.decay (w.getD k 0) m'
    pure (w', m')) : Lane _).run 0
  let v := s0.pieceVe p r q.idx
  let s1 ← s.putState p ring e v (r.h 2) q.idx (l.map (fun o => o.1))
  let s2 ← if r.hasM then s1.putState p ring e v (r.h 6) q.idx (l.map (fun o => o.2)) else pure s1
  pure (s2.countPiece s0 p e r q.idx [w, m] made)

/-- Rule F over a region: the first two passes form the statistics, which are stored, and the scaled gradient; the
third writes block by block (R254). -/
def State.commitF (s s0 : State) (p ring : Nat) (e : Entry) (r : Region) (eta : Word) : State × Option Fail :=
  let h := if r.factored then r.h 8 else r.h 10
  let n := if r.factored then r.rows + r.cols else r.rows * r.cols
  let first : Except Fail (List Word × State) := do
    let g0 ← s0.pieceOf p true (r.h 4) r.goff (List.range (r.rows * r.cols))
    let st ← s0.loadFirst p (s0.tensorOf p h) n
    let ves := (s0.regionVes p r).length
    let ((st', sc), made) := (do
      let g ← laneMade (mapMade (mulY32 e.gscale) g0)
      let gm := rowsOf r.rows r.cols g
      let o ← ruleFStats r s.draws ves st gm
      let sc ← ruleFScale r (s.draws + rowShares * r.rows + 128) ves gm o.2
      pure (o.1, sc.flatten) : Lane _).run 0
    let s1 ← (s.drawMore (ruleFDraws r)).putWords p ring h st'
    pure (sc, s1.countNf p e.member (countNonFinite g0 + countNonFinite st + made))
  match first with
  | .error f => (s, some f)
  | .ok (sc, s1) => runPieces (fun s q => s0.pieceF p ring e r eta sc s q) (regionPieces r none) s1

/-- Rows of a square matrix out of stored values. -/
def sqOf (n : Nat) (l : List Word) : Mat := rowsOf n n l

/-- One block of the grid of Rule P with the offsets of its parts in H_V and H_AUX (R521). -/
structure PPlace where
  /-- First row. -/
  row  : Nat
  /-- Rows. -/
  rr   : Nat
  /-- First column. -/
  col  : Nat
  /-- Columns. -/
  cc   : Nat
  /-- First element in H_V. -/
  stat : Nat
  /-- First element in H_AUX. -/
  aux  : Nat
  deriving DecidableEq, Repr

/-- The blocks of a Rule P region with their places. -/
def Region.places (r : Region) : List PPlace :=
  (r.grid.foldl (fun (acc : List PPlace × Nat × Nat) q =>
    let n := q.2.1 * q.2.1 + q.2.2.2 * q.2.2.2
    (acc.1 ++ [{ row := q.1, rr := q.2.1, col := q.2.2.1, cc := q.2.2.2, stat := acc.2.1, aux := acc.2.2 }],
     acc.2.1 + n, acc.2.2 + 16 + n)) ([], 0, 0)).1

/-- The elements of a block of the grid, row by row. -/
def PPlace.idx (q : PPlace) (cols : Nat) : List Nat :=
  (List.range q.rr).flatMap (fun i => (List.range q.cc).map (fun j => (q.row + i) * cols + q.col + j))

/-- Words of a Y32 tensor from element `first` on. -/
def State.wordsAt (s : State) (p h first n : Nat) : Except Fail (List Word) := do
  let raw ← s.readPlot p ((s.tensorOf p h).addr + 4 * first) (4 * n)
  pure ((List.range n).map (fun i => BitVec.ofNat 32 (leNat ((raw.drop (4 * i)).take 4))))

/-- A block under Rule P (R255 to R257). -/
def State.pieceP (s0 : State) (p ring : Nat) (e : Entry) (r : Region) (eta : Word) (s : State) (q : PPlace) :
    Except Fail State := do
  let idx := q.idx r.cols
  let a := q.rr * q.rr
  let b := q.cc * q.cc
  let w ← s0.pieceOf p true (r.h 2) 0 idx
  let g0 ← s0.pieceOf p true (r.h 4) r.goff idx
  let m ← s0.pieceOf p r.hasM (r.h 6) 0 idx
  let st ← s0.wordsAt p (r.h 8) q.stat (a + b)
  let ax ← s0.wordsAt p (r.h 10) q.aux (16 + a + b)
  let pm := BitVec.ofNat 32 (s.rd (CFG_PIVOT_MIN.PIVOT_MIN p))
  let old : PBlock := { l := sqOf q.rr (st.take a), r := sqOf q.cc (st.drop a), head := (ax.headD 0).toNat % 4,
                        lRoot := sqOf q.rr ((ax.drop 16).take a), rRoot := sqOf q.cc (ax.drop (16 + a)) }
  let ((new, pv, nc, w', m'), made) := (do
    let g ← laneMade (mapMade (mulY32 e.gscale) g0)
    let gm := rowsOf q.rr q.cc g
    let (new, pv, nc) ← old.advance r pm gm q.cc
    let m' ← if r.hasM then (m.zip g).mapM (fun z => blend r.beta1 z.1 z.2) else pure g
    let d ← new.delta r.eps (rowsOf q.rr q.cc m') q.cc
    let w' ← (w.zip d.flatten).mapM (fun z => stepDown eta r.decay z.1 z.2)
    pure (new, pv, nc, w', m') : Lane _).run 0
  let v := s0.pieceVe p r idx
  let s1 ← s.putState p ring e v (r.h 2) idx w'
  let s2 ← if r.hasM then s1.putState p ring e v (r.h 6) idx m' else pure s1
  let put (s : State) (h first : Nat) (l : List Word) : Except Fail State :=
    s.storeWords p ring (s.tensorOf p h) ((List.range l.length).map (fun k => (first + k, l.getD k 0)))
  let s3 ← put s2 (r.h 8) q.stat (new.l.flatten ++ new.r.flatten)
  let s4 ← put s3 (r.h 10) q.aux (BitVec.ofNat 32 new.head :: List.replicate 15 0
    ++ new.lRoot.flatten ++ new.rRoot.flatten)
  let s5 := (s4.countWrap (CNT_PRECOND_FALLBACK.PIVOT p) pv).countWrap (CNT_PRECOND_FALLBACK.NOCONV p) nc
  pure (s5.countPiece s0 p e r idx [w, g0, m, st, ax.drop 16] made)

/-- Row-steps of Table 6.1 for 512 elements of a rule. -/
def ruleCost (rule : Nat) : Nat := if rule = 1 then 8 else if rule = 2 then 22 else 30

/-- Consecutive numbers as runs: first and length. -/
def runsOf : List Nat → List (Nat × Nat)
  | [] => []
  | a :: l => match runsOf l with
    | [] => [(a, 1)]
    | q :: rest => if a + 1 = q.1 then (a, q.2 + 1) :: rest else (a, 1) :: q :: rest

/-- Byte ranges (plot-relative) that hold a run of elements of a tensor: whole bursts of a narrow one, both planes of
Y16c. -/
def Tensor.runRanges (t : Tensor) (q : Nat × Nat) : List (Nat × Nat) :=
  if isNarrow t.fmt then
    let burst (i : Nat) : Nat := (i / t.cols * t.rowBlocks + i % t.cols / 32) / blocksPerBurst t.fmt
    let a := burst q.1
    [(t.addr + 256 * a, 256 * (burst (q.1 + q.2 - 1) + 1 - a))]
  else
    let k := elemBytes t.fmt
    (t.addr + k * q.1, k * q.2) :: (if t.fmt = 0xD then [(t.addr + t.residueOff + q.1, q.2)] else [])

/-- The tensors of a region that hold one value for each element. -/
def Region.perElement (r : Region) : List Nat :=
  named [(true, r.h 2), (r.hasM, r.h 6), (decide (r.rule = 2), r.h 8),
    (decide (r.rule = 3) && !r.factored, r.h 10)]

/-- Its further state, read and written whole. -/
def Region.stats (r : Region) : List Nat :=
  named [(decide (r.rule = 4) || (decide (r.rule = 3) && r.factored), r.h 8), (decide (r.rule = 4), r.h 10)]

/-- What the part of a commit on one die moves into and out of tile memory, and its engine's work. -/
def State.dieShare (s : State) (p ring gd : Nat) (r : Region) (idx : List Nat) (first : Bool) : State :=
  let runs := runsOf idx
  let ranges (h off : Nat) : List (Nat × Nat) :=
    (runs.flatMap (fun q => (s.tensorOf p h).runRanges (q.1 + off, q.2))).flatMap (fun q => s.pieces p q.1 q.2)
  let own := r.perElement.flatMap (fun h => ranges h 0)
  let st := if first then r.stats.flatMap (fun h => s.pieces p (s.tensorOf p h).addr (s.tensorOf p h).bytes) else []
  let s1 := (s.staged p ring gd true (own ++ ranges (r.h 4) r.goff ++ st)).staged p ring gd false (own ++ st)
  s1.veWork p ring (s.pieceVe p r idx) (ruleCost r.rule * idx.length) (ruleCost r.rule * ceilDiv idx.length 512)

/-- A commit's work, die by die: a region that spans stacks is divided at block boundaries (R250). -/
def State.regionWork (s : State) (p ring : Nat) (r : Region) (l : List Piece) : State :=
  let dies := l.foldl (fun a q => addAsc (s.regionDie p r (q.idx.headD 0)) a) []
  (dies.foldl (fun (acc : State × Bool) gd =>
    (acc.1.dieShare p ring gd r ((l.filter (fun q => decide (s.regionDie p r (q.idx.headD 0) = gd))).flatMap
      (fun q => q.idx)) acc.2, false)) (s, true)).1

/-- Every block of a region is written: STEP_COUNT advances, the region counts, and a step knows it (R249, R250). -/
def State.endRegion (s : State) (p ring : Nat) (e : Entry) (tab n : Nat) (r : Region) (l : List Piece) :
    State × Option Fail :=
  match s.storeWords p ring (s.tensorOf p tab) [(16 * n + 14, BitVec.ofNat 32 r.n)] with
  | .error f => (s, some f)
  | .ok s1 =>
    (((s1.countWrap (CNT_UPDATE_REGIONS.COUNT p) 1).regionWork p ring r l).modStep p
      (fun k => if e.member then { k with gate := k.gate.map (fun a =>
        { a with committed := addAsc n a.committed }) } else k), none)

/-- The narrow state tensors of a region. -/
def State.narrowState (s : State) (p : Nat) (r : Region) : List Nat :=
  (named [(r.hasM, r.h 6), (decide (r.rule = 2), r.h 8)]).filter (fun h => isNarrow (s.tensorOf p h).fmt)

/-- One region commits: its record is number `n` of the table under handle `tab`.  The commit of a region that is not
LAZY is a full write of its narrow state (R240); what was written before poisoned data was met stays written (R251). -/
def State.commitRegion (s : State) (p ring : Nat) (e : Entry) (tab n : Nat) (r : Region) (rate : Word) :
    State × Option Fail :=
  let lists : Except Fail (Option (List Nat) × List Word) := do
    if r.lazy then
      let l ← s.touched p r
      let c ← s.loadWords p (s.tensorOf p (r.h 12))
      pure (some l, c)
    else pure (none, [])
  match lists with
  | .error f => (s, some f)
  | .ok (rows, counts) =>
    let eta := mulY32 rate r.lrMult
    let l := regionPieces r rows
    let s1 := if r.lazy then s else (s.narrowState p r).foldl (fun s h => s.rebase p h) s
    let o := if r.rule ≤ 2 then runPieces (fun t q => s.pieceMA p ring e r eta counts t q) l s1
      else if r.rule = 3 then s1.commitF s p ring e r eta
      else runPieces (fun t q => s.pieceP p ring e r eta t q) r.places s1
    let t := (s.narrowState p r).foldl (fun s h => s.markRecord p e.member h) o.1
    match o.2 with
    | some f => (t, some f)
    | none => t.endRegion p ring e tab n r l

/-- Regions commit in ascending order; a failure keeps what was written before it (R249, R251).  The
number of frozen regions met is counted (R248). -/
def State.commitAll (s : State) (p ring : Nat) (e : Entry) (tab : Nat) (rate : Word) :
    Nat → List Region → State × Option Fail × Nat
  | _, [] => (s, none, 0)
  | n, r :: l =>
    if r.frozen then
      let o := State.commitAll (s.countWrap (CNT_FROZEN_SKIP.COUNT p) 1) p ring e tab rate (n + 1) l
      (o.1, o.2.1, o.2.2 + 1)
    else match s.commitRegion p ring e tab n r rate with
      | (t, none) => State.commitAll t p ring e tab rate (n + 1) l
      | (t, some f) => (t, some f, 0)

/-! ### UPDATE -/

/-- UPDATE, R241 to R251: the regions that it names, under the gate of its step, or by itself, with the records read at
the head of its ring and the schedule engine's present rate. -/
def update (s : State) (p : Nat) (e : Entry) (r i : Nat) : Except Fail State := do
  let tab := e.u16 8
  let first := e.u16 10
  let n := e.u16 12
  let g := if e.member then (s.stepOf p).gate else none
  let idle := decide ((s.stepOf p).gateAt = some e.order) && g.any (fun a => decide (a.count = 0))
  let range : List (Nat × Bool) := if idle then [] else match g with
    | some a => [(8, decide (tab ≠ a.rtab)),
        (10, decide (n ≠ 0 ∧ ¬ (a.first ≤ first ∧ first + n ≤ a.first + a.count))
          || a.committed.any (fun k => decide (first ≤ k ∧ k < first + n)))]
    | none => []
  checkAll (decide (n = 0) || idle || g.isSome) ([e.reserved updateUsed, (20, nonFinite e.gscale)] ++ range)
    [(8, s.badTable p tab (first + n))]
  if n = 0 ∨ idle = true then pure (s.finish r i 0x01 0)
  else
    let rs ← match g with
      | some a => pure ((a.recs.drop (first - a.first)).take n)
      | none => pure (e.regions.getD [])
    if rs.all Region.frozen then pure () else s.checkVe p
    let rate := match g with
      | some a => a.rate
      | none => s.schedRate p
    let o := s.commitAll p r e tab rate first rs
    let s1 := if e.member ∧ 0 < o.2.2 then o.1.flagStep p [7] else o.1
    match o.2.1 with
    | some f => pure (s1.failDesc r i p f)
    | none => pure (s1.finish r i (if 0 < o.2.2 then 0x02 else 0x00) o.2.2)

/-- UPDATE: a member waits for its step's gate, and shares its outcome where the phase is skipped. -/
def execUpdate (ring : Fin 1024) (idx : Nat) (s : State) : Host.Outcome State Fault Refusal :=
  match s.mayIssue ring idx opUPDATE with
  | none => .next s
  | some e =>
    let p := s.ringPlot ring
    let k := s.stepOf p
    if e.member = true ∧ (s.memberStop p e).isNone = true then
      match k.gate with
      | none => .next s
      | some g =>
        match g.skip with
        | some st => .next (s.finish ring idx st.toNat 0)
        | none => s.issue ring idx opUPDATE (fun s p e => update s p e ring idx)
    else if e.member = true ∧ k.gateAt = some e.order then .next s
    else s.issue ring idx opUPDATE (fun s p e => update s p e ring idx)

end Sys2Proof.Machine
end

