-- ==== Sys2Proof/Machine/Dispatch.lean ====
section
/-! DEFINITION. The one place where a command meets its meaning. -/

namespace Sys2Proof.Machine

/-- The meaning of each command, one arm for each constructor. -/
def exec (i : Instr) (s : State) : Host.Outcome State Fault Refusal :=
  match i with
  | .channelParityError ch group lane first => Sys2Proof.Machine.execChannelParityError ch group lane first s
  | .laneRetest ch group failed => Sys2Proof.Machine.execLaneRetest ch group failed s
  | .hbmReadReturn stack unit row ecc => Sys2Proof.Machine.execHbmReadReturn stack unit row ecc s
  | .hbmScrubRead stack row ecc => Sys2Proof.Machine.execHbmScrubRead stack row ecc s
  | .rowRepair stack row pages spare => Sys2Proof.Machine.execRowRepair stack row pages spare s
  | .rowRepairComplete stack => Sys2Proof.Machine.execRowRepairComplete stack s
  | .tileScrub gd bank upper ecc => Sys2Proof.Machine.execTileScrub gd bank upper ecc s
  | .flashRecordWrite good sectorLeft => Sys2Proof.Machine.execFlashRecordWrite good sectorLeft s
  | .lifeCounterAppend => Sys2Proof.Machine.execLifeCounterAppend s
  | .rateWindow gd count => Sys2Proof.Machine.execRateWindow gd count s
  | .watchdogExpiry what since => Sys2Proof.Machine.execWatchdogExpiry what since s
  | .soscFault die => Sys2Proof.Machine.execSoscFault die s
  | .frequencyChange target => Sys2Proof.Machine.execFrequencyChange target s
  | .frequencyChangeComplete target => Sys2Proof.Machine.execFrequencyChangeComplete target s
  | .lossOfLock loop => Sys2Proof.Machine.execLossOfLock loop s
  | .relock loop => Sys2Proof.Machine.execRelock loop s
  | .referenceEdgeTimeout ref lastEdge => Sys2Proof.Machine.execReferenceEdgeTimeout ref lastEdge s
  | .referenceEdgesReturn ref => Sys2Proof.Machine.execReferenceEdgesReturn ref s
  | .dividerApply which => Sys2Proof.Machine.execDividerApply which s
  | .hbmPinRateWrite path v => Sys2Proof.Machine.execHbmPinRateWrite path v s
  | .spreadSpectrumWrite path v => Sys2Proof.Machine.execSpreadSpectrumWrite path v s
  | .matmul ring idx => Sys2Proof.Machine.execMatmul ring idx s
  | .tileAssign array => Sys2Proof.Machine.execTileAssign array s
  | .arrayPassIssue array tile => Sys2Proof.Machine.execArrayPassIssue array tile s
  | .arrayPassComplete array => Sys2Proof.Machine.execArrayPassComplete array s
  | .reduce ring idx => Sys2Proof.Machine.execReduce ring idx s
  | .partialArrive ring idx n => Sys2Proof.Machine.execPartialArrive ring idx n s
  | .repeatRequest plot => Sys2Proof.Machine.execRepeatRequest plot s
  | .repeatAnswer array => Sys2Proof.Machine.execRepeatAnswer array s
  | .elementwise ring idx => Sys2Proof.Machine.execElementwise ring idx s
  | .normFwd ring idx => Sys2Proof.Machine.execNormFwd ring idx s
  | .normBwd ring idx => Sys2Proof.Machine.execNormBwd ring idx s
  | .softmaxFwd ring idx => Sys2Proof.Machine.execSoftmaxFwd ring idx s
  | .softmaxBwd ring idx => Sys2Proof.Machine.execSoftmaxBwd ring idx s
  | .rngReseed gd ve => Sys2Proof.Machine.execRngReseed gd ve s
  | .pathSwitch port => Sys2Proof.Machine.execPathSwitch port s
  | .nop ring idx => Sys2Proof.Machine.execNop ring idx s
  | .stepOpen ring idx => Sys2Proof.Machine.execStepOpen ring idx s
  | .descriptorReachHead ring idx => Sys2Proof.Machine.execDescriptorReachHead ring idx s
  | .stepClose ring idx => Sys2Proof.Machine.execStepClose ring idx s
  | .stepTimeout plot => Sys2Proof.Machine.execStepTimeout plot s
  | .updateGate ring idx => Sys2Proof.Machine.execUpdateGate ring idx s
  | .update ring idx => Sys2Proof.Machine.execUpdate ring idx s
  | .stepBarrierAnswer lease total failed => Sys2Proof.Machine.execStepBarrierAnswer lease total failed s
  | .barrierReport node lease total failed => Sys2Proof.Machine.execBarrierReport node lease total failed s
  | .stashPush ring idx => Sys2Proof.Machine.execStashPush ring idx s
  | .stashPop ring idx => Sys2Proof.Machine.execStashPop ring idx s
  | .coreCall ring idx core tcm => Sys2Proof.Machine.execCoreCall ring idx core tcm s
  | .load ring idx digestOk => Sys2Proof.Machine.execLoad ring idx digestOk s
  | .unload ring idx => Sys2Proof.Machine.execUnload ring idx s
  | .routineEnd core how value => Sys2Proof.Machine.execRoutineEnd core how value s
  | .streamStart core glade target start count stride tcm write fmt data => Sys2Proof.Machine.execStreamStart core glade target start count stride tcm write fmt data s
  | .exchange ring idx => Sys2Proof.Machine.execExchange ring idx s
  | .exchangeRecordArrive port sched src epoch head block header payload => Sys2Proof.Machine.execExchangeRecordArrive port sched src epoch head block header payload s
  | .exchangeListArrive port sched src epoch head chunk header entries => Sys2Proof.Machine.execExchangeListArrive port sched src epoch head chunk header entries s
  | .exchangeGatherRecord port sched src epoch head final => Sys2Proof.Machine.execExchangeGatherRecord port sched src epoch head final s
  | .epochComplete sched => Sys2Proof.Machine.execEpochComplete sched s
  | .epochAbort sched epoch sealFail => Sys2Proof.Machine.execEpochAbort sched epoch sealFail s
  | .epochReplay sched => Sys2Proof.Machine.execEpochReplay sched s
  | .dispatch ring idx => Sys2Proof.Machine.execDispatch ring idx s
  | .dispatchRowArrive port sched src epoch row rank token values => Sys2Proof.Machine.execDispatchRowArrive port sched src epoch row rank token values s
  | .dispatchStreamClose port sched src epoch => Sys2Proof.Machine.execDispatchStreamClose port sched src epoch s
  | .combine ring idx => Sys2Proof.Machine.execCombine ring idx s
  | .combineRowArrive port sched src epoch rank token values => Sys2Proof.Machine.execCombineRowArrive port sched src epoch rank token values s
  | .modeChange path port v => Sys2Proof.Machine.execModeChange path port v s
  | .portRateUpgrade port => Sys2Proof.Machine.execPortRateUpgrade port s
  | .portTrained port node first => Sys2Proof.Machine.execPortTrained port node first s
  | .flitReceive port bytes word tagOk => Sys2Proof.Machine.execFlitReceive port bytes word tagOk s
  | .nakReceive port node seq errs => Sys2Proof.Machine.execNakReceive port node seq errs s
  | .linkRetryTimeout port node => Sys2Proof.Machine.execLinkRetryTimeout port node s
  | .nakResendTimeout port node => Sys2Proof.Machine.execNakResendTimeout port node s
  | .serWindow port => Sys2Proof.Machine.execSerWindow port s
  | .laneRetire port lanes => Sys2Proof.Machine.execLaneRetire port lanes s
  | .requal path port v => Sys2Proof.Machine.execRequal path port v s
  | .requalStart port remote => Sys2Proof.Machine.execRequalStart port remote s
  | .requalComplete port errs syms uncorr => Sys2Proof.Machine.execRequalComplete port errs syms uncorr s
  | .lpiIdleTimeout port => Sys2Proof.Machine.execLpiIdleTimeout port s
  | .lpiAgreement port wakeNs => Sys2Proof.Machine.execLpiAgreement port wakeNs s
  | .lpiWake port => Sys2Proof.Machine.execLpiWake port s
  | .admitHello port node partnerPort assigned modes nonce key => Sys2Proof.Machine.execAdmitHello port node partnerPort assigned modes nonce key s
  | .admitCert port node chain chainOk devId => Sys2Proof.Machine.execAdmitCert port node chain chainOk devId s
  | .admitProof port node signature sigOk => Sys2Proof.Machine.execAdmitProof port node signature sigOk s
  | .admitFinished port node tagOk => Sys2Proof.Machine.execAdmitFinished port node tagOk s
  | .admissionTimeout port node => Sys2Proof.Machine.execAdmissionTimeout port node s
  | .admissionRetry port node => Sys2Proof.Machine.execAdmissionRetry port node s
  | .sealReceive port src tag sealOk => Sys2Proof.Machine.execSealReceive port src tag sealOk s
  | .putReceive port src tag addr len flip data => Sys2Proof.Machine.execPutReceive port src tag addr len flip data s
  | .readReq port src tag addr len => Sys2Proof.Machine.execReadReq port src tag addr len s
  | .readData port src tag data => Sys2Proof.Machine.execReadData port src tag data s
  | .completion port src tag status => Sys2Proof.Machine.execCompletion port src tag status s
  | .signalLost port => Sys2Proof.Machine.execSignalLost port s
  | .signalProbe port found => Sys2Proof.Machine.execSignalProbe port found s
  | .ethernetFrameReceive port node fcsOk unicast bytes tagOk => Sys2Proof.Machine.execEthernetFrameReceive port node fcsOk unicast bytes tagOk s
  | .tagGrant => Sys2Proof.Machine.execTagGrant s
  | .mgtFrameReceive aligned untagged tagOk src frame => Sys2Proof.Machine.execMgtFrameReceive aligned untagged tagOk src frame s
  | .collision late => Sys2Proof.Machine.execCollision late s
  | .backoffExpiry => Sys2Proof.Machine.execBackoffExpiry s
  | .plcaBeacon => Sys2Proof.Machine.execPlcaBeacon s
  | .plcaStatusChange => Sys2Proof.Machine.execPlcaStatusChange s
  | .joinHello => Sys2Proof.Machine.execJoinHello s
  | .joinReq devId partners => Sys2Proof.Machine.execJoinReq devId partners s
  | .joinForward devId copse partners => Sys2Proof.Machine.execJoinForward devId copse partners s
  | .joinAnswer devId status node spare manager copse key => Sys2Proof.Machine.execJoinAnswer devId status node spare manager copse key s
  | .tableWrite epoch table role lead substituted hb key mgrEpoch mgrNode => Sys2Proof.Machine.execTableWrite epoch table role lead substituted hb key mgrEpoch mgrNode s
  | .leaveRequest node => Sys2Proof.Machine.execLeaveRequest node s
  | .heartbeatSend => Sys2Proof.Machine.execHeartbeatSend s
  | .heartbeat node summary => Sys2Proof.Machine.execHeartbeat node summary s
  | .heartbeatWindow => Sys2Proof.Machine.execHeartbeatWindow s
  | .fenceFrame node => Sys2Proof.Machine.execFenceFrame node s
  | .managerHeartbeat => Sys2Proof.Machine.execManagerHeartbeat s
  | .standbyWindow => Sys2Proof.Machine.execStandbyWindow s
  | .leadPoll node silent => Sys2Proof.Machine.execLeadPoll node silent s
  | .pollTimeout => Sys2Proof.Machine.execPollTimeout s
  | .managerAnnounce node mgrEpoch devId => Sys2Proof.Machine.execManagerAnnounce node mgrEpoch devId s
  | .requalAuth target port node => Sys2Proof.Machine.execRequalAuth target port node s
  | .deviceDown node => Sys2Proof.Machine.execDeviceDown node s
  | .standDown => Sys2Proof.Machine.execStandDown s
  | .spareSubstitution => Sys2Proof.Machine.execSpareSubstitution s
  | .pcieLinkDown => Sys2Proof.Machine.execPcieLinkDown s
  | .hotReset => Sys2Proof.Machine.execHotReset s
  | .vfFlr vf => Sys2Proof.Machine.execVfFlr vf s
  | .pfFlr => Sys2Proof.Machine.execPfFlr s
  | .d3hotEntry func => Sys2Proof.Machine.execD3hotEntry func s
  | .bar2Access addr write len tlp => Sys2Proof.Machine.execBar2Access addr write len tlp s
  | .doorbell func ring value tlp => Sys2Proof.Machine.execDoorbell func ring value tlp s
  | .msixUnmask func vector => Sys2Proof.Machine.execMsixUnmask func vector s
  | .dmaCompletion tag data tlp => Sys2Proof.Machine.execDmaCompletion tag data tlp s
  | .completionTimeout tag => Sys2Proof.Machine.execCompletionTimeout tag s
  | .pcieFatalError down => Sys2Proof.Machine.execPcieFatalError down s
  | .doeDiscovery => Sys2Proof.Machine.execDoeDiscovery s
  | .doeAbort => Sys2Proof.Machine.execDoeAbort s
  | .getVersion => Sys2Proof.Machine.execGetVersion s
  | .getCapabilities => Sys2Proof.Machine.execGetCapabilities s
  | .negotiateAlgorithms => Sys2Proof.Machine.execNegotiateAlgorithms s
  | .getDigests => Sys2Proof.Machine.execGetDigests s
  | .getCertificate slot start len => Sys2Proof.Machine.execGetCertificate slot start len s
  | .challenge slot => Sys2Proof.Machine.execChallenge slot s
  | .getMeasurements => Sys2Proof.Machine.execGetMeasurements s
  | .ringEnable path ring v => Sys2Proof.Machine.execRingEnable path ring v s
  | .ringDisable path ring v => Sys2Proof.Machine.execRingDisable path ring v s
  | .descriptorFetch ring raw how => Sys2Proof.Machine.execDescriptorFetch ring raw how s
  | .descriptorRetire ring => Sys2Proof.Machine.execDescriptorRetire ring s
  | .descriptorTimeout ring idx => Sys2Proof.Machine.execDescriptorTimeout ring idx s
  | .copy ring idx => Sys2Proof.Machine.execCopy ring idx s
  | .tensorRecordCopy ring idx => Sys2Proof.Machine.execTensorRecordCopy ring idx s
  | .fence ring idx => Sys2Proof.Machine.execFence ring idx s
  | .flagSet ring idx => Sys2Proof.Machine.execFlagSet ring idx s
  | .flagWait ring idx => Sys2Proof.Machine.execFlagWait ring idx s
  | .flagWaitMatch ring idx => Sys2Proof.Machine.execFlagWaitMatch ring idx s
  | .slabEntryWrite path entry value whole => Sys2Proof.Machine.execSlabEntryWrite path entry value whole s
  | .bind plot src => Sys2Proof.Machine.execBind plot src s
  | .bindComplete plot => Sys2Proof.Machine.execBindComplete plot s
  | .release plot src => Sys2Proof.Machine.execRelease plot src s
  | .reset plot src => Sys2Proof.Machine.execReset plot src s
  | .resetClear plot src => Sys2Proof.Machine.execResetClear plot src s
  | .plotDrained plot => Sys2Proof.Machine.execPlotDrained plot s
  | .plotDrainTimeout plot stuck running => Sys2Proof.Machine.execPlotDrainTimeout plot stuck running s
  | .plotResetComplete plot => Sys2Proof.Machine.execPlotResetComplete plot s
  | .plotLeaseWrite src addr v => Sys2Proof.Machine.execPlotLeaseWrite src addr v s
  | .powerOn env => Sys2Proof.Machine.execPowerOn env s
  | .extensionLoad good => Sys2Proof.Machine.execExtensionLoad good s
  | .stackTrained stack good => Sys2Proof.Machine.execStackTrained stack good s
  | .groveDieJoin gd badLanes tileOk => Sys2Proof.Machine.execGroveDieJoin gd badLanes tileOk s
  | .bringupFull => Sys2Proof.Machine.execBringupFull s
  | .perstNAssert env => Sys2Proof.Machine.execPerstNAssert env s
  | .perstNRelease mgrSel env => Sys2Proof.Machine.execPerstNRelease mgrSel env s
  | .scanInstruction => Sys2Proof.Machine.execScanInstruction s
  | .stage path image => Sys2Proof.Machine.execStage path image s
  | .flashSectorProgram good granted => Sys2Proof.Machine.execFlashSectorProgram good granted s
  | .confirm path => Sys2Proof.Machine.execConfirm path s
  | .selfTestPass => Sys2Proof.Machine.execSelfTestPass s
  | .confirmTimeout => Sys2Proof.Machine.execConfirmTimeout s
  | .revert path => Sys2Proof.Machine.execRevert path s
  | .commitSvn path => Sys2Proof.Machine.execCommitSvn path s
  | .recoveryChunk path image => Sys2Proof.Machine.execRecoveryChunk path image s
  | .abort path => Sys2Proof.Machine.execAbort path s
  | .nonceReq path => Sys2Proof.Machine.execNonceReq path s
  | .getCsr len => Sys2Proof.Machine.execGetCsr len s
  | .installRoot len signed => Sys2Proof.Machine.execInstallRoot len signed s
  | .installChain len verifies => Sys2Proof.Machine.execInstallChain len verifies s
  | .removeRoot len => Sys2Proof.Machine.execRemoveRoot len s
  | .getNonce len => Sys2Proof.Machine.execGetNonce len s
  | .debugUnlock len good => Sys2Proof.Machine.execDebugUnlock len good s
  | .getChain len => Sys2Proof.Machine.execGetChain len s
  | .inputUndervoltage => Sys2Proof.Machine.execInputUndervoltage s
  | .inputRestored since => Sys2Proof.Machine.execInputRestored since s
  | .inputPowerLoss since => Sys2Proof.Machine.execInputPowerLoss since s
  | .envelopeCode code since => Sys2Proof.Machine.execEnvelopeCode code since s
  | .controlInterval power compute => Sys2Proof.Machine.execControlInterval power compute s
  | .gatingInterval power issue => Sys2Proof.Machine.execGatingInterval power issue s
  | .droop gd => Sys2Proof.Machine.execDroop gd s
  | .droopClear gd since => Sys2Proof.Machine.execDroopClear gd since s
  | .brownout gd => Sys2Proof.Machine.execBrownout gd s
  | .brownoutRecover gd => Sys2Proof.Machine.execBrownoutRecover gd s
  | .brownoutTimeout gd => Sys2Proof.Machine.execBrownoutTimeout gd s
  | .attributionInterval grove hbm verge rest => Sys2Proof.Machine.execAttributionInterval grove hbm verge rest s
  | .temperatureRead sensors => Sys2Proof.Machine.execTemperatureRead sensors s
  | .thermalTrip die => Sys2Proof.Machine.execThermalTrip die s
  | .hbmTemperatureRead stack temp => Sys2Proof.Machine.execHbmTemperatureRead stack temp s
  | .coolantRead pressure inlet tach => Sys2Proof.Machine.execCoolantRead pressure inlet tach s
  | .tachLoss lastEdge => Sys2Proof.Machine.execTachLoss lastEdge s
  | .suddenStop => Sys2Proof.Machine.execSuddenStop s
  | .coolantRecover => Sys2Proof.Machine.execCoolantRecover s
  | .coolantHoldTimeout => Sys2Proof.Machine.execCoolantHoldTimeout s
  | .coolantFallowEntry => Sys2Proof.Machine.execCoolantFallowEntry s
  | .faultLatch die bit plots unit detail => Sys2Proof.Machine.execFaultLatch die bit plots unit detail s
  | .faultWordSend die => Sys2Proof.Machine.execFaultWordSend die s
  | .faultWordArrive die => Sys2Proof.Machine.execFaultWordArrive die s
  | .faultClassDecide pos cls => Sys2Proof.Machine.execFaultClassDecide pos cls s
  | .dieSilent die => Sys2Proof.Machine.execDieSilent die s
  | .engineTimeout gd engine core since => Sys2Proof.Machine.execEngineTimeout gd engine core since s
  | .transferTimeout what => Sys2Proof.Machine.execTransferTimeout what s
  | .fltInject path v => Sys2Proof.Machine.execFltInject path v s
  | .faultLogSelect path index => Sys2Proof.Machine.execFaultLogSelect path index s
  | .faultLogReady => Sys2Proof.Machine.execFaultLogReady s
  | .faultSeqWriteBack path die seq => Sys2Proof.Machine.execFaultSeqWriteBack path die seq s
  | .timeoutRegisterWrite path reg v => Sys2Proof.Machine.execTimeoutRegisterWrite path reg v s
  | .ctlReset path v => Sys2Proof.Machine.execCtlReset path v s
  | .fallow path autoWake => Sys2Proof.Machine.execFallow path autoWake s
  | .run path autoWake => Sys2Proof.Machine.execRun path autoWake s
  | .fallowExitComplete failed => Sys2Proof.Machine.execFallowExitComplete failed s
  | .dormant path autoWake => Sys2Proof.Machine.execDormant path autoWake s
  | .status pecOk => Sys2Proof.Machine.execStatus pecOk s
  | .setAddr pecOk ptr => Sys2Proof.Machine.execSetAddr pecOk ptr s
  | .readReg pecOk => Sys2Proof.Machine.execReadReg pecOk s
  | .warmReset pecOk word => Sys2Proof.Machine.execWarmReset pecOk word s
  | .wake pecOk env => Sys2Proof.Machine.execWake pecOk env s
  | .registerWrite path target => Sys2Proof.Machine.execRegisterWrite path target s
  | .lowWordRead path addr => Sys2Proof.Machine.execLowWordRead path addr s
  | .wsqWriteBack path addr seq => Sys2Proof.Machine.execWsqWriteBack path addr seq s
  | .rwtScrub upsets => Sys2Proof.Machine.execRwtScrub upsets s
  | .perfselWrite path gd v => Sys2Proof.Machine.execPerfselWrite path gd v s
  | .pcieLinkUp rate width => Sys2Proof.Machine.execPcieLinkUp rate width s
  | .configurationRequestsAnswered => Sys2Proof.Machine.execConfigurationRequestsAnswered s
  | .d0Entry func => Sys2Proof.Machine.execD0Entry func s
  | .managerHeartbeatArrive node mgrEpoch epoch members leases => Sys2Proof.Machine.execManagerHeartbeatArrive node mgrEpoch epoch members leases s
  | .pollAnswer node silent => Sys2Proof.Machine.execPollAnswer node silent s
  | .fallowEntryComplete => Sys2Proof.Machine.execFallowEntryComplete s
  | .dormantEntryComplete => Sys2Proof.Machine.execDormantEntryComplete s
  | .warmResetDieStop env => Sys2Proof.Machine.execWarmResetDieStop env s

end Sys2Proof.Machine
end

