-- ==== Sys2Proof/Machine/Step.lean ====
section
/-! DEFINITION. One step of the block: the command at the front of the queue, or one period of the
clearing die's SOSC where no command waits. -/

namespace Sys2Proof.Machine

/-- One step.  On an empty queue one SOSC period passes (DESIGN CHOICE, assumption 1). -/
def step (s : State) : Host.Outcome State Fault Refusal :=
  match s.pending with
  | [] => .next s.idleTick
  | c :: rest => exec c { s with pending := rest }

/-- `s` with the command that a word spells in front of its queue; no word spells one. -/
def State.withFetchWord (s : State) (nbits w : Nat) : State :=
  match decodeTableWord nbits w with
  | some c => { s with pending := c :: s.pending }
  | none => s

end Sys2Proof.Machine
end

