-- ==== Sys2Proof/Safety.lean ====
section
/-! DEFINITION. What counts as a safe run, in the terms that statements use. -/

namespace Sys2Proof.Machine

/-- A step that goes on. -/
def Completes (o : Host.Outcome State Fault Refusal) : Prop := ∃ t, o = .next t

/-! ### Parts of the state -/

/-- The parts that a state is made of, and the bytes of device memory as reads see them. -/
inductive Part where
  | pending | draws | out | regs | hbm | host | pkg | flash | clocks | engines | slabs | rings | plots | stash | matJobs
  | vecJobs | fabric | ports | puts | tags | mgr | mac | pcie | sec | cores | power | faults | maint | glob | bytes
  deriving DecidableEq, Repr

/-- A part of `t` is as it is in `s`. -/
def Part.kept (s t : State) : Part → Prop
  | .pending => t.pending = s.pending
  | .draws => t.draws = s.draws
  | .out => t.out = s.out
  | .regs => t.regs = s.regs
  | .hbm => t.hbm = s.hbm
  | .host => t.host = s.host
  | .pkg => t.pkg = s.pkg
  | .flash => t.flash = s.flash
  | .clocks => t.clocks = s.clocks
  | .engines => t.engines = s.engines
  | .slabs => t.slabs = s.slabs
  | .rings => t.rings = s.rings
  | .plots => t.plots = s.plots
  | .stash => t.stash = s.stash
  | .matJobs => t.matJobs = s.matJobs
  | .vecJobs => t.vecJobs = s.vecJobs
  | .fabric => t.fabric = s.fabric
  | .ports => t.ports = s.ports
  | .puts => t.puts = s.puts
  | .tags => t.tags = s.tags
  | .mgr => t.mgr = s.mgr
  | .mac => t.mac = s.mac
  | .pcie => t.pcie = s.pcie
  | .sec => t.sec = s.sec
  | .cores => t.cores = s.cores
  | .power => t.power = s.power
  | .faults => t.faults = s.faults
  | .maint => t.maint = s.maint
  | .glob => t.glob = s.glob
  | .bytes => ∀ a, t.hbm.byte a = s.hbm.byte a

/-- Every part of `t` but the listed ones is as it is in `s`. -/
def Rest (s t : State) (changed : List Part) : Prop := ∀ q : Part, q ∉ changed → q.kept s t

/-- A field of the fault collector's block (Table 19.1): fault words, their SEQ, the summary, the maintenance
status and its counters, which any latch or maintenance lock may change. -/
def inFaultBlock (f : Fld) : Prop := 32 * 0x40000 ≤ f.key ∧ f.key < 32 * 0x80000

/-- No byte of device memory, of host memory, or of a tensor in the stash changed, as reads see them. -/
def SameMemory (s t : State) : Prop :=
  (∀ a, t.hbm.byte a = s.hbm.byte a) ∧ (∀ a, Tab.val t.host a = Tab.val s.host a) ∧ t.stash = s.stash

/-- `t` differs from `s` in registers alone, and there in none but the fields with the listed keys. -/
def OnlyFields (s t : State) (keys : List Nat) : Prop :=
  t = { s with regs := t.regs } ∧ ∀ f, f.key ∉ keys → t.rd f = s.rd f

/-- Every field outside the fault block and the listed keys reads in `t` as in `s`. -/
def OtherFields (s t : State) (keys : List Nat) : Prop :=
  ∀ f, ¬ inFaultBlock f → f.key ∉ keys → t.rd f = s.rd f

/-- An event of a fault-word bit waits for core 1 to decide its class (R447). -/
def State.waitsForCore1 (s : State) (die b : Nat) : Prop := ∃ e ∈ s.faults.events, e.die = die ∧ e.bit = b

/-! ### The package -/

/-- A lane of a die-to-die channel that carries transfers (R11 to R13). -/
def State.laneServes (s : State) (ch g lane : Nat) : Bool :=
  decide (g < groupsOf ch ∧ (s.channel ch).retired = false ∧ g ∉ (s.channel ch).groupsRetired
    ∧ (g, lane) ∉ (s.channel ch).lanesRetired)

/-- Parity errors of a lane in the last second (R12). -/
def State.laneErrors (s : State) (ch g lane : Nat) : Nat :=
  ((s.channel ch).parity.filter (fun x => decide (s.now < x.2.2 + perS) && decide (x.1 = g ∧ x.2.1 = lane))).length

/-- The die at one end of a channel. -/
def endDie (ch : Nat) (first : Bool) : Nat := if first then (channelEnds ch).1 else (channelEnds ch).2

/-- A read of a unit reaches its stack and returns: the stack is in service, the page is neither clean nor retired,
and nothing stalls the read (R18, R21, R47, R48, R386). -/
def State.unitReads (s : State) (stack unit : Nat) : Bool :=
  !s.fenced stack && !s.cleanUnit stack unit && !s.retiredUnit stack unit
  && !s.stalledAt (stack * stackBytes + unit * unitBytes) unitBytes

/-- The patrol scrub of a stack may read its next unit (R19, R26, Table 17.10). -/
def State.scrubs (s : State) (stack : Nat) : Bool :=
  decide (s.hbmScrubNow stack % 2 = 1) && !s.fenced stack && (s.stack stack).trained && !(s.stack stack).selfRefresh
  && (s.stack stack).repair.isNone && !s.hasLock { kind := 1, unit := stack } && !s.stackStalled stack

/-- The scrub of a bank of tile memory may read its next line (R24 to R26). -/
def State.tileScrubs (s : State) (gd b : Nat) : Bool :=
  decide (s.tileScrubNow gd b % 2 = 1) && !s.fenced gd && (s.die gd).supplyOn && !(s.bank gd b).retired

/-- Plots keep apart: no array, engine, bank, extent or core is leased to two plots that hold
resources for a user (R376, exclusive resources). -/
def State.leasesApart (s : State) : Prop :=
  ∀ p q, p < 64 → q < 64 → p ≠ q → s.plotBound p = true → s.plotBound q = true →
    (∀ gd m, ¬ (s.leasesArray p gd m = true ∧ s.leasesArray q gd m = true))
    ∧ (∀ gd v, ¬ (s.leasesVe p gd v = true ∧ s.leasesVe q gd v = true))
    ∧ (∀ gd b, ¬ (s.leasesBank p gd b = true ∧ s.leasesBank q gd b = true))
    ∧ (∀ n e, ¬ (s.leasesExt p n e = true ∧ s.leasesExt q n e = true))

/-! ### Descriptors -/

/-- Descriptor `i` of ring `r`, which is `e`, may issue as opcode `op`, and no rule of its step ends it without effect. -/
def State.takes (s : State) (r i op : Nat) (e : Entry) : Prop :=
  s.mayIssue r i op = some e ∧ s.memberStop (s.ringPlot r) e = none ∧ s.ringPlot r < 64

/-- Descriptor `i` of ring `r` has finished with a completion code and VALUE. -/
def State.ended (s : State) (r i st v : Nat) : Prop :=
  ∃ e, s.entry r i = some e ∧ e.stage = 3 ∧ e.status = BitVec.ofNat 8 st ∧ e.value = BitVec.ofNat 32 v

/-- Every descriptor but number `i` of ring `r` is as before. -/
def OtherEntries (s t : State) (r i : Nat) : Prop :=
  ∀ r' i', r' ≠ r ∨ i' ≠ i → t.entry r' i' = s.entry r' i'

/-- A descriptor command of opcode `op` waits without effect where the descriptor may not issue; one that a rule of its
step ends finishes with that status and has no other effect. -/
def WaitsOrStops (op : Nat) (c : Fin 1024 → Nat → Instr) : Prop :=
  (∀ (s : State) (ring : Fin 1024) (idx : Nat), s.mayIssue ring idx op = none → exec (c ring idx) s = .next s)
  ∧ (∀ (s : State) (ring : Fin 1024) (idx st : Nat) (e : Entry), s.mayIssue ring idx op = some e →
    s.memberStop (s.ringPlot ring) e = some st →
    exec (c ring idx) s = .next ((s.setStage ring idx 2).finish ring idx st 0))

/-- A descriptor command of opcode `op` with nothing to do finishes with OK_EMPTY, and one that fails checks with
DESC_ERROR and the lowest of their offsets; the handles of one with nothing to do are not checked (R356, R519). -/
def ChecksOf (op : Nat) (c : Fin 1024 → Nat → Instr) (empty : Entry → Bool) (fields : Entry → List (Nat × Bool))
    (handles : State → Nat → Entry → List (Nat × Bool)) : Prop :=
  (∀ (s : State) (ring : Fin 1024) (idx : Nat) (e : Entry), s.takes ring idx op e → empty e = true →
    firstFail (fields e) = none → exec (c ring idx) s = .next ((s.setStage ring idx 2).finish ring idx 0x01 0))
  ∧ (∀ (s : State) (ring : Fin 1024) (idx v : Nat) (e : Entry), s.takes ring idx op e →
    firstFail (if empty e then fields e else fields e ++ handles s (s.ringPlot ring) e) = some v →
    exec (c ring idx) s = .next ((s.setStage ring idx 2).finish ring idx 0x10 v))

/-- The last pass of a tile's run has issued and nothing holds its end back: no answer is awaited, its die is up and not
in a brown-out, and nothing stalls the writes of the results (R99, R36, R21). -/
def State.runEnds (s : State) (a r : Nat) (e : Entry) (j : MatJob) (t : Tile) : Prop :=
  let p := s.ringPlot r
  let f := s.runFmts p e (s.runCodes p e j t.pos t.last)
  s.groveUp (a / 3) = true ∧ (s.die (a / 3)).brownout = none ∧ t.demand = none ∧ t.granted = none
  ∧ t.passes = ceilDiv t.klen (kPass f.1 f.2)
  ∧ s.anyStalled (s.passRanges p (e.u16 12) false t.row0 t.rows t.col0 t.cols) = false

/-- No byte of a tensor lies on a fenced stack, in a retired page or in a poisoned unit. -/
def State.sound (s : State) (p h : Nat) : Prop :=
  s.accessFail true (s.pieces p (s.tensorOf p h).addr (s.tensorOf p h).bytes) = none

/-- The first `n` elements of a tensor can be read. -/
def State.readable (s : State) (p h n : Nat) : Prop := ∃ l, s.loadFirst p (s.tensorOf p h) n = .ok l

/-- No byte of memory changed but those of the tensors `hs` of plot `p`, and no record of a tensor of
the plot but those of `hs` and `rs`. -/
def OnlyTensors (s t : State) (p : Nat) (hs rs : List Nat) : Prop :=
  (∀ x, (∀ h ∈ hs, ∀ y, (s.tensorOf p h).addr ≤ y → y < (s.tensorOf p h).addr + (s.tensorOf p h).bytes →
      s.plotToHbm p y ≠ some x) → t.hbm.byte x = s.hbm.byte x)
  ∧ t.host = s.host ∧ t.stash = s.stash ∧ ∀ h, h ∉ hs → h ∉ rs → t.tensorOf p h = s.tensorOf p h

/-- Every field outside the listed keys reads in `t` as in `s`. -/
def FieldsKept (s t : State) (keys : List Nat) : Prop := ∀ f, f.key ∉ keys → t.rd f = s.rd f

/-- The counters of work on the grove dies: performance events, vector-engine time, array row-steps, tiles and
zero groups. -/
def workKeys : List Nat :=
  (List.range 16).flatMap (fun gd =>
    (List.range 4).flatMap (fun k => [(CNT_GD_PERF.COUNT gd k).key, (CNT_VE_BUSY_LO.COUNT_LO gd k).key,
      (CNT_VE_BUSY_HI.COUNT_HI gd k).key, (CNT_VE_WAIT.COUNT gd k).key])
    ++ (List.range 3).flatMap (fun m => [(CNT_MA_ROWSTEP_LO.COUNT_LO gd m).key, (CNT_MA_ROWSTEP_HI.COUNT_HI gd m).key,
      (CNT_MA_TILES.TILES gd m).key, (CNT_MA_TILES.REPEATS gd m).key, (CNT_MA_ZERO_GROUPS.COUNT gd m).key]))

/-- Those, and the counters of plot `p` of non-finite values and of unused codes. -/
def dataKeys (p : Nat) : List Nat := (CNT_NONFINITE.COUNT p).key :: (CNT_STORED_SAT.COUNT p).key :: workKeys

/-- What a vector descriptor that ends with OK does: it finishes, writes the tensors `hs`, and counts its work; every
other descriptor, byte, record and field is as before. -/
def VectorEffect (s t : State) (r i : Nat) (hs : List Nat) : Prop :=
  t.ended r i 0x00 0 ∧ OtherEntries s t r i ∧ OnlyTensors s t (s.ringPlot r) hs []
  ∧ FieldsKept s t (dataKeys (s.ringPlot r))

/-- The record that a command of an exchange or of an expert dispatch brings to a schedule (R211, R225). -/
def arrivalOf : Instr → Option (Fin 256 × XRecord)
  | .exchangeRecordArrive port k src epoch head block h l =>
    if recordLength h l then some (k, { kind := 0, port := port, src := src, epoch := epoch, head := head, block := block
                                        header := h.toNat, codes := l }) else none
  | .exchangeListArrive port k src epoch head chunk h l =>
    if listLength h l then some (k, { kind := 1, port := port, src := src, epoch := epoch, head := head, block := chunk
                                      header := h.toNat, codes := listWords l }) else none
  | .exchangeGatherRecord port k src epoch head (.block n h l) =>
    if recordLength h l then some (k, { kind := 2, port := port, src := src, epoch := epoch, head := head, block := n
                                        header := h.toNat, codes := l }) else none
  | .exchangeGatherRecord port k src epoch head (.list c h l) =>
    if listLength h l then some (k, { kind := 3, port := port, src := src, epoch := epoch, head := head, block := c
                                      header := h.toNat, codes := listWords l }) else none
  | .dispatchRowArrive port k src epoch row rank token vals =>
    some (k, { kind := 4, port := port, src := src, epoch := epoch, block := row, header := rank, token := token.toNat
               codes := vals })
  | .dispatchStreamClose port k src epoch => some (k, { kind := 5, port := port, src := src, epoch := epoch })
  | .combineRowArrive port k src epoch rank token vals =>
    some (k, { kind := 6, port := port, src := src, epoch := epoch, header := rank, token := token.toNat, codes := vals })
  | _ => none

/-- Every argument of a stream, and every range of glade memory that it names, is there and does not stall. -/
def State.streamReady (s : State) (core : Nat) (target : Nat) (r : Nat) : Bool :=
  !s.streamWaits (((s.core (4 + core)).args.filter (fun a => decide (a.1 = target))).flatMap (fun a =>
    s.pieces (s.ringPlot r) a.2.addr a.2.bytes))

/-- No address in the lease of plot `p` lies on a fenced stack, in a retired page or in a poisoned unit. -/
def State.leaseSound (s : State) (p : Nat) : Prop := ∀ a n, s.accessFail true (s.pieces p a n) = none

/-- No byte of device memory, and nothing in host memory outside `n` bytes from `a`, changed. -/
def OnlyHost (s t : State) (a n : Nat) : Prop :=
  (∀ x, t.hbm.byte x = s.hbm.byte x) ∧ ∀ x, (x < a ∨ a + n ≤ x) → Tab.val t.host x = Tab.val s.host x

/-! ### The PCI Express attachment -/

/-- A command brings an object to the DOE mailbox, for which `answer` is given: it is in progress, or is not taken while
another one is, which shows as DOE Busy, or does not reach the mailbox (R341). -/
def TakesObject (c : Instr) (answer : State → Doe) : Prop :=
  ∀ s : State,
    (s.configOpen = true → s.pcie.doeObject = none →
      exec c s = .next { s with pcie := { s.pcie with doeObject := some (answer s) } })
    ∧ (∀ o, s.configOpen = true → s.pcie.doeObject = some o →
      exec c s = .next { s with pcie := { s.pcie with doeBusy := true } })
    ∧ (s.configOpen = false → exec c s = .next s)

/-- An FLR of the physical function, a hot reset or a loss of the link has reset what hangs on it: no ring is set up, VF
Enable is clear, every bound plot resets, and memory is as before (R327, R339, R340). -/
def ResetsFunctions (s t : State) : Prop :=
  t.rings = [] ∧ t.pcie.vfEnable = false ∧ t.pcie.doeObject = none
  ∧ (∀ p, p < 64 → s.plotState p = plotBOUND → t.plotState p = plotRESETTING)
  ∧ (∀ r, r < 1024 → t.rd (RING_CFG.ENABLE r) = 0)
  ∧ (∀ f, (Tab.val t.pcie.funcs f).unmasked = [] ∧ (Tab.val t.pcie.funcs f).pend = []) ∧ SameMemory s t

/-- The fields of the set-up of a ring that a write of RING_CFG stores. -/
def ringKeys (r : Nat) : List Nat :=
  [(RING_CFG.FUNC r).key, (RING_CFG.PLOT r).key, (RING_CFG.VECTOR r).key, (RING_CFG.SIZE_LOG2 r).key]

/-! ### Plots -/

/-- The fields that show which port each vector engine serves (R176). -/
def pathKeys : List Nat :=
  (List.range 16).flatMap (fun gd => [(STS_VE_PATH.PORT_VE0 gd).key, (STS_VE_PATH.PORT_VE1 gd).key,
    (STS_VE_PATH.PORT_VE2 gd).key, (STS_VE_PATH.PORT_VE3 gd).key])

/-- Every byte of the extents that plot `p` leases reads as zero (R382, R386). -/
def Cleaned (s t : State) (p : Nat) : Prop :=
  ∀ n e, n < 16 → e < 91 → s.leasesExt p n e = true → ∀ a, n * stackBytes + e * extentBytes ≤ a →
    a < n * stackBytes + (e + 1) * extentBytes → t.hbm.byte a = 0

/-- A reset of plot `p` has begun: it is RESETTING since now, with clearing and release as told, and no transfer of the
plot goes on but reads of the host that are yet to end (R384). -/
def ResetBegins (s t : State) (p : Nat) (clear release : Bool) : Prop :=
  t.plotState p = plotRESETTING
  ∧ (t.plot p).reset = some { clear := clear, flr := false, release := release, startedAt := s.now }
  ∧ (∀ u ∈ t.tags.used, u.plot = some p → u.kind = 4) ∧ (∀ u ∈ t.tags.waiting, u.plot ≠ some p)
  ∧ SameMemory s t ∧ t.rings = s.rings

/-! ### Ports -/

/-- Every port but `p` is as before. -/
def OtherPorts (s t : State) (p : Nat) : Prop := ∀ q, q ≠ p → t.port q = s.port q

/-- `t` differs from `s` in the state of port `p`, in what has left the device, in the paths that ports are to change to
and in the listed fields alone. -/
def OnlyPort (s t : State) (p : Nat) (keys : List Nat) : Prop :=
  t = { s with regs := t.regs, ports := t.ports, out := t.out, fabric := { s.fabric with pathWant := t.fabric.pathWant } } ∧ OtherPorts s t p ∧ FieldsKept s t keys

/-- The fields that the floor power and the envelope are shown in (Tables 16.4, 16.7, 16.9). -/
def envelopeKeys : List Nat :=
  [PWR_MEAS.FLOOR_W.key, PWR_STS.PINS.key, PWR_STS.EFFECTIVE_W.key, PWR_STS.BINDING.key, PWR_STS.BELOW_FLOOR.key]

/-- The fields of LNK_PORT_CTL and the state of a port. -/
def portCtlKeys (p : Nat) : List Nat :=
  [(LNK_PORT_CTL.LPI_IDLE_US p).key, (LNK_PORT_CTL.LPI_WAKE p).key, (LNK_PORT_CTL.LPI_EN p).key,
   (LNK_PORT_CTL.MODE p).key, (LNK_PORT_STS.STATE p).key]

/-- The fields of the tag pool that a transaction which takes, awaits or gives back a tag may change (R300 to R302). -/
def tagKeys : List Nat := [STS_LNK_TAGS.IN_USE.key, STS_LNK_TAGS.PEAK.key, CNT_TAG_STALL.COUNT.key]

/-- An admission on a link has failed: no exchange is under way, the back-off has begun and doubles to at most
6.4 s, a port that carried nothing is in ADMIT_FAILED, and the failure is counted (R283, R284). -/
def AdmissionFails (s t : State) (p node : Nat) : Prop :=
  (t.link p node).adm.since = none
  ∧ (t.link p node).adm.retryAt = some (s.now + (s.link p node).adm.backoffMs * perMs)
  ∧ (t.link p node).adm.backoffMs = min 6400 (2 * (s.link p node).adm.backoffMs)
  ∧ (s.portCarries p = false → t.portState p = portADMITFAILED)
  ∧ t.rd CNT_SEC.ADMIT_FAIL = min (s.rd CNT_SEC.ADMIT_FAIL + 1) (2 ^ CNT_SEC.ADMIT_FAIL.width - 1)
  ∧ SameMemory s t ∧ t.rings = s.rings ∧ FieldsKept s t ([(LNK_PORT_STS.STATE p).key, CNT_SEC.ADMIT_FAIL.key] ++ tagKeys)

/-- `t` differs from `s` in the state of port `p`, in what has left the device, in the count of free values
drawn, in the paths that ports are to change to and in the listed fields alone. -/
def OnlyAdmission (s t : State) (p : Nat) (keys : List Nat) : Prop :=
  t = { s with draws := t.draws, regs := t.regs, ports := t.ports, out := t.out
               fabric := { s.fabric with pathWant := t.fabric.pathWant } } ∧ OtherPorts s t p
  ∧ FieldsKept s t keys

/-! ### Management -/

/-- Nothing holds the system lock, and no change of membership waits. -/
def State.quietManager (s : State) : Prop :=
  s.isManager = true ∧ s.maint.active = [] ∧ s.maint.waiting = [] ∧ s.mgr.queue = []

/-- The standby has become the manager at the next manager epoch, with no change of membership waiting: it announces
itself on the route of every node, and names a standby that is neither itself nor the manager that went silent (R319). -/
def TakesOver (s t : State) : Prop :=
  t.isManager = true ∧ t.mgr.mgrEpoch = (s.mgr.mgrEpoch + 1) % 2 ^ 32
  ∧ t.rd STS_MGT_ROLE.MGR_EPOCH = t.mgr.mgrEpoch % 2 ^ STS_MGT_ROLE.MGR_EPOCH.width
  ∧ t.mgr.managerNode = some s.node ∧ t.mgr.polling = false ∧ t.mgr.members = s.mgr.members
  ∧ (∀ n, t.mgr.standby = some n → n ≠ s.node ∧ s.mgr.managerNode ≠ some n)
  ∧ (s.mgr.fencedSelf = false → ∀ n ∈ s.routedNodes, (∃ p ∈ s.routeOf n, s.reaches n p = true) →
      ∃ p, Out.control p (.announce t.mgr.mgrEpoch s.deviceId) ∈ t.out)
  ∧ t = { s with regs := t.regs, mgr := t.mgr, ports := t.ports, out := t.out, maint := t.maint }
  ∧ OtherFields s t [STS_MGT_ROLE.MGR_ROLE.key, STS_MGT_ROLE.MGR_EPOCH.key]

/-! ### Boot -/

/-- Image A alone is to be booted, and it verifies: it is VALID, and slot B is EMPTY. -/
def State.imageA (s : State) : Prop :=
  s.flash.imgA.state = 1 ∧ s.flash.imgB.state = 0 ∧ s.verified s.flash.imgA = true

/-- The device runs image A and begins bring-up (Table 15.3). -/
def RunsA (s t : State) : Prop :=
  t.sec.booted = true ∧ t.sec.measured = s.flash.imgA.measurement ∧ t.rd CTL_BRINGUP_STS.PHASE = 1
  ∧ t.rd SEC_STS.BOOT_IMAGE = 0 ∧ t.rd SEC_STS.RECOVERY = 0 ∧ t.rd SEC_STS.TRIAL = 0

/-! ### Firmware and identity -/

/-- A field of CTL_MBOX_STS or CTL_MBOX_DATA (Table 19.6). -/
def inMailbox (f : Fld) : Prop :=
  (32 * 0x404 ≤ f.key ∧ f.key < 32 * 0x408) ∨ (32 * 0x2000 ≤ f.key ∧ f.key < 32 * 0x4000)

/-- The two halves of CLK_SOSC_COUNT. -/
def soscKeys : List Nat := [CLK_SOSC_COUNT_LO.COUNT_LO.key, CLK_SOSC_COUNT_HI.COUNT_HI.key]

/-- A write of CTL_MBOX_CMD brings a command to core 3: it is in progress, and BUSY is 1; one that comes while another is
in progress, or does not reach the mailbox, has no effect (R501). -/
def TakesBox (c : Instr) (r : BoxReq) : Prop :=
  ∀ s : State,
    (s.boxOpen = true → s.sec.box = none →
      ∃ t, exec c s = .next t ∧ t.rd CTL_MBOX_STS.BUSY = 1 ∧ t.sec = { s.sec with box := some r }
        ∧ t = { s with regs := t.regs, sec := t.sec } ∧ FieldsKept s t [CTL_MBOX_STS.BUSY.key])
    ∧ (s.boxOpen = false ∨ s.sec.box.isSome = true → exec c s = .next s)

/-- The mailbox command in progress is `r`, and nothing else is to be served. -/
def State.boxWaits (s : State) (r : BoxReq) : Prop :=
  s.pending = [] ∧ s.glob.poweredOn = true ∧ s.pcie.doeObject = none ∧ s.sec.box = some r

/-- A mailbox command has been answered: RESULT, LEN and the bytes are set, SEQ has advanced, BUSY is 0, none is in
progress, and no field outside the mailbox and the SOSC count changed (R501). -/
def Answers (s t : State) (result : Nat) (bytes : List Byte) : Prop :=
  t.rd CTL_MBOX_STS.RESULT = result ∧ t.rd CTL_MBOX_STS.LEN = bytes.length ∧ t.boxBytes bytes.length = bytes
  ∧ t.rd CTL_MBOX_STS.SEQ = (s.rd CTL_MBOX_STS.SEQ + 1) % 2 ^ CTL_MBOX_STS.SEQ.width
  ∧ t.rd CTL_MBOX_STS.BUSY = 0 ∧ t.sec = { s.sec with box := none }
  ∧ ∀ f, ¬ inMailbox f → f.key ∉ soscKeys → t.rd f = s.rd f

/-- A mailbox command has been answered with no bytes, and nothing else changed but the mailbox. -/
def OnlyAnswers (s t : State) (result : Nat) : Prop :=
  Answers s t result [] ∧ t = { s with regs := t.regs, sec := t.sec }

/-- A firmware command has its result: RESULT is set and SEQ has advanced (Table 15.8). -/
def Results (s t : State) (result : Nat) : Prop :=
  t.rd SEC_FW_STS.RESULT = result
  ∧ t.rd SEC_FW_STS.SEQ = (s.rd SEC_FW_STS.SEQ + 1) % 2 ^ SEC_FW_STS.SEQ.width

/-- A firmware command has its result, and no other field and nothing else changed. -/
def OnlyResults (s t : State) (result : Nat) : Prop :=
  Results s t result ∧ OnlyFields s t [SEC_FW_STS.RESULT.key, SEC_FW_STS.SEQ.key]

/-- The lock of firmware staging and membership (Table 17.10). -/
def stagingLock : Lock := { kind := 8, unit := 0 }

/-- The next sector may be programmed: no record waits, an image runs out of Fallow, the image verifies, and the staging
lock is held, which outside a system is not asked for (R30, R413, R467). -/
def State.mayProgram (s : State) (g : Staging) (granted : Bool) : Prop :=
  s.flash.staging = some g ∧ s.flash.waits = false ∧ s.sec.booted = true ∧ s.rd CTL_PSTATE.STATE = 0
  ∧ s.fwVerdict g.image = none
  ∧ (s.inSystem = false ∨ (s.isManager = false ∧ granted = true)
      ∨ (s.isManager = true ∧ (s.lockRequest stagingLock).hasLock stagingLock = true))

/-- Bytes of a slot with one more sector programmed: a slot that is not EMPTY is erased first (R412). -/
def State.programmed (s : State) (b : Bool) (g : Staging) : List Byte :=
  (if (s.flash.img b).state = 0 then (s.flash.img b).bytes else []) ++ g.bytes.take flashSector

/-- STAGE is accepted: it reaches running firmware, which stages nothing, tests no image and is not in windthrow, of a
LEN that fits a slot and a source that one plot's HOST-owned slabs cover (R412). -/
def State.stageTaken (s : State) (path : Nat) : Prop :=
  s.fwOpen path = true ∧ s.rd SEC_CFG.STAGE_EN ≠ 0 ∧ s.flash.staging = none ∧ s.rd SEC_STS.TRIAL ≠ 1
  ∧ s.faults.windthrow = false ∧ s.rd SEC_FW_LEN.LEN ≤ 24 * 2 ^ 20
  ∧ s.fwPlot s.fwSource (s.rd SEC_FW_LEN.LEN) = true

/-- What STAGE holds of an accepted image. -/
def State.stagingOf (s : State) (c : ImageCheck) : Staging :=
  { slot := if s.runImage then 0 else 1, image := imageOf c (s.rd SEC_FW_LEN.LEN)
    sectorsLeft := ceilDiv (s.rd SEC_FW_LEN.LEN) 65536, bytes := s.readGlade s.fwSource (s.rd SEC_FW_LEN.LEN) }

/-- Bytes of slot A with the next chunk of recovery: the first erases it (R410). -/
def State.recovered (s : State) : List Byte :=
  let old := if s.flash.staging.isSome then s.flash.imgA.bytes else []
  old ++ s.windowBytes.take (min flashSector (s.rd SEC_FW_LEN.LEN - old.length))

/-- The fields of SEC_FW_STS, SEC_IMG_A and SEC_IMG_B, and TRIAL and FUSE_SVN. -/
def imageKeys : List Nat :=
  [SEC_FW_STS.RESULT.key, SEC_FW_STS.SEQ.key, SEC_FW_STS.STATE.key, SEC_STS.TRIAL.key, SEC_STS.FUSE_SVN.key,
   SEC_IMG_A.STATE.key, SEC_IMG_A.SVN.key, SEC_IMG_A.CONFIRM_SEQ.key,
   SEC_IMG_B.STATE.key, SEC_IMG_B.SVN.key, SEC_IMG_B.CONFIRM_SEQ.key]

/-- The running image is confirmed: VALID with a new confirmation sequence, TRIAL over, and with SVN_AUTO the fuses
blown up to its SVN (R411). -/
def Confirms (s t : State) : Prop :=
  t.flash.img s.runImage = { s.flash.img s.runImage with
    state := 1, confirmSeq := (max s.flash.imgA.confirmSeq s.flash.imgB.confirmSeq + 1) % 65536 }
  ∧ t.flash.img (!s.runImage) = s.flash.img (!s.runImage) ∧ t.rd SEC_STS.TRIAL = 0
  ∧ t.rd SEC_STS.FUSE_SVN = (if s.rd SEC_CFG.SVN_AUTO = 1 then max (s.rd SEC_STS.FUSE_SVN) (s.flash.img s.runImage).svn
      else s.rd SEC_STS.FUSE_SVN)
  ∧ t.sec = { s.sec with trialDeadline := none } ∧ t = { s with regs := t.regs, flash := t.flash, sec := t.sec }
  ∧ FieldsKept s t imageKeys

/-! ### Power -/

/-- The coolant cap and the envelope are shown and act as the limits, the pins and the coolant stand (R418, R424,
Tables 16.7, 16.9). -/
def ShowsEnvelope (t : State) : Prop :=
  t.power.capW = t.coolantCap ∧ t.rd PWR_STS.PINS = t.power.envCode % 2 ^ PWR_STS.PINS.width
  ∧ t.rd PWR_STS.EFFECTIVE_W = t.envelope % 2 ^ PWR_STS.EFFECTIVE_W.width
  ∧ t.rd PWR_STS.BINDING = t.bindingTerm
  ∧ t.rd PWR_STS.BELOW_FLOOR = b2n (decide (t.envelope < t.rd PWR_MEAS.FLOOR_W))
  ∧ t.power.stopIssue = decide (t.envelope < t.rd PWR_MEAS.FLOOR_W)

/-- `t` differs from `s` in the power part and in the listed fields alone. -/
def OnlyPower (s t : State) (keys : List Nat) : Prop :=
  t = { s with regs := t.regs, power := t.power } ∧ FieldsKept s t keys

/-- The fields that an envelope is shown in. -/
def stsKeys : List Nat :=
  [PWR_STS.PINS.key, PWR_STS.EFFECTIVE_W.key, PWR_STS.BINDING.key, PWR_STS.BELOW_FLOOR.key]

/-- The fields that a control interval writes. -/
def controlKeys : List Nat :=
  PWR_MEAS.POWER_W.key :: CNT_PWR_LIMIT.GATED.key :: (List.range 16).flatMap (fun gd =>
    (STS_GD_POWER.VOLT_MV gd).key :: (List.range 4).map (fun k => (CNT_GD_PERF.COUNT gd k).key))

/-- The fields that a temperature reading writes. -/
def thermKeys : List Nat :=
  [STS_THERM.WARN.key, STS_THERM.THROTTLE.key, STS_THERM.SEQ.key, STS_THERM.HOTTEST_C.key, STS_THERM.HOTTEST_DIE.key,
   PWR_LIFE.USED.key, PWR_LIFE.WORST_DIE.key]
  ++ (List.range 25).map (fun d => (PWR_HALF_CYCLES.COUNT d).key)
  ++ (List.range 16).flatMap (fun d => [(STS_GD_POWER.THROTTLE d).key, (STS_GD_POWER.TEMP_C d).key])

/-- The fields that a coolant reading writes. -/
def coolKeys : List Nat :=
  stsKeys ++ [PWR_COOL_STS.FLOW_PCT.key, PWR_COOL_STS.INLET_C.key, PWR_COOL_STS.SENSE_OK.key, PWR_COOL_STS.TACH_OK.key,
    PWR_COOL_STS.W80.key, PWR_COOL_STS.W60.key, PWR_COOL_STS.W40.key, PWR_COOL_STS.STATE.key]

/-- Energy of plot `p` in 2⁻³² µJ: its counter and the fraction carried. -/
def State.energyOf (s : State) (p : Nat) : Nat :=
  2 ^ 32 * s.rd64 (PWR_PLOT_ENERGY_LO.COUNT_LO p) (PWR_PLOT_ENERGY_HI.COUNT_HI p) + (s.plot p).frac

/-- Energy of no plot in 2⁻³² µJ. -/
def State.noneEnergy (s : State) : Nat :=
  2 ^ 32 * s.rd64 PWR_ENERGY_UNATTR_LO.COUNT_LO PWR_ENERGY_UNATTR_HI.COUNT_HI + s.power.unFrac

/-- All energy that the counters of plots and PWR_ENERGY_UNATTR hold, in 2⁻³² µJ. -/
def State.energyHeld (s : State) : Nat := sumNat ((List.range 64).map s.energyOf) + s.noneEnergy

/-- The whole µJ that the counters of plots and PWR_ENERGY_UNATTR show. -/
def State.energyShown (s : State) : Nat :=
  sumNat ((List.range 64).map (fun p => s.rd64 (PWR_PLOT_ENERGY_LO.COUNT_LO p) (PWR_PLOT_ENERGY_HI.COUNT_HI p)))
  + s.rd64 PWR_ENERGY_UNATTR_LO.COUNT_LO PWR_ENERGY_UNATTR_HI.COUNT_HI

/-- PWR_ENERGY_DEV in µJ. -/
def State.deviceEnergy (s : State) : Nat := s.rd64 PWR_ENERGY_DEV_LO.COUNT_LO PWR_ENERGY_DEV_HI.COUNT_HI

/-! ### Faults and registers -/

/-- The distance of two numbers. -/
def gap (a b : Nat) : Nat := (a - b) + (b - a)

/-- The timeouts are in their ranges, and in the order of R457: 4 × link, transfer, engine, descriptor, step. -/
def State.timeoutsOrdered (s : State) : Prop :=
  (2 ≤ s.rd FLT_TMO_LINK.US ∧ s.rd FLT_TMO_LINK.US ≤ 1000)
  ∧ (1 ≤ s.rd FLT_TMO_TRANSFER.UNITS ∧ s.rd FLT_TMO_TRANSFER.UNITS ≤ 1000)
  ∧ (1 ≤ s.rd FLT_TMO_ENGINE.MS ∧ s.rd FLT_TMO_ENGINE.MS ≤ 1000)
  ∧ (1 ≤ s.rd FLT_TMO_DESC.MS ∧ s.rd FLT_TMO_DESC.MS < 2 ^ 32)
  ∧ (1 ≤ s.rd FLT_TMO_STEP.S ∧ s.rd FLT_TMO_STEP.S ≤ 65535)
  ∧ 4 * s.rd FLT_TMO_LINK.US ≤ 100 * s.rd FLT_TMO_TRANSFER.UNITS
  ∧ 100 * s.rd FLT_TMO_TRANSFER.UNITS ≤ 1000 * s.rd FLT_TMO_ENGINE.MS
  ∧ s.rd FLT_TMO_ENGINE.MS ≤ s.rd FLT_TMO_DESC.MS
  ∧ s.rd FLT_TMO_DESC.MS ≤ 1000 * s.rd FLT_TMO_STEP.S

/-- A timeout field has been written: the state is ordered, and no value of the field that keeps it so is nearer to
the one asked for. -/
def StoresNearest (s t : State) (f : Fld) (w : Nat) : Prop :=
  t.timeoutsOrdered ∧ (∀ y, y < 2 ^ f.width → (s.wr f y).timeoutsOrdered → gap w (t.rd f) ≤ gap w y) ∧ OnlyFields s t [f.key]

/-- The three copies of a triplicated field agree (R497). -/
def State.copiesAgree (s : State) (key : Nat) (f : Fld) : Prop :=
  Tab.valD s.regs.field key f.reset = Tab.valD s.regs.copyB key f.reset
  ∧ Tab.valD s.regs.copyB key f.reset = Tab.valD s.regs.copyC key f.reset

/-- The copies of every triplicated field, in its range, and of PLOT in every slab entry agree. -/
def State.allAgree (s : State) : Prop :=
  (∀ key f, rwtField key = some f → s.copiesAgree key f ∧ s.rd f < 2 ^ f.width)
  ∧ ∀ n, (s.slab n).plot = (s.slab n).plotB ∧ (s.slab n).plotB = (s.slab n).plotC

/-- Every field of the map outside the fault block and the listed keys reads in `t` as in `s`. -/
def MapKept (s t : State) (keys : List Nat) : Prop :=
  ∀ f, ¬ inFaultBlock f → f.key ∉ keys → (rwtField f.key = none ∨ rwtField f.key = some f) → t.rd f = s.rd f

/-- A word of a register of the map may be stored as it is: none of the rules of R202, R261, R344, R410, R453 and R501
that hold for some registers apply to it on this path. -/
def State.storesPlainly (s : State) (path a : Nat) : Prop :=
  a % 4 = 0 ∧ s.writeOpen path a = true ∧ a ≠ 0x400 ∧ a ≠ 0x114
  ∧ ¬ (0xF00000 ≤ a ∧ a < 0xF08000) ∧ ¬ (0x40100 ≤ a ∧ a < 0x40420) ∧ (0x2000 ≤ a → a < 0x4000 → path = 0 ∧ s.sec.box = none)
  ∧ ¬ (0x410000 ≤ a ∧ a < 0x420000)
  ∧ (0x100000 ≤ a → a < 0x108000 → s.rd (RING_CFG.ENABLE ((a - 0x100000) / 0x20)) = 0)
  ∧ (∀ p, latePlot a = some p → (s.plot p).step = none)

/-! ### Form -/

/-- The memories list rising addresses and no byte equal to what an unlisted one reads as, and the tables that steps
go through by number list rising numbers. -/
def State.tablesInForm (s : State) : Prop :=
  Memory.wf s.host = true ∧ Memory.wf s.hbm.mem = true ∧ Tab.rises s.slabs 0 = true ∧ Tab.rises s.cores 0 = true
  ∧ Tab.rises s.fabric.scheds 0 = true ∧ Tab.rises s.mgr.members 0 = true

end Sys2Proof.Machine
end

