-- ==== Sys2Proof/Certificates/Slice0/Obligations.lean ====
section
/-! DEFINITION. The statements for the provers. -/

open Sys2Proof Sys2Proof.Machine

/-- R11, R12, R17 to R20, R386: a parity error of a lane in service is recorded against the lane and latched at the die
that received it, its group waits for a retest, and after 15 earlier errors of the lane in the last second the lane is
out of service; a parity error of any other lane has no effect.  A retest that is due ends, and every lane that failed it
is out of service; one that is not due has no effect.  A unit that reads soundly changes nothing; one corrected is counted
for its stack; one that cannot be corrected is counted and poisoned, and its row is a candidate for repair; a read of a
fenced stack, a clean page or a retired page, or one that stalls, has no effect.  The patrol scrub does the same to the
unit at its position and moves on, while it is enabled and nothing holds the stack, and otherwise does nothing; a clean
page that it finds in error is not poisoned.  No byte of memory changes.  Each of the four commands answers a next state
in every state, and every part of the state but those listed is as before. -/
def Obligations.ErrorsAreChargedCountedAndPoisoned : Prop :=
  (∀ (s : State) (ch : Fin 32) (g : Fin 8) (lane : Fin 32) (first : Bool), s.laneServes ch g lane = false →
    exec (.channelParityError ch g lane first) s = .next s)
  ∧ (∀ (s : State) (ch : Fin 32) (g : Fin 8) (lane : Fin 32) (first : Bool), s.laneServes ch g lane = true →
    s.laneErrors ch g lane < 15 →
    ∃ t, exec (.channelParityError ch g lane first) s = .next t
      ∧ (g.val, lane.val, s.now) ∈ (t.channel ch).parity ∧ (t.channel ch).rejected = (s.channel ch).rejected + 1
      ∧ g.val ∈ (t.channel ch).retest ∧ (t.channel ch).lanesRetired = (s.channel ch).lanesRetired
      ∧ t.waitsForCore1 (endDie ch first) (channelBit (endDie ch first) 0)
      ∧ (∀ k, k ≠ ch.val → t.channel k = s.channel k) ∧ SameMemory s t ∧ OtherFields s t [])
  ∧ (∀ (s : State) (ch : Fin 32) (g : Fin 8) (lane : Fin 32) (first : Bool), s.laneServes ch g lane = true →
    15 ≤ s.laneErrors ch g lane →
    ∃ t, exec (.channelParityError ch g lane first) s = .next t
      ∧ (g.val, lane.val, s.now) ∈ (t.channel ch).parity ∧ (t.channel ch).rejected = (s.channel ch).rejected + 1
      ∧ g.val ∈ (t.channel ch).retest ∧ (g.val, lane.val) ∈ (t.channel ch).lanesRetired
      ∧ t.waitsForCore1 (endDie ch first) (channelBit (endDie ch first) 0) ∧ SameMemory s t)
  ∧ (∀ (s : State) (ch : Fin 32) (g : Fin 8) (failed : List (Fin 32)), g.val ∈ (s.channel ch).retest →
    ∃ t, exec (.laneRetest ch g failed) s = .next t
      ∧ g.val ∉ (t.channel ch).retest ∧ (∀ l ∈ failed, (g.val, l.val) ∈ (t.channel ch).lanesRetired)
      ∧ (failed = [] → (t.channel ch).lanesRetired = (s.channel ch).lanesRetired
          ∧ (∀ k, k ≠ ch.val → t.channel k = s.channel k) ∧ OtherFields s t [])
      ∧ SameMemory s t)
  ∧ (∀ (s : State) (ch : Fin 32) (g : Fin 8) (failed : List (Fin 32)), g.val ∉ (s.channel ch).retest →
    exec (.laneRetest ch g failed) s = .next s)
  ∧ (∀ (s : State) (st : Fin 16) (u : Fin 3221225472) (row : Nat) (e : Ecc), s.unitReads st u = false ∨ e = .good →
    exec (.hbmReadReturn st u row e) s = .next s)
  ∧ (∀ (s : State) (st : Fin 16) (u : Fin 3221225472) (row : Nat), s.unitReads st u = true →
    ∃ t, exec (.hbmReadReturn st u row .corrected) s = .next t
      ∧ (t.stack st).corr = (s.stack st).corr + 1 ∧ (t.stack st).uncorr = (s.stack st).uncorr
      ∧ (∀ n, n ≠ st.val → t.stack n = s.stack n) ∧ t.hbm.poison = s.hbm.poison ∧ SameMemory s t ∧ OtherFields s t [])
  ∧ (∀ (s : State) (st : Fin 16) (u : Fin 3221225472) (row : Nat), s.unitReads st u = true →
    ∃ t, exec (.hbmReadReturn st u row .uncorrectable) s = .next t
      ∧ (t.stack st).uncorr = (s.stack st).uncorr + 1 ∧ (t.stack st).corr = (s.stack st).corr
      ∧ t.hbm.poison = addAsc ((st.val * stackBytes + u.val * unitBytes) / unitBytes) s.hbm.poison
      ∧ (t.stack st).candidates = addAsc row (s.stack st).candidates ∧ t.waitsForCore1 st 1
      ∧ (∀ n, n ≠ st.val → t.stack n = s.stack n) ∧ SameMemory s t ∧ OtherFields s t [])
  ∧ (∀ (s : State) (st : Fin 16) (row : Nat) (e : Ecc), s.scrubs st = false →
    exec (.hbmScrubRead st row e) s = .next s)
  ∧ (∀ (s : State) (st : Fin 16) (row : Nat) (e : Ecc), s.scrubs st = true →
    s.retiredUnit st (s.stack st).scrubNext = true ∨ e = .good →
    exec (.hbmScrubRead st row e) s = .next (s.modStack st (scrubOn (s.hbmScrubNow st))))
  ∧ (∀ (s : State) (st : Fin 16) (row : Nat), s.scrubs st = true → s.retiredUnit st (s.stack st).scrubNext = false →
    ∃ t, exec (.hbmScrubRead st row .corrected) s = .next t
      ∧ (t.stack st).corr = (s.stack st).corr + 1 ∧ (t.stack st).uncorr = (s.stack st).uncorr
      ∧ (t.stack st).scrubNext = (scrubOn 0 (s.stack st)).scrubNext ∧ t.hbm.poison = s.hbm.poison
      ∧ (∀ n, n ≠ st.val → t.stack n = s.stack n) ∧ SameMemory s t ∧ OtherFields s t [])
  ∧ (∀ (s : State) (st : Fin 16) (row : Nat), s.scrubs st = true → s.retiredUnit st (s.stack st).scrubNext = false →
    ∃ t, exec (.hbmScrubRead st row .uncorrectable) s = .next t
      ∧ (t.stack st).candidates = addAsc row (s.stack st).candidates ∧ (t.stack st).corr = (s.stack st).corr
      ∧ (t.stack st).scrubNext = (scrubOn 0 (s.stack st)).scrubNext
      ∧ (if s.cleanUnit st (s.stack st).scrubNext then t.hbm.poison = s.hbm.poison
          else t.hbm.poison = addAsc ((st.val * stackBytes + (s.stack st).scrubNext * unitBytes) / unitBytes) s.hbm.poison
            ∧ (t.stack st).uncorr = (s.stack st).uncorr + 1)
      ∧ (∀ n, n ≠ st.val → t.stack n = s.stack n) ∧ SameMemory s t ∧ OtherFields s t [])
  ∧ (∀ (s : State) (ch : Fin 32) (group : Fin 8) (lane : Fin 32) (first : Bool), ∃ t, exec (.channelParityError ch
    group lane first) s = .next t ∧ Rest s t [.out, .regs, .hbm, .pkg, .flash, .slabs, .rings, .plots, .fabric,
    .ports, .puts, .tags, .pcie, .power, .faults, .maint])
  ∧ (∀ (s : State) (ch : Fin 32) (group : Fin 8) (failed : List (Fin 32)), ∃ t, exec (.laneRetest ch group failed) s =
    .next t ∧ Rest s t [.out, .regs, .hbm, .pkg, .flash, .slabs, .rings, .plots, .fabric, .ports, .puts, .tags, .pcie,
    .power, .faults, .maint])
  ∧ (∀ (s : State) (stack : Fin 16) (unit : Fin 3221225472) (row : Nat) (ecc : Ecc), ∃ t, exec (.hbmReadReturn stack
    unit row ecc) s = .next t ∧ Rest s t [.out, .regs, .hbm, .flash, .plots, .pcie, .faults, .maint])
  ∧ (∀ (s : State) (stack : Fin 16) (row : Nat) (ecc : Ecc), ∃ t, exec (.hbmScrubRead stack row ecc) s = .next t ∧
    Rest s t [.out, .regs, .hbm, .flash, .plots, .pcie, .faults, .maint])

/-- R21 to R25, R28 to R31: with its lock held a candidate row is repaired onto a spare from the repair buffer, or with no
spare left the pages it touches are retired or marked for it and the row is no candidate; when a repair is complete the row
is no candidate, the buffer is empty and every byte reads as before; a repair that may not start, and a completion of
none, have no effect.  The next line of a bank in service is scrubbed while its scrub is enabled: a sound half holds no
poison, a corrected one is counted, and one that cannot be corrected is poisoned and its bank retired or marked; otherwise
the scrub does nothing.  The first waiting record is written: a lane record to one sector and then to the other, a
fault-log record and a life record once; one that does not verify still waits while a sector is left and is given up
where none is, and either latches its bit.  Life counters are appended once 60 s have passed since the last append.  Each
of the five commands answers a next state in every state, and every part of the state but those listed is as before. -/
def Obligations.RepairsScrubsAndRecordsAdvance : Prop :=
  (∀ (s : State) (st : Fin 16) (row : Nat) (pages : List (Fin 25165824)),
    s.hasLock { kind := 1, unit := st } = true → row ∈ (s.stack st).candidates → (s.stack st).repair = none →
    ∃ t, exec (.rowRepair st row pages true) s = .next t
      ∧ (t.stack st).repair = some row ∧ (t.stack st).candidates = (s.stack st).candidates
      ∧ (∀ n, n ≠ st.val → t.stack n = s.stack n) ∧ SameMemory s t ∧ t = { s with hbm := t.hbm })
  ∧ (∀ (s : State) (st : Fin 16) (row : Nat) (pages : List (Fin 25165824)),
    s.hasLock { kind := 1, unit := st } = true → row ∈ (s.stack st).candidates → (s.stack st).repair = none →
    ∃ t, exec (.rowRepair st row pages false) s = .next t
      ∧ (∀ p ∈ pages, st.val * (stackBytes / pageBytes) + p.val ∈ t.hbm.retired
          ∨ st.val * (stackBytes / pageBytes) + p.val ∈ t.hbm.marked)
      ∧ (t.stack st).candidates = without row (s.stack st).candidates ∧ (t.stack st).repair = none
      ∧ (∀ n, n ≠ st.val → t.stack n = s.stack n) ∧ SameMemory s t)
  ∧ (∀ (s : State) (st : Fin 16) (row : Nat) (pages : List (Fin 25165824)) (spare : Bool),
    s.hasLock { kind := 1, unit := st } = false ∨ row ∉ (s.stack st).candidates ∨ (s.stack st).repair ≠ none →
    exec (.rowRepair st row pages spare) s = .next s)
  ∧ (∀ (s : State) (st : Fin 16) (row : Nat), (s.stack st).repair = some row →
    ∃ t, exec (.rowRepairComplete st) s = .next t
      ∧ (t.stack st).repair = none ∧ (t.stack st).repairBuf = []
      ∧ (t.stack st).candidates = without row (s.stack st).candidates ∧ t.faultBit st 2 = true
      ∧ (∀ n, n ≠ st.val → t.stack n = s.stack n) ∧ SameMemory s t ∧ t.hbm.poison = s.hbm.poison ∧ OtherFields s t [])
  ∧ (∀ (s : State) (st : Fin 16), (s.stack st).repair = none → exec (.rowRepairComplete st) s = .next s)
  ∧ (∀ (s : State) (gd : Fin 16) (b : Fin 64) (up : Bool), s.tileScrubs gd b = true →
    ∃ t, exec (.tileScrub gd b up .good) s = .next t
      ∧ (t.bank gd b).scrubNext = ((s.bank gd b).scrubNext + 1) % 65536
      ∧ (t.bank gd b).poison = without (2 * (s.bank gd b).scrubNext + (if up then 1 else 0)) (s.bank gd b).poison
      ∧ (∀ g c, 64 * g + c ≠ 64 * gd.val + b.val → t.bank g c = s.bank g c) ∧ t = { s with pkg := t.pkg })
  ∧ (∀ (s : State) (gd : Fin 16) (b : Fin 64) (up : Bool), s.tileScrubs gd b = true →
    ∃ t, exec (.tileScrub gd b up .corrected) s = .next t
      ∧ (t.bank gd b).scrubNext = ((s.bank gd b).scrubNext + 1) % 65536 ∧ s.now ∈ (t.bank gd b).corrTimes
      ∧ Tab.val t.pkg.tileCorr gd = Tab.val s.pkg.tileCorr gd + 1
      ∧ 2 * (s.bank gd b).scrubNext + (if up then 1 else 0) ∉ (t.bank gd b).poison
      ∧ (∀ g c, 64 * g + c ≠ 64 * gd.val + b.val → t.bank g c = s.bank g c) ∧ SameMemory s t ∧ OtherFields s t [])
  ∧ (∀ (s : State) (gd : Fin 16) (b : Fin 64) (up : Bool), s.tileScrubs gd b = true →
    ∃ t, exec (.tileScrub gd b up .uncorrectable) s = .next t
      ∧ (t.bank gd b).scrubNext = ((s.bank gd b).scrubNext + 1) % 65536
      ∧ 2 * (s.bank gd b).scrubNext + (if up then 1 else 0) ∈ (t.bank gd b).poison
      ∧ ((t.bank gd b).retired = true ∨ (t.bank gd b).marked = true) ∧ t.waitsForCore1 gd 6
      ∧ (∀ g c, 64 * g + c ≠ 64 * gd.val + b.val → t.bank g c = s.bank g c) ∧ SameMemory s t ∧ OtherFields s t [])
  ∧ (∀ (s : State) (gd : Fin 16) (b : Fin 64) (up : Bool) (e : Ecc), s.tileScrubs gd b = false →
    exec (.tileScrub gd b up e) s = .next s)
  ∧ (∀ (s : State) (left : Bool) (r : LaneRec) (l : List LaneRec), s.flash.pendLane = r :: l →
    s.flash.laneFirst = false →
    exec (.flashRecordWrite true left) s = .next { s with flash := { s.flash with
      laneFirst := true, lanesEven := s.flash.lanesEven ++ [r] } })
  ∧ (∀ (s : State) (left : Bool) (r : LaneRec) (l : List LaneRec), s.flash.pendLane = r :: l →
    s.flash.laneFirst = true →
    ∃ t, exec (.flashRecordWrite true left) s = .next t ∧ t.flash.pendLane = l ∧ t.flash.laneFirst = false
      ∧ t.flash.lanesOdd = s.flash.lanesOdd ++ [r]
      ∧ (r.kind = 4 → s.portState r.unit = portQUARANTINED → t.portState r.unit = portRETIRED)
      ∧ (r.kind ≠ 4 → t = { s with flash := t.flash }) ∧ SameMemory s t)
  ∧ (∀ (s : State) (left : Bool) (r : FaultRec) (l : List FaultRec), s.flash.pendLane = [] →
    s.flash.pendLog = r :: l →
    ∃ t, exec (.flashRecordWrite true left) s = .next t ∧ t.flash.pendLog = l
      ∧ t.flash.log = r :: (if logCapacity ≤ s.flash.log.length then s.flash.log.take (logCapacity - logSector)
          else s.flash.log)
      ∧ t = { s with flash := t.flash })
  ∧ (∀ (s : State) (left : Bool) (r : LifeRec) (l : List LifeRec), s.flash.pendLane = [] → s.flash.pendLog = [] →
    s.flash.pendLife = r :: l →
    exec (.flashRecordWrite true left) s
      = .next { s with flash := { s.flash with pendLife := l, life := r :: s.flash.life } })
  ∧ (∀ (s : State), s.flash.waits = true →
    ∃ t, exec (.flashRecordWrite false true) s = .next t ∧ t.waitsForCore1 24 16
      ∧ t.flash.pendLane = s.flash.pendLane ∧ t.flash.pendLog = s.flash.pendLog ∧ t.flash.pendLife = s.flash.pendLife
      ∧ SameMemory s t ∧ OtherFields s t [])
  ∧ (∀ (s : State), s.flash.waits = true →
    ∃ t, exec (.flashRecordWrite false false) s = .next t ∧ t.waitsForCore1 24 17
      ∧ t.flash.pendLane.length + t.flash.pendLog.length + t.flash.pendLife.length + 1
          = s.flash.pendLane.length + s.flash.pendLog.length + s.flash.pendLife.length
      ∧ SameMemory s t ∧ OtherFields s t [])
  ∧ (∀ (s : State) (good left : Bool), s.flash.waits = false → exec (.flashRecordWrite good left) s = .next s)
  ∧ (∀ (s : State), (∀ n, s.flash.lastLife = some n → n + 60 * perS ≤ s.now) →
    ∃ t, exec .lifeCounterAppend s = .next t ∧ t.flash.lastLife = some s.now
      ∧ t.flash.pendLife.length = s.flash.pendLife.length + 1 ∧ t = { s with flash := t.flash })
  ∧ (∀ (s : State) (n : Nat), s.flash.lastLife = some n → s.now < n + 60 * perS →
    exec .lifeCounterAppend s = .next s)
  ∧ (∀ (s : State) (stack : Fin 16) (row : Nat) (pages : List (Fin 25165824)) (spare : Bool), ∃ t, exec (.rowRepair
    stack row pages spare) s = .next t ∧ Rest s t [.out, .regs, .hbm, .flash, .plots, .pcie, .faults, .maint])
  ∧ (∀ (s : State) (stack : Fin 16), ∃ t, exec (.rowRepairComplete stack) s = .next t ∧ Rest s t [.out, .regs, .hbm,
    .flash, .plots, .tags, .pcie, .faults, .maint])
  ∧ (∀ (s : State) (gd : Fin 16) (bank : Fin 64) (upper : Bool) (ecc : Ecc), ∃ t, exec (.tileScrub gd bank upper ecc)
    s = .next t ∧ Rest s t [.out, .regs, .pkg, .flash, .plots, .pcie, .faults])
  ∧ (∀ (s : State) (good sectorLeft : Bool), ∃ t, exec (.flashRecordWrite good sectorLeft) s = .next t ∧ Rest s t
    [.draws, .out, .regs, .flash, .plots, .fabric, .pcie, .power, .faults])
  ∧ (∀ (s : State), ∃ t, exec .lifeCounterAppend s = .next t ∧ Rest s t [.flash])

/-- R34, R38, R40, R41, R43: once 8,192 periods have passed since the last window of a die in service, the replica's count,
held to what its die can deliver, becomes its rate.  A handshake whose watchdog has run for PERIOD_US latches its bit: of an
engine, which is reset; of a channel, whose groups in service wait for a retest; of a core; before that, for a die out of
service or in a brown-out, for a retired channel and before boot, an expiry has no effect.  A grove die whose oscillator
fails is fenced and latches its bit, a verge die latches its bit, and the clearing die latches its bit and clears SOSC_OK.
Each of the three commands answers a next state in every state, and every part of the state but those listed is as
before. -/
def Obligations.OscillatorsAndWatchdogsReport : Prop :=
  (∀ (s : State) (gd : Fin 16) (n : Nat), s.fenced gd = false → (s.die gd).supplyOn = true →
    s.past (s.die gd).windowAt 8192 = true →
    ∃ t, exec (.rateWindow gd n) s = .next t
      ∧ t.rd (STS_GD_RATE.RATE_COUNT gd) = rateReading (s.rd (STS_GD_POWER.VOLT_MV gd)) (s.die gd).tempC n % 2 ^ 24
      ∧ (t.die gd).windowAt = s.now ∧ (∀ d, d ≠ gd.val → t.die d = s.die d)
      ∧ t = { s with regs := t.regs, power := t.power } ∧ FieldsKept s t [(STS_GD_RATE.RATE_COUNT gd).key])
  ∧ (∀ (s : State) (gd : Fin 16) (n : Nat), s.fenced gd = true ∨ (s.die gd).supplyOn = false ∨
    s.past (s.die gd).windowAt 8192 = false → exec (.rateWindow gd n) s = .next s)
  ∧ (∀ (s : State) (what : Watched) (since : Nat), s.past since (s.rd CFG_STALL_WDOG.PERIOD_US * perUs) = false →
    exec (.watchdogExpiry what since) s = .next s)
  ∧ (∀ (s : State) (gd : Fin 16) (e : Fin 9) (since : Nat), s.past since (s.rd CFG_STALL_WDOG.PERIOD_US * perUs) = true →
    s.groveUp gd = true → (s.die gd).supplyOn = true → (s.die gd).brownout = none →
    ∃ t, exec (.watchdogExpiry (.engine gd e) since) s = .next t ∧ t.waitsForCore1 gd (12 + e)
      ∧ (t.engine gd e).resets = (s.engine gd e).resets + 1)
  ∧ (∀ (s : State) (gd : Fin 16) (e : Fin 9) (since : Nat), s.groveUp gd = false ∨ (s.die gd).supplyOn = false ∨
    (s.die gd).brownout ≠ none → exec (.watchdogExpiry (.engine gd e) since) s = .next s)
  ∧ (∀ (s : State) (ch : Fin 32) (first : Bool) (since : Nat),
    s.past since (s.rd CFG_STALL_WDOG.PERIOD_US * perUs) = true → (s.channel ch).retired = false →
    s.fenced (stallDie ch first) = false → (s.die (stallDie ch first)).supplyOn = true →
    (s.die (stallDie ch first)).brownout = none →
    ∃ t, exec (.watchdogExpiry (.channel ch first) since) s = .next t ∧ t.waitsForCore1 (stallDie ch first) 11
      ∧ (∀ g, g < groupsOf ch → g ∉ (s.channel ch).groupsRetired → g ∈ (t.channel ch).retest)
      ∧ SameMemory s t ∧ OtherFields s t [])
  ∧ (∀ (s : State) (ch : Fin 32) (first : Bool) (since : Nat), (s.channel ch).retired = true ∨
    s.fenced (stallDie ch first) = true ∨ (s.die (stallDie ch first)).supplyOn = false ∨
    (s.die (stallDie ch first)).brownout ≠ none → exec (.watchdogExpiry (.channel ch first) since) s = .next s)
  ∧ (∀ (s : State) (c : Fin 32) (since : Nat), s.past since (s.rd CFG_STALL_WDOG.PERIOD_US * perUs) = true →
    s.sec.booted = true →
    ∃ t, exec (.watchdogExpiry (.core c) since) s = .next t ∧ t.waitsForCore1 24 (if c.val < 4 then 3 else 2)
      ∧ SameMemory s t)
  ∧ (∀ (s : State) (c : Fin 32) (since : Nat), s.sec.booted = false →
    exec (.watchdogExpiry (.core c) since) s = .next s)
  ∧ (∀ (s : State) (d : Fin 25), ∃ t, exec (.soscFault d) s = .next t ∧ d.val ∈ t.clocks.soscBad
      ∧ (d.val < 16 → t.fenced d = true ∧ t.waitsForCore1 d 26 ∧ SameMemory s t)
      ∧ (16 ≤ d.val → d.val < 24 → t.waitsForCore1 d 29 ∧ SameMemory s t ∧ OtherFields s t [])
      ∧ (d.val = 24 → t.waitsForCore1 24 11 ∧ t.rd CLK_STATUS.SOSC_OK = 0 ∧ SameMemory s t
          ∧ OtherFields s t [CLK_STATUS.SOSC_OK.key]))
  ∧ (∀ (s : State) (gd : Fin 16) (count : Nat), ∃ t, exec (.rateWindow gd count) s = .next t ∧ Rest s t [.regs,
    .power])
  ∧ (∀ (s : State) (what : Watched) (since : Nat), ∃ t, exec (.watchdogExpiry what since) s = .next t ∧ Rest s t
    [.draws, .out, .regs, .hbm, .pkg, .flash, .engines, .rings, .plots, .matJobs, .fabric, .ports, .tags, .pcie,
    .cores, .faults, .maint])
  ∧ (∀ (s : State) (die : Fin 25), ∃ t, exec (.soscFault die) s = .next t ∧ Rest s t [.out, .regs, .hbm, .pkg, .flash,
    .clocks, .slabs, .rings, .plots, .fabric, .ports, .puts, .tags, .pcie, .power, .faults, .maint])

/-- R47 to R49, R51, R265, R426: a wanted change of an HBM loop or of a port's rate starts once no droop response is active and
20 µs have passed since the last one or the change has waited 10 ms, which is counted; one of an HBM loop or of a port's mode
also needs its lock, and a change of mode takes the port down; otherwise it does not start.  The completion of a change puts
the written pin rate and spread in force on an HBM loop, or the mode on a port, which then trains; a completion of none has
no effect.  A loop that loses lock shows it, its islands stop and its bit latches, and so does the bit of a repeated loss
within 1 s; lock returns while the reference has edges; a reference without an edge for 20 µs takes lock from every loop it
feeds, and edges give it back.  Dividers are applied as CLK_DIV holds them.  A written pin rate stores unless its code is
reserved; CLK_SSC stores with DEPTH at most 10; each loop that then differs changes already or asks for a frequency change;
a write that the path may not make has no effect.  Each of the nine commands answers a next state in every state, and every
part of the state but those listed is as before. -/
def Obligations.ClocksChangeLockAndStore : Prop :=
  (∀ (s : State) (g : Fin 28), (∀ f ∈ s.clocks.wanted, f.target ≠ g.val) ∨ s.droopActive = true ∨
    (s.droopHeld = false ∧ ∀ f ∈ s.clocks.wanted, s.now < f.since + 10 * perMs) ∨
    ((g.val < 4 ∨ s.modeDiffers (g.val - 4) = true) ∧ s.hasLock (freqLock g) = false) →
    exec (.frequencyChange g) s = .next s)
  ∧ (∀ (s : State) (g : Fin 28) (f : FreqReq), s.clocks.wanted.find? (fun f => decide (f.target = g.val)) = some f →
    s.droopActive = false → s.droopHeld = true ∨ f.since + 10 * perMs ≤ s.now →
    (g.val < 4 ∧ s.hasLock (freqLock g) = true) ∨ (4 ≤ g.val ∧ s.modeDiffers (g.val - 4) = false) →
    ∃ t, exec (.frequencyChange g) s = .next t ∧ g.val ∈ t.clocks.active
      ∧ (∀ f ∈ t.clocks.wanted, f.target ≠ g.val)
      ∧ t.rd CNT_PWR_EVENTS.DEFER_FORCED = (if s.droopHeld then s.rd CNT_PWR_EVENTS.DEFER_FORCED
          else min (s.rd CNT_PWR_EVENTS.DEFER_FORCED + 1) (2 ^ CNT_PWR_EVENTS.DEFER_FORCED.width - 1))
      ∧ t = { s with clocks := t.clocks, regs := t.regs } ∧ FieldsKept s t [CNT_PWR_EVENTS.DEFER_FORCED.key])
  ∧ (∀ (s : State) (g : Fin 28) (f : FreqReq), s.clocks.wanted.find? (fun f => decide (f.target = g.val)) = some f →
    s.droopActive = false → s.droopHeld = true ∨ f.since + 10 * perMs ≤ s.now →
    4 ≤ g.val → s.modeDiffers (g.val - 4) = true → s.hasLock (freqLock g) = true →
    ∃ t, exec (.frequencyChange g) s = .next t ∧ g.val ∈ t.clocks.active
      ∧ (∀ f ∈ t.clocks.wanted, f.target ≠ g.val)
      ∧ t.portState (g.val - 4) = (if s.portState (g.val - 4) = portRETIRED then portRETIRED else portDOWN)
      ∧ SameMemory s t)
  ∧ (∀ (s : State) (g : Fin 28), g.val ∉ s.clocks.active → exec (.frequencyChangeComplete g) s = .next s)
  ∧ (∀ (s : State) (g : Fin 28), g.val ∈ s.clocks.active → g.val < 4 →
    ∃ t, exec (.frequencyChangeComplete g) s = .next t ∧ g.val ∉ t.clocks.active
      ∧ Tab.val t.clocks.hbmRate g = s.rd CLK_HBM_RATE.HBM_PIN_RATE ∧ Tab.val t.clocks.hbmSpread g = s.spreadOf g
      ∧ SameMemory s t ∧ OtherFields s t [])
  ∧ (∀ (s : State) (g : Fin 28), g.val ∈ s.clocks.active → 4 ≤ g.val → s.modeDiffers (g.val - 4) = false →
    ∃ t, exec (.frequencyChangeComplete g) s = .next t ∧ g.val ∉ t.clocks.active
      ∧ (t.port (g.val - 4)).reduced = ((s.port (g.val - 4)).reduced && !(s.port (g.val - 4)).upgrade)
      ∧ SameMemory s t)
  ∧ (∀ (s : State) (g : Fin 28), g.val ∈ s.clocks.active → 4 ≤ g.val → s.modeDiffers (g.val - 4) = true →
    ∃ t, exec (.frequencyChangeComplete g) s = .next t ∧ g.val ∉ t.clocks.active
      ∧ (t.port (g.val - 4)).appliedMode = s.targetMode (g.val - 4)
      ∧ t.portState (g.val - 4) = (if s.targetMode (g.val - 4) = 0 ∨ s.portState (g.val - 4) = portRETIRED then
          s.portState (g.val - 4) else portTRAINING)
      ∧ SameMemory s t)
  ∧ (∀ (s : State) (l : Fin 15), s.loopLocked l = true →
    ∃ t, exec (.lossOfLock l) s = .next t ∧ t.loopLocked l = false ∧ (Tab.val t.clocks.loops l).islandStopped = true
      ∧ (Tab.val t.clocks.loops l).lastLoss = some s.now
      ∧ (∀ d ∈ (lockBits l).1, t.faultBit d (lockBits l).2.1 = true)
      ∧ (∀ n, (Tab.val s.clocks.loops l).lastLoss = some n → s.now < n + perS →
          ∀ d ∈ (lockBits l).1, t.faultBit d (lockBits l).2.2 = true)
      ∧ SameMemory s t)
  ∧ (∀ (s : State) (l : Fin 15), s.loopLocked l = false → exec (.lossOfLock l) s = .next s)
  ∧ (∀ (s : State) (l : Fin 15), refOfLoop l ∉ s.clocks.refDown →
    ∃ t, exec (.relock l) s = .next t ∧ t.loopLocked l = true ∧ (Tab.val t.clocks.loops l).islandStopped = false
      ∧ SameMemory s t)
  ∧ (∀ (s : State) (l : Fin 15), refOfLoop l ∈ s.clocks.refDown → exec (.relock l) s = .next s)
  ∧ (∀ (s : State) (r : Fin 3) (n : Nat), s.past n (20 * perUs) = true →
    ∃ t, exec (.referenceEdgeTimeout r n) s = .next t ∧ r.val ∈ t.clocks.refDown
      ∧ (∀ l ∈ loopsOfRef r, t.loopLocked l = false) ∧ SameMemory s t)
  ∧ (∀ (s : State) (r : Fin 3) (n : Nat), s.past n (20 * perUs) = false →
    exec (.referenceEdgeTimeout r n) s = .next s)
  ∧ (∀ (s : State) (r : Fin 3), r.val ∈ s.clocks.refDown →
    ∃ t, exec (.referenceEdgesReturn r) s = .next t ∧ r.val ∉ t.clocks.refDown
      ∧ (∀ l ∈ loopsOfRef r, t.loopLocked l = true) ∧ SameMemory s t)
  ∧ (∀ (s : State) (r : Fin 3), r.val ∉ s.clocks.refDown → exec (.referenceEdgesReturn r) s = .next s)
  ∧ (∀ (s : State), exec (.dividerApply .bridge) s
      = .next { s with clocks := { s.clocks with divBridge := s.rd CLK_DIV.BRIDGE_DIV } })
  ∧ (∀ (s : State), exec (.dividerApply .mgtBus) s
      = .next { s with clocks := { s.clocks with divMgt := s.rd CLK_DIV.MGT_BUS_DIV } })
  ∧ (∀ (s : State) (st : Fin 16), exec (.dividerApply (.hbmCtl st)) s
      = .next { s with clocks := { s.clocks with divHbm := s.clocks.divHbm.set st (s.rd CLK_DIV.HBM_CTL_DIV) } })
  ∧ (∀ (s : State) (path : Fin 6) (v : BitVec 32), s.writeOpen path 0x10030 = true → v.toNat % 4 ≠ 3 →
    ∃ t, exec (.hbmPinRateWrite path v) s = .next t ∧ t.rd CLK_HBM_RATE.HBM_PIN_RATE = v.toNat % 4
      ∧ (∀ g, g < 4 → Tab.val s.clocks.hbmRate g ≠ v.toNat % 4 →
          g ∈ s.clocks.active ∨ ∃ f ∈ t.clocks.wanted, f.target = g)
      ∧ SameMemory s t ∧ OtherFields s t [CLK_HBM_RATE.HBM_PIN_RATE.key])
  ∧ (∀ (s : State) (path : Fin 6) (v : BitVec 32), s.writeOpen path 0x10030 = false ∨ v.toNat % 4 = 3 →
    exec (.hbmPinRateWrite path v) s = .next s)
  ∧ (∀ (s : State) (path : Fin 6) (v : BitVec 32), s.writeOpen path 0x10010 = true →
    ∃ t, exec (.spreadSpectrumWrite path v) s = .next t ∧ t.rd CLK_SSC.DEPTH = min 10 (bits v.toNat 11 8)
      ∧ t.rd CLK_SSC.RATE = bits v.toNat 13 12 ∧ t.rd CLK_SSC.HBM_EN = bits v.toNat 3 0
      ∧ t.rd CLK_SSC.REFOUT_EN = bits v.toNat 4 4
      ∧ (∀ g, g < 4 → Tab.val s.clocks.hbmSpread g ≠ t.spreadOf g →
          g ∈ s.clocks.active ∨ ∃ f ∈ t.clocks.wanted, f.target = g)
      ∧ SameMemory s t
      ∧ OtherFields s t [CLK_SSC.RATE.key, CLK_SSC.DEPTH.key, CLK_SSC.REFOUT_EN.key, CLK_SSC.HBM_EN.key])
  ∧ (∀ (s : State) (path : Fin 6) (v : BitVec 32), s.writeOpen path 0x10010 = false →
    exec (.spreadSpectrumWrite path v) s = .next s)
  ∧ (∀ (s : State) (target : Fin 28), ∃ t, exec (.frequencyChange target) s = .next t ∧ Rest s t [.out, .regs,
    .clocks, .slabs, .rings, .fabric, .ports, .puts, .tags, .power, .maint])
  ∧ (∀ (s : State) (target : Fin 28), ∃ t, exec (.frequencyChangeComplete target) s = .next t ∧ Rest s t [.out, .regs,
    .clocks, .fabric, .ports, .maint])
  ∧ (∀ (s : State) (loop : Fin 15), ∃ t, exec (.lossOfLock loop) s = .next t ∧ Rest s t [.out, .regs, .flash, .clocks,
    .plots, .pcie, .faults])
  ∧ (∀ (s : State) (loop : Fin 15), ∃ t, exec (.relock loop) s = .next t ∧ Rest s t [.out, .regs, .clocks, .ports,
    .mac])
  ∧ (∀ (s : State) (ref : Fin 3) (lastEdge : Nat), ∃ t, exec (.referenceEdgeTimeout ref lastEdge) s = .next t ∧ Rest s
    t [.out, .regs, .flash, .clocks, .plots, .pcie, .faults])
  ∧ (∀ (s : State) (ref : Fin 3), ∃ t, exec (.referenceEdgesReturn ref) s = .next t ∧ Rest s t [.out, .regs, .clocks,
    .ports, .mac])
  ∧ (∀ (s : State) (which : Divider), ∃ t, exec (.dividerApply which) s = .next t ∧ Rest s t [.clocks])
  ∧ (∀ (s : State) (path : Fin 6) (v : BitVec 32), ∃ t, exec (.hbmPinRateWrite path v) s = .next t ∧ Rest s t [.regs,
    .clocks, .maint])
  ∧ (∀ (s : State) (path : Fin 6) (v : BitVec 32), ∃ t, exec (.spreadSpectrumWrite path v) s = .next t ∧ Rest s t
    [.regs, .clocks, .maint])

/-- R85, R87, R91 to R93, R112, R113: a MATMUL that passes its checks, and whose operands can be read, is divided into
tiles of at most 256 by 256 results, its K axis into shares, and nothing is written yet; an empty product ends with
OK_EMPTY; one that fails checks ends with DESC_ERROR and the lowest of their offsets; one that may not issue waits, and one
that a rule of its step ends has no effect.  A free array in service of a bound plot takes the next tile of its plot,
forward or backward, and with work in both directions as Table 4.6 shares it; with no such tile, or where it may take
none, nothing happens.  Each of the two commands answers a next state in every state, and every part of the state but
those listed is as before. -/
def Obligations.MatmulsDivideIntoTilesThatArraysTake : Prop :=
  (∀ (s : State) (ring : Fin 1024) (idx : Nat) (e : Entry), s.takes ring idx opMATMUL e →
    firstFail (matFields e) = none → e.mM ≠ 0 → e.mN ≠ 0 → e.mK ≠ 0 →
    firstFail (s.matHandles (s.ringPlot ring) e) = none →
    (1 < e.mShares → s.checkVe (s.ringPlot ring) = .ok ()) →
    s.checkWhole (s.ringPlot ring) (s.tensorOf (s.ringPlot ring) (e.u16 8)) = .ok () →
    s.checkWhole (s.ringPlot ring) (s.tensorOf (s.ringPlot ring) (e.u16 10)) = .ok () →
    (e.mAccum = true → s.checkWhole (s.ringPlot ring) (s.tensorOf (s.ringPlot ring) (e.u16 12)) = .ok ()
      ∧ ∃ l, s.load (s.ringPlot ring) (s.tensorOf (s.ringPlot ring) (e.u16 12)) = .ok l) →
    ∃ t j, exec (.matmul ring idx) s = .next t ∧ t.matJobs = s.matJobs ++ [j] ∧ j.ring = ring.val ∧ j.idx = idx
      ∧ j.tiles = matTiles e ∧ t.regs = s.regs ∧ SameMemory s t ∧ OtherEntries s t ring idx)
  ∧ (∀ (s : State) (ring : Fin 1024) (idx : Nat) (e : Entry), s.takes ring idx opMATMUL e →
    firstFail (matFields e) = none → (e.mM = 0 ∨ e.mN = 0 ∨ e.mK = 0) →
    ∃ t, exec (.matmul ring idx) s = .next t ∧ t.ended ring idx 0x01 0 ∧ t.matJobs = s.matJobs ∧ t.regs = s.regs
      ∧ SameMemory s t ∧ OtherEntries s t ring idx)
  ∧ (∀ (s : State) (ring : Fin 1024) (idx v : Nat) (e : Entry), s.takes ring idx opMATMUL e →
    firstFail (if e.mM = 0 ∨ e.mN = 0 ∨ e.mK = 0 then matFields e
      else matFields e ++ s.matHandles (s.ringPlot ring) e) = some v →
    exec (.matmul ring idx) s = .next ((s.setStage ring idx 2).finish ring idx 0x10 v))
  ∧ WaitsOrStops opMATMUL .matmul
  ∧ (∀ (e : Entry), (matTiles e).length = ceilDiv e.mM 256 * (ceilDiv e.mN 256 * e.mShares)
    ∧ ∀ t ∈ matTiles e, t.rows ≤ 256 ∧ t.cols ≤ 256 ∧ t.klen ≤ kMax ∧ t.row0 + t.rows ≤ e.mM
      ∧ t.col0 + t.cols ≤ e.mN ∧ t.k0 + t.klen ≤ e.mK)
  ∧ (∀ (s : State) (a : Fin 48) (p : Nat), s.ownerOfEngine (a / 3) (a % 3) = some p → s.groveUp (a / 3) = true →
    (s.die (a / 3)).brownout = none → (s.array a).tile = none → s.plotState p = plotBOUND → s.running = true →
    (s.nextTile p false).isSome = true ∨ (s.nextTile p true).isSome = true →
    ∃ t x, exec (.tileAssign a) s = .next t ∧ (t.array a).tile = some x
      ∧ (s.nextTile p false = some x ∨ s.nextTile p true = some x)
      ∧ (∀ f b, s.nextTile p false = some f → s.nextTile p true = some b →
          x = if s.shareBack p a = true then b else f)
      ∧ (∀ b : Fin 48, b ≠ a → t.array b = s.array b) ∧ SameMemory s t
      ∧ FieldsKept s t [(CNT_ESC_FALLBACK.COUNT p).key, (CNT_ESC_REPEATS.COUNT p).key,
          (CNT_MA_TILES.REPEATS (a / 3) (a % 3)).key])
  ∧ (∀ (s : State) (a : Fin 48), s.ownerOfEngine (a / 3) (a % 3) = none → exec (.tileAssign a) s = .next s)
  ∧ (∀ (s : State) (a : Fin 48) (p : Nat), s.ownerOfEngine (a / 3) (a % 3) = some p →
    s.groveUp (a / 3) = false ∨ (s.die (a / 3)).brownout ≠ none ∨ (s.array a).tile ≠ none ∨ s.plotState p ≠ plotBOUND
      ∨ s.running = false ∨ (s.nextTile p false = none ∧ s.nextTile p true = none) →
    exec (.tileAssign a) s = .next s)
  ∧ (∀ (s : State) (ring : Fin 1024) (idx : Nat), ∃ t, exec (.matmul ring idx) s = .next t ∧ Rest s t [.out, .regs,
    .hbm, .flash, .rings, .plots, .matJobs, .pcie, .faults])
  ∧ (∀ (s : State) (array : Fin 48), ∃ t, exec (.tileAssign array) s = .next t ∧ Rest s t [.regs, .engines, .plots,
    .matJobs])

/-- R96 to R100, R124, R129, R134: a pass that may issue stages its operands, adds to the counts of its run, drains the
pass before it into the combining stacks and enters the array, unless a check already fails against the totals: then the
run asks the plot's budget for a repeat; a read of tile memory that cannot be corrected ends the descriptor with
DATA_POISONED.  After its last pass a run whose checks fail asks for a repeat; one that demands none drains and frees its
array, and writes its results or goes out as a partial of a split tile.  A pass that may not issue, and a run that may not
end, wait without effect.  Each of the two commands answers a next state in every state, and every part of the state but
those listed is as before. -/
def Obligations.PassesIssueCompleteOrAskForRepeats : Prop :=
  (∀ (s s1 s2 : State) (a : Fin 48) (r i k : Nat) (j : MatJob) (t : Tile) (e : Entry) (xa xb : Opnd) (na nb : OpCount)
    (tile : List (Fin 64 × Fin 131072 × Ecc)),
    let p := s.ringPlot r
    let c := s.runCodes p e j t.pos t.last
    let f := s.runFmts p e c
    let kp := kPass f.1 f.2
    s.tileOn a = some (r, i, k, j, t, e) → s.running = true → s.groveUp (a / 3) = true →
    (s.die (a / 3)).brownout = none → t.demand = none → t.granted = none → t.passes < ceilDiv t.klen kp →
    s.anyStalled (s.passReads p a e t kp t.passes) = false → s.tileLost p (a / 3) tile = false →
    (s.tileReads p (a / 3) tile).sliceA p (a / 3) e t c kp t.passes = .ok (s1, xa, na) →
    s1.takeB p a e t c kp t.passes = .ok (s2, xb, nb) →
    (t.last = true ∨ runDemand (judged e j t c t.klen true (t.cntA.add na, t.cntB.add nb)) = 0) →
    ∃ u, exec (.arrayPassIssue a tile) s = .next u
      ∧ (u.job r i).bind (fun j => j.tiles[k]?) = some { t with
          passes := t.passes + 1, cntA := t.cntA.add na, cntB := t.cntB.add nb, ready := xa, stack := s.drainSums a t }
      ∧ (u.array a).tile = some (r, i, k) ∧ (u.array a).active = xb ∧ SameMemory s u ∧ OtherFields s u workKeys)
  ∧ (∀ (s s1 s2 : State) (a : Fin 48) (r i k : Nat) (j : MatJob) (t : Tile) (e : Entry) (xa xb : Opnd) (na nb : OpCount)
    (tile : List (Fin 64 × Fin 131072 × Ecc)),
    let p := s.ringPlot r
    let c := s.runCodes p e j t.pos t.last
    let f := s.runFmts p e c
    let kp := kPass f.1 f.2
    let d := runDemand (judged e j t c t.klen true (t.cntA.add na, t.cntB.add nb))
    s.tileOn a = some (r, i, k, j, t, e) → s.running = true → s.groveUp (a / 3) = true →
    (s.die (a / 3)).brownout = none → t.demand = none → t.granted = none → t.passes < ceilDiv t.klen kp →
    s.anyStalled (s.passReads p a e t kp t.passes) = false → s.tileLost p (a / 3) tile = false →
    (s.tileReads p (a / 3) tile).sliceA p (a / 3) e t c kp t.passes = .ok (s1, xa, na) →
    s1.takeB p a e t c kp t.passes = .ok (s2, xb, nb) → t.last = false → d ≠ 0 →
    ∃ u, exec (.arrayPassIssue a tile) s = .next u
      ∧ (u.job r i).bind (fun j => j.tiles[k]?)
        = some { t with cntA := t.cntA.add na, cntB := t.cntB.add nb, demand := some d }
      ∧ (u.plot p).requests = (s.plot p).requests ++ [(r, i, k)] ∧ SameMemory s u)
  ∧ (∀ (s : State) (a : Fin 48) (r i k : Nat) (j : MatJob) (t : Tile) (e : Entry)
    (tile : List (Fin 64 × Fin 131072 × Ecc)),
    let p := s.ringPlot r
    let c := s.runCodes p e j t.pos t.last
    let f := s.runFmts p e c
    let kp := kPass f.1 f.2
    s.tileOn a = some (r, i, k, j, t, e) → e.stage = 2 → s.running = true → s.groveUp (a / 3) = true →
    (s.die (a / 3)).brownout = none → t.demand = none → t.granted = none → t.passes < ceilDiv t.klen kp →
    s.anyStalled (s.passReads p a e t kp t.passes) = false → s.tileLost p (a / 3) tile = true →
    ∃ u, exec (.arrayPassIssue a tile) s = .next u ∧ u.job r i = none ∧ (u.array a).tile = none
      ∧ u.ended r i 0x12 0 ∧ SameMemory s u)
  ∧ (∀ (s : State) (a : Fin 48) (tile : List (Fin 64 × Fin 131072 × Ecc)), s.tileOn a = none →
    exec (.arrayPassIssue a tile) s = .next s)
  ∧ (∀ (s : State) (a : Fin 48) (r i k : Nat) (j : MatJob) (t : Tile) (e : Entry)
    (tile : List (Fin 64 × Fin 131072 × Ecc)),
    let p := s.ringPlot r
    let f := s.runFmts p e (s.runCodes p e j t.pos t.last)
    s.tileOn a = some (r, i, k, j, t, e) →
    s.running = false ∨ s.groveUp (a / 3) = false ∨ (s.die (a / 3)).brownout ≠ none ∨ t.demand ≠ none ∨ t.granted ≠ none
      ∨ ceilDiv t.klen (kPass f.1 f.2) ≤ t.passes
      ∨ s.anyStalled (s.passReads p a e t (kPass f.1 f.2) t.passes) = true →
    exec (.arrayPassIssue a tile) s = .next s)
  ∧ (∀ (s : State) (a : Fin 48) (r i k : Nat) (j : MatJob) (t : Tile) (e : Entry),
    let d := runDemand (judged e j t (s.runCodes (s.ringPlot r) e j t.pos t.last) t.klen false (t.cntA, t.cntB))
    s.tileOn a = some (r, i, k, j, t, e) → s.runEnds a r e j t → t.last = false → d ≠ 0 →
    ∃ u, exec (.arrayPassComplete a) s = .next u
      ∧ (u.job r i).bind (fun j => j.tiles[k]?) = some { t with demand := some d }
      ∧ (u.plot (s.ringPlot r)).requests = (s.plot (s.ringPlot r)).requests ++ [(r, i, k)] ∧ SameMemory s u)
  ∧ (∀ (s : State) (a : Fin 48) (r i k : Nat) (j : MatJob) (t : Tile) (e : Entry),
    s.tileOn a = some (r, i, k, j, t, e) → s.runEnds a r e j t →
    (t.last = true ∨ runDemand (judged e j t (s.runCodes (s.ringPlot r) e j t.pos t.last) t.klen false
      (t.cntA, t.cntB)) = 0) → e.mShares ≠ 1 →
    ∃ u j', exec (.arrayPassComplete a) s = .next u ∧ u.job r i = some j'
      ∧ j'.partials = j.partials ++ [(k / e.mShares, k % e.mShares,
          (stackFold (addTile addFlush) ([], 0) (s.drainSums a t)).1)]
      ∧ j'.tiles[k]? = some { t with done := true, array := none }
      ∧ (u.array a).tile = none ∧ SameMemory s u)
  ∧ (∀ (s : State) (a : Fin 48) (r i k : Nat) (j : MatJob) (t : Tile) (e : Entry),
    let p := s.ringPlot r
    s.tileOn a = some (r, i, k, j, t, e) → s.runEnds a r e j t →
    (t.last = true ∨ runDemand (judged e j t (s.runCodes p e j t.pos t.last) t.klen false (t.cntA, t.cntB)) = 0) →
    e.mShares = 1 → e.stage = 2 → p < 64 → s.sound p (e.u16 12) → (e.mAccum = true → ∃ y, s.oldTile p e j t = .ok y) →
    (e.mFuse = true → s.sound p (e.u16 14) ∧ (s.tensorOf p (e.u16 14)).fmt = 0xE
      ∧ 2 * (e.mM * ceilDiv e.mN 256) ≤ (s.tensorOf p (e.u16 14)).count ∧ t.row0 + t.rows ≤ e.mM ∧ t.col0 < e.mN) →
    ∃ u, exec (.arrayPassComplete a) s = .next u ∧ (u.array a).tile = none
      ∧ (u.job r i = none → u.ended r i 0x00 j.repeats)
      ∧ OnlyTensors s u p (if e.mFuse then [e.u16 12, e.u16 14] else [e.u16 12]) [e.u16 8, e.u16 10])
  ∧ (∀ (s : State) (a : Fin 48), s.tileOn a = none → exec (.arrayPassComplete a) s = .next s)
  ∧ (∀ (s : State) (a : Fin 48) (r i k : Nat) (j : MatJob) (t : Tile) (e : Entry),
    s.tileOn a = some (r, i, k, j, t, e) → ¬ s.runEnds a r e j t → exec (.arrayPassComplete a) s = .next s)
  ∧ (∀ (s : State) (array : Fin 48) (tile : List (Fin 64 × Fin 131072 × Ecc)), ∃ t, exec (.arrayPassIssue array tile)
    s = .next t ∧ Rest s t [.draws, .out, .regs, .hbm, .pkg, .flash, .engines, .rings, .plots, .matJobs, .pcie,
    .power, .faults])
  ∧ (∀ (s : State) (array : Fin 48), ∃ t, exec (.arrayPassComplete array) s = .next t ∧ Rest s t [.draws, .out, .regs,
    .hbm, .flash, .engines, .rings, .plots, .matJobs, .pcie, .power, .faults, .bytes])

/-- R99, R134 to R138, R157: a repeat outside a step is granted as demanded; within one it counts against the budget
until the budget is spent, which shows the step overrun, and from then on it is refused and granted at a fallback rung; with
no request nothing happens.  The answer begins the tile's next run or, where Sapling service allows no such run, sets the
tile aside and frees the array; an array with no answer does nothing.  A partial that is not the last of its tile, or of
a split REDUCE or NORM_BWD, joins its combining stack; with the last one the results are written; none arrives while the
die that combines is in a brown-out or its memory stalls.  Each of the three commands answers a next state in every state, and
every part of the state but those listed is as before. -/
def Obligations.RepeatsDrawOnTheBudget : Prop :=
  (∀ (s : State) (p : Fin 64) (r i k : Nat) (rest : List (Nat × Nat × Nat)) (j : MatJob) (e : Entry) (t : Tile),
    (s.plot p).requests = (r, i, k) :: rest → s.job r i = some j → s.entry r i = some e → j.tiles[k]? = some t →
    e.member = false →
    ∃ u, exec (.repeatRequest p) s = .next u ∧ (u.plot p).requests = rest
      ∧ (u.job r i).bind (fun j => j.tiles[k]?) = some { t with granted := some (t.demand.getD 0) }
      ∧ u.regs = s.regs ∧ SameMemory s u)
  ∧ (∀ (s : State) (p : Fin 64) (r i k : Nat) (rest : List (Nat × Nat × Nat)) (j : MatJob) (e : Entry) (t : Tile) (q : Step),
    (s.plot p).requests = (r, i, k) :: rest → s.job r i = some j → s.entry r i = some e → j.tiles[k]? = some t →
    e.member = true → (s.plot p).step = some q → q.exhausted = false →
    (q.repeats < s.rd (CFG_ESC_BUDGET.MIN_REPEATS p)
      ∨ (q.repeats + 1) * 65536 ≤ s.rd (CFG_ESC_BUDGET.FRACTION p) * q.tiles) →
    ∃ u, exec (.repeatRequest p) s = .next u ∧ (u.plot p).requests = rest
      ∧ (u.job r i).bind (fun j => j.tiles[k]?) = some { t with granted := some (t.demand.getD 0) }
      ∧ (u.plot p).step = some { q with repeats := q.repeats + 1 } ∧ u.regs = s.regs ∧ SameMemory s u)
  ∧ (∀ (s : State) (p : Fin 64) (r i k : Nat) (rest : List (Nat × Nat × Nat)) (j : MatJob) (e : Entry) (t : Tile) (q : Step),
    (s.plot p).requests = (r, i, k) :: rest → s.job r i = some j → s.entry r i = some e → j.tiles[k]? = some t →
    e.member = true → (s.plot p).step = some q → q.exhausted = false →
    s.rd (CFG_ESC_BUDGET.MIN_REPEATS p) ≤ q.repeats →
    s.rd (CFG_ESC_BUDGET.FRACTION p) * q.tiles < (q.repeats + 1) * 65536 →
    let fb := ((s.quantised p e j).map (fun o => fallbackRung o.2.2)).foldl min 10
    ∃ u, exec (.repeatRequest p) s = .next u ∧ (u.plot p).requests = rest
      ∧ (u.job r i).bind (fun j => j.tiles[k]?) = some { t with granted := some (16 + max (t.demand.getD 0) fb) }
      ∧ (u.plot p).step = some { q with exhausted := true } ∧ u.rd (STS_ESC_OVERRUN.OVERRUN p) = 1
      ∧ FieldsKept s u [(STS_ESC_OVERRUN.OVERRUN p).key, (STS_ESC_OVERRUN.SEQ p).key,
          (CNT_ESC_EVENTS.OVERRUN_STEPS p).key] ∧ SameMemory s u)
  ∧ (∀ (s : State) (p : Fin 64) (r i k : Nat) (rest : List (Nat × Nat × Nat)) (j : MatJob) (e : Entry) (t : Tile) (q : Step),
    (s.plot p).requests = (r, i, k) :: rest → s.job r i = some j → s.entry r i = some e → j.tiles[k]? = some t →
    e.member = true → (s.plot p).step = some q → q.exhausted = true →
    let fb := ((s.quantised p e j).map (fun o => fallbackRung o.2.2)).foldl min 10
    ∃ u, exec (.repeatRequest p) s = .next u ∧ (u.plot p).requests = rest
      ∧ (u.job r i).bind (fun j => j.tiles[k]?) = some { t with granted := some (16 + max (t.demand.getD 0) fb) }
      ∧ (u.plot p).step = some q ∧ u.regs = s.regs ∧ SameMemory s u)
  ∧ (∀ (s : State) (p : Fin 64), (s.plot p).requests = [] → exec (.repeatRequest p) s = .next s)
  ∧ (∀ (s : State) (a : Fin 48) (r i k g : Nat) (j : MatJob) (t : Tile) (e : Entry),
    s.tileOn a = some (r, i, k, j, t, e) → t.granted = some g →
    s.runAllowed (s.runCodes (s.ringPlot r) e j (g % 16) (t.last || decide (16 ≤ g))) = true →
    ∃ u j' t', exec (.repeatAnswer a) s = .next u ∧ u.job r i = some j' ∧ j'.repeats = j.repeats + 1
      ∧ j'.tiles[k]? = some t' ∧ t'.pos = g % 16 ∧ t'.last = (t.last || decide (16 ≤ g)) ∧ t'.passes = 0
      ∧ t'.run = t.run + 1 ∧ t'.demand = none ∧ t'.granted = none ∧ SameMemory s u)
  ∧ (∀ (s : State) (a : Fin 48) (r i k g : Nat) (j : MatJob) (t : Tile) (e : Entry),
    s.tileOn a = some (r, i, k, j, t, e) → t.granted = some g →
    s.runAllowed (s.runCodes (s.ringPlot r) e j (g % 16) (t.last || decide (16 ≤ g))) = false →
    ∃ u, exec (.repeatAnswer a) s = .next u ∧ (u.array a).tile = none
      ∧ (u.job r i).bind (fun j => j.tiles[k]?) = some { t with setAside := true, array := none }
      ∧ u.regs = s.regs ∧ SameMemory s u)
  ∧ (∀ (s : State) (a : Fin 48), (∀ x, s.tileOn a = some x → x.2.2.2.2.1.granted = none) →
    exec (.repeatAnswer a) s = .next s)
  ∧ (∀ (s : State) (ring : Fin 1024) (i n g x : Nat) (y : List Word) (j : MatJob) (e : Entry), let p := s.ringPlot ring
    s.entry ring i = some e → s.brownedOut (s.firstVe p / 4) = false → s.waitsForMemory p e = false →
    s.job ring i = some j → j.partials[n]? = some (g, x, y) → Tab.val j.arrived g + 1 < e.mShares →
    ∃ u j', exec (.partialArrive ring i n) s = .next u ∧ u.job ring i = some j' ∧ j'.partials = j.partials.eraseIdx n
      ∧ Tab.val j'.arrived g = Tab.val j.arrived g + 1 ∧ Tab.val j'.combine g
        = stackPush (addTile addY32) (Tab.val j.combine g) 0 (y, 0) ∧ u = { s with matJobs := u.matJobs })
  ∧ (∀ (s : State) (ring : Fin 1024) (i n g x : Nat) (y : List Word) (j : MatJob) (e : Entry), let p := s.ringPlot ring
    let t := j.tiles.getD (g * e.mShares) {}
    s.entry ring i = some e → s.brownedOut (s.firstVe p / 4) = false → s.waitsForMemory p e = false →
    s.job ring i = some j → j.partials[n]? = some (g, x, y) → e.mShares ≤ Tab.val j.arrived g + 1 → e.stage = 2 →
    p < 64 → s.sound p (e.u16 12) → (e.mAccum = true → ∃ y, s.oldTile p e j t = .ok y) →
    (e.mFuse = true → s.sound p (e.u16 14) ∧ (s.tensorOf p (e.u16 14)).fmt = 0xE
      ∧ 2 * (e.mM * ceilDiv e.mN 256) ≤ (s.tensorOf p (e.u16 14)).count ∧ t.row0 + t.rows ≤ e.mM ∧ t.col0 < e.mN) →
    ∃ u, exec (.partialArrive ring i n) s = .next u
      ∧ (u.job ring i = none ∧ u.ended ring i 0x00 j.repeats
        ∨ ∃ j', u.job ring i = some j' ∧ j'.partials = j.partials.eraseIdx n
            ∧ Tab.val j'.arrived g = Tab.val j.arrived g + 1)
      ∧ OnlyTensors s u p (if e.mFuse then [e.u16 12, e.u16 14] else [e.u16 12]) [e.u16 8, e.u16 10])
  ∧ (∀ (s : State) (ring : Fin 1024) (i n x : Nat) (y : List Word) (j : VecJob) (e : Entry), let p := s.ringPlot ring
    s.entry ring i = some e → s.brownedOut (s.firstVe p / 4) = false → s.waitsForMemory p e = false →
    s.job ring i = none → s.vecJob ring i = some j → j.shares[n]? = some (x, y) → 1 < j.shares.length →
    ∃ u j', exec (.partialArrive ring i n) s = .next u ∧ u.vecJob ring i = some j' ∧ j'.shares = j.shares.eraseIdx n
      ∧ j'.total = j.total ∧ (∀ r' i', r' ≠ ring.val ∨ i' ≠ i → u.vecJob r' i' = s.vecJob r' i')
      ∧ u = { s with vecJobs := u.vecJobs })
  ∧ (∀ (s : State) (ring : Fin 1024) (i x : Nat) (y : List Word) (j : VecJob) (e : Entry), let p := s.ringPlot ring
    s.entry ring i = some e → s.brownedOut (s.firstVe p / 4) = false → s.waitsForMemory p e = false →
    s.job ring i = none → s.vecJob ring i = some j → j.shares = [(x, y)] → e.stage = 2 → p < 64 → s.leaseSound p →
    (e.opcode ≠ opREDUCE → e.flag 31 7 = true →
      (s.tensorOf p (e.u16 20)).fmt = 0xE ∧ (s.tensorOf p (e.u16 22)).fmt = 0xE) →
    ∃ u, exec (.partialArrive ring i 0) s = .next u ∧ u.vecJob ring i = none ∧ u.ended ring i 0x00 0
      ∧ (∀ r' i', r' ≠ ring.val ∨ i' ≠ i → u.vecJob r' i' = s.vecJob r' i') ∧ OtherEntries s u ring i)
  ∧ (∀ (s : State) (ring : Fin 1024) (i n : Nat), let p := s.ringPlot ring
    (∀ e, s.entry ring i = some e → s.brownedOut (s.firstVe p / 4) = true ∨ s.waitsForMemory p e = true
      ∨ (s.job ring i = none ∧ s.vecJob ring i = none)
      ∨ (∃ j, s.job ring i = some j ∧ j.partials.length ≤ n)
      ∨ (s.job ring i = none ∧ ∃ j, s.vecJob ring i = some j ∧ j.shares.length ≤ n)) →
    exec (.partialArrive ring i n) s = .next s)
  ∧ (∀ (s : State) (plot : Fin 64), ∃ t, exec (.repeatRequest plot) s = .next t ∧ Rest s t [.regs, .plots, .matJobs])
  ∧ (∀ (s : State) (array : Fin 48), ∃ t, exec (.repeatAnswer array) s = .next t ∧ Rest s t [.regs, .engines, .plots,
    .matJobs])
  ∧ (∀ (s : State) (ring : Fin 1024) (idx n : Nat), ∃ t, exec (.partialArrive ring idx n) s = .next t ∧ Rest s t
    [.draws, .out, .regs, .hbm, .flash, .engines, .rings, .plots, .matJobs, .vecJobs, .pcie, .power, .faults, .bytes])

/-- R104, R107, R147 to R151, R155, R156: an ELEMENTWISE or a REDUCE whose checks pass, whose inputs can be read and
whose outputs lie on sound memory finishes with OK, and writes its outputs and no other byte, but an array REDUCE along
an axis of more than 2²⁰ elements goes out as partials and writes nothing yet; one of no elements or of no lines ends with
OK_EMPTY; one that fails checks ends with DESC_ERROR and the lowest of their offsets; one that may not issue, or an array
REDUCE whose plot has no array in service, waits, and one that a rule of its step ends has no effect.  Each of the two
commands answers a next state in every state, and every part of the state but those listed is as before. -/
def Obligations.ElementwiseAndReduceWriteTheirOutputs : Prop :=
  (∀ (s : State) (ring : Fin 1024) (idx : Nat) (e : Entry), s.takes ring idx opELEMENTWISE e →
    firstFail (elemFields e) = none → e.u32 16 ≠ 0 → e.fld 20 23 0 ≠ 0 →
    firstFail (s.elemHandles (s.ringPlot ring) e) = none → s.checkVe (s.ringPlot ring) = .ok () →
    (∀ u ∈ elemUses e, s.readable (s.ringPlot ring) u.2.1 u.2.2) → s.sound (s.ringPlot ring) (e.u16 14) →
    ∃ t, exec (.elementwise ring idx) s = .next t ∧ VectorEffect s t ring idx [e.u16 14])
  ∧ (∀ (s : State) (ring : Fin 1024) (idx : Nat) (e : Entry), s.takes ring idx opELEMENTWISE e →
    firstFail (elemFields e) = none → (e.u32 16 = 0 ∨ e.fld 20 23 0 = 0) →
    exec (.elementwise ring idx) s = .next ((s.setStage ring idx 2).finish ring idx 0x01 0))
  ∧ (∀ (s : State) (ring : Fin 1024) (idx v : Nat) (e : Entry), s.takes ring idx opELEMENTWISE e →
    firstFail (if e.u32 16 = 0 ∨ e.fld 20 23 0 = 0 then elemFields e
      else elemFields e ++ s.elemHandles (s.ringPlot ring) e) = some v →
    exec (.elementwise ring idx) s = .next ((s.setStage ring idx 2).finish ring idx 0x10 v))
  ∧ (∀ (s : State) (ring : Fin 1024) (idx : Nat) (e : Entry), s.takes ring idx opREDUCE e →
    firstFail (reduceFields e) = none → (reduceShape e).1 ≠ 0 →
    firstFail (s.reduceHandles (s.ringPlot ring) e) = none →
    (e.rVe = true → s.checkVe (s.ringPlot ring) = .ok ()) →
    (e.rVe = false → s.arraysOf (s.ringPlot ring) ≠ [] ∧ (reduceShape e).2 ≤ kMax) →
    ((reduceShape e).2 = 0 ∨ (e.rVe = true ∧ s.readable (s.ringPlot ring) (e.u16 8) (e.u32 16 * e.fld 20 23 0))
      ∨ ∃ o, e.rVe = false ∧ s.operand (s.ringPlot ring) (s.tensorOf (s.ringPlot ring) (e.u16 8)) false 0
        (e.u32 16) 0 (e.fld 20 23 0) none none = .ok o) →
    s.sound (s.ringPlot ring) (e.u16 10) → (e.rWins = true → s.sound (s.ringPlot ring) (e.u16 12)) →
    ∃ t, exec (.reduce ring idx) s = .next t
      ∧ VectorEffect s t ring idx (if e.rWins then [e.u16 10, e.u16 12] else [e.u16 10]))
  ∧ (∀ (s : State) (ring : Fin 1024) (idx : Nat) (e : Entry), s.takes ring idx opREDUCE e →
    firstFail (reduceFields e) = none → (reduceShape e).1 ≠ 0 →
    firstFail (s.reduceHandles (s.ringPlot ring) e) = none → e.rVe = false → kMax < (reduceShape e).2 →
    s.arraysOf (s.ringPlot ring) ≠ [] → s.checkVe (s.ringPlot ring) = .ok () →
    (∃ o, s.operand (s.ringPlot ring) (s.tensorOf (s.ringPlot ring) (e.u16 8)) false 0 (e.u32 16) 0 (e.fld 20 23 0)
      none none = .ok o) →
    ∃ t j, exec (.reduce ring idx) s = .next t ∧ t.vecJobs = s.vecJobs ++ [j] ∧ j.ring = ring.val ∧ j.idx = idx
      ∧ j.shares.length = ceilDiv (reduceShape e).2 kMax ∧ j.total = j.shares.length ∧ SameMemory s t
      ∧ OtherEntries s t ring idx ∧ FieldsKept s t (dataKeys (s.ringPlot ring)))
  ∧ (∀ (s : State) (ring : Fin 1024) (idx : Nat) (e : Entry), s.takes ring idx opREDUCE e →
    firstFail (reduceFields e) = none → (reduceShape e).1 = 0 →
    (e.rVe = false → s.arraysOf (s.ringPlot ring) ≠ []) →
    exec (.reduce ring idx) s = .next ((s.setStage ring idx 2).finish ring idx 0x01 0))
  ∧ (∀ (s : State) (ring : Fin 1024) (idx v : Nat) (e : Entry), s.takes ring idx opREDUCE e →
    (e.rVe = false → s.arraysOf (s.ringPlot ring) ≠ []) →
    firstFail (if (reduceShape e).1 = 0 then reduceFields e
      else reduceFields e ++ s.reduceHandles (s.ringPlot ring) e) = some v →
    exec (.reduce ring idx) s = .next ((s.setStage ring idx 2).finish ring idx 0x10 v))
  ∧ (∀ (s : State) (ring : Fin 1024) (idx : Nat) (e : Entry), s.mayIssue ring idx opREDUCE = some e → e.rVe = false →
    s.arraysOf (s.ringPlot ring) = [] → exec (.reduce ring idx) s = .next s)
  ∧ WaitsOrStops opELEMENTWISE .elementwise
  ∧ (∀ (s : State) (ring : Fin 1024) (idx : Nat), s.mayIssue ring idx opREDUCE = none →
    exec (.reduce ring idx) s = .next s)
  ∧ (∀ (s : State) (ring : Fin 1024) (idx : Nat), ∃ t, exec (.elementwise ring idx) s = .next t ∧ Rest s t [.draws,
    .out, .regs, .hbm, .flash, .engines, .rings, .plots, .pcie, .power, .faults, .bytes])
  ∧ (∀ (s : State) (ring : Fin 1024) (idx : Nat), ∃ t, exec (.reduce ring idx) s = .next t ∧ Rest s t [.draws, .out,
    .regs, .hbm, .flash, .engines, .rings, .plots, .vecJobs, .pcie, .power, .faults, .bytes])

/-- R160 to R168: a normalisation or soft maximum, forward or backward, whose checks pass, whose inputs can be read and
whose outputs lie on sound memory finishes with OK, and writes its outputs and no other byte; a NORM_BWD whose column
sums are split among engines waits for their partials; one of no elements ends with OK_EMPTY; one that fails checks ends
with DESC_ERROR and the lowest of their offsets; one that may not issue waits, and one that a rule of its step ends has no
effect.  Each of the four commands answers a next state in every state, and every part of the state but those listed is as
before. -/
def Obligations.NormsAndSoftmaxesWriteTheirOutputs : Prop :=
  (∀ (s : State) (ring : Fin 1024) (idx : Nat) (e : Entry), let p := s.ringPlot ring
    s.takes ring idx opNORMFWD e → firstFail (normFields e) = none → e.u32 24 ≠ 0 → e.nCols ≠ 0 →
    firstFail (s.fwdHandles p e) = none → s.checkVe p = .ok () → s.readable p (e.u16 8) (e.u32 24 * e.nCols) →
    (e.nGamma = true → s.readable p (e.u16 14) e.nCols) → (e.nBeta = true → s.readable p (e.u16 16) e.nCols) →
    s.sound p (e.u16 10) → s.sound p (e.u16 12) →
    ∃ t, exec (.normFwd ring idx) s = .next t ∧ VectorEffect s t ring idx [e.u16 10, e.u16 12])
  ∧ (∀ (s : State) (ring : Fin 1024) (idx : Nat) (e : Entry), let p := s.ringPlot ring
    s.takes ring idx opNORMBWD e → firstFail (normFields e) = none → e.u32 24 ≠ 0 → e.nCols ≠ 0 →
    firstFail (s.bwdHandles p e) = none → s.checkVe p = .ok () → s.readable p (e.u16 8) (e.u32 24 * e.nCols) →
    s.readable p (e.u16 10) (e.u32 24 * e.nCols) → s.readable p (e.u16 12) (2 * e.u32 24) →
    (e.nGamma = true → s.readable p (e.u16 14) e.nCols) → s.sound p (e.u16 18) →
    (e.nGamma = true → s.sound p (e.u16 20)) → (e.nBeta = true → s.sound p (e.u16 22)) →
    ∃ t, exec (.normBwd ring idx) s = .next t
      ∧ (t.ended ring idx 0x00 0 ∨ ∃ j ∈ t.vecJobs, j.ring = ring.val ∧ j.idx = idx)
      ∧ OtherEntries s t ring idx ∧ OnlyTensors s t p ([e.u16 18] ++ (if e.nGamma then [e.u16 20] else [])
          ++ (if e.nBeta then [e.u16 22] else [])) [] ∧ FieldsKept s t (dataKeys p))
  ∧ (∀ (s : State) (ring : Fin 1024) (idx : Nat) (e : Entry), let p := s.ringPlot ring
    s.takes ring idx opSOFTMAXFWD e → firstFail (softFields e) = none → e.u32 16 ≠ 0 → e.fld 20 23 0 ≠ 0 →
    firstFail (s.softHandles p e true) = none → s.checkVe p = .ok () →
    s.readable p (e.u16 8) (e.u32 16 * e.fld 20 23 0) →
    (e.flag 23 4 = true → s.readable p (e.u16 10) (2 * e.u32 16 * ceilDiv (e.fld 20 23 0) 256)) →
    s.sound p (e.u16 12) →
    ∃ t, exec (.softmaxFwd ring idx) s = .next t ∧ VectorEffect s t ring idx [e.u16 12])
  ∧ (∀ (s : State) (ring : Fin 1024) (idx : Nat) (e : Entry), let p := s.ringPlot ring
    s.takes ring idx opSOFTMAXBWD e → firstFail (softFields e) = none → e.u32 16 ≠ 0 → e.fld 20 23 0 ≠ 0 →
    firstFail (s.softHandles p e false) = none → s.checkVe p = .ok () →
    s.readable p (e.u16 8) (e.u32 16 * e.fld 20 23 0) → s.readable p (e.u16 10) (e.u32 16 * e.fld 20 23 0) →
    s.sound p (e.u16 12) →
    ∃ t, exec (.softmaxBwd ring idx) s = .next t ∧ VectorEffect s t ring idx [e.u16 12])
  ∧ ChecksOf opNORMFWD .normFwd (fun e => decide (e.u32 24 = 0 ∨ e.nCols = 0)) normFields State.fwdHandles
  ∧ WaitsOrStops opNORMFWD .normFwd
  ∧ ChecksOf opNORMBWD .normBwd (fun e => decide (e.u32 24 = 0 ∨ e.nCols = 0)) normFields State.bwdHandles
  ∧ WaitsOrStops opNORMBWD .normBwd
  ∧ ChecksOf opSOFTMAXFWD .softmaxFwd (fun e => decide (e.u32 16 = 0 ∨ e.fld 20 23 0 = 0)) softFields
      (fun s p e => s.softHandles p e true)
  ∧ WaitsOrStops opSOFTMAXFWD .softmaxFwd
  ∧ ChecksOf opSOFTMAXBWD .softmaxBwd (fun e => decide (e.u32 16 = 0 ∨ e.fld 20 23 0 = 0)) softFields
      (fun s p e => s.softHandles p e false)
  ∧ WaitsOrStops opSOFTMAXBWD .softmaxBwd
  ∧ (∀ (s : State) (ring : Fin 1024) (idx : Nat), ∃ t, exec (.normFwd ring idx) s = .next t ∧ Rest s t [.draws, .out,
    .regs, .hbm, .flash, .engines, .rings, .plots, .pcie, .power, .faults, .bytes])
  ∧ (∀ (s : State) (ring : Fin 1024) (idx : Nat), ∃ t, exec (.normBwd ring idx) s = .next t ∧ Rest s t [.draws, .out,
    .regs, .hbm, .flash, .engines, .rings, .plots, .vecJobs, .pcie, .power, .faults, .bytes])
  ∧ (∀ (s : State) (ring : Fin 1024) (idx : Nat), ∃ t, exec (.softmaxFwd ring idx) s = .next t ∧ Rest s t [.draws,
    .out, .regs, .hbm, .flash, .engines, .rings, .plots, .pcie, .power, .faults, .bytes])
  ∧ (∀ (s : State) (ring : Fin 1024) (idx : Nat), ∃ t, exec (.softmaxBwd ring idx) s = .next t ∧ Rest s t [.draws,
    .out, .regs, .hbm, .flash, .engines, .rings, .plots, .pcie, .power, .faults, .bytes])

/-- R349, R177 to R182, R245, R355: a NOP has no effect but its completion; a STEP_OPEN on a plot without a step opens one
with its number, budget and deadline, refused where its budget exceeds the free stash, and STEP_OPENs of other rings that
stand at the head wait without their timers; one whose field fails a check ends with DESC_ERROR, and one of a plot with an
open step waits.  A fetched descriptor whose predecessors have issued reaches the head of its running ring and starts its
timer, an UPDATE with its region records read and checked; with IN_STEP it waits for its step, ends with STEP_CLOSED, or is
admitted to the open step in order, where one with a header error fails.  Each of the three commands answers a next state
in every state, and every part of the state but those listed is as before. -/
def Obligations.NopsOpenStepsAndDescriptorsReachTheHead : Prop :=
  (∀ (s : State) (ring : Fin 1024) (idx : Nat) (e : Entry), s.takes ring idx opNOP e → e.stepOpen = false →
    ∃ t, exec (.nop ring idx) s = .next t ∧ t.ended ring idx 0x00 0 ∧ OtherEntries s t ring idx
      ∧ t = { s with rings := t.rings })
  ∧ (∀ (s : State) (ring : Fin 1024) (idx st : Nat) (e : Entry), s.mayIssue ring idx opNOP = some e → e.stepOpen = false →
    s.memberStop (s.ringPlot ring) e = some st →
    exec (.nop ring idx) s = .next ((s.setStage ring idx 2).finish ring idx st 0))
  ∧ (∀ (s : State) (ring : Fin 1024) (idx : Nat),
    s.mayIssue ring idx opNOP = none ∨ (∃ e, s.entry ring idx = some e ∧ e.stepOpen = true) →
    exec (.nop ring idx) s = .next s)
  ∧ (∀ (s : State) (ring : Fin 1024) (idx : Nat) (e : Entry), let p := s.ringPlot ring
    s.takes ring idx opNOP e → e.stepOpen = true → (s.plot p).step = none → firstFail (s.openFields p e) = none →
    ∃ t k, exec (.stepOpen ring idx) s = .next t ∧ (t.plot p).step = some k
      ∧ k.num = BitVec.ofNat 32 (e.u32 8) ∧ k.budget = e.u32 12 ∧ k.recAddr = e.u64 16
      ∧ k.refused = decide (s.freeStash p < e.u32 12 * stashUnit)
      ∧ k.deadline = s.now + s.rd FLT_TMO_STEP.S * perS ∧ k.admitted = b2n e.inStep
      ∧ k.closing = (e.inStep && e.stepClose) ∧ k.gate = none ∧ k.members = 0
      ∧ (t.plot p).lastNum = some k.num ∧ t.ended ring idx (if e.inStep && k.refused then 0x20 else 0x00) 0
      ∧ (∀ r' i' f, s.entry r' i' = some f → r' ≠ ring.val → t.entry r' i' = some
          (if s.ringPlot r' = p ∧ f.stage = 1 ∧ f.opcode = opNOP ∧ f.stepOpen = true
            then { f with stage := 0, deadline := none } else f))
      ∧ (∀ i', i' ≠ idx → t.entry ring i' = s.entry ring i')
      ∧ t = { s with rings := t.rings, plots := t.plots })
  ∧ (∀ (s : State) (ring : Fin 1024) (idx v : Nat) (e : Entry), let p := s.ringPlot ring
    s.takes ring idx opNOP e → e.stepOpen = true → (s.plot p).step = none → firstFail (s.openFields p e) = some v →
    exec (.stepOpen ring idx) s = .next ((s.setStage ring idx 2).finish ring idx 0x10 v))
  ∧ (∀ (s : State) (ring : Fin 1024) (idx : Nat),
    (∀ e, s.entry ring idx = some e → e.stepOpen = false) ∨ (s.plot (s.ringPlot ring)).step ≠ none
      ∨ s.mayIssue ring idx opNOP = none →
    exec (.stepOpen ring idx) s = .next s)
  ∧ (∀ (s : State) (ring : Fin 1024) (idx : Nat) (e : Entry), let p := s.ringPlot ring
    let head : Entry := { e with stage := 1, deadline := some (s.now + s.rd FLT_TMO_DESC.MS * perMs), member := false, order := 0 }
    s.entry ring idx = some e → e.stage = 0 →
    (∀ f ∈ (s.ring ring).entries.takeWhile (fun f => decide (f.idx ≠ idx)), f.hasIssued = true) →
    s.rd (RING_STS.STATE ring) = 1 → s.plotState p = plotBOUND →
    (e.stepOpen = false → e.inStep = false → e.opcode ≠ opUPDATE →
      ∃ t, exec (.descriptorReachHead ring idx) s = .next t ∧ t.entry ring idx = some head
        ∧ OtherEntries s t ring idx ∧ t = { s with rings := t.rings })
    ∧ (∀ rs, e.stepOpen = false → e.inStep = false → e.opcode = opUPDATE → s.ownRange p e = .ok rs →
      ∃ t, exec (.descriptorReachHead ring idx) s = .next t ∧ t.entry ring idx = some { head with regions := some rs }
        ∧ OtherEntries s t ring idx ∧ t = { s with rings := t.rings })
    ∧ (∀ st v, e.stepOpen = false → e.inStep = false → e.opcode = opUPDATE → s.ownRange p e = .error (.code st v) →
      ∃ t, exec (.descriptorReachHead ring idx) s = .next t ∧ t.ended ring idx st v
        ∧ OtherEntries s t ring idx ∧ t = { s with rings := t.rings })
    ∧ (∀ a, e.stepOpen = false → e.inStep = false → e.opcode = opUPDATE → s.ownRange p e = .error (.poison a) →
      ∃ t, exec (.descriptorReachHead ring idx) s = .next t ∧ t.ended ring idx 0x12 0 ∧ OtherEntries s t ring idx
        ∧ (t.stack (a / stackBytes)).uncorr = (s.stack (a / stackBytes)).uncorr + 1)
    ∧ (e.stepOpen = true → e.headerError p = none → (s.plot p).step = none →
      ∃ t, exec (.descriptorReachHead ring idx) s = .next t ∧ t.entry ring idx = some head
        ∧ OtherEntries s t ring idx ∧ t = { s with rings := t.rings })
    ∧ (e.stepOpen = true → e.headerError p = none → (s.plot p).step ≠ none →
      exec (.descriptorReachHead ring idx) s = .next s)
    ∧ (e.stepOpen = false ∨ e.headerError p ≠ none → e.inStep = true → s.judge p e = .waits →
      exec (.descriptorReachHead ring idx) s = .next s)
    ∧ (e.stepOpen = false ∨ e.headerError p ≠ none → e.inStep = true → s.judge p e = .closed →
      ∃ t, exec (.descriptorReachHead ring idx) s = .next t
        ∧ (match e.headerError p with
          | none => t.ended ring idx 0x21 0
          | some v => t.ended ring idx 0x10 v)
        ∧ OtherEntries s t ring idx ∧ t = { s with rings := t.rings })
    ∧ (∀ k, e.stepOpen = false → e.inStep = true → s.judge p e = .admitted → e.headerError p = none →
      (s.plot p).step = some k →
      ∃ t, exec (.descriptorReachHead ring idx) s = .next t
        ∧ t.entry ring idx = some { head with member := true, order := k.admitted + 1 }
        ∧ (t.plot p).step = some { k with
            admitted := k.admitted + 1, closing := k.closing || e.stepClose
            gateAt := if e.opcode = opUPDATE ∧ k.gateAt = none then some (k.admitted + 1) else k.gateAt }
        ∧ OtherEntries s t ring idx ∧ t = { s with rings := t.rings, plots := t.plots })
    ∧ (∀ k v, e.inStep = true → s.judge p e = .admitted → e.headerError p = some v → (s.plot p).step = some k →
      (e.stepClose = true → k.members = k.admitted) →
      ∃ t k', exec (.descriptorReachHead ring idx) s = .next t ∧ t.ended ring idx 0x10 v
        ∧ (t.plot p).step = some k' ∧ k'.admitted = k.admitted + 1 ∧ k'.closing = (k.closing || e.stepClose)
        ∧ OtherEntries s t ring idx ∧ t = { s with rings := t.rings, plots := t.plots })
    ∧ (∀ k v, e.inStep = true → s.judge p e = .admitted → e.headerError p = some v → (s.plot p).step = some k →
      e.stepClose = true → k.members ≠ k.admitted → exec (.descriptorReachHead ring idx) s = .next s))
  ∧ (∀ (s : State) (ring : Fin 1024) (idx : Nat),
    (∀ e, s.entry ring idx = some e → e.stage ≠ 0
      ∨ (∃ f ∈ (s.ring ring).entries.takeWhile (fun f => decide (f.idx ≠ idx)), f.hasIssued = false)
      ∨ s.rd (RING_STS.STATE ring) ≠ 1 ∨ s.plotState (s.ringPlot ring) ≠ plotBOUND) →
    exec (.descriptorReachHead ring idx) s = .next s)
  ∧ (∀ (s : State) (ring : Fin 1024) (idx : Nat), ∃ t, exec (.nop ring idx) s = .next t ∧ Rest s t [.out, .regs, .hbm,
    .flash, .rings, .plots, .pcie, .faults])
  ∧ (∀ (s : State) (ring : Fin 1024) (idx : Nat), ∃ t, exec (.stepOpen ring idx) s = .next t ∧ Rest s t [.out, .regs,
    .hbm, .host, .flash, .rings, .plots, .fabric, .ports, .tags, .mgr, .mac, .pcie, .power, .faults])
  ∧ (∀ (s : State) (ring : Fin 1024) (idx : Nat), ∃ t, exec (.descriptorReachHead ring idx) s = .next t ∧ Rest s t
    [.out, .regs, .hbm, .host, .flash, .rings, .plots, .fabric, .ports, .tags, .mgr, .mac, .pcie, .power, .faults])

/-- R142, R182, R183, R187, R188: the closing member's execution completes the step, whose record is written to host
memory.  A step past its deadline is flagged: after commit has begun without more effect, before it with the members
not yet issued and the update phase cut off, and it completes at once where every admitted member has retired and none is
to close it.  The manager's answer reaches each step of the lease that waits for it, and no other; the manager collects
reports until the last one, and then answers its own waiting steps with the summed total and whether one failed.  A command
whose conditions do not hold has no effect.  Each of the four commands answers a next state in every state, and every part
of the state but those listed is as before. -/
def Obligations.StepsCloseTimeOutAndReport : Prop :=
  (∀ (s : State) (ring : Fin 1024) (idx : Nat) (e : Entry) (k : Step), let p := s.ringPlot ring
    s.entry ring idx = some e → e.stage = 3 → e.member = true → e.stepClose = true → (s.plot p).step = some k →
    ∃ t, exec (.stepClose ring idx) s = .next t ∧ (t.plot p).step = none
      ∧ Memory.read t.host k.recAddr 4 = leBytes 4 k.num.toNat ∧ OnlyHost s t k.recAddr 64)
  ∧ (∀ (s : State) (ring : Fin 1024) (idx : Nat),
    (∀ e, s.entry ring idx = some e → e.stage ≠ 3 ∨ e.member = false ∨ e.stepClose = false
      ∨ (s.plot (s.ringPlot ring)).step = none) →
    exec (.stepClose ring idx) s = .next s)
  ∧ (∀ (s : State) (p : Fin 64) (k : Step) (g : Gate), (s.plot p).step = some k → k.deadline ≤ s.now →
    k.timedOut = false → bit k.flags.toNat 8 = false → k.gate = some g → g.begun = true →
    ∃ t, exec (.stepTimeout p) s = .next t ∧ (t.plot p).step = some (k.flag [8]) ∧ t = { s with plots := t.plots })
  ∧ (∀ (s : State) (p : Fin 64) (k : Step), (s.plot p).step = some k → k.deadline ≤ s.now →
    k.timedOut = false → bit k.flags.toNat 8 = false → (∀ g, k.gate = some g → g.begun = false) →
    (k.members ≠ k.admitted ∨ k.closing = true) →
    ∃ t, exec (.stepTimeout p) s = .next t
      ∧ (t.plot p).step = some { k.flag (if k.report = true ∧ k.answer = none then [6, 8, 9] else [6, 8]) with timedOut := true }
      ∧ t = { s with plots := t.plots })
  ∧ (∀ (s : State) (p : Fin 64) (k : Step), (s.plot p).step = some k → k.deadline ≤ s.now →
    k.timedOut = false → bit k.flags.toNat 8 = false → (∀ g, k.gate = some g → g.begun = false) →
    k.members = k.admitted → k.closing = false →
    ∃ t, exec (.stepTimeout p) s = .next t ∧ (t.plot p).step = none
      ∧ Memory.read t.host k.recAddr 4 = leBytes 4 k.num.toNat ∧ OnlyHost s t k.recAddr 64)
  ∧ (∀ (s : State) (p : Fin 64),
    (∀ k, (s.plot p).step = some k → s.now < k.deadline ∨ k.timedOut = true ∨ bit k.flags.toNat 8 = true) →
    exec (.stepTimeout p) s = .next s)
  ∧ (∀ (s : State) (lease total : Nat) (failed : Bool),
    ∃ t, exec (.stepBarrierAnswer lease total failed) s = .next t
      ∧ (∀ (q : Fin 64) k, s.rd (PLOT_LEASE_ID.LEASE_ID q) = lease → (s.plot q).step = some k → k.report = true →
          k.answer = none → (t.plot q).step = some { k with answer := some failed, totalNf := total })
      ∧ (∀ q : Fin 64, (∀ k, (s.plot q).step = some k → k.report = true → k.answer = none →
          s.rd (PLOT_LEASE_ID.LEASE_ID q) ≠ lease) → t.plot q = s.plot q)
      ∧ (∀ a ∈ t.mgr.answers, a.1 ≠ lease ∧ a ∈ s.mgr.answers)
      ∧ FieldsKept s t [STS_LNK_TAGS.IN_USE.key, STS_LNK_TAGS.PEAK.key]
      ∧ t = { s with plots := t.plots, mgr := t.mgr, tags := t.tags, regs := t.regs })
  ∧ (∀ (s : State) (node n : Fin 1024) (lease total : Nat) (failed : Bool), s.mgr.managerNode = some s.node →
    n.val ∈ Tab.val s.mgr.leases lease → n ≠ node → (∀ x ∈ Tab.val s.mgr.reports lease, x.node ≠ n.val) →
    ∃ t, exec (.barrierReport node lease total failed) s = .next t
      ∧ Tab.val t.mgr.reports lease = (Tab.val s.mgr.reports lease).filter (fun x => decide (x.node ≠ node.val))
          ++ [{ node := node, total := total, failed := failed }]
      ∧ t = { s with mgr := t.mgr })
  ∧ (∀ (s : State) (node : Fin 1024) (lease total : Nat) (failed : Bool),
    let all : List Report := (Tab.val s.mgr.reports lease).filter (fun x => decide (x.node ≠ node.val))
      ++ [{ node := node, total := total, failed := failed }]
    s.mgr.managerNode = some s.node → (∀ n ∈ Tab.val s.mgr.leases lease, ∃ x ∈ all, x.node = n) →
    ∃ t, exec (.barrierReport node lease total failed) s = .next t ∧ Tab.val t.mgr.reports lease = []
      ∧ (∀ (q : Fin 64) k, s.node ∈ Tab.val s.mgr.leases lease → s.rd (PLOT_LEASE_ID.LEASE_ID q) = lease →
          (s.plot q).step = some k → k.report = true → k.answer = none → (t.plot q).step = some { k with
            answer := some (all.any (fun x => x.failed)), totalNf := sumNat (all.map (fun x => x.total)) })
      ∧ t.regs = s.regs ∧ t.rings = s.rings ∧ SameMemory s t)
  ∧ (∀ (s : State) (node : Fin 1024) (lease total : Nat) (failed : Bool), s.mgr.managerNode ≠ some s.node →
    exec (.barrierReport node lease total failed) s = .next s)
  ∧ (∀ (s : State) (ring : Fin 1024) (idx : Nat), ∃ t, exec (.stepClose ring idx) s = .next t ∧ Rest s t [.out, .regs,
    .host, .rings, .plots, .stash, .fabric, .ports, .tags, .mgr, .power])
  ∧ (∀ (s : State) (plot : Fin 64), ∃ t, exec (.stepTimeout plot) s = .next t ∧ Rest s t [.out, .regs, .host, .rings,
    .plots, .stash, .fabric, .ports, .tags, .mgr, .mac, .power])
  ∧ (∀ (s : State) (lease total : Nat) (failed : Bool), ∃ t, exec (.stepBarrierAnswer lease total failed) s = .next t
    ∧ Rest s t [.regs, .plots, .tags, .mgr])
  ∧ (∀ (s : State) (node : Fin 1024) (lease total : Nat) (failed : Bool), ∃ t, exec (.barrierReport node lease total
    failed) s = .next t ∧ Rest s t [.out, .plots, .ports, .mgr])

/-- R184, R185, R241, R242, R245 to R251, R260: the gate of a step waits for the members before it and for a barrier's
answer; without a failed member, undrained stash or non-finite total it opens the update phase with its rate and advances
the schedule count; with a failed member, a failed barrier, or a non-finite total under its option the phase is skipped.
An UPDATE of no region ends with OK_EMPTY, one that fails checks with DESC_ERROR, one of a skipped phase with the phase's
code; one before its gate has decided, or that may not issue, waits; one of a frozen region touches nothing and says so;
one of a region by itself, whose reads succeed and whose plot's memory is sound, commits it and counts it.  Each of the two
commands answers a next state in every state, and every part of the state but those listed is as before. -/
def Obligations.TheUpdateGateOpensAndRegionsCommit : Prop :=
  (∀ (s : State) (ring : Fin 1024) (idx : Nat) (e : Entry) (k : Step) (rs : List Region), let p := s.ringPlot ring
    s.takes ring idx opUPDATE e → e.member = true → (s.plot p).step = some k → k.gateAt = some e.order → k.gate = none →
    s.workPending p e.order = false → k.memberFailed = false → s.undrained k = false →
    (k.barrier = true → k.report = true ∧ k.answer = some false) →
    (k.skipNf = true → (if k.barrier = true then k.totalNf else k.nonfinite) = 0) → s.gateRegions p e = .ok rs →
    ∃ t g, exec (.updateGate ring idx) s = .next t ∧ (t.plot p).step = some { k with gate := some g }
      ∧ g.begun = true ∧ g.skip = none ∧ g.recs = rs ∧ g.rate = s.schedRate p
      ∧ t.rd (CNT_SCHED_STEP.COUNT p) = (s.rd (CNT_SCHED_STEP.COUNT p) + 1) % 2 ^ 32
      ∧ t.rd (STS_SCHED_RATE.RATE p) = (s.schedRate p).toNat
      ∧ FieldsKept s t [(CNT_SCHED_STEP.COUNT p).key, (STS_SCHED_RATE.RATE p).key]
      ∧ t = { s with plots := t.plots, regs := t.regs })
  ∧ (∀ (s : State) (ring : Fin 1024) (idx : Nat) (e : Entry) (k : Step), let p := s.ringPlot ring
    s.takes ring idx opUPDATE e → e.member = true → (s.plot p).step = some k → k.gateAt = some e.order → k.gate = none →
    s.workPending p e.order = false → (k.barrier = true → k.report = true ∧ k.answer ≠ none) →
    (k.memberFailed = true ∨ s.undrained k = true ∨ (k.barrier = true ∧ k.answer = some true)) →
    ∃ t k' g, exec (.updateGate ring idx) s = .next t ∧ (t.plot p).step = some k' ∧ k'.gate = some g
      ∧ g.skip = some 0x22 ∧ g.begun = false ∧ bit k'.flags.toNat 6 = true ∧ t.ended ring idx 0x22 0
      ∧ OtherEntries s t ring idx ∧ t = { s with plots := t.plots, rings := t.rings })
  ∧ (∀ (s : State) (ring : Fin 1024) (idx : Nat) (e : Entry) (k : Step), let p := s.ringPlot ring
    s.takes ring idx opUPDATE e → e.member = true → (s.plot p).step = some k → k.gateAt = some e.order → k.gate = none →
    s.workPending p e.order = false → (k.barrier = true → k.report = true ∧ k.answer = some false) →
    k.memberFailed = false → s.undrained k = false → k.skipNf = true →
    (if k.barrier = true then k.totalNf else k.nonfinite) ≠ 0 →
    ∃ t k' g, exec (.updateGate ring idx) s = .next t ∧ (t.plot p).step = some k' ∧ k'.gate = some g
      ∧ g.skip = some 0x03 ∧ g.begun = false ∧ t.ended ring idx 0x03 0
      ∧ OtherEntries s t ring idx ∧ t = { s with plots := t.plots, rings := t.rings })
  ∧ (∀ (s : State) (ring : Fin 1024) (idx : Nat) (e : Entry) (k : Step), let p := s.ringPlot ring
    s.takes ring idx opUPDATE e → e.member = true → (s.plot p).step = some k → k.gateAt = some e.order → k.gate = none →
    s.workPending p e.order = false → k.barrier = true → k.report = true → k.answer = none →
    exec (.updateGate ring idx) s = .next s)
  ∧ (∀ (s : State) (ring : Fin 1024) (idx st : Nat) (e : Entry) (k : Step), let p := s.ringPlot ring
    s.mayIssue ring idx opUPDATE = some e → s.memberStop p e = some st → e.member = true → (s.plot p).step = some k →
    k.gateAt = some e.order → k.gate = none → (k.barrier = true → k.report = true) →
    ∃ t k' g, exec (.updateGate ring idx) s = .next t ∧ (t.plot p).step = some k' ∧ k'.gate = some g
      ∧ g.skip = some (BitVec.ofNat 8 st) ∧ g.begun = false ∧ t.ended ring idx st 0
      ∧ OtherEntries s t ring idx ∧ t = { s with plots := t.plots, rings := t.rings })
  ∧ (∀ (s : State) (ring : Fin 1024) (idx : Nat),
    (∀ e, s.mayIssue ring idx opUPDATE = some e → e.member = false ∨ (s.stepOf (s.ringPlot ring)).gateAt ≠ some e.order
      ∨ (s.stepOf (s.ringPlot ring)).gate ≠ none
      ∨ (s.memberStop (s.ringPlot ring) e = none ∧ s.workPending (s.ringPlot ring) e.order = true)) →
    exec (.updateGate ring idx) s = .next s)
  ∧ (∀ (s : State) (ring : Fin 1024) (idx : Nat) (e : Entry) (k : Step) (g : Gate) (st : BitVec 8), let p := s.ringPlot ring
    s.takes ring idx opUPDATE e → e.member = true → (s.plot p).step = some k → k.gate = some g → g.skip = some st →
    ∃ t, exec (.update ring idx) s = .next t ∧ t.ended ring idx st.toNat 0 ∧ OtherEntries s t ring idx
      ∧ t = { s with rings := t.rings })
  ∧ (∀ (s : State) (ring : Fin 1024) (idx : Nat) (e : Entry), s.takes ring idx opUPDATE e → e.member = true →
    (s.stepOf (s.ringPlot ring)).gate = none → exec (.update ring idx) s = .next s)
  ∧ (∀ (s : State) (ring : Fin 1024) (idx : Nat), s.mayIssue ring idx opUPDATE = none →
    exec (.update ring idx) s = .next s)
  ∧ (∀ (s : State) (ring : Fin 1024) (idx st : Nat) (e : Entry), s.mayIssue ring idx opUPDATE = some e →
    s.memberStop (s.ringPlot ring) e = some st → (s.stepOf (s.ringPlot ring)).gateAt ≠ some e.order →
    exec (.update ring idx) s = .next ((s.setStage ring idx 2).finish ring idx st 0))
  ∧ (∀ (s : State) (ring : Fin 1024) (idx : Nat) (e : Entry),
    s.takes ring idx opUPDATE e → e.member = false →
    firstFail [e.reserved updateUsed, (20, nonFinite e.gscale)] = none → e.u16 12 = 0 →
    ∃ t, exec (.update ring idx) s = .next t ∧ t.ended ring idx 0x01 0 ∧ OtherEntries s t ring idx
      ∧ t = { s with rings := t.rings })
  ∧ (∀ (s : State) (ring : Fin 1024) (idx v : Nat) (e : Entry), s.takes ring idx opUPDATE e → e.member = false →
    firstFail ([e.reserved updateUsed, (20, nonFinite e.gscale)]
      ++ if e.u16 12 = 0 then [] else [(8, s.badTable (s.ringPlot ring) (e.u16 8) (e.u16 10 + e.u16 12))]) = some v →
    exec (.update ring idx) s = .next ((s.setStage ring idx 2).finish ring idx 0x10 v))
  ∧ (∀ (s : State) (ring : Fin 1024) (idx : Nat) (e : Entry) (r : Region), let p := s.ringPlot ring
    s.takes ring idx opUPDATE e → e.member = false →
    firstFail [e.reserved updateUsed, (20, nonFinite e.gscale)] = none → e.u16 12 = 1 →
    s.badTable p (e.u16 8) (e.u16 10 + 1) = false → e.regions = some [r] → r.frozen = true →
    ∃ t, exec (.update ring idx) s = .next t ∧ t.ended ring idx 0x02 1 ∧ OtherEntries s t ring idx ∧ SameMemory s t
      ∧ t.rd (CNT_FROZEN_SKIP.COUNT p) = (s.rd (CNT_FROZEN_SKIP.COUNT p) + 1) % 2 ^ (CNT_FROZEN_SKIP.COUNT p).width
      ∧ FieldsKept s t [(CNT_FROZEN_SKIP.COUNT p).key])
  ∧ (∀ (s : State) (ring : Fin 1024) (idx : Nat) (e : Entry) (r : Region), let p := s.ringPlot ring
    s.takes ring idx opUPDATE e → e.member = false →
    firstFail [e.reserved updateUsed, (20, nonFinite e.gscale)] = none → e.u16 12 = 1 →
    s.badTable p (e.u16 8) (e.u16 10 + 1) = false → e.regions = some [r] → r.frozen = false →
    s.checkVe p = .ok () → s.leaseSound p → (r.rule = 1 ∨ r.rule = 2) → r.lazy = false →
    (∀ q ∈ regionPieces r none, (∃ l, s.elems p (s.tensorOf p (r.h 2)) q.idx = .ok l)
      ∧ (∃ l, s.elems p (s.tensorOf p (r.h 4)) (q.idx.map (· + r.goff)) = .ok l)
      ∧ (r.hasM = true → ∃ l, s.elems p (s.tensorOf p (r.h 6)) q.idx = .ok l)
      ∧ (r.rule = 2 → ∃ l, s.elems p (s.tensorOf p (r.h 8)) q.idx = .ok l)) →
    ∃ t, exec (.update ring idx) s = .next t ∧ t.ended ring idx 0x00 0 ∧ OtherEntries s t ring idx
      ∧ OnlyTensors s t p (e.u16 8 :: r.h 2 :: (if r.hasM then [r.h 6] else [])
          ++ (if r.rule = 2 then [r.h 8] else [])) []
      ∧ t.rd (CNT_UPDATE_REGIONS.COUNT p) = (s.rd (CNT_UPDATE_REGIONS.COUNT p) + 1) % 2 ^ (CNT_UPDATE_REGIONS.COUNT p).width
      ∧ FieldsKept s t ((CNT_UPDATE_REGIONS.COUNT p).key :: dataKeys p))
  ∧ (∀ (s : State) (ring : Fin 1024) (idx : Nat) (e : Entry) (r : Region), let p := s.ringPlot ring
    s.takes ring idx opUPDATE e → e.member = false →
    firstFail [e.reserved updateUsed, (20, nonFinite e.gscale)] = none → e.u16 12 = 1 →
    s.badTable p (e.u16 8) (e.u16 10 + 1) = false → e.regions = some [r] → r.frozen = false →
    s.checkVe p = .ok () → s.leaseSound p →
    (∀ h ∈ [r.h 2, r.h 4, r.h 6, r.h 8, r.h 10, r.h 12], isNarrow (s.tensorOf p h).fmt = false) →
    (r.lazy = true → ∃ l, s.touched p r = .ok l) →
    ∃ t, exec (.update ring idx) s = .next t ∧ t.ended ring idx 0x00 0 ∧ OtherEntries s t ring idx
      ∧ t.host = s.host ∧ t.stash = s.stash)
  ∧ (∀ (s : State) (ring : Fin 1024) (idx : Nat), ∃ t, exec (.updateGate ring idx) s = .next t ∧ Rest s t [.out,
    .regs, .hbm, .host, .flash, .rings, .plots, .fabric, .ports, .tags, .mgr, .pcie, .power, .faults])
  ∧ (∀ (s : State) (ring : Fin 1024) (idx : Nat), ∃ t, exec (.update ring idx) s = .next t ∧ Rest s t [.draws, .out,
    .regs, .hbm, .flash, .engines, .rings, .plots, .pcie, .power, .faults, .bytes])

/-- R191 to R195, R198: a STASH_PUSH that fits places its entries and their level, linked when it retires; one that does
not fit spills each entry whole into the extent in host memory where spilling is on and the extent has room, and else ends
with STASH_EXHAUSTED; a STASH_POP whose slots hold matching entries writes them back and releases them when it retires; one
whose slots do not match ends with STASH_MISMATCH.  Either ends with OK_EMPTY where it names no slot and with its code where
a check fails; one that may not issue waits, and one that a rule of its step ends has no effect.  Each of the two commands
answers a next state in every state, and every part of the state but those listed is as before. -/
def Obligations.StashPushesAndPops : Prop :=
  (∀ (s : State) (ring : Fin 1024) (idx : Nat) (e : Entry) (rows : List Nat) (es : List StashEntry), let p := s.ringPlot ring
    s.takes ring idx opPUSH e → e.fld 20 18 9 ≠ 0 →
    s.stashChecks p e = .ok rows → s.pushEntries p e (s.tensorOf p (e.u16 8)) rows = .ok es →
    (s.plot p).level + sumNat (es.map (fun x => x.size))
      ≤ (if e.member then (s.stepOf p).budget * stashUnit else s.freeStash p) →
    ∃ t f, exec (.stashPush ring idx) s = .next t ∧ t.ended ring idx 0x00 0
      ∧ (t.plot p).level = (s.plot p).level + sumNat (es.map (fun x => x.size)) ∧ (t.plot p).spill = (s.plot p).spill
      ∧ t.entry ring idx = some f ∧ f.links.map (fun l => l.1) = (List.range es.length).map (· + e.fld 20 8 0)
      ∧ f.links.map (fun l => { l.2 with place := 0 }) = es.map (fun x => { x with place := 0 })
      ∧ OtherEntries s t ring idx ∧ SameMemory s t ∧ FieldsKept s t ((STS_STASH_LEVEL.LEVEL p).key :: workKeys))
  ∧ (∀ (s : State) (ring : Fin 1024) (idx : Nat) (e : Entry) (rows : List Nat) (es es' : List StashEntry),
    let p := s.ringPlot ring
    s.takes ring idx opPUSH e → e.fld 20 18 9 ≠ 0 →
    s.stashChecks p e = .ok rows → s.pushEntries p e (s.tensorOf p (e.u16 8)) rows = .ok es →
    (if e.member then (s.stepOf p).budget * stashUnit else s.freeStash p)
      < (s.plot p).level + sumNat (es.map (fun x => x.size)) → s.rd (CFG_STASH_OVERFLOW.POLICY p) ≠ 0 →
    s.spillEntries p (s.spillUsed p) es = some es' →
    ∃ t f, exec (.stashPush ring idx) s = .next t ∧ t.ended ring idx 0x00 0 ∧ (t.plot p).level = (s.plot p).level
      ∧ (t.plot p).spill = (s.plot p).spill + sumNat (es'.map (fun x => x.size))
      ∧ t.rd (STS_STASH_SPILLED.SPILLED p) = 1 % 2 ^ (STS_STASH_SPILLED.SPILLED p).width
      ∧ t.entry ring idx = some f ∧ f.links.map (fun l => l.2) = es' ∧ OtherEntries s t ring idx
      ∧ OnlyHost s t (s.spillBase p) (s.rd (CFG_STASH_SPILL_SIZE.PAGES p) * 4096) ∧ t.stash = s.stash
      ∧ FieldsKept s t ((STS_STASH_LEVEL.LEVEL p).key :: (STS_STASH_SPILLED.SPILLED p).key
          :: (STS_STASH_SPILLED.SEQ p).key :: workKeys))
  ∧ (∀ (s : State) (ring : Fin 1024) (idx : Nat) (e : Entry) (rows : List Nat) (es : List StashEntry), let p := s.ringPlot ring
    s.takes ring idx opPUSH e → e.fld 20 18 9 ≠ 0 →
    s.stashChecks p e = .ok rows → s.pushEntries p e (s.tensorOf p (e.u16 8)) rows = .ok es →
    (if e.member then (s.stepOf p).budget * stashUnit else s.freeStash p)
      < (s.plot p).level + sumNat (es.map (fun x => x.size)) →
    (s.rd (CFG_STASH_OVERFLOW.POLICY p) = 0 ∨ s.spillEntries p (s.spillUsed p) es = none) →
    ∃ t, exec (.stashPush ring idx) s = .next t ∧ t.ended ring idx 0x1C 0 ∧ (t.plot p).level = (s.plot p).level
      ∧ OtherEntries s t ring idx ∧ t = { s with rings := t.rings, plots := t.plots })
  ∧ (∀ (s : State) (ring : Fin 1024) (idx st v : Nat) (e : Entry), s.takes ring idx opPUSH e → e.fld 20 18 9 ≠ 0 →
    s.stashChecks (s.ringPlot ring) e = .error (.code st v) →
    exec (.stashPush ring idx) s = .next ((s.setStage ring idx 2).finish ring idx st v))
  ∧ (∀ (s : State) (ring : Fin 1024) (idx : Nat) (e : Entry) (rows : List Nat) (tops : List StashEntry),
    let p := s.ringPlot ring
    let t0 := s.tensorOf p (e.u16 8)
    let slots := (List.range (e.fld 20 18 9)).map (· + e.fld 20 8 0)
    s.takes ring idx opPOP e → e.fld 20 18 9 ≠ 0 →
    s.stashChecks p e = .ok rows → slots.filterMap (fun k => (s.slot k).head?) = tops → tops.length = slots.length →
    (∀ x ∈ tops, x.tag = e.u16 10 ∧ x.fmt = t0.fmt ∧ x.cols = t0.cols ∧ (x.spilled = true ∨ s.fenced x.place = false)) →
    tops.map (fun x => x.rows) = rows → (isNarrow t0.fmt = true → ∀ x ∈ tops, x.sEnc = (tops.headD {}).sEnc) →
    s.leaseSound p →
    ∃ t f, exec (.stashPop ring idx) s = .next t ∧ t.ended ring idx 0x00 0 ∧ t.entry ring idx = some f ∧ f.pops = slots
      ∧ OtherEntries s t ring idx ∧ t.host = s.host ∧ t.stash = s.stash ∧ FieldsKept s t workKeys
      ∧ (isNarrow t0.fmt = false → t0.fmt ≠ 0xD → OnlyTensors s t p [e.u16 8] []))
  ∧ (∀ (s : State) (ring : Fin 1024) (idx : Nat) (e : Entry) (rows : List Nat), let p := s.ringPlot ring
    s.takes ring idx opPOP e → e.fld 20 18 9 ≠ 0 →
    s.stashChecks p e = .ok rows →
    ((∃ k < e.fld 20 18 9, s.slot (e.fld 20 8 0 + k) = [])
      ∨ ∃ k < e.fld 20 18 9, ∃ x l, s.slot (e.fld 20 8 0 + k) = x :: l ∧ x.tag ≠ e.u16 10) →
    exec (.stashPop ring idx) s = .next ((s.setStage ring idx 2).finish ring idx 0x1D 0))
  ∧ (∀ (s : State) (ring : Fin 1024) (idx st v : Nat) (e : Entry), s.takes ring idx opPOP e → e.fld 20 18 9 ≠ 0 →
    s.stashChecks (s.ringPlot ring) e = .error (.code st v) →
    exec (.stashPop ring idx) s = .next ((s.setStage ring idx 2).finish ring idx st v))
  ∧ (∀ (s : State) (ring : Fin 1024) (idx : Nat) (e : Entry) (c : Instr) (op : Nat),
    ((op = opPUSH ∧ c = .stashPush ring idx) ∨ (op = opPOP ∧ c = .stashPop ring idx)) → s.takes ring idx op e →
    e.fld 20 18 9 = 0 → exec c s = .next ((s.setStage ring idx 2).finish ring idx
      (if firstFail [e.reserved [(111, 64), (179, 128)]] = none then 0x01 else 0x10)
      ((firstFail [e.reserved [(111, 64), (179, 128)]]).getD 0)))
  ∧ WaitsOrStops opPUSH .stashPush
  ∧ WaitsOrStops opPOP .stashPop
  ∧ (∀ (s : State) (ring : Fin 1024) (idx : Nat), ∃ t, exec (.stashPush ring idx) s = .next t ∧ Rest s t [.draws,
    .out, .regs, .hbm, .host, .flash, .rings, .plots, .pcie, .power, .faults])
  ∧ (∀ (s : State) (ring : Fin 1024) (idx : Nat), ∃ t, exec (.stashPop ring idx) s = .next t ∧ Rest s t [.draws, .out,
    .regs, .hbm, .flash, .rings, .plots, .pcie, .power, .faults, .bytes])

/-- R200, R201, R392, R396 to R400: a CORE_CALL gives its lowest free cores the routine; a LOAD checks the image and registers
it at retirement, and ends with SLAB_OWNERSHIP or DESC_ERROR where the slab or the image is not as it must be; an UNLOAD
removes the routine.  Each ends with OK_EMPTY where it asks for no core and with DESC_ERROR where a check fails, and waits
while its cores are not free or it may not issue; an UNLOAD also waits while the routine runs.  A corrected error of TCM is
counted; one of a core of the call that cannot be corrected ends the call.  The end of a routine frees its core and, with the
last, completes the call; a failure or a trap ends the whole call; a core that runs nothing does nothing.  Each of the four
commands answers a next state in every state, and every part of the state but those listed is as before. -/
def Obligations.CallsRunRoutinesOnCores : Prop :=
  (∀ (s : State) (ring : Fin 1024) (idx : Nat) (core : Fin 32) (e : Entry), let p := s.ringPlot ring
    s.takes ring idx opCORECALL e → s.coresReady ring idx = true → 1 < e.u16 8 →
    firstFail [e.reserved coreUsed, (18, decide ((s.coresOf p).length < e.cCores))] = none →
    e.cCores ≠ 0 →
    firstFail ((8, (s.routine p (e.u16 8)).isNone)
      :: e.cArgs.map (fun a => (a.2.1, s.badHandle p a.2.2 (fun t => !(e.flag 19 (4 + a.1) && isNarrow t.fmt))))) = none →
    ∃ t, exec (.coreCall ring idx core .good) s = .next t
      ∧ (∀ c ∈ (s.freeCores p).take e.cCores, (t.core c).job = some (ring.val, idx) ∧ (t.core c).resident = some (p, e.u16 8))
      ∧ (∀ c, c ∉ (s.freeCores p).take e.cCores → t.core c = s.core c)
      ∧ t.entry ring idx = some { e with stage := 2 } ∧ OtherEntries s t ring idx ∧ SameMemory s t
      ∧ t.rd CNT_CORE_CALL.CALLS = min (s.rd CNT_CORE_CALL.CALLS + 1) (2 ^ CNT_CORE_CALL.CALLS.width - 1)
      ∧ FieldsKept s t [CNT_CORE_CALL.CALLS.key])
  ∧ (∀ (s : State) (ring : Fin 1024) (idx : Nat) (core : Fin 32) (e : Entry), let p := s.ringPlot ring
    let fields := [e.reserved coreUsed, (18, decide ((s.coresOf p).length < e.cCores))]
    let handles := (8, (s.routine p (e.u16 8)).isNone)
      :: e.cArgs.map (fun a => (a.2.1, s.badHandle p a.2.2 (fun t => !(e.flag 19 (4 + a.1) && isNarrow t.fmt))))
    s.takes ring idx opCORECALL e → s.coresReady ring idx = true → 1 < e.u16 8 →
    (firstFail fields = none → e.cCores ≠ 0 → firstFail handles = none → core.val ∈ (s.freeCores p).take e.cCores →
      4 ≤ core.val → ∃ t, exec (.coreCall ring idx core .uncorrectable) s = .next t ∧ t.ended ring idx 0x19 0
        ∧ (∀ c, (t.core c).job ≠ some (ring.val, idx)) ∧ t.waitsForCore1 24 1 ∧ OtherEntries s t ring idx ∧ SameMemory s t)
    ∧ (firstFail fields = none → e.cCores ≠ 0 → firstFail handles = none →
      ∃ t, exec (.coreCall ring idx core .corrected) s = .next t ∧ (t.core core).corr = (s.core core).corr + 1
        ∧ (∀ c ∈ (s.freeCores p).take e.cCores, (t.core c).job = some (ring.val, idx)) ∧ OtherEntries s t ring idx
        ∧ SameMemory s t)
    ∧ (∀ ecc, firstFail fields = none → e.cCores = 0 →
      exec (.coreCall ring idx core ecc) s = .next ((s.setStage ring idx 2).finish ring idx 0x01 0))
    ∧ (∀ ecc v, firstFail (if e.cCores = 0 then fields else fields ++ handles) = some v →
      exec (.coreCall ring idx core ecc) s = .next ((s.setStage ring idx 2).finish ring idx 0x10 v)))
  ∧ (∀ (s : State) (ring : Fin 1024) (idx : Nat) (e : Entry), let p := s.ringPlot ring
    let slab := s.slab (e.u16 24)
    let img := s.readGlade slab.start slab.bytes
    let word (n : Nat) : Nat := leNat ((img.drop n).take 4)
    s.takes ring idx opCORECALL e → s.coresReady ring idx = true → e.u16 8 = 0 →
    firstFail [e.reserved coreUsed, (18, decide (1 < e.cCores ∨ (s.coresOf p).length < e.cCores))] = none →
    e.cCores ≠ 0 → e.u32 28 = 0 → slab.owned.toNat = p → 0x100 ≤ e.u16 26 → e.u16 26 ≤ 0xFFFE →
    ((s.plot p).routines.length < 64 ∨ (s.routine p (e.u16 26)).isSome = true) → slab.owner = ownDEVICE →
    s.rd SEC_CFG.KERNEL_LOAD_EN ≠ 0 → s.gladeFail true slab.start slab.bytes = none →
    word 0 = 0x4B584C4B → 64 + word 4 ≤ slab.bytes → word 4 + word 8 ≤ 1920 * 1024 →
    ∃ t f rt, exec (.load ring idx true) s = .next t ∧ t.ended ring idx 0x00 0 ∧ t.entry ring idx = some f
      ∧ f.register = some rt ∧ rt.num = e.u16 26 ∧ rt.code = (img.drop 64).take (word 4) ∧ rt.entry = word 12
      ∧ OtherEntries s t ring idx ∧ SameMemory s t ∧ FieldsKept s t [CNT_CORE_CALL.CALLS.key])
  ∧ (∀ (s : State) (ring : Fin 1024) (idx : Nat) (e : Entry) (ok : Bool), let p := s.ringPlot ring
    let slab := s.slab (e.u16 24)
    let img := s.readGlade slab.start slab.bytes
    let word (n : Nat) : Nat := leNat ((img.drop n).take 4)
    let fields := [e.reserved coreUsed, (18, decide (1 < e.cCores ∨ (s.coresOf p).length < e.cCores))]
    let names := [(24, decide (e.u32 28 ≠ 0) || decide (slab.owned.toNat ≠ p) || decide (e.u16 26 < 0x100 ∨ 0xFFFE < e.u16 26)
      || (decide (64 ≤ (s.plot p).routines.length) && (s.routine p (e.u16 26)).isNone))]
    s.takes ring idx opCORECALL e → s.coresReady ring idx = true → e.u16 8 = 0 →
    (firstFail fields = none → e.cCores = 0 →
      exec (.load ring idx ok) s = .next ((s.setStage ring idx 2).finish ring idx 0x01 0))
    ∧ (∀ v, firstFail (if e.cCores = 0 then fields else fields ++ names) = some v →
      exec (.load ring idx ok) s = .next ((s.setStage ring idx 2).finish ring idx 0x10 v))
    ∧ (firstFail (fields ++ names) = none → e.cCores ≠ 0 → slab.owner ≠ ownDEVICE →
      ∃ t, exec (.load ring idx ok) s = .next t ∧ t.ended ring idx 0x15 0 ∧ OtherEntries s t ring idx ∧ SameMemory s t)
    ∧ (firstFail (fields ++ names) = none → e.cCores ≠ 0 → slab.owner = ownDEVICE →
      s.gladeFail true slab.start slab.bytes = none →
      (word 0 ≠ 0x4B584C4B ∨ ok = false ∨ slab.bytes < 64 + word 4 ∨ 1920 * 1024 < word 4 + word 8) →
      exec (.load ring idx ok) s = .next ((s.setStage ring idx 2).finish ring idx 0x10 24)))
  ∧ (∀ (s : State) (ring : Fin 1024) (idx : Nat) (e : Entry), let p := s.ringPlot ring
    s.takes ring idx opCORECALL e → s.coresReady ring idx = true → e.u16 8 = 1 →
    (∀ q ∈ s.cores, q.2.job = none ∨ q.2.resident ≠ some (p, e.u16 26)) →
    firstFail [e.reserved coreUsed, (18, decide (1 < e.cCores ∨ (s.coresOf p).length < e.cCores))] = none →
    e.cCores ≠ 0 →
    ∃ t, exec (.unload ring idx) s = .next t ∧ t.ended ring idx 0x00 0
      ∧ (t.plot p).routines = (s.plot p).routines.filter (fun x => decide (x.num ≠ e.u16 26))
      ∧ OtherEntries s t ring idx ∧ SameMemory s t ∧ FieldsKept s t [CNT_CORE_CALL.CALLS.key])
  ∧ (∀ (s : State) (ring : Fin 1024) (idx : Nat) (e : Entry), let p := s.ringPlot ring
    let fields := [e.reserved coreUsed, (18, decide (1 < e.cCores ∨ (s.coresOf p).length < e.cCores))]
    s.takes ring idx opCORECALL e → s.coresReady ring idx = true → e.u16 8 = 1 →
    (∀ q ∈ s.cores, q.2.job = none ∨ q.2.resident ≠ some (p, e.u16 26)) →
    (firstFail fields = none → e.cCores = 0 →
      exec (.unload ring idx) s = .next ((s.setStage ring idx 2).finish ring idx 0x01 0))
    ∧ (∀ v, firstFail fields = some v →
      exec (.unload ring idx) s = .next ((s.setStage ring idx 2).finish ring idx 0x10 v)))
  ∧ (∀ (s : State) (ring : Fin 1024) (idx : Nat) (e : Entry), let p := s.ringPlot ring
    s.takes ring idx opCORECALL e → e.u16 8 = 1 → (∃ q ∈ s.cores, q.2.job ≠ none ∧ q.2.resident = some (p, e.u16 26)) →
    exec (.unload ring idx) s = .next s)
  ∧ (∀ (s : State) (ring : Fin 1024) (idx : Nat) (core : Fin 32) (ecc : Ecc) (ok : Bool),
    s.mayIssue ring idx opCORECALL = none ∨ (s.stopped ring idx = false ∧ s.coresReady ring idx = false) →
    exec (.coreCall ring idx core ecc) s = .next s ∧ exec (.load ring idx ok) s = .next s
      ∧ exec (.unload ring idx) s = .next s)
  ∧ (∀ (s : State) (ring : Fin 1024) (idx : Nat) (core : Fin 32) (ecc : Ecc) (ok : Bool) (e : Entry),
    s.entry ring idx = some e →
    (e.u16 8 ≤ 1 → exec (.coreCall ring idx core ecc) s = .next s)
    ∧ (e.u16 8 ≠ 0 → exec (.load ring idx ok) s = .next s) ∧ (e.u16 8 ≠ 1 → exec (.unload ring idx) s = .next s))
  ∧ (∀ (s : State) (ring : Fin 1024) (idx st : Nat) (core : Fin 32) (ecc : Ecc) (ok : Bool) (e : Entry),
    s.mayIssue ring idx opCORECALL = some e → s.memberStop (s.ringPlot ring) e = some st →
    let t := (s.setStage ring idx 2).finish ring idx st 0
    (1 < e.u16 8 → exec (.coreCall ring idx core ecc) s = .next t) ∧ (e.u16 8 = 0 → exec (.load ring idx ok) s = .next t)
    ∧ (e.u16 8 = 1 → exec (.unload ring idx) s = .next t))
  ∧ (∀ (s : State) (core : Fin 28) (v : BitVec 32) (r i : Nat) (e : Entry), (s.core (4 + core)).job = some (r, i) →
    s.entry r i = some e → e.stage = 2 → Tab.rises s.cores 0 = true →
    (∀ c, c ≠ 4 + core.val → (s.core c).job ≠ some (r, i)) →
    ∃ t, exec (.routineEnd core .success v) s = .next t ∧ (t.core (4 + core)).job = none ∧ t.ended r i 0x00 v.toNat
      ∧ OtherEntries s t r i ∧ SameMemory s t ∧ t.regs = s.regs)
  ∧ (∀ (s : State) (core : Fin 28) (v : BitVec 32) (r i : Nat) (e : Entry), (s.core (4 + core)).job = some (r, i) →
    s.entry r i = some e → e.stage = 2 →
    ∃ t, exec (.routineEnd core .failure v) s = .next t ∧ (∀ c, (t.core c).job ≠ some (r, i)) ∧ t.ended r i 0x19 v.toNat
      ∧ OtherEntries s t r i ∧ SameMemory s t ∧ FieldsKept s t [CNT_CORE_CALL.FAILED.key])
  ∧ (∀ (s : State) (core : Fin 28) (v : BitVec 32) (r i c : Nat), (s.core (4 + core)).job = some (r, i) →
    c ≠ 4 + core.val → (s.core c).job = some (r, i) →
    ∃ t, exec (.routineEnd core .success v) s = .next t ∧ (t.core (4 + core)).job = none
      ∧ (∀ n, n ≠ 4 + core.val → t.core n = s.core n) ∧ t = { s with cores := t.cores })
  ∧ (∀ (s : State) (core : Fin 28) (v : BitVec 32) (r i cause : Nat) (e : Entry), (s.core (4 + core)).job = some (r, i) →
    s.entry r i = some e → e.stage = 2 →
    ∃ t, exec (.routineEnd core (.trap cause) v) s = .next t ∧ (∀ c, (t.core c).job ≠ some (r, i))
      ∧ t.ended r i 0x19 (0xFFFF0000 + cause) ∧ OtherEntries s t r i ∧ SameMemory s t
      ∧ FieldsKept s t [CNT_CORE_CALL.FAILED.key])
  ∧ (∀ (s : State) (core : Fin 28) (how : RoutineEnd) (v : BitVec 32), (s.core (4 + core)).job = none →
    exec (.routineEnd core how v) s = .next s)
  ∧ (∀ (s : State) (ring : Fin 1024) (idx : Nat) (core : Fin 32) (tcm : Ecc), ∃ t, exec (.coreCall ring idx core tcm)
    s = .next t ∧ Rest s t [.out, .regs, .hbm, .flash, .rings, .plots, .pcie, .cores, .faults])
  ∧ (∀ (s : State) (ring : Fin 1024) (idx : Nat) (digestOk : Bool), ∃ t, exec (.load ring idx digestOk) s = .next t ∧
    Rest s t [.out, .regs, .hbm, .flash, .rings, .plots, .pcie, .faults])
  ∧ (∀ (s : State) (ring : Fin 1024) (idx : Nat), ∃ t, exec (.unload ring idx) s = .next t ∧ Rest s t [.out, .regs,
    .hbm, .flash, .rings, .plots, .pcie, .cores, .faults])
  ∧ (∀ (s : State) (core : Fin 28) (how : RoutineEnd) (value : BitVec 32), ∃ t, exec (.routineEnd core how value) s =
    .next t ∧ Rest s t [.regs, .rings, .cores])

/-- R393, R400: a stream reads elements of a tensor that the call passes, or of the plot's DEVICE-owned glade memory,
into TCM as FP64, or writes TCM data to them; the monitor refuses a stream of a handle that is not passed, a write of one
that is not marked, an element outside the tensor, a format that the engine does not convert, glade memory that is not the
plot's DEVICE-owned slabs, and TCM addresses in its own part: the routine then ends with the cause of its direction.  A
stream waits while memory that it names stalls or is not there yet, and a core that runs nothing starts none; data that does
not match the count is no stream.  A stream that is one answers a next state in every state, and every part of the state but
those listed is as before. -/
def Obligations.StreamsMoveElements : Prop :=
  (∀ (s : State) (core : Fin 28) (target start count : Nat) (stride : Int) (tcm : Nat) (fmt : Fin 16) (r i : Nat)
      (e : Entry) (l : List Nat) (a : Nat × Nat × Nat) (n : Nat) (q : Tensor) (vs : List Val),
    (s.core (4 + core)).job = some (r, i) → s.entry r i = some e → streamIdx start count stride = some l →
    s.streamReady core target r = true →
    tcm + 8 * count ≤ 1920 * 1024 → e.cArgs.find? (fun a => decide (a.2.2 = target)) = some a →
    (s.core (4 + core)).args.find? (fun a => decide (a.1 = target)) = some (n, q) → streamFmt false q.fmt = true →
    (∀ k ∈ l, k < q.count) → l.mapM (s.elemAt (s.ringPlot r) q) = .ok vs →
    ∃ t, exec (.streamStart core false target start count stride tcm false fmt []) s = .next t
      ∧ (t.core (4 + core)).tcm = Memory.write (s.core (4 + core)).tcm tcm (vs.flatMap (fun v => leBytes 8 (fp64Of v).toNat))
      ∧ (∀ c, c ≠ 4 + core.val → t.core c = s.core c)
      ∧ t.rd (CNT_STORED_SAT.COUNT (s.ringPlot r)) = (s.rd (CNT_STORED_SAT.COUNT (s.ringPlot r))
          + s.unusedCodes (s.ringPlot r) q l) % 2 ^ (CNT_STORED_SAT.COUNT (s.ringPlot r)).width
      ∧ FieldsKept s t [(CNT_STORED_SAT.COUNT (s.ringPlot r)).key] ∧ t = { s with regs := t.regs, cores := t.cores })
  ∧ (∀ (s : State) (core : Fin 28) (target start count : Nat) (stride : Int) (tcm : Nat) (fmt : Fin 16)
      (data : List (BitVec 64)) (r i : Nat) (e : Entry) (l : List Nat) (a : Nat × Nat × Nat) (n : Nat) (q : Tensor),
    (s.core (4 + core)).job = some (r, i) → s.entry r i = some e → streamIdx start count stride = some l →
    s.streamReady core target r = true →
    data.length = count → tcm + 8 * count ≤ 1920 * 1024 → e.cArgs.find? (fun a => decide (a.2.2 = target)) = some a →
    (s.core (4 + core)).args.find? (fun a => decide (a.1 = target)) = some (n, q) → streamFmt true q.fmt = true →
    e.flag 19 (4 + a.1) = true → (∀ k ∈ l, k < q.count) → s.ringPlot r < 64 → s.leaseSound (s.ringPlot r) →
    ∃ t, exec (.streamStart core false target start count stride tcm true fmt data) s = .next t
      ∧ t.host = s.host ∧ t.stash = s.stash ∧ FieldsKept s t workKeys
      ∧ ∀ x, (∀ y, q.addr ≤ y → y < q.addr + q.bytes → s.plotToHbm (s.ringPlot r) y ≠ some x) →
          t.hbm.byte x = s.hbm.byte x)
  ∧ (∀ (s : State) (core : Fin 28) (target start count : Nat) (stride : Int) (tcm : Nat) (fmt : Fin 16) (r i : Nat)
      (e : Entry) (idx : List Nat), let l := gladeElems fmt target idx
    (s.core (4 + core)).job = some (r, i) → s.entry r i = some e → streamIdx start count stride = some idx →
    s.streamWaits l = false → tcm + 8 * count ≤ 1920 * 1024 → streamFmt false fmt = true → isNarrow fmt = false →
    fmt ≠ 13 → (∀ k ∈ idx, s.deviceSlab (s.ringPlot r) (target + elemBytes fmt * k) (elemBytes fmt) = true) →
    s.accessFail true l = none →
    ∃ t, exec (.streamStart core true target start count stride tcm false fmt []) s = .next t
      ∧ (t.core (4 + core)).tcm = Memory.write (s.core (4 + core)).tcm tcm
          (l.flatMap (fun q => leBytes 8 (fp64Of (elemVal fmt (leNat (s.hbm.read q.1 q.2)) 0)).toNat))
      ∧ (∀ c, c ≠ 4 + core.val → t.core c = s.core c) ∧ FieldsKept s t workKeys
      ∧ t = { s with cores := t.cores, regs := t.regs, power := t.power })
  ∧ (∀ (s : State) (core : Fin 28) (target start count : Nat) (stride : Int) (tcm : Nat) (fmt : Fin 16)
      (data : List (BitVec 64)) (r i : Nat) (e : Entry) (idx : List Nat), let l := gladeElems fmt target idx
    (s.core (4 + core)).job = some (r, i) → s.entry r i = some e → streamIdx start count stride = some idx →
    s.streamWaits l = false → data.length = count → tcm + 8 * count ≤ 1920 * 1024 → streamFmt true fmt = true →
    (∀ k ∈ idx, s.deviceSlab (s.ringPlot r) (target + elemBytes fmt * k) (elemBytes fmt) = true) →
    s.accessFail false l = none →
    ∃ t, exec (.streamStart core true target start count stride tcm true fmt data) s = .next t
      ∧ t.host = s.host ∧ t.stash = s.stash ∧ FieldsKept s t workKeys
      ∧ ∀ x, (∀ q ∈ l, x < q.1 ∨ q.1 + q.2 ≤ x) → t.hbm.byte x = s.hbm.byte x)
  ∧ (∀ (s : State) (core : Fin 28) (target start count : Nat) (stride : Int) (tcm : Nat) (write : Bool) (fmt : Fin 16)
      (data : List (BitVec 64)) (r i : Nat) (e : Entry) (l : List Nat),
    (s.core (4 + core)).job = some (r, i) → s.entry r i = some e → e.stage = 2 → streamIdx start count stride = some l →
    s.streamReady core target r = true → data.length = (if write then count else 0) →
    (1920 * 1024 < tcm + 8 * count ∨ (∀ a ∈ e.cArgs, a.2.2 ≠ target)
      ∨ (∃ a n q, e.cArgs.find? (fun a => decide (a.2.2 = target)) = some a
          ∧ (s.core (4 + core)).args.find? (fun a => decide (a.1 = target)) = some (n, q)
          ∧ ((write = true ∧ e.flag 19 (4 + a.1) = false) ∨ streamFmt write q.fmt = false ∨ ∃ k ∈ l, q.count ≤ k))) →
    ∃ t, exec (.streamStart core false target start count stride tcm write fmt data) s = .next t
      ∧ t.ended r i 0x19 (0xFFFF0000 + if write then 7 else 5) ∧ (∀ c, (t.core c).job ≠ some (r, i))
      ∧ OtherEntries s t r i ∧ SameMemory s t ∧ FieldsKept s t [CNT_CORE_CALL.FAILED.key])
  ∧ (∀ (s : State) (core : Fin 28) (target start count : Nat) (stride : Int) (tcm : Nat) (write : Bool) (fmt : Fin 16)
      (data : List (BitVec 64)) (r i : Nat) (e : Entry) (idx : List Nat),
    (s.core (4 + core)).job = some (r, i) → s.entry r i = some e → e.stage = 2 →
    streamIdx start count stride = some idx → s.streamWaits (gladeElems fmt target idx) = false →
    data.length = (if write then count else 0) →
    (1920 * 1024 < tcm + 8 * count ∨ streamFmt write fmt = false ∨ isNarrow fmt = true ∨ fmt = 13
      ∨ ∃ k ∈ idx, s.deviceSlab (s.ringPlot r) (target + elemBytes fmt * k) (elemBytes fmt) = false) →
    ∃ t, exec (.streamStart core true target start count stride tcm write fmt data) s = .next t
      ∧ t.ended r i 0x19 (0xFFFF0000 + if write then 7 else 5) ∧ (∀ c, (t.core c).job ≠ some (r, i))
      ∧ OtherEntries s t r i ∧ SameMemory s t ∧ FieldsKept s t [CNT_CORE_CALL.FAILED.key])
  ∧ (∀ (s : State) (core : Fin 28) (target start count : Nat) (stride : Int) (tcm : Nat) (write : Bool) (fmt : Fin 16)
      (data : List (BitVec 64)) (r i : Nat) (e : Entry) (idx : List Nat),
    (s.core (4 + core)).job = some (r, i) → s.entry r i = some e → streamIdx start count stride = some idx →
    data.length = (if write then count else 0) →
    (s.streamWaits (gladeElems fmt target idx) = true →
      exec (.streamStart core true target start count stride tcm write fmt data) s = .next s)
    ∧ (s.streamReady core target r = false →
      exec (.streamStart core false target start count stride tcm write fmt data) s = .next s))
  ∧ (∀ (s : State) (core : Fin 28) (glade : Bool) (target start count : Nat) (stride : Int) (tcm : Nat) (write : Bool)
      (fmt : Fin 16) (data : List (BitVec 64)), (s.core (4 + core)).job = none →
    data.length = (if write then count else 0) →
    exec (.streamStart core glade target start count stride tcm write fmt data) s = .next s)
  ∧ (∀ (s : State) (core : Fin 28) (glade : Bool) (target start count : Nat) (stride : Int) (tcm : Nat) (write : Bool)
      (fmt : Fin 16) (data : List (BitVec 64)), data.length ≠ (if write then count else 0) →
    exec (.streamStart core glade target start count stride tcm write fmt data) s = .fault .malformedCommand)
  ∧ (∀ (s : State) (core : Fin 28) (glade : Bool) (target start count : Nat) (stride : Int) (tcm : Nat) (write : Bool)
    (fmt : Fin 16) (data : List (BitVec 64)), (Instr.streamStart core glade target start count stride tcm write fmt
    data).wellFormed = true → ∃ t, exec (.streamStart core glade target start count stride tcm write fmt data) s =
    .next t ∧ Rest s t [.out, .regs, .hbm, .flash, .rings, .plots, .pcie, .cores, .power, .faults, .bytes])

/-- R171, R172, R175, R205 to R209, R225 to R227, R230, R231: an EXCHANGE on a free schedule thins its gradient and begins
its epoch, which with one device completes at once; one of no elements ends with OK_EMPTY, one that fails checks with
DESC_ERROR, and one waits while an epoch of its schedule is in execution or it may not issue.  An epoch whose destination is
written completes; an abort stops it and discards what is held of it; a failed one runs again once, waits for a path switch
that is due, and the second time, or after a seal failure, fails its descriptor with nothing of the epoch in H_DST.  At an
epoch boundary a port that is to change moves between its link adder and the vector-engine path, and waits while an epoch
runs over it; a generator that has given 2³² draws is reseeded.  A command whose conditions do not hold has no effect.
Each of the six commands answers a next state in every state, and every part of the state but those listed is as before. -/
def Obligations.EpochsRunAndPathsSwitch : Prop :=
  (∀ (s : State) (ring : Fin 1024) (idx : Nat) (e : Entry), let p := s.ringPlot ring
    let k := e.u8 26
    let g := e.fld 28 17 13
    s.takes ring idx opEXCHANGE e → (s.sched k).job = none → (s.sched k).held = [] →
    firstFail [e.reserved [(245, 64), (272, 256)], (27, decide (e.u8 27 = 0 ∨ e.u8 27 = 255)),
      (28, decide (e.fld 28 9 0 = 0 ∨ 512 < e.fld 28 9 0)), (29, decide (g < 5 ∨ 16 < g)),
      (32, decide (2 ^ g < e.fld 32 16 0))] = none →
    e.xLen ≠ 0 → firstFail (s.exchangeChecks p e) = none → s.checkVe p = .ok () → s.leaseSound p →
    s.readable p (e.u16 8) e.xLen → (e.flag 30 2 = false → e.fld 32 16 0 ≠ 2 ^ g → s.readable p (e.u16 10) e.xLen) →
    1 < (s.xNodes k).length →
    (∀ n ∈ s.xNodes k, n ≠ s.node → ((s.routeOf n).filter (s.leasesPort p)).any (s.reaches n) = true) →
    ∃ t j, exec (.exchange ring idx) s = .next t ∧ (t.sched k).job = some j ∧ j.ring = ring.val ∧ j.idx = idx
      ∧ j.op = opEXCHANGE ∧ j.epoch = e.u16 24 ∧ (t.sched k).cur = some (e.u16 24) ∧ t.host = s.host ∧ t.stash = s.stash)
  ∧ (∀ (s : State) (ring : Fin 1024) (idx : Nat) (e : Entry), let p := s.ringPlot ring
    let k := e.u8 26
    let g := e.fld 28 17 13
    let fields := [e.reserved [(245, 64), (272, 256)], (27, decide (e.u8 27 = 0 ∨ e.u8 27 = 255)),
      (28, decide (e.fld 28 9 0 = 0 ∨ 512 < e.fld 28 9 0)), (29, decide (g < 5 ∨ 16 < g)),
      (32, decide (2 ^ g < e.fld 32 16 0))]
    s.takes ring idx opEXCHANGE e → (s.sched k).job = none →
    (firstFail fields = none → e.xLen = 0 →
      exec (.exchange ring idx) s = .next ((s.setStage ring idx 2).finish ring idx 0x01 0))
    ∧ (∀ v, firstFail (if e.xLen = 0 then fields else fields ++ s.exchangeChecks p e) = some v →
      exec (.exchange ring idx) s = .next ((s.setStage ring idx 2).finish ring idx 0x10 v))
    ∧ (firstFail (fields ++ s.exchangeChecks p e) = none → e.xLen ≠ 0 → s.checkVe p = .ok () → s.leaseSound p →
      s.readable p (e.u16 8) e.xLen → (e.flag 30 2 = false → e.fld 32 16 0 ≠ 2 ^ g → s.readable p (e.u16 10) e.xLen) →
      s.xNodes k = [s.node] →
      ∃ t, exec (.exchange ring idx) s = .next t ∧ t.ended ring idx 0x00 0 ∧ (t.sched k).job = none
        ∧ (t.sched k).last = some (e.u16 24) ∧ t.host = s.host ∧ t.stash = s.stash ∧ OtherEntries s t ring idx))
  ∧ (∀ (s : State) (ring : Fin 1024) (idx : Nat), s.mayIssue ring idx opEXCHANGE = none
      ∨ (s.stopped ring idx = false ∧ ∃ e, s.entry ring idx = some e ∧ (s.sched (e.u8 26)).job ≠ none) →
    exec (.exchange ring idx) s = .next s)
  ∧ (∀ (s : State) (ring : Fin 1024) (idx st : Nat) (e : Entry), s.mayIssue ring idx opEXCHANGE = some e →
    s.memberStop (s.ringPlot ring) e = some st →
    exec (.exchange ring idx) s = .next ((s.setStage ring idx 2).finish ring idx st 0))
  ∧ (∀ (s : State) (k : Fin 256) (j : XJob) (e : Entry), (s.sched k).job = some j → s.entry j.ring j.idx = some e →
    e.stage = 2 → j.op = opEXCHANGE → j.failed = none → j.plot < 64 → s.leaseSound j.plot →
    (∀ u ∈ s.xUnits k e, u ∈ j.written) →
    (∀ t ∈ s.tags.waiting, ¬ (t.kind = 2 ∧ t.ring = j.ring ∧ t.idx = j.idx)) →
    ∃ t, exec (.epochComplete k) s = .next t ∧ t.ended j.ring j.idx 0x00 0 ∧ (t.sched k).job = none
      ∧ (t.sched k).last = some j.epoch
      ∧ t.rd (CNT_XCH_EPOCHS.COUNT j.plot) = (s.rd (CNT_XCH_EPOCHS.COUNT j.plot) + 1) % 2 ^ (CNT_XCH_EPOCHS.COUNT j.plot).width
      ∧ t.host = s.host ∧ t.stash = s.stash ∧ OtherEntries s t j.ring j.idx)
  ∧ (∀ (s : State) (k : Fin 256), (∀ j, (s.sched k).job = some j → j.op ≠ opEXCHANGE ∨ j.failed ≠ none
      ∨ (∃ t ∈ s.tags.waiting, t.kind = 2 ∧ t.ring = j.ring ∧ t.idx = j.idx) ∨ ∃ u ∈ s.xUnits k (s.xEntry j), u ∉ j.written) →
    exec (.epochComplete k) s = .next s)
  ∧ (∀ (s : State) (k : Fin 256) (epoch : Fin 65536) (f : Bool) (j : XJob), (s.sched k).job = some j →
    j.epoch = epoch.val → j.failed = none →
    ∃ t, exec (.epochAbort k epoch f) s = .next t ∧ (t.sched k).job = some { j with failed := some f }
      ∧ (t.sched k).held = (s.sched k).held.filter (fun x => decide (x.epoch ≠ epoch.val))
      ∧ (∀ u ∈ t.tags.used, u.ring ≠ j.ring ∨ u.idx ≠ j.idx)
      ∧ t = { s with fabric := t.fabric, tags := t.tags, regs := t.regs })
  ∧ (∀ (s : State) (k : Fin 256) (epoch : Fin 65536) (f : Bool),
    (∀ j, (s.sched k).job = some j → j.epoch ≠ epoch.val ∨ j.failed ≠ none) →
    ∃ t, exec (.epochAbort k epoch f) s = .next t ∧ (t.sched k).job = (s.sched k).job
      ∧ (t.sched k).held = (s.sched k).held.filter (fun x => decide (x.epoch ≠ epoch.val))
      ∧ t = { s with fabric := t.fabric })
  ∧ (∀ (s : State) (k : Fin 256) (j : XJob) (e : Entry) (f : Bool), (s.sched k).job = some j →
    s.entry j.ring j.idx = some e → e.stage = 2 → j.failed = some f → (f = true ∨ j.replayed = true) →
    Tab.rises s.fabric.scheds 0 = true → j.dstOld.length ≤ (s.tensorOf j.plot (e.u16 16)).bytes →
    ∃ t, exec (.epochReplay k) s = .next t ∧ t.ended j.ring j.idx 0x1A 0 ∧ (t.sched k).job = none
      ∧ (j.op = opEXCHANGE → t.rd (CNT_XCH_REPLAY.FAILED j.plot)
          = (s.rd (CNT_XCH_REPLAY.FAILED j.plot) + 1) % 2 ^ (CNT_XCH_REPLAY.FAILED j.plot).width)
      ∧ FieldsKept s t [(CNT_XCH_REPLAY.FAILED j.plot).key]
      ∧ OnlyTensors s t j.plot (if j.op = opEXCHANGE then [e.u16 16] else []) [] ∧ OtherEntries s t j.ring j.idx)
  ∧ (∀ (s : State) (k : Fin 256) (j : XJob) (e : Entry), (s.sched k).job = some j → s.entry j.ring j.idx = some e →
    j.op = opEXCHANGE → j.failed = some false → j.replayed = false → s.switchDue k = false → (s.sched k).held = [] →
    j.plot < 64 → s.leaseSound j.plot →
    (∀ n ∈ s.xNodes k, n ≠ s.node → ((s.routeOf n).filter (s.leasesPort j.plot)).any (s.reaches n) = true) →
    ∃ t j', exec (.epochReplay k) s = .next t ∧ (t.sched k).job = some j' ∧ j'.ring = j.ring ∧ j'.idx = j.idx
      ∧ j'.epoch = j.epoch ∧ j'.replayed = true ∧ t.host = s.host ∧ t.stash = s.stash)
  ∧ (∀ (s : State) (k : Fin 256), (∀ j, (s.sched k).job = some j → j.failed = none
      ∨ (j.failed = some false ∧ j.replayed = false ∧ s.switchDue k = true)) →
    exec (.epochReplay k) s = .next s)
  ∧ (∀ (s : State) (port : Fin 24) (way : Nat × Bool), s.fabric.pathWant.find? (fun w => decide (w.1 = port.val)) = some way →
    (∀ q ∈ s.fabric.scheds, ∀ j, q.2.job = some j → j.failed ≠ none ∨ j.op ≠ opEXCHANGE ∨
      ∀ n ∈ q.2.nodes, port.val ∉ s.routeOf n) →
    ∃ t, exec (.pathSwitch port) s = .next t ∧ (port.val ∈ t.fabric.pathVe ↔ way.2 = true)
      ∧ (∀ p, p ≠ port.val → (p ∈ t.fabric.pathVe ↔ p ∈ s.fabric.pathVe)) ∧ (∀ w ∈ t.fabric.pathWant, w.1 ≠ port.val)
      ∧ t = { s with regs := t.regs, fabric := { s.fabric with pathVe := t.fabric.pathVe, pathWant := t.fabric.pathWant } }
      ∧ FieldsKept s t ((List.range 16).flatMap (fun gd => [(STS_VE_PATH.PORT_VE0 gd).key, (STS_VE_PATH.PORT_VE1 gd).key,
          (STS_VE_PATH.PORT_VE2 gd).key, (STS_VE_PATH.PORT_VE3 gd).key])))
  ∧ (∀ (s : State) (port : Fin 24) (q : Nat × Sched) (j : XJob), q ∈ s.fabric.scheds → q.2.job = some j →
    j.op = opEXCHANGE → j.failed = none → (∃ n ∈ q.2.nodes, port.val ∈ s.routeOf n) → exec (.pathSwitch port) s = .next s)
  ∧ (∀ (s : State) (port : Fin 24), (∀ w ∈ s.fabric.pathWant, w.1 ≠ port.val) → exec (.pathSwitch port) s = .next s)
  ∧ (∀ (s : State) (gd : Fin 16) (ve : Fin 4), s.groveUp gd = true →
    2 ^ 32 ≤ (s.engine gd (3 + ve)).drawn →
    ∃ t, exec (.rngReseed gd ve) s = .next t ∧ (t.engine gd (3 + ve)).seeds = (s.engine gd (3 + ve)).seeds + 1
      ∧ (t.engine gd (3 + ve)).drawn = 0
      ∧ (∀ g e, g < 16 → e < 9 → ¬ (g = gd.val ∧ e = 3 + ve.val) → t.engine g e = s.engine g e)
      ∧ t = { s with engines := t.engines, draws := t.draws })
  ∧ (∀ (s : State) (gd : Fin 16) (ve : Fin 4),
    s.groveUp gd = false ∨ (s.engine gd (3 + ve)).drawn < 2 ^ 32 → exec (.rngReseed gd ve) s = .next s)
  ∧ (∀ (s : State) (ring : Fin 1024) (idx : Nat), ∃ t, exec (.exchange ring idx) s = .next t ∧ Rest s t [.draws, .out,
    .regs, .hbm, .host, .flash, .engines, .rings, .plots, .fabric, .ports, .tags, .pcie, .power, .faults, .bytes])
  ∧ (∀ (s : State) (sched : Fin 256), ∃ t, exec (.epochComplete sched) s = .next t ∧ Rest s t [.out, .regs, .hbm,
    .flash, .rings, .plots, .fabric, .ports, .tags, .pcie, .power, .faults, .bytes])
  ∧ (∀ (s : State) (sched : Fin 256) (epoch : Fin 65536) (sealFail : Bool), ∃ t, exec (.epochAbort sched epoch
    sealFail) s = .next t ∧ Rest s t [.regs, .fabric, .tags])
  ∧ (∀ (s : State) (sched : Fin 256), ∃ t, exec (.epochReplay sched) s = .next t ∧ Rest s t [.draws, .out, .regs,
    .hbm, .host, .flash, .engines, .rings, .plots, .fabric, .ports, .tags, .pcie, .power, .faults, .bytes])
  ∧ (∀ (s : State) (port : Fin 24), ∃ t, exec (.pathSwitch port) s = .next t ∧ Rest s t [.regs, .fabric])
  ∧ (∀ (s : State) (gd : Fin 16) (ve : Fin 4), ∃ t, exec (.rngReseed gd ve) s = .next t ∧ Rest s t [.draws, .engines])

/-- R206, R216, R219, R221, R222, R225: a record or list of the current epoch from an expected sender is added to what its
adder holds, one that has come before or that no adder expects is not, and one that does not fit its header, or whose LEN
or MODE differs, fails the epoch; a final record is written and forwarded.  What arrives for a later epoch, or for a
schedule with none, is held, a second later epoch of one port stays with its sender, and what arrives for an earlier epoch,
or for one that has ended, is counted as stale: this holds of rows and closes of an expert dispatch too.  A record whose
length does not match its header is no record.  Each of the three commands that is one answers a next state in every state,
and every part of the state but those listed is as before. -/
def Obligations.ExchangeRecordsAreAddedHeldOrStale : Prop :=
  (∀ (s : State) (port : Fin 24) (k : Fin 256) (src : Fin 1024) (epoch : Fin 65536) (block : Nat) (h : BitVec 16)
      (l : List (BitVec 32)) (j : XJob) (ws : List Word) (a : XAcc),
    let e := s.xEntry j
    let hop := s.xHop k e block (s.xPos k)
    let pos := (s.xNodes k).idxOf src.val
    recordLength h l = true → (s.sched k).cur = some epoch.val → (s.sched k).job = some j → j.failed = none →
    j.op = opEXCHANGE → e.xSparse = false → badRecord h.toNat l = false → s.sendWords j.plot e = .ok ws →
    (match Tab.look j.accs block with | some a => a | none => s.localAcc k e ws block) = a →
    pos < (s.xNodes k).length → pos ∈ hop.froms → pos ∉ a.got → a.got.length + 1 < hop.froms.length →
    ∃ t, exec (.exchangeRecordArrive port k src epoch none block h l) s = .next t
      ∧ (t.sched k).job.bind (fun j => Tab.look j.accs block) = some (a.addRecord pos h.toNat l).1
      ∧ SameMemory s t ∧ t.rings = s.rings)
  ∧ (∀ (s : State) (port : Fin 24) (k : Fin 256) (src : Fin 1024) (epoch : Fin 65536) (chunk : Nat) (h : BitVec 64)
      (l : List (BitVec 32 × BitVec 16)) (j : XJob) (ws : List Word) (a : XAcc),
    let e := s.xEntry j
    let hop := s.xHop k e chunk (s.xPos k)
    let pos := (s.xNodes k).idxOf src.val
    let r := s.unitElems k e chunk
    listLength h l = true → (s.sched k).cur = some epoch.val → (s.sched k).job = some j → j.failed = none →
    j.op = opEXCHANGE → e.xSparse = true → badList h.toNat r.1 r.2 (pairsOf (listWords l)) = false →
    s.sendWords j.plot e = .ok ws →
    (match Tab.look j.accs chunk with | some a => a | none => s.localAcc k e ws chunk) = a →
    pos < (s.xNodes k).length → pos ∈ hop.froms → pos ∉ a.got → a.got.length + 1 < hop.froms.length →
    ∃ t, exec (.exchangeListArrive port k src epoch none chunk h l) s = .next t
      ∧ (t.sched k).job.bind (fun j => Tab.look j.accs chunk) = some (a.addList pos (pairsOf (listWords l))).1
      ∧ SameMemory s t ∧ t.rings = s.rings)
  ∧ (∀ (s : State) (port : Fin 24) (k : Fin 256) (src : Fin 1024) (epoch : Fin 65536) (head : Option (Nat × Nat))
      (block : Nat) (h : BitVec 16) (l : List (BitVec 32)) (j : XJob) (ws : List Word) (a : XAcc),
    let e := s.xEntry j
    let pos := (s.xNodes k).idxOf src.val
    let differs := head.any (fun q => decide (q ≠ (e.xLen, b2n e.xSparse))) || e.xSparse
    recordLength h l = true → (s.sched k).cur = some epoch.val → (s.sched k).job = some j → j.failed = none →
    j.op = opEXCHANGE → s.sendWords j.plot e = .ok ws →
    (match Tab.look j.accs block with | some a => a | none => s.localAcc k e ws block) = a →
    ((s.xNodes k).length ≤ pos ∨ (differs = false ∧ (pos ∉ (s.xHop k e block (s.xPos k)).froms ∨ pos ∈ a.got)) →
      exec (.exchangeRecordArrive port k src epoch head block h l) s = .next s)
    ∧ (pos < (s.xNodes k).length → differs = true ∨ (pos ∈ (s.xHop k e block (s.xPos k)).froms ∧ pos ∉ a.got
        ∧ badRecord h.toNat l = true) →
      ∃ t, exec (.exchangeRecordArrive port k src epoch head block h l) s = .next t
        ∧ (t.sched k).job = some { j with failed := some false } ∧ SameMemory s t ∧ t.rings = s.rings))
  ∧ (∀ (s : State) (port : Fin 24) (k : Fin 256) (src : Fin 1024) (epoch : Fin 65536) (n : Nat) (h : BitVec 16)
      (l : List (BitVec 32)) (j : XJob),
    let e := s.xEntry j
    recordLength h l = true → (s.sched k).cur = some epoch.val → (s.sched k).job = some j →
    j.failed = none → j.op = opEXCHANGE → e.xSparse = false → badRecord h.toNat l = false → n ∉ j.written →
    (s.xNodes k).idxOf src.val < (s.xNodes k).length → s.xPos k ∈ (s.xHop k e n ((s.xNodes k).idxOf src.val)).gather → j.plot < 64 → s.leaseSound j.plot →
    (s.xHop k e n (s.xPos k)).gather = [] →
    ∃ t, exec (.exchangeGatherRecord port k src epoch none (.block n h l)) s = .next t
      ∧ (t.sched k).job.any (fun j => decide (n ∈ j.written)) = true
      ∧ OnlyTensors s t j.plot [e.u16 16] [] ∧ t.rings = s.rings)
  ∧ (∀ (s : State) (c : Instr) (k : Fin 256) (x : XRecord), arrivalOf c = some (k, x) →
    let later (y : Nat) : Prop := 0 < (x.epoch + 65536 - y) % 65536 ∧ (x.epoch + 65536 - y) % 65536 < 32768
    ((∀ y, (s.sched k).cur = some y → later y) → (∀ h ∈ (s.sched k).held, h.port ≠ x.port ∨ h.epoch = x.epoch) →
      ∃ t, exec c s = .next t ∧ t.sched k = { s.sched k with held := (s.sched k).held ++ [x] }
        ∧ (∀ n, n ≠ k.val → t.sched n = s.sched n) ∧ t = { s with fabric := t.fabric })
    ∧ ((∀ y, (s.sched k).cur = some y → later y) → (∃ h ∈ (s.sched k).held, h.port = x.port ∧ h.epoch ≠ x.epoch) →
      exec c s = .next s)
    ∧ (∀ y, (s.sched k).cur = some y → 32768 ≤ (x.epoch + 65536 - y) % 65536
        ∨ ((x.epoch + 65536 - y) % 65536 = 0 ∧ ∀ j, (s.sched k).job = some j → j.failed ≠ none) →
      exec c s = .next (s.countWrap (CNT_XCH_STALE.COUNT (s.sched k).plot) 1)))
  ∧ (∀ (s : State) (port : Fin 24) (k : Fin 256) (src : Fin 1024) (epoch : Fin 65536) (head : Option (Nat × Nat))
      (n : Nat) (h : BitVec 16) (l : List (BitVec 32)) (g : BitVec 64) (m : List (BitVec 32 × BitVec 16)),
    (recordLength h l = false → exec (.exchangeRecordArrive port k src epoch head n h l) s = .fault .malformedCommand
      ∧ exec (.exchangeGatherRecord port k src epoch head (.block n h l)) s = .fault .malformedCommand)
    ∧ (listLength g m = false → exec (.exchangeListArrive port k src epoch head n g m) s = .fault .malformedCommand
      ∧ exec (.exchangeGatherRecord port k src epoch head (.list n g m)) s = .fault .malformedCommand))
  ∧ (∀ (s : State) (port : Fin 24) (sched : Fin 256) (src : Fin 1024) (epoch : Fin 65536) (head : Option (Nat × Nat))
    (block : Nat) (header : BitVec 16) (payload : List (BitVec 32)), (Instr.exchangeRecordArrive port sched src epoch
    head block header payload).wellFormed = true → ∃ t, exec (.exchangeRecordArrive port sched src epoch head block
    header payload) s = .next t ∧ Rest s t [.draws, .out, .regs, .hbm, .host, .flash, .engines, .rings, .plots,
    .fabric, .ports, .tags, .pcie, .power, .faults, .bytes])
  ∧ (∀ (s : State) (port : Fin 24) (sched : Fin 256) (src : Fin 1024) (epoch : Fin 65536) (head : Option (Nat × Nat))
    (chunk : Nat) (header : BitVec 64) (entries : List (BitVec 32 × BitVec 16)), (Instr.exchangeListArrive port sched
    src epoch head chunk header entries).wellFormed = true → ∃ t, exec (.exchangeListArrive port sched src epoch head
    chunk header entries) s = .next t ∧ Rest s t [.draws, .out, .regs, .hbm, .host, .flash, .engines, .rings, .plots,
    .fabric, .ports, .tags, .pcie, .power, .faults, .bytes])
  ∧ (∀ (s : State) (port : Fin 24) (sched : Fin 256) (src : Fin 1024) (epoch : Fin 65536) (head : Option (Nat × Nat))
    (final : FinalSums), (Instr.exchangeGatherRecord port sched src epoch head final).wellFormed = true → ∃ t, exec
    (.exchangeGatherRecord port sched src epoch head final) s = .next t ∧ Rest s t [.draws, .out, .regs, .hbm, .host,
    .flash, .engines, .rings, .plots, .fabric, .ports, .tags, .pcie, .power, .faults, .bytes])

/-- R225, R232 to R237: a DISPATCH or COMBINE on a free schedule begins its epoch and sends its rows; one that fails checks
ends with DESC_ERROR, and one waits while an epoch of its schedule is in execution or it may not issue.  An arriving row is
written where it says, or weighted into its token, and one that does not fit fails the epoch; each sender's close is noted,
and the last one completes the DISPATCH; the last row completes the COMBINE.  Each of the five commands answers a next
state in every state, and every part of the state but those listed is as before. -/
def Obligations.DispatchAndCombineMoveRows : Prop :=
  (∀ (s : State) (ring : Fin 1024) (idx : Nat) (e : Entry) (route map : List Word), let p := s.ringPlot ring
    let k := e.u8 34
    s.takes ring idx opDISPATCH e → (s.sched k).job = none → (s.sched k).held = [] →
    firstFail (s.dispatchChecks p e) = none → s.leaseSound p → isNarrow (s.tensorOf p (e.u16 8)).fmt = false →
    s.rawWords p (e.u16 10) (2 * (e.tokens * e.tope)) = .ok route →
    (e.tokens = 0 → map = []) → (e.tokens ≠ 0 → s.rawWords p (e.u16 12) e.numExp = .ok map) → s.routeInvalid e route map = false →
    ∃ t f, exec (.dispatch ring idx) s = .next t ∧ (t.sched k).cur = some (e.u16 32) ∧ t.entry ring idx = some f
      ∧ (f.stage = 3 ∨ (t.sched k).job.any (fun j => decide (j.op = opDISPATCH ∧ j.ring = ring.val ∧ j.idx = idx)) = true)
      ∧ t.host = s.host ∧ t.stash = s.stash)
  ∧ (∀ (s : State) (ring : Fin 1024) (idx : Nat) (e : Entry), let p := s.ringPlot ring
    let k := e.u8 34
    s.takes ring idx opCOMBINE e → (s.sched k).job = none → (s.sched k).held = [] →
    firstFail (s.combineChecks p e) = none → s.leaseSound p → isNarrow (s.tensorOf p (e.u16 16)).fmt = false →
    ∃ t f, exec (.combine ring idx) s = .next t ∧ (t.sched k).cur = some (e.u16 32) ∧ t.entry ring idx = some f
      ∧ (f.stage = 3 ∨ (t.sched k).job.any (fun j => decide (j.op = opCOMBINE ∧ j.ring = ring.val ∧ j.idx = idx)) = true)
      ∧ t.host = s.host ∧ t.stash = s.stash)
  ∧ (∀ (s : State) (ring : Fin 1024) (idx v : Nat) (e : Entry),
    (s.takes ring idx opDISPATCH e → (s.sched (e.u8 34)).job = none →
      firstFail (s.dispatchChecks (s.ringPlot ring) e) = some v →
      exec (.dispatch ring idx) s = .next ((s.setStage ring idx 2).finish ring idx 0x10 v))
    ∧ (s.takes ring idx opCOMBINE e → (s.sched (e.u8 34)).job = none →
      firstFail (s.combineChecks (s.ringPlot ring) e) = some v →
      exec (.combine ring idx) s = .next ((s.setStage ring idx 2).finish ring idx 0x10 v)))
  ∧ (∀ (s : State) (ring : Fin 1024) (idx op : Nat) (c : Instr),
    (op = opDISPATCH ∧ c = .dispatch ring idx) ∨ (op = opCOMBINE ∧ c = .combine ring idx) →
    (s.mayIssue ring idx op = none
      ∨ (s.stopped ring idx = false ∧ ∃ e, s.entry ring idx = some e ∧ (s.sched (e.u8 34)).job ≠ none) →
      exec c s = .next s)
    ∧ (∀ e st, s.mayIssue ring idx op = some e → s.memberStop (s.ringPlot ring) e = some st →
      exec c s = .next ((s.setStage ring idx 2).finish ring idx st 0)))
  ∧ (∀ (s : State) (port : Fin 24) (k : Fin 256) (src : Fin 1024) (epoch : Fin 65536) (row : Nat) (rank : Fin 8)
      (token : BitVec 32) (vals : List (BitVec 32)) (j : XJob), let e := s.xEntry j
    (s.sched k).cur = some epoch.val → (s.sched k).job = some j → j.failed = none → j.op = opDISPATCH →
    e.localExp ≠ 0 → row < (s.tensorOf j.plot (e.u16 14)).rows → vals.length = (s.tensorOf j.plot (e.u16 14)).cols →
    (s.tensorOf j.plot (e.u16 18)).fmt = 0xE →
    2 * (s.tensorOf j.plot (e.u16 14)).rows ≤ (s.tensorOf j.plot (e.u16 18)).count → j.plot < 64 → s.leaseSound j.plot →
    ∃ t, exec (.dispatchRowArrive port k src epoch row rank token vals) s = .next t
      ∧ (if isNarrow (s.tensorOf j.plot (e.u16 14)).fmt then
          (t.sched k).job = some { j with rows := Tab.put j.rows row vals } ∧ OnlyTensors s t j.plot [e.u16 18] []
        else t.fabric = s.fabric ∧ OnlyTensors s t j.plot [e.u16 14, e.u16 18] [e.u16 14])
      ∧ t.rings = s.rings ∧ FieldsKept s t workKeys)
  ∧ (∀ (s : State) (port : Fin 24) (k : Fin 256) (src : Fin 1024) (epoch : Fin 65536) (row : Nat) (rank : Fin 8)
      (token : BitVec 32) (vals : List (BitVec 32)) (j : XJob), let e := s.xEntry j
    (s.sched k).cur = some epoch.val → (s.sched k).job = some j → j.failed = none → j.op = opDISPATCH →
    (e.localExp = 0 ∨ (s.tensorOf j.plot (e.u16 14)).rows ≤ row
      ∨ vals.length ≠ (s.tensorOf j.plot (e.u16 14)).cols) →
    ∃ t, exec (.dispatchRowArrive port k src epoch row rank token vals) s = .next t
      ∧ (t.sched k).job = some { j with failed := some false } ∧ SameMemory s t ∧ t.rings = s.rings)
  ∧ (∀ (s : State) (port : Fin 24) (k : Fin 256) (src n : Fin 1024) (epoch : Fin 65536) (j : XJob),
    (s.sched k).cur = some epoch.val → (s.sched k).job = some j → j.failed = none → j.op = opDISPATCH →
    n.val ∈ s.xNodes k → n.val ≠ s.node → n ≠ src → n.val ∉ j.closed →
    ∃ t, exec (.dispatchStreamClose port k src epoch) s = .next t
      ∧ (t.sched k).job = some { j with closed := addAsc src j.closed } ∧ t = { s with fabric := t.fabric })
  ∧ (∀ (s : State) (port : Fin 24) (k : Fin 256) (src : Fin 1024) (epoch : Fin 65536) (j : XJob) (e : Entry),
    (s.sched k).cur = some epoch.val → (s.sched k).job = some j → j.failed = none → j.op = opDISPATCH →
    s.entry j.ring j.idx = some e → e.stage = 2 → (∀ n ∈ s.xNodes k, n = s.node ∨ n = src.val ∨ n ∈ j.closed) →
    j.rows = [] ∨ (j.plot < 64 ∧ s.leaseSound j.plot) →
    (∀ t ∈ s.tags.waiting, ¬ (t.kind = 2 ∧ t.ring = j.ring ∧ t.idx = j.idx)) →
    ∃ t, exec (.dispatchStreamClose port k src epoch) s = .next t ∧ t.ended j.ring j.idx e.dispatchOk 0
      ∧ (t.sched k).job = none ∧ (t.sched k).last = some j.epoch ∧ (j.rows = [] → SameMemory s t)
      ∧ OnlyTensors s t j.plot [e.u16 14] [] ∧ OtherEntries s t j.ring j.idx)
  ∧ (∀ (s : State) (port : Fin 24) (k : Fin 256) (src : Fin 1024) (epoch : Fin 65536) (rank : Fin 8)
      (token : BitVec 32) (vals : List (BitVec 32)) (j : XJob) (route drec : List Word), let e := s.xEntry j
    (s.sched k).cur = some epoch.val → (s.sched k).job = some j → j.failed = none → j.op = opCOMBINE →
    token.toNat < e.tokens → rank.val < e.tope → j.expect ≠ 0 → vals.length = (s.tensorOf j.plot (e.u16 22)).cols →
    s.rawWords j.plot (e.u16 10) (2 * e.tokens * e.tope) = .ok route →
    s.rawWords j.plot (e.u16 20) (e.tokens * e.tope) = .ok drec →
    (wordAt drec (token.toNat * e.tope + rank) = 0xFFFFFFFF →
      exec (.combineRowArrive port k src epoch rank token vals) s = .next s)
    ∧ (wordAt drec (token.toNat * e.tope + rank) ≠ 0xFFFFFFFF → 1 < j.expect →
      ∃ t j', exec (.combineRowArrive port k src epoch rank token vals) s = .next t ∧ (t.sched k).job = some j'
        ∧ j'.expect = j.expect - 1
        ∧ Tab.val j'.wsum token.toNat
          = addY32 (Tab.val j.wsum token.toNat) (route.getD (2 * (token.toNat * e.tope + rank) + 1) 0)
        ∧ t = { s with fabric := t.fabric })
    ∧ (∀ d, wordAt drec (token.toNat * e.tope + rank) ≠ 0xFFFFFFFF → j.expect = 1 → s.entry j.ring j.idx = some d →
      d.stage = 2 → j.plot < 64 → s.leaseSound j.plot →
      (∀ t ∈ s.tags.waiting, ¬ (t.kind = 2 ∧ t.ring = j.ring ∧ t.idx = j.idx)) →
      ∃ t, exec (.combineRowArrive port k src epoch rank token vals) s = .next t ∧ t.ended j.ring j.idx e.dispatchOk 0
        ∧ (t.sched k).job = none ∧ (t.sched k).last = some j.epoch
        ∧ OnlyTensors s t j.plot [e.u16 22] [] ∧ OtherEntries s t j.ring j.idx))
  ∧ (∀ (s : State) (port : Fin 24) (k : Fin 256) (src : Fin 1024) (epoch : Fin 65536) (rank : Fin 8)
      (token : BitVec 32) (vals : List (BitVec 32)) (j : XJob), let e := s.xEntry j
    (s.sched k).cur = some epoch.val → (s.sched k).job = some j → j.failed = none → j.op = opCOMBINE →
    (e.tokens ≤ token.toNat ∨ e.tope ≤ rank.val ∨ j.expect = 0
      ∨ vals.length ≠ (s.tensorOf j.plot (e.u16 22)).cols) →
    ∃ t, exec (.combineRowArrive port k src epoch rank token vals) s = .next t
      ∧ (t.sched k).job = some { j with failed := some false } ∧ SameMemory s t ∧ t.rings = s.rings)
  ∧ (∀ (s : State) (ring : Fin 1024) (idx : Nat), ∃ t, exec (.dispatch ring idx) s = .next t ∧ Rest s t [.draws, .out,
    .regs, .hbm, .host, .flash, .engines, .rings, .plots, .fabric, .ports, .tags, .pcie, .power, .faults, .bytes])
  ∧ (∀ (s : State) (ring : Fin 1024) (idx : Nat), ∃ t, exec (.combine ring idx) s = .next t ∧ Rest s t [.draws, .out,
    .regs, .hbm, .host, .flash, .engines, .rings, .plots, .fabric, .ports, .tags, .pcie, .power, .faults, .bytes])
  ∧ (∀ (s : State) (port : Fin 24) (sched : Fin 256) (src : Fin 1024) (epoch : Fin 65536) (row : Nat) (rank : Fin 8)
    (token : BitVec 32) (values : List (BitVec 32)), ∃ t, exec (.dispatchRowArrive port sched src epoch row rank token
    values) s = .next t ∧ Rest s t [.draws, .out, .regs, .hbm, .host, .flash, .engines, .rings, .plots, .fabric,
    .ports, .tags, .pcie, .power, .faults, .bytes])
  ∧ (∀ (s : State) (port : Fin 24) (sched : Fin 256) (src : Fin 1024) (epoch : Fin 65536), ∃ t, exec
    (.dispatchStreamClose port sched src epoch) s = .next t ∧ Rest s t [.draws, .out, .regs, .hbm, .host, .flash,
    .engines, .rings, .plots, .fabric, .ports, .tags, .pcie, .power, .faults, .bytes])
  ∧ (∀ (s : State) (port : Fin 24) (sched : Fin 256) (src : Fin 1024) (epoch : Fin 65536) (rank : Fin 8) (token :
    BitVec 32) (values : List (BitVec 32)), ∃ t, exec (.combineRowArrive port sched src epoch rank token values) s =
    .next t ∧ Rest s t [.draws, .out, .regs, .hbm, .host, .flash, .engines, .rings, .plots, .fabric, .ports, .tags,
    .pcie, .power, .faults, .bytes])

/-- R265, R266, R279, R321, R466: a write of LNK_PORT_CTL stores its legal fields, and a mode that differs from the one
in force asks for a frequency change; where the register is closed to the path nothing happens.  Full bring-up asks for the
full rate of a port that still runs at its reduced rate.  A request for re-qualification asks for its lock where a lane can
be re-qualified, and else does what the write of the register does.  A started test runs on the retired lanes, or on all of
an authorised retired port; one that is granted and can no longer be served gives its lock back.  10 s later its good lanes
return, and a retired port with two of them trains again; a report of other than four lanes is none.  Each of the five
commands that is one answers a next state in every state, and every part of the state but those listed is as before. -/
def Obligations.PortsChangeModeAndRequalify : Prop :=
  (∀ (s : State) (path : Fin 6) (port : Fin 24) (v : BitVec 32), s.writeOpen path (portCtlAddr port) = true →
    ∃ t, exec (.modeChange path port v) s = .next t
      ∧ t.rd (LNK_PORT_CTL.LPI_IDLE_US port) = max 1 (bits v.toNat 31 24)
      ∧ t.rd (LNK_PORT_CTL.LPI_WAKE port) = max 15 (bits v.toNat 23 16)
      ∧ t.rd (LNK_PORT_CTL.LPI_EN port) = bits v.toNat 7 7
      ∧ t.rd (LNK_PORT_CTL.MODE port) = (if bits v.toNat 3 0 < 7 then bits v.toNat 3 0 else s.rd (LNK_PORT_CTL.MODE port))
      ∧ (bits v.toNat 3 0 < 7 → t.modeDiffers port = true → t.portState port ≠ portRETIRED →
          (∃ f ∈ t.clocks.wanted, f.target = 4 + port.val) ∨ 4 + port.val ∈ t.clocks.active)
      ∧ SameMemory s t ∧ OtherPorts s t port ∧ OtherFields s t (portCtlKeys port ++ envelopeKeys))
  ∧ (∀ (s : State) (path : Fin 6) (port : Fin 24) (v : BitVec 32), s.writeOpen path (portCtlAddr port) = false →
    exec (.modeChange path port v) s = .next s ∧ exec (.requal path port v) s = .next s)
  ∧ (∀ (s : State) (port : Fin 24), s.fabricUp = true → (s.port port).reduced = true → s.portCarries port = true →
    s.rd (LNK_PORT_CTL.MODE port) = 1 →
    ∃ t, exec (.portRateUpgrade port) s = .next t ∧ (t.port port).upgrade = true
      ∧ ((∃ f ∈ t.clocks.wanted, f.target = 4 + port.val) ∨ 4 + port.val ∈ t.clocks.active)
      ∧ (t.port port).link.keys = (s.port port).link.keys ∧ SameMemory s t ∧ OtherPorts s t port
      ∧ FieldsKept s t [(LNK_PORT_STS.STATE port).key])
  ∧ (∀ (s : State) (port : Fin 24), s.fabricUp = true → (s.port port).reduced = true → s.portState port ≠ portRETIRED →
    5 ≤ s.rd (LNK_PORT_CTL.MODE port) → s.rd (LNK_PORT_CTL.MODE port) < 7 →
    ∃ t, exec (.portRateUpgrade port) s = .next t ∧ t.port port = { s.port port with reduced := false }
      ∧ ((∃ f ∈ t.clocks.wanted, f.target = 4 + port.val) ∨ 4 + port.val ∈ t.clocks.active)
      ∧ SameMemory s t ∧ OtherPorts s t port ∧ OtherFields s t [])
  ∧ (∀ (s : State) (port : Fin 24), s.fabricUp = false ∨ (s.port port).reduced = false ∨ s.portState port = portRETIRED
      ∨ (s.rd (LNK_PORT_CTL.MODE port) = 1 ∧ s.portCarries port = false)
      ∨ (s.rd (LNK_PORT_CTL.MODE port) ≠ 1 ∧ ¬ (5 ≤ s.rd (LNK_PORT_CTL.MODE port) ∧ s.rd (LNK_PORT_CTL.MODE port) < 7)) →
    exec (.portRateUpgrade port) s = .next s)
  ∧ (∀ (s : State) (path : Fin 6) (port : Fin 24) (v : BitVec 32), s.writeOpen path (portCtlAddr port) = true →
    (s.storePortCtl port v.toNat).lockDropped (requalLock port) = false →
    (s.storePortCtl port v.toNat).mayRequal port = true →
    ∃ t, exec (.requal path port v) s = .next t ∧ (t.port port).requalWait = true
      ∧ requalLock port ∈ t.maint.active ++ t.maint.waiting ∧ SameMemory s t ∧ OtherPorts s t port
      ∧ OtherFields s t (portCtlKeys port ++ envelopeKeys))
  ∧ (∀ (s : State) (path : Fin 6) (port : Fin 24) (v : BitVec 32),
    (s.storePortCtl port v.toNat).lockDropped (requalLock port) = true
      ∨ (s.storePortCtl port v.toNat).mayRequal port = false →
    exec (.requal path port v) s = exec (.modeChange path port v) s)
  ∧ (∀ (s : State) (port : Fin 24) (remote : Bool),
    remote = true ∨ ((s.port port).requalWait = true ∧ s.hasLock (requalLock port) = true) →
    s.mayRequal port = true → (s.port port).requalRun = [] →
    ∃ t l, exec (.requalStart port remote) s = .next t ∧ (t.port port).requalRun = s.requalLanes port
      ∧ (t.port port).requalWait = false ∧ (t.port port).requalAt = s.now ∧ t.out = .prbs port (s.requalLanes port) :: l
      ∧ t.portState port = (if s.portState port = portUP ∨ s.portState port = portLPI then portTEST else s.portState port)
      ∧ t.rings = s.rings ∧ t.maint = s.maint ∧ SameMemory s t)
  ∧ (∀ (s : State) (port : Fin 24) (remote : Bool), (s.port port).requalWait = true →
    s.hasLock (requalLock port) = true → s.mayRequal port = false →
    ∃ t, exec (.requalStart port remote) s = .next t ∧ t.port port = { s.port port with requalWait := false }
      ∧ (requalLock port ∉ t.maint.active ∨ requalLock port ∈ s.maint.waiting))
  ∧ (∀ (s : State) (port : Fin 24) (remote : Bool),
    (s.mayRequal port = true → (s.port port).requalRun ≠ []
      ∨ (remote = false ∧ ((s.port port).requalWait = false ∨ s.hasLock (requalLock port) = false))) →
    (s.mayRequal port = false → (s.port port).requalWait = false ∨ s.hasLock (requalLock port) = false) →
    exec (.requalStart port remote) s = .next s)
  ∧ (∀ (s : State) (port : Fin 24) (errs : List Nat) (syms : Nat) (uncorr : List (Fin 4)),
    (s.port port).requalRun ≠ [] → s.hasLock { kind := 6, unit := port } = false → s.portState port = portTEST →
    (s.port port).requalAt + 10 * perS ≤ s.now → errs.length = 4 →
    ∃ t, exec (.requalComplete port errs syms uncorr) s = .next t ∧ (t.port port).requalRun = []
      ∧ t.portState port = portUP
      ∧ (∀ i, i ∈ (t.port port).lanesRetired ↔ i ∈ (s.port port).lanesRetired ∧ ¬ (i ∈ (s.port port).requalRun
          ∧ errs.getD i 0 * 2 ^ 24 * 16 < s.rd CFG_LNK_BER_THRESH.THRESH * syms ∧ ∀ u ∈ uncorr, u.val ≠ i))
      ∧ SameMemory s t ∧ OtherPorts s t port
      ∧ OtherFields s t [(LNK_PORT_STS.STATE port).key, (LNK_PORT_STS.LANES port).key])
  ∧ (∀ (s : State) (port : Fin 24) (errs : List Nat) (syms : Nat) (uncorr : List (Fin 4)),
    (s.port port).requalRun ≠ [] → s.hasLock { kind := 6, unit := port } = false → s.portState port = portRETIRED →
    (s.port port).requalAt + 10 * perS ≤ s.now → errs.length = 4 →
    ∃ t, exec (.requalComplete port errs syms uncorr) s = .next t ∧ (t.port port).requalRun = []
      ∧ t.portState port = (if 2 ≤ ((s.port port).requalRun.filter (fun i =>
          decide (errs.getD i 0 * 2 ^ 24 * 16 < s.rd CFG_LNK_BER_THRESH.THRESH * syms) && decide (∀ u ∈ uncorr, u.val ≠ i))).length
        then portTRAINING else portRETIRED)
      ∧ SameMemory s t ∧ OtherPorts s t port
      ∧ OtherFields s t [(LNK_PORT_STS.STATE port).key, (LNK_PORT_STS.CAUSE port).key])
  ∧ (∀ (s : State) (port : Fin 24) (errs : List Nat) (syms : Nat) (uncorr : List (Fin 4)), errs.length = 4 →
    (s.port port).requalRun = [] ∨ s.hasLock { kind := 6, unit := port } = true
      ∨ s.now < (s.port port).requalAt + 10 * perS →
    exec (.requalComplete port errs syms uncorr) s = .next s)
  ∧ (∀ (s : State) (port : Fin 24) (errs : List Nat) (syms : Nat) (uncorr : List (Fin 4)), errs.length ≠ 4 →
    exec (.requalComplete port errs syms uncorr) s = .fault .malformedCommand)
  ∧ (∀ (s : State) (path : Fin 6) (port : Fin 24) (v : BitVec 32), ∃ t, exec (.modeChange path port v) s = .next t ∧
    Rest s t [.draws, .out, .regs, .clocks, .fabric, .ports, .power, .maint])
  ∧ (∀ (s : State) (port : Fin 24), ∃ t, exec (.portRateUpgrade port) s = .next t ∧ Rest s t [.out, .regs, .clocks,
    .fabric, .ports, .maint])
  ∧ (∀ (s : State) (path : Fin 6) (port : Fin 24) (v : BitVec 32), ∃ t, exec (.requal path port v) s = .next t ∧ Rest
    s t [.draws, .out, .regs, .clocks, .fabric, .ports, .power, .maint])
  ∧ (∀ (s : State) (port : Fin 24) (remote : Bool), ∃ t, exec (.requalStart port remote) s = .next t ∧ Rest s t [.out,
    .regs, .fabric, .ports, .tags, .maint])
  ∧ (∀ (s : State) (port : Fin 24) (errs : List Nat) (syms : Nat) (uncorr : List (Fin 4)), (Instr.requalComplete port
    errs syms uncorr).wellFormed = true → ∃ t, exec (.requalComplete port errs syms uncorr) s = .next t ∧ Rest s t
    [.out, .regs, .flash, .fabric, .ports, .maint])

/-- R268, R270 to R273, R289, R291: a flit of 256 bytes whose codewords cannot be corrected, or whose CRC fails, is
discarded with one NAK; the flit of the expected SEQ is accepted, a later one is not, an earlier one changes nothing that is
expected, and one that acknowledges returns its credits; a control frame with a wrong tag or an old counter quarantines the
port.  A NAK or a timeout resumes from the oldest unacknowledged flit and counts a retry; with nothing unacknowledged a NAK
resumes nothing, and a timer that is not due does nothing.  A frame is dropped if it is not well formed, and its flits are
taken if it is.  A port that takes no flits ignores them; a flit of another length, and a NAK without the counts of four
lanes, is none.  Each of the five commands that is one answers a next state in every state, and every part of the state but
those listed is as before. -/
def Obligations.FlitsAreTakenInOrderOrSentAgain : Prop :=
  (∀ (s : State) (port : Fin 24) (bytes : List (BitVec 8)) (word : List (Fin 544)) (tagOk : Bool),
    let lost := (s.decodeFlit port ((word.map (fun i => i.val)).eraseDups)).1
    let l := (s.port port).link
    bytes.length = 256 → s.portTakes port = true → s.ethernet port = false →
    (lost = true ∨ flitCrcOk bytes = false →
      ∃ t, exec (.flitReceive port bytes word tagOk) s = .next t ∧ (t.port port).link.nakSent = true
        ∧ (t.port port).link.expected = l.expected ∧ (t.port port).link.buffer = l.buffer
        ∧ (s.portSends port = true → ∃ b o, t.out = .flit port b :: o)
        ∧ t.rings = s.rings ∧ SameMemory s t ∧ OtherPorts s t port
        ∧ OtherFields s t [(CNT_LNK_FEC.CORR port).key, (CNT_LNK_FEC.UNCORR port).key])
    ∧ (lost = false → flitCrcOk bytes = true → flitMisbehaves bytes = false →
      (2 ≤ flitType bytes → flitSeq bytes = l.expected →
        ∃ t, exec (.flitReceive port bytes word tagOk) s = .next t
          ∧ (t.port port).link.expected = (l.expected + 1) % 4096 ∧ (t.port port).link.nakSent = false
          ∧ t.rings = s.rings ∧ SameMemory s t ∧ OtherPorts s t port
          ∧ OtherFields s t [(CNT_LNK_FEC.CORR port).key, (CNT_LNK_FEC.UNCORR port).key])
      ∧ (flitType bytes ≠ 0 → 0 < (flitSeq bytes + 4096 - l.expected) % 4096 →
        (flitSeq bytes + 4096 - l.expected) % 4096 < 2048 →
        ∃ t, exec (.flitReceive port bytes word tagOk) s = .next t
          ∧ (t.port port).link.expected = l.expected ∧ (t.port port).link.nakSent = true
          ∧ t.rings = s.rings ∧ SameMemory s t ∧ OtherPorts s t port)
      ∧ (flitType bytes ≠ 0 → 2048 ≤ (flitSeq bytes + 4096 - l.expected) % 4096 →
        ∃ t, exec (.flitReceive port bytes word tagOk) s = .next t
          ∧ (t.port port).link.expected = l.expected ∧ (t.port port).link.nakSent = l.nakSent
          ∧ t.rings = s.rings ∧ SameMemory s t ∧ OtherPorts s t port)
      ∧ (flitType bytes = 0 → l.queue = [] →
        ∃ t, exec (.flitReceive port bytes word tagOk) s = .next t
          ∧ (t.port port).link.expected = l.expected
          ∧ (t.port port).link.credits = min 1024 (l.credits + leNat ((bytes.drop 12).take 2))
          ∧ t.rings = s.rings ∧ SameMemory s t ∧ OtherPorts s t port)
      ∧ (flitType bytes = 1 → flitSeq bytes = l.expected → s.portState port ≠ portADMITTING →
        (tagOk = false ∨ ∃ k, l.ctrlRx = some k ∧ leNat ((flitPayload bytes).take 8) ≤ k) →
        ∃ t, exec (.flitReceive port bytes word tagOk) s = .next t ∧ t.portState port = portQUARANTINED
          ∧ t.rd (CNT_LNK_SEC.TAG_FAIL port)
            = (s.rd (CNT_LNK_SEC.TAG_FAIL port) + 1) % 2 ^ (CNT_LNK_SEC.TAG_FAIL port).width ∧ SameMemory s t)))
  ∧ (∀ (s : State) (port : Fin 24) (node : Fin 1024) (seq : Fin 4096) (errs : List Nat), errs.length = 4 →
    s.portTakes port = true → ((s.ackTo port node ((seq.val + 4095) % 4096)).link port node).unacked ≠ 0 →
    ∃ t, exec (.nakReceive port node seq errs) s = .next t
      ∧ t.rd (CNT_LNK_RETRY.COUNT port) = (s.rd (CNT_LNK_RETRY.COUNT port) + 1) % 2 ^ (CNT_LNK_RETRY.COUNT port).width
      ∧ SameMemory s t)
  ∧ (∀ (s : State) (port : Fin 24) (node : Fin 1024) (seq : Fin 4096), s.portTakes port = true →
    s.ethernet port = false → (s.port port).link.queue = [] →
    ((s.port port).link.acked ((seq.val + 4095) % 4096)).buffer ≠ [] →
    (recent s.now s.retryWindow (s.port port).link.retryTimes).length < s.rd CFG_LNK_RETRY_MAX.MAX →
    ∃ t, exec (.nakReceive port node seq [0, 0, 0, 0]) s = .next t
      ∧ (t.port port).link.unacked = ((s.port port).link.acked ((seq.val + 4095) % 4096)).unacked
      ∧ (t.port port).link.retryTimes = recent s.now s.retryWindow (s.port port).link.retryTimes ++ [s.now]
      ∧ t.rd (CNT_LNK_RETRY.COUNT port) = (s.rd (CNT_LNK_RETRY.COUNT port) + 1) % 2 ^ (CNT_LNK_RETRY.COUNT port).width
      ∧ t.rings = s.rings ∧ SameMemory s t ∧ OtherPorts s t port ∧ OtherFields s t [(CNT_LNK_RETRY.COUNT port).key])
  ∧ (∀ (s : State) (port : Fin 24) (node : Fin 1024) (seq : Fin 4096) (errs : List Nat), errs.length = 4 →
    s.portTakes port = true → ((s.ackTo port node ((seq.val + 4095) % 4096)).link port node).unacked = 0 →
    ∃ t, exec (.nakReceive port node seq errs) s = .next t
      ∧ t.rd (CNT_LNK_RETRY.COUNT port) = s.rd (CNT_LNK_RETRY.COUNT port)
      ∧ t.rings = s.rings ∧ SameMemory s t ∧ OtherPorts s t port)
  ∧ (∀ (s : State) (port : Fin 24) (node : Fin 1024), s.portTakes port = true →
    (s.link port node).unacked ≠ 0 → (s.link port node).retryDue ≤ s.now →
    ∃ t, exec (.linkRetryTimeout port node) s = .next t
      ∧ t.rd (CNT_LNK_RETRY.COUNT port) = (s.rd (CNT_LNK_RETRY.COUNT port) + 1) % 2 ^ (CNT_LNK_RETRY.COUNT port).width
      ∧ SameMemory s t
      ∧ (s.ethernet port = false →
          (recent s.now s.retryWindow (s.port port).link.retryTimes).length < s.rd CFG_LNK_RETRY_MAX.MAX →
          (s.port port).link.unacked ≤ (t.port port).link.unacked ∧ OtherPorts s t port
          ∧ OtherFields s t [(CNT_LNK_RETRY.COUNT port).key]))
  ∧ (∀ (s : State) (port : Fin 24) (node : Fin 1024),
    s.portTakes port = false ∨ (s.link port node).unacked = 0 ∨ s.now < (s.link port node).retryDue →
    exec (.linkRetryTimeout port node) s = .next s)
  ∧ (∀ (s : State) (port : Fin 24) (node : Fin 1024), s.portTakes port = true → s.ethernet port = false →
    (s.port port).link.nakSent = true → (s.port port).link.nakDue ≤ s.now →
    ∃ t, exec (.nakResendTimeout port node) s = .next t ∧ (s.portSends port = true → ∃ b, t.out = .flit port b :: s.out)
      ∧ t.port port = { s.port port with link := { (s.port port).link with nakDue := s.linkDue } }
      ∧ OtherPorts s t port ∧ t = { s with ports := t.ports, out := t.out })
  ∧ (∀ (s : State) (port : Fin 24) (node : Fin 1024),
    s.portTakes port = false ∨ (s.link port node).nakSent = false ∨ s.now < (s.link port node).nakDue →
    exec (.nakResendTimeout port node) s = .next s)
  ∧ (∀ (s : State) (port : Fin 24) (node : Fin 1024) (fcsOk unicast : Bool) (bytes : List (BitVec 8)) (tagOk : Bool),
    s.portTakes port = true → s.ethernet port = true → (fcsOk = false ∨ unicast = false ∨ frameFlits bytes = none) →
    ∃ t, exec (.ethernetFrameReceive port node fcsOk unicast bytes tagOk) s = .next t
      ∧ t.port port = { s.port port with drops := (s.port port).drops + 1 } ∧ OtherPorts s t port
      ∧ t = { s with ports := t.ports })
  ∧ (∀ (s : State) (port : Fin 24) (node : Fin 1024) (bytes b : List (BitVec 8)) (tagOk : Bool),
    s.portTakes port = true → s.ethernet port = true → frameFlits bytes = some [b] → flitCrcOk b = true →
    flitMisbehaves b = false → 2 ≤ flitType b → flitSeq b = (s.link port node).expected →
    ∃ t, exec (.ethernetFrameReceive port node true true bytes tagOk) s = .next t
      ∧ (t.link port node).expected = ((s.link port node).expected + 1) % 4096
      ∧ t.rings = s.rings ∧ SameMemory s t ∧ OtherPorts s t port)
  ∧ (∀ (s : State) (port : Fin 24) (node : Fin 1024) (bytes b : List (BitVec 8)) (tagOk : Bool),
    s.portTakes port = true → s.ethernet port = true → frameFlits bytes = some [b] → flitCrcOk b = false →
    ∃ t, exec (.ethernetFrameReceive port node true true bytes tagOk) s = .next t
      ∧ (t.link port node).expected = (s.link port node).expected ∧ (t.link port node).nakSent = true
      ∧ t.rings = s.rings ∧ SameMemory s t ∧ OtherPorts s t port)
  ∧ (∀ (s : State) (port : Fin 24) (node : Fin 1024) (bytes : List (BitVec 8)) (word : List (Fin 544))
      (tagOk fcsOk unicast : Bool) (seq : Fin 4096) (errs : List Nat),
    (bytes.length = 256 → s.portTakes port = false ∨ s.ethernet port = true →
      exec (.flitReceive port bytes word tagOk) s = .next s)
    ∧ (bytes.length ≠ 256 → exec (.flitReceive port bytes word tagOk) s = .fault .malformedCommand)
    ∧ (errs.length = 4 → s.portTakes port = false → exec (.nakReceive port node seq errs) s = .next s)
    ∧ (errs.length ≠ 4 → exec (.nakReceive port node seq errs) s = .fault .malformedCommand)
    ∧ (s.portTakes port = false ∨ s.ethernet port = false →
      exec (.ethernetFrameReceive port node fcsOk unicast bytes tagOk) s = .next s))
  ∧ (∀ (s : State) (port : Fin 24) (bytes : List (BitVec 8)) (word : List (Fin 544)) (tagOk : Bool),
    (Instr.flitReceive port bytes word tagOk).wellFormed = true → ∃ t, exec (.flitReceive port bytes word tagOk) s =
    .next t ∧ Rest s t [.draws, .out, .regs, .flash, .slabs, .rings, .plots, .fabric, .ports, .puts, .tags, .pcie,
    .power, .faults, .maint])
  ∧ (∀ (s : State) (port : Fin 24) (node : Fin 1024) (seq : Fin 4096) (errs : List Nat), (Instr.nakReceive port node
    seq errs).wellFormed = true → ∃ t, exec (.nakReceive port node seq errs) s = .next t ∧ Rest s t [.draws, .out,
    .regs, .flash, .slabs, .rings, .plots, .fabric, .ports, .puts, .tags, .pcie, .power, .faults, .maint])
  ∧ (∀ (s : State) (port : Fin 24) (node : Fin 1024), ∃ t, exec (.linkRetryTimeout port node) s = .next t ∧ Rest s t
    [.draws, .out, .regs, .flash, .slabs, .rings, .plots, .fabric, .ports, .puts, .tags, .pcie, .power, .faults,
    .maint])
  ∧ (∀ (s : State) (port : Fin 24) (node : Fin 1024), ∃ t, exec (.nakResendTimeout port node) s = .next t ∧ Rest s t
    [.out, .ports])
  ∧ (∀ (s : State) (port : Fin 24) (node : Fin 1024) (fcsOk unicast : Bool) (bytes : List (BitVec 8)) (tagOk : Bool),
    ∃ t, exec (.ethernetFrameReceive port node fcsOk unicast bytes tagOk) s = .next t ∧ Rest s t [.draws, .out, .regs,
    .flash, .slabs, .rings, .plots, .fabric, .ports, .puts, .tags, .pcie, .power, .faults, .maint])

/-- R270, R276 to R278, R280, R281, R288: a window's error counts are shown and begin again, and a lane that has stayed above
the threshold for the hold time is retired, as are the lanes that the partner retires, while two lanes stay; with fewer the
port is retired with cause LANES.  An idle port proposes low-power idle, answers a proposal unless it has traffic, and enters
it with the larger wake time once all is quiet; an Ethernet port follows clause 78 where its mode has it.  It wakes to UP.
A port without signal is DOWN, its link state gone and its bit latched; every 100 ms a DOWN port probes, and a probe that
finds a signal begins training, which ends DOWN where none is found.  A command whose conditions do not hold has no effect.
Each of the seven commands answers a next state in every state, and every part of the state but those listed is as
before. -/
def Obligations.LanesAreMeasuredAndPortsIdle : Prop :=
  (∀ (s : State) (port : Fin 24), let q := s.port port
    s.fabricUp = true → s.portCarries port = true → s.ethernet port = false → q.serAt + 8192 ≤ s.now →
    (∀ i, i < 4 → i ∈ q.lanesRetired
      ∨ serAbove (Tab.val q.fecErrs i) (Tab.val q.fecSyms i) (s.rd CFG_LNK_BER_THRESH.THRESH) 1 = false) →
    ∃ t, exec (.serWindow port) s = .next t
      ∧ (∀ i, i < 4 → t.rd (STS_LNK_LANE_SER.ERRORS port i) = Tab.val q.fecErrs i % 2 ^ 32)
      ∧ (t.port port).fecErrs = [] ∧ (t.port port).fecSyms = [] ∧ (t.port port).serAt = s.now
      ∧ (t.port port).lanesRetired = q.lanesRetired
      ∧ OnlyPort s t port ((List.range 4).map (fun i => (STS_LNK_LANE_SER.ERRORS port i).key)))
  ∧ (∀ (s : State) (port : Fin 24) (i : Fin 4), let q := s.port port
    s.fabricUp = true → s.portCarries port = true → s.ethernet port = false → q.serAt + 8192 ≤ s.now →
    i.val ∉ q.lanesRetired → 3 ≤ (s.lanesUp port).length →
    (∀ j, j < 4 → j ∉ q.lanesRetired → serAbove (Tab.val q.fecErrs j) (Tab.val q.fecSyms j)
      (s.rd CFG_LNK_BER_THRESH.THRESH) 1 = decide (j = i.val)) →
    Tab.val q.serHigh i ≠ 0 → Tab.val q.serHigh i - 1 + s.rd CFG_LNK_BER_HOLD.HOLD_MS * perMs ≤ s.now →
    ∃ t, exec (.serWindow port) s = .next t
      ∧ (t.port port).lanesRetired = addAsc i q.lanesRetired ∧ t.rings = s.rings ∧ SameMemory s t ∧ OtherPorts s t port)
  ∧ (∀ (s : State) (port : Fin 24), s.fabricUp = false ∨ s.portCarries port = false ∨ s.ethernet port = true
      ∨ s.now < (s.port port).serAt + 8192 → exec (.serWindow port) s = .next s)
  ∧ (∀ (s : State) (port : Fin 24) (lanes : List (Fin 4)), s.fabricUp = true → s.portCarries port = true →
    s.ethernet port = false → 2 ≤ ((s.lanesUp port).filter (fun i => decide (∀ l ∈ lanes, l.val ≠ i))).length →
    ∃ t, exec (.laneRetire port lanes) s = .next t
      ∧ (∀ i, i ∈ (t.port port).lanesRetired ↔ i ∈ (s.port port).lanesRetired ∨ ∃ l ∈ lanes, l.val = i)
      ∧ t.rings = s.rings ∧ SameMemory s t ∧ OtherPorts s t port
      ∧ OtherFields s t [(LNK_PORT_STS.STATE port).key, (LNK_PORT_STS.LANES port).key])
  ∧ (∀ (s : State) (port : Fin 24) (lanes : List (Fin 4)), s.fabricUp = true → s.portCarries port = true →
    s.ethernet port = false → ((s.lanesUp port).filter (fun i => decide (∀ l ∈ lanes, l.val ≠ i))).length < 2 →
    (∃ l ∈ lanes, l.val ∉ (s.port port).lanesRetired) →
    ∃ t, exec (.laneRetire port lanes) s = .next t ∧ t.portState port = portRETIRED
      ∧ t.rd (LNK_PORT_STS.CAUSE port) = 1 ∧ SameMemory s t)
  ∧ (∀ (s : State) (port : Fin 24) (lanes : List (Fin 4)), s.fabricUp = false ∨ s.portCarries port = false
      ∨ s.ethernet port = true ∨ (∀ l ∈ lanes, l.val ∈ (s.port port).lanesRetired) →
    exec (.laneRetire port lanes) s = .next s)
  ∧ (∀ (s : State) (port : Fin 24), s.fabricUp = true → s.portState port = portUP → s.rd (LNK_PORT_CTL.LPI_EN port) = 1 →
    s.idleLong port = true → s.ethernet port = false → (s.port port).link.quiet = true → (s.port port).lpiOffer = false →
    ∃ t, exec (.lpiIdleTimeout port) s = .next t ∧ (t.port port).lpiOffer = true
      ∧ (t.port port).lpiHeard = (s.port port).lpiHeard ∧ OnlyPort s t port [])
  ∧ (∀ (s : State) (port : Fin 24), s.fabricUp = true → s.portState port = portUP → s.rd (LNK_PORT_CTL.LPI_EN port) = 1 →
    s.idleLong port = true → s.ethernet port = true → Config.clause78 (s.port port).appliedMode = true →
    (∀ q ∈ (s.port port).paths, q.2.quiet = true) →
    ∃ t, exec (.lpiIdleTimeout port) s = .next t ∧ t.portState port = portLPI
      ∧ t.rd (STS_LNK_LPI.WAKE_NS port) = Config.clause78Wake (s.port port).appliedMode % 2 ^ 16
      ∧ t.ports = s.ports ∧ OnlyPort s t port [(LNK_PORT_STS.STATE port).key, (STS_LNK_LPI.WAKE_NS port).key])
  ∧ (∀ (s : State) (port : Fin 24), s.fabricUp = false ∨ s.portState port ≠ portUP ∨ s.rd (LNK_PORT_CTL.LPI_EN port) ≠ 1
      ∨ s.idleLong port = false
      ∨ (s.ethernet port = false ∧ ((s.port port).link.quiet = false ∨ (s.port port).lpiOffer = true))
      ∨ (s.ethernet port = true ∧ (Config.clause78 (s.port port).appliedMode = false
          ∨ ∃ q ∈ (s.port port).paths, q.2.quiet = false)) →
    exec (.lpiIdleTimeout port) s = .next s)
  ∧ (∀ (s : State) (port : Fin 24) (w : Fin 65536), s.fabricUp = true → s.portState port = portUP →
    s.rd (LNK_PORT_CTL.LPI_EN port) = 1 → s.ethernet port = false → (s.port port).link.quiet = true →
    (s.port port).lpiOffer = true →
    ∃ t, exec (.lpiAgreement port w) s = .next t ∧ t.portState port = portLPI
      ∧ t.rd (STS_LNK_LPI.WAKE_NS port) = max (s.ownWake port) w % 2 ^ 16 ∧ (t.port port).lpiOffer = false
      ∧ OnlyPort s t port [(LNK_PORT_STS.STATE port).key, (STS_LNK_LPI.WAKE_NS port).key])
  ∧ (∀ (s : State) (port : Fin 24) (w : Fin 65536), s.fabricUp = true → s.portState port = portUP →
    s.rd (LNK_PORT_CTL.LPI_EN port) = 1 → s.ethernet port = false → (s.port port).link.calm = true →
    (s.port port).link.quiet = false ∨ (s.port port).lpiOffer = false →
    ∃ t, exec (.lpiAgreement port w) s = .next t
      ∧ (t.portState port = portLPI
        ∨ (t.portState port = portUP ∧ (t.port port).lpiOffer = true ∧ (t.port port).lpiHeard = some w.val))
      ∧ OnlyPort s t port [(LNK_PORT_STS.STATE port).key, (STS_LNK_LPI.WAKE_NS port).key])
  ∧ (∀ (s : State) (port : Fin 24) (w : Fin 65536), s.fabricUp = true → s.portState port = portUP →
    s.rd (LNK_PORT_CTL.LPI_EN port) = 1 → s.ethernet port = false → (s.port port).link.calm = false →
    ∃ t, exec (.lpiAgreement port w) s = .next t
      ∧ t.port port = { s.port port with lpiOffer := false, lpiHeard := none } ∧ OtherPorts s t port
      ∧ t = { s with ports := t.ports })
  ∧ (∀ (s : State) (port : Fin 24) (w : Fin 65536), s.fabricUp = false ∨ s.portState port ≠ portUP
      ∨ s.rd (LNK_PORT_CTL.LPI_EN port) ≠ 1 ∨ s.ethernet port = true → exec (.lpiAgreement port w) s = .next s)
  ∧ (∀ (s : State) (port : Fin 24), s.fabricUp = true → s.portState port = portLPI →
    ∃ t, exec (.lpiWake port) s = .next t ∧ t.portState port = portUP ∧ (t.port port).lpiOffer = false
      ∧ OnlyPort s t port [(LNK_PORT_STS.STATE port).key])
  ∧ (∀ (s : State) (port : Fin 24), s.fabricUp = false ∨ s.portState port ≠ portLPI → exec (.lpiWake port) s = .next s)
  ∧ (∀ (s : State) (port : Fin 24), s.fabricUp = true → s.portCarries port = true →
    ∃ t, exec (.signalLost port) s = .next t ∧ t.portState port = portDOWN ∧ (t.port port).link = {}
      ∧ (t.port port).paths = [] ∧ (t.port port).lostAt = (if s.ethernet port = true then some s.now else none)
      ∧ t.waitsForCore1 (dieOfPort port) (portBit port 4) ∧ SameMemory s t)
  ∧ (∀ (s : State) (port : Fin 24), s.fabricUp = false ∨ s.portCarries port = false → exec (.signalLost port) s = .next s)
  ∧ (∀ (s : State) (port : Fin 24), s.fabricUp = true → s.portState port = portDOWN →
    s.rd (LNK_PORT_CTL.MODE port) ≠ 0 → (s.port port).probeAt ≤ s.now →
    (∀ t, (s.port port).lostAt = some t → s.now ≤ t + perS) →
    (∃ t, exec (.signalProbe port false) s = .next t ∧ t.out = .probe port :: s.out
      ∧ t.port port = { s.port port with probeAt := s.now + 100 * perMs } ∧ OnlyPort s t port [])
    ∧ ∃ t, exec (.signalProbe port true) s = .next t ∧ t.portState port = portTRAINING ∧ (t.port port).lostAt = none
      ∧ OnlyPort s t port [(LNK_PORT_STS.STATE port).key])
  ∧ (∀ (s : State) (port : Fin 24) (found : Bool) (l : Nat), s.fabricUp = true → s.portState port = portDOWN →
    s.rd (LNK_PORT_CTL.MODE port) ≠ 0 → (s.port port).probeAt ≤ s.now → (s.port port).lostAt = some l →
    l + perS < s.now → 2 ≤ (recent s.now perHour (s.port port).losses).length →
    ∃ t, exec (.signalProbe port found) s = .next t ∧ t.portState port = portRETIRED
      ∧ t.rd (LNK_PORT_STS.CAUSE port) = 2 ∧ SameMemory s t)
  ∧ (∀ (s : State) (port : Fin 24), s.fabricUp = true → s.portState port = portTRAINING →
    ∃ t, exec (.signalProbe port false) s = .next t ∧ t.portState port = portDOWN
      ∧ (t.port port).probeAt = s.now + 100 * perMs ∧ SameMemory s t ∧ t.rings = s.rings)
  ∧ (∀ (s : State) (port : Fin 24) (found : Bool), s.fabricUp = false
      ∨ (s.portState port ≠ portDOWN ∧ (s.portState port ≠ portTRAINING ∨ found = true))
      ∨ (s.portState port = portDOWN ∧ (s.rd (LNK_PORT_CTL.MODE port) = 0 ∨ s.now < (s.port port).probeAt)) →
    exec (.signalProbe port found) s = .next s)
  ∧ (∀ (s : State) (port : Fin 24), ∃ t, exec (.serWindow port) s = .next t ∧ Rest s t [.draws, .out, .regs, .flash,
    .slabs, .rings, .plots, .fabric, .ports, .puts, .tags, .pcie, .power, .faults, .maint])
  ∧ (∀ (s : State) (port : Fin 24) (lanes : List (Fin 4)), ∃ t, exec (.laneRetire port lanes) s = .next t ∧ Rest s t
    [.draws, .out, .regs, .flash, .slabs, .rings, .plots, .fabric, .ports, .puts, .tags, .pcie, .power, .faults,
    .maint])
  ∧ (∀ (s : State) (port : Fin 24), ∃ t, exec (.lpiIdleTimeout port) s = .next t ∧ Rest s t [.out, .regs, .fabric,
    .ports])
  ∧ (∀ (s : State) (port : Fin 24) (wakeNs : Fin 65536), ∃ t, exec (.lpiAgreement port wakeNs) s = .next t ∧ Rest s t
    [.out, .regs, .fabric, .ports])
  ∧ (∀ (s : State) (port : Fin 24), ∃ t, exec (.lpiWake port) s = .next t ∧ Rest s t [.out, .regs, .fabric, .ports])
  ∧ (∀ (s : State) (port : Fin 24), ∃ t, exec (.signalLost port) s = .next t ∧ Rest s t [.out, .regs, .flash, .slabs,
    .rings, .plots, .fabric, .ports, .puts, .tags, .pcie, .power, .faults, .maint])
  ∧ (∀ (s : State) (port : Fin 24) (found : Bool), ∃ t, exec (.signalProbe port found) s = .next t ∧ Rest s t [.draws,
    .out, .regs, .host, .flash, .slabs, .rings, .plots, .fabric, .ports, .puts, .tags, .mgr, .mac, .pcie, .power,
    .faults, .maint])

/-- R282 to R284, R295, R314: a trained port begins admission with a fresh nonce and key, an admitted Ethernet port does
so with one node more; each message taken in its order is noted, the session keys follow from HELLO, and the answer of
Table 10.5 leaves; the last good one within 50 ms installs the keys and brings the port UP; a bad one, a chain of more
than 8 KiB, a device without its identity key or root, or 50 ms fail the admission; after the back-off it begins again.
A message out of its order, or on a link that is not admitting, has no effect.  Each of the seven commands answers a
next state in every state, and every part of the state but those listed is as before. -/
def Obligations.AdmissionGoesThroughItsMessages : Prop :=
  (∀ (s : State) (port : Fin 24) (node : Fin 1024) (first : Bool), s.fabricUp = true → s.portState port = portTRAINING →
    ∃ t, exec (.portTrained port node first) s = .next t ∧ t.portState port = portADMITTING
      ∧ (t.link port node).adm.since = some s.now ∧ (t.link port node).adm.seen = []
      ∧ (t.link port node).adm.first = first ∧ (t.link port node).adm.nonce = Config.nonce s.draws
      ∧ (t.link port node).adm.eph = Config.ephemeral s.draws ∧ (first = true → Out.admission port 1 ∈ t.out)
      ∧ OnlyAdmission s t port [(LNK_PORT_STS.STATE port).key, (LNK_PORT_STS.LANES port).key])
  ∧ (∀ (s : State) (port : Fin 24) (node : Fin 1024) (first : Bool), s.fabricUp = true → s.ethernet port = true →
    s.portCarries port = true ∨ s.portState port = portADMITTING → (s.link port node).keys = false →
    (s.link port node).adm.since = none → (s.link port node).adm.retryAt = none →
    ∃ t, exec (.portTrained port node first) s = .next t ∧ (t.link port node).adm.since = some s.now
      ∧ (t.link port node).adm.seen = [] ∧ (t.link port node).adm.first = first
      ∧ (∀ n : Nat, n ≠ node → t.link port n = s.link port n) ∧ OnlyAdmission s t port [(LNK_PORT_STS.STATE port).key])
  ∧ (∀ (s : State) (port : Fin 24) (node : Fin 1024) (first : Bool), s.fabricUp = false
      ∨ (s.portState port ≠ portTRAINING ∧ (s.ethernet port = false
        ∨ (s.portCarries port = false ∧ s.portState port ≠ portADMITTING) ∨ (s.link port node).keys = true
        ∨ (s.link port node).adm.since ≠ none ∨ (s.link port node).adm.retryAt ≠ none)) →
    exec (.portTrained port node first) s = .next s)
  ∧ (∀ (s : State) (port : Fin 24) (node : Fin 1024) (pp : Fin 24) (assigned : Bool) (modes : Nat) (nonce : BitVec 256)
      (key : BitVec 512), s.admitting port node = true → (s.link port node).adm.seen = [] →
    ∃ t, exec (.admitHello port node pp assigned modes nonce key) s = .next t ∧ (t.link port node).adm.node = node.val
      ∧ (t.link port node).adm.port = pp.val ∧ (t.link port node).adm.assigned = assigned
      ∧ (t.link port node).adm.modes = modes ∧ (t.link port node).adm.peerNonce = nonce
      ∧ (t.link port node).adm.peerKey = key
      ∧ (t.link port node).txSeal = Config.agree (if (s.link port node).adm.first then 2 else 3)
          (s.link port node).adm.eph key
      ∧ (t.link port node).rxSeal = Config.agree (if (s.link port node).adm.first then 3 else 2)
          (s.link port node).adm.eph key
      ∧ (t.link port node).txCtrl = Config.agree (if (s.link port node).adm.first then 0 else 1)
          (s.link port node).adm.eph key
      ∧ (t.link port node).rxCtrl = Config.agree (if (s.link port node).adm.first then 1 else 0)
          (s.link port node).adm.eph key
      ∧ (t.link port node).adm.seen = [if (s.link port node).adm.first then 2 else 1]
      ∧ Out.admission port (if (s.link port node).adm.first then 3 else 2) ∈ t.out ∧ OnlyAdmission s t port [])
  ∧ (∀ (s : State) (port : Fin 24) (node : Fin 1024) (pp : Fin 24) (assigned : Bool) (modes : Nat) (nonce : BitVec 256)
      (key : BitVec 512), s.admitting port node = false ∨ (s.link port node).adm.seen ≠ [] →
    exec (.admitHello port node pp assigned modes nonce key) s = .next s)
  ∧ (∀ (s : State) (port : Fin 24) (node : Fin 1024) (chain : List (BitVec 8)) (id : BitVec 64),
    s.admitting port node = true → (s.link port node).adm.seen.length = 1 → chain.length ≤ 8192 →
    s.flash.root.isSome = true → id.toNat ∉ s.mgr.revoked →
    ((s.link port node).adm.first = true → s.sec.identityRefused = false) →
    ∃ t, exec (.admitCert port node chain true id) s = .next t ∧ (t.link port node).adm.certOk = true
      ∧ (t.link port node).adm.seen.length = 2
      ∧ Out.admission port (if (s.link port node).adm.first then 5 else 4) ∈ t.out ∧ OnlyAdmission s t port [])
  ∧ (∀ (s : State) (port : Fin 24) (node : Fin 1024) (chain : List (BitVec 8)) (ok : Bool) (id : BitVec 64),
    s.admitting port node = true → (s.link port node).adm.seen.length = 1 →
    (ok = false ∨ 8192 < chain.length ∨ s.flash.root.isSome = false ∨ id.toNat ∈ s.mgr.revoked
      ∨ ((s.link port node).adm.first = true ∧ s.sec.identityRefused = true)) →
    ∃ t, exec (.admitCert port node chain ok id) s = .next t ∧ AdmissionFails s t port node)
  ∧ (∀ (s : State) (port : Fin 24) (node : Fin 1024) (chain : List (BitVec 8)) (ok : Bool) (id : BitVec 64),
    s.admitting port node = false ∨ (s.link port node).adm.seen.length ≠ 1 →
    exec (.admitCert port node chain ok id) s = .next s)
  ∧ (∀ (s : State) (port : Fin 24) (node : Fin 1024) (sig : BitVec 512), s.admitting port node = true →
    (s.link port node).adm.seen.length = 2 → ((s.link port node).adm.first = false → s.sec.identityRefused = false) →
    ∃ t, exec (.admitProof port node sig true) s = .next t ∧ (t.link port node).adm.proofOk = true
      ∧ (t.link port node).adm.seen.length = 3 ∧ Out.admission port 7 ∈ t.out
      ∧ ((s.link port node).adm.first = false → Out.admission port 6 ∈ t.out) ∧ OnlyAdmission s t port [])
  ∧ (∀ (s : State) (port : Fin 24) (node : Fin 1024) (sig : BitVec 512) (ok : Bool), s.admitting port node = true →
    (s.link port node).adm.seen.length = 2 →
    ok = false ∨ ((s.link port node).adm.first = false ∧ s.sec.identityRefused = true) →
    ∃ t, exec (.admitProof port node sig ok) s = .next t ∧ AdmissionFails s t port node)
  ∧ (∀ (s : State) (port : Fin 24) (node : Fin 1024) (sig : BitVec 512) (ok : Bool),
    s.admitting port node = false ∨ (s.link port node).adm.seen.length ≠ 2 →
    exec (.admitProof port node sig ok) s = .next s)
  ∧ (∀ (s : State) (port : Fin 24) (node : Fin 1024), s.admitting port node = true →
    (s.link port node).adm.seen.length = 3 → (s.link port node).adm.certOk = true →
    (s.link port node).adm.proofOk = true → s.admissionLate port node = false →
    ∃ t, exec (.admitFinished port node true) s = .next t ∧ (t.link port node).keys = true
      ∧ (s.portCarries port = false → t.portState port = portUP)
      ∧ (s.ethernet port = false →
        t.rd (LNK_PORT_STS.PARTNER port) = (s.link port node).adm.node % 2 ^ (LNK_PORT_STS.PARTNER port).width
        ∧ t.rd (LNK_PORT_STS.PARTNER_PORT port) = (s.link port node).adm.port % 2 ^ (LNK_PORT_STS.PARTNER_PORT port).width)
      ∧ (t.link port node).adm.since = none ∧ (t.link port node).adm.backoffMs = 100
      ∧ (s.rd STS_MGT_ROLE.ROLE ≠ 0 → OnlyPort s t port [(LNK_PORT_STS.STATE port).key,
          (LNK_PORT_STS.PARTNER port).key, (LNK_PORT_STS.PARTNER_PORT port).key])
      ∧ SameMemory s t ∧ t.rings = s.rings
      ∧ FieldsKept s t ([(LNK_PORT_STS.STATE port).key, (LNK_PORT_STS.PARTNER port).key,
          (LNK_PORT_STS.PARTNER_PORT port).key] ++ tagKeys))
  ∧ (∀ (s : State) (port : Fin 24) (node : Fin 1024) (ok : Bool), s.admitting port node = true →
    (s.link port node).adm.seen.length = 3 →
    (ok = false ∨ (s.link port node).adm.certOk = false ∨ (s.link port node).adm.proofOk = false
      ∨ s.admissionLate port node = true) →
    ∃ t, exec (.admitFinished port node ok) s = .next t ∧ AdmissionFails s t port node)
  ∧ (∀ (s : State) (port : Fin 24) (node : Fin 1024) (ok : Bool),
    s.admitting port node = false ∨ (s.link port node).adm.seen.length ≠ 3 →
    exec (.admitFinished port node ok) s = .next s)
  ∧ (∀ (s : State) (port : Fin 24) (node : Fin 1024) (n : Nat), s.admitting port node = true →
    (s.link port node).adm.since = some n → n + 50 * perMs ≤ s.now →
    ∃ t, exec (.admissionTimeout port node) s = .next t ∧ AdmissionFails s t port node)
  ∧ (∀ (s : State) (port : Fin 24) (node : Fin 1024),
    (∀ n, (s.link port node).adm.since = some n → s.admitting port node = false ∨ s.now < n + 50 * perMs) →
    exec (.admissionTimeout port node) s = .next s)
  ∧ (∀ (s : State) (port : Fin 24) (node : Fin 1024) (n : Nat), s.fabricUp = true →
    s.portState port = portADMITFAILED ∨ s.portCarries port = true →
    (s.link port node).adm.retryAt = some n → n ≤ s.now →
    ∃ t, exec (.admissionRetry port node) s = .next t
      ∧ t.portState port = (if s.portCarries port = true then s.portState port else portADMITTING)
      ∧ (t.link port node).adm.since = some s.now ∧ (t.link port node).adm.retryAt = none
      ∧ ((s.link port node).adm.first = true → Out.admission port 1 ∈ t.out)
      ∧ OnlyAdmission s t port [(LNK_PORT_STS.STATE port).key])
  ∧ (∀ (s : State) (port : Fin 24) (node : Fin 1024),
    (∀ n, (s.link port node).adm.retryAt = some n → s.fabricUp = false ∨ s.now < n
      ∨ (s.portState port ≠ portADMITFAILED ∧ s.portCarries port = false)) →
    exec (.admissionRetry port node) s = .next s)
  ∧ (∀ (s : State) (port : Fin 24) (node : Fin 1024) (first : Bool), ∃ t, exec (.portTrained port node first) s =
    .next t ∧ Rest s t [.draws, .out, .regs, .fabric, .ports])
  ∧ (∀ (s : State) (port : Fin 24) (node : Fin 1024) (partnerPort : Fin 24) (assigned : Bool) (modes : Nat) (nonce :
    BitVec 256) (key : BitVec 512), ∃ t, exec (.admitHello port node partnerPort assigned modes nonce key) s = .next t
    ∧ Rest s t [.draws, .out, .ports])
  ∧ (∀ (s : State) (port : Fin 24) (node : Fin 1024) (chain : List (BitVec 8)) (chainOk : Bool) (devId : BitVec 64), ∃
    t, exec (.admitCert port node chain chainOk devId) s = .next t ∧ Rest s t [.draws, .out, .regs, .host, .rings,
    .fabric, .ports, .tags, .mgr, .mac, .power])
  ∧ (∀ (s : State) (port : Fin 24) (node : Fin 1024) (signature : BitVec 512) (sigOk : Bool), ∃ t, exec (.admitProof
    port node signature sigOk) s = .next t ∧ Rest s t [.draws, .out, .regs, .host, .rings, .fabric, .ports, .tags,
    .mgr, .mac, .power])
  ∧ (∀ (s : State) (port : Fin 24) (node : Fin 1024) (tagOk : Bool), ∃ t, exec (.admitFinished port node tagOk) s =
    .next t ∧ Rest s t [.out, .regs, .host, .rings, .fabric, .ports, .tags, .mgr, .mac, .power])
  ∧ (∀ (s : State) (port : Fin 24) (node : Fin 1024), ∃ t, exec (.admissionTimeout port node) s = .next t ∧ Rest s t
    [.out, .regs, .host, .rings, .fabric, .ports, .tags, .mgr, .mac, .power])
  ∧ (∀ (s : State) (port : Fin 24) (node : Fin 1024), ∃ t, exec (.admissionRetry port node) s = .next t ∧ Rest s t
    [.draws, .out, .regs, .fabric, .ports])

/-- R286, R289, R298, R300 to R302, R361, R368, R481: a put to a slab of its peer claims it, one to any other range is
refused and counted, in Fallow as GLADE_REFUSED; with its good seal it lands, its slab is free of the claim, or flips
where it says so, and its completion goes back; a write that a fenced stack or a retired page refuses goes back as its
code with memory as it was; a bad seal quarantines the port; a read is answered; data of a read of this device waits for
its seal; a completion releases its tag and finishes its descriptor; a freed tag goes to the oldest transaction that may
take it.  While the peer's path does not serve or the range is stalled there is no effect, and a piece longer than a flit
holds is malformed.  Each of the six commands answers a next state in every state, those two with data where it is not
malformed, and every part of the state but those listed is as before. -/
def Obligations.PeerTransfersLandWithTheirSeals : Prop :=
  (∀ (s : State) (port : Fin 24) (src : Fin 1024) (tag : Fin 8192) (a : BitVec 36) (len : Nat)
      (flip : Option (Fin 4)) (data : List (BitVec 8)) (k : Nat), data.length ≤ 208 → s.peerOpen port src = true →
    s.gladeWaits a.toNat len = false → s.rd CTL_PSTATE.STATE = 0 → s.peerSlab src a.toNat len = some k →
    exec (.putReceive port src tag a len flip data) s = .next (State.modSlab { s with puts := s.puts ++
      [({ src := src, tag := tag, port := port, slab := k, addr := a.toNat, len := len, data := data, flip := flip.map (fun f => f.val) } : Put)] }
      k (fun e => { e with claimed := true })))
  ∧ (∀ (s : State) (port : Fin 24) (src : Fin 1024) (tag : Fin 8192) (a : BitVec 36) (len : Nat)
      (flip : Option (Fin 4)) (data : List (BitVec 8)), data.length ≤ 208 → s.peerOpen port src = true →
    s.gladeWaits a.toNat len = false → s.rd CTL_PSTATE.STATE = 0 → s.peerSlab src a.toNat len = none →
    ∃ t, exec (.putReceive port src tag a len flip data) s = .next t
      ∧ t.rd CNT_GLADE_ERR.SLAB_REFUSED = min (s.rd CNT_GLADE_ERR.SLAB_REFUSED + 1) (2 ^ CNT_GLADE_ERR.SLAB_REFUSED.width - 1)
      ∧ OnlyPort s t port [CNT_GLADE_ERR.SLAB_REFUSED.key])
  ∧ (∀ (s : State) (port : Fin 24) (src : Fin 1024) (tag : Fin 8192) (a : BitVec 36) (len : Nat)
      (flip : Option (Fin 4)) (data : List (BitVec 8)), data.length ≤ 208 → s.peerOpen port src = true →
    s.gladeWaits a.toNat len = false → s.rd CTL_PSTATE.STATE ≠ 0 →
    ∃ t, exec (.putReceive port src tag a len flip data) s = .next t
      ∧ t.rd CNT_PCIE_ERR.GLADE_REFUSED = min (s.rd CNT_PCIE_ERR.GLADE_REFUSED + 1) (2 ^ CNT_PCIE_ERR.GLADE_REFUSED.width - 1)
      ∧ OnlyPort s t port [CNT_PCIE_ERR.GLADE_REFUSED.key])
  ∧ (∀ (s : State) (port : Fin 24) (src : Fin 1024) (tag : Fin 8192) (a : BitVec 36) (len : Nat)
      (flip : Option (Fin 4)) (data : List (BitVec 8)),
    (208 < data.length → exec (.putReceive port src tag a len flip data) s = .fault .malformedCommand)
    ∧ (data.length ≤ 208 → s.peerOpen port src = false ∨ s.gladeWaits a.toNat len = true →
      exec (.putReceive port src tag a len flip data) s = .next s))
  ∧ (∀ (s : State) (port : Fin 24) (src : Fin 1024) (tag : Fin 8192) (u : Put), s.peerOpen port src = true →
    s.puts.find? (fun u => decide (u.port = port.val ∧ u.src = src.val ∧ u.tag = tag.val ∧ u.data.length = u.len)) = some u →
    u.addr + u.len ≤ gladeBytes → s.accessFail false (gladePieces u.addr u.len) = none →
    ∃ t, exec (.sealReceive port src tag true) s = .next t ∧ t.readPieces (gladePieces u.addr u.len) = u.data
      ∧ (∀ x, (∀ q ∈ gladePieces u.addr u.len, x < q.1 ∨ q.1 + q.2 ≤ x) → t.hbm.byte x = s.hbm.byte x)
      ∧ (t.slab u.slab).claimed = false ∧ u ∉ t.puts ∧ (∀ n, n ≠ u.slab → t.slab n = s.slab n)
      ∧ (∀ o, u.flip = some o → (t.slab u.slab).owner = BitVec.ofNat 2 o ∧ (t.slab u.slab).gen = (s.slab u.slab).gen + 1)
      ∧ (u.flip = none → t.slab u.slab = { s.slab u.slab with claimed := false })
      ∧ t.host = s.host ∧ t.stash = s.stash ∧ t.rings = s.rings ∧ OtherPorts s t port ∧ FieldsKept s t workKeys)
  ∧ (∀ (s : State) (port : Fin 24) (src : Fin 1024) (tag : Fin 8192) (u : Put), s.peerOpen port src = true →
    s.puts.find? (fun u => decide (u.port = port.val ∧ u.src = src.val ∧ u.tag = tag.val ∧ u.data.length = u.len)) = some u →
    s.accessFail false (gladePieces u.addr u.len) ≠ none →
    ∃ t, exec (.sealReceive port src tag true) s = .next t ∧ t.slab u.slab = { s.slab u.slab with claimed := false }
      ∧ u ∉ t.puts ∧ (∀ n, n ≠ u.slab → t.slab n = s.slab n) ∧ SameMemory s t ∧ t.rings = s.rings
      ∧ OtherPorts s t port ∧ FieldsKept s t [])
  ∧ (∀ (s : State) (port : Fin 24) (src : Fin 1024) (tag : Fin 8192) (u : TagUse), s.peerOpen port src = true →
    (∀ u ∈ s.puts, ¬ (u.port = port.val ∧ u.src = src.val ∧ u.tag = tag.val ∧ u.data.length = u.len)) →
    s.tags.used.find? (fun t => decide (t.tag = tag.val ∧ t.kind = 1 ∧ t.peer = some src.val ∧ t.len ≤ t.data.length))
      = some u →
    exec (.sealReceive port src tag true) s = .next ((s.dropTag u).gather u.ring u.idx 0 (u.data.take u.len)))
  ∧ (∀ (s : State) (port : Fin 24) (src : Fin 1024) (tag : Fin 8192), s.peerOpen port src = true →
    (∀ u ∈ s.puts, ¬ (u.port = port.val ∧ u.src = src.val ∧ u.tag = tag.val ∧ u.data.length = u.len)) →
    (∀ t ∈ s.tags.used, ¬ (t.tag = tag.val ∧ t.kind = 1 ∧ t.peer = some src.val ∧ t.len ≤ t.data.length)) →
    exec (.sealReceive port src tag true) s = .next s)
  ∧ (∀ (s : State) (port : Fin 24) (src : Fin 1024) (tag : Fin 8192), s.peerOpen port src = true →
    ∃ t, exec (.sealReceive port src tag false) s = .next t ∧ t.portState port = portQUARANTINED
      ∧ t.rd (LNK_PORT_STS.CAUSE port) = 3
      ∧ t.rd (CNT_LNK_SEC.SEAL_FAIL port) = (s.rd (CNT_LNK_SEC.SEAL_FAIL port) + 1) % 2 ^ (CNT_LNK_SEC.SEAL_FAIL port).width
      ∧ t.waitsForCore1 (dieOfPort port) (portBit port 6) ∧ (∀ u ∈ t.puts, u.port ≠ port.val) ∧ SameMemory s t)
  ∧ (∀ (s : State) (port : Fin 24) (src : Fin 1024) (tag : Fin 8192) (a : BitVec 36) (len k : Nat),
    s.peerOpen port src = true → s.gladeWaits a.toNat len = false → s.rd CTL_PSTATE.STATE = 0 →
    s.peerSlab src a.toNat len = some k → s.accessFail true (gladePieces a.toNat len) = none →
    a.toNat + len ≤ gladeBytes →
    ∃ t, exec (.readReq port src tag a len) s = .next t ∧ SameMemory s t ∧ t.slabs = s.slabs ∧ t.rings = s.rings
      ∧ OtherPorts s t port ∧ FieldsKept s t workKeys)
  ∧ (∀ (s : State) (port : Fin 24) (src : Fin 1024) (tag : Fin 8192) (a : BitVec 36) (len k : Nat) (f : Fail),
    s.peerOpen port src = true → s.gladeWaits a.toNat len = false → s.rd CTL_PSTATE.STATE = 0 →
    s.peerSlab src a.toNat len = some k → s.accessFail true (gladePieces a.toNat len) = some f →
    ∃ t, exec (.readReq port src tag a len) s = .next t ∧ SameMemory s t ∧ t.slabs = s.slabs ∧ t.rings = s.rings
      ∧ OtherPorts s t port)
  ∧ (∀ (s : State) (port : Fin 24) (src : Fin 1024) (tag : Fin 8192) (a : BitVec 36) (len : Nat),
    s.peerOpen port src = true → s.gladeWaits a.toNat len = false →
    s.rd CTL_PSTATE.STATE ≠ 0 ∨ s.peerSlab src a.toNat len = none →
    ∃ t, exec (.readReq port src tag a len) s = .next t
      ∧ OnlyPort s t port [CNT_GLADE_ERR.SLAB_REFUSED.key, CNT_PCIE_ERR.GLADE_REFUSED.key]
      ∧ (s.rd CTL_PSTATE.STATE = 0 → t.rd CNT_GLADE_ERR.SLAB_REFUSED
        = min (s.rd CNT_GLADE_ERR.SLAB_REFUSED + 1) (2 ^ CNT_GLADE_ERR.SLAB_REFUSED.width - 1))
      ∧ (s.rd CTL_PSTATE.STATE ≠ 0 → t.rd CNT_PCIE_ERR.GLADE_REFUSED
        = min (s.rd CNT_PCIE_ERR.GLADE_REFUSED + 1) (2 ^ CNT_PCIE_ERR.GLADE_REFUSED.width - 1)))
  ∧ (∀ (s : State) (port : Fin 24) (src : Fin 1024) (tag : Fin 8192) (a : BitVec 36) (len : Nat),
    s.peerOpen port src = false ∨ s.gladeWaits a.toNat len = true →
    exec (.readReq port src tag a len) s = .next s)
  ∧ (∀ (s : State) (port : Fin 24) (src : Fin 1024) (tag : Fin 8192) (data : List (BitVec 8)), data.length ≤ 240 →
    s.peerOpen port src = true →
    ∃ t, exec (.readData port src tag data) s = .next t ∧ t = { s with tags := t.tags }
      ∧ t.tags.used.map (fun u => u.data) = s.tags.used.map (fun u =>
          if u.tag = tag.val ∧ u.kind = 1 ∧ u.peer = some src.val ∧ u.port = port.val then u.data ++ data else u.data)
      ∧ t.tags.used.map (fun u => u.tag) = s.tags.used.map (fun u => u.tag) ∧ t.tags.waiting = s.tags.waiting)
  ∧ (∀ (s : State) (port : Fin 24) (src : Fin 1024) (tag : Fin 8192) (data : List (BitVec 8)),
    (240 < data.length → exec (.readData port src tag data) s = .fault .malformedCommand)
    ∧ (data.length ≤ 240 → s.peerOpen port src = false → exec (.readData port src tag data) s = .next s))
  ∧ (∀ (s : State) (port : Fin 24) (src : Fin 1024) (tag : Fin 8192) (st : BitVec 8) (u : TagUse) (e : Entry),
    s.peerOpen port src = true →
    s.tags.used.find? (fun t => decide (t.tag = tag.val ∧ t.kind ≤ 1 ∧ t.peer = some src.val ∧ t.port = port.val)) = some u →
    st ≠ 0 → s.entry u.ring u.idx = some e → e.stage < 3 →
    ∃ t, exec (.completion port src tag st) s = .next t ∧ t.ended u.ring u.idx st.toNat 0
      ∧ (∀ w ∈ t.tags.used, w.tag ≠ tag.val) ∧ OtherEntries s t u.ring u.idx ∧ SameMemory s t
      ∧ FieldsKept s t tagKeys)
  ∧ (∀ (s : State) (port : Fin 24) (src : Fin 1024) (tag : Fin 8192) (u : TagUse) (e : Entry),
    s.peerOpen port src = true →
    s.tags.used.find? (fun t => decide (t.tag = tag.val ∧ t.kind ≤ 1 ∧ t.peer = some src.val ∧ t.port = port.val)) = some u →
    u.kind = 0 → s.entry u.ring u.idx = some e → e.stage < 3 →
    (∀ w ∈ s.tags.used, w.ring = u.ring → w.idx = u.idx → w.tag = tag.val) → (∀ w ∈ s.tags.waiting, w.ring ≠ u.ring) →
    ∃ t, exec (.completion port src tag 0) s = .next t ∧ t.ended u.ring u.idx 0x00 0
      ∧ (∀ w ∈ t.tags.used, w.tag ≠ tag.val) ∧ OtherEntries s t u.ring u.idx ∧ SameMemory s t
      ∧ FieldsKept s t tagKeys)
  ∧ (∀ (s : State) (port : Fin 24) (src : Fin 1024) (tag : Fin 8192) (st : BitVec 8), s.peerOpen port src = false
      ∨ (∀ t ∈ s.tags.used, ¬ (t.tag = tag.val ∧ t.kind ≤ 1 ∧ t.peer = some src.val ∧ t.port = port.val)) →
    exec (.completion port src tag st) s = .next s)
  ∧ (∀ (s : State) (port : Fin 24) (src : Fin 1024) (tag : Fin 8192) (u : TagUse), s.peerOpen port src = true →
    s.tags.used.find? (fun t => decide (t.tag = tag.val ∧ t.kind ≤ 1 ∧ t.peer = some src.val ∧ t.port = port.val)) = some u →
    u.kind = 1 → exec (.completion port src tag 0) s = .next s)
  ∧ (∀ (s : State) (port : Fin 24) (src : Fin 1024) (tag : Fin 8192) (ok : Bool), s.peerOpen port src = false →
    exec (.sealReceive port src tag ok) s = .next s)
  ∧ (∀ (s : State) (u : TagUse) (rest : List TagUse), s.firstWaiting [] s.tags.waiting = some (u, rest) → u.kind = 4 →
    ∃ t, exec .tagGrant s = .next t ∧ t.tags.waiting = rest ∧ t.tags.used = s.tags.used ++ [{ u with
        tag := s.freeTag, deadline := s.transferDue, takenAt := s.now }]
      ∧ SameMemory s t ∧ t.rings = s.rings ∧ FieldsKept s t [STS_LNK_TAGS.IN_USE.key, STS_LNK_TAGS.PEAK.key])
  ∧ (∀ (s : State) (u : TagUse) (rest : List TagUse) (n p : Nat), s.firstWaiting [] s.tags.waiting = some (u, rest) →
    u.kind ≤ 1 → u.ctrl = none → u.peer = some n → s.pickPort n (s.portsFor u n) = some p →
    ∃ t, exec .tagGrant s = .next t ∧ t.tags.waiting = rest ∧ t.tags.used = s.tags.used ++ [{ u with
        tag := s.freeTag, port := p, deadline := s.transferDue, takenAt := s.now }]
      ∧ SameMemory s t ∧ t.rings = s.rings ∧ OtherPorts s t p
      ∧ FieldsKept s t [STS_LNK_TAGS.IN_USE.key, STS_LNK_TAGS.PEAK.key])
  ∧ (∀ s : State, s.firstWaiting [] s.tags.waiting = none → exec .tagGrant s = .next s)
  ∧ (∀ (s : State) (port : Fin 24) (src : Fin 1024) (tag : Fin 8192) (addr : BitVec 36) (len : Nat) (flip : Option
    (Fin 4)) (data : List (BitVec 8)), (Instr.putReceive port src tag addr len flip data).wellFormed = true → ∃ t,
    exec (.putReceive port src tag addr len flip data) s = .next t ∧ Rest s t [.out, .regs, .slabs, .ports, .puts])
  ∧ (∀ (s : State) (port : Fin 24) (src : Fin 1024) (tag : Fin 8192) (sealOk : Bool), ∃ t, exec (.sealReceive port src
    tag sealOk) s = .next t ∧ Rest s t [.draws, .out, .regs, .hbm, .host, .flash, .slabs, .rings, .plots, .fabric,
    .ports, .puts, .tags, .pcie, .power, .faults, .maint, .bytes])
  ∧ (∀ (s : State) (port : Fin 24) (src : Fin 1024) (tag : Fin 8192) (addr : BitVec 36) (len : Nat), ∃ t, exec
    (.readReq port src tag addr len) s = .next t ∧ Rest s t [.out, .regs, .hbm, .flash, .plots, .ports, .pcie, .power,
    .faults])
  ∧ (∀ (s : State) (port : Fin 24) (src : Fin 1024) (tag : Fin 8192) (data : List (BitVec 8)), (Instr.readData port
    src tag data).wellFormed = true → ∃ t, exec (.readData port src tag data) s = .next t ∧ Rest s t [.tags])
  ∧ (∀ (s : State) (port : Fin 24) (src : Fin 1024) (tag : Fin 8192) (status : BitVec 8), ∃ t, exec (.completion port
    src tag status) s = .next t ∧ Rest s t [.regs, .rings, .tags])
  ∧ (∀ (s : State), ∃ t, exec .tagGrant s = .next t ∧ Rest s t [.draws, .out, .regs, .hbm, .host, .flash, .engines,
    .rings, .plots, .fabric, .ports, .tags, .pcie, .power, .faults, .bytes])

/-- R306 to R310, R322: a bad frame is counted by kind, and delivered only if DELIVER is set; one for another address or
version, and one that fails its tag or its counter, are dropped and counted; a good one and an untagged JOIN_HELLO are
delivered with their status word.  A collision backs off for at most the slot times of its attempt, a late one or one of
the 16th attempt drops the frame; the end of a back-off is the next attempt; a beacon gives the node its opportunity for
one frame and its burst; without PLCA status the MAC goes on under CSMA/CD.  A command for which nothing is in progress
has no effect.  Each of the five commands answers a next state in every state, and every part of the state but those
listed is as before. -/
def Obligations.TheSegmentMacSendsAndReceives : Prop :=
  (∀ (s : State) (aligned untagged tagOk : Bool) (src : Fin 1024) (b : List (BitVec 8)),
    s.segmentUp = true → badFlags (fcsOk b) aligned b.length ≠ 0 →
    ∃ t, exec (.mgtFrameReceive aligned untagged tagOk src b) s = .next t
      ∧ t.rd CNT_MGT_RX_BAD.FCS = (s.rd CNT_MGT_RX_BAD.FCS + b2n (!fcsOk b)) % 2 ^ CNT_MGT_RX_BAD.FCS.width
      ∧ t.rd CNT_MGT_RX_BAD.RUNT = (s.rd CNT_MGT_RX_BAD.RUNT + b2n (decide (b.length < 64))) % 2 ^ CNT_MGT_RX_BAD.RUNT.width
      ∧ t.rd CNT_MGT_RX_BAD.OVERSIZE
          = (s.rd CNT_MGT_RX_BAD.OVERSIZE + b2n (decide (1522 < b.length))) % 2 ^ CNT_MGT_RX_BAD.OVERSIZE.width
      ∧ t.rd CNT_MGT_RX_BAD.ALIGN = (s.rd CNT_MGT_RX_BAD.ALIGN + b2n (!aligned)) % 2 ^ CNT_MGT_RX_BAD.ALIGN.width
      ∧ (s.rd CFG_MGT_DELIVER_BAD.DELIVER ≠ 1 → t.mac = s.mac)
      ∧ (s.rd CFG_MGT_DELIVER_BAD.DELIVER = 1 → t.mac = { s.mac with
          badLog := s.mac.badLog + 1
          delivered := s.mac.delivered ++ [(BitVec.ofNat 32 (min b.length 1522 * 2 ^ 16
            + badFlags (fcsOk b) aligned b.length + (if 1522 < b.length then 16 else 0)), b.take 1522)] })
      ∧ t = { s with regs := t.regs, mac := t.mac }
      ∧ FieldsKept s t [CNT_MGT_RX_BAD.FCS.key, CNT_MGT_RX_BAD.RUNT.key, CNT_MGT_RX_BAD.OVERSIZE.key,
          CNT_MGT_RX_BAD.ALIGN.key])
  ∧ (∀ (s : State) (untagged tagOk : Bool) (src : Fin 1024) (b : List (BitVec 8)),
    s.segmentUp = true → badFlags (fcsOk b) true b.length = 0 → (s.mgtAddressOk b = false ∨ mgtHeaderOk b = false) →
    ∃ t, exec (.mgtFrameReceive true untagged tagOk src b) s = .next t
      ∧ t.rd CNT_MGT_RX_DROP.FILTERED = (s.rd CNT_MGT_RX_DROP.FILTERED + 1) % 2 ^ CNT_MGT_RX_DROP.FILTERED.width
      ∧ OnlyFields s t [CNT_MGT_RX_DROP.FILTERED.key])
  ∧ (∀ (s : State) (tagOk : Bool) (src : Fin 1024) (b : List (BitVec 8)),
    s.segmentUp = true → badFlags (fcsOk b) true b.length = 0 → s.mgtAddressOk b = true → mgtHeaderOk b = true →
    exec (.mgtFrameReceive true true tagOk src b) s = .next { s with mac := { s.mac with
      delivered := s.mac.delivered ++ [(BitVec.ofNat 32 (b.length * 2 ^ 16), b)] } })
  ∧ (∀ (s : State) (tagOk : Bool) (src : Fin 1024) (b : List (BitVec 8)),
    s.segmentUp = true → badFlags (fcsOk b) true b.length = 0 → s.mgtAddressOk b = true → mgtHeaderOk b = true →
    tagOk = false ∨ s.mgr.copseKey = none ∨ leNat ((b.drop 18).take 8) < Tab.val s.mac.ctrlRx src →
    ∃ t, exec (.mgtFrameReceive true false tagOk src b) s = .next t
      ∧ t.rd CNT_MGT_RX_DROP.AUTH_FAIL = (s.rd CNT_MGT_RX_DROP.AUTH_FAIL + 1) % 2 ^ CNT_MGT_RX_DROP.AUTH_FAIL.width
      ∧ OnlyFields s t [CNT_MGT_RX_DROP.AUTH_FAIL.key])
  ∧ (∀ (s : State) (src : Fin 1024) (b : List (BitVec 8)),
    s.segmentUp = true → badFlags (fcsOk b) true b.length = 0 → s.mgtAddressOk b = true → mgtHeaderOk b = true →
    s.mgr.copseKey.isSome = true → Tab.val s.mac.ctrlRx src ≤ leNat ((b.drop 18).take 8) →
    ∃ t, exec (.mgtFrameReceive true false true src b) s = .next t
      ∧ Tab.val t.mac.ctrlRx src = leNat ((b.drop 18).take 8) + 1
      ∧ t.mac.delivered = s.mac.delivered ++ [(BitVec.ofNat 32 (b.length * 2 ^ 16), b)] ∧ t = { s with mac := t.mac })
  ∧ (∀ (s : State) (aligned untagged tagOk : Bool) (src : Fin 1024) (b : List (BitVec 8)), s.segmentUp = false →
    exec (.mgtFrameReceive aligned untagged tagOk src b) s = .next s)
  ∧ (∀ (s : State) (late : Bool) (f : List Byte), s.mac.sending = some f → s.mac.backoff = false →
    s.now < s.mac.sendEnd → late = true ∨ 16 ≤ s.mac.attempts →
    ∃ t, exec (.collision late) s = .next t ∧ t.mac.sending = s.mac.queue.head? ∧ t.mac.queue = s.mac.queue.tail
      ∧ t.rd CNT_MGT_TX.LATE = (s.rd CNT_MGT_TX.LATE + b2n late) % 2 ^ CNT_MGT_TX.LATE.width
      ∧ t.rd CNT_MGT_TX.EXCESSIVE = (s.rd CNT_MGT_TX.EXCESSIVE + b2n (!late)) % 2 ^ CNT_MGT_TX.EXCESSIVE.width
      ∧ t.rd CNT_MGT_TX.COLLISIONS = (s.rd CNT_MGT_TX.COLLISIONS + 1) % 2 ^ CNT_MGT_TX.COLLISIONS.width
      ∧ t = { s with regs := t.regs, mac := t.mac, out := t.out }
      ∧ FieldsKept s t [CNT_MGT_TX.LATE.key, CNT_MGT_TX.EXCESSIVE.key, CNT_MGT_TX.COLLISIONS.key])
  ∧ (∀ (s : State) (f : List Byte), s.mac.sending = some f → s.mac.backoff = false → s.now < s.mac.sendEnd →
    s.mac.attempts < 16 →
    ∃ t, exec (.collision false) s = .next t ∧ t.mac = { s.mac with backoff := true, backoffEnd := t.mac.backoffEnd }
      ∧ s.now ≤ t.mac.backoffEnd ∧ t.mac.backoffEnd ≤ s.now + slotTimes (2 ^ min s.mac.attempts 10 - 1)
      ∧ t.rd CNT_MGT_TX.COLLISIONS = (s.rd CNT_MGT_TX.COLLISIONS + 1) % 2 ^ CNT_MGT_TX.COLLISIONS.width
      ∧ t = { s with draws := s.draws + 1, regs := t.regs, mac := t.mac } ∧ FieldsKept s t [CNT_MGT_TX.COLLISIONS.key])
  ∧ (∀ (s : State) (late : Bool), s.mac.sending = none ∨ s.mac.backoff = true ∨ s.mac.sendEnd ≤ s.now →
    exec (.collision late) s = .next s)
  ∧ (∀ (s : State) (f : List Byte), s.mac.sending = some f → s.mac.backoff = true → s.mac.backoffEnd ≤ s.now →
    s.islandUp 13 = true →
    exec .backoffExpiry s = .next { s with
      mac := { s.mac with backoff := false, attempts := s.mac.attempts + 1, sendEnd := s.now + frameTime f }
      out := .mgtFrame f :: s.out })
  ∧ (∀ (s : State) (f : List Byte) (l : List (List Byte)), s.mac.backoff = false → s.plcaRules = false →
    s.macBusy = false → s.mac.queue = f :: l →
    exec .backoffExpiry s = .next { s with
      mac := { s.mac with backoff := false, attempts := 1, sendEnd := s.now + frameTime f, sending := some f, queue := l }
      out := .mgtFrame f :: s.out })
  ∧ (∀ (s : State), (s.mac.backoff = true ∧ (s.now < s.mac.backoffEnd ∨ s.islandUp 13 = false))
      ∨ (s.mac.backoff = false ∧ (s.plcaRules = true ∨ s.macBusy = true ∨ s.mac.queue = [])) →
    exec .backoffExpiry s = .next s)
  ∧ (∀ (s : State), s.segmentUp = true → s.rd CFG_MGT_MAC.PLCA_EN = 1 →
    ∃ t, exec .plcaBeacon s = .next t ∧ t.mac.plcaOk = true
      ∧ t.mac.plcaId = (if s.rd CFG_MGT_PLCA.LOCAL_ID < s.rd CFG_MGT_PLCA.NODE_COUNT then s.rd CFG_MGT_PLCA.LOCAL_ID
          else s.mac.plcaId)
      ∧ (t.mac.plcaId = 0 → Out.beacon ∈ t.out)
      ∧ (s.mac.backoff = false → t.mac.queue = s.mac.queue.drop (1 + s.rd CFG_MGT_PLCA.BURST)
        ∧ (s.mac.queue ≠ [] → t.mac.sending = (s.mac.queue.take (1 + s.rd CFG_MGT_PLCA.BURST)).getLast?)
        ∧ (s.mac.queue = [] → t.mac.sending = s.mac.sending)
        ∧ ∀ f ∈ s.mac.queue.take (1 + s.rd CFG_MGT_PLCA.BURST), Out.mgtFrame f ∈ t.out)
      ∧ (∀ f, s.mac.backoff = true → s.mac.sending = some f → Out.mgtFrame f ∈ t.out ∧ t.mac.backoff = false
        ∧ t.mac.queue = s.mac.queue.drop (s.rd CFG_MGT_PLCA.BURST))
      ∧ t = { s with mac := t.mac, out := t.out })
  ∧ (∀ (s : State), s.segmentUp = false ∨ s.rd CFG_MGT_MAC.PLCA_EN ≠ 1 → exec .plcaBeacon s = .next s)
  ∧ (∀ (s : State), s.macBusy = true ∨ s.mac.queue = [] →
    exec .plcaStatusChange s = .next { s with mac := { s.mac with plcaOk := false } })
  ∧ (∀ (s : State) (f : List Byte) (l : List (List Byte)), s.macBusy = false → s.mac.queue = f :: l →
    exec .plcaStatusChange s = .next { s with
      mac := { s.mac with plcaOk := false, backoff := false, attempts := 1, sendEnd := s.now + frameTime f
                          sending := some f, queue := l }
      out := .mgtFrame f :: s.out })
  ∧ (∀ (s : State) (aligned untagged tagOk : Bool) (src : Fin 1024) (frame : List (BitVec 8)), ∃ t, exec
    (.mgtFrameReceive aligned untagged tagOk src frame) s = .next t ∧ Rest s t [.regs, .mac])
  ∧ (∀ (s : State) (late : Bool), ∃ t, exec (.collision late) s = .next t ∧ Rest s t [.draws, .out, .regs, .mac])
  ∧ (∀ (s : State), ∃ t, exec .backoffExpiry s = .next t ∧ Rest s t [.out, .mac])
  ∧ (∀ (s : State), ∃ t, exec .plcaBeacon s = .next t ∧ Rest s t [.out, .mac])
  ∧ (∀ (s : State), ∃ t, exec .plcaStatusChange s = .next t ∧ Rest s t [.out, .mac])

/-- R297, R301, R310, R313 to R316, R320, R457, R459: a JOIN_HELLO retries failed admissions; a copse lead forwards a join
request, and the manager decides it under the system lock, or lets it wait for the lock: an accepted device becomes a
member at a new epoch, a refused one leaves the members as they are; its answer gives the device that asked its key and
its role to come, a refused one asks no more, and a lead passes an answer on; a table applies above the epoch held of
its kind, with role, lead, key and heartbeat periods above the membership epoch held, waits during a mode change, and is
dropped at a lower manager epoch; a leave that no lease holds up frees the node number, and one that leases hold up
waits and asks for the spare; a device sends its own host's request to the manager.  Each of the six commands answers a
next state in every state, and every part of the state but those listed is as before. -/
def Obligations.DevicesJoinAndLeave : Prop :=
  (∀ (s : State), s.fabricUp = true →
    ∃ t, exec .joinHello s = .next t
      ∧ (∀ p, p < 24 → s.portState p = portADMITFAILED → s.ethernet p = false → t.portState p = portADMITTING
          ∧ (t.port p).link.adm.since = some s.now)
      ∧ (∀ p, p < 24 → (s.portState p ≠ portADMITFAILED ∨ s.ethernet p = true) → t.port p = s.port p
          ∧ t.portState p = s.portState p)
      ∧ t = { s with draws := t.draws, regs := t.regs, ports := t.ports, out := t.out
                     fabric := { s.fabric with pathWant := t.fabric.pathWant } })
  ∧ (∀ (s : State), s.fabricUp = false → exec .joinHello s = .next s)
  ∧ (∀ (s : State) (id : BitVec 64) (l : List (Fin 1024)), s.rd STS_MGT_ROLE.LEAD = 1 → s.isManager = false →
    ∃ t, exec (.joinReq id l) s = .next t ∧ t = { s with ports := t.ports, out := t.out })
  ∧ (∀ (s : State) (id : BitVec 64) (l : List (Fin 1024)), s.rd STS_MGT_ROLE.LEAD = 1 → s.isManager = true →
    exec (.joinReq id l) s = exec (.joinForward id s.mgr.copse l) s)
  ∧ (∀ (s : State) (id : BitVec 64) (l : List (Fin 1024)), s.rd STS_MGT_ROLE.LEAD ≠ 1 →
    exec (.joinReq id l) s = .next s)
  ∧ (∀ (s : State) (id : BitVec 64) (copse : Nat) (l : List (Fin 1024)), s.quietManager →
    (s.joinVerdict id.toNat copse (l.map (fun n => n.val))).1 = 0 →
    ∃ t n m, exec (.joinForward id copse l) s = .next t ∧ Tab.look t.mgr.members n = some m
      ∧ m.devId = id.toNat ∧ m.copse = copse ∧ m.role = (s.joinVerdict id.toNat copse (l.map (fun n => n.val))).2
      ∧ m.partners = l.map (fun n => n.val) ∧ m.failed = false
      ∧ t.mgr.epoch = (s.mgr.epoch + 1) % 2 ^ 32 ∧ t.mgr.queue = [] ∧ t.maint = s.maint ∧ SameMemory s t
      ∧ t.rings = s.rings ∧ t.fabric = s.fabric ∧ OtherFields s t [STS_MGT_ROLE.LEAD.key])
  ∧ (∀ (s : State) (id : BitVec 64) (copse : Nat) (l : List (Fin 1024)), s.quietManager →
    (s.joinVerdict id.toNat copse (l.map (fun n => n.val))).1 ≠ 0 →
    ∃ t, exec (.joinForward id copse l) s = .next t ∧ t.mgr = s.mgr ∧ t.maint = s.maint ∧ SameMemory s t
      ∧ t.rings = s.rings ∧ t.fabric = s.fabric ∧ OtherFields s t [])
  ∧ (∀ (s : State) (id : BitVec 64) (copse : Nat) (l : List (Fin 1024)), s.isManager = true →
    blockedBy joinLock s.maint.active s.maint.waiting = true → s.hasLock joinLock = false →
    .join id.toNat copse (l.map (fun n => n.val)) ∉ s.mgr.queue →
    ∃ t, exec (.joinForward id copse l) s = .next t
      ∧ t.mgr = { s.mgr with queue := s.mgr.queue ++ [.join id.toNat copse (l.map (fun n => n.val))] }
      ∧ joinLock ∈ t.maint.waiting ∧ t.maint.active = s.maint.active ∧ t = { s with regs := t.regs, mgr := t.mgr, maint := t.maint }
      ∧ OtherFields s t [])
  ∧ (∀ (s : State) (id : BitVec 64) (copse : Nat) (l : List (Fin 1024)), s.isManager = false →
    exec (.joinForward id copse l) s = .next s)
  ∧ (∀ (s : State) (id : BitVec 64) (node : Fin 1024) (spare : Bool) (manager : Fin 1024) (copse : Nat) (key : BitVec 256),
    id.toNat = s.deviceId → s.mgr.joining = true → s.mgr.fencedSelf = false →
    ∃ t, exec (.joinAnswer id 0 node spare manager copse key) s = .next t
      ∧ t.mgr = { s.mgr with joining := false, copseKey := some key, managerNode := some manager.val, copse := copse
                             hbSeq := 0, pending := some (if spare then 2 else 1, node.val) }
      ∧ (∀ u ∈ t.tags.used ++ t.tags.waiting, u.kind ≠ 3 ∨ u.idx ≠ 0)
      ∧ t = { s with regs := t.regs, mgr := t.mgr, tags := t.tags } ∧ FieldsKept s t tagKeys)
  ∧ (∀ (s : State) (id : BitVec 64) (node : Fin 1024) (spare : Bool) (manager : Fin 1024) (copse : Nat) (key : BitVec 256),
    id.toNat = s.deviceId → s.mgr.joining = true → s.mgr.fencedSelf = true →
    ∃ t, exec (.joinAnswer id 0 node spare manager copse key) s = .next t ∧ t.mgr.fencedSelf = false
      ∧ t.mgr.joining = false ∧ t.mgr.copseKey = some key ∧ t.mgr.managerNode = some manager.val
      ∧ t.mgr.pending = some (if spare then 2 else 1, node.val)
      ∧ (∀ p ∈ s.crossPlots, t.rd (PLOT_LEASE_ID.LEASE_ID p) = 0 ∧ t.rd (PLOT_STS.MANAGED p) = 0)
      ∧ SameMemory s t ∧ t.rings = s.rings)
  ∧ (∀ (s : State) (id : BitVec 64) (status : Fin 7) (node : Fin 1024) (spare : Bool) (manager : Fin 1024) (copse : Nat)
      (key : BitVec 256), id.toNat = s.deviceId → s.mgr.joining = true → status ≠ 0 →
    ∃ t, exec (.joinAnswer id status node spare manager copse key) s = .next t
      ∧ t.mgr = { s.mgr with joining := false, refused := true } ∧ (∀ u ∈ t.tags.used ++ t.tags.waiting, u.kind ≠ 3 ∨ u.idx ≠ 0)
      ∧ t = { s with regs := t.regs, mgr := t.mgr, tags := t.tags } ∧ FieldsKept s t tagKeys)
  ∧ (∀ (s : State) (id : BitVec 64) (status : Fin 7) (node : Fin 1024) (spare : Bool) (manager : Fin 1024) (copse : Nat)
      (key : BitVec 256), id.toNat ≠ s.deviceId → s.rd STS_MGT_ROLE.LEAD = 1 →
    ∃ t, exec (.joinAnswer id status node spare manager copse key) s = .next t ∧ t = { s with ports := t.ports, out := t.out })
  ∧ (∀ (s : State) (id : BitVec 64) (status : Fin 7) (node : Fin 1024) (spare : Bool) (manager : Fin 1024) (copse : Nat)
      (key : BitVec 256), (id.toNat = s.deviceId ∧ s.mgr.joining = false)
      ∨ (id.toNat ≠ s.deviceId ∧ s.rd STS_MGT_ROLE.LEAD ≠ 1) →
    exec (.joinAnswer id status node spare manager copse key) s = .next s)
  ∧ (∀ (s : State) (epoch : BitVec 32) (w : TableWrite) (role : Fin 3) (lead : Bool) (hb : BitVec 32) (key : BitVec 256)
      (me : BitVec 32) (mn : Fin 1024), s.fabricUp = true → s.rd STS_MGT_ROLE.ROLE ≠ 0 → s.mgr.mgrEpoch = me.toNat →
    s.maint.active.any (fun l => decide (l.kind = 7)) = false → s.fabric.waiting = [] → (∀ l, w ≠ .tagCaps l) →
    s.mgr.epoch < epoch.toNat → role ≠ 0 → s.mgr.pending = none →
    ∃ t, exec (.tableWrite epoch w role lead false hb key me mn) s = .next t ∧ t.fabric = s.fabric.putTable epoch.toNat w
      ∧ t.mgr = { s.mgr with epoch := epoch.toNat, copseKey := some key } ∧ t.rd STS_MGT_ROLE.LEAD = b2n lead
      ∧ t.rd STS_MGT_ROLE.ROLE = role.val
      ∧ t.rd FLT_TMO_HB.DEVICE = hb.toNat % 65536 ∧ t.rd FLT_TMO_HB.MGR_MS = hb.toNat / 65536
      ∧ t = { s with regs := t.regs, fabric := t.fabric, mgr := t.mgr }
      ∧ FieldsKept s t [STS_MGT_ROLE.LEAD.key, STS_MGT_ROLE.ROLE.key, FLT_TMO_HB.DEVICE.key, FLT_TMO_HB.MGR_MS.key])
  ∧ (∀ (s : State) (epoch : BitVec 32) (w : TableWrite) (role : Fin 3) (lead : Bool) (hb : BitVec 32) (key : BitVec 256)
      (me : BitVec 32) (mn : Fin 1024) (q : Nat × Nat), s.fabricUp = true → s.mgr.pending = some q →
    s.mgr.mgrEpoch = me.toNat → s.mgr.epoch < epoch.toNat → role ≠ 0 →
    ∃ t, exec (.tableWrite epoch w role lead false hb key me mn) s = .next t
      ∧ t.rd STS_MGT_ROLE.ROLE = q.1 % 2 ^ STS_MGT_ROLE.ROLE.width
      ∧ t.rd STS_MGT_ROLE.NODE = q.2 % 2 ^ STS_MGT_ROLE.NODE.width
      ∧ t.mgr = { s.mgr with epoch := epoch.toNat, copseKey := some key, pending := none })
  ∧ (∀ (s : State) (epoch : BitVec 32) (w : TableWrite) (lead : Bool) (hb : BitVec 32) (key : BitVec 256)
      (me : BitVec 32) (mn : Fin 1024), s.fabricUp = true → s.rd STS_MGT_ROLE.ROLE ≠ 0 → s.mgr.mgrEpoch = me.toNat →
    s.mgr.epoch < epoch.toNat →
    ∃ t, exec (.tableWrite epoch w 0 lead false hb key me mn) s = .next t ∧ t.rd STS_MGT_ROLE.ROLE = 0
      ∧ t.rd STS_MGT_ROLE.NODE = 0 ∧ t.rd STS_MGT_ROLE.MGR_ROLE = 0
      ∧ t.mgr = { s.mgr with epoch := epoch.toNat, managerNode := none, copseKey := none, leaving := false, pending := none })
  ∧ (∀ (s u : State) (epoch : BitVec 32) (w : TableWrite) (role : Fin 3) (lead : Bool) (hb : BitVec 32) (key : BitVec 256)
      (me : BitVec 32) (mn : Fin 1024), s.fabricUp = true → s.rd STS_MGT_ROLE.ROLE ≠ 0 → s.mgr.mgrEpoch ≤ me.toNat →
    s.mgr.epoch < epoch.toNat → exec (.tableWrite epoch w role lead false hb key me mn) s = .next u →
    exec (.tableWrite epoch w role lead true hb key me mn) s = .next (u.msix 0 1))
  ∧ (∀ (s : State) (epoch : BitVec 32) (w : TableWrite) (role : Fin 3) (lead sub : Bool) (hb : BitVec 32)
      (key : BitVec 256) (me : BitVec 32) (mn : Fin 1024), s.fabricUp = true → s.rd STS_MGT_ROLE.ROLE ≠ 0 →
    s.mgr.mgrEpoch = me.toNat → s.maint.active.any (fun l => decide (l.kind = 7)) = false → s.fabric.waiting = [] →
    (∀ l, w ≠ .tagCaps l) → epoch.toNat ≤ s.mgr.epoch →
    exec (.tableWrite epoch w role lead sub hb key me mn) s = .next { s with fabric := s.fabric.putTable epoch.toNat w })
  ∧ (∀ (f : Fabric) (e : Nat), (∀ l, e ≤ f.routeEpoch → f.putTable e (.route l) = f)
    ∧ (∀ l, e ≤ f.routingEpoch → f.putTable e (.routing l) = f)
    ∧ (∀ l c, e ≤ f.schedEpoch → f.putTable e (.schedule l c) = f)
    ∧ (∀ n l, f.routeEpoch < e → Tab.val (f.putTable e (.route [(n, l)])).routes n = l.map (fun p => p.1.val))
    ∧ (∀ n l k, f.routeEpoch < e → k ≠ n.val → Tab.val (f.putTable e (.route [(n, l)])).routes k = [])
    ∧ (∀ q, f.routingEpoch < e → Tab.look (f.putTable e (.routing [q])).routing q.1
        = some { node := q.2.1, localExp := q.2.2.1, path := q.2.2.2.map (fun p => p.val) })
    ∧ (∀ k l c, f.schedEpoch < e → (Tab.val (f.putTable e (.schedule [(k, l)] c)).scheds k).nodes = l.map (fun n => n.val)
        ∧ (Tab.val (f.putTable e (.schedule [(k, l)] c)).scheds k).last = none))
  ∧ (∀ (s : State) (epoch : BitVec 32) (w : TableWrite) (role : Fin 3) (lead sub : Bool) (hb : BitVec 32)
      (key : BitVec 256) (me : BitVec 32) (mn : Fin 1024), s.fabricUp = true → s.rd STS_MGT_ROLE.ROLE ≠ 0 →
    s.mgr.mgrEpoch ≤ me.toNat → s.maint.active.any (fun l => decide (l.kind = 7)) = true → (∀ l, w ≠ .tagCaps l) →
    ∃ t, exec (.tableWrite epoch w role lead sub hb key me mn) s = .next t
      ∧ t.fabric = { s.fabric with waiting := s.fabric.waiting ++ [(epoch, w)] } ∧ SameMemory s t)
  ∧ (∀ (s : State) (epoch : BitVec 32) (n : Fin 1024) (c : Fin 8193) (role : Fin 3) (lead sub : Bool) (hb : BitVec 32)
      (key : BitVec 256) (me : BitVec 32) (mn : Fin 1024), s.fabricUp = true → s.rd STS_MGT_ROLE.ROLE ≠ 0 →
    s.mgr.mgrEpoch = me.toNat → epoch.toNat ≤ s.mgr.epoch →
    ∃ t, exec (.tableWrite epoch (.tagCaps [(n, c)]) role lead sub hb key me mn) s = .next t ∧ t.peerCap n = c.val
      ∧ (∀ k, k ≠ n.val → t.peerCap k = s.peerCap k) ∧ t = { s with tags := { s.tags with caps := t.tags.caps } })
  ∧ (∀ (s : State) (epoch : BitVec 32) (w : TableWrite) (role : Fin 3) (lead sub : Bool) (hb : BitVec 32)
      (key : BitVec 256) (me : BitVec 32) (mn : Fin 1024), s.fabricUp = true → s.rd STS_MGT_ROLE.ROLE ≠ 0 →
    s.mgr.mgrEpoch < me.toNat → role ≠ 0 →
    ∃ t, exec (.tableWrite epoch w role lead sub hb key me mn) s = .next t ∧ t.isManager = false
      ∧ t.mgr.mgrEpoch = me.toNat ∧ t.mgr.managerNode = some mn.val
      ∧ t.rd STS_MGT_ROLE.MGR_EPOCH = me.toNat % 2 ^ STS_MGT_ROLE.MGR_EPOCH.width ∧ SameMemory s t ∧ t.rings = s.rings)
  ∧ (∀ (s : State) (epoch : BitVec 32) (w : TableWrite) (role : Fin 3) (lead sub : Bool) (hb : BitVec 32)
      (key : BitVec 256) (me : BitVec 32) (mn : Fin 1024), s.fabricUp = false
      ∨ (s.rd STS_MGT_ROLE.ROLE = 0 ∧ s.mgr.pending = none) ∨ me.toNat < s.mgr.mgrEpoch →
    exec (.tableWrite epoch w role lead sub hb key me mn) s = .next s)
  ∧ (∀ (s : State) (node : Fin 1024) (m : Member), s.quietManager → Tab.look s.mgr.members node = some m →
    node.val ≠ s.node → s.mayLeave node = true →
    ∃ t, exec (.leaveRequest node) s = .next t ∧ Tab.look t.mgr.members node = none
      ∧ (∀ n, n ≠ node.val → Tab.look t.mgr.members n = Tab.look s.mgr.members n) ∧ t.mgr.queue = []
      ∧ t.mgr.epoch = (s.mgr.epoch + 1) % 2 ^ 32 ∧ t.maint = s.maint ∧ SameMemory s t ∧ t.rings = s.rings
      ∧ t.fabric = s.fabric ∧ OtherFields s t [STS_MGT_ROLE.LEAD.key])
  ∧ (∀ (s : State) (node : Fin 1024) (m : Member), s.quietManager → Tab.look s.mgr.members node = some m →
    node.val ≠ s.node → s.mayLeave node = false →
    ∃ t, exec (.leaveRequest node) s = .next t
      ∧ t.mgr = { s.mgr with
          queue := [.leave node.val]
          substituting := if m.role = 1 ∧ s.spareOf m.copse ≠ none ∧ node.val ∉ s.mgr.substituting
            then s.mgr.substituting ++ [node.val] else s.mgr.substituting }
      ∧ (m.role = 1 → s.spareOf m.copse ≠ none → node.val ∉ s.mgr.substituting → t.hasLock substLock = true)
      ∧ t = { s with regs := t.regs, mgr := t.mgr, maint := t.maint } ∧ OtherFields s t [])
  ∧ (∀ (s : State) (node : Fin 1024), s.isManager = false → s.rd STS_MGT_ROLE.ROLE ≠ 0 → node.val = s.node →
    ∃ t, exec (.leaveRequest node) s = .next t ∧ t.mgr = { s.mgr with leaving := true }
      ∧ t = { s with mgr := t.mgr, ports := t.ports, out := t.out })
  ∧ (∀ (s : State) (node : Fin 1024),
    (s.isManager = true ∧ (Tab.look s.mgr.members node = none ∨ node.val = s.node))
      ∨ (s.isManager = false ∧ (s.rd STS_MGT_ROLE.ROLE = 0 ∨ node.val ≠ s.node)) →
    exec (.leaveRequest node) s = .next s)
  ∧ (∀ (s : State), ∃ t, exec .joinHello s = .next t ∧ Rest s t [.draws, .out, .regs, .fabric, .ports])
  ∧ (∀ (s : State) (devId : BitVec 64) (partners : List (Fin 1024)), ∃ t, exec (.joinReq devId partners) s = .next t ∧
    Rest s t [.draws, .out, .regs, .ports, .mgr, .maint])
  ∧ (∀ (s : State) (devId : BitVec 64) (copse : Nat) (partners : List (Fin 1024)), ∃ t, exec (.joinForward devId copse
    partners) s = .next t ∧ Rest s t [.draws, .out, .regs, .ports, .mgr, .maint])
  ∧ (∀ (s : State) (devId : BitVec 64) (status : Fin 7) (node : Fin 1024) (spare : Bool) (manager : Fin 1024) (copse :
    Nat) (key : BitVec 256), ∃ t, exec (.joinAnswer devId status node spare manager copse key) s = .next t ∧ Rest s t
    [.draws, .out, .regs, .engines, .plots, .matJobs, .vecJobs, .fabric, .ports, .tags, .mgr, .pcie, .sec, .cores])
  ∧ (∀ (s : State) (epoch : BitVec 32) (table : TableWrite) (role : Fin 3) (lead substituted : Bool) (hb : BitVec 32)
    (key : BitVec 256) (mgrEpoch : BitVec 32) (mgrNode : Fin 1024), ∃ t, exec (.tableWrite epoch table role lead
    substituted hb key mgrEpoch mgrNode) s = .next t ∧ Rest s t [.out, .regs, .fabric, .tags, .mgr, .pcie])
  ∧ (∀ (s : State) (node : Fin 1024), ∃ t, exec (.leaveRequest node) s = .next t ∧ Rest s t [.draws, .out, .regs,
    .ports, .mgr, .maint])

/-- R317, R318, R449, R462: once per period a joined device sends its heartbeat with its sequence number and fault summary
on up to two ports of its route; the manager notes each, and at the fifth empty window of 0.95 periods, or on
DEVICE_DOWN, declares the device failed; a device that a FENCE names holds back all but admission and control flits and
is unassigned; a lead passes on a FENCE for another.  Before the period ends, or on a device without the part that the
command is for, there is no effect.  Each of the five commands answers a next state in every state, and every part of
the state but those listed is as before. -/
def Obligations.SilentDevicesAreFenced : Prop :=
  (∀ (s : State) (m : Nat), s.mgr.managerNode = some m → s.fabricUp = true → s.rd STS_MGT_ROLE.ROLE ≠ 0 → m ≠ s.node →
    s.mgr.fencedSelf = false → s.past s.mgr.hbAt s.hbPeriod = true →
    ∃ t, exec .heartbeatSend s = .next t ∧ t.mgr = { s.mgr with hbSeq := (s.mgr.hbSeq + 1) % 2 ^ 32, hbAt := s.now }
      ∧ (∀ p ∈ ((s.routeOf m).filter (s.reaches m)).take 2,
          Out.control p (.heartbeat s.mgr.hbSeq s.faultSummary) ∈ t.out)
      ∧ t = { s with mgr := t.mgr, ports := t.ports, out := t.out })
  ∧ (∀ (s : State), s.mgr.managerNode = none ∨ s.mgr.managerNode = some s.node ∨ s.fabricUp = false
      ∨ s.rd STS_MGT_ROLE.ROLE = 0 ∨ s.mgr.fencedSelf = true ∨ s.past s.mgr.hbAt s.hbPeriod = false →
    exec .heartbeatSend s = .next s)
  ∧ (∀ (s : State) (node : Fin 1024) (summary : BitVec 32) (m : Member), s.isManager = true →
    Tab.look s.mgr.members node = some m →
    ∃ t, exec (.heartbeat node summary) s = .next t
      ∧ Tab.look t.mgr.members node = some { m with window := true, summary := summary.toNat }
      ∧ (∀ n, n ≠ node.val → Tab.look t.mgr.members n = Tab.look s.mgr.members n)
      ∧ t = { s with mgr := { s.mgr with members := t.mgr.members } })
  ∧ (∀ (s : State) (node : Fin 1024) (summary : BitVec 32), s.isManager = false
      ∨ Tab.look s.mgr.members node = none → exec (.heartbeat node summary) s = .next s)
  ∧ (∀ (s : State), s.isManager = true → s.past s.mgr.windowAt (s.hbPeriod * 95 / 100) = true →
    Tab.rises s.mgr.members 0 = true →
    ∃ t, exec .heartbeatWindow s = .next t ∧ SameMemory s t ∧ t.rings = s.rings ∧ t.mgr.windowAt = s.now
      ∧ (∀ n m, Tab.look s.mgr.members n = some m → n ≠ s.node → m.failed = false → m.window = true →
          Tab.look t.mgr.members n = some { m with window := false, empty := 0 })
      ∧ (∀ n m, Tab.look s.mgr.members n = some m → n ≠ s.node → m.failed = false → m.window = false →
          m.empty + 1 < 5 → Tab.look t.mgr.members n = some { m with empty := m.empty + 1 })
      ∧ (∀ n m, Tab.look s.mgr.members n = some m → n ≠ s.node → m.failed = false → m.window = false →
          5 ≤ m.empty + 1 → (Tab.look t.mgr.members n).any (fun m => m.failed) = true ∧ n ∈ t.mgr.substituting)
      ∧ (∀ n m, Tab.look s.mgr.members n = some m → n = s.node ∨ m.failed = true → Tab.look t.mgr.members n = some m))
  ∧ (∀ (s : State), s.isManager = false ∨ s.past s.mgr.windowAt (s.hbPeriod * 95 / 100) = false →
    exec .heartbeatWindow s = .next s)
  ∧ (∀ (s : State) (node : Fin 1024) (m : Member), s.isManager = true → Tab.look s.mgr.members node = some m →
    m.failed = false →
    ∃ t, exec (.deviceDown node) s = .next t ∧ Tab.look t.mgr.members node = some { m with failed := true }
      ∧ (∀ n, n ≠ node.val → Tab.look t.mgr.members n = Tab.look s.mgr.members n)
      ∧ t.mgr.substituting = s.mgr.substituting ++ [node.val] ∧ substLock ∈ t.maint.active ++ t.maint.waiting
      ∧ SameMemory s t ∧ t.rings = s.rings ∧ OtherFields s t [])
  ∧ (∀ (s : State) (node : Fin 1024), s.isManager = false
      ∨ (∀ m, Tab.look s.mgr.members node = some m → m.failed = true) → exec (.deviceDown node) s = .next s)
  ∧ (∀ (s : State) (node : Fin 1024), s.rd STS_MGT_ROLE.ROLE ≠ 0 → node.val = s.node →
    ∃ t, exec (.fenceFrame node) s = .next t ∧ t.mgr.fencedSelf = true ∧ t.mgr.managerNode = none
      ∧ t.mgr.copseKey = none ∧ t.rd STS_MGT_ROLE.ROLE = 0 ∧ t.rd STS_MGT_ROLE.NODE = 0
      ∧ t.rd STS_MGT_ROLE.MGR_ROLE = 0 ∧ (∀ p, ∀ f ∈ (t.port p).link.queue, f.old = true ∨ f.typ ≤ 2)
      ∧ SameMemory s t ∧ t.rings = s.rings)
  ∧ (∀ (s : State) (node : Fin 1024), s.rd STS_MGT_ROLE.ROLE ≠ 0 → node.val ≠ s.node → s.rd STS_MGT_ROLE.LEAD = 1 →
    ∃ t, exec (.fenceFrame node) s = .next t ∧ Out.segment (some node.val) (.fence node) ∈ t.out
      ∧ t = { s with mac := t.mac, out := t.out })
  ∧ (∀ (s : State) (node : Fin 1024), s.rd STS_MGT_ROLE.ROLE = 0
      ∨ (node.val ≠ s.node ∧ s.rd STS_MGT_ROLE.LEAD ≠ 1) → exec (.fenceFrame node) s = .next s)
  ∧ (∀ (s : State), ∃ t, exec .heartbeatSend s = .next t ∧ Rest s t [.out, .ports, .mgr])
  ∧ (∀ (s : State) (node : Fin 1024) (summary : BitVec 32), ∃ t, exec (.heartbeat node summary) s = .next t ∧ Rest s t
    [.mgr])
  ∧ (∀ (s : State), ∃ t, exec .heartbeatWindow s = .next t ∧ Rest s t [.out, .regs, .ports, .mgr, .mac, .maint])
  ∧ (∀ (s : State) (node : Fin 1024), ∃ t, exec (.fenceFrame node) s = .next t ∧ Rest s t [.out, .regs, .host,
    .engines, .rings, .plots, .matJobs, .vecJobs, .fabric, .ports, .tags, .mgr, .mac, .cores, .power])
  ∧ (∀ (s : State) (node : Fin 1024), ∃ t, exec (.deviceDown node) s = .next t ∧ Rest s t [.out, .regs, .ports, .mgr,
    .mac, .maint])

/-- R311, R312, R319, R320, R321, R449, R459 to R461: the manager's heartbeat names its standby and keeps it; five empty
windows start a poll of the copse leads, and a majority of silent ones within 5 ms, or STAND_DOWN, makes the standby the
manager at the next manager epoch, else it reports its isolation; a manager of a higher epoch, or of this one with a
lower identity, is followed, and pending requests go to it; an authorisation lets a hostile port requalify once; under
the system lock a spare takes the place of the oldest failed worker in each of its leases.  On a device without the
part that the command is for, or before its period ends, there is no effect.  Each of the nine commands answers a next
state in every state, and every part of the state but those listed is as before. -/
def Obligations.TheStandbyTakesOver : Prop :=
  (∀ (s : State) (n : Nat), s.mgr.standby = some n → s.isManager = true → s.past s.mgr.mgrHbAt s.mgrPeriod = true →
    ∃ t, exec .managerHeartbeat s = .next t ∧ t.mgr = { s.mgr with mgrHbAt := s.now }
      ∧ t = { s with mgr := t.mgr, ports := t.ports, out := t.out })
  ∧ (∀ (s : State), s.mgr.standby = none ∨ s.isManager = false ∨ s.past s.mgr.mgrHbAt s.mgrPeriod = false →
    exec .managerHeartbeat s = .next s)
  ∧ (∀ (s : State) (node : Fin 1024) (me e : BitVec 32) (l : List (Fin 1024 × BitVec 64 × Nat × Fin 3))
      (k : List (BitVec 32 × List (Fin 1024))), s.isManager = false → s.rd STS_MGT_ROLE.ROLE ≠ 0 →
    s.mgr.mgrEpoch ≤ me.toNat →
    ∃ t, exec (.managerHeartbeatArrive node me e l k) s = .next t ∧ t.rd STS_MGT_ROLE.MGR_ROLE = 2
      ∧ t.mgr.mgrEpoch = me.toNat ∧ t.mgr.managerNode = some node.val ∧ t.mgr.mgrWindow = true
      ∧ t.mgr.epoch = max s.mgr.epoch e.toNat
      ∧ (∀ n, (∀ q ∈ l, q.1.val ≠ n) → Tab.look t.mgr.members n = none)
      ∧ (∀ q, l = [q] → Tab.look t.mgr.members q.1 = some { devId := q.2.1.toNat, copse := q.2.2.1, role := q.2.2.2 })
      ∧ (∀ q, k = [q] → Tab.val t.mgr.leases q.1.toNat = q.2.map (fun n => n.val))
      ∧ FieldsKept s t [STS_MGT_ROLE.MGR_ROLE.key, STS_MGT_ROLE.MGR_EPOCH.key] ∧ t = { s with regs := t.regs, mgr := t.mgr })
  ∧ (∀ (s : State) (node : Fin 1024) (me e : BitVec 32) (l : List (Fin 1024 × BitVec 64 × Nat × Fin 3))
      (k : List (BitVec 32 × List (Fin 1024))), s.isManager = true → s.mgr.mgrEpoch < me.toNat →
    ∃ t, exec (.managerHeartbeatArrive node me e l k) s = .next t ∧ t.rd STS_MGT_ROLE.MGR_ROLE = 0
      ∧ t.mgr = { s.mgr with mgrEpoch := me.toNat, managerNode := some node.val }
      ∧ FieldsKept s t [STS_MGT_ROLE.MGR_ROLE.key, STS_MGT_ROLE.MGR_EPOCH.key] ∧ t = { s with regs := t.regs, mgr := t.mgr })
  ∧ (∀ (s : State) (node : Fin 1024) (me e : BitVec 32) (l : List (Fin 1024 × BitVec 64 × Nat × Fin 3))
      (k : List (BitVec 32 × List (Fin 1024))), (s.isManager = true ∧ me.toNat ≤ s.mgr.mgrEpoch)
      ∨ (s.isManager = false ∧ (s.rd STS_MGT_ROLE.ROLE = 0 ∨ me.toNat < s.mgr.mgrEpoch)) →
    exec (.managerHeartbeatArrive node me e l k) s = .next s)
  ∧ (∀ (s : State), s.rd STS_MGT_ROLE.MGR_ROLE = 2 → s.mgr.polling = false →
    s.past s.mgr.mgrWindowAt (s.mgrPeriod * 95 / 100) = true → s.mgr.mgrWindow = true →
    exec .standbyWindow s = .next { s with mgr := { s.mgr with mgrWindow := false, mgrEmpty := 0, mgrWindowAt := s.now } })
  ∧ (∀ (s : State), s.rd STS_MGT_ROLE.MGR_ROLE = 2 → s.mgr.polling = false →
    s.past s.mgr.mgrWindowAt (s.mgrPeriod * 95 / 100) = true → s.mgr.mgrWindow = false → s.mgr.mgrEmpty + 1 < 5 →
    exec .standbyWindow s = .next { s with mgr := { s.mgr with mgrEmpty := s.mgr.mgrEmpty + 1, mgrWindowAt := s.now } })
  ∧ (∀ (s : State), s.rd STS_MGT_ROLE.MGR_ROLE = 2 → s.mgr.polling = false →
    s.past s.mgr.mgrWindowAt (s.mgrPeriod * 95 / 100) = true → s.mgr.mgrWindow = false → 5 ≤ s.mgr.mgrEmpty + 1 →
    ∃ t, exec .standbyWindow s = .next t ∧ t.mgr.polling = true ∧ t.mgr.pollAt = s.now ∧ t.mgr.leads = s.knownLeads
      ∧ t.mgr.silent = s.knownLeads.filter (fun n => decide (n = s.node))
      ∧ t = { s with mgr := t.mgr, ports := t.ports, out := t.out })
  ∧ (∀ (s : State), s.rd STS_MGT_ROLE.MGR_ROLE ≠ 2 ∨ s.mgr.polling = true
      ∨ s.past s.mgr.mgrWindowAt (s.mgrPeriod * 95 / 100) = false → exec .standbyWindow s = .next s)
  ∧ (∀ (s : State) (node : Fin 1024) (silent : Bool) (p : Nat), s.rd STS_MGT_ROLE.LEAD = 1 → s.mgr.fencedSelf = false →
    s.pickPort node (s.routeOf node) = some p →
    ∃ t, exec (.leadPoll node silent) s = .next t ∧ Out.control p (.pollAnswer silent) ∈ t.out
      ∧ t = { s with ports := t.ports, out := t.out } ∧ OtherPorts s t p)
  ∧ (∀ (s : State) (node : Fin 1024) (silent : Bool), s.rd STS_MGT_ROLE.LEAD ≠ 1 →
    exec (.leadPoll node silent) s = .next s)
  ∧ (∀ (s : State) (node : Fin 1024), s.mgr.polling = true → node.val ∈ s.mgr.leads → s.now ≤ s.mgr.pollAt + 5 * perMs →
    exec (.pollAnswer node true) s = .next { s with mgr := { s.mgr with silent := addAsc node s.mgr.silent } })
  ∧ (∀ (s : State) (node : Fin 1024) (silent : Bool), s.mgr.polling = false ∨ node.val ∉ s.mgr.leads ∨ silent = false
      ∨ s.mgr.pollAt + 5 * perMs < s.now → exec (.pollAnswer node silent) s = .next s)
  ∧ (∀ (s : State), s.mgr.polling = true → s.past s.mgr.pollAt (5 * perMs) = true →
    s.mgr.leads.length < 2 * s.mgr.silent.length → s.mgr.queue = [] →
    ∃ t, exec .pollTimeout s = .next t ∧ TakesOver s t)
  ∧ (∀ (s : State), s.mgr.polling = true → s.past s.mgr.pollAt (5 * perMs) = true →
    2 * s.mgr.silent.length ≤ s.mgr.leads.length →
    ∃ t, exec .pollTimeout s = .next t ∧ t.mgr = { s.mgr with polling := false, mgrEmpty := 0 }
      ∧ (0 ∈ (Tab.val s.pcie.funcs 0).unmasked → (Tab.val s.pcie.funcs 0).d3 = false → Out.msix 0 0 ∈ t.out)
      ∧ t = { s with mgr := t.mgr, out := t.out, pcie := t.pcie })
  ∧ (∀ (s : State), s.mgr.polling = false ∨ s.past s.mgr.pollAt (5 * perMs) = false → exec .pollTimeout s = .next s)
  ∧ (∀ (s : State) (node : Fin 1024) (e : BitVec 32) (id : BitVec 64), s.mgr.mgrEpoch < e.toNat
      ∨ (e.toNat = s.mgr.mgrEpoch ∧ (s.isManager = false ∨ id.toNat < s.deviceId)) →
    ∃ t, exec (.managerAnnounce node e id) s = .next t ∧ t.isManager = false ∧ t.mgr.mgrEpoch = e.toNat
      ∧ t.mgr.managerNode = some node.val ∧ t.mgr.members = s.mgr.members
      ∧ (s.rd STS_MGT_ROLE.MGR_ROLE = 2 → s.mgr.managerNode ≠ some node.val → t.rd STS_MGT_ROLE.MGR_ROLE = 0)
      ∧ (∀ a ∈ s.mgr.answers, ∃ u ∈ t.tags.used ++ t.tags.waiting, u.kind = 3 ∧ u.idx = 1 + a.1 ∧ u.peer = some node.val)
      ∧ (s.mgr.joining = true → ∃ u ∈ t.tags.used ++ t.tags.waiting, u.kind = 3 ∧ u.idx = 0)
      ∧ SameMemory s t ∧ t.rings = s.rings
      ∧ FieldsKept s t ([STS_MGT_ROLE.MGR_ROLE.key, STS_MGT_ROLE.MGR_EPOCH.key] ++ tagKeys))
  ∧ (∀ (s : State) (node : Fin 1024) (e : BitVec 32) (id : BitVec 64), e.toNat < s.mgr.mgrEpoch
      ∨ (e.toNat = s.mgr.mgrEpoch ∧ s.isManager = true ∧ s.deviceId ≤ id.toNat) →
    exec (.managerAnnounce node e id) s = .next s)
  ∧ (∀ (s : State) (port : Fin 24) (node : Fin 1024), s.rd (LNK_PORT_STS.CAUSE port) = 3 →
    s.rd (LNK_PORT_STS.PARTNER port) = node.val →
    ∃ t, exec (.requalAuth none port node) s = .next t ∧ t.requalAuthorised port = true ∧ OnlyPort s t port [])
  ∧ (∀ (s : State) (port : Fin 24) (node : Fin 1024), s.rd (LNK_PORT_STS.CAUSE port) ≠ 3
      ∨ s.rd (LNK_PORT_STS.PARTNER port) ≠ node.val → exec (.requalAuth none port node) s = .next s)
  ∧ (∀ (s : State) (d : Fin 1024) (port : Fin 24) (node : Fin 1024), s.isManager = true → d.val = s.node →
    exec (.requalAuth (some d) port node) s = exec (.requalAuth none port node) s)
  ∧ (∀ (s : State) (d : Fin 1024) (port : Fin 24) (node : Fin 1024) (p : Nat), s.isManager = true → d.val ≠ s.node →
    s.pickPort d (s.routeOf d) = some p → s.mgr.fencedSelf = false →
    ∃ t, exec (.requalAuth (some d) port node) s = .next t ∧ Out.control p (.requalAuth port node) ∈ t.out
      ∧ t = { s with ports := t.ports, out := t.out } ∧ OtherPorts s t p)
  ∧ (∀ (s : State) (d : Fin 1024) (port : Fin 24) (node : Fin 1024), s.isManager = false →
    exec (.requalAuth (some d) port node) s = .next s)
  ∧ (∀ (s : State), s.rd STS_MGT_ROLE.MGR_ROLE = 2 → s.mgr.queue = [] →
    ∃ t, exec .standDown s = .next t ∧ TakesOver s t)
  ∧ (∀ (s : State), s.rd STS_MGT_ROLE.MGR_ROLE ≠ 2 → exec .standDown s = .next s)
  ∧ (∀ (s : State) (n k : Nat) (rest : List Nat) (m : Member), s.mgr.substituting = n :: rest → s.isManager = true →
    s.hasLock substLock = true → s.mgr.queue = [] → Tab.rises s.mgr.members 0 = true → Tab.rises s.mgr.leases 0 = true →
    Tab.look s.mgr.members n = some m → m.role = 1 → s.spareOf m.copse = some k →
    ∃ t, exec .spareSubstitution s = .next t ∧ (m.failed = true → Tab.look t.mgr.members n = none)
      ∧ (m.failed = false → Tab.look t.mgr.members n = some { m with role := 2 })
      ∧ (Tab.look t.mgr.members k).any (fun q => decide (q.role = 1)) = true ∧ t.mgr.substituting = rest
      ∧ (∀ e ∈ s.leasesOf n, Tab.val t.mgr.leases e.1 = e.2.map (fun x => if x = n then k else x))
      ∧ t.mgr.epoch = (s.mgr.epoch + 1) % 2 ^ 32 ∧ SameMemory s t ∧ t.rings = s.rings)
  ∧ (∀ (s : State) (n : Nat) (rest : List Nat) (m : Member), s.mgr.substituting = n :: rest → s.isManager = true →
    s.hasLock substLock = true → s.mgr.queue = [] → Tab.look s.mgr.members n = some m →
    m.role ≠ 1 ∨ s.spareOf m.copse = none →
    ∃ t, exec .spareSubstitution s = .next t ∧ (m.failed = true → Tab.look t.mgr.members n = none)
      ∧ t.mgr.substituting = rest ∧ t.mgr.epoch = (s.mgr.epoch + 1) % 2 ^ 32 ∧ SameMemory s t ∧ t.rings = s.rings)
  ∧ (∀ (s : State), s.mgr.substituting = [] ∨ s.isManager = false ∨ s.hasLock substLock = false →
    exec .spareSubstitution s = .next s)
  ∧ (∀ (s : State), ∃ t, exec .managerHeartbeat s = .next t ∧ Rest s t [.out, .ports, .mgr])
  ∧ (∀ (s : State), ∃ t, exec .standbyWindow s = .next t ∧ Rest s t [.out, .ports, .mgr])
  ∧ (∀ (s : State) (node : Fin 1024) (silent : Bool), ∃ t, exec (.leadPoll node silent) s = .next t ∧ Rest s t [.out,
    .ports])
  ∧ (∀ (s : State), ∃ t, exec .pollTimeout s = .next t ∧ Rest s t [.draws, .out, .regs, .ports, .mgr, .pcie, .maint])
  ∧ (∀ (s : State) (node : Fin 1024) (mgrEpoch : BitVec 32) (devId : BitVec 64), ∃ t, exec (.managerAnnounce node
    mgrEpoch devId) s = .next t ∧ Rest s t [.out, .regs, .host, .rings, .fabric, .ports, .tags, .mgr, .power])
  ∧ (∀ (s : State) (target : Option (Fin 1024)) (port : Fin 24) (node : Fin 1024), ∃ t, exec (.requalAuth target port
    node) s = .next t ∧ Rest s t [.out, .ports])
  ∧ (∀ (s : State), ∃ t, exec .standDown s = .next t ∧ Rest s t [.draws, .out, .regs, .ports, .mgr, .maint])
  ∧ (∀ (s : State), ∃ t, exec .spareSubstitution s = .next t ∧ Rest s t [.draws, .out, .regs, .flash, .engines,
    .plots, .matJobs, .vecJobs, .fabric, .ports, .tags, .mgr, .pcie, .sec, .cores, .maint])
  ∧ (∀ (s : State) (node : Fin 1024) (mgrEpoch epoch : BitVec 32) (members : List (Fin 1024 × BitVec 64 × Nat × Fin
    3)) (leases : List (BitVec 32 × List (Fin 1024))), ∃ t, exec (.managerHeartbeatArrive node mgrEpoch epoch members
    leases) s = .next t ∧ Rest s t [.regs, .mgr])
  ∧ (∀ (s : State) (node : Fin 1024) (silent : Bool), ∃ t, exec (.pollAnswer node silent) s = .next t ∧ Rest s t
    [.mgr])

/-- R323, R324, R327, R337 to R340, R473: training, or a change of a link that is up, shows rate and width; a loss of the
link, a hot reset, an FLR or a fatal error of the physical function resets every bound plot and clears rings and VF
Enable; an FLR of a virtual function resets its plot; D3hot stops a function, after an FLR where it holds work, and D0
lets it work again.  Without a link, or for a function that does not exist, there is no effect.  Each of the nine
commands answers a next state in every state, and every part of the state but those listed is as before. -/
def Obligations.PcieResetsPlotsAndFunctions : Prop :=
  (∀ (s : State) (rate width : Fin 5), s.pcie.training = true ∨ s.rd STS_PCIE_LINK.UP = 1 → s.glob.perstLow = false →
    s.loopLocked 0 = true →
    ∃ t, exec (.pcieLinkUp rate width) s = .next t ∧ t.rd STS_PCIE_LINK.UP = 1 ∧ t.rd STS_PCIE_LINK.RATE = rate.val + 1
      ∧ t.rd STS_PCIE_LINK.WIDTH = 2 ^ width.val ∧ t.pcie = { s.pcie with training := false }
      ∧ t = { s with regs := t.regs, pcie := t.pcie }
      ∧ FieldsKept s t [STS_PCIE_LINK.UP.key, STS_PCIE_LINK.RATE.key, STS_PCIE_LINK.WIDTH.key, STS_PCIE_LINK.REFMODE.key])
  ∧ (∀ (s : State) (rate width : Fin 5), (s.pcie.training = false ∧ s.rd STS_PCIE_LINK.UP ≠ 1) ∨ s.glob.perstLow = true
      ∨ s.loopLocked 0 = false → exec (.pcieLinkUp rate width) s = .next s)
  ∧ (∀ (s : State), 1 ≤ s.rd CTL_BRINGUP_STS.PHASE → s.glob.perstLow = false →
    exec .configurationRequestsAnswered s = .next { s with pcie := { s.pcie with answering := true } })
  ∧ (∀ (s : State), s.rd CTL_BRINGUP_STS.PHASE = 0 ∨ s.glob.perstLow = true →
    exec .configurationRequestsAnswered s = .next s)
  ∧ (∀ (s : State), s.rd STS_PCIE_LINK.UP = 1 →
    (∃ t, exec .pcieLinkDown s = .next t ∧ t.rd STS_PCIE_LINK.UP = 0 ∧ t.rd STS_PCIE_LINK.RATE = 0
      ∧ t.rd STS_PCIE_LINK.WIDTH = 0 ∧ t.pcie.training = (!s.glob.perstLow && !s.glob.dormant) ∧ ResetsFunctions s t)
    ∧ ∃ t, exec .hotReset s = .next t ∧ t.rd STS_PCIE_LINK.UP = 1 ∧ ResetsFunctions s t)
  ∧ (∀ (s : State) (down : Bool), s.rd STS_PCIE_LINK.UP = 1 →
    ∃ t, exec (.pcieFatalError down) s = .next t ∧ t.waitsForCore1 24 6 ∧ t.pcie.fatal = s.pcie.fatal + 1
      ∧ t.rd STS_PCIE_LINK.UP = (if down then 0 else 1) ∧ ResetsFunctions s t)
  ∧ (∀ (s : State) (down : Bool), s.rd STS_PCIE_LINK.UP ≠ 1 → exec .pcieLinkDown s = .next s
    ∧ exec .hotReset s = .next s ∧ exec (.pcieFatalError down) s = .next s)
  ∧ (∀ (s : State) (vf : Fin 64), s.configOpen = true → s.pcie.vfEnable = true → 1 ≤ vf.val → vf.val ≤ s.pcie.numVfs →
    ∃ t, exec (.vfFlr vf) s = .next t
      ∧ (∀ p, p < 64 → s.plotState p = plotBOUND → s.rd (PLOT_FUNC.VF p) = vf.val → t.plotState p = plotRESETTING
          ∧ ((t.plot p).reset.any (fun r => r.clear && r.flr)) = true)
      ∧ (∀ p, p < 64 → s.rd (PLOT_FUNC.VF p) ≠ vf.val → t.plotState p = s.plotState p)
      ∧ SameMemory s t ∧ t.rings = s.rings)
  ∧ (∀ (s : State) (vf : Fin 64), s.configOpen = false ∨ s.pcie.vfEnable = false ∨ vf.val = 0
      ∨ s.pcie.numVfs < vf.val → exec (.vfFlr vf) s = .next s)
  ∧ (∀ (s : State), s.configOpen = true → ∃ t, exec .pfFlr s = .next t ∧ ResetsFunctions s t)
  ∧ (∀ (s : State), s.configOpen = false → exec .pfFlr s = .next s)
  ∧ (∀ (s : State) (f : Fin 64), s.configOpen = true → f.val = 0 ∨ (s.pcie.vfEnable = true ∧ f.val ≤ s.pcie.numVfs) →
    s.holdsWork f = false →
    ∃ t, exec (.d3hotEntry f) s = .next t ∧ (Tab.val t.pcie.funcs f).d3 = true
      ∧ (∀ g, g ≠ f.val → Tab.val t.pcie.funcs g = Tab.val s.pcie.funcs g) ∧ t = { s with pcie := t.pcie })
  ∧ (∀ (s : State) (f : Fin 64), s.configOpen = true → s.pcie.vfEnable = true → f.val ≤ s.pcie.numVfs → f.val ≠ 0 →
    s.holdsWork f = true →
    ∃ t, exec (.d3hotEntry f) s = .next t ∧ (Tab.val t.pcie.funcs f).d3 = true ∧ SameMemory s t ∧ t.rings = s.rings
      ∧ (∀ p, p < 64 → s.plotState p = plotBOUND → s.rd (PLOT_FUNC.VF p) = f.val → t.plotState p = plotRESETTING))
  ∧ (∀ (s : State), s.configOpen = true → s.holdsWork 0 = true →
    ∃ t, exec (.d3hotEntry 0) s = .next t ∧ (Tab.val t.pcie.funcs 0).d3 = true ∧ ResetsFunctions s t)
  ∧ (∀ (s : State) (f : Fin 64), s.configOpen = false ∨ (f.val ≠ 0 ∧ (s.pcie.vfEnable = false ∨ s.pcie.numVfs < f.val)) →
    exec (.d3hotEntry f) s = .next s)
  ∧ (∀ (s : State) (f : Fin 64), s.configOpen = true →
    ∃ t, exec (.d0Entry f) s = .next t ∧ (Tab.val t.pcie.funcs f).d3 = false
      ∧ (∀ g, g ≠ f.val → Tab.val t.pcie.funcs g = Tab.val s.pcie.funcs g) ∧ t = { s with pcie := t.pcie })
  ∧ (∀ (s : State) (f : Fin 64), s.configOpen = false → exec (.d0Entry f) s = .next s)
  ∧ (∀ (s : State) (rate : Fin 5) (width : Fin 5), ∃ t, exec (.pcieLinkUp rate width) s = .next t ∧ Rest s t [.regs,
    .pcie])
  ∧ (∀ (s : State), ∃ t, exec .configurationRequestsAnswered s = .next t ∧ Rest s t [.pcie])
  ∧ (∀ (s : State), ∃ t, exec .pcieLinkDown s = .next t ∧ Rest s t [.draws, .out, .regs, .flash, .engines, .rings,
    .plots, .matJobs, .vecJobs, .fabric, .ports, .tags, .mgr, .pcie, .sec, .cores])
  ∧ (∀ (s : State), ∃ t, exec .hotReset s = .next t ∧ Rest s t [.draws, .out, .regs, .flash, .engines, .rings, .plots,
    .matJobs, .vecJobs, .fabric, .ports, .tags, .mgr, .pcie, .sec, .cores])
  ∧ (∀ (s : State) (vf : Fin 64), ∃ t, exec (.vfFlr vf) s = .next t ∧ Rest s t [.draws, .out, .regs, .engines, .plots,
    .matJobs, .vecJobs, .fabric, .ports, .tags, .mgr, .pcie, .sec, .cores])
  ∧ (∀ (s : State), ∃ t, exec .pfFlr s = .next t ∧ Rest s t [.draws, .out, .regs, .flash, .engines, .rings, .plots,
    .matJobs, .vecJobs, .fabric, .ports, .tags, .mgr, .pcie, .sec, .cores])
  ∧ (∀ (s : State) (func : Fin 64), ∃ t, exec (.d3hotEntry func) s = .next t ∧ Rest s t [.draws, .out, .regs, .flash,
    .engines, .rings, .plots, .matJobs, .vecJobs, .fabric, .ports, .tags, .mgr, .pcie, .sec, .cores])
  ∧ (∀ (s : State) (func : Fin 64), ∃ t, exec (.d0Entry func) s = .next t ∧ Rest s t [.pcie])
  ∧ (∀ (s : State) (down : Bool), ∃ t, exec (.pcieFatalError down) s = .next t ∧ Rest s t [.draws, .out, .regs,
    .flash, .engines, .rings, .plots, .matJobs, .vecJobs, .fabric, .ports, .tags, .mgr, .pcie, .sec, .cores, .faults])

/-- R333, R341, R402, R404, R407, R450: unmasking a vector sends its pending message once; each DOE and SPDM request is
taken, and answered with the next tick, unless an object is in progress, which then shows DOE Busy; slot 0 alone holds a
chain, and what the identity key signs is refused with it; an abort ends the object.  That the answer comes with the
tick is the model's choice (log 188).  Each of the ten commands answers a next state in every state, and every part of the
state but those listed is as before. -/
def Obligations.VectorsAndTheMailboxAnswer : Prop :=
  (∀ (s : State) (func : Fin 64) (v : Fin 2048), s.funcUp func = true → v.val < vectorsOf func →
    ∃ t, exec (.msixUnmask func v) s = .next t ∧ v.val ∈ (Tab.val t.pcie.funcs func).unmasked
      ∧ v.val ∉ (Tab.val t.pcie.funcs func).pend
      ∧ t.out = (if v.val ∈ (Tab.val s.pcie.funcs func).pend then .msix func v :: s.out else s.out)
      ∧ (∀ f, f ≠ func.val → Tab.val t.pcie.funcs f = Tab.val s.pcie.funcs f)
      ∧ t = { s with pcie := t.pcie, out := t.out })
  ∧ (∀ (s : State) (func : Fin 64) (v : Fin 2048), s.funcUp func = false ∨ vectorsOf func ≤ v.val →
    exec (.msixUnmask func v) s = .next s)
  ∧ TakesObject .doeDiscovery (fun _ => .discovery) ∧ TakesObject .getVersion (fun _ => .version)
  ∧ TakesObject .getCapabilities (fun _ => .capabilities) ∧ TakesObject .negotiateAlgorithms (fun _ => .algorithms)
  ∧ TakesObject .getDigests (fun _ => .digests)
  ∧ (∀ (slot : Fin 8) (start len : Nat), TakesObject (.getCertificate slot start len) (fun s =>
      if slot.val = 0 then .certificate ((s.flash.manufChain.drop start).take (min 1024 len)) else .error))
  ∧ (∀ (slot : Fin 8), TakesObject (.challenge slot) (fun s =>
      if slot.val = 0 ∧ s.sec.identityRefused = false then .challengeAuth else .error))
  ∧ TakesObject .getMeasurements (fun s => if s.sec.identityRefused = true then .error else .measurements s.sec.measured)
  ∧ (∀ (s : State) (a : Doe), s.pending = [] → s.glob.poweredOn = true → s.pcie.doeObject = some a →
    ∃ t, step s = .next t ∧ Out.doe a ∈ t.out ∧ t.pcie.doeObject = none ∧ t.pcie.doeBusy = false ∧ SameMemory s t
      ∧ t.rings = s.rings ∧ t.now = (s.now + 1) % 2 ^ 64)
  ∧ (∀ (s : State), s.configOpen = true →
    exec .doeAbort s = .next { s with pcie := { s.pcie with doeBusy := false, doeObject := none } })
  ∧ (∀ (s : State), s.configOpen = false → exec .doeAbort s = .next s)
  ∧ (∀ (s : State) (func : Fin 64) (vector : Fin 2048), ∃ t, exec (.msixUnmask func vector) s = .next t ∧ Rest s t
    [.out, .pcie])
  ∧ (∀ (s : State), ∃ t, exec .doeDiscovery s = .next t ∧ Rest s t [.pcie])
  ∧ (∀ (s : State), ∃ t, exec .doeAbort s = .next t ∧ Rest s t [.pcie])
  ∧ (∀ (s : State), ∃ t, exec .getVersion s = .next t ∧ Rest s t [.pcie])
  ∧ (∀ (s : State), ∃ t, exec .getCapabilities s = .next t ∧ Rest s t [.pcie])
  ∧ (∀ (s : State), ∃ t, exec .negotiateAlgorithms s = .next t ∧ Rest s t [.pcie])
  ∧ (∀ (s : State), ∃ t, exec .getDigests s = .next t ∧ Rest s t [.pcie])
  ∧ (∀ (s : State) (slot : Fin 8) (start len : Nat), ∃ t, exec (.getCertificate slot start len) s = .next t ∧ Rest s t
    [.pcie])
  ∧ (∀ (s : State) (slot : Fin 8), ∃ t, exec (.challenge slot) s = .next t ∧ Rest s t [.pcie])
  ∧ (∀ (s : State), ∃ t, exec .getMeasurements s = .next t ∧ Rest s t [.pcie])

/-- R332, R344, R345, R375, R482: a doorbell of the ring's function advances TAIL and wakes a device in Fallow under
AUTO_WAKE, one of another function is refused and counted, one out of range counts in DB_ERR, a bad one is dropped and is
PCIE_NONFATAL; ENABLE starts a ring whose function, plot and vector suit, at zero counts, or leaves it REFUSED; a ring
with nothing unretired is disabled, one that is disabled takes its set-up alone.  A write that does not reach the device
has no effect.  Each of the three commands answers a next state in every state, and every part of the state but those
listed is as before. -/
def Obligations.RingsAreSetUpAndRung : Prop :=
  (∀ (s : State) (func : Fin 64) (ring : Fin 1024) (value : BitVec 64) (q : Tlp), s.funcUp func = true →
    s.faults.windthrow = false → s.rd SEC_STS.RECOVERY = 0 → s.tlpBad q = false → s.rd (RING_CFG.FUNC ring) = func.val →
    s.funcBound func = true → value.toNat < 2 ^ 32 → s.rd (RING_CFG.ENABLE ring) = 1 → s.rd (RING_STS.STATE ring) = 1 →
    ahead value.toNat (s.rd (RING_RETIRED.RETIRED ring)) ≤ 2 ^ s.rd (RING_CFG.SIZE_LOG2 ring) →
    ahead value.toNat (s.rd (RING_TAIL.TAIL ring)) ≤ 2 ^ s.rd (RING_CFG.SIZE_LOG2 ring) →
    ∃ t, exec (.doorbell func ring value q) s = .next t ∧ t.rd (RING_TAIL.TAIL ring) = value.toNat
      ∧ (s.rd CTL_PSTATE.AUTO_WAKE = 1 → s.rd CTL_PSTATE.STATE = 2 → s.glob.coolFallow = false → t.rd CTL_PSTATE.STATE = 3)
      ∧ (s.rd CTL_PSTATE.AUTO_WAKE ≠ 1 ∨ s.rd CTL_PSTATE.STATE ≠ 2 → t.rd CTL_PSTATE.STATE = s.rd CTL_PSTATE.STATE)
      ∧ OnlyFields s t [(RING_TAIL.TAIL ring).key, CTL_PSTATE.STATE.key, CTL_PSTATE.ERR.key])
  ∧ (∀ (s : State) (func : Fin 64) (ring : Fin 1024) (value : BitVec 64) (q : Tlp), s.funcUp func = true →
    s.faults.windthrow = false → s.rd SEC_STS.RECOVERY = 0 → s.tlpBad q = false →
    (s.rd (RING_CFG.FUNC ring) ≠ func.val ∨ s.funcBound func = false) →
    ∃ t, exec (.doorbell func ring value q) s = .next t
      ∧ t.rd CNT_PCIE_ERR.DOORBELL_REFUSED = min (s.rd CNT_PCIE_ERR.DOORBELL_REFUSED + 1) (2 ^ CNT_PCIE_ERR.DOORBELL_REFUSED.width - 1)
      ∧ OnlyFields s t [CNT_PCIE_ERR.DOORBELL_REFUSED.key])
  ∧ (∀ (s : State) (func : Fin 64) (ring : Fin 1024) (value : BitVec 64) (q : Tlp), s.funcUp func = true →
    s.faults.windthrow = false → s.rd SEC_STS.RECOVERY = 0 → s.tlpBad q = false → s.rd (RING_CFG.FUNC ring) = func.val →
    s.funcBound func = true → (2 ^ 32 ≤ value.toNat ∨ s.rd (RING_CFG.ENABLE ring) = 0 ∨ s.rd (RING_STS.STATE ring) ≠ 1
      ∨ 2 ^ s.rd (RING_CFG.SIZE_LOG2 ring) < ahead (value.toNat % 2 ^ 32) (s.rd (RING_RETIRED.RETIRED ring))
      ∨ 2 ^ s.rd (RING_CFG.SIZE_LOG2 ring) < ahead (value.toNat % 2 ^ 32) (s.rd (RING_TAIL.TAIL ring))) →
    ∃ t, exec (.doorbell func ring value q) s = .next t
      ∧ t.rd (RING_STS.DB_ERR ring) = min (s.rd (RING_STS.DB_ERR ring) + 1) (2 ^ (RING_STS.DB_ERR ring).width - 1)
      ∧ OnlyFields s t [(RING_STS.DB_ERR ring).key])
  ∧ (∀ (s : State) (func : Fin 64) (ring : Fin 1024) (value : BitVec 64) (q : Tlp), s.funcUp func = true →
    s.faults.windthrow = false → s.rd SEC_STS.RECOVERY = 0 → s.tlpBad q = true →
    ∃ t, exec (.doorbell func ring value q) s = .next t ∧ t.waitsForCore1 24 5 ∧ SameMemory s t ∧ OtherFields s t [])
  ∧ (∀ (s : State) (func : Fin 64) (ring : Fin 1024) (value : BitVec 64) (q : Tlp), s.funcUp func = false
      ∨ s.faults.windthrow = true ∨ s.rd SEC_STS.RECOVERY ≠ 0 → exec (.doorbell func ring value q) s = .next s)
  ∧ (∀ (s : State) (path : Fin 6) (ring : Fin 1024) (v : BitVec 31), s.writeOpen path (ringCfgAddr ring) = true →
    s.rd (RING_CFG.ENABLE ring) = 0 → (s.storeRingCfg ring v.toNat).ringSuits ring = true →
    ∃ t, exec (.ringEnable path ring v) s = .next t ∧ t.rd (RING_CFG.ENABLE ring) = 1 ∧ t.rd (RING_STS.STATE ring) = 1
      ∧ t.rd (RING_RETIRED.RETIRED ring) = 0 ∧ t.rd (RING_TAIL.TAIL ring) = 0
      ∧ t.rd (RING_CFG.FUNC ring) = bits v.toNat 17 12 ∧ t.rd (RING_CFG.PLOT ring) = bits v.toNat 11 6
      ∧ t.rd (RING_CFG.VECTOR ring) = bits v.toNat 28 18
      ∧ t.rd (RING_CFG.SIZE_LOG2 ring) = clampTo 4 16 (bits v.toNat 4 0)
      ∧ (t.ring ring).entries = [] ∧ (t.ring ring).fetched = 0 ∧ (∀ r, r ≠ ring.val → t.ring r = s.ring r)
      ∧ t = { s with regs := t.regs, rings := t.rings }
      ∧ FieldsKept s t (ringKeys ring ++ [(RING_CFG.ENABLE ring).key, (RING_STS.STATE ring).key,
          (RING_RETIRED.RETIRED ring).key, (RING_TAIL.TAIL ring).key, (PWR_RING_ENERGY_LO.COUNT_LO ring).key,
          (PWR_RING_ENERGY_HI.COUNT_HI ring).key]))
  ∧ (∀ (s : State) (path : Fin 6) (ring : Fin 1024) (v : BitVec 31), s.writeOpen path (ringCfgAddr ring) = true →
    s.rd (RING_CFG.ENABLE ring) = 0 → (s.storeRingCfg ring v.toNat).ringSuits ring = false →
    ∃ t, exec (.ringEnable path ring v) s = .next t ∧ t.rd (RING_CFG.ENABLE ring) = 0 ∧ t.rd (RING_STS.STATE ring) = 2
      ∧ OnlyFields s t ((RING_STS.STATE ring).key :: ringKeys ring))
  ∧ (∀ (s : State) (path : Fin 6) (ring : Fin 1024) (v : BitVec 31), s.writeOpen path (ringCfgAddr ring) = false
      ∨ s.rd (RING_CFG.ENABLE ring) ≠ 0 → exec (.ringEnable path ring v) s = .next s)
  ∧ (∀ (s : State) (path : Fin 6) (ring : Fin 1024) (v : BitVec 31), s.writeOpen path (ringCfgAddr ring) = true →
    s.rd (RING_CFG.ENABLE ring) = 0 →
    ∃ t, exec (.ringDisable path ring v) s = .next t ∧ t.rd (RING_CFG.FUNC ring) = bits v.toNat 17 12
      ∧ t.rd (RING_CFG.PLOT ring) = bits v.toNat 11 6 ∧ t.rd (RING_CFG.VECTOR ring) = bits v.toNat 28 18
      ∧ t.rd (RING_CFG.SIZE_LOG2 ring) = clampTo 4 16 (bits v.toNat 4 0) ∧ OnlyFields s t (ringKeys ring))
  ∧ (∀ (s : State) (path : Fin 6) (ring : Fin 1024) (v : BitVec 31), s.writeOpen path (ringCfgAddr ring) = true →
    s.rd (RING_CFG.ENABLE ring) ≠ 0 → s.rd (RING_RETIRED.RETIRED ring) = s.rd (RING_TAIL.TAIL ring) →
    ∃ t, exec (.ringDisable path ring v) s = .next t ∧ t.rd (RING_CFG.ENABLE ring) = 0 ∧ t.rd (RING_STS.STATE ring) = 0
      ∧ (t.ring ring).entries = [] ∧ (∀ r, r ≠ ring.val → t.ring r = s.ring r)
      ∧ t = { s with regs := t.regs, rings := t.rings }
      ∧ FieldsKept s t [(RING_CFG.ENABLE ring).key, (RING_STS.STATE ring).key])
  ∧ (∀ (s : State) (path : Fin 6) (ring : Fin 1024) (v : BitVec 31), s.writeOpen path (ringCfgAddr ring) = false
      ∨ (s.rd (RING_CFG.ENABLE ring) ≠ 0 ∧ s.rd (RING_RETIRED.RETIRED ring) ≠ s.rd (RING_TAIL.TAIL ring)) →
    exec (.ringDisable path ring v) s = .next s)
  ∧ (∀ (s : State) (func : Fin 64) (ring : Fin 1024) (value : BitVec 64) (tlp : Tlp), ∃ t, exec (.doorbell func ring
    value tlp) s = .next t ∧ Rest s t [.out, .regs, .flash, .plots, .pcie, .faults])
  ∧ (∀ (s : State) (path : Fin 6) (ring : Fin 1024) (v : BitVec 31), ∃ t, exec (.ringEnable path ring v) s = .next t ∧
    Rest s t [.regs, .rings])
  ∧ (∀ (s : State) (path : Fin 6) (ring : Fin 1024) (v : BitVec 31), ∃ t, exec (.ringDisable path ring v) s = .next t
    ∧ Rest s t [.regs, .rings])

/-- R336, R346, R348, R352, R353, R355, R366, R367, R201: a fetched descriptor enters its ring, or, outside a step, ends
where its header fails, and ends without its data where the read returns none; the oldest finished one with nothing
outstanding retires with its completion in host memory, RETIRED one higher and its vector signalled where it failed or
asks for it; one whose timer expires stops and ends with TIMEOUT, a routine that ran with CORE_ERROR, and is counted.  A
ring that may not fetch, a descriptor that may not retire and a timer that has not expired leave the state as it is.
Each of the three commands answers a next state in every state, and every part of the state but those listed is as
before. -/
def Obligations.DescriptorsAreFetchedRetiredAndTimed : Prop :=
  (∀ (s : State) (ring : Fin 1024) (raw : BitVec 512), s.mayFetch ring = true →
    Entry.headerError { idx := (s.ring ring).fetched, raw := raw } (s.ringPlot ring) = none
      ∨ Entry.inStep { idx := (s.ring ring).fetched, raw := raw } = true →
    ∃ t, exec (.descriptorFetch ring raw .data) s = .next t
      ∧ (t.ring ring).entries = (s.ring ring).entries ++ [{ idx := (s.ring ring).fetched, raw := raw }]
      ∧ (t.ring ring).fetched = (s.ring ring).fetched + 1 ∧ (∀ r, r ≠ ring.val → t.ring r = s.ring r)
      ∧ t.out = .dmaRead (s.rd (RING_CFG.FUNC ring)) (s.descAddr ring (s.ring ring).fetched) 64 s.freeTag :: s.out
      ∧ t = { s with rings := t.rings, out := t.out })
  ∧ (∀ (s : State) (ring : Fin 1024) (raw : BitVec 512) (v : Nat), s.mayFetch ring = true →
    s.entry ring (s.ring ring).fetched = none → Entry.inStep { idx := (s.ring ring).fetched, raw := raw } = false →
    Entry.headerError { idx := (s.ring ring).fetched, raw := raw } (s.ringPlot ring) = some v →
    ∃ t, exec (.descriptorFetch ring raw .data) s = .next t ∧ t.ended ring (s.ring ring).fetched 0x10 v
      ∧ OtherEntries s t ring (s.ring ring).fetched ∧ t = { s with rings := t.rings, out := t.out })
  ∧ (∀ (s : State) (ring : Fin 1024) (raw : BitVec 512) (how : HostRead), s.mayFetch ring = true →
    s.entry ring (s.ring ring).fetched = none → how ≠ .data → (how = .badEcrc → s.pcie.ecrcCheck = true) →
    ∃ t, exec (.descriptorFetch ring raw how) s = .next t ∧ t.ended ring (s.ring ring).fetched 0x13 0
      ∧ t.waitsForCore1 24 5 ∧ OtherEntries s t ring (s.ring ring).fetched ∧ SameMemory s t
      ∧ OtherFields s t [CNT_PCIE_ERR.CPL_TIMEOUT.key]
      ∧ t.rd CNT_PCIE_ERR.CPL_TIMEOUT = (if how = .timedOut then
          min (s.rd CNT_PCIE_ERR.CPL_TIMEOUT + 1) (2 ^ CNT_PCIE_ERR.CPL_TIMEOUT.width - 1) else s.rd CNT_PCIE_ERR.CPL_TIMEOUT))
  ∧ (∀ (s : State) (ring : Fin 1024) (raw : BitVec 512), s.pcie.ecrcCheck = false →
    exec (.descriptorFetch ring raw .badEcrc) s = exec (.descriptorFetch ring raw .data) s)
  ∧ (∀ (s : State) (ring : Fin 1024) (raw : BitVec 512) (how : HostRead), s.mayFetch ring = false →
    exec (.descriptorFetch ring raw how) s = .next s)
  ∧ (∀ (s : State) (ring : Fin 1024) (e : Entry) (rest : List Entry), let lg := s.rd (RING_CFG.SIZE_LOG2 ring)
    let a := s.rd (RING_CPL_LO.ADDR_LO ring) * 4096 + s.rd (RING_CPL_HI.ADDR_HI ring) * 2 ^ 32 + 16 * (e.idx % 2 ^ lg)
    (s.ring ring).entries = e :: rest → e.stage = 3 → e.member = false → s.idleEntry ring e.idx = true →
    s.rd (RING_STS.STATE ring) = 1 → s.funcUp (s.rd (RING_CFG.FUNC ring)) = true →
    ∃ t, exec (.descriptorRetire ring) s = .next t ∧ (t.ring ring).entries = rest
      ∧ t.rd (RING_RETIRED.RETIRED ring) = (s.rd (RING_RETIRED.RETIRED ring) + 1) % 2 ^ 32
      ∧ Memory.read t.host a 16 = completionBytes e lg
      ∧ (∀ x, x < a ∨ a + 16 ≤ x → Tab.val t.host x = Tab.val s.host x) ∧ (∀ x, t.hbm.byte x = s.hbm.byte x)
      ∧ (t.plot (s.ringPlot ring)).handles
          = e.records.foldl (fun t x => Tab.put t x.1 x.2) (s.plot (s.ringPlot ring)).handles
      ∧ (failing e.status.toNat = true ∨ e.intr = true →
          s.rd (RING_CFG.VECTOR ring) ∈ (Tab.val s.pcie.funcs (s.rd (RING_CFG.FUNC ring))).unmasked →
          Out.msix (s.rd (RING_CFG.FUNC ring)) (s.rd (RING_CFG.VECTOR ring)) ∈ t.out)
      ∧ (∀ k o, e.flip = some (k, o) → (t.slab k).owner = BitVec.ofNat 2 o ∧ (t.slab k).gen = (s.slab k).gen + 1)
      ∧ (e.flip = none → t.slabs = s.slabs) ∧ (∀ r, r ≠ ring.val → t.ring r = s.ring r))
  ∧ (∀ (s : State) (ring : Fin 1024) (e : Entry) (rest : List Entry), let lg := s.rd (RING_CFG.SIZE_LOG2 ring)
    let a := s.rd (RING_CPL_LO.ADDR_LO ring) * 4096 + s.rd (RING_CPL_HI.ADDR_HI ring) * 2 ^ 32 + 16 * (e.idx % 2 ^ lg)
    (s.ring ring).entries = e :: rest → e.stage = 3 → e.member = true →
    e.stepClose = false ∨ (s.plot (s.ringPlot ring)).step = none → s.idleEntry ring e.idx = true →
    s.rd (RING_STS.STATE ring) = 1 → s.funcUp (s.rd (RING_CFG.FUNC ring)) = true →
    ∃ t, exec (.descriptorRetire ring) s = .next t
      ∧ t.rd (RING_RETIRED.RETIRED ring) = (s.rd (RING_RETIRED.RETIRED ring) + 1) % 2 ^ 32
      ∧ Memory.read t.host a 16 = completionBytes e lg ∧ (∀ x, t.hbm.byte x = s.hbm.byte x))
  ∧ (∀ (s : State) (ring : Fin 1024), (∀ e rest, (s.ring ring).entries = e :: rest → e.stage ≠ 3
      ∨ (e.member = true ∧ e.stepClose = true ∧ (s.plot (s.ringPlot ring)).step ≠ none) ∨ s.idleEntry ring e.idx = false
      ∨ s.rd (RING_STS.STATE ring) ≠ 1 ∨ s.funcUp (s.rd (RING_CFG.FUNC ring)) = false) →
    exec (.descriptorRetire ring) s = .next s)
  ∧ (∀ (s : State) (ring : Fin 1024) (idx d : Nat) (e : Entry), s.entry ring idx = some e → (e.stage = 1 ∨ e.stage = 2) →
    e.deadline = some d → d ≤ s.now → e.opcode ≠ opFLAGWAIT ∨ e.flag 10 3 = false →
    ∃ t, exec (.descriptorTimeout ring idx) s = .next t
      ∧ t.ended ring idx (if e.opcode = opCORECALL ∧ e.stage = 2 then 0x19 else 0x17) 0
      ∧ t.rd CNT_FLT_B.DESC_TMO = min (s.rd CNT_FLT_B.DESC_TMO + 1) (2 ^ CNT_FLT_B.DESC_TMO.width - 1)
      ∧ (∀ u ∈ t.tags.used ++ t.tags.waiting, u.ring ≠ ring.val ∨ u.idx ≠ idx)
      ∧ (∀ j ∈ t.matJobs, j.ring ≠ ring.val ∨ j.idx ≠ idx) ∧ (∀ j ∈ t.vecJobs, j.ring ≠ ring.val ∨ j.idx ≠ idx)
      ∧ (∀ c, c < 32 → (t.core c).job ≠ some (ring.val, idx)) ∧ OtherEntries s t ring idx ∧ SameMemory s t)
  ∧ (∀ (s : State) (ring : Fin 1024) (idx : Nat), (∀ e, s.entry ring idx = some e → (e.stage ≠ 1 ∧ e.stage ≠ 2)
      ∨ (∀ d, e.deadline = some d → s.now < d) ∨ (e.opcode = opFLAGWAIT ∧ e.flag 10 3 = true)) →
    exec (.descriptorTimeout ring idx) s = .next s)
  ∧ (∀ (s : State) (ring : Fin 1024) (raw : BitVec 512) (how : HostRead), ∃ t, exec (.descriptorFetch ring raw how) s
    = .next t ∧ Rest s t [.out, .regs, .flash, .rings, .plots, .pcie, .faults])
  ∧ (∀ (s : State) (ring : Fin 1024), ∃ t, exec (.descriptorRetire ring) s = .next t ∧ Rest s t [.out, .regs, .host,
    .slabs, .rings, .plots, .stash, .fabric, .ports, .tags, .mgr, .mac, .pcie, .cores, .power, .faults])
  ∧ (∀ (s : State) (ring : Fin 1024) (idx : Nat), ∃ t, exec (.descriptorTimeout ring idx) s = .next t ∧ Rest s t
    [.out, .regs, .engines, .rings, .plots, .matJobs, .vecJobs, .fabric, .ports, .tags, .cores])

/-- R336, R337, R350, R351, R358, R360, R361, R371: a COPY of no units ends with OK_EMPTY, one that fails a check with its
offset, and one whose slabs are not there is refused and counted; one between glade ranges of the plot moves its bytes,
one between tensors of one format its elements, one from host memory or from a peer asks for each piece, and a local
source is delivered to whatever place is named; a record copy holds its records until it retires; host data that has come
whole is delivered, a bad or a lost read ends its COPY, and data that nothing awaits is discarded.  A COPY whose ring may
not issue it waits, as does one that flips a peer's slab behind an earlier descriptor.  Each of the four commands
answers a next state in every state, and every part of the state but those listed is as before. -/
def Obligations.CopiesMoveBytes : Prop :=
  (∀ (s : State) (ring : Fin 1024) (idx : Nat), s.mayIssue ring idx opCOPY = none →
    exec (.copy ring idx) s = .next s ∧ exec (.tensorRecordCopy ring idx) s = .next s)
  ∧ (∀ (s : State) (ring : Fin 1024) (idx : Nat) (e : Entry), s.entry ring idx = some e →
    if e.dstKind = 4 then exec (.copy ring idx) s = .next s else exec (.tensorRecordCopy ring idx) s = .next s)
  ∧ (∀ (s : State) (ring : Fin 1024) (idx : Nat), s.flipWaits ring idx = true → s.stopped ring idx = false →
    exec (.copy ring idx) s = .next s)
  ∧ (∀ (s : State) (ring : Fin 1024) (idx st : Nat) (e : Entry), s.mayIssue ring idx opCOPY = some e →
    s.memberStop (s.ringPlot ring) e = some st →
    exec (if e.dstKind = 4 then .tensorRecordCopy ring idx else .copy ring idx) s
      = .next ((s.setStage ring idx 2).finish ring idx st 0))
  ∧ (∀ (s : State) (ring : Fin 1024) (idx v : Nat) (e : Entry), s.takes ring idx opCOPY e →
    s.flipWaits ring idx = false → firstFail (if e.copyLen = 0 then s.copyFields e
      else s.copyFields e ++ s.copyNames (s.ringPlot ring) e) = some v →
    exec (if e.dstKind = 4 then .tensorRecordCopy ring idx else .copy ring idx) s
      = .next ((s.setStage ring idx 2).finish ring idx 0x10 v))
  ∧ (∀ (s : State) (ring : Fin 1024) (idx : Nat) (e : Entry), s.takes ring idx opCOPY e → s.flipWaits ring idx = false →
    firstFail (s.copyFields e) = none → e.copyLen = 0 →
    ∃ t, exec (if e.dstKind = 4 then .tensorRecordCopy ring idx else .copy ring idx) s = .next t
      ∧ t.ended ring idx 0x01 0 ∧ OtherEntries s t ring idx ∧ t = { s with rings := t.rings })
  ∧ (∀ (s : State) (ring : Fin 1024) (idx : Nat) (e : Entry), let p := s.ringPlot ring
    s.takes ring idx opCOPY e → s.flipWaits ring idx = false → firstFail (s.copyFields e ++ s.copyNames p e) = none →
    e.copyLen ≠ 0 → e.srcKind = 2 → e.dstKind = 2 → e.flipFlag = false → s.gladeOpen p (e.u64 8) e.copyLen = true →
    s.gladeOpen p (e.u64 16) e.copyLen = true → s.accessFail true (gladePieces (e.u64 8) e.copyLen) = none →
    s.accessFail false (gladePieces (e.u64 16) e.copyLen) = none →
    ∃ t, exec (.copy ring idx) s = .next t ∧ t.ended ring idx 0x00 0
      ∧ t.readPieces (gladePieces (e.u64 16) e.copyLen) = s.readPieces (gladePieces (e.u64 8) e.copyLen)
      ∧ (∀ x, (∀ q ∈ gladePieces (e.u64 16) e.copyLen, x < q.1 ∨ q.1 + q.2 ≤ x) → t.hbm.byte x = s.hbm.byte x)
      ∧ t.host = s.host ∧ t.stash = s.stash ∧ t.slabs = s.slabs ∧ OtherEntries s t ring idx ∧ FieldsKept s t workKeys)
  ∧ (∀ (s : State) (ring : Fin 1024) (idx : Nat) (e : Entry), let p := s.ringPlot ring
    s.takes ring idx opCOPY e → s.flipWaits ring idx = false → firstFail (s.copyFields e ++ s.copyNames p e) = none →
    e.copyLen ≠ 0 → (e.dstKind = 2 ∧ s.gladeOpen p (e.u64 16) e.copyLen = false)
      ∨ (e.srcKind = 2 ∧ s.gladeOpen p (e.u64 8) e.copyLen = false)
      ∨ (e.srcKind = 3 ∧ e.copyNode = s.node ∧ s.peerSlab s.node (e.u64 8) e.copyLen = none) →
    ∃ t, exec (if e.dstKind = 4 then .tensorRecordCopy ring idx else .copy ring idx) s = .next t
      ∧ t.ended ring idx 0x15 0
      ∧ t.rd CNT_GLADE_ERR.SLAB_REFUSED = min (s.rd CNT_GLADE_ERR.SLAB_REFUSED + 1) (2 ^ CNT_GLADE_ERR.SLAB_REFUSED.width - 1)
      ∧ OtherEntries s t ring idx ∧ SameMemory s t ∧ FieldsKept s t [CNT_GLADE_ERR.SLAB_REFUSED.key])
  ∧ (∀ (s : State) (ring : Fin 1024) (idx : Nat) (e : Entry), let p := s.ringPlot ring
    let a := s.tensorOf p (e.u16 8)
    let d := s.tensorOf p (e.u16 16)
    s.takes ring idx opCOPY e → s.flipWaits ring idx = false → firstFail (s.copyFields e ++ s.copyNames p e) = none →
    e.copyLen ≠ 0 → e.srcKind = 0 → e.dstKind = 0 → e.flag 30 6 = false → isNarrow d.fmt = false → d.fmt ≠ 0xD →
    s.accessFail true (s.pieces p a.addr (elemBytes d.fmt * e.copyLen)) = none →
    s.accessFail false (s.pieces p d.addr (s.readPieces (s.pieces p a.addr (elemBytes d.fmt * e.copyLen))).length) = none →
    ∃ t, exec (.copy ring idx) s = .next t ∧ t.ended ring idx 0x00 0 ∧ OtherEntries s t ring idx
      ∧ t.hbm = s.hbm.writePieces (s.pieces p d.addr
          (s.readPieces (s.pieces p a.addr (elemBytes d.fmt * e.copyLen))).length)
          (s.readPieces (s.pieces p a.addr (elemBytes d.fmt * e.copyLen)))
      ∧ t.plots = s.plots ∧ t.host = s.host ∧ t.stash = s.stash ∧ FieldsKept s t workKeys)
  ∧ (∀ (s u : State) (ring : Fin 1024) (idx : Nat) (e : Entry) (b : List Byte), let p := s.ringPlot ring
    s.takes ring idx opCOPY e → s.flipWaits ring idx = false → firstFail (s.copyFields e ++ s.copyNames p e) = none →
    e.copyLen ≠ 0 → (e.dstKind = 2 → s.gladeOpen p (e.u64 16) e.copyLen = true) →
    (e.srcKind = 2 → s.gladeOpen p (e.u64 8) e.copyLen = true) →
    (e.srcKind = 3 → e.copyNode = s.node ∧ (s.peerSlab s.node (e.u64 8) e.copyLen).isSome = true) → e.srcKind ≠ 1 →
    ¬ (e.srcKind = 0 ∧ e.dstKind = 0) → (s.setStage ring idx 2).copySource p e = .ok b →
    (s.setStage ring idx 2).deliver p ring idx e b = .ok u →
    exec (if e.dstKind = 4 then .tensorRecordCopy ring idx else .copy ring idx) s = .next u)
  ∧ (∀ (s : State) (ring : Fin 1024) (idx : Nat) (e : Entry), let p := s.ringPlot ring
    s.takes ring idx opCOPY e → s.flipWaits ring idx = false → firstFail (s.copyFields e ++ s.copyNames p e) = none →
    e.copyLen ≠ 0 → (e.dstKind = 2 → s.gladeOpen p (e.u64 16) e.copyLen = true) →
    e.srcKind = 1 ∨ (e.srcKind = 3 ∧ e.copyNode ≠ s.node ∧ (s.routeOf e.copyNode).any (s.reaches e.copyNode)
      ∧ ∃ n ∈ s.routeOf e.copyNode, s.reaches e.copyNode n = true ∧ s.leasesPort p n = true) →
    ∃ t, exec (if e.dstKind = 4 then .tensorRecordCopy ring idx else .copy ring idx) s = .next t
      ∧ t.entry ring idx = some { e with stage := 2 }
      ∧ (t.tags.used ++ t.tags.waiting).length = (s.tags.used ++ s.tags.waiting).length
          + (if e.srcKind = 1 then (s.hostPieces (e.u64 8) e.copyLen).length else 1)
      ∧ OtherEntries s t ring idx ∧ SameMemory s t ∧ FieldsKept s t tagKeys)
  ∧ (∀ (s : State) (ring : Fin 1024) (idx : Nat) (e : Entry), let p := s.ringPlot ring
    let b := s.readPieces (gladePieces (e.u64 8) e.copyLen)
    let recs := (List.range (b.length / 64)).map (fun k => (b.drop (64 * k)).take 64)
    s.takes ring idx opCOPY e → firstFail (s.copyFields e ++ s.copyNames p e) = none → e.copyLen ≠ 0 →
    e.srcKind = 2 → e.dstKind = 4 → s.gladeOpen p (e.u64 8) e.copyLen = true →
    s.accessFail true (gladePieces (e.u64 8) e.copyLen) = none → recs.any badRecordBytes = false →
    ∃ t f, exec (.tensorRecordCopy ring idx) s = .next t ∧ t.ended ring idx 0x00 0 ∧ t.entry ring idx = some f
      ∧ f.records = (List.range (b.length / 64)).map (fun k => (e.u64 16 % 65536 + k, tensorOfBytes (recs.getD k [])))
      ∧ OtherEntries s t ring idx ∧ t = { s with rings := t.rings })
  ∧ (∀ (s : State) (tag : Fin 8192) (data : List (BitVec 8)) (q : Tlp) (u : TagUse), s.pcieRuns = true →
    s.tlpBad q = false → s.tags.used.find? (fun t => decide (t.tag = tag.val ∧ t.kind = 4)) = some u →
    (u.data ++ data).length < u.len →
    ∃ t, exec (.dmaCompletion tag data q) s = .next t ∧ t = { s with tags := { s.tags with used := t.tags.used } }
      ∧ t.tags.used.find? (fun t => decide (t.tag = tag.val ∧ t.kind = 4))
        = some { u with data := u.data ++ data, deadline := s.transferDue })
  ∧ (∀ (s : State) (tag : Fin 8192) (data : List (BitVec 8)) (q : Tlp) (u : TagUse) (e : Entry),
    let l := gladePieces (e.u64 16) u.len
    s.pcieRuns = true → s.tlpBad q = false →
    s.tags.used.find? (fun t => decide (t.tag = tag.val ∧ t.kind = 4)) = some u → u.data = [] → data.length = u.len →
    s.plotState (s.ringPlot u.ring) = plotBOUND → s.entry u.ring u.idx = some e → e.stage = 2 → e.dstKind = 2 →
    e.flipFlag = false → e.buf = [] → e.srcKind = 1 → (∀ w ∈ s.tags.used, w.ring = u.ring → w.idx = u.idx → w.tag = tag.val) →
    (∀ w ∈ s.tags.waiting, w.ring ≠ u.ring) → s.gladeOpen (s.ringPlot u.ring) (e.u64 16) u.len = true →
    s.accessFail false l = none →
    ∃ t, exec (.dmaCompletion tag data q) s = .next t ∧ t.ended u.ring u.idx 0x00 0 ∧ t.readPieces l = data
      ∧ (∀ x, (∀ q ∈ l, x < q.1 ∨ q.1 + q.2 ≤ x) → t.hbm.byte x = s.hbm.byte x) ∧ t.host = s.host
      ∧ (∀ w ∈ t.tags.used, w.tag ≠ tag.val) ∧ OtherEntries s t u.ring u.idx)
  ∧ (∀ (s : State) (tag : Fin 8192) (data : List (BitVec 8)) (q : Tlp) (u : TagUse), s.pcieRuns = true →
    s.tags.used.find? (fun t => decide (t.tag = tag.val ∧ t.kind = 4)) = some u →
    s.plotState (s.ringPlot u.ring) ≠ plotBOUND → s.tlpBad q = true ∨ u.len ≤ (u.data ++ data).length →
    ∃ t, exec (.dmaCompletion tag data q) s = .next t ∧ (∀ w ∈ t.tags.used, w.tag ≠ tag.val)
      ∧ t = { s with regs := t.regs, tags := t.tags } ∧ FieldsKept s t tagKeys)
  ∧ (∀ (s : State) (tag : Fin 8192) (data : List (BitVec 8)) (q : Tlp) (u : TagUse) (e : Entry), s.pcieRuns = true →
    s.tlpBad q = true → s.tags.used.find? (fun t => decide (t.tag = tag.val ∧ t.kind = 4)) = some u →
    s.plotState (s.ringPlot u.ring) = plotBOUND → s.entry u.ring u.idx = some e → e.stage < 3 →
    ∃ t, exec (.dmaCompletion tag data q) s = .next t ∧ t.ended u.ring u.idx 0x13 0 ∧ t.waitsForCore1 24 5
      ∧ (∀ w ∈ t.tags.used, w.tag ≠ tag.val) ∧ OtherEntries s t u.ring u.idx ∧ SameMemory s t ∧ OtherFields s t tagKeys)
  ∧ (∀ (s : State) (tag : Fin 8192) (data : List (BitVec 8)) (q : Tlp), s.pcieRuns = true →
    s.tags.used.find? (fun t => decide (t.tag = tag.val ∧ t.kind = 4)) = none →
    ∃ t, exec (.dmaCompletion tag data q) s = .next t ∧ t.tags = s.tags ∧ t.rings = s.rings ∧ SameMemory s t
      ∧ OtherFields s t [])
  ∧ (∀ (s : State) (tag : Fin 8192) (data : List (BitVec 8)) (q : Tlp), s.pcieRuns = false →
    exec (.dmaCompletion tag data q) s = .next s)
  ∧ (∀ (s : State) (tag : Fin 8192) (u : TagUse) (e : Entry),
    s.tags.used.find? (fun t => decide (t.tag = tag.val ∧ t.kind = 4)) = some u → s.pcie.cplOff = false →
    s.past u.takenAt (cplTime s.pcie.cplValue) = true → s.entry u.ring u.idx = some e → e.stage < 3 →
    ∃ t, exec (.completionTimeout tag) s = .next t ∧ t.ended u.ring u.idx 0x13 0 ∧ t.waitsForCore1 24 5
      ∧ t.rd CNT_PCIE_ERR.CPL_TIMEOUT = min (s.rd CNT_PCIE_ERR.CPL_TIMEOUT + 1) (2 ^ CNT_PCIE_ERR.CPL_TIMEOUT.width - 1)
      ∧ (∀ w ∈ t.tags.used, w.tag ≠ tag.val) ∧ OtherEntries s t u.ring u.idx ∧ SameMemory s t
      ∧ OtherFields s t (CNT_PCIE_ERR.CPL_TIMEOUT.key :: tagKeys))
  ∧ (∀ (s : State) (tag : Fin 8192), (∀ u, s.tags.used.find? (fun t => decide (t.tag = tag.val ∧ t.kind = 4)) = some u →
      s.pcie.cplOff = true ∨ s.past u.takenAt (cplTime s.pcie.cplValue) = false) →
    exec (.completionTimeout tag) s = .next s)
  ∧ (∀ (s : State) (ring : Fin 1024) (idx : Nat), ∃ t, exec (.copy ring idx) s = .next t ∧ Rest s t [.draws, .out,
    .regs, .hbm, .host, .flash, .engines, .rings, .plots, .fabric, .ports, .tags, .pcie, .power, .faults, .bytes])
  ∧ (∀ (s : State) (ring : Fin 1024) (idx : Nat), ∃ t, exec (.tensorRecordCopy ring idx) s = .next t ∧ Rest s t
    [.draws, .out, .regs, .hbm, .host, .flash, .engines, .rings, .plots, .fabric, .ports, .tags, .pcie, .power,
    .faults, .bytes])
  ∧ (∀ (s : State) (tag : Fin 8192) (data : List (BitVec 8)) (tlp : Tlp), ∃ t, exec (.dmaCompletion tag data tlp) s =
    .next t ∧ Rest s t [.draws, .out, .regs, .hbm, .host, .flash, .rings, .plots, .fabric, .ports, .tags, .pcie,
    .power, .faults, .bytes])
  ∧ (∀ (s : State) (tag : Fin 8192), ∃ t, exec (.completionTimeout tag) s = .next t ∧ Rest s t [.out, .regs, .flash,
    .rings, .plots, .tags, .pcie, .faults])

/-- R5, R18, R331, R337, R357 to R359, R362, R363, R370, R481: a FENCE ends once it issues; a FLAG_SET sets the slab's
owner, names its peer and advances its generation, and waits while the slab is claimed; a FLAG_WAIT ends on a match and
waits otherwise; each ends where a reserved bit is set or its slab is not the plot's; a good entry write is applied and
another counted; a host access reaches a HOST slab or is counted, reads no poison, and waits while its memory stalls.
Each of the six commands answers a next state in every state, and every part of the state but those listed is as
before. -/
def Obligations.FencesFlagsAndSlabs : Prop :=
  WaitsOrStops opFENCE .fence ∧ WaitsOrStops opFLAGSET .flagSet ∧ WaitsOrStops opFLAGWAIT .flagWait
  ∧ ChecksOf opFENCE .fence (fun _ => false) (fun e => [e.reserved []]) (fun _ _ _ => [])
  ∧ ChecksOf opFLAGWAIT .flagWait (fun _ => false) (fun e => [e.reserved [(83, 64), (95, 88)]])
      (fun s p e => [(8, !s.slabIs (e.u16 8) p)])
  ∧ (∀ (s : State) (ring : Fin 1024) (idx : Nat) (e : Entry), s.takes ring idx opFENCE e →
    firstFail [e.reserved []] = none →
    ∃ t, exec (.fence ring idx) s = .next t ∧ t.ended ring idx 0x00 0 ∧ OtherEntries s t ring idx
      ∧ t = { s with rings := t.rings })
  ∧ (∀ (s : State) (ring : Fin 1024) (idx : Nat) (e : Entry), let p := s.ringPlot ring
    let n := e.u16 8
    s.takes ring idx opFLAGSET e → s.slabIs n p = true → (s.slab n).claimed = false →
    firstFail [e.reserved [(81, 64), (105, 96)]] = none →
    ∃ t, exec (.flagSet ring idx) s = .next t ∧ t.ended ring idx 0x00 0
      ∧ t.slab n = { s.slab n with
          owner := BitVec.ofNat 2 (e.fld 10 1 0), gen := (s.slab n).gen + 1
          peerNode := if BitVec.ofNat 2 (e.fld 10 1 0) = ownPEER then BitVec.ofNat 10 (e.fld 12 9 0) else (s.slab n).peerNode }
      ∧ (∀ k, k ≠ n → t.slab k = s.slab k) ∧ OtherEntries s t ring idx
      ∧ t = { s with rings := t.rings, slabs := t.slabs })
  ∧ (∀ (s : State) (ring : Fin 1024) (idx : Nat) (e : Entry), s.takes ring idx opFLAGSET e →
    s.slabIs (e.u16 8) (s.ringPlot ring) = true → (s.slab (e.u16 8)).claimed = true →
    exec (.flagSet ring idx) s = .next s)
  ∧ (∀ (s : State) (ring : Fin 1024) (idx v : Nat) (e : Entry), s.takes ring idx opFLAGSET e →
    s.slabIs (e.u16 8) (s.ringPlot ring) = false ∨ (s.slab (e.u16 8)).claimed = false →
    firstFail [e.reserved [(81, 64), (105, 96)], (8, !s.slabIs (e.u16 8) (s.ringPlot ring))] = some v →
    exec (.flagSet ring idx) s = .next ((s.setStage ring idx 2).finish ring idx 0x10 v))
  ∧ (∀ (s : State) (ring : Fin 1024) (idx : Nat) (e : Entry), let p := s.ringPlot ring
    s.takes ring idx opFLAGWAIT e → firstFail [e.reserved [(83, 64), (95, 88)], (8, !s.slabIs (e.u16 8) p)] = none →
    ∃ t, exec (.flagWait ring idx) s = .next t
      ∧ (s.flagMatches e = true → t.ended ring idx 0x00 0)
      ∧ (s.flagMatches e = false → t.entry ring idx = some { e with stage := 2 }) ∧ OtherEntries s t ring idx
      ∧ t = { s with rings := t.rings })
  ∧ (∀ (s : State) (ring : Fin 1024) (idx : Nat) (e : Entry), s.entry ring idx = some e → e.stage = 2 →
    e.opcode = opFLAGWAIT → s.flagMatches e = true →
    ∃ t, exec (.flagWaitMatch ring idx) s = .next t ∧ t.ended ring idx 0x00 0 ∧ OtherEntries s t ring idx
      ∧ t = { s with rings := t.rings })
  ∧ (∀ (s : State) (ring : Fin 1024) (idx : Nat), (∀ e, s.entry ring idx = some e → e.stage ≠ 2
      ∨ e.opcode ≠ opFLAGWAIT ∨ s.flagMatches e = false) → exec (.flagWaitMatch ring idx) s = .next s)
  ∧ (∀ (s : State) (path : Fin 6) (n : Fin 65536) (v : BitVec 64), s.writeOpen path (0x180000 + 8 * n) = true →
    s.slabWriteOk n v.toNat = true →
    ∃ t, exec (.slabEntryWrite path n v true) s = .next t ∧ t.slab n = slabWritten (s.slab n) v.toNat
      ∧ (∀ k, k ≠ n.val → t.slab k = s.slab k) ∧ t = { s with slabs := t.slabs })
  ∧ (∀ (s : State) (path : Fin 6) (n : Fin 65536) (v : BitVec 64) (whole : Bool),
    s.writeOpen path (0x180000 + 8 * n) = true → (whole = false ∨ s.slabWriteOk n v.toNat = false) →
    ∃ t, exec (.slabEntryWrite path n v whole) s = .next t
      ∧ t.rd CNT_GLADE_ERR.ENTRY_REFUSED = min (s.rd CNT_GLADE_ERR.ENTRY_REFUSED + 1) (2 ^ CNT_GLADE_ERR.ENTRY_REFUSED.width - 1)
      ∧ OnlyFields s t [CNT_GLADE_ERR.ENTRY_REFUSED.key])
  ∧ (∀ (s : State) (path : Fin 6) (n : Fin 65536) (v : BitVec 64) (whole : Bool),
    s.writeOpen path (0x180000 + 8 * n) = false → exec (.slabEntryWrite path n v whole) s = .next s)
  ∧ (∀ (s : State) (a : BitVec 36) (l : List (BitVec 8)) (n : Nat) (q : Tlp) (e : Slab),
    let g := gladePieces a.toNat l.length
    s.hostReaches = true → s.faults.windthrow = false → g.any (fun q => s.stalledAt q.1 q.2) = false →
    s.bar2Slab a.toNat l.length = some e → s.tlpBad q = false → s.accessFail false g = none →
    ∃ t, exec (.bar2Access a (some l) n q) s = .next t ∧ t.readPieces g = l
      ∧ (∀ x, (∀ q ∈ g, x < q.1 ∨ q.1 + q.2 ≤ x) → t.hbm.byte x = s.hbm.byte x)
      ∧ t = { s with regs := t.regs, hbm := t.hbm, power := t.power } ∧ FieldsKept s t workKeys)
  ∧ (∀ (s : State) (a : BitVec 36) (l : List (BitVec 8)) (n : Nat) (q : Tlp) (e : Slab),
    let g := gladePieces a.toNat l.length
    s.hostReaches = true → s.faults.windthrow = false → g.any (fun q => s.stalledAt q.1 q.2) = false →
    s.bar2Slab a.toNat l.length = some e →
    (s.tlpBad q = true → ∃ t, exec (.bar2Access a (some l) n q) s = .next t ∧ t.waitsForCore1 24 5 ∧ SameMemory s t
      ∧ t.rings = s.rings ∧ OtherFields s t [])
    ∧ (s.tlpBad q = false → s.accessFail false g ≠ none → exec (.bar2Access a (some l) n q) s = .next s))
  ∧ (∀ (s : State) (a : BitVec 36) (n : Nat) (q : Tlp) (e : Slab),
    let g := gladePieces a.toNat n
    s.hostReaches = true → s.faults.windthrow = false → g.any (fun q => s.stalledAt q.1 q.2) = false →
    s.bar2Slab a.toNat n = some e →
    (s.accessFail true g = none → ∃ t, exec (.bar2Access a none n q) s = .next t
      ∧ Out.bar2 (some (s.readPieces g)) ∈ t.out ∧ SameMemory s t
      ∧ t = { s with regs := t.regs, power := t.power, out := t.out } ∧ FieldsKept s t workKeys)
    ∧ (s.accessFail true g ≠ none → ∃ t, exec (.bar2Access a none n q) s = .next t ∧ Out.bar2 none ∈ t.out
      ∧ SameMemory s t ∧ t.rings = s.rings))
  ∧ (∀ (s : State) (a : BitVec 36) (w : Option (List (BitVec 8))) (n : Nat) (q : Tlp),
    let k := match w with | some l => l.length | none => n
    s.hostReaches = true → s.faults.windthrow = false →
    (gladePieces a.toNat k).any (fun q => s.stalledAt q.1 q.2) = false → s.bar2Slab a.toNat k = none →
    ∃ t, exec (.bar2Access a w n q) s = .next t
      ∧ t.rd CNT_PCIE_ERR.GLADE_REFUSED = min (s.rd CNT_PCIE_ERR.GLADE_REFUSED + 1) (2 ^ CNT_PCIE_ERR.GLADE_REFUSED.width - 1)
      ∧ (w = none → Out.bar2 none ∈ t.out) ∧ SameMemory s t ∧ t.rings = s.rings ∧ t.slabs = s.slabs
      ∧ OtherFields s t [CNT_PCIE_ERR.GLADE_REFUSED.key])
  ∧ (∀ (s : State) (a : BitVec 36) (w : Option (List (BitVec 8))) (n : Nat) (q : Tlp),
    let k := match w with | some l => l.length | none => n
    s.hostReaches = false ∨ s.faults.windthrow = true
      ∨ (gladePieces a.toNat k).any (fun q => s.stalledAt q.1 q.2) = true →
    exec (.bar2Access a w n q) s = .next s)
  ∧ (∀ (s : State) (ring : Fin 1024) (idx : Nat), ∃ t, exec (.fence ring idx) s = .next t ∧ Rest s t [.out, .regs,
    .hbm, .flash, .rings, .plots, .pcie, .faults])
  ∧ (∀ (s : State) (ring : Fin 1024) (idx : Nat), ∃ t, exec (.flagSet ring idx) s = .next t ∧ Rest s t [.out, .regs,
    .hbm, .flash, .slabs, .rings, .plots, .pcie, .faults])
  ∧ (∀ (s : State) (ring : Fin 1024) (idx : Nat), ∃ t, exec (.flagWait ring idx) s = .next t ∧ Rest s t [.out, .regs,
    .hbm, .flash, .rings, .plots, .pcie, .faults])
  ∧ (∀ (s : State) (ring : Fin 1024) (idx : Nat), ∃ t, exec (.flagWaitMatch ring idx) s = .next t ∧ Rest s t [.rings])
  ∧ (∀ (s : State) (path : Fin 6) (entry : Fin 65536) (value : BitVec 64) (whole : Bool), ∃ t, exec (.slabEntryWrite
    path entry value whole) s = .next t ∧ Rest s t [.regs, .slabs])
  ∧ (∀ (s : State) (addr : BitVec 36) (write : Option (List (BitVec 8))) (len : Nat) (tlp : Tlp), ∃ t, exec
    (.bar2Access addr write len tlp) s = .next t ∧ Rest s t [.out, .regs, .hbm, .flash, .plots, .pcie, .power,
    .faults, .bytes])

/-- R376, R380, R381, R383, R389: a BIND that passes its checks makes the plot BINDING, one that fails them or finds it
bound sets ERR; the manager's marks the plot as managed under its lease; a drained plot is released at once, another is
reset first, the manager's release ends its lease, and a managed plot refuses the host's; a lease register is written in
UNBOUND alone, and any other write of one is counted.  A command whose source does not reach the plot has no effect.
Each of the three commands answers a next state in every state, and every part of the state but those listed is as
before. -/
def Obligations.PlotsAreBoundReleasedAndLeased : Prop :=
  (∀ (s : State) (p : Fin 64) (path : Fin 6), s.writeOpen path (plotAddr p) = true → s.plotState p = plotUNBOUND →
    s.bindErr p = 0 →
    ∃ t, exec (.bind p (.path path)) s = .next t ∧ t.plotState p = plotBINDING ∧ t.rd (PLOT_STS.ERR p) = 0
      ∧ OnlyFields s t [(PLOT_STS.STATE p).key, (PLOT_STS.ERR p).key])
  ∧ (∀ (s : State) (p : Fin 64) (src : PlotSource), s.sourceOpen src (plotAddr p) = true →
    s.plotState p ≠ plotUNBOUND →
    ∃ t, exec (.bind p src) s = .next t ∧ t.rd (PLOT_STS.ERR p) = 3 ∧ OnlyFields s t [(PLOT_STS.ERR p).key])
  ∧ (∀ (s : State) (p : Fin 64) (path : Fin 6), s.writeOpen path (plotAddr p) = true → s.plotState p = plotUNBOUND →
    s.bindErr p ≠ 0 →
    ∃ t, exec (.bind p (.path path)) s = .next t ∧ t.rd (PLOT_STS.ERR p) = s.bindErr p
      ∧ OnlyFields s t [(PLOT_STS.ERR p).key])
  ∧ (∀ (s : State) (p : Fin 64) (lease : BitVec 32) (nodes : List (Fin 1024)), s.fabricUp = true →
    s.plotState p = plotUNBOUND →
    ∃ t, exec (.bind p (.manager lease nodes)) s = .next t
      ∧ t.plotState p = (if s.bindErr p = 0 then plotBINDING else plotUNBOUND) ∧ t.rd (PLOT_STS.ERR p) = s.bindErr p
      ∧ t.rd (PLOT_STS.MANAGED p) = 1 ∧ t.rd (PLOT_LEASE_ID.LEASE_ID p) = lease.toNat
      ∧ (s.rd STS_MGT_ROLE.MGR_ROLE = 1 → nodes ≠ [] → Tab.val t.mgr.leases lease.toNat = nodes.map (fun n => n.val))
      ∧ t = { s with regs := t.regs, mgr := { s.mgr with leases := t.mgr.leases } }
      ∧ FieldsKept s t [(PLOT_STS.STATE p).key, (PLOT_STS.ERR p).key, (PLOT_STS.MANAGED p).key, (PLOT_LEASE_ID.LEASE_ID p).key])
  ∧ (∀ (s : State) (p : Fin 64) (src : PlotSource), s.sourceOpen src (plotAddr p) = false →
    exec (.bind p src) s = .next s ∧ exec (.release p src) s = .next s)
  ∧ (∀ (s : State) (p : Fin 64) (path : Fin 6), s.writeOpen path (plotAddr p) = true → s.rd (PLOT_STS.MANAGED p) ≠ 1 →
    s.plotState p = plotBOUND → s.drained p = true →
    ∃ t, exec (.release p (.path path)) s = .next t ∧ t.plotState p = plotUNBOUND ∧ (t.plot p).routines = []
      ∧ (t.plot p).reset = none ∧ SameMemory s t ∧ t.rings = s.rings
      ∧ FieldsKept s t ([(PLOT_STS.STATE p).key, (PLOT_STS.RETIRED_PAGES p).key] ++ pathKeys))
  ∧ (∀ (s : State) (p : Fin 64) (path : Fin 6), s.writeOpen path (plotAddr p) = true → s.rd (PLOT_STS.MANAGED p) ≠ 1 →
    s.plotState p = plotBOUND → s.drained p = false →
    ∃ t, exec (.release p (.path path)) s = .next t ∧ ResetBegins s t p true true)
  ∧ (∀ (s : State) (p : Fin 64) (lease : BitVec 32) (nodes : List (Fin 1024)), s.fabricUp = true →
    s.plotState p = plotBOUND →
    ∃ t, exec (.release p (.manager lease nodes)) s = .next t
      ∧ t.plotState p = (if s.drained p = true then plotUNBOUND else plotRESETTING)
      ∧ t.rd (PLOT_STS.MANAGED p) = 0 ∧ t.rd (PLOT_LEASE_ID.LEASE_ID p) = 0
      ∧ (s.isManager = true → Tab.look t.mgr.leases lease.toNat = none) ∧ SameMemory s t ∧ t.rings = s.rings)
  ∧ (∀ (s : State) (p : Fin 64) (src : PlotSource), s.sourceOpen src (plotAddr p) = true →
    (s.managedFrom p src = true ∨ s.plotState p ≠ plotBOUND) →
    ∃ t, exec (.release p src) s = .next t ∧ t.rd (PLOT_STS.ERR p) = (if s.managedFrom p src = true then 4 else 3)
      ∧ OnlyFields s t [(PLOT_STS.ERR p).key])
  ∧ (∀ (s : State) (p : Fin 64) (path : Fin 6) (v : BitVec 32), s.writeOpen path (plotAddr p + 0x10) = true →
    s.rd (PLOT_STS.MANAGED p) ≠ 1 → s.plotState p = plotUNBOUND →
    ∃ t, exec (.plotLeaseWrite (.path path) (BitVec.ofNat 24 (plotAddr p + 0x10)) v) s = .next t
      ∧ t.rd (PLOT_ARRAYS_LO.ARRAYS_LO p) = v.toNat ∧ OnlyFields s t [(PLOT_ARRAYS_LO.ARRAYS_LO p).key])
  ∧ (∀ (s : State) (p : Fin 64) (src : PlotSource) (o : Fin 512) (v : BitVec 32),
    s.sourceOpen src (plotAddr p + o) = true → leaseOffset o = true → s.managedFrom p src = false →
    s.plotState p = plotUNBOUND →
    exec (.plotLeaseWrite src (BitVec.ofNat 24 (plotAddr p + o)) v) s
      = .next ((s.noteLease p src).storeWord (plotAddr p + o) v.toNat))
  ∧ (∀ (s : State) (p : Fin 64) (src : PlotSource) (o : Fin 512) (v : BitVec 32),
    s.sourceOpen src (plotAddr p + o) = true → leaseOffset o = true →
    s.managedFrom p src = true ∨ s.plotState p ≠ plotUNBOUND →
    ∃ t, exec (.plotLeaseWrite src (BitVec.ofNat 24 (plotAddr p + o)) v) s = .next t
      ∧ t.rd (CNT_FIREBREAK.LEASE_REFUSED p)
          = min (s.rd (CNT_FIREBREAK.LEASE_REFUSED p) + 1) (2 ^ (CNT_FIREBREAK.LEASE_REFUSED p).width - 1)
      ∧ t.rd (PLOT_STS.ERR p) = (if s.managedFrom p src = true then 4 else s.rd (PLOT_STS.ERR p))
      ∧ OnlyFields s t [(CNT_FIREBREAK.LEASE_REFUSED p).key, (PLOT_STS.ERR p).key])
  ∧ (∀ (s : State) (src : PlotSource) (a : BitVec 24) (v : BitVec 32), a.toNat < 0x80000 ∨ 0x88000 ≤ a.toNat
      ∨ leaseOffset (a.toNat % 0x200) = false ∨ s.sourceOpen src a.toNat = false →
    exec (.plotLeaseWrite src a v) s = .next s)
  ∧ (∀ (s : State) (plot : Fin 64) (src : PlotSource), ∃ t, exec (.bind plot src) s = .next t ∧ Rest s t [.regs,
    .mgr])
  ∧ (∀ (s : State) (plot : Fin 64) (src : PlotSource), ∃ t, exec (.release plot src) s = .next t ∧ Rest s t [.draws,
    .out, .regs, .hbm, .pkg, .engines, .plots, .matJobs, .vecJobs, .fabric, .ports, .tags, .mgr, .pcie, .sec, .cores,
    .maint])
  ∧ (∀ (s : State) (src : PlotSource) (addr : BitVec 24) (v : BitVec 32), ∃ t, exec (.plotLeaseWrite src addr v) s =
    .next t ∧ Rest s t [.regs, .mgr])

/-- R171, R374, R382, R384 to R386, R401: a plot becomes BOUND with its extents clean, its engines seeded, its handles not
valid and its energy at zero, and resets at once where a C2 event came while it was BINDING; a reset stops the plot, one
more while it resets adds its clearing, and one of a plot that is not bound sets ERR; the plot's slabs are free and its
rings disabled once it is quiet, or once the drain time has ended and the engines that still run are reset, or an engine
that cannot be is C3; then it is BOUND again, with clearing only if that was asked for, or released.  In any other state
of the plot the command has no effect.  Each of the six commands answers a next state in every state, and every part of
the state but those listed is as before. -/
def Obligations.PlotsComeIntoServiceAndReset : Prop :=
  (∀ (s : State) (p : Fin 64), s.plotState p = plotBINDING →
    ∃ t, exec (.bindComplete p) s = .next t
      ∧ t.plotState p = (if (s.plot p).c2Binding = true then plotRESETTING else plotBOUND) ∧ t.rd (PLOT_STS.ERR p) = 0
      ∧ Cleaned s t p
      ∧ (∀ gd v, gd < 16 → v < 4 → s.leasesVe p gd v = true →
          (t.engine gd (3 + v)).seeds = (s.engine gd (3 + v)).seeds + 1)
      ∧ (∀ h, (t.tensorOf p h).valid = false) ∧ (t.plot p).step = none ∧ (t.plot p).routines = []
      ∧ (t.plot p).lastNum = none ∧ t.rd64 (PWR_PLOT_ENERGY_LO.COUNT_LO p) (PWR_PLOT_ENERGY_HI.COUNT_HI p) = 0
      ∧ t.host = s.host ∧ t.rings = s.rings ∧ (∀ q, q < 64 → q ≠ p.val → t.plotState q = s.plotState q))
  ∧ (∀ (s : State) (p : Fin 64), s.plotState p ≠ plotBINDING → exec (.bindComplete p) s = .next s)
  ∧ (∀ (s : State) (p : Fin 64) (src : PlotSource), s.sourceOpen src (plotAddr p) = true → s.plotState p = plotBOUND →
    (∃ t, exec (.reset p src) s = .next t ∧ ResetBegins s t p false false)
    ∧ ∃ t, exec (.resetClear p src) s = .next t ∧ ResetBegins s t p true false)
  ∧ (∀ (s : State) (p : Fin 64) (src : PlotSource), s.sourceOpen src (plotAddr p) = true →
    s.plotState p = plotRESETTING →
    (∃ t, exec (.reset p src) s = .next t ∧ (t.plot p).reset = (s.plot p).reset ∧ t.plotState p = plotRESETTING
      ∧ SameMemory s t ∧ t.rings = s.rings)
    ∧ ∃ t, exec (.resetClear p src) s = .next t
      ∧ (t.plot p).reset = (s.plot p).reset.map (fun r => { r with clear := true }) ∧ t.plotState p = plotRESETTING
      ∧ SameMemory s t ∧ t.rings = s.rings)
  ∧ (∀ (s : State) (p : Fin 64) (src : PlotSource), s.sourceOpen src (plotAddr p) = true →
    s.plotState p ≠ plotBOUND → s.plotState p ≠ plotRESETTING →
    ∃ t, exec (.reset p src) s = .next t ∧ exec (.resetClear p src) s = .next t
      ∧ t.rd (PLOT_STS.ERR p) = 3 ∧ OnlyFields s t [(PLOT_STS.ERR p).key])
  ∧ (∀ (s : State) (p : Fin 64) (src : PlotSource), s.sourceOpen src (plotAddr p) = false →
    exec (.reset p src) s = .next s ∧ exec (.resetClear p src) s = .next s)
  ∧ (∀ (s : State) (p : Fin 64) (r : PlotReset), s.resetOf p = some r → r.drained = false → s.quietPlot p = true →
    ∃ t, exec (.plotDrained p) s = .next t ∧ (t.plot p).reset = some { r with drained := true }
      ∧ (t.plot p).step = none
      ∧ (∀ q ∈ s.ringsOf p, t.rd (RING_CFG.ENABLE q) = 0 ∧ t.rd (RING_STS.STATE q) = 0 ∧ (t.ring q).entries = [])
      ∧ (∀ n, (s.slab n).owned.toNat = p.val → (t.slab n).owner = ownFREE)
      ∧ (∀ n, (s.slab n).owned.toNat ≠ p.val → t.slab n = s.slab n)
      ∧ (∀ i, i < s.rd (PLOT_SLOTS.SLOT_COUNT p) → t.slot (s.rd (PLOT_SLOTS.SLOT_FIRST p) + i) = [])
      ∧ ((s.plot p).step = none → t.host = s.host) ∧ t.hbm = s.hbm)
  ∧ (∀ (s : State) (p : Fin 64), (∀ r, s.resetOf p = some r → r.drained = true ∨ s.quietPlot p = false) →
    exec (.plotDrained p) s = .next s)
  ∧ (∀ (s : State) (p : Fin 64) (l : List (Fin 16 × Fin 9)) (r : PlotReset), s.resetOf p = some r → r.drained = false →
    r.startedAt + s.rd FLT_TMO_DRAIN.MS * perMs ≤ s.now →
    ∃ t, exec (.plotDrainTimeout p none l) s = .next t ∧ (t.plot p).reset = some { r with drained := true }
      ∧ (∀ u ∈ t.tags.used, u.plot ≠ some p.val)
      ∧ (∀ e ∈ l, s.ownerOfEngine e.1 e.2 = some p.val → (s.engine e.1 e.2).resets < (t.engine e.1 e.2).resets)
      ∧ (∀ gd e, s.ownerOfEngine gd e ≠ some p.val → t.engine gd e = s.engine gd e)
      ∧ (∀ q ∈ s.ringsOf p, t.rd (RING_CFG.ENABLE q) = 0 ∧ t.rd (RING_STS.STATE q) = 0 ∧ (t.ring q).entries = [])
      ∧ ((s.plot p).step = none → t.host = s.host) ∧ t.hbm = s.hbm)
  ∧ (∀ (s : State) (p : Fin 64) (gd : Fin 16) (l : List (Fin 16 × Fin 9)) (r : PlotReset), s.resetOf p = some r →
    r.drained = false → r.startedAt + s.rd FLT_TMO_DRAIN.MS * perMs ≤ s.now →
    ∃ t, exec (.plotDrainTimeout p (some gd) l) s = .next t ∧ t.waitsForCore1 gd 28 ∧ SameMemory s t
      ∧ (∀ u ∈ t.tags.used, u.plot ≠ some p.val) ∧ t.rings = s.rings ∧ t.slabs = s.slabs)
  ∧ (∀ (s : State) (p : Fin 64) (stuck : Option (Fin 16)) (l : List (Fin 16 × Fin 9)),
    (∀ r, s.resetOf p = some r → r.drained = true ∨ s.now < r.startedAt + s.rd FLT_TMO_DRAIN.MS * perMs) →
    exec (.plotDrainTimeout p stuck l) s = .next s)
  ∧ (∀ (s : State) (p : Fin 64) (r : PlotReset), s.resetOf p = some r → r.drained = true → r.release = false →
    r.clear = false →
    ∃ t, exec (.plotResetComplete p) s = .next t ∧ t.plotState p = plotBOUND ∧ (t.plot p).reset = none
      ∧ (t.plot p).handles = (s.plot p).handles ∧ (t.plot p).routines = (s.plot p).routines ∧ SameMemory s t
      ∧ t.rings = s.rings)
  ∧ (∀ (s : State) (p : Fin 64) (r : PlotReset), s.resetOf p = some r → r.drained = true → r.clear = true →
    ∃ t, exec (.plotResetComplete p) s = .next t
      ∧ t.plotState p = (if r.release = true then plotUNBOUND else plotBOUND) ∧ (t.plot p).reset = none
      ∧ (∀ h, (t.tensorOf p h).valid = false) ∧ (t.plot p).routines = [] ∧ Cleaned s t p
      ∧ t.host = s.host ∧ t.stash = s.stash)
  ∧ (∀ (s : State) (p : Fin 64) (r : PlotReset), s.resetOf p = some r → r.drained = true → r.release = true →
    r.clear = false →
    ∃ t, exec (.plotResetComplete p) s = .next t ∧ t.plotState p = plotUNBOUND ∧ (t.plot p).reset = none
      ∧ (t.plot p).routines = [] ∧ SameMemory s t ∧ t.rings = s.rings)
  ∧ (∀ (s : State) (p : Fin 64), (∀ r, s.resetOf p = some r → r.drained = false) →
    exec (.plotResetComplete p) s = .next s)
  ∧ (∀ (s : State) (plot : Fin 64), ∃ t, exec (.bindComplete plot) s = .next t ∧ Rest s t [.draws, .out, .regs, .hbm,
    .pkg, .engines, .slabs, .plots, .stash, .matJobs, .vecJobs, .fabric, .ports, .puts, .tags, .mgr, .pcie, .sec,
    .cores, .glob, .bytes])
  ∧ (∀ (s : State) (plot : Fin 64) (src : PlotSource), ∃ t, exec (.reset plot src) s = .next t ∧ Rest s t [.draws,
    .out, .regs, .engines, .plots, .matJobs, .vecJobs, .fabric, .ports, .tags, .mgr, .pcie, .sec, .cores])
  ∧ (∀ (s : State) (plot : Fin 64) (src : PlotSource), ∃ t, exec (.resetClear plot src) s = .next t ∧ Rest s t
    [.draws, .out, .regs, .engines, .plots, .matJobs, .vecJobs, .fabric, .ports, .tags, .mgr, .pcie, .sec, .cores])
  ∧ (∀ (s : State) (plot : Fin 64), ∃ t, exec (.plotDrained plot) s = .next t ∧ Rest s t [.draws, .out, .regs, .host,
    .slabs, .rings, .plots, .stash, .fabric, .ports, .puts, .tags, .mgr, .sec, .power])
  ∧ (∀ (s : State) (plot : Fin 64) (stuck : Option (Fin 16)) (running : List (Fin 16 × Fin 9)), ∃ t, exec
    (.plotDrainTimeout plot stuck running) s = .next t ∧ Rest s t [.draws, .out, .regs, .host, .flash, .engines,
    .slabs, .rings, .plots, .stash, .fabric, .ports, .puts, .tags, .mgr, .pcie, .sec, .power, .faults])
  ∧ (∀ (s : State) (plot : Fin 64), ∃ t, exec (.plotResetComplete plot) s = .next t ∧ Rest s t [.draws, .out, .regs,
    .hbm, .pkg, .engines, .plots, .mgr, .pcie, .sec, .cores, .glob, .bytes])

/-- R12, R311, R407 to R410, R470 to R473, R484, R486, R505 to R507, R511, R512: power-on boots a verified image, or enters
recovery with none, and retires the lanes that fail qualification; PERST_N stops the dies and boots again, or resets PCI
Express alone in windthrow and Dormant, and its release begins link training, ends Dormant and may make the candidate the
manager; a good request starts one warm reset, which stops the dies, keeps the settings and boots; WAKE ends Dormant; a
scan instruction stops every die and is C3.  In any other state, or with any other word, a command has no effect.  Each of
the eight commands answers a next state in every state, and every part of the state but those listed is as before. -/
def Obligations.ResetsBootAnImage : Prop :=
  (∀ (s : State) (ok : Bool), s.glob.poweredOn = false → s.imageA →
    ∃ t, exec (.powerOn { cfgOk := ok, badLanes := [] }) s = .next t ∧ t.glob.poweredOn = true ∧ RunsA s t ∧ t.now = 0
      ∧ t.rd SEC_STS.CFG_DEFAULTED = b2n (!ok) ∧ t.host = s.host)
  ∧ (∀ (s : State) (ok : Bool), s.glob.poweredOn = false → (s.flash.imgA.state = 0 ∨ 2 < s.flash.imgA.state) →
    (s.flash.imgB.state = 0 ∨ 2 < s.flash.imgB.state) →
    ∃ t, exec (.powerOn { cfgOk := ok, badLanes := [] }) s = .next t ∧ t.glob.poweredOn = true ∧ t.sec.booted = false
      ∧ t.rd SEC_STS.RECOVERY = 1 ∧ t.rd CTL_BRINGUP_STS.PHASE = 4 ∧ t.rd CTL_CORE_STS.RUNNING = 0)
  ∧ (∀ (s : State) (env : BootEnv), s.glob.poweredOn = false →
    ∃ t, exec (.powerOn env) s = .next t ∧ t.glob.poweredOn = true
      ∧ ∀ x ∈ env.badLanes, t.laneServes x.1 x.2.1 x.2.2 = false)
  ∧ (∀ (s : State) (env : BootEnv), s.glob.poweredOn = true → exec (.powerOn env) s = .next s)
  ∧ (∀ (s : State) (ok : Bool), s.glob.perstLow = false → s.glob.poweredOn = true → s.faults.windthrow = false →
    s.glob.dormant = false → s.imageA →
    ∃ t, exec (.perstNAssert { cfgOk := ok, badLanes := [] }) s = .next t ∧ RunsA s t ∧ t.glob.perstLow = true
      ∧ t.rd STS_PCIE_LINK.UP = 0 ∧ t.rings = [] ∧ t.plots = [] ∧ t.host = s.host
      ∧ (∀ f, isSetting f.key = true → t.rd f = s.rd f))
  ∧ (∀ (s : State) (env : BootEnv), s.glob.perstLow = false → s.glob.poweredOn = true →
    (s.faults.windthrow = true ∨ s.glob.dormant = true) →
    ∃ t, exec (.perstNAssert env) s = .next t ∧ t.glob = { s.glob with perstLow := true } ∧ t.pcie = {}
      ∧ t.rd STS_PCIE_LINK.UP = 0 ∧ t = { s with regs := t.regs, pcie := t.pcie, glob := t.glob }
      ∧ FieldsKept s t [STS_PCIE_LINK.UP.key, STS_PCIE_LINK.WIDTH.key, STS_PCIE_LINK.RATE.key])
  ∧ (∀ (s : State) (env : BootEnv), s.glob.perstLow = false → s.glob.poweredOn = false →
    exec (.perstNAssert env) s = .next { s with glob := { s.glob with perstLow := true } })
  ∧ (∀ (s : State) (env : BootEnv), s.glob.perstLow = true → exec (.perstNAssert env) s = .next s)
  ∧ (∀ (s : State) (sel : Bool) (env : BootEnv), s.glob.perstLow = true → s.glob.poweredOn = true →
    s.glob.dormant = false →
    ∃ t, exec (.perstNRelease sel env) s = .next t
      ∧ t.glob = { s.glob with perstLow := false } ∧ t.mgr.mgrSel = sel ∧ t.mgr.candidate = s.flash.cfgManager.getD sel
      ∧ (s.faults.windthrow = false → t.mgr.candidate = true → s.sec.booted = true → s.rd STS_MGT_ROLE.ROLE = 0 →
          t.isManager = true)
      ∧ t.pcie = { s.pcie with training := true } ∧ SameMemory s t ∧ t.rings = s.rings)
  ∧ (∀ (s : State) (sel ok : Bool), s.glob.perstLow = true → s.glob.poweredOn = true → s.glob.dormant = true → s.imageA →
    ∃ t, exec (.perstNRelease sel { cfgOk := ok, badLanes := [] }) s = .next t ∧ RunsA s t ∧ t.glob.dormant = false
      ∧ t.glob.perstLow = false ∧ t.pcie.training = true ∧ t.mgr.mgrSel = sel)
  ∧ (∀ (s : State) (sel : Bool) (env : BootEnv), s.glob.perstLow = true → s.glob.poweredOn = false →
    exec (.perstNRelease sel env) s = .next { s with
      glob := { s.glob with perstLow := false }
      mgr := { s.mgr with mgrSel := sel, candidate := s.flash.cfgManager.getD sel } })
  ∧ (∀ (s : State) (sel : Bool) (env : BootEnv), s.glob.perstLow = false → exec (.perstNRelease sel env) s = .next s)
  ∧ (∀ (s : State) (path : Fin 6) (v : BitVec 32), s.writeOpen path 0x110 = true → bits v.toNat 31 16 = 0xA17E →
    bits v.toNat 1 0 = 1 → s.faults.windthrow = false → s.glob.dormant = false →
    ∃ t, exec (.ctlReset path v) s = .next t ∧ t.glob.warm = true ∧ (s.glob.warm = false → t.faults.stopped = true)
      ∧ SameMemory s t ∧ t.rings = s.rings ∧ t.regs = s.regs)
  ∧ (∀ (s : State) (path : Fin 6) (v : BitVec 32), s.writeOpen path 0x110 = false ∨ bits v.toNat 31 16 ≠ 0xA17E
      ∨ bits v.toNat 1 0 ≠ 1 ∨ s.faults.windthrow = true ∨ s.glob.dormant = true ∨ s.glob.warm = true →
    exec (.ctlReset path v) s = .next s)
  ∧ (∀ (s : State), s.sideband = true → s.faults.windthrow = false →
    ∃ t, exec (.warmReset true 0xA17E) s = .next t ∧ t.glob.warm = true
      ∧ (s.glob.warm = false → t.faults.stopped = true) ∧ SameMemory s t ∧ t.rings = s.rings ∧ t.regs = s.regs)
  ∧ (∀ (s : State) (word : BitVec 16) (ok : Bool), ok = false ∨ s.sideband = false ∨ word ≠ 0xA17E
      ∨ s.faults.windthrow = true ∨ s.glob.warm = true → exec (.warmReset ok word) s = .next s)
  ∧ (∀ (s : State) (ok : Bool), s.glob.warm = true → s.faults.windthrow = false → s.imageA →
    ∃ t, exec (.warmResetDieStop { cfgOk := ok, badLanes := [] }) s = .next t ∧ RunsA s t ∧ t.glob.warm = false
      ∧ t.rings = [] ∧ t.plots = [] ∧ t.host = s.host ∧ (∀ f, isSetting f.key = true → t.rd f = s.rd f))
  ∧ (∀ (s : State) (env : BootEnv), s.glob.warm = false ∨ s.faults.windthrow = true →
    exec (.warmResetDieStop env) s = .next s)
  ∧ (∀ (s : State) (ok : Bool), s.glob.dormant = true → s.imageA →
    ∃ t, exec (.wake true { cfgOk := ok, badLanes := [] }) s = .next t ∧ RunsA s t ∧ t.glob.dormant = false
      ∧ t.host = s.host)
  ∧ (∀ (s : State) (good : Bool) (env : BootEnv), good = false ∨ s.glob.dormant = false →
    exec (.wake good env) s = .next s)
  ∧ (∀ (s : State), s.glob.poweredOn = true → s.faults.scanStop = false →
    ∃ t, exec .scanInstruction s = .next t ∧ t.faults.scanStop = true ∧ t.running = false
      ∧ t.rd CNT_FLT_B.C3 = min (s.rd CNT_FLT_B.C3 + 1) (2 ^ CNT_FLT_B.C3.width - 1) ∧ SameMemory s t ∧ t.rings = s.rings)
  ∧ (∀ (s : State), s.glob.poweredOn = false ∨ s.faults.scanStop = true → exec .scanInstruction s = .next s)
  ∧ (∀ (s : State) (env : BootEnv), ∃ t, exec (.powerOn env) s = .next t ∧ Rest s t [.draws, .out, .regs, .hbm, .pkg,
    .flash, .clocks, .slabs, .rings, .plots, .fabric, .ports, .puts, .tags, .mgr, .mac, .pcie, .sec, .power, .faults,
    .maint, .glob])
  ∧ (∀ (s : State) (env : BootEnv), ∃ t, exec (.perstNAssert env) s = .next t ∧ Rest s t [.draws, .out, .regs, .hbm,
    .pkg, .flash, .clocks, .engines, .slabs, .rings, .plots, .stash, .matJobs, .vecJobs, .fabric, .ports, .puts,
    .tags, .mgr, .mac, .pcie, .sec, .cores, .power, .faults, .maint, .glob, .bytes])
  ∧ (∀ (s : State) (mgrSel : Bool) (env : BootEnv), ∃ t, exec (.perstNRelease mgrSel env) s = .next t ∧ Rest s t
    [.draws, .out, .regs, .hbm, .pkg, .flash, .clocks, .engines, .slabs, .rings, .plots, .stash, .matJobs, .vecJobs,
    .fabric, .ports, .puts, .tags, .mgr, .mac, .pcie, .sec, .cores, .power, .faults, .maint, .glob, .bytes])
  ∧ (∀ (s : State) (path : Fin 6) (v : BitVec 32), ∃ t, exec (.ctlReset path v) s = .next t ∧ Rest s t [.out, .ports,
    .mac, .faults, .glob])
  ∧ (∀ (s : State) (pecOk : Bool) (word : BitVec 16), ∃ t, exec (.warmReset pecOk word) s = .next t ∧ Rest s t [.out,
    .ports, .mac, .faults, .glob])
  ∧ (∀ (s : State) (env : BootEnv), ∃ t, exec (.warmResetDieStop env) s = .next t ∧ Rest s t [.draws, .out, .regs,
    .hbm, .pkg, .flash, .clocks, .engines, .slabs, .rings, .plots, .stash, .matJobs, .vecJobs, .fabric, .ports, .puts,
    .tags, .mgr, .mac, .pcie, .sec, .cores, .power, .faults, .maint, .glob, .bytes])
  ∧ (∀ (s : State) (pecOk : Bool) (env : BootEnv), ∃ t, exec (.wake pecOk env) s = .next t ∧ Rest s t [.draws, .out,
    .regs, .hbm, .pkg, .flash, .clocks, .engines, .slabs, .rings, .plots, .stash, .matJobs, .vecJobs, .fabric, .ports,
    .puts, .tags, .mgr, .mac, .pcie, .sec, .cores, .power, .faults, .maint, .glob, .bytes])
  ∧ (∀ (s : State), ∃ t, exec .scanInstruction s = .next t ∧ Rest s t [.out, .regs, .flash, .ports, .mac, .faults,
    .glob])

/-- R12, R15, R407, R409, R410, R473, R474, R477 to R479: a trained stack is shown, one that fails fences its die; the
firmware extension loads, or its image is BAD and the other image boots or recovery is entered; a qualified die joins at
VMIN with what bound plots lease on it clean and seeded, one that fails its tests is fenced, one that no route reaches
waits, and the lanes that fail with it are retired; full bring-up fences the rest and what lies outside the larger set,
moves the ports to their adders and lets set-aside tiles run.  In any other state a command has no effect.  Each of the
four commands answers a next state in every state, and every part of the state but those listed is as before. -/
def Obligations.BringUpJoinsDies : Prop :=
  (∀ (s : State) (n : Fin 16), s.bringing = true → s.fenced n = false → (s.stack n).trained = false →
    s.loopLocked (1 + n / 4) = true →
    ∃ t, exec (.stackTrained n true) s = .next t ∧ (t.stack n).trained = true ∧ t.rdBit STS_INSERVICE.STACKS n = true
      ∧ (∀ k, k ≠ n.val → t.stack k = s.stack k) ∧ SameMemory s t ∧ t = { s with regs := t.regs, hbm := t.hbm }
      ∧ FieldsKept s t [STS_INSERVICE.STACKS.key])
  ∧ (∀ (s : State) (n : Fin 16), s.bringing = true → s.fenced n = false → (s.stack n).trained = false →
    s.loopLocked (1 + n / 4) = true →
    ∃ t, exec (.stackTrained n false) s = .next t ∧ t.fenced n = true ∧ t.groveUp n = false ∧ SameMemory s t
      ∧ (s.noRoot = false → t.noRoot = true → t.faults.c3Times.getLast? = some s.now))
  ∧ (∀ (s : State) (n : Fin 16) (good : Bool), s.bringing = false ∨ s.fenced n = true ∨ (s.stack n).trained = true
      ∨ s.loopLocked (1 + n / 4) = false → exec (.stackTrained n good) s = .next s)
  ∧ (∀ (s : State), s.bringing = true → s.sec.extension = false →
    (s.stack (if s.fenced 0 then 8 else 0)).trained = true →
    exec (.extensionLoad true) s = .next { s with sec := { s.sec with extension := true } })
  ∧ (∀ (s : State) (b : Bool), s.bringing = true → s.sec.extension = false →
    (s.stack (if s.fenced 0 then 8 else 0)).trained = true → b = decide (s.rd SEC_STS.BOOT_IMAGE = 1) →
    ∃ t, exec (.extensionLoad false) s = .next t ∧ (t.flash.img b).state = 4 ∧ SameMemory s t
      ∧ ((s.flash.img (!b)).state = 1 ∨ (s.flash.img (!b)).state = 2 → s.verified (s.flash.img (!b)) = true →
          t.sec.booted = true ∧ t.rd SEC_STS.BOOT_IMAGE = b2n (!b) ∧ t.rd CTL_BRINGUP_STS.PHASE = 1)
      ∧ ((s.flash.img (!b)).state ≠ 1 → (s.flash.img (!b)).state ≠ 2 →
          t.sec.booted = false ∧ t.rd SEC_STS.RECOVERY = 1 ∧ t.rd CTL_BRINGUP_STS.PHASE = 4))
  ∧ (∀ (s : State) (good : Bool), s.bringing = false ∨ s.sec.extension = true
      ∨ (s.stack (if s.fenced 0 then 8 else 0)).trained = false → exec (.extensionLoad good) s = .next s)
  ∧ (∀ (s : State) (gd : Fin 16) (bad : List (Fin 32 × Fin 8 × Fin 32)), s.bringing = true → s.sec.extension = true →
    (s.stack gd).trained = true → s.fenced gd = false → s.groveUp gd = false → s.power.hold = false →
    gd.val ∉ s.clocks.soscBad → (s.qualifyLanes bad).routed gd = true →
    ∃ t, exec (.groveDieJoin gd bad true) s = .next t ∧ t.groveUp gd = true ∧ (t.die gd).supplyOn = true
      ∧ t.rd CTL_BRINGUP_STS.PHASE = 2 ∧ t.host = s.host ∧ t.stash = s.stash
      ∧ ∀ x ∈ bad, t.laneServes x.1 x.2.1 x.2.2 = false)
  ∧ (∀ (s : State) (gd : Fin 16), s.bringing = true → s.sec.extension = true → (s.stack gd).trained = true →
    s.fenced gd = false → s.groveUp gd = false → s.power.hold = false → gd.val ∉ s.clocks.soscBad → s.routed gd = true →
    ∃ t, exec (.groveDieJoin gd [] true) s = .next t ∧ t.groveUp gd = true ∧ (t.die gd).supplyOn = true
      ∧ t.rd (STS_GD_POWER.VOLT_MV gd) = s.rd PWR_VOLT_CFG.VMIN_MV % 2 ^ (STS_GD_POWER.VOLT_MV gd).width
      ∧ t.rd CTL_BRINGUP_STS.PHASE = 2
      ∧ (∀ p e, p ∈ s.boundPlots → e < 91 → s.leasesExt p gd e = true → ∀ a, gd * stackBytes + e * extentBytes ≤ a →
          a < gd * stackBytes + (e + 1) * extentBytes → t.hbm.byte a = 0)
      ∧ (∀ p v, p ∈ s.boundPlots → v < 4 → s.leasesVe p gd v = true →
          (s.engine gd (3 + v)).seeds < (t.engine gd (3 + v)).seeds)
      ∧ t.pkg.fenced = s.pkg.fenced ∧ t.ports = s.ports ∧ t.rings = s.rings
      ∧ FieldsKept s t ([(STS_GD_POWER.VOLT_MV gd).key, STS_INSERVICE.GROVE.key, CTL_BRINGUP_STS.PHASE.key] ++ pathKeys)
      ∧ (∀ d, d ≠ gd.val → t.groveUp d = s.groveUp d))
  ∧ (∀ (s : State) (gd : Fin 16) (bad : List (Fin 32 × Fin 8 × Fin 32)) (tileOk : Bool), s.bringing = true →
    s.sec.extension = true → (s.stack gd).trained = true → s.fenced gd = false → s.groveUp gd = false →
    s.power.hold = false → tileOk = false ∨ gd.val ∈ s.clocks.soscBad →
    ∃ t, exec (.groveDieJoin gd bad tileOk) s = .next t ∧ t.fenced gd = true ∧ SameMemory s t
      ∧ (∀ x ∈ bad, t.laneServes x.1 x.2.1 x.2.2 = false)
      ∧ (bad = [] → s.noRoot = false → t.noRoot = true → t.faults.c3Times.getLast? = some s.now))
  ∧ (∀ (s : State) (gd : Fin 16) (bad : List (Fin 32 × Fin 8 × Fin 32)), s.bringing = true → s.sec.extension = true →
    (s.stack gd).trained = true → s.fenced gd = false → s.groveUp gd = false → s.power.hold = false →
    gd.val ∉ s.clocks.soscBad → (s.qualifyLanes bad).routed gd = false →
    exec (.groveDieJoin gd bad true) s = .next (s.qualifyLanes bad))
  ∧ (∀ (s : State) (gd : Fin 16) (bad : List (Fin 32 × Fin 8 × Fin 32)) (tileOk : Bool), s.bringing = false
      ∨ s.sec.extension = false ∨ (s.stack gd).trained = false ∨ s.fenced gd = true ∨ s.groveUp gd = true
      ∨ s.power.hold = true → exec (.groveDieJoin gd bad tileOk) s = .next s)
  ∧ (∀ (s : State), s.bringing = true → s.rd CTL_BRINGUP_STS.PHASE = 2 →
    ∃ t, exec .bringupFull s = .next t ∧ t.rd CTL_BRINGUP_STS.PHASE = 3
      ∧ t.rd CTL_BRINGUP_STS.FULL_MS = min ((s.now - s.glob.bootAt) / perMs) 65535
      ∧ (∀ d, d < 16 → s.groveUp d = false → t.fenced d = true) ∧ (∀ j ∈ t.matJobs, ∀ x ∈ j.tiles, x.setAside = false)
      ∧ (∀ p ∈ t.fabric.pathVe, p ∉ t.fabric.adderFault → ∃ w ∈ t.fabric.pathWant, w.1 = p)
      ∧ ShowsEnvelope t ∧ SameMemory s t)
  ∧ (∀ (s : State), s.bringing = true → s.rd CTL_BRINGUP_STS.PHASE = 2 →
    (∀ d, d < 16 → s.groveUp d = !s.fenced d) →
    ∃ t, exec .bringupFull s = .next t ∧ ∀ d, d < 16 → s.groveUp d = true →
      if d ∈ s.serviceSet ((List.range 16).filter s.groveUp) then t.groveUp d = true
      else t.groveUp d = false ∧ t.fenced d = true)
  ∧ (∀ (s : State), s.bringing = false ∨ s.rd CTL_BRINGUP_STS.PHASE ≠ 2 → exec .bringupFull s = .next s)
  ∧ (∀ (s : State) (stack : Fin 16) (good : Bool), ∃ t, exec (.stackTrained stack good) s = .next t ∧ Rest s t [.out,
    .regs, .hbm, .pkg, .flash, .slabs, .rings, .fabric, .ports, .puts, .tags, .mac, .power, .faults, .maint, .glob])
  ∧ (∀ (s : State) (good : Bool), ∃ t, exec (.extensionLoad good) s = .next t ∧ Rest s t [.draws, .regs, .flash, .mgr,
    .sec])
  ∧ (∀ (s : State) (gd : Fin 16) (badLanes : List (Fin 32 × Fin 8 × Fin 32)) (tileOk : Bool), ∃ t, exec (.groveDieJoin
    gd badLanes tileOk) s = .next t ∧ Rest s t [.draws, .out, .regs, .hbm, .pkg, .flash, .engines, .slabs, .rings,
    .plots, .fabric, .ports, .puts, .tags, .mac, .pcie, .power, .faults, .maint, .glob, .bytes])
  ∧ (∀ (s : State), ∃ t, exec .bringupFull s = .next t ∧ Rest s t [.draws, .out, .regs, .hbm, .pkg, .flash, .slabs,
    .rings, .matJobs, .fabric, .ports, .puts, .tags, .mac, .power, .faults, .maint, .glob])

/-- R31, R438, R448, R480 to R483, R506, R507: Fallow is entered from RUN at full bring-up with every plot drained, or ERR
says why not; its dies lose and regain their supplies; leaving waits for coolant where coolant put the device there, and
restores the dies at VMIN but fences one whose retest fails and resets its plots; Dormant is refused while a plot is not
UNBOUND, the device is joined or an image is staged, and leaves only the always-on island; a request in any other state
stores AUTO_WAKE alone, and one that does not reach the register, or comes in windthrow, has no effect; the sideband
answers, and takes no command with a bad PEC.  Each of the nine commands answers a next state in every state, and every
part of the state but those listed is as before. -/
def Obligations.PowerStatesAndSideband : Prop :=
  (∀ (s : State) (path : Fin 6) (a : Bool), s.writeOpen path 0x114 = true → s.faults.windthrow = false →
    s.rd CTL_PSTATE.STATE = 0 → s.rd CTL_BRINGUP_STS.PHASE = 3 → s.boundPlots.all s.drained = true →
    ∃ t, exec (.fallow path a) s = .next t ∧ t.rd CTL_PSTATE.STATE = 1 ∧ t.rd CTL_PSTATE.AUTO_WAKE = b2n a
      ∧ (∀ n, n < 16 → s.groveUp n = true → (t.stack n).selfRefresh = true)
      ∧ t.flash.pendLife.length = s.flash.pendLife.length + 1 ∧ SameMemory s t
      ∧ FieldsKept s t [CTL_PSTATE.STATE.key, CTL_PSTATE.AUTO_WAKE.key])
  ∧ (∀ (s : State) (path : Fin 6) (a : Bool), s.writeOpen path 0x114 = true → s.faults.windthrow = false →
    s.rd CTL_PSTATE.STATE = 0 → (s.rd CTL_BRINGUP_STS.PHASE ≠ 3 ∨ s.boundPlots.all s.drained = false) →
    ∃ t, exec (.fallow path a) s = .next t ∧ t.rd CTL_PSTATE.STATE = 0 ∧ t.rd CTL_PSTATE.AUTO_WAKE = b2n a
      ∧ t.rd CTL_PSTATE.ERR = (if s.rd CTL_BRINGUP_STS.PHASE ≠ 3 then 6 else 1)
      ∧ OnlyFields s t [CTL_PSTATE.ERR.key, CTL_PSTATE.AUTO_WAKE.key])
  ∧ (∀ (s : State) (path : Fin 6) (a : Bool), s.writeOpen path 0x114 = true → s.faults.windthrow = false →
    ∃ t, t.rd CTL_PSTATE.AUTO_WAKE = b2n a ∧ OnlyFields s t [CTL_PSTATE.AUTO_WAKE.key]
      ∧ (s.rd CTL_PSTATE.STATE ≠ 0 → exec (.fallow path a) s = .next t)
      ∧ (s.rd CTL_PSTATE.STATE ≠ 2 → exec (.run path a) s = .next t)
      ∧ (s.rd CTL_PSTATE.STATE ≠ 0 → s.rd CTL_PSTATE.STATE ≠ 2 → exec (.dormant path a) s = .next t))
  ∧ (∀ (s : State) (path : Fin 6) (a : Bool), s.writeOpen path 0x114 = false ∨ s.faults.windthrow = true →
    exec (.fallow path a) s = .next s ∧ exec (.run path a) s = .next s ∧ exec (.dormant path a) s = .next s)
  ∧ (∀ (s : State), s.rd CTL_PSTATE.STATE = 1 →
    ∃ t, exec .fallowEntryComplete s = .next t ∧ t.rd CTL_PSTATE.STATE = 2
      ∧ (∀ d, d < 16 → (t.die d).supplyOn = false ∧ t.rd (STS_GD_POWER.VOLT_MV d) = 0)
      ∧ t = { s with regs := t.regs, power := t.power }
      ∧ FieldsKept s t (CTL_PSTATE.STATE.key :: (List.range 16).map (fun d => (STS_GD_POWER.VOLT_MV d).key)))
  ∧ (∀ (s : State), s.rd CTL_PSTATE.STATE ≠ 1 → exec .fallowEntryComplete s = .next s)
  ∧ (∀ (s : State) (path : Fin 6) (a : Bool), s.writeOpen path 0x114 = true → s.faults.windthrow = false →
    s.rd CTL_PSTATE.STATE = 2 →
    ∃ t, exec (.run path a) s = .next t ∧ t.rd CTL_PSTATE.AUTO_WAKE = b2n a
      ∧ (s.glob.coolFallow = true → s.rd PWR_COOL_STS.FLOW_PCT < 80 → t.rd CTL_PSTATE.STATE = 2 ∧ t.rd CTL_PSTATE.ERR = 2)
      ∧ (s.glob.coolFallow = false ∨ 80 ≤ s.rd PWR_COOL_STS.FLOW_PCT → t.rd CTL_PSTATE.STATE = 3
          ∧ t.rd CTL_PSTATE.ERR = s.rd CTL_PSTATE.ERR)
      ∧ OnlyFields s t [CTL_PSTATE.STATE.key, CTL_PSTATE.AUTO_WAKE.key, CTL_PSTATE.ERR.key])
  ∧ (∀ (s : State), s.rd CTL_PSTATE.STATE = 3 →
    ∃ t, exec (.fallowExitComplete []) s = .next t ∧ t.rd CTL_PSTATE.STATE = 0 ∧ t.glob.coolFallow = false
      ∧ t.rd PWR_COOL_STS.STATE = 0
      ∧ (∀ d, d < 16 → s.groveUp d = true → (t.die d).supplyOn = true ∧ (t.stack d).selfRefresh = false
          ∧ t.rd (STS_GD_POWER.VOLT_MV d) = s.rd PWR_VOLT_CFG.VMIN_MV % 2 ^ (STS_GD_POWER.VOLT_MV d).width
          ∧ (∀ b, b < 64 → (t.bank d b).poison = [])
          ∧ t.rd (CTL_GD_PERFSEL.SEL_0 d) = (CTL_GD_PERFSEL.SEL_0 d).reset
          ∧ t.rd (CTL_GD_PERFSEL.SEL_3 d) = (CTL_GD_PERFSEL.SEL_3 d).reset)
      ∧ (∀ c, c < 32 → (t.core c).tcm = []) ∧ SameMemory s t ∧ t.rings = s.rings)
  ∧ (∀ (s : State) (failed : List (Fin 16)), s.rd CTL_PSTATE.STATE = 3 →
    ∃ t, exec (.fallowExitComplete failed) s = .next t ∧ t.rd CTL_PSTATE.STATE = 0 ∧ (∀ d ∈ failed, t.fenced d = true)
      ∧ ∀ p, p < 64 → s.plotState p = plotBOUND → (∃ d ∈ failed, s.fenced d = false ∧ s.holdsDie p d = true) →
          t.plotState p = plotRESETTING)
  ∧ (∀ (s : State) (failed : List (Fin 16)), s.rd CTL_PSTATE.STATE ≠ 3 → exec (.fallowExitComplete failed) s = .next s)
  ∧ (∀ (s : State) (path : Fin 6) (a : Bool), s.writeOpen path 0x114 = true → s.faults.windthrow = false →
    (s.rd CTL_PSTATE.STATE = 0 ∨ s.rd CTL_PSTATE.STATE = 2) → (∀ p, p < 64 → s.plotState p = plotUNBOUND) →
    s.rd STS_MGT_ROLE.ROLE = 0 → s.flash.staging = none →
    ∃ t, exec (.dormant path a) s = .next t ∧ t.rd CTL_PSTATE.STATE = 4 ∧ t.rd CTL_PSTATE.AUTO_WAKE = b2n a
      ∧ t.flash.pendLife.length = s.flash.pendLife.length + 1 ∧ t = { s with regs := t.regs, flash := t.flash }
      ∧ FieldsKept s t [CTL_PSTATE.STATE.key, CTL_PSTATE.AUTO_WAKE.key])
  ∧ (∀ (s : State) (path : Fin 6) (a : Bool) (e : Nat), s.writeOpen path 0x114 = true → s.faults.windthrow = false →
    (s.rd CTL_PSTATE.STATE = 0 ∨ s.rd CTL_PSTATE.STATE = 2) →
    ((e = 5 ∧ ∃ p, p < 64 ∧ s.plotState p ≠ plotUNBOUND)
      ∨ ((∀ p, p < 64 → s.plotState p = plotUNBOUND)
        ∧ ((e = 3 ∧ s.rd STS_MGT_ROLE.ROLE ≠ 0)
          ∨ (e = 4 ∧ s.rd STS_MGT_ROLE.ROLE = 0 ∧ s.flash.staging.isSome = true)))) →
    ∃ t, exec (.dormant path a) s = .next t ∧ t.rd CTL_PSTATE.ERR = e ∧ t.rd CTL_PSTATE.AUTO_WAKE = b2n a
      ∧ t.rd CTL_PSTATE.STATE = s.rd CTL_PSTATE.STATE
      ∧ OnlyFields s t [CTL_PSTATE.ERR.key, CTL_PSTATE.AUTO_WAKE.key])
  ∧ (∀ (s : State), s.rd CTL_PSTATE.STATE = 4 → s.glob.dormant = false →
    ∃ t, exec .dormantEntryComplete s = .next t ∧ t.glob.dormant = true ∧ t.rd CTL_PSTATE.STATE = 4
      ∧ (∀ a, t.hbm.byte a = 0) ∧ t.ports = [] ∧ t.rings = [] ∧ t.slabs = [] ∧ t.host = s.host)
  ∧ (∀ (s : State), s.rd CTL_PSTATE.STATE ≠ 4 ∨ s.glob.dormant = true → exec .dormantEntryComplete s = .next s)
  ∧ (∀ (s : State), s.glob.poweredOn = true →
    exec (.status true) s = .next { s with out := .smbus ([s.rd CTL_BRINGUP_STS.PHASE, s.rd CTL_PSTATE.STATE,
      s.rd FLT_SUMMARY.HIGHEST, s.rd STS_THERM.HOTTEST_C].map (BitVec.ofNat 8)) :: s.out })
  ∧ (∀ (s : State) (ok : Bool), ok = false ∨ s.glob.poweredOn = false → exec (.status ok) s = .next s)
  ∧ (∀ (s : State) (a : BitVec 32), s.sideband = true → s.faults.windthrow = false → a.toNat % 4 = 0 →
    exec (.setAddr true a) s = .next { s with glob := { s.glob with smbAddr := a } })
  ∧ (∀ (s : State) (ok : Bool) (a : BitVec 32), ok = false ∨ s.sideband = false ∨ s.faults.windthrow = true
      ∨ a.toNat % 4 ≠ 0 → exec (.setAddr ok a) s = .next s)
  ∧ (∀ (s : State), s.sideband = true → sidebandBlock s.glob.smbAddr.toNat = true →
    ∃ t, exec (.readReg true) s = .next t ∧ t.glob.smbAddr = s.glob.smbAddr + 4
      ∧ t.out = .smbus (leBytes 4 (s.readWord 5 s.glob.smbAddr.toNat)) :: s.out ∧ (∀ f, t.rd f = s.rd f)
      ∧ t = { s with regs := t.regs, glob := t.glob, out := t.out })
  ∧ (∀ (s : State), s.sideband = true → sidebandBlock s.glob.smbAddr.toNat = false →
    exec (.readReg true) s = .next { s with out := .smbus [0, 0, 0, 0] :: s.out })
  ∧ (∀ (s : State) (ok : Bool), ok = false ∨ s.sideband = false → exec (.readReg ok) s = .next s)
  ∧ (∀ (s : State) (path : Fin 6) (autoWake : Bool), ∃ t, exec (.fallow path autoWake) s = .next t ∧ Rest s t [.regs,
    .hbm, .flash])
  ∧ (∀ (s : State), ∃ t, exec .fallowEntryComplete s = .next t ∧ Rest s t [.regs, .power])
  ∧ (∀ (s : State) (path : Fin 6) (autoWake : Bool), ∃ t, exec (.run path autoWake) s = .next t ∧ Rest s t [.regs])
  ∧ (∀ (s : State) (failed : List (Fin 16)), ∃ t, exec (.fallowExitComplete failed) s = .next t ∧ Rest s t [.draws,
    .out, .regs, .hbm, .pkg, .flash, .engines, .slabs, .rings, .plots, .matJobs, .vecJobs, .fabric, .ports, .puts,
    .tags, .mgr, .pcie, .sec, .cores, .power, .maint, .glob])
  ∧ (∀ (s : State) (path : Fin 6) (autoWake : Bool), ∃ t, exec (.dormant path autoWake) s = .next t ∧ Rest s t [.regs,
    .flash])
  ∧ (∀ (s : State), ∃ t, exec .dormantEntryComplete s = .next t ∧ Rest s t [.out, .regs, .hbm, .pkg, .flash, .clocks,
    .engines, .slabs, .rings, .plots, .stash, .matJobs, .vecJobs, .fabric, .ports, .puts, .tags, .mgr, .mac, .pcie,
    .sec, .cores, .power, .faults, .maint, .glob, .bytes])
  ∧ (∀ (s : State) (pecOk : Bool), ∃ t, exec (.status pecOk) s = .next t ∧ Rest s t [.out])
  ∧ (∀ (s : State) (pecOk : Bool) (ptr : BitVec 32), ∃ t, exec (.setAddr pecOk ptr) s = .next t ∧ Rest s t [.glob])
  ∧ (∀ (s : State) (pecOk : Bool), ∃ t, exec (.readReg pecOk) s = .next t ∧ Rest s t [.out, .regs, .glob])

/-- R30, R410, R412, R413, R467: STAGE is refused, too large, fails verification, waits in Fallow or for the staging lock,
or begins WRITING on the idle slot, which reads EMPTY; each sector is programmed in turn, the last marks the image PENDING,
a sector that reads back wrong is FLASH_ERROR, and an image that no longer verifies ends the staging; ABORT ends it too,
in WRITING at the next sector boundary; recovery takes an image for slot A in chunks.  Records go first, and a write that
does not reach SEC_FW_CTL, or a sector with nothing staged, has no effect.  The image is its bytes with the verdicts of
its verification (assumption 40).  Each of the four commands answers a next state in every state (STAGE and
RECOVERY_CHUNK, whose measurement has 32 bytes, where they are not malformed), and every part of the state but those
listed is as before. -/
def Obligations.ImagesAreStaged : Prop :=
  (∀ (s : State) (path : Fin 6) (c : ImageCheck), c.measurement.length ≠ 32 →
    exec (.stage path c) s = .fault .malformedCommand ∧ exec (.recoveryChunk path c) s = .fault .malformedCommand)
  ∧ (∀ (s : State) (path : Fin 6) (c : ImageCheck), s.fwOpen path = false → c.measurement.length = 32 →
    exec (.stage path c) s = .next s ∧ exec (.abort path) s = .next s)
  ∧ (∀ (s : State) (path : Fin 6) (c : ImageCheck), s.fwOpen path = true →
    (s.rd SEC_CFG.STAGE_EN = 0 ∨ s.flash.staging.isSome = true ∨ s.rd SEC_STS.TRIAL = 1 ∨ s.faults.windthrow = true ∨
      (s.rd SEC_FW_LEN.LEN ≤ 24 * 2 ^ 20 ∧ s.fwPlot s.fwSource (s.rd SEC_FW_LEN.LEN) = false)) →
    c.measurement.length = 32 →
    ∃ t, exec (.stage path c) s = .next t ∧ OnlyResults s t 6)
  ∧ (∀ (s : State) (path : Fin 6) (c : ImageCheck), s.fwOpen path = true → s.rd SEC_CFG.STAGE_EN ≠ 0 →
    s.flash.staging = none → s.rd SEC_STS.TRIAL ≠ 1 → s.faults.windthrow = false → 24 * 2 ^ 20 < s.rd SEC_FW_LEN.LEN →
    c.measurement.length = 32 →
    ∃ t, exec (.stage path c) s = .next t ∧ OnlyResults s t 4)
  ∧ (∀ (s : State) (path : Fin 6) (c : ImageCheck), s.stageTaken path → s.rd CTL_PSTATE.STATE ≠ 0 →
    c.measurement.length = 32 →
    ∃ t, exec (.stage path c) s = .next t ∧ t.rd SEC_FW_STS.STATE = 1
      ∧ t = { s with regs := t.regs, flash := { s.flash with staging := some (s.stagingOf c) } }
      ∧ FieldsKept s t [SEC_FW_STS.STATE.key])
  ∧ (∀ (s : State) (path : Fin 6) (c : ImageCheck) (r : Nat), s.stageTaken path → s.rd CTL_PSTATE.STATE = 0 →
    s.fwVerdict (imageOf c (s.rd SEC_FW_LEN.LEN)) = some r → c.measurement.length = 32 →
    ∃ t, exec (.stage path c) s = .next t ∧ Results s t r ∧ t.flash = s.flash ∧ SameMemory s t ∧ t.rings = s.rings)
  ∧ (∀ (s : State) (path : Fin 6) (c : ImageCheck), s.stageTaken path → s.rd CTL_PSTATE.STATE = 0 → s.inSystem = false →
    s.fwVerdict (imageOf c (s.rd SEC_FW_LEN.LEN)) = none → c.measurement.length = 32 →
    ∃ t, exec (.stage path c) s = .next t ∧ t.rd SEC_FW_STS.STATE = 3 ∧ (t.flash.img (!s.runImage)).state = 0
      ∧ t.flash.staging = some (s.stagingOf c)
      ∧ t.flash.img s.runImage = s.flash.img s.runImage ∧ t = { s with regs := t.regs, flash := t.flash }
      ∧ FieldsKept s t imageKeys)
  ∧ (∀ (s : State) (path : Fin 6) (c : ImageCheck), s.stageTaken path → s.rd CTL_PSTATE.STATE = 0 → s.inSystem = true →
    s.fwVerdict (imageOf c (s.rd SEC_FW_LEN.LEN)) = none → c.measurement.length = 32 →
    ∃ t, exec (.stage path c) s = .next t ∧ t.flash.staging = some (s.stagingOf c)
      ∧ t.flash.img s.runImage = s.flash.img s.runImage ∧ SameMemory s t ∧ t.rings = s.rings
      ∧ (if s.isManager = true ∧ (s.lockRequest stagingLock).hasLock stagingLock = true
          then t.rd SEC_FW_STS.STATE = 3 ∧ (t.flash.img (!s.runImage)).state = 0
          else t.rd SEC_FW_STS.STATE = 1 ∧ t.flash.img (!s.runImage) = s.flash.img (!s.runImage)))
  ∧ (∀ (s : State) (g : Staging) (granted : Bool), s.mayProgram g granted → g.abort = false → 1 < g.sectorsLeft →
    ∃ t, exec (.flashSectorProgram true granted) s = .next t
      ∧ t.flash.staging = some { g with sectorsLeft := g.sectorsLeft - 1, bytes := g.bytes.drop flashSector }
      ∧ (t.flash.img (decide (g.slot = 1))).state = 0
      ∧ (t.flash.img (decide (g.slot = 1))).bytes = s.programmed (decide (g.slot = 1)) g
      ∧ t.flash.img (!decide (g.slot = 1)) = s.flash.img (!decide (g.slot = 1)) ∧ SameMemory s t ∧ t.rings = s.rings
      ∧ (s.isManager = false → t.rd SEC_FW_STS.STATE = 3 ∧ t = { s with regs := t.regs, flash := t.flash }
          ∧ FieldsKept s t imageKeys))
  ∧ (∀ (s : State) (g : Staging) (granted : Bool), s.mayProgram g granted → g.abort = false → g.sectorsLeft ≤ 1 →
    ∃ t, exec (.flashSectorProgram true granted) s = .next t ∧ Results s t 0 ∧ t.flash.staging = none
      ∧ t.flash.img (decide (g.slot = 1)) = { g.image with state := 2, bytes := s.programmed (decide (g.slot = 1)) g }
      ∧ t.flash.img (!decide (g.slot = 1)) = s.flash.img (!decide (g.slot = 1)) ∧ SameMemory s t ∧ t.rings = s.rings)
  ∧ (∀ (s : State) (g : Staging) (good granted : Bool), s.mayProgram g granted → good = false ∨ g.abort = true →
    ∃ t, exec (.flashSectorProgram good granted) s = .next t ∧ Results s t (if good then 7 else 5)
      ∧ t.flash.staging = none ∧ (t.flash.img (decide (g.slot = 1))).state = 0
      ∧ t.flash.img (!decide (g.slot = 1)) = s.flash.img (!decide (g.slot = 1)) ∧ SameMemory s t ∧ t.rings = s.rings)
  ∧ (∀ (s : State) (g : Staging) (good granted : Bool), s.flash.staging = some g → s.flash.waits = false →
    s.sec.booted = true → s.rd CTL_PSTATE.STATE = 0 → s.fwVerdict g.image = none → s.inSystem = true →
    ((s.isManager = false ∧ granted = false)
      ∨ (s.isManager = true ∧ (s.lockRequest stagingLock).hasLock stagingLock = false)) →
    ∃ t, exec (.flashSectorProgram good granted) s = .next t ∧ t.rd SEC_FW_STS.STATE = 1 ∧ t.flash = s.flash
      ∧ SameMemory s t ∧ t.rings = s.rings)
  ∧ (∀ (s : State) (g : Staging) (good granted : Bool) (r : Nat), s.flash.staging = some g → s.flash.waits = false →
    s.sec.booted = true → s.rd CTL_PSTATE.STATE = 0 → s.fwVerdict g.image = some r →
    ∃ t, exec (.flashSectorProgram good granted) s = .next t ∧ Results s t r
      ∧ t.flash = { s.flash with staging := none } ∧ SameMemory s t ∧ t.rings = s.rings)
  ∧ (∀ (s : State) (good granted : Bool), (s.flash.staging = none ∨ s.flash.waits = true ∨ s.sec.booted = false
      ∨ s.rd CTL_PSTATE.STATE ≠ 0) → exec (.flashSectorProgram good granted) s = .next s)
  ∧ (∀ (s : State) (path : Fin 6), s.fwOpen path = true → s.flash.staging = none →
    ∃ t, exec (.abort path) s = .next t ∧ OnlyResults s t 6)
  ∧ (∀ (s : State) (path : Fin 6) (g : Staging), s.fwOpen path = true → s.flash.staging = some g →
    s.rd SEC_FW_STS.STATE = 3 →
    exec (.abort path) s = .next { s with flash := { s.flash with staging := some { g with abort := true } } })
  ∧ (∀ (s : State) (path : Fin 6) (g : Staging), s.fwOpen path = true → s.flash.staging = some g →
    s.rd SEC_FW_STS.STATE ≠ 3 →
    ∃ t, exec (.abort path) s = .next t ∧ Results s t 7 ∧ t.flash = { s.flash with staging := none } ∧ SameMemory s t
      ∧ t.rings = s.rings)
  ∧ (∀ (s : State) (path : Fin 6) (c : ImageCheck), s.writeOpen path 0x400010 = false ∨ s.flash.waits = true →
    c.measurement.length = 32 → exec (.recoveryChunk path c) s = .next s)
  ∧ (∀ (s : State) (path : Fin 6) (c : ImageCheck), s.writeOpen path 0x400010 = true → s.flash.waits = false →
    (s.rd SEC_STS.RECOVERY = 0 ∨ s.faults.windthrow = true ∨ 24 * 2 ^ 20 < s.rd SEC_FW_LEN.LEN) →
    c.measurement.length = 32 →
    ∃ t, exec (.recoveryChunk path c) s = .next t
      ∧ OnlyResults s t (if s.rd SEC_STS.RECOVERY = 0 ∨ s.faults.windthrow = true then 6 else 4))
  ∧ (∀ (s : State) (path : Fin 6) (c : ImageCheck), s.writeOpen path 0x400010 = true → s.flash.waits = false →
    s.rd SEC_STS.RECOVERY ≠ 0 → s.faults.windthrow = false → s.rd SEC_FW_LEN.LEN ≤ 24 * 2 ^ 20 →
    1 < (s.recoveryStaging (s.rd SEC_FW_LEN.LEN)).sectorsLeft → c.measurement.length = 32 →
    ∃ t g, exec (.recoveryChunk path c) s = .next t ∧ Results s t 0 ∧ t.flash.staging = some g
      ∧ g.sectorsLeft + 1 = (s.recoveryStaging (s.rd SEC_FW_LEN.LEN)).sectorsLeft
      ∧ t.flash.imgA.bytes = s.recovered
      ∧ t.flash.imgA.state = (if s.flash.staging.isSome then s.flash.imgA.state else 0)
      ∧ t.flash.imgB = s.flash.imgB ∧ t = { s with regs := t.regs, flash := t.flash } ∧ FieldsKept s t imageKeys)
  ∧ (∀ (s : State) (path : Fin 6) (c : ImageCheck), s.writeOpen path 0x400010 = true → s.flash.waits = false →
    s.rd SEC_STS.RECOVERY ≠ 0 → s.faults.windthrow = false → s.rd SEC_FW_LEN.LEN ≤ 24 * 2 ^ 20 →
    (s.recoveryStaging (s.rd SEC_FW_LEN.LEN)).sectorsLeft ≤ 1 →
    s.fwVerdict (imageOf c (s.rd SEC_FW_LEN.LEN)) = none → c.measurement.length = 32 →
    ∃ t, exec (.recoveryChunk path c) s = .next t ∧ Results s t 0 ∧ t.flash.staging = none
      ∧ t.flash.imgA = { imageOf c (s.rd SEC_FW_LEN.LEN) with state := 2, bytes := s.recovered }
      ∧ t.flash.imgB = s.flash.imgB ∧ SameMemory s t ∧ t.rings = s.rings)
  ∧ (∀ (s : State) (path : Fin 6) (c : ImageCheck) (r : Nat), s.writeOpen path 0x400010 = true → s.flash.waits = false →
    s.rd SEC_STS.RECOVERY ≠ 0 → s.faults.windthrow = false → s.rd SEC_FW_LEN.LEN ≤ 24 * 2 ^ 20 →
    (s.recoveryStaging (s.rd SEC_FW_LEN.LEN)).sectorsLeft ≤ 1 →
    s.fwVerdict (imageOf c (s.rd SEC_FW_LEN.LEN)) = some r → c.measurement.length = 32 →
    ∃ t, exec (.recoveryChunk path c) s = .next t ∧ Results s t r ∧ t.flash.staging = none
      ∧ t.flash.imgA.state = (if s.flash.staging.isSome then s.flash.imgA.state else 0)
      ∧ t.flash.imgB = s.flash.imgB ∧ SameMemory s t ∧ t.rings = s.rings)
  ∧ (∀ (s : State) (path : Fin 6) (image : ImageCheck), (Instr.stage path image).wellFormed = true → ∃ t, exec (.stage
    path image) s = .next t ∧ Rest s t [.draws, .out, .regs, .flash, .ports, .mgr, .maint])
  ∧ (∀ (s : State) (good granted : Bool), ∃ t, exec (.flashSectorProgram good granted) s = .next t ∧ Rest s t [.draws,
    .out, .regs, .flash, .ports, .mgr, .maint])
  ∧ (∀ (s : State) (path : Fin 6), ∃ t, exec (.abort path) s = .next t ∧ Rest s t [.draws, .out, .regs, .flash,
    .ports, .mgr, .maint])
  ∧ (∀ (s : State) (path : Fin 6) (image : ImageCheck), (Instr.recoveryChunk path image).wellFormed = true → ∃ t, exec
    (.recoveryChunk path image) s = .next t ∧ Rest s t [.draws, .out, .regs, .flash, .ports, .mgr, .maint])

/-- R411: CONFIRM, or the self-test while MANUAL_CONFIRM is 0, confirms a TRIAL image, and CONFIRM with nothing to confirm
is refused; the end of the window begins a warm reset.  A CONFIRM that does not reach SEC_FW_CTL, a self-test with nothing
to confirm or before full bring-up, and an end of a window that has not come, have no effect.  Each of the three commands
answers a next state in every state, and every part of the state but those listed is as before. -/
def Obligations.TrialsAreConfirmedInTime : Prop :=
  (∀ (s : State) (path : Fin 6), s.fwOpen path = true → s.rd SEC_STS.TRIAL = 1 → s.rd SEC_CFG.MANUAL_CONFIRM = 1 →
    (s.flash.img s.runImage).svn ≤ 64 →
    ∃ t, exec (.confirm path) s = .next t ∧ Confirms s t ∧ Results s t 0)
  ∧ (∀ (s : State) (path : Fin 6), s.fwOpen path = true → (s.rd SEC_STS.TRIAL ≠ 1 ∨ s.rd SEC_CFG.MANUAL_CONFIRM ≠ 1) →
    ∃ t, exec (.confirm path) s = .next t ∧ OnlyResults s t 6)
  ∧ (∀ (s : State) (path : Fin 6), s.fwOpen path = false → exec (.confirm path) s = .next s)
  ∧ (∀ (s : State), s.sec.booted = true → s.rd SEC_STS.TRIAL = 1 → s.rd SEC_CFG.MANUAL_CONFIRM = 0 →
    s.rd CTL_BRINGUP_STS.PHASE = 3 → (s.flash.img s.runImage).svn ≤ 64 →
    ∃ t, exec .selfTestPass s = .next t ∧ Confirms s t)
  ∧ (∀ (s : State), (s.sec.booted = false ∨ s.rd SEC_STS.TRIAL ≠ 1 ∨ s.rd SEC_CFG.MANUAL_CONFIRM ≠ 0
      ∨ s.rd CTL_BRINGUP_STS.PHASE ≠ 3) → exec .selfTestPass s = .next s)
  ∧ (∀ (s : State) (d : Nat), s.sec.trialDeadline = some d → d ≤ s.now → s.faults.windthrow = false →
    s.glob.dormant = false →
    ∃ t, exec .confirmTimeout s = .next t ∧ t.glob.warm = true ∧ SameMemory s t ∧ t.rings = s.rings ∧ t.regs = s.regs
      ∧ t.flash = s.flash)
  ∧ (∀ (s : State), (∀ d, s.sec.trialDeadline = some d → s.now < d) ∨ s.faults.windthrow = true ∨ s.glob.dormant = true
      ∨ s.glob.warm = true → exec .confirmTimeout s = .next s)
  ∧ (∀ (s : State) (path : Fin 6), ∃ t, exec (.confirm path) s = .next t ∧ Rest s t [.regs, .flash, .sec])
  ∧ (∀ (s : State), ∃ t, exec .selfTestPass s = .next t ∧ Rest s t [.regs, .flash, .sec])
  ∧ (∀ (s : State), ∃ t, exec .confirmTimeout s = .next t ∧ Rest s t [.out, .ports, .mac, .faults, .glob])

/-- R404, R406, R501: a write of CTL_MBOX_CMD brings a command to core 3, and BUSY is 1 until it is answered; core 3
answers each: too large, a request signed by the identity key, which debug refuses; a root that none or the present one
signs; a chain that leads to the root; removal in RMA; the nonce that NONCE_REQ drew; a good token unlocks debug, resets
plots with clearing and zeroises keys; a chain in DER.  That the answer comes with the next tick of an idle queue is the
model's choice (assumption 188).  Each of the eight commands answers a next state in every state, and every part of the
state but those listed is as before. -/
def Obligations.IdentityCommandsAreAnswered : Prop :=
  (∀ (len : BitVec 14) (b : Bool),
    TakesBox (.getCsr len) { cmd := 1, len := len.toNat } ∧ TakesBox (.installRoot len b) { cmd := 2, len := len.toNat, good := b }
    ∧ TakesBox (.installChain len b) { cmd := 3, len := len.toNat, good := b }
    ∧ TakesBox (.removeRoot len) { cmd := 4, len := len.toNat } ∧ TakesBox (.getNonce len) { cmd := 5, len := len.toNat }
    ∧ TakesBox (.debugUnlock len b) { cmd := 6, len := len.toNat, good := b }
    ∧ TakesBox (.getChain len) { cmd := 7, len := len.toNat })
  ∧ (∀ (s : State) (r : BoxReq), s.boxWaits r → 8192 < r.len → ∃ t, step s = .next t ∧ OnlyAnswers s t 4)
  ∧ (∀ (s : State) (r : BoxReq), s.boxWaits r → r.len ≤ 8192 → r.cmd = 1 → s.keyRefused = false →
    ∃ t, step s = .next t ∧ Answers s t 0 ((Config.csr s.draws).take 8192)
      ∧ t = { s with regs := t.regs, sec := t.sec, draws := s.draws + 1 })
  ∧ (∀ (s : State) (r : BoxReq), s.boxWaits r → r.len ≤ 8192 → r.cmd = 1 → s.keyRefused = true →
    ∃ t, step s = .next t ∧ OnlyAnswers s t 3)
  ∧ (∀ (s : State) (r : BoxReq), s.boxWaits r → r.len ≤ 8192 → r.cmd = 2 → (s.flash.root = none ∨ r.good = true) →
    ∃ t, step s = .next t ∧ t.flash.root = some (s.boxBytes r.len) ∧ Answers s t 0 []
      ∧ t.flash = { s.flash with root := t.flash.root, headerSeq := t.flash.headerSeq }
      ∧ t = { s with regs := t.regs, sec := t.sec, flash := t.flash })
  ∧ (∀ (s : State) (r : BoxReq), s.boxWaits r → r.len ≤ 8192 → r.cmd = 2 → s.flash.root.isSome = true → r.good = false →
    ∃ t, step s = .next t ∧ OnlyAnswers s t 3)
  ∧ (∀ (s : State) (r : BoxReq), s.boxWaits r → r.len ≤ 8192 → r.cmd = 3 → s.flash.root.isSome = true → r.good = true →
    ∃ t, step s = .next t ∧ t.flash.instChain = s.boxBytes r.len ∧ Answers s t 0 []
      ∧ t.flash = { s.flash with instChain := t.flash.instChain, headerSeq := t.flash.headerSeq }
      ∧ t = { s with regs := t.regs, sec := t.sec, flash := t.flash })
  ∧ (∀ (s : State) (r : BoxReq), s.boxWaits r → r.len ≤ 8192 → r.cmd = 3 → (s.flash.root = none ∨ r.good = false) →
    ∃ t, step s = .next t ∧ OnlyAnswers s t 2)
  ∧ (∀ (s : State) (r : BoxReq), s.boxWaits r → r.len ≤ 8192 → r.cmd = 4 → s.sec.lifecycle = 3 →
    ∃ t, step s = .next t ∧ t.flash.root = none ∧ t.flash.instChain = [] ∧ Answers s t 0 []
      ∧ t.flash = { s.flash with root := none, instChain := [], headerSeq := t.flash.headerSeq }
      ∧ t = { s with regs := t.regs, sec := t.sec, flash := t.flash })
  ∧ (∀ (s : State) (r : BoxReq), s.boxWaits r → r.len ≤ 8192 → r.cmd = 4 → s.sec.lifecycle ≠ 3 →
    ∃ t, step s = .next t ∧ OnlyAnswers s t 3)
  ∧ (∀ (s : State) (r : BoxReq) (n : List Byte), s.boxWaits r → r.len ≤ 8192 → r.cmd = 5 → s.sec.nonce = some n →
    n.length = 32 → ∃ t, step s = .next t ∧ Answers s t 0 n ∧ t = { s with regs := t.regs, sec := t.sec })
  ∧ (∀ (s : State) (r : BoxReq), s.boxWaits r → r.len ≤ 8192 → r.cmd = 5 → s.sec.nonce = none →
    ∃ t, step s = .next t ∧ OnlyAnswers s t 1)
  ∧ (∀ (s : State) (r : BoxReq), s.boxWaits r → r.len ≤ 8192 → r.cmd = 6 → r.good = true → s.sec.nonce.isSome = true →
    ∃ t, step s = .next t ∧ t.rd SEC_STS.DEBUG = 1 ∧ t.sec.identityRefused = true
      ∧ t.sec.keysZeroised = s.sec.keysZeroised + 1 ∧ (∀ p, p < 24 → (t.port p).link.keys = false)
      ∧ (∀ p, p < 64 → s.plotState p = plotBOUND → t.plotState p = plotRESETTING
          ∧ ((t.plot p).reset.any (fun r => r.clear)) = true)
      ∧ t.rd CTL_MBOX_STS.RESULT = 0 ∧ t.rd CTL_MBOX_STS.BUSY = 0 ∧ SameMemory s t ∧ t.rings = s.rings)
  ∧ (∀ (s : State) (r : BoxReq), s.boxWaits r → r.len ≤ 8192 → r.cmd = 6 → (r.good = false ∨ s.sec.nonce = none) →
    ∃ t, step s = .next t ∧ OnlyAnswers s t 2)
  ∧ (∀ (s : State) (r : BoxReq) (c : List Byte), s.boxWaits r → r.len = 1 → r.cmd = 7 → c ≠ [] →
    ((s.boxBytes 1 = [0] ∧ s.flash.manufChain = c) ∨ (s.boxBytes 1 = [1] ∧ s.flash.instChain = c)) →
    ∃ t, step s = .next t ∧ Answers s t 0 (c.take 8192) ∧ t = { s with regs := t.regs, sec := t.sec })
  ∧ (∀ (s : State) (r : BoxReq), s.boxWaits r → r.len ≤ 8192 → r.cmd = 7 →
    (r.len ≠ 1 ∨ (∃ x, s.boxBytes 1 = [x] ∧ 1 < x.toNat) ∨ (s.boxBytes 1 = [0] ∧ s.flash.manufChain = [])
      ∨ (s.boxBytes 1 = [1] ∧ s.flash.instChain = [])) →
    ∃ t, step s = .next t ∧ OnlyAnswers s t 1)
  ∧ (∀ (s : State) (path : Fin 6), s.writeOpen path 0x400038 = true → s.sec.booted = true →
    ∃ t n, exec (.nonceReq path) s = .next t ∧ n.length = 32
      ∧ t = { s with draws := s.draws + 32, sec := { s.sec with nonce := some n } })
  ∧ (∀ (s : State) (path : Fin 6), s.writeOpen path 0x400038 = false ∨ s.sec.booted = false →
    exec (.nonceReq path) s = .next s)
  ∧ (∀ (s : State) (len : BitVec 14), ∃ t, exec (.getCsr len) s = .next t ∧ Rest s t [.regs, .sec])
  ∧ (∀ (s : State) (len : BitVec 14) (signed : Bool), ∃ t, exec (.installRoot len signed) s = .next t ∧ Rest s t
    [.regs, .sec])
  ∧ (∀ (s : State) (len : BitVec 14) (verifies : Bool), ∃ t, exec (.installChain len verifies) s = .next t ∧ Rest s t
    [.regs, .sec])
  ∧ (∀ (s : State) (len : BitVec 14), ∃ t, exec (.removeRoot len) s = .next t ∧ Rest s t [.regs, .sec])
  ∧ (∀ (s : State) (len : BitVec 14), ∃ t, exec (.getNonce len) s = .next t ∧ Rest s t [.regs, .sec])
  ∧ (∀ (s : State) (len : BitVec 14) (good : Bool), ∃ t, exec (.debugUnlock len good) s = .next t ∧ Rest s t [.regs,
    .sec])
  ∧ (∀ (s : State) (len : BitVec 14), ∃ t, exec (.getChain len) s = .next t ∧ Rest s t [.regs, .sec])
  ∧ (∀ (s : State) (path : Fin 6), ∃ t, exec (.nonceReq path) s = .next t ∧ Rest s t [.draws, .sec])

/-- R31, R417 to R419, R423, R424: an input below 44 V replaces the pin level by that of code 0b000 until it has stayed
above 45 V for 10 ms; a code that has held for 16 periods is taken; E = min(H, S) is shown with its binding term; an input
below 40 V for 50 µs is a loss of power with every record in flash; every 16 periods issue gating lowers f to what fits
above the limit, raises it a step below 97 % of it, else holds it.  Before its time a command has no effect.  Each of the
five commands answers a next state in every state, and every part of the state but those listed is as before. -/
def Obligations.EnvelopeAndGatingHold : Prop :=
  (∀ (s : State), ∃ t, exec .inputUndervoltage s = .next t ∧ t.power.undervolt = true ∧ t.pinLevel = s.envLevel 0
    ∧ ShowsEnvelope t ∧ t.power.capW = s.coolantCap
    ∧ t.envelope = min (min (s.envLevel 0) (s.rd PWR_PEAK_LIMIT.WATTS)) (min (s.rd PWR_ENV_LIMIT.WATTS) s.coolantCap)
    ∧ OnlyPower s t stsKeys)
  ∧ (∀ (s : State) (since : Nat), since + 10 * perMs ≤ s.now →
    ∃ t, exec (.inputRestored since) s = .next t ∧ t.power.undervolt = false
    ∧ t.pinLevel = s.envLevel s.power.envCode ∧ ShowsEnvelope t
    ∧ t.envelope = min (min (s.envLevel s.power.envCode) (s.rd PWR_PEAK_LIMIT.WATTS))
        (min (s.rd PWR_ENV_LIMIT.WATTS) s.coolantCap)
    ∧ OnlyPower s t stsKeys)
  ∧ (∀ (s : State) (since : Nat), s.now < since + 10 * perMs → exec (.inputRestored since) s = .next s)
  ∧ (∀ (s : State) (code : Fin 8) (since : Nat), since + 16 ≤ s.now →
    ∃ t, exec (.envelopeCode code since) s = .next t ∧ t.power.envCode = code.val
    ∧ t.rd PWR_STS.PINS = code.val ∧ ShowsEnvelope t
    ∧ t.envelope = min (min (s.envLevel (if s.power.undervolt then 0 else code)) (s.rd PWR_PEAK_LIMIT.WATTS))
        (min (s.rd PWR_ENV_LIMIT.WATTS) s.coolantCap)
    ∧ OnlyPower s t stsKeys)
  ∧ (∀ (s : State) (code : Fin 8) (since : Nat), s.now < since + 16 → exec (.envelopeCode code since) s = .next s)
  ∧ (∀ (s : State) (since : Nat), since + 50 * perUs ≤ s.now →
    ∃ t, exec (.inputPowerLoss since) s = .next t ∧ t.glob.poweredOn = false ∧ t.flash.pendLane = []
    ∧ t.flash.pendLog = [] ∧ t.flash.pendLife = [] ∧ t.flash.lanesOdd = s.flash.lanesOdd ++ s.flash.pendLane
    ∧ t.flash.lanesEven = s.flash.lanesEven ++ (if s.flash.laneFirst then s.flash.pendLane.drop 1 else s.flash.pendLane)
    ∧ t.flash.life = s.flash.pendLife.reverse ++ s.flash.life
    ∧ t.flash.staging = none ∧ t.flash.imgA = s.flash.imgA ∧ t.flash.imgB = s.flash.imgB ∧ (∀ a, t.hbm.byte a = 0)
    ∧ t.host = s.host ∧ t.rings = [] ∧ t.plots = [])
  ∧ (∀ (s : State) (since : Nat), s.now < since + 50 * perUs → exec (.inputPowerLoss since) s = .next s)
  ∧ (∀ (s : State) (power issue : Nat), s.power.gateAt + 16 ≤ s.now → 1000 * s.envelope < power →
    ∃ t, exec (.gatingInterval power issue) s = .next t
      ∧ (∀ g, 1 ≤ g → g ≤ s.power.frac16 →
          (power - issue) * s.power.frac16 + issue * g ≤ 1000 * s.envelope * s.power.frac16 → g ≤ t.power.frac16)
      ∧ (t.power.frac16 = 1 ∨ (t.power.frac16 ≤ s.power.frac16
          ∧ (power - issue) * s.power.frac16 + issue * t.power.frac16 ≤ 1000 * s.envelope * s.power.frac16))
      ∧ t.rd PWR_STS.GATING = b2n (decide (t.power.frac16 < 16)) ∧ OnlyPower s t [PWR_STS.GATING.key])
  ∧ (∀ (s : State) (power issue : Nat), s.power.gateAt + 16 ≤ s.now → 100 * power ≤ 97 * (1000 * s.envelope) →
    ∃ t, exec (.gatingInterval power issue) s = .next t ∧ t.power.frac16 = min 16 (s.power.frac16 + 1)
      ∧ t.rd PWR_STS.GATING = b2n (decide (t.power.frac16 < 16)) ∧ OnlyPower s t [PWR_STS.GATING.key])
  ∧ (∀ (s : State) (power issue : Nat), s.power.gateAt + 16 ≤ s.now → power ≤ 1000 * s.envelope →
    97 * (1000 * s.envelope) < 100 * power →
    ∃ t, exec (.gatingInterval power issue) s = .next t ∧ t.power.frac16 = s.power.frac16
      ∧ t.rd PWR_STS.GATING = b2n (decide (t.power.frac16 < 16)) ∧ OnlyPower s t [PWR_STS.GATING.key])
  ∧ (∀ (s : State) (power issue : Nat), s.now < s.power.gateAt + 16 → exec (.gatingInterval power issue) s = .next s)
  ∧ (∀ (s : State), ∃ t, exec .inputUndervoltage s = .next t ∧ Rest s t [.regs, .power])
  ∧ (∀ (s : State) (since : Nat), ∃ t, exec (.inputRestored since) s = .next t ∧ Rest s t [.regs, .power])
  ∧ (∀ (s : State) (since : Nat), ∃ t, exec (.inputPowerLoss since) s = .next t ∧ Rest s t [.out, .regs, .hbm, .pkg,
    .flash, .clocks, .engines, .slabs, .rings, .plots, .stash, .matJobs, .vecJobs, .fabric, .ports, .puts, .tags,
    .mgr, .mac, .pcie, .sec, .cores, .power, .faults, .maint, .glob, .bytes])
  ∧ (∀ (s : State) (code : Fin 8) (since : Nat), ∃ t, exec (.envelopeCode code since) s = .next t ∧ Rest s t [.regs,
    .power])
  ∧ (∀ (s : State) (power issue : Nat), ∃ t, exec (.gatingInterval power issue) s = .next t ∧ Rest s t [.regs,
    .power])

/-- R421, R422, R425 to R427, R432: the follower takes the highest supply whose predicted power is at most 0.97 × E, down
at once and up at most 10 mV after an interval at one supply, supplies ramp towards their targets, and a throttled die
is never raised; a droop gates its die, and clears once the supply has held for 2 µs; a brown-out restarts tiles, ends
in time, or fences its die.  Before its time, and on a die in no such state, a command has no effect.  Each of the six
commands answers a next state in every state (CONTROL_INTERVAL, which names the 16 compute domains, where it is not
malformed), and every part of the state but those listed is as before. -/
def Obligations.TheFollowerSetsSupplies : Prop :=
  (∀ (s : State) (power : Nat) (compute : List Nat),
    (∀ v ∈ s.voltSteps, (s.predicted power compute v).1 ≤ 970 * s.envelope * (s.predicted power compute v).2 →
        v ≤ s.bestVolt power compute)
    ∧ (s.bestVolt power compute = s.rd PWR_VOLT_CFG.VMIN_MV ∨ (s.bestVolt power compute ∈ s.voltSteps
        ∧ (s.predicted power compute (s.bestVolt power compute)).1
            ≤ 970 * s.envelope * (s.predicted power compute (s.bestVolt power compute)).2)))
  ∧ (∀ (s : State) (power : Nat) (compute : List Nat), compute.length ≠ 16 →
    exec (.controlInterval power compute) s = .fault .malformedCommand)
  ∧ (∀ (s : State) (power : Nat) (compute : List Nat), compute.length = 16 → s.now < s.power.controlAt + 128 →
    exec (.controlInterval power compute) s = .next s)
  ∧ (∀ (s : State) (power : Nat) (compute : List Nat), s.power.hold = false →
    (∀ d ∈ s.supplied, s.rd (STS_GD_POWER.VOLT_MV d) = (s.die d).targetMv) →
    compute.length = 16 → s.power.controlAt + 128 ≤ s.now →
    ∃ t, exec (.controlInterval power compute) s = .next t
      ∧ t.power.target = min (t.bestVolt power compute) (if t.bestVolt power compute ≤ s.power.target then
          t.bestVolt power compute else s.power.target + 10)
      ∧ (∀ d ∈ s.supplied, (t.die d).targetMv = nextTarget (s.die d) t.power.target (s.rd PWR_VOLT_CFG.VMIN_MV) true)
      ∧ t.rd PWR_MEAS.POWER_W = min (power / 1000) 2047 % 2 ^ PWR_MEAS.POWER_W.width ∧ OnlyPower s t controlKeys)
  ∧ (∀ (s : State) (power : Nat) (compute : List Nat) (d : Nat), s.power.hold = false → d ∈ s.supplied →
    s.rd (STS_GD_POWER.VOLT_MV d) ≠ (s.die d).targetMv →
    compute.length = 16 → s.power.controlAt + 128 ≤ s.now →
    ∃ t, exec (.controlInterval power compute) s = .next t ∧ t.power.target ≤ s.power.target
      ∧ (∀ e ∈ s.supplied, (t.die e).targetMv ≤ (s.die e).targetMv)
      ∧ t.rd (STS_GD_POWER.VOLT_MV d)
          = toward (s.rd (STS_GD_POWER.VOLT_MV d)) (s.die d).targetMv 96 % 2 ^ (STS_GD_POWER.VOLT_MV d).width
      ∧ OnlyPower s t controlKeys)
  ∧ (∀ (s : State) (power : Nat) (compute : List Nat), s.power.hold = true →
    compute.length = 16 → s.power.controlAt + 128 ≤ s.now →
    ∃ t, exec (.controlInterval power compute) s = .next t ∧ t.power.target = s.power.target
      ∧ (∀ d, (t.die d).targetMv = (s.die d).targetMv) ∧ OnlyPower s t controlKeys)
  ∧ (∀ (s : State) (power : Nat) (compute : List Nat) (d : Nat), (s.die d).throttle = true →
    compute.length = 16 →
    ∃ t, exec (.controlInterval power compute) s = .next t ∧ (t.die d).targetMv ≤ (s.die d).targetMv)
  ∧ (∀ (s : State) (gd : Fin 16), (s.die gd).supplyOn = true → (s.die gd).droop = false →
    ∃ t, exec (.droop gd) s = .next t ∧ t.die gd = { s.die gd with droop := true }
      ∧ t.rd (STS_GD_POWER.DROOP gd) = 1 ∧ t.rd PWR_STS.DROOP = 1
      ∧ t.rd CNT_PWR_EVENTS.DROOPS = min (s.rd CNT_PWR_EVENTS.DROOPS + 1) (2 ^ CNT_PWR_EVENTS.DROOPS.width - 1)
      ∧ (∀ d, d ≠ gd.val → t.die d = s.die d)
      ∧ OnlyPower s t [(STS_GD_POWER.DROOP gd).key, PWR_STS.DROOP.key, CNT_PWR_EVENTS.DROOPS.key])
  ∧ (∀ (s : State) (gd : Fin 16), ((s.die gd).supplyOn = false ∨ (s.die gd).droop = true → exec (.droop gd) s = .next s)
    ∧ ((s.die gd).supplyOn = false ∨ (s.die gd).brownout.isSome = true → exec (.brownout gd) s = .next s))
  ∧ (∀ (s : State) (gd : Fin 16) (since : Nat), (s.die gd).droop = true → since + 16 ≤ s.now →
    ∃ t, exec (.droopClear gd since) s = .next t ∧ t.die gd = { s.die gd with droop := false }
      ∧ t.rd (STS_GD_POWER.DROOP gd) = 0 ∧ t.rd PWR_STS.DROOP = b2n ((List.range 16).any (fun d => (t.die d).droop))
      ∧ t.clocks = { s.clocks with lastDroop := some s.now } ∧ (∀ d, d ≠ gd.val → t.die d = s.die d)
      ∧ t = { s with regs := t.regs, power := t.power, clocks := t.clocks }
      ∧ FieldsKept s t [(STS_GD_POWER.DROOP gd).key, PWR_STS.DROOP.key])
  ∧ (∀ (s : State) (gd : Fin 16) (since : Nat), (s.die gd).droop = false ∨ s.now < since + 16 →
    exec (.droopClear gd since) s = .next s)
  ∧ (∀ (s : State) (gd : Fin 16), (s.die gd).supplyOn = true → (s.die gd).brownout = none →
    ∃ t, exec (.brownout gd) s = .next t ∧ t.die gd = { s.die gd with brownout := some s.now }
      ∧ t.rd (STS_GD_POWER.BROWNOUT gd) = 1 ∧ t.faultBit gd 22 = true
      ∧ t.rd CNT_PWR_EVENTS.BROWNOUTS = min (s.rd CNT_PWR_EVENTS.BROWNOUTS + 1) (2 ^ CNT_PWR_EVENTS.BROWNOUTS.width - 1)
      ∧ (∀ m r i k j tl e, m < 3 → s.tileOn (3 * gd + m) = some (r, i, k, j, tl, e) → tl.demand = none →
          tl.granted = none → ∃ j' tl' e', t.tileOn (3 * gd + m) = some (r, i, k, j', tl', e') ∧ tl'.passes = 0)
      ∧ SameMemory s t ∧ t.rings = s.rings)
  ∧ (∀ (s : State) (gd : Fin 16) (b : Nat), (s.die gd).brownout = some b → s.now < b + perMs →
    ∃ t, exec (.brownoutRecover gd) s = .next t ∧ t.die gd = { s.die gd with brownout := none }
      ∧ t.rd (STS_GD_POWER.BROWNOUT gd) = 0 ∧ (∀ d, d ≠ gd.val → t.die d = s.die d)
      ∧ OnlyPower s t [(STS_GD_POWER.BROWNOUT gd).key])
  ∧ (∀ (s : State) (gd : Fin 16) (b : Nat), (s.die gd).brownout = some b → b + perMs ≤ s.now →
    ∃ t, exec (.brownoutTimeout gd) s = .next t ∧ t.fenced gd = true ∧ (t.die gd).supplyOn = false
      ∧ t.rd (STS_GD_POWER.VOLT_MV gd) = 0 ∧ t.waitsForCore1 gd 23 ∧ SameMemory s t)
  ∧ (∀ (s : State) (gd : Fin 16), (∀ b, (s.die gd).brownout = some b → b + perMs ≤ s.now) →
    exec (.brownoutRecover gd) s = .next s)
  ∧ (∀ (s : State) (gd : Fin 16), (∀ b, (s.die gd).brownout = some b → s.now < b + perMs) →
    exec (.brownoutTimeout gd) s = .next s)
  ∧ (∀ (s : State) (power : Nat) (compute : List Nat), (Instr.controlInterval power compute).wellFormed = true → ∃ t,
    exec (.controlInterval power compute) s = .next t ∧ Rest s t [.regs, .power])
  ∧ (∀ (s : State) (gd : Fin 16), ∃ t, exec (.droop gd) s = .next t ∧ Rest s t [.regs, .power])
  ∧ (∀ (s : State) (gd : Fin 16) (since : Nat), ∃ t, exec (.droopClear gd since) s = .next t ∧ Rest s t [.regs,
    .clocks, .power])
  ∧ (∀ (s : State) (gd : Fin 16), ∃ t, exec (.brownout gd) s = .next t ∧ Rest s t [.out, .regs, .flash, .engines,
    .plots, .matJobs, .fabric, .ports, .tags, .pcie, .power, .faults])
  ∧ (∀ (s : State) (gd : Fin 16), ∃ t, exec (.brownoutRecover gd) s = .next t ∧ Rest s t [.regs, .power])
  ∧ (∀ (s : State) (gd : Fin 16), ∃ t, exec (.brownoutTimeout gd) s = .next t ∧ Rest s t [.out, .regs, .hbm, .pkg,
    .flash, .slabs, .rings, .plots, .fabric, .ports, .puts, .tags, .pcie, .power, .faults, .maint])

/-- R428 to R431: every 1,024 periods an attribution interval gives every unit of energy to a plot or to UNATTR, measured
mode shows in PWR_ENERGY_DEV what those counters advanced by, the activity is used up, and the mode asked for takes over;
before its time it has no effect.  Energies are in 2⁻³² µJ and counters of 64 bits wrap (assumption 95).  The command
answers a next state in every state where it names every domain and is not malformed, and every part of the state but
those listed is as before. -/
def Obligations.EnergyIsAttributed : Prop :=
  (∀ (s : State) (grove hbm verge : List Nat) (rest : Nat), s.power.energyMode = 0 → s.power.attribAt + 1024 ≤ s.now →
    grove.length = 16 → hbm.length = 4 → verge.length = 8 →
    ∃ t, exec (.attributionInterval grove hbm verge rest) s = .next t
      ∧ t.energyHeld % 2 ^ 96 = (s.energyHeld + sumNat grove + sumNat hbm + sumNat verge + rest) % 2 ^ 96
      ∧ (t.energyShown + s.deviceEnergy) % 2 ^ 64 = (s.energyShown + t.deviceEnergy) % 2 ^ 64)
  ∧ (∀ (s : State) (grove hbm verge : List Nat) (rest : Nat), s.power.energyMode ≠ 0 → s.power.attribAt + 1024 ≤ s.now →
    grove.length = 16 → hbm.length = 4 → verge.length = 8 →
    ∃ t, exec (.attributionInterval grove hbm verge rest) s = .next t
      ∧ t.deviceEnergy = (s.deviceEnergy
          + (s.power.devFrac + (sumNat grove + sumNat hbm + sumNat verge + rest)) / 2 ^ 32) % 2 ^ 64
      ∧ t.power.devFrac = (s.power.devFrac + (sumNat grove + sumNat hbm + sumNat verge + rest)) % 2 ^ 32)
  ∧ (∀ (s : State) (grove hbm verge : List Nat) (rest : Nat), s.power.attribAt + 1024 ≤ s.now →
    grove.length = 16 → hbm.length = 4 → verge.length = 8 →
    ∃ t, exec (.attributionInterval grove hbm verge rest) s = .next t ∧ t.power.acts = []
      ∧ t.power.energyMode = s.rd CFG_ENERGY_MODE.MODE ∧ SameMemory s t
      ∧ t = { s with regs := t.regs, power := t.power, plots := t.plots, rings := t.rings }
      ∧ (∀ r, (t.ring r).entries = (s.ring r).entries) ∧ (∀ p h, t.tensorOf p h = s.tensorOf p h)
      ∧ (∀ f, (f.key < 32 * 0x20000 ∨ 32 * 0x40000 ≤ f.key) → t.rd f = s.rd f))
  ∧ (∀ (s : State) (grove hbm verge : List Nat) (rest : Nat), s.now < s.power.attribAt + 1024 →
    grove.length = 16 → hbm.length = 4 → verge.length = 8 →
    exec (.attributionInterval grove hbm verge rest) s = .next s)
  ∧ (∀ (s : State) (grove hbm verge : List Nat) (rest : Nat),
    grove.length ≠ 16 ∨ hbm.length ≠ 4 ∨ verge.length ≠ 8 →
    exec (.attributionInterval grove hbm verge rest) s = .fault .malformedCommand)
  ∧ (∀ (s : State) (grove hbm verge : List Nat) (rest : Nat), (Instr.attributionInterval grove hbm verge
    rest).wellFormed = true → ∃ t, exec (.attributionInterval grove hbm verge rest) s = .next t ∧ Rest s t [.regs,
    .rings, .plots, .power])

/-- R432 to R434, R440: every 1,024 periods a reading of all 74 sensors sets every die's temperature, its hottest sensor,
the hottest and the most aged die; throttling begins at THROTTLE_C and ends 3 K below; a half-cycle above 20 K counts; the
thermal trip removes every compute supply and is windthrow; every 1 ms a stack refreshes twice as often from 85 °C and is
gated to half from 95 °C until below 92 °C.  Before its time a reading has no effect.  Each of the three commands answers
a next state in every state (TEMPERATURE_READ, which reads 74 sensors, where it is not malformed), and every part of the
state but those listed is as before. -/
def Obligations.TemperaturesActAtTheirLimits : Prop :=
  (∀ (s : State) (l : List (BitVec 8)), l.length ≠ 74 → exec (.temperatureRead l) s = .fault .malformedCommand)
  ∧ (∀ (s : State) (l : List (BitVec 8)), l.length = 74 → s.now < s.power.tempAt + 1024 →
    exec (.temperatureRead l) s = .next s)
  ∧ (∀ (s : State) (l : List (BitVec 8)) (d : Nat), l.length = 74 → d < 25 → s.power.tempAt + 1024 ≤ s.now →
    ∃ t, exec (.temperatureRead l) s = .next t ∧ (t.die d).tempC = junction d l
      ∧ junction d l ≤ t.rd STS_THERM.HOTTEST_C ∧ (∃ k, k < 25 ∧ t.rd STS_THERM.HOTTEST_C = junction k l)
      ∧ (t.die d).life = (halfCycle (s.die d) (junction d l)).1.life
      ∧ SameMemory s t ∧ t.rings = s.rings ∧ FieldsKept s t thermKeys)
  ∧ (∀ (s : State) (l : List (BitVec 8)) (d : Nat), l.length = 74 → d < 16 → s.power.tempAt + 1024 ≤ s.now →
    s.rd PWR_THERM_CFG.THROTTLE_C ≤ junction d l →
    ∃ t, exec (.temperatureRead l) s = .next t ∧ (t.die d).throttle = true ∧ t.rd (STS_GD_POWER.THROTTLE d) = 1
      ∧ t.rd (STS_GD_POWER.TEMP_C d) = junction d l
      ∧ (t.die d).gatedHalf = decide (s.rd PWR_THERM_CFG.THROTTLE_C + 3 ≤ junction d l
          ∧ (s.die d).targetMv ≤ s.rd PWR_VOLT_CFG.VMIN_MV))
  ∧ (∀ (s : State) (l : List (BitVec 8)) (d : Nat), l.length = 74 → d < 16 → s.power.tempAt + 1024 ≤ s.now →
    junction d l < s.rd PWR_THERM_CFG.THROTTLE_C →
    ∃ t, exec (.temperatureRead l) s = .next t
      ∧ (t.die d).throttle = ((s.die d).throttle && decide (s.rd PWR_THERM_CFG.THROTTLE_C ≤ junction d l + 3))
      ∧ (t.die d).gatedHalf = false ∧ t.rd (STS_GD_POWER.THROTTLE d) = b2n (t.die d).throttle)
  ∧ (∀ (s : State) (l : List (BitVec 8)) (d : Nat), l.length = 74 → d < 25 → s.power.tempAt + 1024 ≤ s.now →
    (s.die d).started = true → (s.die d).dirUp = true → (junction d l : Int) + 5 ≤ (s.die d).ext →
    20 < ((s.die d).ext - (s.die d).tp).natAbs →
    ∃ t, exec (.temperatureRead l) s = .next t
      ∧ (t.die d).life = (s.die d).life + ((s.die d).ext - (s.die d).tp).natAbs ^ 2 ∧ (t.die d).dirUp = false
      ∧ t.rd (PWR_HALF_CYCLES.COUNT d) = min (s.rd (PWR_HALF_CYCLES.COUNT d) + 1) (2 ^ (PWR_HALF_CYCLES.COUNT d).width - 1))
  ∧ (∀ (s : State) (die : Fin 25),
    ∃ t, exec (.thermalTrip die) s = .next t ∧ t.faults.windthrow = true ∧ t.faults.thermTripN = false
      ∧ t.faults.faultN = false ∧ t.faultBit die 63 = true ∧ SameMemory s t)
  ∧ (∀ (s : State) (die : Fin 25), s.faults.windthrow = false →
    ∃ t, exec (.thermalTrip die) s = .next t ∧ (∀ gd, gd < 16 → (t.die gd).supplyOn = false)
      ∧ t.sec.identityRefused = true ∧ t.rd CTL_BRINGUP_STS.PHASE = 6)
  ∧ (∀ (s : State) (n : Fin 16) (c : BitVec 8), s.now < (s.stack n).tempAt + perMs →
    exec (.hbmTemperatureRead n c) s = .next s)
  ∧ (∀ (s : State) (n : Fin 16) (c : BitVec 8), (s.stack n).tempAt + perMs ≤ s.now → 95 ≤ c.toNat →
    (s.stack n).halved = false →
    ∃ t, exec (.hbmTemperatureRead n c) s = .next t
      ∧ t.stack n = { s.stack n with tempC := c.toNat, tempAt := s.now, doubleRefresh := true, halved := true }
      ∧ t.rd STS_THERM.HBM_HOT = 1 ∧ t.rd STS_THERM.SEQ = (s.rd STS_THERM.SEQ + 1) % 2 ^ STS_THERM.SEQ.width
      ∧ (∀ k, k ≠ n.val → t.stack k = s.stack k) ∧ t = { s with regs := t.regs, hbm := t.hbm } ∧ SameMemory s t
      ∧ FieldsKept s t [STS_THERM.HBM_HOT.key, STS_THERM.SEQ.key])
  ∧ (∀ (s : State) (n : Fin 16) (c : BitVec 8), (s.stack n).tempAt + perMs ≤ s.now →
    c.toNat < 95 ∨ (s.stack n).halved = true →
    ∃ t, exec (.hbmTemperatureRead n c) s = .next t
      ∧ t.stack n = { s.stack n with
          tempC := c.toNat, tempAt := s.now, doubleRefresh := decide (85 ≤ c.toNat)
          halved := (s.stack n).halved && decide (92 ≤ c.toNat) }
      ∧ ((∀ k, k < 16 → (t.stack k).halved = false) → t.rd STS_THERM.HBM_HOT = 0)
      ∧ ((∃ k, k < 16 ∧ (t.stack k).halved = true) → t.regs = s.regs)
      ∧ (∀ k, k ≠ n.val → t.stack k = s.stack k) ∧ t = { s with regs := t.regs, hbm := t.hbm } ∧ SameMemory s t
      ∧ FieldsKept s t [STS_THERM.HBM_HOT.key])
  ∧ (∀ (s : State) (sensors : List (BitVec 8)), (Instr.temperatureRead sensors).wellFormed = true → ∃ t, exec
    (.temperatureRead sensors) s = .next t ∧ Rest s t [.out, .regs, .pcie, .power])
  ∧ (∀ (s : State) (die : Fin 25), ∃ t, exec (.thermalTrip die) s = .next t ∧ Rest s t [.out, .regs, .flash, .slabs,
    .rings, .plots, .matJobs, .vecJobs, .fabric, .ports, .puts, .tags, .mgr, .pcie, .sec, .power, .faults, .maint])
  ∧ (∀ (s : State) (stack : Fin 16) (temp : BitVec 8), ∃ t, exec (.hbmTemperatureRead stack temp) s = .next t ∧ Rest s
    t [.regs, .hbm])

/-- R435 to R438, Table 16.4: every 1 ms a reading gives the flow, which follows the square root of the pressure (with
DP_NOM at zero it is a free value), and twenty failed readings are no flow; the warnings, the cap and the state follow; a
lost tachometer, low flow, failed readings or a hot inlet hold issue at VHOLD; flow for 50 ms ends the hold, 200 ms
without it is C2 for every bound plot, and Fallow follows their resets.  Before its time, or with nothing to act on, a
command has no effect.  Each of the six commands answers a next state in every state, and every part of the state but
those listed is as before. -/
def Obligations.CoolantStopsAndReturns : Prop :=
  (∀ (s : State) (dp : Nat) (inlet : Option (BitVec 8)) (tach : Bool), s.rd PWR_COOL_CFG.DP_NOM ≠ 0 →
    s.power.coolAt + perMs ≤ s.now →
    ∃ t, exec (.coolantRead (some dp) inlet tach) s = .next t ∧ t.rd PWR_COOL_STS.FLOW_PCT ≤ 255
      ∧ t.rd PWR_COOL_STS.FLOW_PCT ^ 2 * s.rd PWR_COOL_CFG.DP_NOM ≤ 10000 * dp
      ∧ (t.rd PWR_COOL_STS.FLOW_PCT < 255 →
          10000 * dp < (t.rd PWR_COOL_STS.FLOW_PCT + 1) ^ 2 * s.rd PWR_COOL_CFG.DP_NOM))
  ∧ (∀ (s : State) (dp : Nat) (inlet : Option (BitVec 8)) (tach : Bool), s.power.coolAt + perMs ≤ s.now →
    ∃ t, exec (.coolantRead (some dp) inlet tach) s = .next t
      ∧ t.rd PWR_COOL_STS.INLET_C = (match inlet with | some c => c.toNat | none => s.rd PWR_COOL_STS.INLET_C)
      ∧ t.rd PWR_COOL_STS.SENSE_OK = b2n inlet.isSome ∧ t.rd PWR_COOL_STS.TACH_OK = b2n tach
      ∧ t.rd PWR_COOL_STS.W80 = b2n (decide (t.rd PWR_COOL_STS.FLOW_PCT < 80))
      ∧ t.rd PWR_COOL_STS.W60 = b2n (decide (t.rd PWR_COOL_STS.FLOW_PCT < 60))
      ∧ t.rd PWR_COOL_STS.W40 = b2n (decide (t.rd PWR_COOL_STS.FLOW_PCT < 40))
      ∧ t.power.badReads = 0 ∧ t.power.lowFlow = (if t.rd PWR_COOL_STS.FLOW_PCT < 20 then s.power.lowFlow + 1 else 0)
      ∧ t.power.goodFlow
          = (if 30 ≤ t.rd PWR_COOL_STS.FLOW_PCT ∧ tach = true then s.power.goodFlow + 1 else 0)
      ∧ t.power.capW = s.rd PWR_ENV_LIMIT.WATTS * min (t.rd PWR_COOL_STS.FLOW_PCT) 80 / 80
          - s.rd PWR_ENV_LIMIT.WATTS * 5 * (t.rd PWR_COOL_STS.INLET_C - 45) / 100
      ∧ ShowsEnvelope t ∧ (2 ≤ s.rd PWR_COOL_STS.STATE → t.rd PWR_COOL_STS.STATE = s.rd PWR_COOL_STS.STATE)
      ∧ (s.rd PWR_COOL_STS.STATE < 2 →
          t.rd PWR_COOL_STS.STATE = b2n (decide (t.power.capW < s.rd PWR_ENV_LIMIT.WATTS)))
      ∧ t = { s with regs := t.regs, power := t.power, pcie := t.pcie, out := t.out, draws := t.draws }
      ∧ FieldsKept s t coolKeys)
  ∧ (∀ (s : State) (inlet : Option (BitVec 8)) (tach : Bool), s.power.coolAt + perMs ≤ s.now →
    ∃ t, exec (.coolantRead none inlet tach) s = .next t ∧ t.power.badReads = s.power.badReads + 1
      ∧ t.rd PWR_COOL_STS.FLOW_PCT = (if 20 ≤ s.power.badReads + 1 then 0 else s.rd PWR_COOL_STS.FLOW_PCT)
      ∧ t.rd PWR_COOL_STS.INLET_C = (match inlet with | some c => c.toNat | none => s.rd PWR_COOL_STS.INLET_C)
      ∧ t.rd PWR_COOL_STS.SENSE_OK = 0 ∧ t.rd PWR_COOL_STS.TACH_OK = b2n tach ∧ ShowsEnvelope t
      ∧ t = { s with regs := t.regs, power := t.power, pcie := t.pcie, out := t.out } ∧ FieldsKept s t coolKeys)
  ∧ (∀ (s : State) (dp : Option Nat) (inlet : Option (BitVec 8)) (tach : Bool), s.now < s.power.coolAt + perMs →
    exec (.coolantRead dp inlet tach) s = .next s)
  ∧ (∀ (s : State) (e : Nat), e + s.rd PWR_COOL_CFG.TACH_LOSS_MS * perMs ≤ s.now → s.power.hold = false →
    s.rd CTL_PSTATE.STATE = 0 →
    ∃ t, exec (.tachLoss e) s = .next t ∧ t.power.hold = true ∧ t.power.holdAt = some s.now ∧ t.rd PWR_COOL_STS.STATE = 2
      ∧ t.rd PWR_COOL_STS.TACH_OK = 0 ∧ t.power.goodFlow = 0 ∧ t.faultBit 24 23 = true
      ∧ (∀ d ∈ s.supplied, (t.die d).targetMv = s.rd PWR_VOLT_CFG.VHOLD_MV) ∧ SameMemory s t ∧ t.rings = s.rings
      ∧ OtherFields s t [PWR_COOL_STS.STATE.key, PWR_COOL_STS.TACH_OK.key])
  ∧ (∀ (s : State) (e : Nat), e + s.rd PWR_COOL_CFG.TACH_LOSS_MS * perMs ≤ s.now → s.power.hold = true ∨
    s.rd CTL_PSTATE.STATE ≠ 0 →
    ∃ t, exec (.tachLoss e) s = .next t ∧ t.rd PWR_COOL_STS.TACH_OK = 0
      ∧ t = { s with regs := t.regs, power := { s.power with goodFlow := 0 } } ∧ FieldsKept s t [PWR_COOL_STS.TACH_OK.key])
  ∧ (∀ (s : State) (e : Nat), s.now < e + s.rd PWR_COOL_CFG.TACH_LOSS_MS * perMs → exec (.tachLoss e) s = .next s)
  ∧ (∀ (s : State), (20 ≤ s.power.lowFlow ∨ 20 ≤ s.power.badReads ∨ 60 < s.rd PWR_COOL_STS.INLET_C) →
    s.power.hold = false → s.rd CTL_PSTATE.STATE = 0 →
    ∃ t, exec .suddenStop s = .next t ∧ t.power.hold = true ∧ t.power.holdAt = some s.now ∧ t.rd PWR_COOL_STS.STATE = 2
      ∧ t.faultBit 24 23 = true ∧ (∀ d ∈ s.supplied, (t.die d).targetMv = s.rd PWR_VOLT_CFG.VHOLD_MV) ∧ SameMemory s t
      ∧ t.rings = s.rings ∧ OtherFields s t [PWR_COOL_STS.STATE.key])
  ∧ (∀ (s : State), (s.power.lowFlow < 20 ∧ s.power.badReads < 20 ∧ s.rd PWR_COOL_STS.INLET_C ≤ 60)
      ∨ s.power.hold = true ∨ s.rd CTL_PSTATE.STATE ≠ 0 → exec .suddenStop s = .next s)
  ∧ (∀ (s : State), s.power.hold = true → s.power.holdAt.isSome = true → 50 ≤ s.power.goodFlow →
    30 ≤ s.rd PWR_COOL_STS.FLOW_PCT → s.rd PWR_COOL_STS.TACH_OK = 1 → s.rd PWR_COOL_STS.INLET_C ≤ 60 →
    ∃ t, exec .coolantRecover s = .next t ∧ t.power.hold = false ∧ t.power.holdAt = none ∧ t.rd PWR_COOL_STS.STATE = 1
      ∧ ShowsEnvelope t ∧ OnlyPower s t (PWR_COOL_STS.STATE.key :: stsKeys))
  ∧ (∀ (s : State), s.power.hold = false ∨ s.power.holdAt = none ∨ s.power.goodFlow < 50
      ∨ s.rd PWR_COOL_STS.FLOW_PCT < 30 ∨ s.rd PWR_COOL_STS.TACH_OK ≠ 1 ∨ 60 < s.rd PWR_COOL_STS.INLET_C →
    exec .coolantRecover s = .next s)
  ∧ (∀ (s : State) (h : Nat), s.power.holdAt = some h → h + 200 * perMs ≤ s.now →
    ∃ t, exec .coolantHoldTimeout s = .next t ∧ t.power = { s.power with holdAt := none }
      ∧ (∃ e ∈ t.faults.events, e.die = 24 ∧ e.bit = 24 ∧ e.plots = s.boundPlots) ∧ t.faultBit 24 24 = true
      ∧ SameMemory s t ∧ t.rings = s.rings ∧ OtherFields s t [])
  ∧ (∀ (s : State), (∀ h, s.power.holdAt = some h → s.now < h + 200 * perMs) → exec .coolantHoldTimeout s = .next s)
  ∧ (∀ (s : State), s.power.hold = true → s.power.holdAt = none → s.rd CTL_PSTATE.STATE = 0 →
    (∀ e ∈ s.faults.events, e.die ≠ 24 ∨ e.bit ≠ 24) → (∀ p ∈ s.boundPlots, s.plotState p ≠ plotRESETTING) →
    ∃ t, exec .coolantFallowEntry s = .next t ∧ t.rd CTL_PSTATE.STATE = 1 ∧ t.power = { s.power with hold := false }
      ∧ t.rd PWR_COOL_STS.STATE = 3 ∧ t.glob = { s.glob with coolFallow := true } ∧ SameMemory s t ∧ t.rings = s.rings
      ∧ FieldsKept s t [CTL_PSTATE.STATE.key, PWR_COOL_STS.STATE.key])
  ∧ (∀ (s : State), s.power.hold = false ∨ s.power.holdAt.isSome = true ∨ s.rd CTL_PSTATE.STATE ≠ 0
      ∨ (∃ e ∈ s.faults.events, e.die = 24 ∧ e.bit = 24) ∨ (∃ p ∈ s.boundPlots, s.plotState p = plotRESETTING) →
    exec .coolantFallowEntry s = .next s)
  ∧ (∀ (s : State) (pressure : Option Nat) (inlet : Option (BitVec 8)) (tach : Bool), ∃ t, exec (.coolantRead pressure
    inlet tach) s = .next t ∧ Rest s t [.draws, .out, .regs, .pcie, .power])
  ∧ (∀ (s : State) (lastEdge : Nat), ∃ t, exec (.tachLoss lastEdge) s = .next t ∧ Rest s t [.out, .regs, .flash,
    .plots, .pcie, .power, .faults])
  ∧ (∀ (s : State), ∃ t, exec .suddenStop s = .next t ∧ Rest s t [.out, .regs, .flash, .plots, .pcie, .power,
    .faults])
  ∧ (∀ (s : State), ∃ t, exec .coolantRecover s = .next t ∧ Rest s t [.regs, .power])
  ∧ (∀ (s : State), ∃ t, exec .coolantHoldTimeout s = .next t ∧ Rest s t [.out, .regs, .flash, .plots, .pcie, .power,
    .faults])
  ∧ (∀ (s : State), ∃ t, exec .coolantFallowEntry s = .next t ∧ Rest s t [.regs, .hbm, .flash, .power, .glob])

/-- R41, R172, R388, R443, R444, R447, R450, R452, R468: an error line latches its bit, advances SEQ and waits for core 1,
a FIREBREAK bit counts in BLOCKED of the plots named, a fault of a link adder moves its port to the path, one of a port's
buffer retrains it, a C4 bit is windthrow; a reserved bit does nothing, and nor does a line of a die in a brown-out but the
brown-out's; words are sent and arrive, and one with nothing new does nothing; an injected line acts only in FACTORY_TEST;
writing back the present SEQ clears the bits decided C0 to C2, another value nothing.  Each of the five commands answers a
next state in every state, and every part of the state but those listed is as before. -/
def Obligations.FaultWordsLatchTravelAndClear : Prop :=
  (∀ (s : State) (die : Fin 25) (b : Fin 64) (plots : List (Fin 64)) (u : BitVec 8) (d : BitVec 64),
    s.faults.started = true → (die.val < 16 → b.val ≠ 22 → s.brownedOut die = false) → faultClasses die b ≠ [] →
    ∃ t, exec (.faultLatch die b plots u d) s = .next t ∧ t.faultBit die b = true
      ∧ (topClass die b ≠ 0 → t.waitsForCore1 die b) ∧ SameMemory s t)
  ∧ (∀ (s : State) (die : Fin 25) (b : Fin 64) (plots : List (Fin 64)) (u : BitVec 8) (d : BitVec 64),
    s.faults.started = true → (die.val < 16 → b.val ≠ 22 → s.brownedOut die = false) → faultClasses die b ≠ [] →
    topClass die b < 4 → adderPort die b = none → (16 ≤ die.val → die.val < 24 → b.val ≠ 32) →
    ∃ t, exec (.faultLatch die b plots u d) s = .next t
      ∧ t.rd (FLT_SEQ.SEQ die) = (s.rd (FLT_SEQ.SEQ die) + 1) % 2 ^ (FLT_SEQ.SEQ die).width
      ∧ (topClass die b = 0 → t.faults.events = s.faults.events)
      ∧ (b.val = firebreakBit die.val → plots.Nodup → ∀ p ∈ plots, t.rd (CNT_FIREBREAK.BLOCKED p.val)
          = min (s.rd (CNT_FIREBREAK.BLOCKED p.val) + 1) (2 ^ (CNT_FIREBREAK.BLOCKED p.val).width - 1))
      ∧ t.rings = s.rings ∧ t.plots = s.plots ∧ t.flash = s.flash
      ∧ OtherFields s t (if b.val = firebreakBit die.val then
          plots.map (fun p => (CNT_FIREBREAK.BLOCKED p.val).key) else []))
  ∧ (∀ (s : State) (die : Fin 25) (b : Fin 64) (plots : List (Fin 64)) (u : BitVec 8) (d : BitVec 64) (p : Nat),
    s.faults.started = true → adderPort die b = some p →
    ∃ t, exec (.faultLatch die b plots u d) s = .next t ∧ p ∈ t.fabric.adderFault
      ∧ (p ∈ t.fabric.pathVe ∨ (p, true) ∈ t.fabric.pathWant))
  ∧ (∀ (s : State) (die : Fin 25) (plots : List (Fin 64)) (u : BitVec 8) (d : BitVec 64), s.faults.started = true →
    16 ≤ die.val → die.val < 24 → u.toNat < 24 → dieOfPort u.toNat = die.val →
    (s.portState u.toNat = portUP ∨ s.portState u.toNat = portLPI) →
    ∃ t, exec (.faultLatch die 32 plots u d) s = .next t ∧ t.portState u.toNat = portTRAINING)
  ∧ (∀ (s : State) (die : Fin 25) (b : Fin 64) (plots : List (Fin 64)) (u : BitVec 8) (d : BitVec 64),
    (s.faults.started = false ∨ faultClasses die b = [] ∨ (die.val < 16 ∧ b.val ≠ 22 ∧ s.brownedOut die = true)) →
    exec (.faultLatch die b plots u d) s = .next s)
  ∧ (∀ (s : State) (die : Fin 25) (b : Fin 64) (plots : List (Fin 64)) (u : BitVec 8) (d : BitVec 64),
    s.faults.started = true → (die.val < 16 → s.brownedOut die = false) → topClass die b = 4 →
    s.faults.windthrow = false →
    ∃ t, exec (.faultLatch die b plots u d) s = .next t ∧ t.faults.windthrow = true ∧ t.faults.faultN = false
      ∧ t.sec.identityRefused = true ∧ t.matJobs = [] ∧ t.vecJobs = []
      ∧ (∀ gd, gd < 16 → (t.die gd).supplyOn = false) ∧ t.rd CTL_BRINGUP_STS.PHASE = 6)
  ∧ (∀ (s : State) (die : Fin 24),
    ∃ t, exec (.faultWordSend die) s = .next t ∧ die.val ∈ t.faults.onWay
      ∧ (∀ d, d ≠ die.val → (d ∈ t.faults.onWay ↔ d ∈ s.faults.onWay))
      ∧ t = { s with faults := { s.faults with onWay := t.faults.onWay } })
  ∧ (∀ (s : State) (die : Fin 24), s.faults.started = true →
    die.val ∈ s.faults.onWay ∨ s.faultWord die &&& ~~~(Tab.val s.faults.atClearing die) ≠ 0 →
    ∃ t, exec (.faultWordArrive die) s = .next t ∧ Tab.val t.faults.atClearing die = s.faultWord die
      ∧ Tab.val t.faults.lastWord die = s.now ∧ die.val ∉ t.faults.onWay
      ∧ (∀ d, d ≠ die.val → Tab.val t.faults.atClearing d = Tab.val s.faults.atClearing d)
      ∧ t.faults.events = s.faults.events ∧ t = { s with faults := t.faults })
  ∧ (∀ (s : State) (die : Fin 24), s.faults.started = false ∨ (die.val ∉ s.faults.onWay
      ∧ s.faultWord die &&& ~~~(Tab.val s.faults.atClearing die) = 0) →
    exec (.faultWordArrive die) s = .next s)
  ∧ (∀ (s : State) (path : Fin 6) (v : BitVec 32), s.writeOpen path 0x40040 = true → s.sec.lifecycle = 1 →
    bit v.toNat 31 = true → bits v.toNat 28 24 ≤ 24 → faultClasses (bits v.toNat 28 24) (bits v.toNat 21 16) ≠ [] →
    ∃ t, exec (.fltInject path v) s = .next t ∧ t.faultBit (bits v.toNat 28 24) (bits v.toNat 21 16) = true
      ∧ (topClass (bits v.toNat 28 24) (bits v.toNat 21 16) ≠ 0 →
          t.waitsForCore1 (bits v.toNat 28 24) (bits v.toNat 21 16)) ∧ SameMemory s t)
  ∧ (∀ (s : State) (path : Fin 6) (v : BitVec 32), s.writeOpen path 0x40040 = false ∨ s.sec.lifecycle ≠ 1
      ∨ bit v.toNat 31 = false ∨ 24 < bits v.toNat 28 24
      ∨ faultClasses (bits v.toNat 28 24) (bits v.toNat 21 16) = [] →
    exec (.fltInject path v) s = .next s)
  ∧ (∀ (s : State) (path : Fin 6) (die : Fin 25) (q : BitVec 8), s.writeOpen path (0x40108 + 0x20 * die) = true →
    q.toNat = s.rd (FLT_SEQ.SEQ die) →
    ∃ t, exec (.faultSeqWriteBack path die q) s = .next t
      ∧ (∀ b, b < 64 → t.faultBit die b = (s.faultBit die b
          && !(!s.undecided die b && decide (Tab.val s.faults.decided (64 * die + b) ≤ 3))))
      ∧ (∀ d b, d < 25 → d ≠ die.val → b < 64 → t.faultBit d b = s.faultBit d b)
      ∧ t.rd (FLT_SEQ.SEQ die) = s.rd (FLT_SEQ.SEQ die) ∧ t.faults.events = s.faults.events
      ∧ t = { s with regs := t.regs, faults := t.faults } ∧ OtherFields s t [])
  ∧ (∀ (s : State) (path : Fin 6) (die : Fin 25) (q : BitVec 8), s.writeOpen path (0x40108 + 0x20 * die) = false
      ∨ q.toNat ≠ s.rd (FLT_SEQ.SEQ die) → exec (.faultSeqWriteBack path die q) s = .next s)
  ∧ (∀ (s : State) (die : Fin 25) (bit : Fin 64) (plots : List (Fin 64)) (unit : BitVec 8) (detail : BitVec 64), ∃ t,
    exec (.faultLatch die bit plots unit detail) s = .next t ∧ Rest s t [.out, .regs, .flash, .slabs, .rings, .plots,
    .matJobs, .vecJobs, .fabric, .ports, .puts, .tags, .mgr, .pcie, .sec, .power, .faults, .maint])
  ∧ (∀ (s : State) (die : Fin 24), ∃ t, exec (.faultWordSend die) s = .next t ∧ Rest s t [.faults])
  ∧ (∀ (s : State) (die : Fin 24), ∃ t, exec (.faultWordArrive die) s = .next t ∧ Rest s t [.faults])
  ∧ (∀ (s : State) (path : Fin 6) (v : BitVec 32), ∃ t, exec (.fltInject path v) s = .next t ∧ Rest s t [.out, .regs,
    .flash, .slabs, .rings, .plots, .matJobs, .vecJobs, .fabric, .ports, .puts, .tags, .mgr, .pcie, .sec, .power,
    .faults, .maint])
  ∧ (∀ (s : State) (path : Fin 6) (die : Fin 25) (seq : BitVec 8), ∃ t, exec (.faultSeqWriteBack path die seq) s =
    .next t ∧ Rest s t [.regs, .faults])

/-- R40, R445, R447 to R450, R455: core 1 decides an event once its word has arrived and the replays that settle it are
over, logs it from C1 on and acts: C1 counts, C2 resets the plots it names, C3 asks for a warm reset or holds, and in
windthrow nothing more follows than the count; a die silent for 12,288 periods is fenced or its ports go down; a log
record is fetched with its CRC, and zeros stand past the oldest (assumption 120).  An event that may not be decided so,
a die that is not silent, and a fetch that was not asked for, do nothing.  Each of the four commands answers a next state
in every state, and every part of the state but those listed is as before. -/
def Obligations.ClassesAreDecidedAndLogged : Prop :=
  (∀ (s : State) (pos : Nat) (cls : Fin 5) (e : Event), s.faults.events[pos]? = some e → s.sec.booted = true →
    s.mayDecide e cls = true → cls.val ≤ 1 →
    ∃ t, exec (.faultClassDecide pos cls) s = .next t ∧ t.faults.events = s.faults.events.eraseIdx pos
      ∧ t.rd CNT_FLT_A.C1 = (if cls.val = 1 then min (s.rd CNT_FLT_A.C1 + 1) (2 ^ CNT_FLT_A.C1.width - 1)
          else s.rd CNT_FLT_A.C1)
      ∧ (cls.val = 1 → ∃ r, t.flash.pendLog = s.flash.pendLog ++ [r] ∧ r.die = e.die ∧ r.bit = e.bit ∧ r.cls = 1
          ∧ r.unit = e.unit ∧ r.detail = e.detail ∧ r.time = e.time)
      ∧ (cls.val = 0 → e.kind = 0 → t.flash = s.flash) ∧ SameMemory s t ∧ t.rings = s.rings ∧ t.plots = s.plots
      ∧ OtherFields s t [CNT_FLT_A.C1.key])
  ∧ (∀ (s : State) (pos : Nat) (e : Event), s.faults.events[pos]? = some e → s.sec.booted = true →
    s.mayDecide e 2 = true → s.faults.windthrow = false →
    ∃ t, exec (.faultClassDecide pos 2) s = .next t ∧ t.faults.events = s.faults.events.eraseIdx pos
      ∧ (∀ p ∈ e.plots, p < 64 → s.plotState p = plotBOUND → t.plotState p = plotRESETTING)
      ∧ t.rd CNT_FLT_A.C2 = min (s.rd CNT_FLT_A.C2 + 1) (2 ^ CNT_FLT_A.C2.width - 1)
      ∧ (∃ r, t.flash.pendLog = s.flash.pendLog ++ [r] ∧ r.die = e.die ∧ r.bit = e.bit ∧ r.cls = 2)
      ∧ SameMemory s t ∧ t.rings = s.rings)
  ∧ (∀ (s : State) (pos : Nat) (e : Event), s.faults.events[pos]? = some e → s.sec.booted = true →
    s.mayDecide e 3 = true → s.faults.windthrow = false →
    ∃ t, exec (.faultClassDecide pos 3) s = .next t ∧ t.faults.events = s.faults.events.eraseIdx pos
      ∧ t.faults.stopped = true ∧ t.rd CNT_FLT_B.C3 = min (s.rd CNT_FLT_B.C3 + 1) (2 ^ CNT_FLT_B.C3.width - 1)
      ∧ (if s.rd FLT_CFG.AUTO_WARM ≠ 0 ∧ (recent s.now perHour s.faults.c3Times).length < 2 then t.glob.warm = true
          else t.rd FLT_SUMMARY.HELD = 1 ∧ t.rd CTL_BRINGUP_STS.PHASE = 5 ∧ t.glob.warm = false)
      ∧ (∃ r, t.flash.pendLog = s.flash.pendLog ++ [r] ∧ r.die = e.die ∧ r.bit = e.bit ∧ r.cls = 3)
      ∧ SameMemory s t ∧ t.rings = s.rings ∧ t.plots = s.plots)
  ∧ (∀ (s : State) (pos : Nat) (cls : Fin 5) (e : Event), s.faults.events[pos]? = some e → s.sec.booted = true →
    s.mayDecide e cls = true → cls.val = 4 ∨ (2 ≤ cls.val ∧ s.faults.windthrow = true) →
    ∃ t, exec (.faultClassDecide pos cls) s = .next t ∧ t.faults.events = s.faults.events.eraseIdx pos
      ∧ (∃ r, t.flash.pendLog = s.flash.pendLog ++ [r] ∧ r.die = e.die ∧ r.bit = e.bit ∧ r.cls = cls.val)
      ∧ t.rd CNT_FLT_A.C2 = (if cls.val = 2 then min (s.rd CNT_FLT_A.C2 + 1) (2 ^ CNT_FLT_A.C2.width - 1)
          else s.rd CNT_FLT_A.C2)
      ∧ t.rd CNT_FLT_B.C3 = (if cls.val = 3 then min (s.rd CNT_FLT_B.C3 + 1) (2 ^ CNT_FLT_B.C3.width - 1)
          else s.rd CNT_FLT_B.C3)
      ∧ t.faults.stopped = s.faults.stopped ∧ t.glob = s.glob ∧ SameMemory s t ∧ t.rings = s.rings ∧ t.plots = s.plots)
  ∧ (∀ (s : State) (pos : Nat) (cls : Fin 5), s.sec.booted = false
      ∨ (∀ e, s.faults.events[pos]? = some e → s.mayDecide e cls = false) →
    exec (.faultClassDecide pos cls) s = .next s)
  ∧ (∀ (s : State) (e : Event) (cls : Nat), s.mayDecide e cls = true → e.waits ≠ [] →
    s.replaysOver e = true ∧ cls = (if s.replayFailed e then 2 else 1))
  ∧ (∀ (s : State) (die : Fin 24), s.faults.started = true → s.rdBit FLT_SILENT.SILENT die = false →
    Tab.val s.faults.lastWord die + 12288 ≤ s.now →
    ∃ t, exec (.dieSilent die) s = .next t ∧ t.rdBit FLT_SILENT.SILENT die = true ∧ t.waitsForCore1 24 22
      ∧ t.faultBit 24 22 = true ∧ (die.val < 16 → t.fenced die = true)
      ∧ (16 ≤ die.val → ∀ p, p / 3 = die.val - 16 → s.portState p ≠ portRETIRED → t.portState p = portDOWN
          ∧ (p ∈ t.fabric.pathVe ∨ (p, true) ∈ t.fabric.pathWant))
      ∧ SameMemory s t)
  ∧ (∀ (s : State) (die : Fin 24), s.faults.started = false ∨ s.rdBit FLT_SILENT.SILENT die = true
      ∨ s.now < Tab.val s.faults.lastWord die + 12288 → exec (.dieSilent die) s = .next s)
  ∧ (∀ (s : State) (path : Fin 6) (n : BitVec 19), s.writeOpen path 0x40050 = true →
    ∃ t, exec (.faultLogSelect path n) s = .next t ∧ t.rd FLT_LOG_SEL.INDEX = n.toNat ∧ t.rd FLT_LOG_SEL.READY = 0
      ∧ t.faults = { s.faults with logFetch := some n.toNat } ∧ t = { s with regs := t.regs, faults := t.faults }
      ∧ FieldsKept s t [FLT_LOG_SEL.INDEX.key, FLT_LOG_SEL.READY.key])
  ∧ (∀ (s : State) (path : Fin 6) (n : BitVec 19), s.writeOpen path 0x40050 = false →
    exec (.faultLogSelect path n) s = .next s)
  ∧ (∀ (s : State), s.faults.logFetch = none → exec .faultLogReady s = .next s)
  ∧ (∀ (s : State) (n : Nat), s.faults.logFetch = some n →
    ∃ t, exec .faultLogReady s = .next t ∧ t.rd FLT_LOG_SEL.READY = 1
      ∧ (∀ i, i < 8 → t.rd (FLT_LOG_DATA.DATA i) = (match s.flash.log[n]? with
          | some r => leNat ((r.bytes.drop (4 * i)).take 4)
          | none => 0))
      ∧ t.faults = { s.faults with logFetch := none } ∧ t = { s with regs := t.regs, faults := t.faults }
      ∧ FieldsKept s t (FLT_LOG_SEL.READY.key :: (List.range 8).map (fun i => (FLT_LOG_DATA.DATA i).key)))
  ∧ (∀ (r : FaultRec), r.bytes.length = 32 ∧ leNat (r.bytes.drop 28) = crc32 (r.bytes.take 28))
  ∧ (∀ (s : State) (pos : Nat) (cls : Fin 5), ∃ t, exec (.faultClassDecide pos cls) s = .next t ∧ Rest s t [.draws,
    .out, .regs, .flash, .engines, .plots, .matJobs, .vecJobs, .fabric, .ports, .tags, .mgr, .mac, .pcie, .sec,
    .cores, .faults, .glob])
  ∧ (∀ (s : State) (die : Fin 24), ∃ t, exec (.dieSilent die) s = .next t ∧ Rest s t [.out, .regs, .hbm, .pkg, .flash,
    .slabs, .rings, .plots, .fabric, .ports, .puts, .tags, .pcie, .power, .faults, .maint])
  ∧ (∀ (s : State) (path : Fin 6) (index : BitVec 19), ∃ t, exec (.faultLogSelect path index) s = .next t ∧ Rest s t
    [.regs, .faults])
  ∧ (∀ (s : State), ∃ t, exec .faultLogReady s = .next t ∧ Rest s t [.regs, .faults])

/-- R21, R40, R41, R230, R274, R336, R373, R456: an engine whose timeout has passed is reset and latches its bit, a tile
that runs on it restarts, a replaying array fails its MATMUL, and a core that waited ends its call; a transaction whose
timer has passed fails with its descriptor, a DMA read counted, a stream's epoch failed, a port with flits unacknowledged
retrained, at the third time in an hour retired; an epoch fails; partials are replayed once, then fail their descriptor.
Before its time, while a row repair holds its timer, on a die in a brown-out, or where nothing waits, a timeout has no
effect.  Each of the two commands answers a next state in every state, and every part of the state but those listed is as
before. -/
def Obligations.EnginesAndTransfersTimeOut : Prop :=
  (∀ (s : State) (gd : Fin 16) (e : Fin 9) (since : Nat), s.groveUp gd = true → s.brownedOut gd = false →
    since + s.rd FLT_TMO_ENGINE.MS * perMs ≤ s.now →
    ∃ t, exec (.engineTimeout gd e none since) s = .next t ∧ (t.engine gd e).resets = (s.engine gd e).resets + 1
      ∧ (t.engine gd e).loaded = none ∧ t.waitsForCore1 gd 21 ∧ t.faultBit gd 21 = true ∧ t.host = s.host
      ∧ t.stash = s.stash)
  ∧ (∀ (s : State) (gd : Fin 16) (m : Fin 9) (since r i k : Nat) (j : MatJob) (tl : Tile) (e : Entry),
    s.groveUp gd = true → s.brownedOut gd = false → since + s.rd FLT_TMO_ENGINE.MS * perMs ≤ s.now →
    m.val < 3 → s.tileOn (3 * gd + m) = some (r, i, k, j, tl, e) → (s.engine gd m).replaying = true → e.stage < 3 →
    ∃ t, exec (.engineTimeout gd m none since) s = .next t ∧ t.ended r i 0x18 0 ∧ OtherEntries s t r i)
  ∧ (∀ (s : State) (gd : Fin 16) (m : Fin 9) (since r i k : Nat) (j : MatJob) (tl : Tile) (e : Entry),
    s.groveUp gd = true → s.brownedOut gd = false → since + s.rd FLT_TMO_ENGINE.MS * perMs ≤ s.now →
    m.val < 3 → s.tileOn (3 * gd + m) = some (r, i, k, j, tl, e) → (s.engine gd m).replaying = false →
    tl.demand = none → tl.granted = none →
    ∃ t j' tl' e', exec (.engineTimeout gd m none since) s = .next t ∧ (t.engine gd m).replaying = true
      ∧ t.tileOn (3 * gd + m) = some (r, i, k, j', tl', e') ∧ tl'.passes = 0 ∧ t.rings = s.rings ∧ SameMemory s t)
  ∧ (∀ (s : State) (gd : Fin 16) (e : Fin 9) (c : Fin 28) (since r i : Nat) (x : Entry), s.groveUp gd = true →
    s.brownedOut gd = false → since + s.rd FLT_TMO_ENGINE.MS * perMs ≤ s.now →
    (s.core (c.val + 4)).job = some (r, i) → s.entry r i = some x → x.stage < 3 →
    ∃ t, exec (.engineTimeout gd e (some c) since) s = .next t ∧ t.ended r i 0x19 0 ∧ OtherEntries s t r i
      ∧ t.waitsForCore1 gd 21 ∧ SameMemory s t)
  ∧ (∀ (s : State) (gd : Fin 16) (e : Fin 9) (c : Fin 28) (since : Nat), s.groveUp gd = true →
    s.brownedOut gd = false → since + s.rd FLT_TMO_ENGINE.MS * perMs ≤ s.now → (s.core (c.val + 4)).job = none →
    ∃ t, exec (.engineTimeout gd e (some c) since) s = .next t ∧ t.waitsForCore1 gd 21 ∧ t.rings = s.rings
      ∧ SameMemory s t)
  ∧ (∀ (s : State) (gd : Fin 16) (e : Fin 9) (c : Option (Fin 28)) (since : Nat), s.groveUp gd = false
      ∨ s.brownedOut gd = true ∨ s.now < since + s.rd FLT_TMO_ENGINE.MS * perMs →
    exec (.engineTimeout gd e c since) s = .next s)
  ∧ (∀ (s : State) (k : Fin 8192), (∀ u, s.tags.used.find? (fun u => decide (u.tag = k.val)) = some u →
      u.kind = 3 ∨ s.now < u.deadline ∨ s.tagHeld u = true) → exec (.transferTimeout (.tag k)) s = .next s)
  ∧ (∀ (s : State) (k : Fin 8192) (u : TagUse), s.tags.used.find? (fun u => decide (u.tag = k.val)) = some u →
    u.kind ≠ 3 → u.deadline ≤ s.now → s.tagHeld u = false → u.peer = none →
    ∃ t, exec (.transferTimeout (.tag k)) s = .next t ∧ (∀ w ∈ t.tags.used, w.tag ≠ k.val) ∧ t.waitsForCore1 24 15
      ∧ t.rd CNT_PCIE_ERR.CPL_TIMEOUT
          = min (s.rd CNT_PCIE_ERR.CPL_TIMEOUT + 1) (2 ^ CNT_PCIE_ERR.CPL_TIMEOUT.width - 1)
      ∧ (∀ e, s.entry u.ring u.idx = some e → e.stage < 3 → t.ended u.ring u.idx 0x13 0)
      ∧ OtherEntries s t u.ring u.idx ∧ SameMemory s t)
  ∧ (∀ (s : State) (k : Fin 8192) (u : TagUse) (node : Nat),
    s.tags.used.find? (fun u => decide (u.tag = k.val)) = some u → u.peer = some node → u.kind ≠ 2 → u.kind ≠ 3 →
    u.deadline ≤ s.now → s.tagHeld u = false → (s.link u.port node).unacked = 0 →
    ∃ t, exec (.transferTimeout (.tag k)) s = .next t ∧ (∀ w ∈ t.tags.used, w.tag ≠ k.val) ∧ t.waitsForCore1 24 15
      ∧ (∀ e, s.entry u.ring u.idx = some e → e.stage < 3 → t.ended u.ring u.idx 0x16 0)
      ∧ OtherEntries s t u.ring u.idx ∧ SameMemory s t)
  ∧ (∀ (s : State) (k : Fin 8192) (u : TagUse) (node : Nat),
    s.tags.used.find? (fun u => decide (u.tag = k.val)) = some u → u.peer = some node → u.kind = 2 →
    u.deadline ≤ s.now → s.tagHeld u = false → (s.link u.port node).unacked = 0 →
    ∃ t, exec (.transferTimeout (.tag k)) s = .next t ∧ t.waitsForCore1 24 15 ∧ t.rings = s.rings ∧ SameMemory s t
      ∧ (s.schedOf u = none → ∀ w ∈ t.tags.used, w.tag ≠ k.val)
      ∧ (∀ c j, s.schedOf u = some c → (s.sched c).job = some j → j.failed = none →
          (t.sched c).job = some { j with failed := some false }))
  ∧ (∀ (s : State) (k : Fin 8192) (u : TagUse) (node : Nat),
    s.tags.used.find? (fun u => decide (u.tag = k.val)) = some u → u.peer = some node → u.kind ≠ 3 →
    u.deadline ≤ s.now → s.tagHeld u = false →
    (s.link u.port node).unacked ≠ 0 → u.port < 24 →
    ∃ t, exec (.transferTimeout (.tag k)) s = .next t
      ∧ t.portState u.port = (if (recent s.now perHour (s.port u.port).stalls).length < 2 then portTRAINING
          else portRETIRED)
      ∧ t.waitsForCore1 24 15 ∧ SameMemory s t)
  ∧ (∀ (s : State) (k : Fin 256) (since : Nat) (j : XJob), (s.sched k).job = some j → j.failed = none →
    since + s.rd FLT_TMO_TRANSFER.UNITS * 100 * perUs ≤ s.now →
    ∃ t, exec (.transferTimeout (.epoch k since)) s = .next t ∧ (t.sched k).job = some { j with failed := some false }
      ∧ t.waitsForCore1 24 15 ∧ SameMemory s t ∧ t.rings = s.rings)
  ∧ (∀ (s : State) (k : Fin 256) (since : Nat), (∀ j, (s.sched k).job = some j → j.failed.isSome = true)
      ∨ s.now < since + s.rd FLT_TMO_TRANSFER.UNITS * 100 * perUs →
    exec (.transferTimeout (.epoch k since)) s = .next s)
  ∧ (∀ (s : State) (r : Fin 1024) (i since : Nat) (e : Entry) (j : MatJob), s.entry r i = some e → s.job r i = some j →
    since + s.rd FLT_TMO_TRANSFER.UNITS * 100 * perUs ≤ s.now →
    (∃ q ∈ j.arrived, q.2 < e.mShares) → e.replayed = false →
    ∃ t x, exec (.transferTimeout (.partials r i since)) s = .next t ∧ t.entry r i = some { e with replayed := true }
      ∧ t.job r i = some x ∧ (∀ q ∈ x.arrived, e.mShares ≤ q.2) ∧ (∀ q ∈ x.arrived, q ∈ j.arrived)
      ∧ OtherEntries s t r i ∧ t.waitsForCore1 24 15 ∧ SameMemory s t)
  ∧ (∀ (s : State) (r : Fin 1024) (i since : Nat) (e : Entry) (j : MatJob), s.entry r i = some e → s.job r i = some j →
    since + s.rd FLT_TMO_TRANSFER.UNITS * 100 * perUs ≤ s.now →
    (∃ q ∈ j.arrived, q.2 < e.mShares) → e.replayed = true → e.stage < 3 →
    ∃ t, exec (.transferTimeout (.partials r i since)) s = .next t ∧ t.ended r i 0x18 0 ∧ OtherEntries s t r i
      ∧ t.waitsForCore1 24 15 ∧ SameMemory s t)
  ∧ (∀ (s : State) (r : Fin 1024) (i since : Nat) (e : Entry) (j : VecJob), s.entry r i = some e → s.job r i = none →
    s.vecJob r i = some j → since + s.rd FLT_TMO_TRANSFER.UNITS * 100 * perUs ≤ s.now →
    ∃ t, exec (.transferTimeout (.partials r i since)) s = .next t ∧ t.waitsForCore1 24 15 ∧ OtherEntries s t r i
      ∧ (e.replayed = true → e.stage < 3 → t.ended r i 0x18 0 ∧ t.vecJob r i = none ∧ SameMemory s t))
  ∧ (∀ (s : State) (r : Fin 1024) (i since : Nat), s.entry r i = none ∨ (s.job r i = none ∧ s.vecJob r i = none)
      ∨ s.now < since + s.rd FLT_TMO_TRANSFER.UNITS * 100 * perUs →
    exec (.transferTimeout (.partials r i since)) s = .next s)
  ∧ (∀ (s : State) (gd : Fin 16) (engine : Fin 9) (core : Option (Fin 28)) (since : Nat), ∃ t, exec (.engineTimeout gd
    engine core since) s = .next t ∧ Rest s t [.draws, .out, .regs, .hbm, .flash, .engines, .rings, .plots, .matJobs,
    .fabric, .ports, .tags, .pcie, .cores, .faults])
  ∧ (∀ (s : State) (what : TimedOut), ∃ t, exec (.transferTimeout what) s = .next t ∧ Rest s t [.draws, .out, .regs,
    .hbm, .flash, .engines, .slabs, .rings, .plots, .matJobs, .vecJobs, .fabric, .ports, .puts, .tags, .pcie, .power,
    .faults, .maint, .bytes])

/-- R457: a write to a timeout register stores the nearest value that keeps the chain of timeouts, and keeps the chain;
the drain timeout and the heartbeat periods store their nearest legal values; one that does not reach its register has no
effect.  The command answers a next state in every state, and every part of the state but those listed is as before. -/
def Obligations.TimeoutsKeepTheirChain : Prop :=
  (∀ (s : State) (path : Fin 6) (v : BitVec 32), s.writeOpen path 0x40010 = true → s.timeoutsOrdered →
    ∃ t, exec (.timeoutRegisterWrite path 0 v) s = .next t ∧ StoresNearest s t FLT_TMO_ENGINE.MS (bits v.toNat 9 0))
  ∧ (∀ (s : State) (path : Fin 6) (v : BitVec 32), s.writeOpen path 0x40014 = true → s.timeoutsOrdered →
    ∃ t, exec (.timeoutRegisterWrite path 1 v) s = .next t ∧ StoresNearest s t FLT_TMO_TRANSFER.UNITS (bits v.toNat 9 0))
  ∧ (∀ (s : State) (path : Fin 6) (v : BitVec 32), s.writeOpen path 0x40018 = true → s.timeoutsOrdered →
    ∃ t, exec (.timeoutRegisterWrite path 2 v) s = .next t ∧ StoresNearest s t FLT_TMO_LINK.US (bits v.toNat 9 0))
  ∧ (∀ (s : State) (path : Fin 6) (v : BitVec 32), s.writeOpen path 0x4001C = true → s.timeoutsOrdered →
    ∃ t, exec (.timeoutRegisterWrite path 3 v) s = .next t ∧ StoresNearest s t FLT_TMO_DESC.MS v.toNat)
  ∧ (∀ (s : State) (path : Fin 6) (v : BitVec 32), s.writeOpen path 0x40020 = true → s.timeoutsOrdered →
    ∃ t, exec (.timeoutRegisterWrite path 4 v) s = .next t ∧ StoresNearest s t FLT_TMO_STEP.S (bits v.toNat 15 0))
  ∧ (∀ (s : State) (path : Fin 6) (v : BitVec 32), s.writeOpen path 0x40024 = true →
    ∃ t, exec (.timeoutRegisterWrite path 5 v) s = .next t ∧ 5 ≤ t.rd FLT_TMO_DRAIN.MS ∧ t.rd FLT_TMO_DRAIN.MS ≤ 90
      ∧ (∀ y, 5 ≤ y → y ≤ 90 → gap (bits v.toNat 6 0) (t.rd FLT_TMO_DRAIN.MS) ≤ gap (bits v.toNat 6 0) y)
      ∧ OnlyFields s t [FLT_TMO_DRAIN.MS.key])
  ∧ (∀ (s : State) (path : Fin 6) (v : BitVec 32), s.writeOpen path 0x40028 = true →
    ∃ t, exec (.timeoutRegisterWrite path 6 v) s = .next t
      ∧ t.rd FLT_TMO_HB.MGR_MS = max 1 (min 1000 (bits v.toNat 31 16))
      ∧ t.rd FLT_TMO_HB.DEVICE = max 25 (min 10000 (bits v.toNat 15 0))
      ∧ OnlyFields s t [FLT_TMO_HB.MGR_MS.key, FLT_TMO_HB.DEVICE.key])
  ∧ State.reset.timeoutsOrdered
  ∧ (∀ (s : State) (path : Fin 6) (reg : Fin 7) (v : BitVec 32), s.writeOpen path (0x40010 + 4 * reg) = false →
    exec (.timeoutRegisterWrite path reg v) s = .next s)
  ∧ (∀ (s : State) (path : Fin 6) (reg : Fin 7) (v : BitVec 32), ∃ t, exec (.timeoutRegisterWrite path reg v) s =
    .next t ∧ Rest s t [.regs])

/-- R202, R261, R328, R330, R333, R335 to R337, R344, R410, R452, R453, R490 to R495, R501, R502: a write stores each
writable field by its rule and leaves read-only and reserved ones, a mask stores maskable bits alone, a schedule register
waits for its step; RING_BASE of an enabled ring, a mailbox word while a command is in progress, a reserved offset and an
address that the path does not reach store nothing; a wrong size or alignment and a bad TLP count or are reported; the
window of recovery, the MSI-X tables and configuration space take their words; a low word latches its high word for its
path; the present SEQ clears its flags, another nothing; a written selection restarts its counter.  Each of the four
commands answers a next state in every state (REGISTER_WRITE, of what has no row of its own, where it is not malformed),
and every part of the state but those listed is as before. -/
def Obligations.RegisterAccessesFollowTheirRules : Prop :=
  (∀ (s : State) (path : Fin 6) (a : BitVec 24) (v : BitVec 32) (row : RegRow), s.storesPlainly path a.toNat →
    (RegTarget.word a v).plain = true → rowAt a.toNat = some row →
    ∃ t, exec (.registerWrite path (.word a v)) s = .next t
      ∧ (∀ f ∈ row.flds, (f.acc = .rw ∨ f.acc = .rwt) → t.rd (fieldAt row a.toNat f)
          = legalField f (v.toNat / 2 ^ fieldLow f % 2 ^ f.width))
      ∧ (∀ f ∈ row.flds, ¬ (f.acc = .rw ∨ f.acc = .rwt) → (fieldAt row a.toNat f).key ∉ stsKeys →
          ¬ inFaultBlock (fieldAt row a.toNat f) →
          t.rd (fieldAt row a.toNat f) = s.rd (fieldAt row a.toNat f))
      ∧ SameMemory s t ∧ t.rings = s.rings
      ∧ ∀ g, g.key / 32 ≠ a.toNat → g.key ∉ stsKeys → ¬ inFaultBlock g → t.rd g = s.rd g)
  ∧ (∀ (s : State) (path : Fin 6) (a : BitVec 24) (v : BitVec 32), (RegTarget.word a v).plain = true →
    a.toNat % 4 = 0 → rowAt a.toNat = none → ¬ (0xF00000 ≤ a.toNat ∧ a.toNat < 0xF08000) →
    ¬ (0x410000 ≤ a.toNat ∧ a.toNat < 0x420000) → a.toNat ≠ 0x400 → a.toNat ≠ 0x114 →
    exec (.registerWrite path (.word a v)) s = .next s)
  ∧ (∀ (s : State) (path : Fin 6) (a : BitVec 24) (v : BitVec 32), (RegTarget.word a v).plain = true →
    a.toNat % 4 = 0 →
    (0x100000 ≤ a.toNat ∧ a.toNat < 0x108000 ∧ s.rd (RING_CFG.ENABLE ((a.toNat - 0x100000) / 0x20)) = 1)
      ∨ (0x2000 ≤ a.toNat ∧ a.toNat < 0x4000 ∧ (path ≠ 0 ∨ s.sec.box.isSome = true))
      ∨ (a.toNat = 0x400 ∧ (path ≠ 0 ∨ s.sec.box.isSome = true))
      ∨ (0x410000 ≤ a.toNat ∧ a.toNat < 0x420000 ∧ s.rd SEC_STS.RECOVERY ≠ 1) →
    exec (.registerWrite path (.word a v)) s = .next s)
  ∧ (∀ (s : State) (v : BitVec 32), (RegTarget.word 0x400 v).plain = true → s.boxOpen = true → s.sec.box = none →
    ∃ t, exec (.registerWrite 0 (.word 0x400 v)) s = .next t ∧ t.rd CTL_MBOX_STS.BUSY = 1
      ∧ t.sec = { s.sec with box := some { len := bits v.toNat 29 16 } }
      ∧ t = { s with regs := t.regs, sec := t.sec } ∧ FieldsKept s t [CTL_MBOX_STS.BUSY.key])
  ∧ (∀ (s : State) (path : Fin 6) (v : BitVec 32), (RegTarget.word 0x114 v).plain = true → s.writeOpen path 0x114 = true →
    ∃ t, exec (.registerWrite path (.word 0x114 v)) s = .next t ∧ t.rd CTL_PSTATE.AUTO_WAKE = bits v.toNat 8 8
      ∧ OnlyFields s t [CTL_PSTATE.AUTO_WAKE.key])
  ∧ (∀ (s : State) (path : Fin 6) (a : BitVec 24) (v : BitVec 32), (RegTarget.word a v).plain = true →
    s.writeOpen path a.toNat = true → a.toNat % 4 = 0 → 0x410000 ≤ a.toNat → a.toNat < 0x420000 →
    s.rd SEC_STS.RECOVERY = 1 →
    ∃ t, exec (.registerWrite path (.word a v)) s = .next t ∧ Tab.val t.sec.window ((a.toNat - 0x410000) / 4) = v
      ∧ (∀ k, k ≠ (a.toNat - 0x410000) / 4 → Tab.val t.sec.window k = Tab.val s.sec.window k)
      ∧ t = { s with sec := { s.sec with window := t.sec.window } })
  ∧ (∀ (s : State) (path : Fin 6) (a : BitVec 24) (v : BitVec 32) (n : Nat), (RegTarget.word a v).plain = true →
    s.writeOpen path a.toNat = true → a.toNat % 4 = 0 → 0xF00000 ≤ a.toNat → a.toNat < 0xF08000 →
    n = (a.toNat - 0xF00000) / 16 →
    ∃ t, exec (.registerWrite path (.word a v)) s = .next t
      ∧ (if (a.toNat - 0xF00000) % 16 = 12 then
          (n ∈ (Tab.val t.pcie.funcs 0).unmasked ↔ v.toNat % 2 = 0)
            ∧ (n ∈ (Tab.val s.pcie.funcs 0).pend → v.toNat % 2 = 0 →
                t.out = .msix 0 n :: s.out ∧ n ∉ (Tab.val t.pcie.funcs 0).pend)
        else Tab.val (Tab.val t.pcie.funcs 0).entries ((a.toNat - 0xF00000) / 4) = v ∧ t.out = s.out)
      ∧ t = { s with pcie := t.pcie, out := t.out })
  ∧ (∀ (s : State) (path : Fin 6) (a : BitVec 24) (v : BitVec 32), (RegTarget.word a v).plain = true →
    s.writeOpen path a.toNat = false → a.toNat % 4 = 0 → exec (.registerWrite path (.word a v)) s = .next s)
  ∧ (∀ (s : State) (path : Fin 6) (die : Fin 25) (v : BitVec 32), s.writeOpen path (0x4010C + 0x20 * die) = true →
    ∃ t, exec (.registerWrite path (.word (BitVec.ofNat 24 (0x4010C + 0x20 * die)) v)) s = .next t
      ∧ (∀ b, b < 32 → t.rdBit (FLT_MASK_LO.MASK_LO die) b = (bit v.toNat b && maskable die b)) ∧ OtherFields s t [])
  ∧ (∀ (s : State) (path : Fin 6) (a : BitVec 24) (v : BitVec 32) (row : RegRow) (p : Nat),
    s.writeOpen path a.toNat = true → a.toNat % 4 = 0 → (RegTarget.word a v).plain = true → rowAt a.toNat = some row →
    latePlot a.toNat = some p → (s.plot p).step.isSome = true →
    ∃ t, exec (.registerWrite path (.word a v)) s = .next t
      ∧ Tab.look t.regs.late a.toNat = some (BitVec.ofNat 32 (legalWord row v.toNat)) ∧ (∀ g, t.rd g = s.rd g)
      ∧ t = { s with regs := { s.regs with late := t.regs.late } })
  ∧ (∀ (s : State), s.hostReaches = true →
    ∃ t, exec (.registerWrite 0 .odd) s = .next t
      ∧ t.rd CNT_PCIE_ERR.ACCESS = min (s.rd CNT_PCIE_ERR.ACCESS + 1) (2 ^ CNT_PCIE_ERR.ACCESS.width - 1)
      ∧ t.faultBit 24 5 = true ∧ t.pcie.nonFatal = s.pcie.nonFatal + 1 ∧ SameMemory s t ∧ t.rings = s.rings
      ∧ OtherFields s t [CNT_PCIE_ERR.ACCESS.key]
      ∧ (∀ a v, (RegTarget.word a v).plain = true → a.toNat % 4 ≠ 0 → exec (.registerWrite 0 (.word a v)) s = .next t)
      ∧ (∀ vf off v, vf ≠ 0 → s.funcUp vf.val = true → s.faults.windthrow = false → s.rd SEC_STS.RECOVERY = 0 →
          off.toNat % 4 ≠ 0 → exec (.registerWrite 0 (.vfMsix vf off v)) s = .next t))
  ∧ (∀ (s : State) (path : Fin 6) (a : BitVec 24) (v : BitVec 32), path ≠ 0 ∨ s.hostReaches = false →
    exec (.registerWrite path .odd) s = .next s
      ∧ ((RegTarget.word a v).plain = true → a.toNat % 4 ≠ 0 → exec (.registerWrite path (.word a v)) s = .next s)
      ∧ ∀ x, (RegTarget.bad x a v).plain = true → exec (.registerWrite path (.bad x a v)) s = .next s)
  ∧ (∀ (s : State) (x : Tlp) (a : BitVec 24) (v : BitVec 32), (RegTarget.bad x a v).plain = true →
    s.hostReaches = true → s.tlpBad x = true →
    ∃ t, exec (.registerWrite 0 (.bad x a v)) s = .next t ∧ t.faultBit 24 5 = true
      ∧ t.pcie.nonFatal = s.pcie.nonFatal + 1 ∧ SameMemory s t ∧ t.rings = s.rings ∧ OtherFields s t [])
  ∧ (∀ (s : State) (x : Tlp) (a : BitVec 24) (v : BitVec 32), (RegTarget.bad x a v).plain = true →
    s.hostReaches = true → s.tlpBad x = false →
    exec (.registerWrite 0 (.bad x a v)) s = exec (.registerWrite 0 (.word a v)) s)
  ∧ (∀ (s : State) (path : Fin 6) (vf : Fin 64) (off : BitVec 9) (v : BitVec 32), path ≠ 0 ∨ vf = 0
      ∨ s.funcUp vf = false ∨ s.faults.windthrow = true ∨ s.rd SEC_STS.RECOVERY ≠ 0 →
    exec (.registerWrite path (.vfMsix vf off v)) s = .next s)
  ∧ (∀ (s : State) (vf : Fin 64) (off : BitVec 9) (v : BitVec 32), vf ≠ 0 → s.funcUp vf = true →
    s.faults.windthrow = false → s.rd SEC_STS.RECOVERY = 0 → off.toNat % 4 = 0 →
    ∃ t, exec (.registerWrite 0 (.vfMsix vf off v)) s = .next t
      ∧ (if off.toNat % 16 = 12 then (off.toNat / 16 ∈ (Tab.val t.pcie.funcs vf).unmasked ↔ v.toNat % 2 = 0)
        else Tab.val (Tab.val t.pcie.funcs vf).entries (off.toNat / 4) = v ∧ t.out = s.out)
      ∧ (∀ n, n ≠ vf.val → Tab.val t.pcie.funcs n = Tab.val s.pcie.funcs n) ∧ t = { s with pcie := t.pcie, out := t.out })
  ∧ (∀ (s : State) (path : Fin 6), s.configOpen = true →
    (∀ n, exec (.registerWrite path (.numVfs n)) s = .next { s with pcie := { s.pcie with numVfs := min 63 n.toNat } })
    ∧ (∀ on, exec (.registerWrite path (.vfEnable on)) s = .next { s with pcie := { s.pcie with vfEnable := on } })
    ∧ (∀ on, exec (.registerWrite path (.ecrcCheck on)) s = .next { s with pcie := { s.pcie with ecrcCheck := on } })
    ∧ (∀ on, exec (.registerWrite path (.ecrcGen on)) s = .next { s with pcie := { s.pcie with ecrcGen := on } })
    ∧ (∀ on, exec (.registerWrite path (.tenBitTag on)) s = .next { s with pcie := { s.pcie with tenBit := on } })
    ∧ (∀ m r, exec (.registerWrite path (.payloads m r)) s
        = .next { s with pcie := { s.pcie with mps := 128 * 2 ^ m.val, mrrs := 128 * 2 ^ r.val } })
    ∧ (∀ v off, exec (.registerWrite path (.cplTimeout v off)) s
        = .next { s with pcie := { s.pcie with cplValue := v, cplOff := off } })
    ∧ (∀ n on, ∃ t, exec (.registerWrite path (.relaxed n on)) s = .next t ∧ (Tab.val t.pcie.funcs n).relaxed = on
        ∧ (∀ k, k ≠ n.val → Tab.val t.pcie.funcs k = Tab.val s.pcie.funcs k)
        ∧ t = { s with pcie := { s.pcie with funcs := t.pcie.funcs } }))
  ∧ (∀ (s : State) (path : Fin 6) (n : BitVec 16) (on off : Bool) (m : Fin 3) (r : Fin 6) (v : Fin 16) (f : Fin 64),
    s.configOpen = false →
    ∀ g ∈ [RegTarget.numVfs n, .vfEnable on, .ecrcCheck on, .ecrcGen on, .tenBitTag on, .payloads m r,
      .cplTimeout v off, .relaxed f on], exec (.registerWrite path g) s = .next s)
  ∧ (∀ (s : State) (path : Fin 6) (g : RegTarget), g.plain = false →
    exec (.registerWrite path g) s = .fault .malformedCommand)
  ∧ (∀ (s : State) (path : Fin 6) (a : BitVec 24) (row : RegRow), s.pathOpen path a.toNat = true →
    s.fencedWindow a.toNat = false → rowAt a.toNat = some row → row.role = .low →
    ∃ t, exec (.lowWordRead path a) s = .next t
      ∧ (Tab.val t.regs.shadow (shadowKey path (a.toNat + 4))).toNat = s.liveWord (a.toNat + 4) % 2 ^ 32
      ∧ (∀ k, k ≠ shadowKey path (a.toNat + 4) → Tab.val t.regs.shadow k = Tab.val s.regs.shadow k)
      ∧ t = { s with regs := { s.regs with shadow := t.regs.shadow } })
  ∧ (∀ (s : State) (path : Fin 6) (a : BitVec 24) (row : RegRow), s.pathOpen path a.toNat = true →
    s.fencedWindow a.toNat = false → rowAt a.toNat = some row → row.role = .faultLow →
    ∃ t, exec (.lowWordRead path a) s = .next t
      ∧ (Tab.val t.regs.shadow (shadowKey path (a.toNat + 4))).toNat = s.liveWord (a.toNat + 4) % 2 ^ 32
      ∧ (Tab.val t.regs.shadow (shadowKey path (a.toNat + 8))).toNat = s.liveWord (a.toNat + 8) % 2 ^ 32
      ∧ t = { s with regs := { s.regs with shadow := t.regs.shadow } })
  ∧ (∀ (s : State) (path : Fin 6) (a : BitVec 24), s.pathOpen path a.toNat = false ∨ s.fencedWindow a.toNat = true
      ∨ rowAt a.toNat = none ∨ (∃ row, rowAt a.toNat = some row ∧ (row.role = .plain ∨ row.role = .shadowed)) →
    exec (.lowWordRead path a) s = .next s)
  ∧ (∀ (s : State) (path : Fin 6) (a : BitVec 24) (q : BitVec 8) (f : Fld) (flags : List Fld),
    s.writeOpen path a.toNat = true → wsqAt path a.toNat = some (f, flags) → q.toNat = s.rd f →
    ∃ t, exec (.wsqWriteBack path a q) s = .next t ∧ (∀ g ∈ flags, t.rd g = 0)
      ∧ OnlyFields s t (flags.map (fun g => g.key)))
  ∧ (∀ (s : State) (path : Fin 6) (a : BitVec 24) (q : BitVec 8),
    s.writeOpen path a.toNat = false ∨ (∀ f flags, wsqAt path a.toNat = some (f, flags) → q.toNat ≠ s.rd f) →
    exec (.wsqWriteBack path a q) s = .next s)
  ∧ (∀ (s : State) (path : Fin 6) (gd : Fin 16) (v : BitVec 32), s.writeOpen path (0x800400 + 0x10000 * gd) = false →
    exec (.perfselWrite path gd v) s = .next s)
  ∧ (∀ (s : State) (path : Fin 6) (gd : Fin 16) (v : BitVec 32), s.writeOpen path (0x800400 + 0x10000 * gd) = true →
    ∃ t, exec (.perfselWrite path gd v) s = .next t
      ∧ (∀ q ∈ [(0, CTL_GD_PERFSEL.SEL_0 gd), (1, CTL_GD_PERFSEL.SEL_1 gd), (2, CTL_GD_PERFSEL.SEL_2 gd),
          (3, CTL_GD_PERFSEL.SEL_3 gd)], if bits v.toNat (8 * q.1 + 7) (8 * q.1) ≤ 9 then
            t.rd q.2 = bits v.toNat (8 * q.1 + 7) (8 * q.1) ∧ t.rd (CNT_GD_PERF.COUNT gd q.1) = 0
          else t.rd q.2 = s.rd q.2 ∧ t.rd (CNT_GD_PERF.COUNT gd q.1) = s.rd (CNT_GD_PERF.COUNT gd q.1))
      ∧ OnlyFields s t ([(CTL_GD_PERFSEL.SEL_0 gd).key, (CTL_GD_PERFSEL.SEL_1 gd).key, (CTL_GD_PERFSEL.SEL_2 gd).key,
          (CTL_GD_PERFSEL.SEL_3 gd).key] ++ (List.range 4).map (fun k => (CNT_GD_PERF.COUNT gd k).key)))
  ∧ (∀ (s : State) (path : Fin 6) (target : RegTarget), (Instr.registerWrite path target).wellFormed = true → ∃ t,
    exec (.registerWrite path target) s = .next t ∧ Rest s t [.out, .regs, .flash, .plots, .mac, .pcie, .sec, .power,
    .faults])
  ∧ (∀ (s : State) (path : Fin 6) (addr : BitVec 24), ∃ t, exec (.lowWordRead path addr) s = .next t ∧ Rest s t
    [.regs])
  ∧ (∀ (s : State) (path : Fin 6) (addr : BitVec 24) (seq : BitVec 8), ∃ t, exec (.wsqWriteBack path addr seq) s =
    .next t ∧ Rest s t [.regs])
  ∧ (∀ (s : State) (path : Fin 6) (gd : Fin 16) (v : BitVec 32), ∃ t, exec (.perfselWrite path gd v) s = .next t ∧
    Rest s t [.regs])

/-- R405, R497, R498: the scrub corrects one upset copy of a triplicated field to what the other two hold and latches the
correction; with no two copies equal it takes the reset value and latches C3, in SEC_CFG windthrow; an upset of a
derived mask latches at its die; however many are upset, the copies of every triplicated field agree after it.  Copies
that agree stay (assumption 131).  Before its time, and in Dormant, it has no effect.  The command answers a next state in
every state, and every part of the state but those listed is as before. -/
def Obligations.TheScrubCorrectsTriplicatedFields : Prop :=
  (∀ (s : State) (key v : Nat) (c : Fin 3) (f : Fld), s.glob.dormant = false → s.regs.scrubAt + 4096 ≤ s.now → s.allAgree → rwtField key = some f →
    key / 32 ≠ 0x400004 → v % 2 ^ f.width ≠ s.rd f →
    ∃ t, exec (.rwtScrub [.field key c v]) s = .next t ∧ t.rd f = s.rd f ∧ t.copiesAgree key f ∧ t.faultBit 24 18 = true
      ∧ MapKept s t stsKeys ∧ SameMemory s t ∧ t.rings = s.rings)
  ∧ (∀ (s : State) (key v : Nat) (c : Fin 3) (f : Fld), s.glob.dormant = false → s.regs.scrubAt + 4096 ≤ s.now → s.allAgree → rwtField key = some f →
    key / 32 = 0x400004 → v % 2 ^ f.width ≠ s.rd f →
    ∃ t, exec (.rwtScrub [.field key c v]) s = .next t ∧ t.rd f = s.rd f ∧ t.copiesAgree key f ∧ t.faultBit 24 20 = true
      ∧ t.rd CNT_SEC.VOTE_CORR = min (s.rd CNT_SEC.VOTE_CORR + 1) (2 ^ CNT_SEC.VOTE_CORR.width - 1)
      ∧ MapKept s t (CNT_SEC.VOTE_CORR.key :: stsKeys) ∧ SameMemory s t
      ∧ t.rings = s.rings)
  ∧ (∀ (s : State) (key v w : Nat) (f : Fld), s.glob.dormant = false → s.regs.scrubAt + 4096 ≤ s.now → s.allAgree → rwtField key = some f →
    v % 2 ^ f.width ≠ s.rd f → w % 2 ^ f.width ≠ s.rd f → v % 2 ^ f.width ≠ w % 2 ^ f.width →
    ∃ t, exec (.rwtScrub [.field key 1 v, .field key 2 w]) s = .next t ∧ t.rd f = f.reset ∧ t.copiesAgree key f
      ∧ (key / 32 ≠ 0x400004 → t.waitsForCore1 24 19) ∧ (key / 32 = 0x400004 → t.faults.windthrow = true) ∧ SameMemory s t)
  ∧ (∀ (s : State) (n : Fin 65536) (c : Fin 3) (p : BitVec 6), s.glob.dormant = false → s.regs.scrubAt + 4096 ≤ s.now → s.allAgree → s.slab n ≠ default →
    p ≠ (s.slab n).plot →
    ∃ t, exec (.rwtScrub [.slabPlot n c p]) s = .next t ∧ t.slab n = s.slab n ∧ t.faultBit 24 18 = true
      ∧ (∀ k, k ≠ n.val → t.slab k = s.slab k) ∧ SameMemory s t ∧ t.rings = s.rings)
  ∧ (∀ (s : State) (d : Fin 24) (x : Bool), s.glob.dormant = false → s.regs.scrubAt + 4096 ≤ s.now → s.allAgree → s.fenced d = false →
    ∃ t, exec (.rwtScrub [.derived d x]) s = .next t
      ∧ t.faultBit d (if d.val < 16 then (if x then 30 else 29) else (if x then 34 else 33)) = true
      ∧ MapKept s t stsKeys ∧ SameMemory s t ∧ t.rings = s.rings)
  ∧ (∀ (s : State), s.glob.dormant = false → s.regs.scrubAt + 4096 ≤ s.now → s.allAgree →
    ∃ t, exec (.rwtScrub []) s = .next t ∧ t.faults.events = s.faults.events
      ∧ MapKept s t stsKeys ∧ (∀ n, t.slab n = s.slab n) ∧ SameMemory s t
      ∧ t.rings = s.rings)
  ∧ (∀ (s : State) (l : List Upset), s.glob.dormant = false → s.regs.scrubAt + 4096 ≤ s.now →
    ∃ t, exec (.rwtScrub l) s = .next t ∧ SameMemory s t ∧ ∀ key f, rwtField key = some f → t.copiesAgree key f)
  ∧ (∀ (s : State) (l : List Upset), s.glob.dormant = true ∨ s.now < s.regs.scrubAt + 4096 →
    exec (.rwtScrub l) s = .next s)
  ∧ (∀ (s : State) (upsets : List Upset), ∃ t, exec (.rwtScrub upsets) s = .next t ∧ Rest s t [.out, .regs, .flash,
    .slabs, .rings, .plots, .matJobs, .vecJobs, .fabric, .ports, .puts, .tags, .mgr, .pcie, .sec, .power, .faults,
    .maint])

/-- A step with a command at the front of its queue is that command's execution with the queue's rest; with none waiting
one period of the clearing die's SOSC passes, if the device has power (assumption 1), and what the DOE mailbox and the
firmware mailbox have in progress is answered (assumption 188): with nothing in progress only the count changes. -/
def Obligations.AStepRunsTheFrontCommand : Prop :=
  (∀ (s : State) (c : Instr) (rest : List Instr), s.pending = c :: rest → step s = exec c { s with pending := rest })
  ∧ (∀ (s : State), s.pending = [] → step s = .next s.idleTick)
  ∧ (∀ (s : State), s.pending = [] → s.glob.poweredOn = true →
    ∃ t, step s = .next t ∧ t.now = (s.now + 1) % 2 ^ 64
      ∧ (s.pcie.doeObject = none → s.sec.box = none → OnlyFields s t soscKeys))
  ∧ (∀ (s : State), s.pending = [] → s.glob.poweredOn = false → step s = .next s)

/-- A command whose operands have the lengths that their formats give, and whose register write has no row of its own, has
an effect in every state; any other is a malformed command in every state: no command is refused. -/
def Obligations.WellFormedCommandsComplete : Prop :=
  (∀ (c : Instr) (s : State), c.wellFormed = true → ∃ t, exec c s = .next t)
  ∧ (∀ (c : Instr) (s : State), c.wellFormed = false → exec c s = .fault .malformedCommand)

/-- No command changes the queue: a step from a queue that is not empty leaves exactly the commands behind the front one. -/
def Obligations.StepsTakeOneCommandFromTheQueue : Prop :=
  (∀ (c : Instr) (s t : State), exec c s = .next t → t.pending = s.pending)
  ∧ (∀ (s t : State), step s = .next t → t.pending = s.pending.tail)

/-- The memories and the tables of the block keep their canonical form at every step: addresses and numbers strictly rise,
and no byte is listed that equals what an unlisted one reads as. -/
def Obligations.EveryStepKeepsTheTablesInForm : Prop :=
  ∀ (s t : State), s.tablesInForm → step s = .next t → t.tablesInForm

/-- R511, R409, R342, R379, R387: right after reset the block has no power, nothing waits, every field of the register map
has its reset value, no ring, plot or slab is in use, and its memories and tables are in form.  What memory reads before
a write is the model's choice (assumptions 3 and 4). -/
def Obligations.ResetIsEmptyAndInForm : Prop :=
  State.reset.tablesInForm ∧ State.reset.pending = [] ∧ State.reset.glob.poweredOn = false
  ∧ (∀ f, State.reset.rd f = f.reset) ∧ (∀ r, (State.reset.ring r).entries = [])
  ∧ (∀ p, State.reset.plotState p = plotUNBOUND) ∧ (∀ n, (State.reset.slab n).owner = ownFREE)
  ∧ State.reset.faults.windthrow = false ∧ State.reset.faults.events = [] ∧ (∀ a, State.reset.hbm.byte a = 0)

/-- R414: REVERT marks a PENDING image BAD, or marks a running TRIAL image BAD and performs a warm reset, which windthrow and
Dormant do not take; COMMIT_SVN blows fuses up to the running VALID image's SVN; with nothing to revert or to commit, and
while a staging is in progress, they are refused; one that does not reach SEC_FW_CTL has no effect.  Each of the two
commands answers a next state in every state, and every part of the state but those listed is as before. -/
def Obligations.RevertAndCommitWaitForStaging : Prop :=
  (∀ (s : State) (path : Fin 6), s.fwOpen path = true → s.flash.staging.isSome = true →
    ∃ t, exec (.revert path) s = .next t ∧ exec (.commitSvn path) s = .next t ∧ OnlyResults s t 1)
  ∧ (∀ (s : State) (path : Fin 6), s.fwOpen path = false →
    exec (.revert path) s = .next s ∧ exec (.commitSvn path) s = .next s)
  ∧ (∀ (s : State) (path : Fin 6), s.fwOpen path = true → s.flash.staging = none → s.rd SEC_STS.TRIAL = 1 →
    ∃ t, exec (.revert path) s = .next t ∧ t.flash.img s.runImage = { s.flash.img s.runImage with state := 4 }
      ∧ t.flash.img (!s.runImage) = s.flash.img (!s.runImage)
      ∧ (s.faults.windthrow = false → s.glob.dormant = false → t.glob.warm = true)
      ∧ (s.faults.windthrow = true ∨ s.glob.dormant = true → t.glob = s.glob) ∧ Results s t 0 ∧ SameMemory s t
      ∧ t.rings = s.rings ∧ FieldsKept s t imageKeys)
  ∧ (∀ (s : State) (path : Fin 6), s.fwOpen path = true → s.flash.staging = none → s.rd SEC_STS.TRIAL ≠ 1 →
    (s.flash.img (!s.runImage)).state = 2 →
    ∃ t, exec (.revert path) s = .next t ∧ t.flash.img (!s.runImage) = { s.flash.img (!s.runImage) with state := 4 }
      ∧ t.flash.img s.runImage = s.flash.img s.runImage ∧ Results s t 0 ∧ t = { s with regs := t.regs, flash := t.flash }
      ∧ FieldsKept s t imageKeys)
  ∧ (∀ (s : State) (path : Fin 6), s.fwOpen path = true → s.flash.staging = none → s.rd SEC_STS.TRIAL ≠ 1 →
    (s.flash.img (!s.runImage)).state ≠ 2 → ∃ t, exec (.revert path) s = .next t ∧ OnlyResults s t 6)
  ∧ (∀ (s : State) (path : Fin 6), s.fwOpen path = true → s.flash.staging = none →
    (s.flash.img s.runImage).state = 1 →
    ∃ t, exec (.commitSvn path) s = .next t
      ∧ t.rd SEC_STS.FUSE_SVN = max (s.rd SEC_STS.FUSE_SVN) (s.flash.img s.runImage).svn % 2 ^ SEC_STS.FUSE_SVN.width
      ∧ Results s t 0
      ∧ OnlyFields s t [SEC_FW_STS.RESULT.key, SEC_FW_STS.SEQ.key, SEC_STS.FUSE_SVN.key])
  ∧ (∀ (s : State) (path : Fin 6), s.fwOpen path = true → s.flash.staging = none →
    (s.flash.img s.runImage).state ≠ 1 → ∃ t, exec (.commitSvn path) s = .next t ∧ OnlyResults s t 6)
  ∧ (∀ (s : State) (path : Fin 6), ∃ t, exec (.revert path) s = .next t ∧ Rest s t [.out, .regs, .flash, .ports, .mac,
    .faults, .glob])
  ∧ (∀ (s : State) (path : Fin 6), ∃ t, exec (.commitSvn path) s = .next t ∧ Rest s t [.regs])

/-- R87: a MATMUL whose H_C is its H_A or its H_B ends with a descriptor error, and no element of memory is written. -/
def Obligations.AMatmulNeedsItsOwnOutput : Prop :=
  ∀ (s : State) (ring : Fin 1024) (idx : Nat) (e : Entry), s.takes ring idx opMATMUL e →
    (e.u16 12 = e.u16 8 ∨ e.u16 12 = e.u16 10) →
    ∃ t v, exec (.matmul ring idx) s = .next t ∧ t.ended ring idx 0x10 v ∧ t.matJobs = s.matJobs ∧ t.regs = s.regs
      ∧ SameMemory s t ∧ OtherEntries s t ring idx
end

