-- ==== Sys2Proof/Laws/State.lean ====
section
/-! SUPPORT. One setter for each part of the state, and what each part reads as after each of them. -/

namespace Sys2Proof.Machine

@[simp] theorem State.withPending_pending (s : State) (v : List Instr) : ({ s with pending := v } : State).pending = v := rfl
@[simp] theorem State.withPending_draws (s : State) (v : List Instr) : ({ s with pending := v } : State).draws = s.draws := rfl
@[simp] theorem State.withPending_out (s : State) (v : List Instr) : ({ s with pending := v } : State).out = s.out := rfl
@[simp] theorem State.withPending_regs (s : State) (v : List Instr) : ({ s with pending := v } : State).regs = s.regs := rfl
@[simp] theorem State.withPending_hbm (s : State) (v : List Instr) : ({ s with pending := v } : State).hbm = s.hbm := rfl
@[simp] theorem State.withPending_host (s : State) (v : List Instr) : ({ s with pending := v } : State).host = s.host := rfl
@[simp] theorem State.withPending_pkg (s : State) (v : List Instr) : ({ s with pending := v } : State).pkg = s.pkg := rfl
@[simp] theorem State.withPending_flash (s : State) (v : List Instr) : ({ s with pending := v } : State).flash = s.flash := rfl
@[simp] theorem State.withPending_clocks (s : State) (v : List Instr) : ({ s with pending := v } : State).clocks = s.clocks := rfl
@[simp] theorem State.withPending_engines (s : State) (v : List Instr) : ({ s with pending := v } : State).engines = s.engines := rfl
@[simp] theorem State.withPending_slabs (s : State) (v : List Instr) : ({ s with pending := v } : State).slabs = s.slabs := rfl
@[simp] theorem State.withPending_rings (s : State) (v : List Instr) : ({ s with pending := v } : State).rings = s.rings := rfl
@[simp] theorem State.withPending_plots (s : State) (v : List Instr) : ({ s with pending := v } : State).plots = s.plots := rfl
@[simp] theorem State.withPending_stash (s : State) (v : List Instr) : ({ s with pending := v } : State).stash = s.stash := rfl
@[simp] theorem State.withPending_matJobs (s : State) (v : List Instr) : ({ s with pending := v } : State).matJobs = s.matJobs := rfl
@[simp] theorem State.withPending_vecJobs (s : State) (v : List Instr) : ({ s with pending := v } : State).vecJobs = s.vecJobs := rfl
@[simp] theorem State.withPending_fabric (s : State) (v : List Instr) : ({ s with pending := v } : State).fabric = s.fabric := rfl
@[simp] theorem State.withPending_ports (s : State) (v : List Instr) : ({ s with pending := v } : State).ports = s.ports := rfl
@[simp] theorem State.withPending_puts (s : State) (v : List Instr) : ({ s with pending := v } : State).puts = s.puts := rfl
@[simp] theorem State.withPending_tags (s : State) (v : List Instr) : ({ s with pending := v } : State).tags = s.tags := rfl
@[simp] theorem State.withPending_mgr (s : State) (v : List Instr) : ({ s with pending := v } : State).mgr = s.mgr := rfl
@[simp] theorem State.withPending_mac (s : State) (v : List Instr) : ({ s with pending := v } : State).mac = s.mac := rfl
@[simp] theorem State.withPending_pcie (s : State) (v : List Instr) : ({ s with pending := v } : State).pcie = s.pcie := rfl
@[simp] theorem State.withPending_sec (s : State) (v : List Instr) : ({ s with pending := v } : State).sec = s.sec := rfl
@[simp] theorem State.withPending_cores (s : State) (v : List Instr) : ({ s with pending := v } : State).cores = s.cores := rfl
@[simp] theorem State.withPending_power (s : State) (v : List Instr) : ({ s with pending := v } : State).power = s.power := rfl
@[simp] theorem State.withPending_faults (s : State) (v : List Instr) : ({ s with pending := v } : State).faults = s.faults := rfl
@[simp] theorem State.withPending_maint (s : State) (v : List Instr) : ({ s with pending := v } : State).maint = s.maint := rfl
@[simp] theorem State.withPending_glob (s : State) (v : List Instr) : ({ s with pending := v } : State).glob = s.glob := rfl
@[simp] theorem State.withDraws_pending (s : State) (v : Nat) : ({ s with draws := v } : State).pending = s.pending := rfl
@[simp] theorem State.withDraws_draws (s : State) (v : Nat) : ({ s with draws := v } : State).draws = v := rfl
@[simp] theorem State.withDraws_out (s : State) (v : Nat) : ({ s with draws := v } : State).out = s.out := rfl
@[simp] theorem State.withDraws_regs (s : State) (v : Nat) : ({ s with draws := v } : State).regs = s.regs := rfl
@[simp] theorem State.withDraws_hbm (s : State) (v : Nat) : ({ s with draws := v } : State).hbm = s.hbm := rfl
@[simp] theorem State.withDraws_host (s : State) (v : Nat) : ({ s with draws := v } : State).host = s.host := rfl
@[simp] theorem State.withDraws_pkg (s : State) (v : Nat) : ({ s with draws := v } : State).pkg = s.pkg := rfl
@[simp] theorem State.withDraws_flash (s : State) (v : Nat) : ({ s with draws := v } : State).flash = s.flash := rfl
@[simp] theorem State.withDraws_clocks (s : State) (v : Nat) : ({ s with draws := v } : State).clocks = s.clocks := rfl
@[simp] theorem State.withDraws_engines (s : State) (v : Nat) : ({ s with draws := v } : State).engines = s.engines := rfl
@[simp] theorem State.withDraws_slabs (s : State) (v : Nat) : ({ s with draws := v } : State).slabs = s.slabs := rfl
@[simp] theorem State.withDraws_rings (s : State) (v : Nat) : ({ s with draws := v } : State).rings = s.rings := rfl
@[simp] theorem State.withDraws_plots (s : State) (v : Nat) : ({ s with draws := v } : State).plots = s.plots := rfl
@[simp] theorem State.withDraws_stash (s : State) (v : Nat) : ({ s with draws := v } : State).stash = s.stash := rfl
@[simp] theorem State.withDraws_matJobs (s : State) (v : Nat) : ({ s with draws := v } : State).matJobs = s.matJobs := rfl
@[simp] theorem State.withDraws_vecJobs (s : State) (v : Nat) : ({ s with draws := v } : State).vecJobs = s.vecJobs := rfl
@[simp] theorem State.withDraws_fabric (s : State) (v : Nat) : ({ s with draws := v } : State).fabric = s.fabric := rfl
@[simp] theorem State.withDraws_ports (s : State) (v : Nat) : ({ s with draws := v } : State).ports = s.ports := rfl
@[simp] theorem State.withDraws_puts (s : State) (v : Nat) : ({ s with draws := v } : State).puts = s.puts := rfl
@[simp] theorem State.withDraws_tags (s : State) (v : Nat) : ({ s with draws := v } : State).tags = s.tags := rfl
@[simp] theorem State.withDraws_mgr (s : State) (v : Nat) : ({ s with draws := v } : State).mgr = s.mgr := rfl
@[simp] theorem State.withDraws_mac (s : State) (v : Nat) : ({ s with draws := v } : State).mac = s.mac := rfl
@[simp] theorem State.withDraws_pcie (s : State) (v : Nat) : ({ s with draws := v } : State).pcie = s.pcie := rfl
@[simp] theorem State.withDraws_sec (s : State) (v : Nat) : ({ s with draws := v } : State).sec = s.sec := rfl
@[simp] theorem State.withDraws_cores (s : State) (v : Nat) : ({ s with draws := v } : State).cores = s.cores := rfl
@[simp] theorem State.withDraws_power (s : State) (v : Nat) : ({ s with draws := v } : State).power = s.power := rfl
@[simp] theorem State.withDraws_faults (s : State) (v : Nat) : ({ s with draws := v } : State).faults = s.faults := rfl
@[simp] theorem State.withDraws_maint (s : State) (v : Nat) : ({ s with draws := v } : State).maint = s.maint := rfl
@[simp] theorem State.withDraws_glob (s : State) (v : Nat) : ({ s with draws := v } : State).glob = s.glob := rfl
@[simp] theorem State.withOut_pending (s : State) (v : List Out) : ({ s with out := v } : State).pending = s.pending := rfl
@[simp] theorem State.withOut_draws (s : State) (v : List Out) : ({ s with out := v } : State).draws = s.draws := rfl
@[simp] theorem State.withOut_out (s : State) (v : List Out) : ({ s with out := v } : State).out = v := rfl
@[simp] theorem State.withOut_regs (s : State) (v : List Out) : ({ s with out := v } : State).regs = s.regs := rfl
@[simp] theorem State.withOut_hbm (s : State) (v : List Out) : ({ s with out := v } : State).hbm = s.hbm := rfl
@[simp] theorem State.withOut_host (s : State) (v : List Out) : ({ s with out := v } : State).host = s.host := rfl
@[simp] theorem State.withOut_pkg (s : State) (v : List Out) : ({ s with out := v } : State).pkg = s.pkg := rfl
@[simp] theorem State.withOut_flash (s : State) (v : List Out) : ({ s with out := v } : State).flash = s.flash := rfl
@[simp] theorem State.withOut_clocks (s : State) (v : List Out) : ({ s with out := v } : State).clocks = s.clocks := rfl
@[simp] theorem State.withOut_engines (s : State) (v : List Out) : ({ s with out := v } : State).engines = s.engines := rfl
@[simp] theorem State.withOut_slabs (s : State) (v : List Out) : ({ s with out := v } : State).slabs = s.slabs := rfl
@[simp] theorem State.withOut_rings (s : State) (v : List Out) : ({ s with out := v } : State).rings = s.rings := rfl
@[simp] theorem State.withOut_plots (s : State) (v : List Out) : ({ s with out := v } : State).plots = s.plots := rfl
@[simp] theorem State.withOut_stash (s : State) (v : List Out) : ({ s with out := v } : State).stash = s.stash := rfl
@[simp] theorem State.withOut_matJobs (s : State) (v : List Out) : ({ s with out := v } : State).matJobs = s.matJobs := rfl
@[simp] theorem State.withOut_vecJobs (s : State) (v : List Out) : ({ s with out := v } : State).vecJobs = s.vecJobs := rfl
@[simp] theorem State.withOut_fabric (s : State) (v : List Out) : ({ s with out := v } : State).fabric = s.fabric := rfl
@[simp] theorem State.withOut_ports (s : State) (v : List Out) : ({ s with out := v } : State).ports = s.ports := rfl
@[simp] theorem State.withOut_puts (s : State) (v : List Out) : ({ s with out := v } : State).puts = s.puts := rfl
@[simp] theorem State.withOut_tags (s : State) (v : List Out) : ({ s with out := v } : State).tags = s.tags := rfl
@[simp] theorem State.withOut_mgr (s : State) (v : List Out) : ({ s with out := v } : State).mgr = s.mgr := rfl
@[simp] theorem State.withOut_mac (s : State) (v : List Out) : ({ s with out := v } : State).mac = s.mac := rfl
@[simp] theorem State.withOut_pcie (s : State) (v : List Out) : ({ s with out := v } : State).pcie = s.pcie := rfl
@[simp] theorem State.withOut_sec (s : State) (v : List Out) : ({ s with out := v } : State).sec = s.sec := rfl
@[simp] theorem State.withOut_cores (s : State) (v : List Out) : ({ s with out := v } : State).cores = s.cores := rfl
@[simp] theorem State.withOut_power (s : State) (v : List Out) : ({ s with out := v } : State).power = s.power := rfl
@[simp] theorem State.withOut_faults (s : State) (v : List Out) : ({ s with out := v } : State).faults = s.faults := rfl
@[simp] theorem State.withOut_maint (s : State) (v : List Out) : ({ s with out := v } : State).maint = s.maint := rfl
@[simp] theorem State.withOut_glob (s : State) (v : List Out) : ({ s with out := v } : State).glob = s.glob := rfl
@[simp] theorem State.withRegs_pending (s : State) (v : RegFile) : ({ s with regs := v } : State).pending = s.pending := rfl
@[simp] theorem State.withRegs_draws (s : State) (v : RegFile) : ({ s with regs := v } : State).draws = s.draws := rfl
@[simp] theorem State.withRegs_out (s : State) (v : RegFile) : ({ s with regs := v } : State).out = s.out := rfl
@[simp] theorem State.withRegs_regs (s : State) (v : RegFile) : ({ s with regs := v } : State).regs = v := rfl
@[simp] theorem State.withRegs_hbm (s : State) (v : RegFile) : ({ s with regs := v } : State).hbm = s.hbm := rfl
@[simp] theorem State.withRegs_host (s : State) (v : RegFile) : ({ s with regs := v } : State).host = s.host := rfl
@[simp] theorem State.withRegs_pkg (s : State) (v : RegFile) : ({ s with regs := v } : State).pkg = s.pkg := rfl
@[simp] theorem State.withRegs_flash (s : State) (v : RegFile) : ({ s with regs := v } : State).flash = s.flash := rfl
@[simp] theorem State.withRegs_clocks (s : State) (v : RegFile) : ({ s with regs := v } : State).clocks = s.clocks := rfl
@[simp] theorem State.withRegs_engines (s : State) (v : RegFile) : ({ s with regs := v } : State).engines = s.engines := rfl
@[simp] theorem State.withRegs_slabs (s : State) (v : RegFile) : ({ s with regs := v } : State).slabs = s.slabs := rfl
@[simp] theorem State.withRegs_rings (s : State) (v : RegFile) : ({ s with regs := v } : State).rings = s.rings := rfl
@[simp] theorem State.withRegs_plots (s : State) (v : RegFile) : ({ s with regs := v } : State).plots = s.plots := rfl
@[simp] theorem State.withRegs_stash (s : State) (v : RegFile) : ({ s with regs := v } : State).stash = s.stash := rfl
@[simp] theorem State.withRegs_matJobs (s : State) (v : RegFile) : ({ s with regs := v } : State).matJobs = s.matJobs := rfl
@[simp] theorem State.withRegs_vecJobs (s : State) (v : RegFile) : ({ s with regs := v } : State).vecJobs = s.vecJobs := rfl
@[simp] theorem State.withRegs_fabric (s : State) (v : RegFile) : ({ s with regs := v } : State).fabric = s.fabric := rfl
@[simp] theorem State.withRegs_ports (s : State) (v : RegFile) : ({ s with regs := v } : State).ports = s.ports := rfl
@[simp] theorem State.withRegs_puts (s : State) (v : RegFile) : ({ s with regs := v } : State).puts = s.puts := rfl
@[simp] theorem State.withRegs_tags (s : State) (v : RegFile) : ({ s with regs := v } : State).tags = s.tags := rfl
@[simp] theorem State.withRegs_mgr (s : State) (v : RegFile) : ({ s with regs := v } : State).mgr = s.mgr := rfl
@[simp] theorem State.withRegs_mac (s : State) (v : RegFile) : ({ s with regs := v } : State).mac = s.mac := rfl
@[simp] theorem State.withRegs_pcie (s : State) (v : RegFile) : ({ s with regs := v } : State).pcie = s.pcie := rfl
@[simp] theorem State.withRegs_sec (s : State) (v : RegFile) : ({ s with regs := v } : State).sec = s.sec := rfl
@[simp] theorem State.withRegs_cores (s : State) (v : RegFile) : ({ s with regs := v } : State).cores = s.cores := rfl
@[simp] theorem State.withRegs_power (s : State) (v : RegFile) : ({ s with regs := v } : State).power = s.power := rfl
@[simp] theorem State.withRegs_faults (s : State) (v : RegFile) : ({ s with regs := v } : State).faults = s.faults := rfl
@[simp] theorem State.withRegs_maint (s : State) (v : RegFile) : ({ s with regs := v } : State).maint = s.maint := rfl
@[simp] theorem State.withRegs_glob (s : State) (v : RegFile) : ({ s with regs := v } : State).glob = s.glob := rfl
@[simp] theorem State.withHbm_pending (s : State) (v : Hbm) : ({ s with hbm := v } : State).pending = s.pending := rfl
@[simp] theorem State.withHbm_draws (s : State) (v : Hbm) : ({ s with hbm := v } : State).draws = s.draws := rfl
@[simp] theorem State.withHbm_out (s : State) (v : Hbm) : ({ s with hbm := v } : State).out = s.out := rfl
@[simp] theorem State.withHbm_regs (s : State) (v : Hbm) : ({ s with hbm := v } : State).regs = s.regs := rfl
@[simp] theorem State.withHbm_hbm (s : State) (v : Hbm) : ({ s with hbm := v } : State).hbm = v := rfl
@[simp] theorem State.withHbm_host (s : State) (v : Hbm) : ({ s with hbm := v } : State).host = s.host := rfl
@[simp] theorem State.withHbm_pkg (s : State) (v : Hbm) : ({ s with hbm := v } : State).pkg = s.pkg := rfl
@[simp] theorem State.withHbm_flash (s : State) (v : Hbm) : ({ s with hbm := v } : State).flash = s.flash := rfl
@[simp] theorem State.withHbm_clocks (s : State) (v : Hbm) : ({ s with hbm := v } : State).clocks = s.clocks := rfl
@[simp] theorem State.withHbm_engines (s : State) (v : Hbm) : ({ s with hbm := v } : State).engines = s.engines := rfl
@[simp] theorem State.withHbm_slabs (s : State) (v : Hbm) : ({ s with hbm := v } : State).slabs = s.slabs := rfl
@[simp] theorem State.withHbm_rings (s : State) (v : Hbm) : ({ s with hbm := v } : State).rings = s.rings := rfl
@[simp] theorem State.withHbm_plots (s : State) (v : Hbm) : ({ s with hbm := v } : State).plots = s.plots := rfl
@[simp] theorem State.withHbm_stash (s : State) (v : Hbm) : ({ s with hbm := v } : State).stash = s.stash := rfl
@[simp] theorem State.withHbm_matJobs (s : State) (v : Hbm) : ({ s with hbm := v } : State).matJobs = s.matJobs := rfl
@[simp] theorem State.withHbm_vecJobs (s : State) (v : Hbm) : ({ s with hbm := v } : State).vecJobs = s.vecJobs := rfl
@[simp] theorem State.withHbm_fabric (s : State) (v : Hbm) : ({ s with hbm := v } : State).fabric = s.fabric := rfl
@[simp] theorem State.withHbm_ports (s : State) (v : Hbm) : ({ s with hbm := v } : State).ports = s.ports := rfl
@[simp] theorem State.withHbm_puts (s : State) (v : Hbm) : ({ s with hbm := v } : State).puts = s.puts := rfl
@[simp] theorem State.withHbm_tags (s : State) (v : Hbm) : ({ s with hbm := v } : State).tags = s.tags := rfl
@[simp] theorem State.withHbm_mgr (s : State) (v : Hbm) : ({ s with hbm := v } : State).mgr = s.mgr := rfl
@[simp] theorem State.withHbm_mac (s : State) (v : Hbm) : ({ s with hbm := v } : State).mac = s.mac := rfl
@[simp] theorem State.withHbm_pcie (s : State) (v : Hbm) : ({ s with hbm := v } : State).pcie = s.pcie := rfl
@[simp] theorem State.withHbm_sec (s : State) (v : Hbm) : ({ s with hbm := v } : State).sec = s.sec := rfl
@[simp] theorem State.withHbm_cores (s : State) (v : Hbm) : ({ s with hbm := v } : State).cores = s.cores := rfl
@[simp] theorem State.withHbm_power (s : State) (v : Hbm) : ({ s with hbm := v } : State).power = s.power := rfl
@[simp] theorem State.withHbm_faults (s : State) (v : Hbm) : ({ s with hbm := v } : State).faults = s.faults := rfl
@[simp] theorem State.withHbm_maint (s : State) (v : Hbm) : ({ s with hbm := v } : State).maint = s.maint := rfl
@[simp] theorem State.withHbm_glob (s : State) (v : Hbm) : ({ s with hbm := v } : State).glob = s.glob := rfl
@[simp] theorem State.withHost_pending (s : State) (v : Memory) : ({ s with host := v } : State).pending = s.pending := rfl
@[simp] theorem State.withHost_draws (s : State) (v : Memory) : ({ s with host := v } : State).draws = s.draws := rfl
@[simp] theorem State.withHost_out (s : State) (v : Memory) : ({ s with host := v } : State).out = s.out := rfl
@[simp] theorem State.withHost_regs (s : State) (v : Memory) : ({ s with host := v } : State).regs = s.regs := rfl
@[simp] theorem State.withHost_hbm (s : State) (v : Memory) : ({ s with host := v } : State).hbm = s.hbm := rfl
@[simp] theorem State.withHost_host (s : State) (v : Memory) : ({ s with host := v } : State).host = v := rfl
@[simp] theorem State.withHost_pkg (s : State) (v : Memory) : ({ s with host := v } : State).pkg = s.pkg := rfl
@[simp] theorem State.withHost_flash (s : State) (v : Memory) : ({ s with host := v } : State).flash = s.flash := rfl
@[simp] theorem State.withHost_clocks (s : State) (v : Memory) : ({ s with host := v } : State).clocks = s.clocks := rfl
@[simp] theorem State.withHost_engines (s : State) (v : Memory) : ({ s with host := v } : State).engines = s.engines := rfl
@[simp] theorem State.withHost_slabs (s : State) (v : Memory) : ({ s with host := v } : State).slabs = s.slabs := rfl
@[simp] theorem State.withHost_rings (s : State) (v : Memory) : ({ s with host := v } : State).rings = s.rings := rfl
@[simp] theorem State.withHost_plots (s : State) (v : Memory) : ({ s with host := v } : State).plots = s.plots := rfl
@[simp] theorem State.withHost_stash (s : State) (v : Memory) : ({ s with host := v } : State).stash = s.stash := rfl
@[simp] theorem State.withHost_matJobs (s : State) (v : Memory) : ({ s with host := v } : State).matJobs = s.matJobs := rfl
@[simp] theorem State.withHost_vecJobs (s : State) (v : Memory) : ({ s with host := v } : State).vecJobs = s.vecJobs := rfl
@[simp] theorem State.withHost_fabric (s : State) (v : Memory) : ({ s with host := v } : State).fabric = s.fabric := rfl
@[simp] theorem State.withHost_ports (s : State) (v : Memory) : ({ s with host := v } : State).ports = s.ports := rfl
@[simp] theorem State.withHost_puts (s : State) (v : Memory) : ({ s with host := v } : State).puts = s.puts := rfl
@[simp] theorem State.withHost_tags (s : State) (v : Memory) : ({ s with host := v } : State).tags = s.tags := rfl
@[simp] theorem State.withHost_mgr (s : State) (v : Memory) : ({ s with host := v } : State).mgr = s.mgr := rfl
@[simp] theorem State.withHost_mac (s : State) (v : Memory) : ({ s with host := v } : State).mac = s.mac := rfl
@[simp] theorem State.withHost_pcie (s : State) (v : Memory) : ({ s with host := v } : State).pcie = s.pcie := rfl
@[simp] theorem State.withHost_sec (s : State) (v : Memory) : ({ s with host := v } : State).sec = s.sec := rfl
@[simp] theorem State.withHost_cores (s : State) (v : Memory) : ({ s with host := v } : State).cores = s.cores := rfl
@[simp] theorem State.withHost_power (s : State) (v : Memory) : ({ s with host := v } : State).power = s.power := rfl
@[simp] theorem State.withHost_faults (s : State) (v : Memory) : ({ s with host := v } : State).faults = s.faults := rfl
@[simp] theorem State.withHost_maint (s : State) (v : Memory) : ({ s with host := v } : State).maint = s.maint := rfl
@[simp] theorem State.withHost_glob (s : State) (v : Memory) : ({ s with host := v } : State).glob = s.glob := rfl
@[simp] theorem State.withPkg_pending (s : State) (v : Package) : ({ s with pkg := v } : State).pending = s.pending := rfl
@[simp] theorem State.withPkg_draws (s : State) (v : Package) : ({ s with pkg := v } : State).draws = s.draws := rfl
@[simp] theorem State.withPkg_out (s : State) (v : Package) : ({ s with pkg := v } : State).out = s.out := rfl
@[simp] theorem State.withPkg_regs (s : State) (v : Package) : ({ s with pkg := v } : State).regs = s.regs := rfl
@[simp] theorem State.withPkg_hbm (s : State) (v : Package) : ({ s with pkg := v } : State).hbm = s.hbm := rfl
@[simp] theorem State.withPkg_host (s : State) (v : Package) : ({ s with pkg := v } : State).host = s.host := rfl
@[simp] theorem State.withPkg_pkg (s : State) (v : Package) : ({ s with pkg := v } : State).pkg = v := rfl
@[simp] theorem State.withPkg_flash (s : State) (v : Package) : ({ s with pkg := v } : State).flash = s.flash := rfl
@[simp] theorem State.withPkg_clocks (s : State) (v : Package) : ({ s with pkg := v } : State).clocks = s.clocks := rfl
@[simp] theorem State.withPkg_engines (s : State) (v : Package) : ({ s with pkg := v } : State).engines = s.engines := rfl
@[simp] theorem State.withPkg_slabs (s : State) (v : Package) : ({ s with pkg := v } : State).slabs = s.slabs := rfl
@[simp] theorem State.withPkg_rings (s : State) (v : Package) : ({ s with pkg := v } : State).rings = s.rings := rfl
@[simp] theorem State.withPkg_plots (s : State) (v : Package) : ({ s with pkg := v } : State).plots = s.plots := rfl
@[simp] theorem State.withPkg_stash (s : State) (v : Package) : ({ s with pkg := v } : State).stash = s.stash := rfl
@[simp] theorem State.withPkg_matJobs (s : State) (v : Package) : ({ s with pkg := v } : State).matJobs = s.matJobs := rfl
@[simp] theorem State.withPkg_vecJobs (s : State) (v : Package) : ({ s with pkg := v } : State).vecJobs = s.vecJobs := rfl
@[simp] theorem State.withPkg_fabric (s : State) (v : Package) : ({ s with pkg := v } : State).fabric = s.fabric := rfl
@[simp] theorem State.withPkg_ports (s : State) (v : Package) : ({ s with pkg := v } : State).ports = s.ports := rfl
@[simp] theorem State.withPkg_puts (s : State) (v : Package) : ({ s with pkg := v } : State).puts = s.puts := rfl
@[simp] theorem State.withPkg_tags (s : State) (v : Package) : ({ s with pkg := v } : State).tags = s.tags := rfl
@[simp] theorem State.withPkg_mgr (s : State) (v : Package) : ({ s with pkg := v } : State).mgr = s.mgr := rfl
@[simp] theorem State.withPkg_mac (s : State) (v : Package) : ({ s with pkg := v } : State).mac = s.mac := rfl
@[simp] theorem State.withPkg_pcie (s : State) (v : Package) : ({ s with pkg := v } : State).pcie = s.pcie := rfl
@[simp] theorem State.withPkg_sec (s : State) (v : Package) : ({ s with pkg := v } : State).sec = s.sec := rfl
@[simp] theorem State.withPkg_cores (s : State) (v : Package) : ({ s with pkg := v } : State).cores = s.cores := rfl
@[simp] theorem State.withPkg_power (s : State) (v : Package) : ({ s with pkg := v } : State).power = s.power := rfl
@[simp] theorem State.withPkg_faults (s : State) (v : Package) : ({ s with pkg := v } : State).faults = s.faults := rfl
@[simp] theorem State.withPkg_maint (s : State) (v : Package) : ({ s with pkg := v } : State).maint = s.maint := rfl
@[simp] theorem State.withPkg_glob (s : State) (v : Package) : ({ s with pkg := v } : State).glob = s.glob := rfl
@[simp] theorem State.withFlash_pending (s : State) (v : Flash) : ({ s with flash := v } : State).pending = s.pending := rfl
@[simp] theorem State.withFlash_draws (s : State) (v : Flash) : ({ s with flash := v } : State).draws = s.draws := rfl
@[simp] theorem State.withFlash_out (s : State) (v : Flash) : ({ s with flash := v } : State).out = s.out := rfl
@[simp] theorem State.withFlash_regs (s : State) (v : Flash) : ({ s with flash := v } : State).regs = s.regs := rfl
@[simp] theorem State.withFlash_hbm (s : State) (v : Flash) : ({ s with flash := v } : State).hbm = s.hbm := rfl
@[simp] theorem State.withFlash_host (s : State) (v : Flash) : ({ s with flash := v } : State).host = s.host := rfl
@[simp] theorem State.withFlash_pkg (s : State) (v : Flash) : ({ s with flash := v } : State).pkg = s.pkg := rfl
@[simp] theorem State.withFlash_flash (s : State) (v : Flash) : ({ s with flash := v } : State).flash = v := rfl
@[simp] theorem State.withFlash_clocks (s : State) (v : Flash) : ({ s with flash := v } : State).clocks = s.clocks := rfl
@[simp] theorem State.withFlash_engines (s : State) (v : Flash) : ({ s with flash := v } : State).engines = s.engines := rfl
@[simp] theorem State.withFlash_slabs (s : State) (v : Flash) : ({ s with flash := v } : State).slabs = s.slabs := rfl
@[simp] theorem State.withFlash_rings (s : State) (v : Flash) : ({ s with flash := v } : State).rings = s.rings := rfl
@[simp] theorem State.withFlash_plots (s : State) (v : Flash) : ({ s with flash := v } : State).plots = s.plots := rfl
@[simp] theorem State.withFlash_stash (s : State) (v : Flash) : ({ s with flash := v } : State).stash = s.stash := rfl
@[simp] theorem State.withFlash_matJobs (s : State) (v : Flash) : ({ s with flash := v } : State).matJobs = s.matJobs := rfl
@[simp] theorem State.withFlash_vecJobs (s : State) (v : Flash) : ({ s with flash := v } : State).vecJobs = s.vecJobs := rfl
@[simp] theorem State.withFlash_fabric (s : State) (v : Flash) : ({ s with flash := v } : State).fabric = s.fabric := rfl
@[simp] theorem State.withFlash_ports (s : State) (v : Flash) : ({ s with flash := v } : State).ports = s.ports := rfl
@[simp] theorem State.withFlash_puts (s : State) (v : Flash) : ({ s with flash := v } : State).puts = s.puts := rfl
@[simp] theorem State.withFlash_tags (s : State) (v : Flash) : ({ s with flash := v } : State).tags = s.tags := rfl
@[simp] theorem State.withFlash_mgr (s : State) (v : Flash) : ({ s with flash := v } : State).mgr = s.mgr := rfl
@[simp] theorem State.withFlash_mac (s : State) (v : Flash) : ({ s with flash := v } : State).mac = s.mac := rfl
@[simp] theorem State.withFlash_pcie (s : State) (v : Flash) : ({ s with flash := v } : State).pcie = s.pcie := rfl
@[simp] theorem State.withFlash_sec (s : State) (v : Flash) : ({ s with flash := v } : State).sec = s.sec := rfl
@[simp] theorem State.withFlash_cores (s : State) (v : Flash) : ({ s with flash := v } : State).cores = s.cores := rfl
@[simp] theorem State.withFlash_power (s : State) (v : Flash) : ({ s with flash := v } : State).power = s.power := rfl
@[simp] theorem State.withFlash_faults (s : State) (v : Flash) : ({ s with flash := v } : State).faults = s.faults := rfl
@[simp] theorem State.withFlash_maint (s : State) (v : Flash) : ({ s with flash := v } : State).maint = s.maint := rfl
@[simp] theorem State.withFlash_glob (s : State) (v : Flash) : ({ s with flash := v } : State).glob = s.glob := rfl
@[simp] theorem State.withClocks_pending (s : State) (v : Clocks) : ({ s with clocks := v } : State).pending = s.pending := rfl
@[simp] theorem State.withClocks_draws (s : State) (v : Clocks) : ({ s with clocks := v } : State).draws = s.draws := rfl
@[simp] theorem State.withClocks_out (s : State) (v : Clocks) : ({ s with clocks := v } : State).out = s.out := rfl
@[simp] theorem State.withClocks_regs (s : State) (v : Clocks) : ({ s with clocks := v } : State).regs = s.regs := rfl
@[simp] theorem State.withClocks_hbm (s : State) (v : Clocks) : ({ s with clocks := v } : State).hbm = s.hbm := rfl
@[simp] theorem State.withClocks_host (s : State) (v : Clocks) : ({ s with clocks := v } : State).host = s.host := rfl
@[simp] theorem State.withClocks_pkg (s : State) (v : Clocks) : ({ s with clocks := v } : State).pkg = s.pkg := rfl
@[simp] theorem State.withClocks_flash (s : State) (v : Clocks) : ({ s with clocks := v } : State).flash = s.flash := rfl
@[simp] theorem State.withClocks_clocks (s : State) (v : Clocks) : ({ s with clocks := v } : State).clocks = v := rfl
@[simp] theorem State.withClocks_engines (s : State) (v : Clocks) : ({ s with clocks := v } : State).engines = s.engines := rfl
@[simp] theorem State.withClocks_slabs (s : State) (v : Clocks) : ({ s with clocks := v } : State).slabs = s.slabs := rfl
@[simp] theorem State.withClocks_rings (s : State) (v : Clocks) : ({ s with clocks := v } : State).rings = s.rings := rfl
@[simp] theorem State.withClocks_plots (s : State) (v : Clocks) : ({ s with clocks := v } : State).plots = s.plots := rfl
@[simp] theorem State.withClocks_stash (s : State) (v : Clocks) : ({ s with clocks := v } : State).stash = s.stash := rfl
@[simp] theorem State.withClocks_matJobs (s : State) (v : Clocks) : ({ s with clocks := v } : State).matJobs = s.matJobs := rfl
@[simp] theorem State.withClocks_vecJobs (s : State) (v : Clocks) : ({ s with clocks := v } : State).vecJobs = s.vecJobs := rfl
@[simp] theorem State.withClocks_fabric (s : State) (v : Clocks) : ({ s with clocks := v } : State).fabric = s.fabric := rfl
@[simp] theorem State.withClocks_ports (s : State) (v : Clocks) : ({ s with clocks := v } : State).ports = s.ports := rfl
@[simp] theorem State.withClocks_puts (s : State) (v : Clocks) : ({ s with clocks := v } : State).puts = s.puts := rfl
@[simp] theorem State.withClocks_tags (s : State) (v : Clocks) : ({ s with clocks := v } : State).tags = s.tags := rfl
@[simp] theorem State.withClocks_mgr (s : State) (v : Clocks) : ({ s with clocks := v } : State).mgr = s.mgr := rfl
@[simp] theorem State.withClocks_mac (s : State) (v : Clocks) : ({ s with clocks := v } : State).mac = s.mac := rfl
@[simp] theorem State.withClocks_pcie (s : State) (v : Clocks) : ({ s with clocks := v } : State).pcie = s.pcie := rfl
@[simp] theorem State.withClocks_sec (s : State) (v : Clocks) : ({ s with clocks := v } : State).sec = s.sec := rfl
@[simp] theorem State.withClocks_cores (s : State) (v : Clocks) : ({ s with clocks := v } : State).cores = s.cores := rfl
@[simp] theorem State.withClocks_power (s : State) (v : Clocks) : ({ s with clocks := v } : State).power = s.power := rfl
@[simp] theorem State.withClocks_faults (s : State) (v : Clocks) : ({ s with clocks := v } : State).faults = s.faults := rfl
@[simp] theorem State.withClocks_maint (s : State) (v : Clocks) : ({ s with clocks := v } : State).maint = s.maint := rfl
@[simp] theorem State.withClocks_glob (s : State) (v : Clocks) : ({ s with clocks := v } : State).glob = s.glob := rfl
@[simp] theorem State.withEngines_pending (s : State) (v : Tab Engine) : ({ s with engines := v } : State).pending = s.pending := rfl
@[simp] theorem State.withEngines_draws (s : State) (v : Tab Engine) : ({ s with engines := v } : State).draws = s.draws := rfl
@[simp] theorem State.withEngines_out (s : State) (v : Tab Engine) : ({ s with engines := v } : State).out = s.out := rfl
@[simp] theorem State.withEngines_regs (s : State) (v : Tab Engine) : ({ s with engines := v } : State).regs = s.regs := rfl
@[simp] theorem State.withEngines_hbm (s : State) (v : Tab Engine) : ({ s with engines := v } : State).hbm = s.hbm := rfl
@[simp] theorem State.withEngines_host (s : State) (v : Tab Engine) : ({ s with engines := v } : State).host = s.host := rfl
@[simp] theorem State.withEngines_pkg (s : State) (v : Tab Engine) : ({ s with engines := v } : State).pkg = s.pkg := rfl
@[simp] theorem State.withEngines_flash (s : State) (v : Tab Engine) : ({ s with engines := v } : State).flash = s.flash := rfl
@[simp] theorem State.withEngines_clocks (s : State) (v : Tab Engine) : ({ s with engines := v } : State).clocks = s.clocks := rfl
@[simp] theorem State.withEngines_engines (s : State) (v : Tab Engine) : ({ s with engines := v } : State).engines = v := rfl
@[simp] theorem State.withEngines_slabs (s : State) (v : Tab Engine) : ({ s with engines := v } : State).slabs = s.slabs := rfl
@[simp] theorem State.withEngines_rings (s : State) (v : Tab Engine) : ({ s with engines := v } : State).rings = s.rings := rfl
@[simp] theorem State.withEngines_plots (s : State) (v : Tab Engine) : ({ s with engines := v } : State).plots = s.plots := rfl
@[simp] theorem State.withEngines_stash (s : State) (v : Tab Engine) : ({ s with engines := v } : State).stash = s.stash := rfl
@[simp] theorem State.withEngines_matJobs (s : State) (v : Tab Engine) : ({ s with engines := v } : State).matJobs = s.matJobs := rfl
@[simp] theorem State.withEngines_vecJobs (s : State) (v : Tab Engine) : ({ s with engines := v } : State).vecJobs = s.vecJobs := rfl
@[simp] theorem State.withEngines_fabric (s : State) (v : Tab Engine) : ({ s with engines := v } : State).fabric = s.fabric := rfl
@[simp] theorem State.withEngines_ports (s : State) (v : Tab Engine) : ({ s with engines := v } : State).ports = s.ports := rfl
@[simp] theorem State.withEngines_puts (s : State) (v : Tab Engine) : ({ s with engines := v } : State).puts = s.puts := rfl
@[simp] theorem State.withEngines_tags (s : State) (v : Tab Engine) : ({ s with engines := v } : State).tags = s.tags := rfl
@[simp] theorem State.withEngines_mgr (s : State) (v : Tab Engine) : ({ s with engines := v } : State).mgr = s.mgr := rfl
@[simp] theorem State.withEngines_mac (s : State) (v : Tab Engine) : ({ s with engines := v } : State).mac = s.mac := rfl
@[simp] theorem State.withEngines_pcie (s : State) (v : Tab Engine) : ({ s with engines := v } : State).pcie = s.pcie := rfl
@[simp] theorem State.withEngines_sec (s : State) (v : Tab Engine) : ({ s with engines := v } : State).sec = s.sec := rfl
@[simp] theorem State.withEngines_cores (s : State) (v : Tab Engine) : ({ s with engines := v } : State).cores = s.cores := rfl
@[simp] theorem State.withEngines_power (s : State) (v : Tab Engine) : ({ s with engines := v } : State).power = s.power := rfl
@[simp] theorem State.withEngines_faults (s : State) (v : Tab Engine) : ({ s with engines := v } : State).faults = s.faults := rfl
@[simp] theorem State.withEngines_maint (s : State) (v : Tab Engine) : ({ s with engines := v } : State).maint = s.maint := rfl
@[simp] theorem State.withEngines_glob (s : State) (v : Tab Engine) : ({ s with engines := v } : State).glob = s.glob := rfl
@[simp] theorem State.withSlabs_pending (s : State) (v : Tab Slab) : ({ s with slabs := v } : State).pending = s.pending := rfl
@[simp] theorem State.withSlabs_draws (s : State) (v : Tab Slab) : ({ s with slabs := v } : State).draws = s.draws := rfl
@[simp] theorem State.withSlabs_out (s : State) (v : Tab Slab) : ({ s with slabs := v } : State).out = s.out := rfl
@[simp] theorem State.withSlabs_regs (s : State) (v : Tab Slab) : ({ s with slabs := v } : State).regs = s.regs := rfl
@[simp] theorem State.withSlabs_hbm (s : State) (v : Tab Slab) : ({ s with slabs := v } : State).hbm = s.hbm := rfl
@[simp] theorem State.withSlabs_host (s : State) (v : Tab Slab) : ({ s with slabs := v } : State).host = s.host := rfl
@[simp] theorem State.withSlabs_pkg (s : State) (v : Tab Slab) : ({ s with slabs := v } : State).pkg = s.pkg := rfl
@[simp] theorem State.withSlabs_flash (s : State) (v : Tab Slab) : ({ s with slabs := v } : State).flash = s.flash := rfl
@[simp] theorem State.withSlabs_clocks (s : State) (v : Tab Slab) : ({ s with slabs := v } : State).clocks = s.clocks := rfl
@[simp] theorem State.withSlabs_engines (s : State) (v : Tab Slab) : ({ s with slabs := v } : State).engines = s.engines := rfl
@[simp] theorem State.withSlabs_slabs (s : State) (v : Tab Slab) : ({ s with slabs := v } : State).slabs = v := rfl
@[simp] theorem State.withSlabs_rings (s : State) (v : Tab Slab) : ({ s with slabs := v } : State).rings = s.rings := rfl
@[simp] theorem State.withSlabs_plots (s : State) (v : Tab Slab) : ({ s with slabs := v } : State).plots = s.plots := rfl
@[simp] theorem State.withSlabs_stash (s : State) (v : Tab Slab) : ({ s with slabs := v } : State).stash = s.stash := rfl
@[simp] theorem State.withSlabs_matJobs (s : State) (v : Tab Slab) : ({ s with slabs := v } : State).matJobs = s.matJobs := rfl
@[simp] theorem State.withSlabs_vecJobs (s : State) (v : Tab Slab) : ({ s with slabs := v } : State).vecJobs = s.vecJobs := rfl
@[simp] theorem State.withSlabs_fabric (s : State) (v : Tab Slab) : ({ s with slabs := v } : State).fabric = s.fabric := rfl
@[simp] theorem State.withSlabs_ports (s : State) (v : Tab Slab) : ({ s with slabs := v } : State).ports = s.ports := rfl
@[simp] theorem State.withSlabs_puts (s : State) (v : Tab Slab) : ({ s with slabs := v } : State).puts = s.puts := rfl
@[simp] theorem State.withSlabs_tags (s : State) (v : Tab Slab) : ({ s with slabs := v } : State).tags = s.tags := rfl
@[simp] theorem State.withSlabs_mgr (s : State) (v : Tab Slab) : ({ s with slabs := v } : State).mgr = s.mgr := rfl
@[simp] theorem State.withSlabs_mac (s : State) (v : Tab Slab) : ({ s with slabs := v } : State).mac = s.mac := rfl
@[simp] theorem State.withSlabs_pcie (s : State) (v : Tab Slab) : ({ s with slabs := v } : State).pcie = s.pcie := rfl
@[simp] theorem State.withSlabs_sec (s : State) (v : Tab Slab) : ({ s with slabs := v } : State).sec = s.sec := rfl
@[simp] theorem State.withSlabs_cores (s : State) (v : Tab Slab) : ({ s with slabs := v } : State).cores = s.cores := rfl
@[simp] theorem State.withSlabs_power (s : State) (v : Tab Slab) : ({ s with slabs := v } : State).power = s.power := rfl
@[simp] theorem State.withSlabs_faults (s : State) (v : Tab Slab) : ({ s with slabs := v } : State).faults = s.faults := rfl
@[simp] theorem State.withSlabs_maint (s : State) (v : Tab Slab) : ({ s with slabs := v } : State).maint = s.maint := rfl
@[simp] theorem State.withSlabs_glob (s : State) (v : Tab Slab) : ({ s with slabs := v } : State).glob = s.glob := rfl
@[simp] theorem State.withRings_pending (s : State) (v : Tab Ring) : ({ s with rings := v } : State).pending = s.pending := rfl
@[simp] theorem State.withRings_draws (s : State) (v : Tab Ring) : ({ s with rings := v } : State).draws = s.draws := rfl
@[simp] theorem State.withRings_out (s : State) (v : Tab Ring) : ({ s with rings := v } : State).out = s.out := rfl
@[simp] theorem State.withRings_regs (s : State) (v : Tab Ring) : ({ s with rings := v } : State).regs = s.regs := rfl
@[simp] theorem State.withRings_hbm (s : State) (v : Tab Ring) : ({ s with rings := v } : State).hbm = s.hbm := rfl
@[simp] theorem State.withRings_host (s : State) (v : Tab Ring) : ({ s with rings := v } : State).host = s.host := rfl
@[simp] theorem State.withRings_pkg (s : State) (v : Tab Ring) : ({ s with rings := v } : State).pkg = s.pkg := rfl
@[simp] theorem State.withRings_flash (s : State) (v : Tab Ring) : ({ s with rings := v } : State).flash = s.flash := rfl
@[simp] theorem State.withRings_clocks (s : State) (v : Tab Ring) : ({ s with rings := v } : State).clocks = s.clocks := rfl
@[simp] theorem State.withRings_engines (s : State) (v : Tab Ring) : ({ s with rings := v } : State).engines = s.engines := rfl
@[simp] theorem State.withRings_slabs (s : State) (v : Tab Ring) : ({ s with rings := v } : State).slabs = s.slabs := rfl
@[simp] theorem State.withRings_rings (s : State) (v : Tab Ring) : ({ s with rings := v } : State).rings = v := rfl
@[simp] theorem State.withRings_plots (s : State) (v : Tab Ring) : ({ s with rings := v } : State).plots = s.plots := rfl
@[simp] theorem State.withRings_stash (s : State) (v : Tab Ring) : ({ s with rings := v } : State).stash = s.stash := rfl
@[simp] theorem State.withRings_matJobs (s : State) (v : Tab Ring) : ({ s with rings := v } : State).matJobs = s.matJobs := rfl
@[simp] theorem State.withRings_vecJobs (s : State) (v : Tab Ring) : ({ s with rings := v } : State).vecJobs = s.vecJobs := rfl
@[simp] theorem State.withRings_fabric (s : State) (v : Tab Ring) : ({ s with rings := v } : State).fabric = s.fabric := rfl
@[simp] theorem State.withRings_ports (s : State) (v : Tab Ring) : ({ s with rings := v } : State).ports = s.ports := rfl
@[simp] theorem State.withRings_puts (s : State) (v : Tab Ring) : ({ s with rings := v } : State).puts = s.puts := rfl
@[simp] theorem State.withRings_tags (s : State) (v : Tab Ring) : ({ s with rings := v } : State).tags = s.tags := rfl
@[simp] theorem State.withRings_mgr (s : State) (v : Tab Ring) : ({ s with rings := v } : State).mgr = s.mgr := rfl
@[simp] theorem State.withRings_mac (s : State) (v : Tab Ring) : ({ s with rings := v } : State).mac = s.mac := rfl
@[simp] theorem State.withRings_pcie (s : State) (v : Tab Ring) : ({ s with rings := v } : State).pcie = s.pcie := rfl
@[simp] theorem State.withRings_sec (s : State) (v : Tab Ring) : ({ s with rings := v } : State).sec = s.sec := rfl
@[simp] theorem State.withRings_cores (s : State) (v : Tab Ring) : ({ s with rings := v } : State).cores = s.cores := rfl
@[simp] theorem State.withRings_power (s : State) (v : Tab Ring) : ({ s with rings := v } : State).power = s.power := rfl
@[simp] theorem State.withRings_faults (s : State) (v : Tab Ring) : ({ s with rings := v } : State).faults = s.faults := rfl
@[simp] theorem State.withRings_maint (s : State) (v : Tab Ring) : ({ s with rings := v } : State).maint = s.maint := rfl
@[simp] theorem State.withRings_glob (s : State) (v : Tab Ring) : ({ s with rings := v } : State).glob = s.glob := rfl
@[simp] theorem State.withPlots_pending (s : State) (v : Tab Plot) : ({ s with plots := v } : State).pending = s.pending := rfl
@[simp] theorem State.withPlots_draws (s : State) (v : Tab Plot) : ({ s with plots := v } : State).draws = s.draws := rfl
@[simp] theorem State.withPlots_out (s : State) (v : Tab Plot) : ({ s with plots := v } : State).out = s.out := rfl
@[simp] theorem State.withPlots_regs (s : State) (v : Tab Plot) : ({ s with plots := v } : State).regs = s.regs := rfl
@[simp] theorem State.withPlots_hbm (s : State) (v : Tab Plot) : ({ s with plots := v } : State).hbm = s.hbm := rfl
@[simp] theorem State.withPlots_host (s : State) (v : Tab Plot) : ({ s with plots := v } : State).host = s.host := rfl
@[simp] theorem State.withPlots_pkg (s : State) (v : Tab Plot) : ({ s with plots := v } : State).pkg = s.pkg := rfl
@[simp] theorem State.withPlots_flash (s : State) (v : Tab Plot) : ({ s with plots := v } : State).flash = s.flash := rfl
@[simp] theorem State.withPlots_clocks (s : State) (v : Tab Plot) : ({ s with plots := v } : State).clocks = s.clocks := rfl
@[simp] theorem State.withPlots_engines (s : State) (v : Tab Plot) : ({ s with plots := v } : State).engines = s.engines := rfl
@[simp] theorem State.withPlots_slabs (s : State) (v : Tab Plot) : ({ s with plots := v } : State).slabs = s.slabs := rfl
@[simp] theorem State.withPlots_rings (s : State) (v : Tab Plot) : ({ s with plots := v } : State).rings = s.rings := rfl
@[simp] theorem State.withPlots_plots (s : State) (v : Tab Plot) : ({ s with plots := v } : State).plots = v := rfl
@[simp] theorem State.withPlots_stash (s : State) (v : Tab Plot) : ({ s with plots := v } : State).stash = s.stash := rfl
@[simp] theorem State.withPlots_matJobs (s : State) (v : Tab Plot) : ({ s with plots := v } : State).matJobs = s.matJobs := rfl
@[simp] theorem State.withPlots_vecJobs (s : State) (v : Tab Plot) : ({ s with plots := v } : State).vecJobs = s.vecJobs := rfl
@[simp] theorem State.withPlots_fabric (s : State) (v : Tab Plot) : ({ s with plots := v } : State).fabric = s.fabric := rfl
@[simp] theorem State.withPlots_ports (s : State) (v : Tab Plot) : ({ s with plots := v } : State).ports = s.ports := rfl
@[simp] theorem State.withPlots_puts (s : State) (v : Tab Plot) : ({ s with plots := v } : State).puts = s.puts := rfl
@[simp] theorem State.withPlots_tags (s : State) (v : Tab Plot) : ({ s with plots := v } : State).tags = s.tags := rfl
@[simp] theorem State.withPlots_mgr (s : State) (v : Tab Plot) : ({ s with plots := v } : State).mgr = s.mgr := rfl
@[simp] theorem State.withPlots_mac (s : State) (v : Tab Plot) : ({ s with plots := v } : State).mac = s.mac := rfl
@[simp] theorem State.withPlots_pcie (s : State) (v : Tab Plot) : ({ s with plots := v } : State).pcie = s.pcie := rfl
@[simp] theorem State.withPlots_sec (s : State) (v : Tab Plot) : ({ s with plots := v } : State).sec = s.sec := rfl
@[simp] theorem State.withPlots_cores (s : State) (v : Tab Plot) : ({ s with plots := v } : State).cores = s.cores := rfl
@[simp] theorem State.withPlots_power (s : State) (v : Tab Plot) : ({ s with plots := v } : State).power = s.power := rfl
@[simp] theorem State.withPlots_faults (s : State) (v : Tab Plot) : ({ s with plots := v } : State).faults = s.faults := rfl
@[simp] theorem State.withPlots_maint (s : State) (v : Tab Plot) : ({ s with plots := v } : State).maint = s.maint := rfl
@[simp] theorem State.withPlots_glob (s : State) (v : Tab Plot) : ({ s with plots := v } : State).glob = s.glob := rfl
@[simp] theorem State.withStash_pending (s : State) (v : Tab (List StashEntry)) : ({ s with stash := v } : State).pending = s.pending := rfl
@[simp] theorem State.withStash_draws (s : State) (v : Tab (List StashEntry)) : ({ s with stash := v } : State).draws = s.draws := rfl
@[simp] theorem State.withStash_out (s : State) (v : Tab (List StashEntry)) : ({ s with stash := v } : State).out = s.out := rfl
@[simp] theorem State.withStash_regs (s : State) (v : Tab (List StashEntry)) : ({ s with stash := v } : State).regs = s.regs := rfl
@[simp] theorem State.withStash_hbm (s : State) (v : Tab (List StashEntry)) : ({ s with stash := v } : State).hbm = s.hbm := rfl
@[simp] theorem State.withStash_host (s : State) (v : Tab (List StashEntry)) : ({ s with stash := v } : State).host = s.host := rfl
@[simp] theorem State.withStash_pkg (s : State) (v : Tab (List StashEntry)) : ({ s with stash := v } : State).pkg = s.pkg := rfl
@[simp] theorem State.withStash_flash (s : State) (v : Tab (List StashEntry)) : ({ s with stash := v } : State).flash = s.flash := rfl
@[simp] theorem State.withStash_clocks (s : State) (v : Tab (List StashEntry)) : ({ s with stash := v } : State).clocks = s.clocks := rfl
@[simp] theorem State.withStash_engines (s : State) (v : Tab (List StashEntry)) : ({ s with stash := v } : State).engines = s.engines := rfl
@[simp] theorem State.withStash_slabs (s : State) (v : Tab (List StashEntry)) : ({ s with stash := v } : State).slabs = s.slabs := rfl
@[simp] theorem State.withStash_rings (s : State) (v : Tab (List StashEntry)) : ({ s with stash := v } : State).rings = s.rings := rfl
@[simp] theorem State.withStash_plots (s : State) (v : Tab (List StashEntry)) : ({ s with stash := v } : State).plots = s.plots := rfl
@[simp] theorem State.withStash_stash (s : State) (v : Tab (List StashEntry)) : ({ s with stash := v } : State).stash = v := rfl
@[simp] theorem State.withStash_matJobs (s : State) (v : Tab (List StashEntry)) : ({ s with stash := v } : State).matJobs = s.matJobs := rfl
@[simp] theorem State.withStash_vecJobs (s : State) (v : Tab (List StashEntry)) : ({ s with stash := v } : State).vecJobs = s.vecJobs := rfl
@[simp] theorem State.withStash_fabric (s : State) (v : Tab (List StashEntry)) : ({ s with stash := v } : State).fabric = s.fabric := rfl
@[simp] theorem State.withStash_ports (s : State) (v : Tab (List StashEntry)) : ({ s with stash := v } : State).ports = s.ports := rfl
@[simp] theorem State.withStash_puts (s : State) (v : Tab (List StashEntry)) : ({ s with stash := v } : State).puts = s.puts := rfl
@[simp] theorem State.withStash_tags (s : State) (v : Tab (List StashEntry)) : ({ s with stash := v } : State).tags = s.tags := rfl
@[simp] theorem State.withStash_mgr (s : State) (v : Tab (List StashEntry)) : ({ s with stash := v } : State).mgr = s.mgr := rfl
@[simp] theorem State.withStash_mac (s : State) (v : Tab (List StashEntry)) : ({ s with stash := v } : State).mac = s.mac := rfl
@[simp] theorem State.withStash_pcie (s : State) (v : Tab (List StashEntry)) : ({ s with stash := v } : State).pcie = s.pcie := rfl
@[simp] theorem State.withStash_sec (s : State) (v : Tab (List StashEntry)) : ({ s with stash := v } : State).sec = s.sec := rfl
@[simp] theorem State.withStash_cores (s : State) (v : Tab (List StashEntry)) : ({ s with stash := v } : State).cores = s.cores := rfl
@[simp] theorem State.withStash_power (s : State) (v : Tab (List StashEntry)) : ({ s with stash := v } : State).power = s.power := rfl
@[simp] theorem State.withStash_faults (s : State) (v : Tab (List StashEntry)) : ({ s with stash := v } : State).faults = s.faults := rfl
@[simp] theorem State.withStash_maint (s : State) (v : Tab (List StashEntry)) : ({ s with stash := v } : State).maint = s.maint := rfl
@[simp] theorem State.withStash_glob (s : State) (v : Tab (List StashEntry)) : ({ s with stash := v } : State).glob = s.glob := rfl
@[simp] theorem State.withMatJobs_pending (s : State) (v : List MatJob) : ({ s with matJobs := v } : State).pending = s.pending := rfl
@[simp] theorem State.withMatJobs_draws (s : State) (v : List MatJob) : ({ s with matJobs := v } : State).draws = s.draws := rfl
@[simp] theorem State.withMatJobs_out (s : State) (v : List MatJob) : ({ s with matJobs := v } : State).out = s.out := rfl
@[simp] theorem State.withMatJobs_regs (s : State) (v : List MatJob) : ({ s with matJobs := v } : State).regs = s.regs := rfl
@[simp] theorem State.withMatJobs_hbm (s : State) (v : List MatJob) : ({ s with matJobs := v } : State).hbm = s.hbm := rfl
@[simp] theorem State.withMatJobs_host (s : State) (v : List MatJob) : ({ s with matJobs := v } : State).host = s.host := rfl
@[simp] theorem State.withMatJobs_pkg (s : State) (v : List MatJob) : ({ s with matJobs := v } : State).pkg = s.pkg := rfl
@[simp] theorem State.withMatJobs_flash (s : State) (v : List MatJob) : ({ s with matJobs := v } : State).flash = s.flash := rfl
@[simp] theorem State.withMatJobs_clocks (s : State) (v : List MatJob) : ({ s with matJobs := v } : State).clocks = s.clocks := rfl
@[simp] theorem State.withMatJobs_engines (s : State) (v : List MatJob) : ({ s with matJobs := v } : State).engines = s.engines := rfl
@[simp] theorem State.withMatJobs_slabs (s : State) (v : List MatJob) : ({ s with matJobs := v } : State).slabs = s.slabs := rfl
@[simp] theorem State.withMatJobs_rings (s : State) (v : List MatJob) : ({ s with matJobs := v } : State).rings = s.rings := rfl
@[simp] theorem State.withMatJobs_plots (s : State) (v : List MatJob) : ({ s with matJobs := v } : State).plots = s.plots := rfl
@[simp] theorem State.withMatJobs_stash (s : State) (v : List MatJob) : ({ s with matJobs := v } : State).stash = s.stash := rfl
@[simp] theorem State.withMatJobs_matJobs (s : State) (v : List MatJob) : ({ s with matJobs := v } : State).matJobs = v := rfl
@[simp] theorem State.withMatJobs_vecJobs (s : State) (v : List MatJob) : ({ s with matJobs := v } : State).vecJobs = s.vecJobs := rfl
@[simp] theorem State.withMatJobs_fabric (s : State) (v : List MatJob) : ({ s with matJobs := v } : State).fabric = s.fabric := rfl
@[simp] theorem State.withMatJobs_ports (s : State) (v : List MatJob) : ({ s with matJobs := v } : State).ports = s.ports := rfl
@[simp] theorem State.withMatJobs_puts (s : State) (v : List MatJob) : ({ s with matJobs := v } : State).puts = s.puts := rfl
@[simp] theorem State.withMatJobs_tags (s : State) (v : List MatJob) : ({ s with matJobs := v } : State).tags = s.tags := rfl
@[simp] theorem State.withMatJobs_mgr (s : State) (v : List MatJob) : ({ s with matJobs := v } : State).mgr = s.mgr := rfl
@[simp] theorem State.withMatJobs_mac (s : State) (v : List MatJob) : ({ s with matJobs := v } : State).mac = s.mac := rfl
@[simp] theorem State.withMatJobs_pcie (s : State) (v : List MatJob) : ({ s with matJobs := v } : State).pcie = s.pcie := rfl
@[simp] theorem State.withMatJobs_sec (s : State) (v : List MatJob) : ({ s with matJobs := v } : State).sec = s.sec := rfl
@[simp] theorem State.withMatJobs_cores (s : State) (v : List MatJob) : ({ s with matJobs := v } : State).cores = s.cores := rfl
@[simp] theorem State.withMatJobs_power (s : State) (v : List MatJob) : ({ s with matJobs := v } : State).power = s.power := rfl
@[simp] theorem State.withMatJobs_faults (s : State) (v : List MatJob) : ({ s with matJobs := v } : State).faults = s.faults := rfl
@[simp] theorem State.withMatJobs_maint (s : State) (v : List MatJob) : ({ s with matJobs := v } : State).maint = s.maint := rfl
@[simp] theorem State.withMatJobs_glob (s : State) (v : List MatJob) : ({ s with matJobs := v } : State).glob = s.glob := rfl
@[simp] theorem State.withVecJobs_pending (s : State) (v : List VecJob) : ({ s with vecJobs := v } : State).pending = s.pending := rfl
@[simp] theorem State.withVecJobs_draws (s : State) (v : List VecJob) : ({ s with vecJobs := v } : State).draws = s.draws := rfl
@[simp] theorem State.withVecJobs_out (s : State) (v : List VecJob) : ({ s with vecJobs := v } : State).out = s.out := rfl
@[simp] theorem State.withVecJobs_regs (s : State) (v : List VecJob) : ({ s with vecJobs := v } : State).regs = s.regs := rfl
@[simp] theorem State.withVecJobs_hbm (s : State) (v : List VecJob) : ({ s with vecJobs := v } : State).hbm = s.hbm := rfl
@[simp] theorem State.withVecJobs_host (s : State) (v : List VecJob) : ({ s with vecJobs := v } : State).host = s.host := rfl
@[simp] theorem State.withVecJobs_pkg (s : State) (v : List VecJob) : ({ s with vecJobs := v } : State).pkg = s.pkg := rfl
@[simp] theorem State.withVecJobs_flash (s : State) (v : List VecJob) : ({ s with vecJobs := v } : State).flash = s.flash := rfl
@[simp] theorem State.withVecJobs_clocks (s : State) (v : List VecJob) : ({ s with vecJobs := v } : State).clocks = s.clocks := rfl
@[simp] theorem State.withVecJobs_engines (s : State) (v : List VecJob) : ({ s with vecJobs := v } : State).engines = s.engines := rfl
@[simp] theorem State.withVecJobs_slabs (s : State) (v : List VecJob) : ({ s with vecJobs := v } : State).slabs = s.slabs := rfl
@[simp] theorem State.withVecJobs_rings (s : State) (v : List VecJob) : ({ s with vecJobs := v } : State).rings = s.rings := rfl
@[simp] theorem State.withVecJobs_plots (s : State) (v : List VecJob) : ({ s with vecJobs := v } : State).plots = s.plots := rfl
@[simp] theorem State.withVecJobs_stash (s : State) (v : List VecJob) : ({ s with vecJobs := v } : State).stash = s.stash := rfl
@[simp] theorem State.withVecJobs_matJobs (s : State) (v : List VecJob) : ({ s with vecJobs := v } : State).matJobs = s.matJobs := rfl
@[simp] theorem State.withVecJobs_vecJobs (s : State) (v : List VecJob) : ({ s with vecJobs := v } : State).vecJobs = v := rfl
@[simp] theorem State.withVecJobs_fabric (s : State) (v : List VecJob) : ({ s with vecJobs := v } : State).fabric = s.fabric := rfl
@[simp] theorem State.withVecJobs_ports (s : State) (v : List VecJob) : ({ s with vecJobs := v } : State).ports = s.ports := rfl
@[simp] theorem State.withVecJobs_puts (s : State) (v : List VecJob) : ({ s with vecJobs := v } : State).puts = s.puts := rfl
@[simp] theorem State.withVecJobs_tags (s : State) (v : List VecJob) : ({ s with vecJobs := v } : State).tags = s.tags := rfl
@[simp] theorem State.withVecJobs_mgr (s : State) (v : List VecJob) : ({ s with vecJobs := v } : State).mgr = s.mgr := rfl
@[simp] theorem State.withVecJobs_mac (s : State) (v : List VecJob) : ({ s with vecJobs := v } : State).mac = s.mac := rfl
@[simp] theorem State.withVecJobs_pcie (s : State) (v : List VecJob) : ({ s with vecJobs := v } : State).pcie = s.pcie := rfl
@[simp] theorem State.withVecJobs_sec (s : State) (v : List VecJob) : ({ s with vecJobs := v } : State).sec = s.sec := rfl
@[simp] theorem State.withVecJobs_cores (s : State) (v : List VecJob) : ({ s with vecJobs := v } : State).cores = s.cores := rfl
@[simp] theorem State.withVecJobs_power (s : State) (v : List VecJob) : ({ s with vecJobs := v } : State).power = s.power := rfl
@[simp] theorem State.withVecJobs_faults (s : State) (v : List VecJob) : ({ s with vecJobs := v } : State).faults = s.faults := rfl
@[simp] theorem State.withVecJobs_maint (s : State) (v : List VecJob) : ({ s with vecJobs := v } : State).maint = s.maint := rfl
@[simp] theorem State.withVecJobs_glob (s : State) (v : List VecJob) : ({ s with vecJobs := v } : State).glob = s.glob := rfl
@[simp] theorem State.withFabric_pending (s : State) (v : Fabric) : ({ s with fabric := v } : State).pending = s.pending := rfl
@[simp] theorem State.withFabric_draws (s : State) (v : Fabric) : ({ s with fabric := v } : State).draws = s.draws := rfl
@[simp] theorem State.withFabric_out (s : State) (v : Fabric) : ({ s with fabric := v } : State).out = s.out := rfl
@[simp] theorem State.withFabric_regs (s : State) (v : Fabric) : ({ s with fabric := v } : State).regs = s.regs := rfl
@[simp] theorem State.withFabric_hbm (s : State) (v : Fabric) : ({ s with fabric := v } : State).hbm = s.hbm := rfl
@[simp] theorem State.withFabric_host (s : State) (v : Fabric) : ({ s with fabric := v } : State).host = s.host := rfl
@[simp] theorem State.withFabric_pkg (s : State) (v : Fabric) : ({ s with fabric := v } : State).pkg = s.pkg := rfl
@[simp] theorem State.withFabric_flash (s : State) (v : Fabric) : ({ s with fabric := v } : State).flash = s.flash := rfl
@[simp] theorem State.withFabric_clocks (s : State) (v : Fabric) : ({ s with fabric := v } : State).clocks = s.clocks := rfl
@[simp] theorem State.withFabric_engines (s : State) (v : Fabric) : ({ s with fabric := v } : State).engines = s.engines := rfl
@[simp] theorem State.withFabric_slabs (s : State) (v : Fabric) : ({ s with fabric := v } : State).slabs = s.slabs := rfl
@[simp] theorem State.withFabric_rings (s : State) (v : Fabric) : ({ s with fabric := v } : State).rings = s.rings := rfl
@[simp] theorem State.withFabric_plots (s : State) (v : Fabric) : ({ s with fabric := v } : State).plots = s.plots := rfl
@[simp] theorem State.withFabric_stash (s : State) (v : Fabric) : ({ s with fabric := v } : State).stash = s.stash := rfl
@[simp] theorem State.withFabric_matJobs (s : State) (v : Fabric) : ({ s with fabric := v } : State).matJobs = s.matJobs := rfl
@[simp] theorem State.withFabric_vecJobs (s : State) (v : Fabric) : ({ s with fabric := v } : State).vecJobs = s.vecJobs := rfl
@[simp] theorem State.withFabric_fabric (s : State) (v : Fabric) : ({ s with fabric := v } : State).fabric = v := rfl
@[simp] theorem State.withFabric_ports (s : State) (v : Fabric) : ({ s with fabric := v } : State).ports = s.ports := rfl
@[simp] theorem State.withFabric_puts (s : State) (v : Fabric) : ({ s with fabric := v } : State).puts = s.puts := rfl
@[simp] theorem State.withFabric_tags (s : State) (v : Fabric) : ({ s with fabric := v } : State).tags = s.tags := rfl
@[simp] theorem State.withFabric_mgr (s : State) (v : Fabric) : ({ s with fabric := v } : State).mgr = s.mgr := rfl
@[simp] theorem State.withFabric_mac (s : State) (v : Fabric) : ({ s with fabric := v } : State).mac = s.mac := rfl
@[simp] theorem State.withFabric_pcie (s : State) (v : Fabric) : ({ s with fabric := v } : State).pcie = s.pcie := rfl
@[simp] theorem State.withFabric_sec (s : State) (v : Fabric) : ({ s with fabric := v } : State).sec = s.sec := rfl
@[simp] theorem State.withFabric_cores (s : State) (v : Fabric) : ({ s with fabric := v } : State).cores = s.cores := rfl
@[simp] theorem State.withFabric_power (s : State) (v : Fabric) : ({ s with fabric := v } : State).power = s.power := rfl
@[simp] theorem State.withFabric_faults (s : State) (v : Fabric) : ({ s with fabric := v } : State).faults = s.faults := rfl
@[simp] theorem State.withFabric_maint (s : State) (v : Fabric) : ({ s with fabric := v } : State).maint = s.maint := rfl
@[simp] theorem State.withFabric_glob (s : State) (v : Fabric) : ({ s with fabric := v } : State).glob = s.glob := rfl
@[simp] theorem State.withPorts_pending (s : State) (v : Tab Port) : ({ s with ports := v } : State).pending = s.pending := rfl
@[simp] theorem State.withPorts_draws (s : State) (v : Tab Port) : ({ s with ports := v } : State).draws = s.draws := rfl
@[simp] theorem State.withPorts_out (s : State) (v : Tab Port) : ({ s with ports := v } : State).out = s.out := rfl
@[simp] theorem State.withPorts_regs (s : State) (v : Tab Port) : ({ s with ports := v } : State).regs = s.regs := rfl
@[simp] theorem State.withPorts_hbm (s : State) (v : Tab Port) : ({ s with ports := v } : State).hbm = s.hbm := rfl
@[simp] theorem State.withPorts_host (s : State) (v : Tab Port) : ({ s with ports := v } : State).host = s.host := rfl
@[simp] theorem State.withPorts_pkg (s : State) (v : Tab Port) : ({ s with ports := v } : State).pkg = s.pkg := rfl
@[simp] theorem State.withPorts_flash (s : State) (v : Tab Port) : ({ s with ports := v } : State).flash = s.flash := rfl
@[simp] theorem State.withPorts_clocks (s : State) (v : Tab Port) : ({ s with ports := v } : State).clocks = s.clocks := rfl
@[simp] theorem State.withPorts_engines (s : State) (v : Tab Port) : ({ s with ports := v } : State).engines = s.engines := rfl
@[simp] theorem State.withPorts_slabs (s : State) (v : Tab Port) : ({ s with ports := v } : State).slabs = s.slabs := rfl
@[simp] theorem State.withPorts_rings (s : State) (v : Tab Port) : ({ s with ports := v } : State).rings = s.rings := rfl
@[simp] theorem State.withPorts_plots (s : State) (v : Tab Port) : ({ s with ports := v } : State).plots = s.plots := rfl
@[simp] theorem State.withPorts_stash (s : State) (v : Tab Port) : ({ s with ports := v } : State).stash = s.stash := rfl
@[simp] theorem State.withPorts_matJobs (s : State) (v : Tab Port) : ({ s with ports := v } : State).matJobs = s.matJobs := rfl
@[simp] theorem State.withPorts_vecJobs (s : State) (v : Tab Port) : ({ s with ports := v } : State).vecJobs = s.vecJobs := rfl
@[simp] theorem State.withPorts_fabric (s : State) (v : Tab Port) : ({ s with ports := v } : State).fabric = s.fabric := rfl
@[simp] theorem State.withPorts_ports (s : State) (v : Tab Port) : ({ s with ports := v } : State).ports = v := rfl
@[simp] theorem State.withPorts_puts (s : State) (v : Tab Port) : ({ s with ports := v } : State).puts = s.puts := rfl
@[simp] theorem State.withPorts_tags (s : State) (v : Tab Port) : ({ s with ports := v } : State).tags = s.tags := rfl
@[simp] theorem State.withPorts_mgr (s : State) (v : Tab Port) : ({ s with ports := v } : State).mgr = s.mgr := rfl
@[simp] theorem State.withPorts_mac (s : State) (v : Tab Port) : ({ s with ports := v } : State).mac = s.mac := rfl
@[simp] theorem State.withPorts_pcie (s : State) (v : Tab Port) : ({ s with ports := v } : State).pcie = s.pcie := rfl
@[simp] theorem State.withPorts_sec (s : State) (v : Tab Port) : ({ s with ports := v } : State).sec = s.sec := rfl
@[simp] theorem State.withPorts_cores (s : State) (v : Tab Port) : ({ s with ports := v } : State).cores = s.cores := rfl
@[simp] theorem State.withPorts_power (s : State) (v : Tab Port) : ({ s with ports := v } : State).power = s.power := rfl
@[simp] theorem State.withPorts_faults (s : State) (v : Tab Port) : ({ s with ports := v } : State).faults = s.faults := rfl
@[simp] theorem State.withPorts_maint (s : State) (v : Tab Port) : ({ s with ports := v } : State).maint = s.maint := rfl
@[simp] theorem State.withPorts_glob (s : State) (v : Tab Port) : ({ s with ports := v } : State).glob = s.glob := rfl
@[simp] theorem State.withPuts_pending (s : State) (v : List Put) : ({ s with puts := v } : State).pending = s.pending := rfl
@[simp] theorem State.withPuts_draws (s : State) (v : List Put) : ({ s with puts := v } : State).draws = s.draws := rfl
@[simp] theorem State.withPuts_out (s : State) (v : List Put) : ({ s with puts := v } : State).out = s.out := rfl
@[simp] theorem State.withPuts_regs (s : State) (v : List Put) : ({ s with puts := v } : State).regs = s.regs := rfl
@[simp] theorem State.withPuts_hbm (s : State) (v : List Put) : ({ s with puts := v } : State).hbm = s.hbm := rfl
@[simp] theorem State.withPuts_host (s : State) (v : List Put) : ({ s with puts := v } : State).host = s.host := rfl
@[simp] theorem State.withPuts_pkg (s : State) (v : List Put) : ({ s with puts := v } : State).pkg = s.pkg := rfl
@[simp] theorem State.withPuts_flash (s : State) (v : List Put) : ({ s with puts := v } : State).flash = s.flash := rfl
@[simp] theorem State.withPuts_clocks (s : State) (v : List Put) : ({ s with puts := v } : State).clocks = s.clocks := rfl
@[simp] theorem State.withPuts_engines (s : State) (v : List Put) : ({ s with puts := v } : State).engines = s.engines := rfl
@[simp] theorem State.withPuts_slabs (s : State) (v : List Put) : ({ s with puts := v } : State).slabs = s.slabs := rfl
@[simp] theorem State.withPuts_rings (s : State) (v : List Put) : ({ s with puts := v } : State).rings = s.rings := rfl
@[simp] theorem State.withPuts_plots (s : State) (v : List Put) : ({ s with puts := v } : State).plots = s.plots := rfl
@[simp] theorem State.withPuts_stash (s : State) (v : List Put) : ({ s with puts := v } : State).stash = s.stash := rfl
@[simp] theorem State.withPuts_matJobs (s : State) (v : List Put) : ({ s with puts := v } : State).matJobs = s.matJobs := rfl
@[simp] theorem State.withPuts_vecJobs (s : State) (v : List Put) : ({ s with puts := v } : State).vecJobs = s.vecJobs := rfl
@[simp] theorem State.withPuts_fabric (s : State) (v : List Put) : ({ s with puts := v } : State).fabric = s.fabric := rfl
@[simp] theorem State.withPuts_ports (s : State) (v : List Put) : ({ s with puts := v } : State).ports = s.ports := rfl
@[simp] theorem State.withPuts_puts (s : State) (v : List Put) : ({ s with puts := v } : State).puts = v := rfl
@[simp] theorem State.withPuts_tags (s : State) (v : List Put) : ({ s with puts := v } : State).tags = s.tags := rfl
@[simp] theorem State.withPuts_mgr (s : State) (v : List Put) : ({ s with puts := v } : State).mgr = s.mgr := rfl
@[simp] theorem State.withPuts_mac (s : State) (v : List Put) : ({ s with puts := v } : State).mac = s.mac := rfl
@[simp] theorem State.withPuts_pcie (s : State) (v : List Put) : ({ s with puts := v } : State).pcie = s.pcie := rfl
@[simp] theorem State.withPuts_sec (s : State) (v : List Put) : ({ s with puts := v } : State).sec = s.sec := rfl
@[simp] theorem State.withPuts_cores (s : State) (v : List Put) : ({ s with puts := v } : State).cores = s.cores := rfl
@[simp] theorem State.withPuts_power (s : State) (v : List Put) : ({ s with puts := v } : State).power = s.power := rfl
@[simp] theorem State.withPuts_faults (s : State) (v : List Put) : ({ s with puts := v } : State).faults = s.faults := rfl
@[simp] theorem State.withPuts_maint (s : State) (v : List Put) : ({ s with puts := v } : State).maint = s.maint := rfl
@[simp] theorem State.withPuts_glob (s : State) (v : List Put) : ({ s with puts := v } : State).glob = s.glob := rfl
@[simp] theorem State.withTags_pending (s : State) (v : Tags) : ({ s with tags := v } : State).pending = s.pending := rfl
@[simp] theorem State.withTags_draws (s : State) (v : Tags) : ({ s with tags := v } : State).draws = s.draws := rfl
@[simp] theorem State.withTags_out (s : State) (v : Tags) : ({ s with tags := v } : State).out = s.out := rfl
@[simp] theorem State.withTags_regs (s : State) (v : Tags) : ({ s with tags := v } : State).regs = s.regs := rfl
@[simp] theorem State.withTags_hbm (s : State) (v : Tags) : ({ s with tags := v } : State).hbm = s.hbm := rfl
@[simp] theorem State.withTags_host (s : State) (v : Tags) : ({ s with tags := v } : State).host = s.host := rfl
@[simp] theorem State.withTags_pkg (s : State) (v : Tags) : ({ s with tags := v } : State).pkg = s.pkg := rfl
@[simp] theorem State.withTags_flash (s : State) (v : Tags) : ({ s with tags := v } : State).flash = s.flash := rfl
@[simp] theorem State.withTags_clocks (s : State) (v : Tags) : ({ s with tags := v } : State).clocks = s.clocks := rfl
@[simp] theorem State.withTags_engines (s : State) (v : Tags) : ({ s with tags := v } : State).engines = s.engines := rfl
@[simp] theorem State.withTags_slabs (s : State) (v : Tags) : ({ s with tags := v } : State).slabs = s.slabs := rfl
@[simp] theorem State.withTags_rings (s : State) (v : Tags) : ({ s with tags := v } : State).rings = s.rings := rfl
@[simp] theorem State.withTags_plots (s : State) (v : Tags) : ({ s with tags := v } : State).plots = s.plots := rfl
@[simp] theorem State.withTags_stash (s : State) (v : Tags) : ({ s with tags := v } : State).stash = s.stash := rfl
@[simp] theorem State.withTags_matJobs (s : State) (v : Tags) : ({ s with tags := v } : State).matJobs = s.matJobs := rfl
@[simp] theorem State.withTags_vecJobs (s : State) (v : Tags) : ({ s with tags := v } : State).vecJobs = s.vecJobs := rfl
@[simp] theorem State.withTags_fabric (s : State) (v : Tags) : ({ s with tags := v } : State).fabric = s.fabric := rfl
@[simp] theorem State.withTags_ports (s : State) (v : Tags) : ({ s with tags := v } : State).ports = s.ports := rfl
@[simp] theorem State.withTags_puts (s : State) (v : Tags) : ({ s with tags := v } : State).puts = s.puts := rfl
@[simp] theorem State.withTags_tags (s : State) (v : Tags) : ({ s with tags := v } : State).tags = v := rfl
@[simp] theorem State.withTags_mgr (s : State) (v : Tags) : ({ s with tags := v } : State).mgr = s.mgr := rfl
@[simp] theorem State.withTags_mac (s : State) (v : Tags) : ({ s with tags := v } : State).mac = s.mac := rfl
@[simp] theorem State.withTags_pcie (s : State) (v : Tags) : ({ s with tags := v } : State).pcie = s.pcie := rfl
@[simp] theorem State.withTags_sec (s : State) (v : Tags) : ({ s with tags := v } : State).sec = s.sec := rfl
@[simp] theorem State.withTags_cores (s : State) (v : Tags) : ({ s with tags := v } : State).cores = s.cores := rfl
@[simp] theorem State.withTags_power (s : State) (v : Tags) : ({ s with tags := v } : State).power = s.power := rfl
@[simp] theorem State.withTags_faults (s : State) (v : Tags) : ({ s with tags := v } : State).faults = s.faults := rfl
@[simp] theorem State.withTags_maint (s : State) (v : Tags) : ({ s with tags := v } : State).maint = s.maint := rfl
@[simp] theorem State.withTags_glob (s : State) (v : Tags) : ({ s with tags := v } : State).glob = s.glob := rfl
@[simp] theorem State.withMgr_pending (s : State) (v : Mgr) : ({ s with mgr := v } : State).pending = s.pending := rfl
@[simp] theorem State.withMgr_draws (s : State) (v : Mgr) : ({ s with mgr := v } : State).draws = s.draws := rfl
@[simp] theorem State.withMgr_out (s : State) (v : Mgr) : ({ s with mgr := v } : State).out = s.out := rfl
@[simp] theorem State.withMgr_regs (s : State) (v : Mgr) : ({ s with mgr := v } : State).regs = s.regs := rfl
@[simp] theorem State.withMgr_hbm (s : State) (v : Mgr) : ({ s with mgr := v } : State).hbm = s.hbm := rfl
@[simp] theorem State.withMgr_host (s : State) (v : Mgr) : ({ s with mgr := v } : State).host = s.host := rfl
@[simp] theorem State.withMgr_pkg (s : State) (v : Mgr) : ({ s with mgr := v } : State).pkg = s.pkg := rfl
@[simp] theorem State.withMgr_flash (s : State) (v : Mgr) : ({ s with mgr := v } : State).flash = s.flash := rfl
@[simp] theorem State.withMgr_clocks (s : State) (v : Mgr) : ({ s with mgr := v } : State).clocks = s.clocks := rfl
@[simp] theorem State.withMgr_engines (s : State) (v : Mgr) : ({ s with mgr := v } : State).engines = s.engines := rfl
@[simp] theorem State.withMgr_slabs (s : State) (v : Mgr) : ({ s with mgr := v } : State).slabs = s.slabs := rfl
@[simp] theorem State.withMgr_rings (s : State) (v : Mgr) : ({ s with mgr := v } : State).rings = s.rings := rfl
@[simp] theorem State.withMgr_plots (s : State) (v : Mgr) : ({ s with mgr := v } : State).plots = s.plots := rfl
@[simp] theorem State.withMgr_stash (s : State) (v : Mgr) : ({ s with mgr := v } : State).stash = s.stash := rfl
@[simp] theorem State.withMgr_matJobs (s : State) (v : Mgr) : ({ s with mgr := v } : State).matJobs = s.matJobs := rfl
@[simp] theorem State.withMgr_vecJobs (s : State) (v : Mgr) : ({ s with mgr := v } : State).vecJobs = s.vecJobs := rfl
@[simp] theorem State.withMgr_fabric (s : State) (v : Mgr) : ({ s with mgr := v } : State).fabric = s.fabric := rfl
@[simp] theorem State.withMgr_ports (s : State) (v : Mgr) : ({ s with mgr := v } : State).ports = s.ports := rfl
@[simp] theorem State.withMgr_puts (s : State) (v : Mgr) : ({ s with mgr := v } : State).puts = s.puts := rfl
@[simp] theorem State.withMgr_tags (s : State) (v : Mgr) : ({ s with mgr := v } : State).tags = s.tags := rfl
@[simp] theorem State.withMgr_mgr (s : State) (v : Mgr) : ({ s with mgr := v } : State).mgr = v := rfl
@[simp] theorem State.withMgr_mac (s : State) (v : Mgr) : ({ s with mgr := v } : State).mac = s.mac := rfl
@[simp] theorem State.withMgr_pcie (s : State) (v : Mgr) : ({ s with mgr := v } : State).pcie = s.pcie := rfl
@[simp] theorem State.withMgr_sec (s : State) (v : Mgr) : ({ s with mgr := v } : State).sec = s.sec := rfl
@[simp] theorem State.withMgr_cores (s : State) (v : Mgr) : ({ s with mgr := v } : State).cores = s.cores := rfl
@[simp] theorem State.withMgr_power (s : State) (v : Mgr) : ({ s with mgr := v } : State).power = s.power := rfl
@[simp] theorem State.withMgr_faults (s : State) (v : Mgr) : ({ s with mgr := v } : State).faults = s.faults := rfl
@[simp] theorem State.withMgr_maint (s : State) (v : Mgr) : ({ s with mgr := v } : State).maint = s.maint := rfl
@[simp] theorem State.withMgr_glob (s : State) (v : Mgr) : ({ s with mgr := v } : State).glob = s.glob := rfl
@[simp] theorem State.withMac_pending (s : State) (v : Mac) : ({ s with mac := v } : State).pending = s.pending := rfl
@[simp] theorem State.withMac_draws (s : State) (v : Mac) : ({ s with mac := v } : State).draws = s.draws := rfl
@[simp] theorem State.withMac_out (s : State) (v : Mac) : ({ s with mac := v } : State).out = s.out := rfl
@[simp] theorem State.withMac_regs (s : State) (v : Mac) : ({ s with mac := v } : State).regs = s.regs := rfl
@[simp] theorem State.withMac_hbm (s : State) (v : Mac) : ({ s with mac := v } : State).hbm = s.hbm := rfl
@[simp] theorem State.withMac_host (s : State) (v : Mac) : ({ s with mac := v } : State).host = s.host := rfl
@[simp] theorem State.withMac_pkg (s : State) (v : Mac) : ({ s with mac := v } : State).pkg = s.pkg := rfl
@[simp] theorem State.withMac_flash (s : State) (v : Mac) : ({ s with mac := v } : State).flash = s.flash := rfl
@[simp] theorem State.withMac_clocks (s : State) (v : Mac) : ({ s with mac := v } : State).clocks = s.clocks := rfl
@[simp] theorem State.withMac_engines (s : State) (v : Mac) : ({ s with mac := v } : State).engines = s.engines := rfl
@[simp] theorem State.withMac_slabs (s : State) (v : Mac) : ({ s with mac := v } : State).slabs = s.slabs := rfl
@[simp] theorem State.withMac_rings (s : State) (v : Mac) : ({ s with mac := v } : State).rings = s.rings := rfl
@[simp] theorem State.withMac_plots (s : State) (v : Mac) : ({ s with mac := v } : State).plots = s.plots := rfl
@[simp] theorem State.withMac_stash (s : State) (v : Mac) : ({ s with mac := v } : State).stash = s.stash := rfl
@[simp] theorem State.withMac_matJobs (s : State) (v : Mac) : ({ s with mac := v } : State).matJobs = s.matJobs := rfl
@[simp] theorem State.withMac_vecJobs (s : State) (v : Mac) : ({ s with mac := v } : State).vecJobs = s.vecJobs := rfl
@[simp] theorem State.withMac_fabric (s : State) (v : Mac) : ({ s with mac := v } : State).fabric = s.fabric := rfl
@[simp] theorem State.withMac_ports (s : State) (v : Mac) : ({ s with mac := v } : State).ports = s.ports := rfl
@[simp] theorem State.withMac_puts (s : State) (v : Mac) : ({ s with mac := v } : State).puts = s.puts := rfl
@[simp] theorem State.withMac_tags (s : State) (v : Mac) : ({ s with mac := v } : State).tags = s.tags := rfl
@[simp] theorem State.withMac_mgr (s : State) (v : Mac) : ({ s with mac := v } : State).mgr = s.mgr := rfl
@[simp] theorem State.withMac_mac (s : State) (v : Mac) : ({ s with mac := v } : State).mac = v := rfl
@[simp] theorem State.withMac_pcie (s : State) (v : Mac) : ({ s with mac := v } : State).pcie = s.pcie := rfl
@[simp] theorem State.withMac_sec (s : State) (v : Mac) : ({ s with mac := v } : State).sec = s.sec := rfl
@[simp] theorem State.withMac_cores (s : State) (v : Mac) : ({ s with mac := v } : State).cores = s.cores := rfl
@[simp] theorem State.withMac_power (s : State) (v : Mac) : ({ s with mac := v } : State).power = s.power := rfl
@[simp] theorem State.withMac_faults (s : State) (v : Mac) : ({ s with mac := v } : State).faults = s.faults := rfl
@[simp] theorem State.withMac_maint (s : State) (v : Mac) : ({ s with mac := v } : State).maint = s.maint := rfl
@[simp] theorem State.withMac_glob (s : State) (v : Mac) : ({ s with mac := v } : State).glob = s.glob := rfl
@[simp] theorem State.withPcie_pending (s : State) (v : Pcie) : ({ s with pcie := v } : State).pending = s.pending := rfl
@[simp] theorem State.withPcie_draws (s : State) (v : Pcie) : ({ s with pcie := v } : State).draws = s.draws := rfl
@[simp] theorem State.withPcie_out (s : State) (v : Pcie) : ({ s with pcie := v } : State).out = s.out := rfl
@[simp] theorem State.withPcie_regs (s : State) (v : Pcie) : ({ s with pcie := v } : State).regs = s.regs := rfl
@[simp] theorem State.withPcie_hbm (s : State) (v : Pcie) : ({ s with pcie := v } : State).hbm = s.hbm := rfl
@[simp] theorem State.withPcie_host (s : State) (v : Pcie) : ({ s with pcie := v } : State).host = s.host := rfl
@[simp] theorem State.withPcie_pkg (s : State) (v : Pcie) : ({ s with pcie := v } : State).pkg = s.pkg := rfl
@[simp] theorem State.withPcie_flash (s : State) (v : Pcie) : ({ s with pcie := v } : State).flash = s.flash := rfl
@[simp] theorem State.withPcie_clocks (s : State) (v : Pcie) : ({ s with pcie := v } : State).clocks = s.clocks := rfl
@[simp] theorem State.withPcie_engines (s : State) (v : Pcie) : ({ s with pcie := v } : State).engines = s.engines := rfl
@[simp] theorem State.withPcie_slabs (s : State) (v : Pcie) : ({ s with pcie := v } : State).slabs = s.slabs := rfl
@[simp] theorem State.withPcie_rings (s : State) (v : Pcie) : ({ s with pcie := v } : State).rings = s.rings := rfl
@[simp] theorem State.withPcie_plots (s : State) (v : Pcie) : ({ s with pcie := v } : State).plots = s.plots := rfl
@[simp] theorem State.withPcie_stash (s : State) (v : Pcie) : ({ s with pcie := v } : State).stash = s.stash := rfl
@[simp] theorem State.withPcie_matJobs (s : State) (v : Pcie) : ({ s with pcie := v } : State).matJobs = s.matJobs := rfl
@[simp] theorem State.withPcie_vecJobs (s : State) (v : Pcie) : ({ s with pcie := v } : State).vecJobs = s.vecJobs := rfl
@[simp] theorem State.withPcie_fabric (s : State) (v : Pcie) : ({ s with pcie := v } : State).fabric = s.fabric := rfl
@[simp] theorem State.withPcie_ports (s : State) (v : Pcie) : ({ s with pcie := v } : State).ports = s.ports := rfl
@[simp] theorem State.withPcie_puts (s : State) (v : Pcie) : ({ s with pcie := v } : State).puts = s.puts := rfl
@[simp] theorem State.withPcie_tags (s : State) (v : Pcie) : ({ s with pcie := v } : State).tags = s.tags := rfl
@[simp] theorem State.withPcie_mgr (s : State) (v : Pcie) : ({ s with pcie := v } : State).mgr = s.mgr := rfl
@[simp] theorem State.withPcie_mac (s : State) (v : Pcie) : ({ s with pcie := v } : State).mac = s.mac := rfl
@[simp] theorem State.withPcie_pcie (s : State) (v : Pcie) : ({ s with pcie := v } : State).pcie = v := rfl
@[simp] theorem State.withPcie_sec (s : State) (v : Pcie) : ({ s with pcie := v } : State).sec = s.sec := rfl
@[simp] theorem State.withPcie_cores (s : State) (v : Pcie) : ({ s with pcie := v } : State).cores = s.cores := rfl
@[simp] theorem State.withPcie_power (s : State) (v : Pcie) : ({ s with pcie := v } : State).power = s.power := rfl
@[simp] theorem State.withPcie_faults (s : State) (v : Pcie) : ({ s with pcie := v } : State).faults = s.faults := rfl
@[simp] theorem State.withPcie_maint (s : State) (v : Pcie) : ({ s with pcie := v } : State).maint = s.maint := rfl
@[simp] theorem State.withPcie_glob (s : State) (v : Pcie) : ({ s with pcie := v } : State).glob = s.glob := rfl
@[simp] theorem State.withSec_pending (s : State) (v : Security) : ({ s with sec := v } : State).pending = s.pending := rfl
@[simp] theorem State.withSec_draws (s : State) (v : Security) : ({ s with sec := v } : State).draws = s.draws := rfl
@[simp] theorem State.withSec_out (s : State) (v : Security) : ({ s with sec := v } : State).out = s.out := rfl
@[simp] theorem State.withSec_regs (s : State) (v : Security) : ({ s with sec := v } : State).regs = s.regs := rfl
@[simp] theorem State.withSec_hbm (s : State) (v : Security) : ({ s with sec := v } : State).hbm = s.hbm := rfl
@[simp] theorem State.withSec_host (s : State) (v : Security) : ({ s with sec := v } : State).host = s.host := rfl
@[simp] theorem State.withSec_pkg (s : State) (v : Security) : ({ s with sec := v } : State).pkg = s.pkg := rfl
@[simp] theorem State.withSec_flash (s : State) (v : Security) : ({ s with sec := v } : State).flash = s.flash := rfl
@[simp] theorem State.withSec_clocks (s : State) (v : Security) : ({ s with sec := v } : State).clocks = s.clocks := rfl
@[simp] theorem State.withSec_engines (s : State) (v : Security) : ({ s with sec := v } : State).engines = s.engines := rfl
@[simp] theorem State.withSec_slabs (s : State) (v : Security) : ({ s with sec := v } : State).slabs = s.slabs := rfl
@[simp] theorem State.withSec_rings (s : State) (v : Security) : ({ s with sec := v } : State).rings = s.rings := rfl
@[simp] theorem State.withSec_plots (s : State) (v : Security) : ({ s with sec := v } : State).plots = s.plots := rfl
@[simp] theorem State.withSec_stash (s : State) (v : Security) : ({ s with sec := v } : State).stash = s.stash := rfl
@[simp] theorem State.withSec_matJobs (s : State) (v : Security) : ({ s with sec := v } : State).matJobs = s.matJobs := rfl
@[simp] theorem State.withSec_vecJobs (s : State) (v : Security) : ({ s with sec := v } : State).vecJobs = s.vecJobs := rfl
@[simp] theorem State.withSec_fabric (s : State) (v : Security) : ({ s with sec := v } : State).fabric = s.fabric := rfl
@[simp] theorem State.withSec_ports (s : State) (v : Security) : ({ s with sec := v } : State).ports = s.ports := rfl
@[simp] theorem State.withSec_puts (s : State) (v : Security) : ({ s with sec := v } : State).puts = s.puts := rfl
@[simp] theorem State.withSec_tags (s : State) (v : Security) : ({ s with sec := v } : State).tags = s.tags := rfl
@[simp] theorem State.withSec_mgr (s : State) (v : Security) : ({ s with sec := v } : State).mgr = s.mgr := rfl
@[simp] theorem State.withSec_mac (s : State) (v : Security) : ({ s with sec := v } : State).mac = s.mac := rfl
@[simp] theorem State.withSec_pcie (s : State) (v : Security) : ({ s with sec := v } : State).pcie = s.pcie := rfl
@[simp] theorem State.withSec_sec (s : State) (v : Security) : ({ s with sec := v } : State).sec = v := rfl
@[simp] theorem State.withSec_cores (s : State) (v : Security) : ({ s with sec := v } : State).cores = s.cores := rfl
@[simp] theorem State.withSec_power (s : State) (v : Security) : ({ s with sec := v } : State).power = s.power := rfl
@[simp] theorem State.withSec_faults (s : State) (v : Security) : ({ s with sec := v } : State).faults = s.faults := rfl
@[simp] theorem State.withSec_maint (s : State) (v : Security) : ({ s with sec := v } : State).maint = s.maint := rfl
@[simp] theorem State.withSec_glob (s : State) (v : Security) : ({ s with sec := v } : State).glob = s.glob := rfl
@[simp] theorem State.withCores_pending (s : State) (v : Tab Core) : ({ s with cores := v } : State).pending = s.pending := rfl
@[simp] theorem State.withCores_draws (s : State) (v : Tab Core) : ({ s with cores := v } : State).draws = s.draws := rfl
@[simp] theorem State.withCores_out (s : State) (v : Tab Core) : ({ s with cores := v } : State).out = s.out := rfl
@[simp] theorem State.withCores_regs (s : State) (v : Tab Core) : ({ s with cores := v } : State).regs = s.regs := rfl
@[simp] theorem State.withCores_hbm (s : State) (v : Tab Core) : ({ s with cores := v } : State).hbm = s.hbm := rfl
@[simp] theorem State.withCores_host (s : State) (v : Tab Core) : ({ s with cores := v } : State).host = s.host := rfl
@[simp] theorem State.withCores_pkg (s : State) (v : Tab Core) : ({ s with cores := v } : State).pkg = s.pkg := rfl
@[simp] theorem State.withCores_flash (s : State) (v : Tab Core) : ({ s with cores := v } : State).flash = s.flash := rfl
@[simp] theorem State.withCores_clocks (s : State) (v : Tab Core) : ({ s with cores := v } : State).clocks = s.clocks := rfl
@[simp] theorem State.withCores_engines (s : State) (v : Tab Core) : ({ s with cores := v } : State).engines = s.engines := rfl
@[simp] theorem State.withCores_slabs (s : State) (v : Tab Core) : ({ s with cores := v } : State).slabs = s.slabs := rfl
@[simp] theorem State.withCores_rings (s : State) (v : Tab Core) : ({ s with cores := v } : State).rings = s.rings := rfl
@[simp] theorem State.withCores_plots (s : State) (v : Tab Core) : ({ s with cores := v } : State).plots = s.plots := rfl
@[simp] theorem State.withCores_stash (s : State) (v : Tab Core) : ({ s with cores := v } : State).stash = s.stash := rfl
@[simp] theorem State.withCores_matJobs (s : State) (v : Tab Core) : ({ s with cores := v } : State).matJobs = s.matJobs := rfl
@[simp] theorem State.withCores_vecJobs (s : State) (v : Tab Core) : ({ s with cores := v } : State).vecJobs = s.vecJobs := rfl
@[simp] theorem State.withCores_fabric (s : State) (v : Tab Core) : ({ s with cores := v } : State).fabric = s.fabric := rfl
@[simp] theorem State.withCores_ports (s : State) (v : Tab Core) : ({ s with cores := v } : State).ports = s.ports := rfl
@[simp] theorem State.withCores_puts (s : State) (v : Tab Core) : ({ s with cores := v } : State).puts = s.puts := rfl
@[simp] theorem State.withCores_tags (s : State) (v : Tab Core) : ({ s with cores := v } : State).tags = s.tags := rfl
@[simp] theorem State.withCores_mgr (s : State) (v : Tab Core) : ({ s with cores := v } : State).mgr = s.mgr := rfl
@[simp] theorem State.withCores_mac (s : State) (v : Tab Core) : ({ s with cores := v } : State).mac = s.mac := rfl
@[simp] theorem State.withCores_pcie (s : State) (v : Tab Core) : ({ s with cores := v } : State).pcie = s.pcie := rfl
@[simp] theorem State.withCores_sec (s : State) (v : Tab Core) : ({ s with cores := v } : State).sec = s.sec := rfl
@[simp] theorem State.withCores_cores (s : State) (v : Tab Core) : ({ s with cores := v } : State).cores = v := rfl
@[simp] theorem State.withCores_power (s : State) (v : Tab Core) : ({ s with cores := v } : State).power = s.power := rfl
@[simp] theorem State.withCores_faults (s : State) (v : Tab Core) : ({ s with cores := v } : State).faults = s.faults := rfl
@[simp] theorem State.withCores_maint (s : State) (v : Tab Core) : ({ s with cores := v } : State).maint = s.maint := rfl
@[simp] theorem State.withCores_glob (s : State) (v : Tab Core) : ({ s with cores := v } : State).glob = s.glob := rfl
@[simp] theorem State.withPower_pending (s : State) (v : Power) : ({ s with power := v } : State).pending = s.pending := rfl
@[simp] theorem State.withPower_draws (s : State) (v : Power) : ({ s with power := v } : State).draws = s.draws := rfl
@[simp] theorem State.withPower_out (s : State) (v : Power) : ({ s with power := v } : State).out = s.out := rfl
@[simp] theorem State.withPower_regs (s : State) (v : Power) : ({ s with power := v } : State).regs = s.regs := rfl
@[simp] theorem State.withPower_hbm (s : State) (v : Power) : ({ s with power := v } : State).hbm = s.hbm := rfl
@[simp] theorem State.withPower_host (s : State) (v : Power) : ({ s with power := v } : State).host = s.host := rfl
@[simp] theorem State.withPower_pkg (s : State) (v : Power) : ({ s with power := v } : State).pkg = s.pkg := rfl
@[simp] theorem State.withPower_flash (s : State) (v : Power) : ({ s with power := v } : State).flash = s.flash := rfl
@[simp] theorem State.withPower_clocks (s : State) (v : Power) : ({ s with power := v } : State).clocks = s.clocks := rfl
@[simp] theorem State.withPower_engines (s : State) (v : Power) : ({ s with power := v } : State).engines = s.engines := rfl
@[simp] theorem State.withPower_slabs (s : State) (v : Power) : ({ s with power := v } : State).slabs = s.slabs := rfl
@[simp] theorem State.withPower_rings (s : State) (v : Power) : ({ s with power := v } : State).rings = s.rings := rfl
@[simp] theorem State.withPower_plots (s : State) (v : Power) : ({ s with power := v } : State).plots = s.plots := rfl
@[simp] theorem State.withPower_stash (s : State) (v : Power) : ({ s with power := v } : State).stash = s.stash := rfl
@[simp] theorem State.withPower_matJobs (s : State) (v : Power) : ({ s with power := v } : State).matJobs = s.matJobs := rfl
@[simp] theorem State.withPower_vecJobs (s : State) (v : Power) : ({ s with power := v } : State).vecJobs = s.vecJobs := rfl
@[simp] theorem State.withPower_fabric (s : State) (v : Power) : ({ s with power := v } : State).fabric = s.fabric := rfl
@[simp] theorem State.withPower_ports (s : State) (v : Power) : ({ s with power := v } : State).ports = s.ports := rfl
@[simp] theorem State.withPower_puts (s : State) (v : Power) : ({ s with power := v } : State).puts = s.puts := rfl
@[simp] theorem State.withPower_tags (s : State) (v : Power) : ({ s with power := v } : State).tags = s.tags := rfl
@[simp] theorem State.withPower_mgr (s : State) (v : Power) : ({ s with power := v } : State).mgr = s.mgr := rfl
@[simp] theorem State.withPower_mac (s : State) (v : Power) : ({ s with power := v } : State).mac = s.mac := rfl
@[simp] theorem State.withPower_pcie (s : State) (v : Power) : ({ s with power := v } : State).pcie = s.pcie := rfl
@[simp] theorem State.withPower_sec (s : State) (v : Power) : ({ s with power := v } : State).sec = s.sec := rfl
@[simp] theorem State.withPower_cores (s : State) (v : Power) : ({ s with power := v } : State).cores = s.cores := rfl
@[simp] theorem State.withPower_power (s : State) (v : Power) : ({ s with power := v } : State).power = v := rfl
@[simp] theorem State.withPower_faults (s : State) (v : Power) : ({ s with power := v } : State).faults = s.faults := rfl
@[simp] theorem State.withPower_maint (s : State) (v : Power) : ({ s with power := v } : State).maint = s.maint := rfl
@[simp] theorem State.withPower_glob (s : State) (v : Power) : ({ s with power := v } : State).glob = s.glob := rfl
@[simp] theorem State.withFaults_pending (s : State) (v : FaultState) : ({ s with faults := v } : State).pending = s.pending := rfl
@[simp] theorem State.withFaults_draws (s : State) (v : FaultState) : ({ s with faults := v } : State).draws = s.draws := rfl
@[simp] theorem State.withFaults_out (s : State) (v : FaultState) : ({ s with faults := v } : State).out = s.out := rfl
@[simp] theorem State.withFaults_regs (s : State) (v : FaultState) : ({ s with faults := v } : State).regs = s.regs := rfl
@[simp] theorem State.withFaults_hbm (s : State) (v : FaultState) : ({ s with faults := v } : State).hbm = s.hbm := rfl
@[simp] theorem State.withFaults_host (s : State) (v : FaultState) : ({ s with faults := v } : State).host = s.host := rfl
@[simp] theorem State.withFaults_pkg (s : State) (v : FaultState) : ({ s with faults := v } : State).pkg = s.pkg := rfl
@[simp] theorem State.withFaults_flash (s : State) (v : FaultState) : ({ s with faults := v } : State).flash = s.flash := rfl
@[simp] theorem State.withFaults_clocks (s : State) (v : FaultState) : ({ s with faults := v } : State).clocks = s.clocks := rfl
@[simp] theorem State.withFaults_engines (s : State) (v : FaultState) : ({ s with faults := v } : State).engines = s.engines := rfl
@[simp] theorem State.withFaults_slabs (s : State) (v : FaultState) : ({ s with faults := v } : State).slabs = s.slabs := rfl
@[simp] theorem State.withFaults_rings (s : State) (v : FaultState) : ({ s with faults := v } : State).rings = s.rings := rfl
@[simp] theorem State.withFaults_plots (s : State) (v : FaultState) : ({ s with faults := v } : State).plots = s.plots := rfl
@[simp] theorem State.withFaults_stash (s : State) (v : FaultState) : ({ s with faults := v } : State).stash = s.stash := rfl
@[simp] theorem State.withFaults_matJobs (s : State) (v : FaultState) : ({ s with faults := v } : State).matJobs = s.matJobs := rfl
@[simp] theorem State.withFaults_vecJobs (s : State) (v : FaultState) : ({ s with faults := v } : State).vecJobs = s.vecJobs := rfl
@[simp] theorem State.withFaults_fabric (s : State) (v : FaultState) : ({ s with faults := v } : State).fabric = s.fabric := rfl
@[simp] theorem State.withFaults_ports (s : State) (v : FaultState) : ({ s with faults := v } : State).ports = s.ports := rfl
@[simp] theorem State.withFaults_puts (s : State) (v : FaultState) : ({ s with faults := v } : State).puts = s.puts := rfl
@[simp] theorem State.withFaults_tags (s : State) (v : FaultState) : ({ s with faults := v } : State).tags = s.tags := rfl
@[simp] theorem State.withFaults_mgr (s : State) (v : FaultState) : ({ s with faults := v } : State).mgr = s.mgr := rfl
@[simp] theorem State.withFaults_mac (s : State) (v : FaultState) : ({ s with faults := v } : State).mac = s.mac := rfl
@[simp] theorem State.withFaults_pcie (s : State) (v : FaultState) : ({ s with faults := v } : State).pcie = s.pcie := rfl
@[simp] theorem State.withFaults_sec (s : State) (v : FaultState) : ({ s with faults := v } : State).sec = s.sec := rfl
@[simp] theorem State.withFaults_cores (s : State) (v : FaultState) : ({ s with faults := v } : State).cores = s.cores := rfl
@[simp] theorem State.withFaults_power (s : State) (v : FaultState) : ({ s with faults := v } : State).power = s.power := rfl
@[simp] theorem State.withFaults_faults (s : State) (v : FaultState) : ({ s with faults := v } : State).faults = v := rfl
@[simp] theorem State.withFaults_maint (s : State) (v : FaultState) : ({ s with faults := v } : State).maint = s.maint := rfl
@[simp] theorem State.withFaults_glob (s : State) (v : FaultState) : ({ s with faults := v } : State).glob = s.glob := rfl
@[simp] theorem State.withMaint_pending (s : State) (v : Maint) : ({ s with maint := v } : State).pending = s.pending := rfl
@[simp] theorem State.withMaint_draws (s : State) (v : Maint) : ({ s with maint := v } : State).draws = s.draws := rfl
@[simp] theorem State.withMaint_out (s : State) (v : Maint) : ({ s with maint := v } : State).out = s.out := rfl
@[simp] theorem State.withMaint_regs (s : State) (v : Maint) : ({ s with maint := v } : State).regs = s.regs := rfl
@[simp] theorem State.withMaint_hbm (s : State) (v : Maint) : ({ s with maint := v } : State).hbm = s.hbm := rfl
@[simp] theorem State.withMaint_host (s : State) (v : Maint) : ({ s with maint := v } : State).host = s.host := rfl
@[simp] theorem State.withMaint_pkg (s : State) (v : Maint) : ({ s with maint := v } : State).pkg = s.pkg := rfl
@[simp] theorem State.withMaint_flash (s : State) (v : Maint) : ({ s with maint := v } : State).flash = s.flash := rfl
@[simp] theorem State.withMaint_clocks (s : State) (v : Maint) : ({ s with maint := v } : State).clocks = s.clocks := rfl
@[simp] theorem State.withMaint_engines (s : State) (v : Maint) : ({ s with maint := v } : State).engines = s.engines := rfl
@[simp] theorem State.withMaint_slabs (s : State) (v : Maint) : ({ s with maint := v } : State).slabs = s.slabs := rfl
@[simp] theorem State.withMaint_rings (s : State) (v : Maint) : ({ s with maint := v } : State).rings = s.rings := rfl
@[simp] theorem State.withMaint_plots (s : State) (v : Maint) : ({ s with maint := v } : State).plots = s.plots := rfl
@[simp] theorem State.withMaint_stash (s : State) (v : Maint) : ({ s with maint := v } : State).stash = s.stash := rfl
@[simp] theorem State.withMaint_matJobs (s : State) (v : Maint) : ({ s with maint := v } : State).matJobs = s.matJobs := rfl
@[simp] theorem State.withMaint_vecJobs (s : State) (v : Maint) : ({ s with maint := v } : State).vecJobs = s.vecJobs := rfl
@[simp] theorem State.withMaint_fabric (s : State) (v : Maint) : ({ s with maint := v } : State).fabric = s.fabric := rfl
@[simp] theorem State.withMaint_ports (s : State) (v : Maint) : ({ s with maint := v } : State).ports = s.ports := rfl
@[simp] theorem State.withMaint_puts (s : State) (v : Maint) : ({ s with maint := v } : State).puts = s.puts := rfl
@[simp] theorem State.withMaint_tags (s : State) (v : Maint) : ({ s with maint := v } : State).tags = s.tags := rfl
@[simp] theorem State.withMaint_mgr (s : State) (v : Maint) : ({ s with maint := v } : State).mgr = s.mgr := rfl
@[simp] theorem State.withMaint_mac (s : State) (v : Maint) : ({ s with maint := v } : State).mac = s.mac := rfl
@[simp] theorem State.withMaint_pcie (s : State) (v : Maint) : ({ s with maint := v } : State).pcie = s.pcie := rfl
@[simp] theorem State.withMaint_sec (s : State) (v : Maint) : ({ s with maint := v } : State).sec = s.sec := rfl
@[simp] theorem State.withMaint_cores (s : State) (v : Maint) : ({ s with maint := v } : State).cores = s.cores := rfl
@[simp] theorem State.withMaint_power (s : State) (v : Maint) : ({ s with maint := v } : State).power = s.power := rfl
@[simp] theorem State.withMaint_faults (s : State) (v : Maint) : ({ s with maint := v } : State).faults = s.faults := rfl
@[simp] theorem State.withMaint_maint (s : State) (v : Maint) : ({ s with maint := v } : State).maint = v := rfl
@[simp] theorem State.withMaint_glob (s : State) (v : Maint) : ({ s with maint := v } : State).glob = s.glob := rfl
@[simp] theorem State.withGlob_pending (s : State) (v : Global) : ({ s with glob := v } : State).pending = s.pending := rfl
@[simp] theorem State.withGlob_draws (s : State) (v : Global) : ({ s with glob := v } : State).draws = s.draws := rfl
@[simp] theorem State.withGlob_out (s : State) (v : Global) : ({ s with glob := v } : State).out = s.out := rfl
@[simp] theorem State.withGlob_regs (s : State) (v : Global) : ({ s with glob := v } : State).regs = s.regs := rfl
@[simp] theorem State.withGlob_hbm (s : State) (v : Global) : ({ s with glob := v } : State).hbm = s.hbm := rfl
@[simp] theorem State.withGlob_host (s : State) (v : Global) : ({ s with glob := v } : State).host = s.host := rfl
@[simp] theorem State.withGlob_pkg (s : State) (v : Global) : ({ s with glob := v } : State).pkg = s.pkg := rfl
@[simp] theorem State.withGlob_flash (s : State) (v : Global) : ({ s with glob := v } : State).flash = s.flash := rfl
@[simp] theorem State.withGlob_clocks (s : State) (v : Global) : ({ s with glob := v } : State).clocks = s.clocks := rfl
@[simp] theorem State.withGlob_engines (s : State) (v : Global) : ({ s with glob := v } : State).engines = s.engines := rfl
@[simp] theorem State.withGlob_slabs (s : State) (v : Global) : ({ s with glob := v } : State).slabs = s.slabs := rfl
@[simp] theorem State.withGlob_rings (s : State) (v : Global) : ({ s with glob := v } : State).rings = s.rings := rfl
@[simp] theorem State.withGlob_plots (s : State) (v : Global) : ({ s with glob := v } : State).plots = s.plots := rfl
@[simp] theorem State.withGlob_stash (s : State) (v : Global) : ({ s with glob := v } : State).stash = s.stash := rfl
@[simp] theorem State.withGlob_matJobs (s : State) (v : Global) : ({ s with glob := v } : State).matJobs = s.matJobs := rfl
@[simp] theorem State.withGlob_vecJobs (s : State) (v : Global) : ({ s with glob := v } : State).vecJobs = s.vecJobs := rfl
@[simp] theorem State.withGlob_fabric (s : State) (v : Global) : ({ s with glob := v } : State).fabric = s.fabric := rfl
@[simp] theorem State.withGlob_ports (s : State) (v : Global) : ({ s with glob := v } : State).ports = s.ports := rfl
@[simp] theorem State.withGlob_puts (s : State) (v : Global) : ({ s with glob := v } : State).puts = s.puts := rfl
@[simp] theorem State.withGlob_tags (s : State) (v : Global) : ({ s with glob := v } : State).tags = s.tags := rfl
@[simp] theorem State.withGlob_mgr (s : State) (v : Global) : ({ s with glob := v } : State).mgr = s.mgr := rfl
@[simp] theorem State.withGlob_mac (s : State) (v : Global) : ({ s with glob := v } : State).mac = s.mac := rfl
@[simp] theorem State.withGlob_pcie (s : State) (v : Global) : ({ s with glob := v } : State).pcie = s.pcie := rfl
@[simp] theorem State.withGlob_sec (s : State) (v : Global) : ({ s with glob := v } : State).sec = s.sec := rfl
@[simp] theorem State.withGlob_cores (s : State) (v : Global) : ({ s with glob := v } : State).cores = s.cores := rfl
@[simp] theorem State.withGlob_power (s : State) (v : Global) : ({ s with glob := v } : State).power = s.power := rfl
@[simp] theorem State.withGlob_faults (s : State) (v : Global) : ({ s with glob := v } : State).faults = s.faults := rfl
@[simp] theorem State.withGlob_maint (s : State) (v : Global) : ({ s with glob := v } : State).maint = s.maint := rfl
@[simp] theorem State.withGlob_glob (s : State) (v : Global) : ({ s with glob := v } : State).glob = v := rfl

end Sys2Proof.Machine
end

