-- ==== Sys2Proof/Laws/FrameBase.lean ====
section
/-! SUPPORT. Parts of the state through folds and choices. -/

namespace Sys2Proof.Machine

@[simp] theorem State.foldl_pending {β : Type} (l : List β) (g : State → β → State) (s : State)
    (h : ∀ s b, (g s b).pending = s.pending) : (l.foldl g s).pending = s.pending := by
  induction l generalizing s with
  | nil => rfl
  | cons b l ih => simp only [List.foldl_cons, ih, h]
@[simp] theorem State.ite_pending (p : Prop) [Decidable p] (a b : State) :
    (if p then a else b).pending = if p then a.pending else b.pending := by split <;> rfl
@[simp] theorem State.foldl_draws {β : Type} (l : List β) (g : State → β → State) (s : State)
    (h : ∀ s b, (g s b).draws = s.draws) : (l.foldl g s).draws = s.draws := by
  induction l generalizing s with
  | nil => rfl
  | cons b l ih => simp only [List.foldl_cons, ih, h]
@[simp] theorem State.ite_draws (p : Prop) [Decidable p] (a b : State) :
    (if p then a else b).draws = if p then a.draws else b.draws := by split <;> rfl
@[simp] theorem State.foldl_out {β : Type} (l : List β) (g : State → β → State) (s : State)
    (h : ∀ s b, (g s b).out = s.out) : (l.foldl g s).out = s.out := by
  induction l generalizing s with
  | nil => rfl
  | cons b l ih => simp only [List.foldl_cons, ih, h]
@[simp] theorem State.ite_out (p : Prop) [Decidable p] (a b : State) :
    (if p then a else b).out = if p then a.out else b.out := by split <;> rfl
@[simp] theorem State.foldl_regs {β : Type} (l : List β) (g : State → β → State) (s : State)
    (h : ∀ s b, (g s b).regs = s.regs) : (l.foldl g s).regs = s.regs := by
  induction l generalizing s with
  | nil => rfl
  | cons b l ih => simp only [List.foldl_cons, ih, h]
@[simp] theorem State.ite_regs (p : Prop) [Decidable p] (a b : State) :
    (if p then a else b).regs = if p then a.regs else b.regs := by split <;> rfl
@[simp] theorem State.foldl_hbm {β : Type} (l : List β) (g : State → β → State) (s : State)
    (h : ∀ s b, (g s b).hbm = s.hbm) : (l.foldl g s).hbm = s.hbm := by
  induction l generalizing s with
  | nil => rfl
  | cons b l ih => simp only [List.foldl_cons, ih, h]
@[simp] theorem State.ite_hbm (p : Prop) [Decidable p] (a b : State) :
    (if p then a else b).hbm = if p then a.hbm else b.hbm := by split <;> rfl
@[simp] theorem State.foldl_host {β : Type} (l : List β) (g : State → β → State) (s : State)
    (h : ∀ s b, (g s b).host = s.host) : (l.foldl g s).host = s.host := by
  induction l generalizing s with
  | nil => rfl
  | cons b l ih => simp only [List.foldl_cons, ih, h]
@[simp] theorem State.ite_host (p : Prop) [Decidable p] (a b : State) :
    (if p then a else b).host = if p then a.host else b.host := by split <;> rfl
@[simp] theorem State.foldl_pkg {β : Type} (l : List β) (g : State → β → State) (s : State)
    (h : ∀ s b, (g s b).pkg = s.pkg) : (l.foldl g s).pkg = s.pkg := by
  induction l generalizing s with
  | nil => rfl
  | cons b l ih => simp only [List.foldl_cons, ih, h]
@[simp] theorem State.ite_pkg (p : Prop) [Decidable p] (a b : State) :
    (if p then a else b).pkg = if p then a.pkg else b.pkg := by split <;> rfl
@[simp] theorem State.foldl_flash {β : Type} (l : List β) (g : State → β → State) (s : State)
    (h : ∀ s b, (g s b).flash = s.flash) : (l.foldl g s).flash = s.flash := by
  induction l generalizing s with
  | nil => rfl
  | cons b l ih => simp only [List.foldl_cons, ih, h]
@[simp] theorem State.ite_flash (p : Prop) [Decidable p] (a b : State) :
    (if p then a else b).flash = if p then a.flash else b.flash := by split <;> rfl
@[simp] theorem State.foldl_clocks {β : Type} (l : List β) (g : State → β → State) (s : State)
    (h : ∀ s b, (g s b).clocks = s.clocks) : (l.foldl g s).clocks = s.clocks := by
  induction l generalizing s with
  | nil => rfl
  | cons b l ih => simp only [List.foldl_cons, ih, h]
@[simp] theorem State.ite_clocks (p : Prop) [Decidable p] (a b : State) :
    (if p then a else b).clocks = if p then a.clocks else b.clocks := by split <;> rfl
@[simp] theorem State.foldl_engines {β : Type} (l : List β) (g : State → β → State) (s : State)
    (h : ∀ s b, (g s b).engines = s.engines) : (l.foldl g s).engines = s.engines := by
  induction l generalizing s with
  | nil => rfl
  | cons b l ih => simp only [List.foldl_cons, ih, h]
@[simp] theorem State.ite_engines (p : Prop) [Decidable p] (a b : State) :
    (if p then a else b).engines = if p then a.engines else b.engines := by split <;> rfl
@[simp] theorem State.foldl_slabs {β : Type} (l : List β) (g : State → β → State) (s : State)
    (h : ∀ s b, (g s b).slabs = s.slabs) : (l.foldl g s).slabs = s.slabs := by
  induction l generalizing s with
  | nil => rfl
  | cons b l ih => simp only [List.foldl_cons, ih, h]
@[simp] theorem State.ite_slabs (p : Prop) [Decidable p] (a b : State) :
    (if p then a else b).slabs = if p then a.slabs else b.slabs := by split <;> rfl
@[simp] theorem State.foldl_rings {β : Type} (l : List β) (g : State → β → State) (s : State)
    (h : ∀ s b, (g s b).rings = s.rings) : (l.foldl g s).rings = s.rings := by
  induction l generalizing s with
  | nil => rfl
  | cons b l ih => simp only [List.foldl_cons, ih, h]
@[simp] theorem State.ite_rings (p : Prop) [Decidable p] (a b : State) :
    (if p then a else b).rings = if p then a.rings else b.rings := by split <;> rfl
@[simp] theorem State.foldl_plots {β : Type} (l : List β) (g : State → β → State) (s : State)
    (h : ∀ s b, (g s b).plots = s.plots) : (l.foldl g s).plots = s.plots := by
  induction l generalizing s with
  | nil => rfl
  | cons b l ih => simp only [List.foldl_cons, ih, h]
@[simp] theorem State.ite_plots (p : Prop) [Decidable p] (a b : State) :
    (if p then a else b).plots = if p then a.plots else b.plots := by split <;> rfl
@[simp] theorem State.foldl_stash {β : Type} (l : List β) (g : State → β → State) (s : State)
    (h : ∀ s b, (g s b).stash = s.stash) : (l.foldl g s).stash = s.stash := by
  induction l generalizing s with
  | nil => rfl
  | cons b l ih => simp only [List.foldl_cons, ih, h]
@[simp] theorem State.ite_stash (p : Prop) [Decidable p] (a b : State) :
    (if p then a else b).stash = if p then a.stash else b.stash := by split <;> rfl
@[simp] theorem State.foldl_matJobs {β : Type} (l : List β) (g : State → β → State) (s : State)
    (h : ∀ s b, (g s b).matJobs = s.matJobs) : (l.foldl g s).matJobs = s.matJobs := by
  induction l generalizing s with
  | nil => rfl
  | cons b l ih => simp only [List.foldl_cons, ih, h]
@[simp] theorem State.ite_matJobs (p : Prop) [Decidable p] (a b : State) :
    (if p then a else b).matJobs = if p then a.matJobs else b.matJobs := by split <;> rfl
@[simp] theorem State.foldl_vecJobs {β : Type} (l : List β) (g : State → β → State) (s : State)
    (h : ∀ s b, (g s b).vecJobs = s.vecJobs) : (l.foldl g s).vecJobs = s.vecJobs := by
  induction l generalizing s with
  | nil => rfl
  | cons b l ih => simp only [List.foldl_cons, ih, h]
@[simp] theorem State.ite_vecJobs (p : Prop) [Decidable p] (a b : State) :
    (if p then a else b).vecJobs = if p then a.vecJobs else b.vecJobs := by split <;> rfl
@[simp] theorem State.foldl_fabric {β : Type} (l : List β) (g : State → β → State) (s : State)
    (h : ∀ s b, (g s b).fabric = s.fabric) : (l.foldl g s).fabric = s.fabric := by
  induction l generalizing s with
  | nil => rfl
  | cons b l ih => simp only [List.foldl_cons, ih, h]
@[simp] theorem State.ite_fabric (p : Prop) [Decidable p] (a b : State) :
    (if p then a else b).fabric = if p then a.fabric else b.fabric := by split <;> rfl
@[simp] theorem State.foldl_ports {β : Type} (l : List β) (g : State → β → State) (s : State)
    (h : ∀ s b, (g s b).ports = s.ports) : (l.foldl g s).ports = s.ports := by
  induction l generalizing s with
  | nil => rfl
  | cons b l ih => simp only [List.foldl_cons, ih, h]
@[simp] theorem State.ite_ports (p : Prop) [Decidable p] (a b : State) :
    (if p then a else b).ports = if p then a.ports else b.ports := by split <;> rfl
@[simp] theorem State.foldl_puts {β : Type} (l : List β) (g : State → β → State) (s : State)
    (h : ∀ s b, (g s b).puts = s.puts) : (l.foldl g s).puts = s.puts := by
  induction l generalizing s with
  | nil => rfl
  | cons b l ih => simp only [List.foldl_cons, ih, h]
@[simp] theorem State.ite_puts (p : Prop) [Decidable p] (a b : State) :
    (if p then a else b).puts = if p then a.puts else b.puts := by split <;> rfl
@[simp] theorem State.foldl_tags {β : Type} (l : List β) (g : State → β → State) (s : State)
    (h : ∀ s b, (g s b).tags = s.tags) : (l.foldl g s).tags = s.tags := by
  induction l generalizing s with
  | nil => rfl
  | cons b l ih => simp only [List.foldl_cons, ih, h]
@[simp] theorem State.ite_tags (p : Prop) [Decidable p] (a b : State) :
    (if p then a else b).tags = if p then a.tags else b.tags := by split <;> rfl
@[simp] theorem State.foldl_mgr {β : Type} (l : List β) (g : State → β → State) (s : State)
    (h : ∀ s b, (g s b).mgr = s.mgr) : (l.foldl g s).mgr = s.mgr := by
  induction l generalizing s with
  | nil => rfl
  | cons b l ih => simp only [List.foldl_cons, ih, h]
@[simp] theorem State.ite_mgr (p : Prop) [Decidable p] (a b : State) :
    (if p then a else b).mgr = if p then a.mgr else b.mgr := by split <;> rfl
@[simp] theorem State.foldl_mac {β : Type} (l : List β) (g : State → β → State) (s : State)
    (h : ∀ s b, (g s b).mac = s.mac) : (l.foldl g s).mac = s.mac := by
  induction l generalizing s with
  | nil => rfl
  | cons b l ih => simp only [List.foldl_cons, ih, h]
@[simp] theorem State.ite_mac (p : Prop) [Decidable p] (a b : State) :
    (if p then a else b).mac = if p then a.mac else b.mac := by split <;> rfl
@[simp] theorem State.foldl_pcie {β : Type} (l : List β) (g : State → β → State) (s : State)
    (h : ∀ s b, (g s b).pcie = s.pcie) : (l.foldl g s).pcie = s.pcie := by
  induction l generalizing s with
  | nil => rfl
  | cons b l ih => simp only [List.foldl_cons, ih, h]
@[simp] theorem State.ite_pcie (p : Prop) [Decidable p] (a b : State) :
    (if p then a else b).pcie = if p then a.pcie else b.pcie := by split <;> rfl
@[simp] theorem State.foldl_sec {β : Type} (l : List β) (g : State → β → State) (s : State)
    (h : ∀ s b, (g s b).sec = s.sec) : (l.foldl g s).sec = s.sec := by
  induction l generalizing s with
  | nil => rfl
  | cons b l ih => simp only [List.foldl_cons, ih, h]
@[simp] theorem State.ite_sec (p : Prop) [Decidable p] (a b : State) :
    (if p then a else b).sec = if p then a.sec else b.sec := by split <;> rfl
@[simp] theorem State.foldl_cores {β : Type} (l : List β) (g : State → β → State) (s : State)
    (h : ∀ s b, (g s b).cores = s.cores) : (l.foldl g s).cores = s.cores := by
  induction l generalizing s with
  | nil => rfl
  | cons b l ih => simp only [List.foldl_cons, ih, h]
@[simp] theorem State.ite_cores (p : Prop) [Decidable p] (a b : State) :
    (if p then a else b).cores = if p then a.cores else b.cores := by split <;> rfl
@[simp] theorem State.foldl_power {β : Type} (l : List β) (g : State → β → State) (s : State)
    (h : ∀ s b, (g s b).power = s.power) : (l.foldl g s).power = s.power := by
  induction l generalizing s with
  | nil => rfl
  | cons b l ih => simp only [List.foldl_cons, ih, h]
@[simp] theorem State.ite_power (p : Prop) [Decidable p] (a b : State) :
    (if p then a else b).power = if p then a.power else b.power := by split <;> rfl
@[simp] theorem State.foldl_faults {β : Type} (l : List β) (g : State → β → State) (s : State)
    (h : ∀ s b, (g s b).faults = s.faults) : (l.foldl g s).faults = s.faults := by
  induction l generalizing s with
  | nil => rfl
  | cons b l ih => simp only [List.foldl_cons, ih, h]
@[simp] theorem State.ite_faults (p : Prop) [Decidable p] (a b : State) :
    (if p then a else b).faults = if p then a.faults else b.faults := by split <;> rfl
@[simp] theorem State.foldl_maint {β : Type} (l : List β) (g : State → β → State) (s : State)
    (h : ∀ s b, (g s b).maint = s.maint) : (l.foldl g s).maint = s.maint := by
  induction l generalizing s with
  | nil => rfl
  | cons b l ih => simp only [List.foldl_cons, ih, h]
@[simp] theorem State.ite_maint (p : Prop) [Decidable p] (a b : State) :
    (if p then a else b).maint = if p then a.maint else b.maint := by split <;> rfl
@[simp] theorem State.foldl_glob {β : Type} (l : List β) (g : State → β → State) (s : State)
    (h : ∀ s b, (g s b).glob = s.glob) : (l.foldl g s).glob = s.glob := by
  induction l generalizing s with
  | nil => rfl
  | cons b l ih => simp only [List.foldl_cons, ih, h]
@[simp] theorem State.ite_glob (p : Prop) [Decidable p] (a b : State) :
    (if p then a else b).glob = if p then a.glob else b.glob := by split <;> rfl
end Sys2Proof.Machine
end

