-- ==== Sys2Proof/Laws/FrameOps.lean ====
section
/-! SUPPORT. Frames of the operations of Ops. -/

namespace Sys2Proof.Machine

@[simp] theorem State.wr_frame (s : State) (f : Fld) (v : Nat) :
    (State.wr s f v).pending = s.pending ∧ (State.wr s f v).draws = s.draws ∧ (State.wr s f v).out = s.out ∧
    (State.wr s f v).hbm = s.hbm ∧ (State.wr s f v).host = s.host ∧ (State.wr s f v).pkg = s.pkg ∧
    (State.wr s f v).flash = s.flash ∧ (State.wr s f v).clocks = s.clocks ∧ (State.wr s f v).engines = s.engines ∧
    (State.wr s f v).slabs = s.slabs ∧ (State.wr s f v).rings = s.rings ∧ (State.wr s f v).plots = s.plots ∧
    (State.wr s f v).stash = s.stash ∧ (State.wr s f v).matJobs = s.matJobs ∧
    (State.wr s f v).vecJobs = s.vecJobs ∧ (State.wr s f v).fabric = s.fabric ∧ (State.wr s f v).ports = s.ports ∧
    (State.wr s f v).puts = s.puts ∧ (State.wr s f v).tags = s.tags ∧ (State.wr s f v).mgr = s.mgr ∧
    (State.wr s f v).mac = s.mac ∧ (State.wr s f v).pcie = s.pcie ∧ (State.wr s f v).sec = s.sec ∧
    (State.wr s f v).cores = s.cores ∧ (State.wr s f v).power = s.power ∧ (State.wr s f v).faults = s.faults ∧
    (State.wr s f v).maint = s.maint ∧ (State.wr s f v).glob = s.glob := by
  unfold State.wr
  try dsimp only
  (repeat' split) <;> first | (simp; done) | (simp (disch := (intros; (repeat' split) <;> first | simp | skip)); done)

@[simp] theorem State.wrBit_frame (s : State) (f : Fld) (i : Nat) (b : Bool) :
    (State.wrBit s f i b).pending = s.pending ∧ (State.wrBit s f i b).draws = s.draws ∧
    (State.wrBit s f i b).out = s.out ∧ (State.wrBit s f i b).hbm = s.hbm ∧ (State.wrBit s f i b).host = s.host ∧
    (State.wrBit s f i b).pkg = s.pkg ∧ (State.wrBit s f i b).flash = s.flash ∧
    (State.wrBit s f i b).clocks = s.clocks ∧ (State.wrBit s f i b).engines = s.engines ∧
    (State.wrBit s f i b).slabs = s.slabs ∧ (State.wrBit s f i b).rings = s.rings ∧
    (State.wrBit s f i b).plots = s.plots ∧ (State.wrBit s f i b).stash = s.stash ∧
    (State.wrBit s f i b).matJobs = s.matJobs ∧ (State.wrBit s f i b).vecJobs = s.vecJobs ∧
    (State.wrBit s f i b).fabric = s.fabric ∧ (State.wrBit s f i b).ports = s.ports ∧
    (State.wrBit s f i b).puts = s.puts ∧ (State.wrBit s f i b).tags = s.tags ∧ (State.wrBit s f i b).mgr = s.mgr ∧
    (State.wrBit s f i b).mac = s.mac ∧ (State.wrBit s f i b).pcie = s.pcie ∧ (State.wrBit s f i b).sec = s.sec ∧
    (State.wrBit s f i b).cores = s.cores ∧ (State.wrBit s f i b).power = s.power ∧
    (State.wrBit s f i b).faults = s.faults ∧ (State.wrBit s f i b).maint = s.maint ∧
    (State.wrBit s f i b).glob = s.glob := by
  unfold State.wrBit
  try dsimp only
  (repeat' split) <;> first | (simp; done) | (simp (disch := (intros; (repeat' split) <;> first | simp | skip)); done)

@[simp] theorem State.countUp_frame (s : State) (f : Fld) (n : Nat) :
    (State.countUp s f n).pending = s.pending ∧ (State.countUp s f n).draws = s.draws ∧
    (State.countUp s f n).out = s.out ∧ (State.countUp s f n).hbm = s.hbm ∧ (State.countUp s f n).host = s.host ∧
    (State.countUp s f n).pkg = s.pkg ∧ (State.countUp s f n).flash = s.flash ∧
    (State.countUp s f n).clocks = s.clocks ∧ (State.countUp s f n).engines = s.engines ∧
    (State.countUp s f n).slabs = s.slabs ∧ (State.countUp s f n).rings = s.rings ∧
    (State.countUp s f n).plots = s.plots ∧ (State.countUp s f n).stash = s.stash ∧
    (State.countUp s f n).matJobs = s.matJobs ∧ (State.countUp s f n).vecJobs = s.vecJobs ∧
    (State.countUp s f n).fabric = s.fabric ∧ (State.countUp s f n).ports = s.ports ∧
    (State.countUp s f n).puts = s.puts ∧ (State.countUp s f n).tags = s.tags ∧ (State.countUp s f n).mgr = s.mgr ∧
    (State.countUp s f n).mac = s.mac ∧ (State.countUp s f n).pcie = s.pcie ∧ (State.countUp s f n).sec = s.sec ∧
    (State.countUp s f n).cores = s.cores ∧ (State.countUp s f n).power = s.power ∧
    (State.countUp s f n).faults = s.faults ∧ (State.countUp s f n).maint = s.maint ∧
    (State.countUp s f n).glob = s.glob := by
  unfold State.countUp
  try dsimp only
  (repeat' split) <;> first | (simp; done) | (simp (disch := (intros; (repeat' split) <;> first | simp | skip)); done)

@[simp] theorem State.countWrap_frame (s : State) (f : Fld) (n : Nat) :
    (State.countWrap s f n).pending = s.pending ∧ (State.countWrap s f n).draws = s.draws ∧
    (State.countWrap s f n).out = s.out ∧ (State.countWrap s f n).hbm = s.hbm ∧
    (State.countWrap s f n).host = s.host ∧ (State.countWrap s f n).pkg = s.pkg ∧
    (State.countWrap s f n).flash = s.flash ∧ (State.countWrap s f n).clocks = s.clocks ∧
    (State.countWrap s f n).engines = s.engines ∧ (State.countWrap s f n).slabs = s.slabs ∧
    (State.countWrap s f n).rings = s.rings ∧ (State.countWrap s f n).plots = s.plots ∧
    (State.countWrap s f n).stash = s.stash ∧ (State.countWrap s f n).matJobs = s.matJobs ∧
    (State.countWrap s f n).vecJobs = s.vecJobs ∧ (State.countWrap s f n).fabric = s.fabric ∧
    (State.countWrap s f n).ports = s.ports ∧ (State.countWrap s f n).puts = s.puts ∧
    (State.countWrap s f n).tags = s.tags ∧ (State.countWrap s f n).mgr = s.mgr ∧
    (State.countWrap s f n).mac = s.mac ∧ (State.countWrap s f n).pcie = s.pcie ∧
    (State.countWrap s f n).sec = s.sec ∧ (State.countWrap s f n).cores = s.cores ∧
    (State.countWrap s f n).power = s.power ∧ (State.countWrap s f n).faults = s.faults ∧
    (State.countWrap s f n).maint = s.maint ∧ (State.countWrap s f n).glob = s.glob := by
  unfold State.countWrap
  try dsimp only
  (repeat' split) <;> first | (simp; done) | (simp (disch := (intros; (repeat' split) <;> first | simp | skip)); done)

@[simp] theorem State.count64_frame (s : State) (lo hi : Fld) (n : Nat) :
    (State.count64 s lo hi n).pending = s.pending ∧ (State.count64 s lo hi n).draws = s.draws ∧
    (State.count64 s lo hi n).out = s.out ∧ (State.count64 s lo hi n).hbm = s.hbm ∧
    (State.count64 s lo hi n).host = s.host ∧ (State.count64 s lo hi n).pkg = s.pkg ∧
    (State.count64 s lo hi n).flash = s.flash ∧ (State.count64 s lo hi n).clocks = s.clocks ∧
    (State.count64 s lo hi n).engines = s.engines ∧ (State.count64 s lo hi n).slabs = s.slabs ∧
    (State.count64 s lo hi n).rings = s.rings ∧ (State.count64 s lo hi n).plots = s.plots ∧
    (State.count64 s lo hi n).stash = s.stash ∧ (State.count64 s lo hi n).matJobs = s.matJobs ∧
    (State.count64 s lo hi n).vecJobs = s.vecJobs ∧ (State.count64 s lo hi n).fabric = s.fabric ∧
    (State.count64 s lo hi n).ports = s.ports ∧ (State.count64 s lo hi n).puts = s.puts ∧
    (State.count64 s lo hi n).tags = s.tags ∧ (State.count64 s lo hi n).mgr = s.mgr ∧
    (State.count64 s lo hi n).mac = s.mac ∧ (State.count64 s lo hi n).pcie = s.pcie ∧
    (State.count64 s lo hi n).sec = s.sec ∧ (State.count64 s lo hi n).cores = s.cores ∧
    (State.count64 s lo hi n).power = s.power ∧ (State.count64 s lo hi n).faults = s.faults ∧
    (State.count64 s lo hi n).maint = s.maint ∧ (State.count64 s lo hi n).glob = s.glob := by
  unfold State.count64
  try dsimp only
  (repeat' split) <;> first | (simp; done) | (simp (disch := (intros; (repeat' split) <;> first | simp | skip)); done)

@[simp] theorem State.set64_frame (s : State) (lo hi : Fld) (v : Nat) :
    (State.set64 s lo hi v).pending = s.pending ∧ (State.set64 s lo hi v).draws = s.draws ∧
    (State.set64 s lo hi v).out = s.out ∧ (State.set64 s lo hi v).hbm = s.hbm ∧
    (State.set64 s lo hi v).host = s.host ∧ (State.set64 s lo hi v).pkg = s.pkg ∧
    (State.set64 s lo hi v).flash = s.flash ∧ (State.set64 s lo hi v).clocks = s.clocks ∧
    (State.set64 s lo hi v).engines = s.engines ∧ (State.set64 s lo hi v).slabs = s.slabs ∧
    (State.set64 s lo hi v).rings = s.rings ∧ (State.set64 s lo hi v).plots = s.plots ∧
    (State.set64 s lo hi v).stash = s.stash ∧ (State.set64 s lo hi v).matJobs = s.matJobs ∧
    (State.set64 s lo hi v).vecJobs = s.vecJobs ∧ (State.set64 s lo hi v).fabric = s.fabric ∧
    (State.set64 s lo hi v).ports = s.ports ∧ (State.set64 s lo hi v).puts = s.puts ∧
    (State.set64 s lo hi v).tags = s.tags ∧ (State.set64 s lo hi v).mgr = s.mgr ∧
    (State.set64 s lo hi v).mac = s.mac ∧ (State.set64 s lo hi v).pcie = s.pcie ∧
    (State.set64 s lo hi v).sec = s.sec ∧ (State.set64 s lo hi v).cores = s.cores ∧
    (State.set64 s lo hi v).power = s.power ∧ (State.set64 s lo hi v).faults = s.faults ∧
    (State.set64 s lo hi v).maint = s.maint ∧ (State.set64 s lo hi v).glob = s.glob := by
  unfold State.set64
  try dsimp only
  (repeat' split) <;> first | (simp; done) | (simp (disch := (intros; (repeat' split) <;> first | simp | skip)); done)

@[simp] theorem State.wrReset_frame (s : State) (f : Fld) :
    (State.wrReset s f).pending = s.pending ∧ (State.wrReset s f).draws = s.draws ∧
    (State.wrReset s f).out = s.out ∧ (State.wrReset s f).hbm = s.hbm ∧ (State.wrReset s f).host = s.host ∧
    (State.wrReset s f).pkg = s.pkg ∧ (State.wrReset s f).flash = s.flash ∧ (State.wrReset s f).clocks = s.clocks ∧
    (State.wrReset s f).engines = s.engines ∧ (State.wrReset s f).slabs = s.slabs ∧
    (State.wrReset s f).rings = s.rings ∧ (State.wrReset s f).plots = s.plots ∧
    (State.wrReset s f).stash = s.stash ∧ (State.wrReset s f).matJobs = s.matJobs ∧
    (State.wrReset s f).vecJobs = s.vecJobs ∧ (State.wrReset s f).fabric = s.fabric ∧
    (State.wrReset s f).ports = s.ports ∧ (State.wrReset s f).puts = s.puts ∧ (State.wrReset s f).tags = s.tags ∧
    (State.wrReset s f).mgr = s.mgr ∧ (State.wrReset s f).mac = s.mac ∧ (State.wrReset s f).pcie = s.pcie ∧
    (State.wrReset s f).sec = s.sec ∧ (State.wrReset s f).cores = s.cores ∧ (State.wrReset s f).power = s.power ∧
    (State.wrReset s f).faults = s.faults ∧ (State.wrReset s f).maint = s.maint ∧ (State.wrReset s f).glob = s.glob := by
  unfold State.wrReset
  try dsimp only
  (repeat' split) <;> first | (simp; done) | (simp (disch := (intros; (repeat' split) <;> first | simp | skip)); done)

@[simp] theorem State.wrResets_frame (s : State) (l : List Fld) :
    (State.wrResets s l).pending = s.pending ∧ (State.wrResets s l).draws = s.draws ∧
    (State.wrResets s l).out = s.out ∧ (State.wrResets s l).hbm = s.hbm ∧ (State.wrResets s l).host = s.host ∧
    (State.wrResets s l).pkg = s.pkg ∧ (State.wrResets s l).flash = s.flash ∧
    (State.wrResets s l).clocks = s.clocks ∧ (State.wrResets s l).engines = s.engines ∧
    (State.wrResets s l).slabs = s.slabs ∧ (State.wrResets s l).rings = s.rings ∧
    (State.wrResets s l).plots = s.plots ∧ (State.wrResets s l).stash = s.stash ∧
    (State.wrResets s l).matJobs = s.matJobs ∧ (State.wrResets s l).vecJobs = s.vecJobs ∧
    (State.wrResets s l).fabric = s.fabric ∧ (State.wrResets s l).ports = s.ports ∧
    (State.wrResets s l).puts = s.puts ∧ (State.wrResets s l).tags = s.tags ∧ (State.wrResets s l).mgr = s.mgr ∧
    (State.wrResets s l).mac = s.mac ∧ (State.wrResets s l).pcie = s.pcie ∧ (State.wrResets s l).sec = s.sec ∧
    (State.wrResets s l).cores = s.cores ∧ (State.wrResets s l).power = s.power ∧
    (State.wrResets s l).faults = s.faults ∧ (State.wrResets s l).maint = s.maint ∧
    (State.wrResets s l).glob = s.glob := by
  unfold State.wrResets
  try dsimp only
  (repeat' split) <;> first | (simp; done) | (simp (disch := (intros; (repeat' split) <;> first | simp | skip)); done)

@[simp] theorem State.send_frame (s : State) (m : Out) :
    (State.send s m).pending = s.pending ∧ (State.send s m).draws = s.draws ∧ (State.send s m).regs = s.regs ∧
    (State.send s m).hbm = s.hbm ∧ (State.send s m).host = s.host ∧ (State.send s m).pkg = s.pkg ∧
    (State.send s m).flash = s.flash ∧ (State.send s m).clocks = s.clocks ∧ (State.send s m).engines = s.engines ∧
    (State.send s m).slabs = s.slabs ∧ (State.send s m).rings = s.rings ∧ (State.send s m).plots = s.plots ∧
    (State.send s m).stash = s.stash ∧ (State.send s m).matJobs = s.matJobs ∧
    (State.send s m).vecJobs = s.vecJobs ∧ (State.send s m).fabric = s.fabric ∧ (State.send s m).ports = s.ports ∧
    (State.send s m).puts = s.puts ∧ (State.send s m).tags = s.tags ∧ (State.send s m).mgr = s.mgr ∧
    (State.send s m).mac = s.mac ∧ (State.send s m).pcie = s.pcie ∧ (State.send s m).sec = s.sec ∧
    (State.send s m).cores = s.cores ∧ (State.send s m).power = s.power ∧ (State.send s m).faults = s.faults ∧
    (State.send s m).maint = s.maint ∧ (State.send s m).glob = s.glob := by
  unfold State.send
  try dsimp only
  (repeat' split) <;> first | (simp; done) | (simp (disch := (intros; (repeat' split) <;> first | simp | skip)); done)

@[simp] theorem State.msix_frame (s : State) (func vector : Nat) :
    (State.msix s func vector).pending = s.pending ∧ (State.msix s func vector).draws = s.draws ∧
    (State.msix s func vector).regs = s.regs ∧ (State.msix s func vector).hbm = s.hbm ∧
    (State.msix s func vector).host = s.host ∧ (State.msix s func vector).pkg = s.pkg ∧
    (State.msix s func vector).flash = s.flash ∧ (State.msix s func vector).clocks = s.clocks ∧
    (State.msix s func vector).engines = s.engines ∧ (State.msix s func vector).slabs = s.slabs ∧
    (State.msix s func vector).rings = s.rings ∧ (State.msix s func vector).plots = s.plots ∧
    (State.msix s func vector).stash = s.stash ∧ (State.msix s func vector).matJobs = s.matJobs ∧
    (State.msix s func vector).vecJobs = s.vecJobs ∧ (State.msix s func vector).fabric = s.fabric ∧
    (State.msix s func vector).ports = s.ports ∧ (State.msix s func vector).puts = s.puts ∧
    (State.msix s func vector).tags = s.tags ∧ (State.msix s func vector).mgr = s.mgr ∧
    (State.msix s func vector).mac = s.mac ∧ (State.msix s func vector).sec = s.sec ∧
    (State.msix s func vector).cores = s.cores ∧ (State.msix s func vector).power = s.power ∧
    (State.msix s func vector).faults = s.faults ∧ (State.msix s func vector).maint = s.maint ∧
    (State.msix s func vector).glob = s.glob := by
  unfold State.msix
  try dsimp only
  (repeat' split) <;> first | (simp; done) | (simp (disch := (intros; (repeat' split) <;> first | simp | skip)); done)

@[simp] theorem State.tick_frame (s : State) :
    (State.tick s).pending = s.pending ∧ (State.tick s).out = s.out ∧ (State.tick s).regs = s.regs ∧
    (State.tick s).hbm = s.hbm ∧ (State.tick s).host = s.host ∧ (State.tick s).pkg = s.pkg ∧
    (State.tick s).flash = s.flash ∧ (State.tick s).clocks = s.clocks ∧ (State.tick s).engines = s.engines ∧
    (State.tick s).slabs = s.slabs ∧ (State.tick s).rings = s.rings ∧ (State.tick s).plots = s.plots ∧
    (State.tick s).stash = s.stash ∧ (State.tick s).matJobs = s.matJobs ∧ (State.tick s).vecJobs = s.vecJobs ∧
    (State.tick s).fabric = s.fabric ∧ (State.tick s).ports = s.ports ∧ (State.tick s).puts = s.puts ∧
    (State.tick s).tags = s.tags ∧ (State.tick s).mgr = s.mgr ∧ (State.tick s).mac = s.mac ∧
    (State.tick s).pcie = s.pcie ∧ (State.tick s).sec = s.sec ∧ (State.tick s).cores = s.cores ∧
    (State.tick s).power = s.power ∧ (State.tick s).faults = s.faults ∧ (State.tick s).maint = s.maint ∧
    (State.tick s).glob = s.glob := by
  unfold State.tick
  try dsimp only
  (repeat' split) <;> first | (simp; done) | (simp (disch := (intros; (repeat' split) <;> first | simp | skip)); done)

@[simp] theorem State.answerDoe_frame (s : State) :
    (State.answerDoe s).pending = s.pending ∧ (State.answerDoe s).draws = s.draws ∧
    (State.answerDoe s).regs = s.regs ∧ (State.answerDoe s).hbm = s.hbm ∧ (State.answerDoe s).host = s.host ∧
    (State.answerDoe s).pkg = s.pkg ∧ (State.answerDoe s).flash = s.flash ∧ (State.answerDoe s).clocks = s.clocks ∧
    (State.answerDoe s).engines = s.engines ∧ (State.answerDoe s).slabs = s.slabs ∧
    (State.answerDoe s).rings = s.rings ∧ (State.answerDoe s).plots = s.plots ∧
    (State.answerDoe s).stash = s.stash ∧ (State.answerDoe s).matJobs = s.matJobs ∧
    (State.answerDoe s).vecJobs = s.vecJobs ∧ (State.answerDoe s).fabric = s.fabric ∧
    (State.answerDoe s).ports = s.ports ∧ (State.answerDoe s).puts = s.puts ∧ (State.answerDoe s).tags = s.tags ∧
    (State.answerDoe s).mgr = s.mgr ∧ (State.answerDoe s).mac = s.mac ∧ (State.answerDoe s).sec = s.sec ∧
    (State.answerDoe s).cores = s.cores ∧ (State.answerDoe s).power = s.power ∧
    (State.answerDoe s).faults = s.faults ∧ (State.answerDoe s).maint = s.maint ∧ (State.answerDoe s).glob = s.glob := by
  unfold State.answerDoe
  try dsimp only
  (repeat' split) <;> first | (simp; done) | (simp (disch := (intros; (repeat' split) <;> first | simp | skip)); done)

@[simp] theorem State.modPlot_frame (s : State) (p : Nat) (f : Plot → Plot) :
    (State.modPlot s p f).pending = s.pending ∧ (State.modPlot s p f).draws = s.draws ∧
    (State.modPlot s p f).out = s.out ∧ (State.modPlot s p f).regs = s.regs ∧ (State.modPlot s p f).hbm = s.hbm ∧
    (State.modPlot s p f).host = s.host ∧ (State.modPlot s p f).pkg = s.pkg ∧
    (State.modPlot s p f).flash = s.flash ∧ (State.modPlot s p f).clocks = s.clocks ∧
    (State.modPlot s p f).engines = s.engines ∧ (State.modPlot s p f).slabs = s.slabs ∧
    (State.modPlot s p f).rings = s.rings ∧ (State.modPlot s p f).stash = s.stash ∧
    (State.modPlot s p f).matJobs = s.matJobs ∧ (State.modPlot s p f).vecJobs = s.vecJobs ∧
    (State.modPlot s p f).fabric = s.fabric ∧ (State.modPlot s p f).ports = s.ports ∧
    (State.modPlot s p f).puts = s.puts ∧ (State.modPlot s p f).tags = s.tags ∧ (State.modPlot s p f).mgr = s.mgr ∧
    (State.modPlot s p f).mac = s.mac ∧ (State.modPlot s p f).pcie = s.pcie ∧ (State.modPlot s p f).sec = s.sec ∧
    (State.modPlot s p f).cores = s.cores ∧ (State.modPlot s p f).power = s.power ∧
    (State.modPlot s p f).faults = s.faults ∧ (State.modPlot s p f).maint = s.maint ∧
    (State.modPlot s p f).glob = s.glob := by
  unfold State.modPlot
  try dsimp only
  (repeat' split) <;> first | (simp; done) | (simp (disch := (intros; (repeat' split) <;> first | simp | skip)); done)

@[simp] theorem State.modRing_frame (s : State) (r : Nat) (f : Ring → Ring) :
    (State.modRing s r f).pending = s.pending ∧ (State.modRing s r f).draws = s.draws ∧
    (State.modRing s r f).out = s.out ∧ (State.modRing s r f).regs = s.regs ∧ (State.modRing s r f).hbm = s.hbm ∧
    (State.modRing s r f).host = s.host ∧ (State.modRing s r f).pkg = s.pkg ∧
    (State.modRing s r f).flash = s.flash ∧ (State.modRing s r f).clocks = s.clocks ∧
    (State.modRing s r f).engines = s.engines ∧ (State.modRing s r f).slabs = s.slabs ∧
    (State.modRing s r f).plots = s.plots ∧ (State.modRing s r f).stash = s.stash ∧
    (State.modRing s r f).matJobs = s.matJobs ∧ (State.modRing s r f).vecJobs = s.vecJobs ∧
    (State.modRing s r f).fabric = s.fabric ∧ (State.modRing s r f).ports = s.ports ∧
    (State.modRing s r f).puts = s.puts ∧ (State.modRing s r f).tags = s.tags ∧ (State.modRing s r f).mgr = s.mgr ∧
    (State.modRing s r f).mac = s.mac ∧ (State.modRing s r f).pcie = s.pcie ∧ (State.modRing s r f).sec = s.sec ∧
    (State.modRing s r f).cores = s.cores ∧ (State.modRing s r f).power = s.power ∧
    (State.modRing s r f).faults = s.faults ∧ (State.modRing s r f).maint = s.maint ∧
    (State.modRing s r f).glob = s.glob := by
  unfold State.modRing
  try dsimp only
  (repeat' split) <;> first | (simp; done) | (simp (disch := (intros; (repeat' split) <;> first | simp | skip)); done)

@[simp] theorem State.modPort_frame (s : State) (p : Nat) (f : Port → Port) :
    (State.modPort s p f).pending = s.pending ∧ (State.modPort s p f).draws = s.draws ∧
    (State.modPort s p f).out = s.out ∧ (State.modPort s p f).regs = s.regs ∧ (State.modPort s p f).hbm = s.hbm ∧
    (State.modPort s p f).host = s.host ∧ (State.modPort s p f).pkg = s.pkg ∧
    (State.modPort s p f).flash = s.flash ∧ (State.modPort s p f).clocks = s.clocks ∧
    (State.modPort s p f).engines = s.engines ∧ (State.modPort s p f).slabs = s.slabs ∧
    (State.modPort s p f).rings = s.rings ∧ (State.modPort s p f).plots = s.plots ∧
    (State.modPort s p f).stash = s.stash ∧ (State.modPort s p f).matJobs = s.matJobs ∧
    (State.modPort s p f).vecJobs = s.vecJobs ∧ (State.modPort s p f).fabric = s.fabric ∧
    (State.modPort s p f).puts = s.puts ∧ (State.modPort s p f).tags = s.tags ∧ (State.modPort s p f).mgr = s.mgr ∧
    (State.modPort s p f).mac = s.mac ∧ (State.modPort s p f).pcie = s.pcie ∧ (State.modPort s p f).sec = s.sec ∧
    (State.modPort s p f).cores = s.cores ∧ (State.modPort s p f).power = s.power ∧
    (State.modPort s p f).faults = s.faults ∧ (State.modPort s p f).maint = s.maint ∧
    (State.modPort s p f).glob = s.glob := by
  unfold State.modPort
  try dsimp only
  (repeat' split) <;> first | (simp; done) | (simp (disch := (intros; (repeat' split) <;> first | simp | skip)); done)

@[simp] theorem State.modEngine_frame (s : State) (gd e : Nat) (f : Engine → Engine) :
    (State.modEngine s gd e f).pending = s.pending ∧ (State.modEngine s gd e f).draws = s.draws ∧
    (State.modEngine s gd e f).out = s.out ∧ (State.modEngine s gd e f).regs = s.regs ∧
    (State.modEngine s gd e f).hbm = s.hbm ∧ (State.modEngine s gd e f).host = s.host ∧
    (State.modEngine s gd e f).pkg = s.pkg ∧ (State.modEngine s gd e f).flash = s.flash ∧
    (State.modEngine s gd e f).clocks = s.clocks ∧ (State.modEngine s gd e f).slabs = s.slabs ∧
    (State.modEngine s gd e f).rings = s.rings ∧ (State.modEngine s gd e f).plots = s.plots ∧
    (State.modEngine s gd e f).stash = s.stash ∧ (State.modEngine s gd e f).matJobs = s.matJobs ∧
    (State.modEngine s gd e f).vecJobs = s.vecJobs ∧ (State.modEngine s gd e f).fabric = s.fabric ∧
    (State.modEngine s gd e f).ports = s.ports ∧ (State.modEngine s gd e f).puts = s.puts ∧
    (State.modEngine s gd e f).tags = s.tags ∧ (State.modEngine s gd e f).mgr = s.mgr ∧
    (State.modEngine s gd e f).mac = s.mac ∧ (State.modEngine s gd e f).pcie = s.pcie ∧
    (State.modEngine s gd e f).sec = s.sec ∧ (State.modEngine s gd e f).cores = s.cores ∧
    (State.modEngine s gd e f).power = s.power ∧ (State.modEngine s gd e f).faults = s.faults ∧
    (State.modEngine s gd e f).maint = s.maint ∧ (State.modEngine s gd e f).glob = s.glob := by
  unfold State.modEngine
  try dsimp only
  (repeat' split) <;> first | (simp; done) | (simp (disch := (intros; (repeat' split) <;> first | simp | skip)); done)

@[simp] theorem State.drawVe_frame (s : State) (v n : Nat) :
    (State.drawVe s v n).pending = s.pending ∧ (State.drawVe s v n).draws = s.draws ∧
    (State.drawVe s v n).out = s.out ∧ (State.drawVe s v n).regs = s.regs ∧ (State.drawVe s v n).hbm = s.hbm ∧
    (State.drawVe s v n).host = s.host ∧ (State.drawVe s v n).pkg = s.pkg ∧ (State.drawVe s v n).flash = s.flash ∧
    (State.drawVe s v n).clocks = s.clocks ∧ (State.drawVe s v n).slabs = s.slabs ∧
    (State.drawVe s v n).rings = s.rings ∧ (State.drawVe s v n).plots = s.plots ∧
    (State.drawVe s v n).stash = s.stash ∧ (State.drawVe s v n).matJobs = s.matJobs ∧
    (State.drawVe s v n).vecJobs = s.vecJobs ∧ (State.drawVe s v n).fabric = s.fabric ∧
    (State.drawVe s v n).ports = s.ports ∧ (State.drawVe s v n).puts = s.puts ∧
    (State.drawVe s v n).tags = s.tags ∧ (State.drawVe s v n).mgr = s.mgr ∧ (State.drawVe s v n).mac = s.mac ∧
    (State.drawVe s v n).pcie = s.pcie ∧ (State.drawVe s v n).sec = s.sec ∧ (State.drawVe s v n).cores = s.cores ∧
    (State.drawVe s v n).power = s.power ∧ (State.drawVe s v n).faults = s.faults ∧
    (State.drawVe s v n).maint = s.maint ∧ (State.drawVe s v n).glob = s.glob := by
  unfold State.drawVe
  try dsimp only
  (repeat' split) <;> first | (simp; done) | (simp (disch := (intros; (repeat' split) <;> first | simp | skip)); done)

@[simp] theorem State.seedVe_frame (s : State) (v : Nat) :
    (State.seedVe s v).pending = s.pending ∧ (State.seedVe s v).out = s.out ∧ (State.seedVe s v).regs = s.regs ∧
    (State.seedVe s v).hbm = s.hbm ∧ (State.seedVe s v).host = s.host ∧ (State.seedVe s v).pkg = s.pkg ∧
    (State.seedVe s v).flash = s.flash ∧ (State.seedVe s v).clocks = s.clocks ∧
    (State.seedVe s v).slabs = s.slabs ∧ (State.seedVe s v).rings = s.rings ∧ (State.seedVe s v).plots = s.plots ∧
    (State.seedVe s v).stash = s.stash ∧ (State.seedVe s v).matJobs = s.matJobs ∧
    (State.seedVe s v).vecJobs = s.vecJobs ∧ (State.seedVe s v).fabric = s.fabric ∧
    (State.seedVe s v).ports = s.ports ∧ (State.seedVe s v).puts = s.puts ∧ (State.seedVe s v).tags = s.tags ∧
    (State.seedVe s v).mgr = s.mgr ∧ (State.seedVe s v).mac = s.mac ∧ (State.seedVe s v).pcie = s.pcie ∧
    (State.seedVe s v).sec = s.sec ∧ (State.seedVe s v).cores = s.cores ∧ (State.seedVe s v).power = s.power ∧
    (State.seedVe s v).faults = s.faults ∧ (State.seedVe s v).maint = s.maint ∧ (State.seedVe s v).glob = s.glob := by
  unfold State.seedVe
  try dsimp only
  (repeat' split) <;> first | (simp; done) | (simp (disch := (intros; (repeat' split) <;> first | simp | skip)); done)

@[simp] theorem State.clearEngine_frame (s : State) (gd e : Nat) :
    (State.clearEngine s gd e).pending = s.pending ∧ (State.clearEngine s gd e).out = s.out ∧
    (State.clearEngine s gd e).regs = s.regs ∧ (State.clearEngine s gd e).hbm = s.hbm ∧
    (State.clearEngine s gd e).host = s.host ∧ (State.clearEngine s gd e).pkg = s.pkg ∧
    (State.clearEngine s gd e).flash = s.flash ∧ (State.clearEngine s gd e).clocks = s.clocks ∧
    (State.clearEngine s gd e).slabs = s.slabs ∧ (State.clearEngine s gd e).rings = s.rings ∧
    (State.clearEngine s gd e).plots = s.plots ∧ (State.clearEngine s gd e).stash = s.stash ∧
    (State.clearEngine s gd e).matJobs = s.matJobs ∧ (State.clearEngine s gd e).vecJobs = s.vecJobs ∧
    (State.clearEngine s gd e).fabric = s.fabric ∧ (State.clearEngine s gd e).ports = s.ports ∧
    (State.clearEngine s gd e).puts = s.puts ∧ (State.clearEngine s gd e).tags = s.tags ∧
    (State.clearEngine s gd e).mgr = s.mgr ∧ (State.clearEngine s gd e).mac = s.mac ∧
    (State.clearEngine s gd e).pcie = s.pcie ∧ (State.clearEngine s gd e).sec = s.sec ∧
    (State.clearEngine s gd e).cores = s.cores ∧ (State.clearEngine s gd e).power = s.power ∧
    (State.clearEngine s gd e).faults = s.faults ∧ (State.clearEngine s gd e).maint = s.maint ∧
    (State.clearEngine s gd e).glob = s.glob := by
  unfold State.clearEngine
  try dsimp only
  (repeat' split) <;> first | (simp; done) | (simp (disch := (intros; (repeat' split) <;> first | simp | skip)); done)

@[simp] theorem State.modSlab_frame (s : State) (n : Nat) (f : Slab → Slab) :
    (State.modSlab s n f).pending = s.pending ∧ (State.modSlab s n f).draws = s.draws ∧
    (State.modSlab s n f).out = s.out ∧ (State.modSlab s n f).regs = s.regs ∧ (State.modSlab s n f).hbm = s.hbm ∧
    (State.modSlab s n f).host = s.host ∧ (State.modSlab s n f).pkg = s.pkg ∧
    (State.modSlab s n f).flash = s.flash ∧ (State.modSlab s n f).clocks = s.clocks ∧
    (State.modSlab s n f).engines = s.engines ∧ (State.modSlab s n f).rings = s.rings ∧
    (State.modSlab s n f).plots = s.plots ∧ (State.modSlab s n f).stash = s.stash ∧
    (State.modSlab s n f).matJobs = s.matJobs ∧ (State.modSlab s n f).vecJobs = s.vecJobs ∧
    (State.modSlab s n f).fabric = s.fabric ∧ (State.modSlab s n f).ports = s.ports ∧
    (State.modSlab s n f).puts = s.puts ∧ (State.modSlab s n f).tags = s.tags ∧ (State.modSlab s n f).mgr = s.mgr ∧
    (State.modSlab s n f).mac = s.mac ∧ (State.modSlab s n f).pcie = s.pcie ∧ (State.modSlab s n f).sec = s.sec ∧
    (State.modSlab s n f).cores = s.cores ∧ (State.modSlab s n f).power = s.power ∧
    (State.modSlab s n f).faults = s.faults ∧ (State.modSlab s n f).maint = s.maint ∧
    (State.modSlab s n f).glob = s.glob := by
  unfold State.modSlab
  try dsimp only
  (repeat' split) <;> first | (simp; done) | (simp (disch := (intros; (repeat' split) <;> first | simp | skip)); done)

@[simp] theorem State.modStack_frame (s : State) (n : Nat) (f : Stack → Stack) :
    (State.modStack s n f).pending = s.pending ∧ (State.modStack s n f).draws = s.draws ∧
    (State.modStack s n f).out = s.out ∧ (State.modStack s n f).regs = s.regs ∧
    (State.modStack s n f).host = s.host ∧ (State.modStack s n f).pkg = s.pkg ∧
    (State.modStack s n f).flash = s.flash ∧ (State.modStack s n f).clocks = s.clocks ∧
    (State.modStack s n f).engines = s.engines ∧ (State.modStack s n f).slabs = s.slabs ∧
    (State.modStack s n f).rings = s.rings ∧ (State.modStack s n f).plots = s.plots ∧
    (State.modStack s n f).stash = s.stash ∧ (State.modStack s n f).matJobs = s.matJobs ∧
    (State.modStack s n f).vecJobs = s.vecJobs ∧ (State.modStack s n f).fabric = s.fabric ∧
    (State.modStack s n f).ports = s.ports ∧ (State.modStack s n f).puts = s.puts ∧
    (State.modStack s n f).tags = s.tags ∧ (State.modStack s n f).mgr = s.mgr ∧
    (State.modStack s n f).mac = s.mac ∧ (State.modStack s n f).pcie = s.pcie ∧
    (State.modStack s n f).sec = s.sec ∧ (State.modStack s n f).cores = s.cores ∧
    (State.modStack s n f).power = s.power ∧ (State.modStack s n f).faults = s.faults ∧
    (State.modStack s n f).maint = s.maint ∧ (State.modStack s n f).glob = s.glob := by
  unfold State.modStack
  try dsimp only
  (repeat' split) <;> first | (simp; done) | (simp (disch := (intros; (repeat' split) <;> first | simp | skip)); done)

@[simp] theorem State.modBank_frame (s : State) (gd b : Nat) (f : Bank → Bank) :
    (State.modBank s gd b f).pending = s.pending ∧ (State.modBank s gd b f).draws = s.draws ∧
    (State.modBank s gd b f).out = s.out ∧ (State.modBank s gd b f).regs = s.regs ∧
    (State.modBank s gd b f).hbm = s.hbm ∧ (State.modBank s gd b f).host = s.host ∧
    (State.modBank s gd b f).flash = s.flash ∧ (State.modBank s gd b f).clocks = s.clocks ∧
    (State.modBank s gd b f).engines = s.engines ∧ (State.modBank s gd b f).slabs = s.slabs ∧
    (State.modBank s gd b f).rings = s.rings ∧ (State.modBank s gd b f).plots = s.plots ∧
    (State.modBank s gd b f).stash = s.stash ∧ (State.modBank s gd b f).matJobs = s.matJobs ∧
    (State.modBank s gd b f).vecJobs = s.vecJobs ∧ (State.modBank s gd b f).fabric = s.fabric ∧
    (State.modBank s gd b f).ports = s.ports ∧ (State.modBank s gd b f).puts = s.puts ∧
    (State.modBank s gd b f).tags = s.tags ∧ (State.modBank s gd b f).mgr = s.mgr ∧
    (State.modBank s gd b f).mac = s.mac ∧ (State.modBank s gd b f).pcie = s.pcie ∧
    (State.modBank s gd b f).sec = s.sec ∧ (State.modBank s gd b f).cores = s.cores ∧
    (State.modBank s gd b f).power = s.power ∧ (State.modBank s gd b f).faults = s.faults ∧
    (State.modBank s gd b f).maint = s.maint ∧ (State.modBank s gd b f).glob = s.glob := by
  unfold State.modBank
  try dsimp only
  (repeat' split) <;> first | (simp; done) | (simp (disch := (intros; (repeat' split) <;> first | simp | skip)); done)

@[simp] theorem State.modChannel_frame (s : State) (c : Nat) (f : Channel → Channel) :
    (State.modChannel s c f).pending = s.pending ∧ (State.modChannel s c f).draws = s.draws ∧
    (State.modChannel s c f).out = s.out ∧ (State.modChannel s c f).regs = s.regs ∧
    (State.modChannel s c f).hbm = s.hbm ∧ (State.modChannel s c f).host = s.host ∧
    (State.modChannel s c f).flash = s.flash ∧ (State.modChannel s c f).clocks = s.clocks ∧
    (State.modChannel s c f).engines = s.engines ∧ (State.modChannel s c f).slabs = s.slabs ∧
    (State.modChannel s c f).rings = s.rings ∧ (State.modChannel s c f).plots = s.plots ∧
    (State.modChannel s c f).stash = s.stash ∧ (State.modChannel s c f).matJobs = s.matJobs ∧
    (State.modChannel s c f).vecJobs = s.vecJobs ∧ (State.modChannel s c f).fabric = s.fabric ∧
    (State.modChannel s c f).ports = s.ports ∧ (State.modChannel s c f).puts = s.puts ∧
    (State.modChannel s c f).tags = s.tags ∧ (State.modChannel s c f).mgr = s.mgr ∧
    (State.modChannel s c f).mac = s.mac ∧ (State.modChannel s c f).pcie = s.pcie ∧
    (State.modChannel s c f).sec = s.sec ∧ (State.modChannel s c f).cores = s.cores ∧
    (State.modChannel s c f).power = s.power ∧ (State.modChannel s c f).faults = s.faults ∧
    (State.modChannel s c f).maint = s.maint ∧ (State.modChannel s c f).glob = s.glob := by
  unfold State.modChannel
  try dsimp only
  (repeat' split) <;> first | (simp; done) | (simp (disch := (intros; (repeat' split) <;> first | simp | skip)); done)

@[simp] theorem State.modCore_frame (s : State) (c : Nat) (f : Core → Core) :
    (State.modCore s c f).pending = s.pending ∧ (State.modCore s c f).draws = s.draws ∧
    (State.modCore s c f).out = s.out ∧ (State.modCore s c f).regs = s.regs ∧ (State.modCore s c f).hbm = s.hbm ∧
    (State.modCore s c f).host = s.host ∧ (State.modCore s c f).pkg = s.pkg ∧
    (State.modCore s c f).flash = s.flash ∧ (State.modCore s c f).clocks = s.clocks ∧
    (State.modCore s c f).engines = s.engines ∧ (State.modCore s c f).slabs = s.slabs ∧
    (State.modCore s c f).rings = s.rings ∧ (State.modCore s c f).plots = s.plots ∧
    (State.modCore s c f).stash = s.stash ∧ (State.modCore s c f).matJobs = s.matJobs ∧
    (State.modCore s c f).vecJobs = s.vecJobs ∧ (State.modCore s c f).fabric = s.fabric ∧
    (State.modCore s c f).ports = s.ports ∧ (State.modCore s c f).puts = s.puts ∧
    (State.modCore s c f).tags = s.tags ∧ (State.modCore s c f).mgr = s.mgr ∧ (State.modCore s c f).mac = s.mac ∧
    (State.modCore s c f).pcie = s.pcie ∧ (State.modCore s c f).sec = s.sec ∧
    (State.modCore s c f).power = s.power ∧ (State.modCore s c f).faults = s.faults ∧
    (State.modCore s c f).maint = s.maint ∧ (State.modCore s c f).glob = s.glob := by
  unfold State.modCore
  try dsimp only
  (repeat' split) <;> first | (simp; done) | (simp (disch := (intros; (repeat' split) <;> first | simp | skip)); done)

@[simp] theorem State.modDie_frame (s : State) (d : Nat) (f : Die → Die) :
    (State.modDie s d f).pending = s.pending ∧ (State.modDie s d f).draws = s.draws ∧
    (State.modDie s d f).out = s.out ∧ (State.modDie s d f).regs = s.regs ∧ (State.modDie s d f).hbm = s.hbm ∧
    (State.modDie s d f).host = s.host ∧ (State.modDie s d f).pkg = s.pkg ∧ (State.modDie s d f).flash = s.flash ∧
    (State.modDie s d f).clocks = s.clocks ∧ (State.modDie s d f).engines = s.engines ∧
    (State.modDie s d f).slabs = s.slabs ∧ (State.modDie s d f).rings = s.rings ∧
    (State.modDie s d f).plots = s.plots ∧ (State.modDie s d f).stash = s.stash ∧
    (State.modDie s d f).matJobs = s.matJobs ∧ (State.modDie s d f).vecJobs = s.vecJobs ∧
    (State.modDie s d f).fabric = s.fabric ∧ (State.modDie s d f).ports = s.ports ∧
    (State.modDie s d f).puts = s.puts ∧ (State.modDie s d f).tags = s.tags ∧ (State.modDie s d f).mgr = s.mgr ∧
    (State.modDie s d f).mac = s.mac ∧ (State.modDie s d f).pcie = s.pcie ∧ (State.modDie s d f).sec = s.sec ∧
    (State.modDie s d f).cores = s.cores ∧ (State.modDie s d f).faults = s.faults ∧
    (State.modDie s d f).maint = s.maint ∧ (State.modDie s d f).glob = s.glob := by
  unfold State.modDie
  try dsimp only
  (repeat' split) <;> first | (simp; done) | (simp (disch := (intros; (repeat' split) <;> first | simp | skip)); done)

@[simp] theorem State.modSched_frame (s : State) (i : Nat) (f : Sched → Sched) :
    (State.modSched s i f).pending = s.pending ∧ (State.modSched s i f).draws = s.draws ∧
    (State.modSched s i f).out = s.out ∧ (State.modSched s i f).regs = s.regs ∧
    (State.modSched s i f).hbm = s.hbm ∧ (State.modSched s i f).host = s.host ∧
    (State.modSched s i f).pkg = s.pkg ∧ (State.modSched s i f).flash = s.flash ∧
    (State.modSched s i f).clocks = s.clocks ∧ (State.modSched s i f).engines = s.engines ∧
    (State.modSched s i f).slabs = s.slabs ∧ (State.modSched s i f).rings = s.rings ∧
    (State.modSched s i f).plots = s.plots ∧ (State.modSched s i f).stash = s.stash ∧
    (State.modSched s i f).matJobs = s.matJobs ∧ (State.modSched s i f).vecJobs = s.vecJobs ∧
    (State.modSched s i f).ports = s.ports ∧ (State.modSched s i f).puts = s.puts ∧
    (State.modSched s i f).tags = s.tags ∧ (State.modSched s i f).mgr = s.mgr ∧
    (State.modSched s i f).mac = s.mac ∧ (State.modSched s i f).pcie = s.pcie ∧
    (State.modSched s i f).sec = s.sec ∧ (State.modSched s i f).cores = s.cores ∧
    (State.modSched s i f).power = s.power ∧ (State.modSched s i f).faults = s.faults ∧
    (State.modSched s i f).maint = s.maint ∧ (State.modSched s i f).glob = s.glob := by
  unfold State.modSched
  try dsimp only
  (repeat' split) <;> first | (simp; done) | (simp (disch := (intros; (repeat' split) <;> first | simp | skip)); done)

@[simp] theorem State.perf_frame (s : State) (gd ev n : Nat) :
    (State.perf s gd ev n).pending = s.pending ∧ (State.perf s gd ev n).draws = s.draws ∧
    (State.perf s gd ev n).out = s.out ∧ (State.perf s gd ev n).hbm = s.hbm ∧
    (State.perf s gd ev n).host = s.host ∧ (State.perf s gd ev n).pkg = s.pkg ∧
    (State.perf s gd ev n).flash = s.flash ∧ (State.perf s gd ev n).clocks = s.clocks ∧
    (State.perf s gd ev n).engines = s.engines ∧ (State.perf s gd ev n).slabs = s.slabs ∧
    (State.perf s gd ev n).rings = s.rings ∧ (State.perf s gd ev n).plots = s.plots ∧
    (State.perf s gd ev n).stash = s.stash ∧ (State.perf s gd ev n).matJobs = s.matJobs ∧
    (State.perf s gd ev n).vecJobs = s.vecJobs ∧ (State.perf s gd ev n).fabric = s.fabric ∧
    (State.perf s gd ev n).ports = s.ports ∧ (State.perf s gd ev n).puts = s.puts ∧
    (State.perf s gd ev n).tags = s.tags ∧ (State.perf s gd ev n).mgr = s.mgr ∧
    (State.perf s gd ev n).mac = s.mac ∧ (State.perf s gd ev n).pcie = s.pcie ∧
    (State.perf s gd ev n).sec = s.sec ∧ (State.perf s gd ev n).cores = s.cores ∧
    (State.perf s gd ev n).power = s.power ∧ (State.perf s gd ev n).faults = s.faults ∧
    (State.perf s gd ev n).maint = s.maint ∧ (State.perf s gd ev n).glob = s.glob := by
  unfold State.perf
  try dsimp only
  (repeat' split) <;> first | (simp; done) | (simp (disch := (intros; (repeat' split) <;> first | simp | skip)); done)

@[simp] theorem State.charge_frame (s : State) (p r domain amount : Nat) :
    (State.charge s p r domain amount).pending = s.pending ∧ (State.charge s p r domain amount).draws = s.draws ∧
    (State.charge s p r domain amount).out = s.out ∧ (State.charge s p r domain amount).regs = s.regs ∧
    (State.charge s p r domain amount).hbm = s.hbm ∧ (State.charge s p r domain amount).host = s.host ∧
    (State.charge s p r domain amount).pkg = s.pkg ∧ (State.charge s p r domain amount).flash = s.flash ∧
    (State.charge s p r domain amount).clocks = s.clocks ∧ (State.charge s p r domain amount).engines = s.engines ∧
    (State.charge s p r domain amount).slabs = s.slabs ∧ (State.charge s p r domain amount).rings = s.rings ∧
    (State.charge s p r domain amount).plots = s.plots ∧ (State.charge s p r domain amount).stash = s.stash ∧
    (State.charge s p r domain amount).matJobs = s.matJobs ∧
    (State.charge s p r domain amount).vecJobs = s.vecJobs ∧ (State.charge s p r domain amount).fabric = s.fabric ∧
    (State.charge s p r domain amount).ports = s.ports ∧ (State.charge s p r domain amount).puts = s.puts ∧
    (State.charge s p r domain amount).tags = s.tags ∧ (State.charge s p r domain amount).mgr = s.mgr ∧
    (State.charge s p r domain amount).mac = s.mac ∧ (State.charge s p r domain amount).pcie = s.pcie ∧
    (State.charge s p r domain amount).sec = s.sec ∧ (State.charge s p r domain amount).cores = s.cores ∧
    (State.charge s p r domain amount).faults = s.faults ∧ (State.charge s p r domain amount).maint = s.maint ∧
    (State.charge s p r domain amount).glob = s.glob := by
  unfold State.charge
  try dsimp only
  (repeat' split) <;> first | (simp; done) | (simp (disch := (intros; (repeat' split) <;> first | simp | skip)); done)

end Sys2Proof.Machine
end

