-- ==== Sys2Proof/Laws/FrameFlags.lean ====
section
/-! SUPPORT. Frames of the operations of Flags. -/

namespace Sys2Proof.Machine

@[simp] theorem State.setFaultBit_frame (s : State) (die b : Nat) (v : Bool) :
    (State.setFaultBit s die b v).pending = s.pending ∧ (State.setFaultBit s die b v).draws = s.draws ∧
    (State.setFaultBit s die b v).out = s.out ∧ (State.setFaultBit s die b v).hbm = s.hbm ∧
    (State.setFaultBit s die b v).host = s.host ∧ (State.setFaultBit s die b v).pkg = s.pkg ∧
    (State.setFaultBit s die b v).flash = s.flash ∧ (State.setFaultBit s die b v).clocks = s.clocks ∧
    (State.setFaultBit s die b v).engines = s.engines ∧ (State.setFaultBit s die b v).slabs = s.slabs ∧
    (State.setFaultBit s die b v).rings = s.rings ∧ (State.setFaultBit s die b v).plots = s.plots ∧
    (State.setFaultBit s die b v).stash = s.stash ∧ (State.setFaultBit s die b v).matJobs = s.matJobs ∧
    (State.setFaultBit s die b v).vecJobs = s.vecJobs ∧ (State.setFaultBit s die b v).fabric = s.fabric ∧
    (State.setFaultBit s die b v).ports = s.ports ∧ (State.setFaultBit s die b v).puts = s.puts ∧
    (State.setFaultBit s die b v).tags = s.tags ∧ (State.setFaultBit s die b v).mgr = s.mgr ∧
    (State.setFaultBit s die b v).mac = s.mac ∧ (State.setFaultBit s die b v).pcie = s.pcie ∧
    (State.setFaultBit s die b v).sec = s.sec ∧ (State.setFaultBit s die b v).cores = s.cores ∧
    (State.setFaultBit s die b v).power = s.power ∧ (State.setFaultBit s die b v).faults = s.faults ∧
    (State.setFaultBit s die b v).maint = s.maint ∧ (State.setFaultBit s die b v).glob = s.glob := by
  unfold State.setFaultBit
  try dsimp only
  (repeat' split) <;> first | (simp; done) | (simp (disch := (intros; (repeat' split) <;> first | simp | skip)); done)

@[simp] theorem State.refreshFaults_frame (s : State) :
    (State.refreshFaults s).pending = s.pending ∧ (State.refreshFaults s).draws = s.draws ∧
    (State.refreshFaults s).out = s.out ∧ (State.refreshFaults s).hbm = s.hbm ∧
    (State.refreshFaults s).host = s.host ∧ (State.refreshFaults s).pkg = s.pkg ∧
    (State.refreshFaults s).flash = s.flash ∧ (State.refreshFaults s).clocks = s.clocks ∧
    (State.refreshFaults s).engines = s.engines ∧ (State.refreshFaults s).slabs = s.slabs ∧
    (State.refreshFaults s).rings = s.rings ∧ (State.refreshFaults s).plots = s.plots ∧
    (State.refreshFaults s).stash = s.stash ∧ (State.refreshFaults s).matJobs = s.matJobs ∧
    (State.refreshFaults s).vecJobs = s.vecJobs ∧ (State.refreshFaults s).fabric = s.fabric ∧
    (State.refreshFaults s).ports = s.ports ∧ (State.refreshFaults s).puts = s.puts ∧
    (State.refreshFaults s).tags = s.tags ∧ (State.refreshFaults s).mgr = s.mgr ∧
    (State.refreshFaults s).mac = s.mac ∧ (State.refreshFaults s).pcie = s.pcie ∧
    (State.refreshFaults s).sec = s.sec ∧ (State.refreshFaults s).cores = s.cores ∧
    (State.refreshFaults s).power = s.power ∧ (State.refreshFaults s).maint = s.maint ∧
    (State.refreshFaults s).glob = s.glob := by
  unfold State.refreshFaults
  try dsimp only
  (repeat' split) <;> first | (simp; done) | (simp (disch := (intros; (repeat' split) <;> first | simp | skip)); done)

@[simp] theorem State.logFault_frame (s : State) (e : Event) (cls : Nat) :
    (State.logFault s e cls).pending = s.pending ∧ (State.logFault s e cls).draws = s.draws ∧
    (State.logFault s e cls).out = s.out ∧ (State.logFault s e cls).regs = s.regs ∧
    (State.logFault s e cls).hbm = s.hbm ∧ (State.logFault s e cls).host = s.host ∧
    (State.logFault s e cls).pkg = s.pkg ∧ (State.logFault s e cls).clocks = s.clocks ∧
    (State.logFault s e cls).engines = s.engines ∧ (State.logFault s e cls).slabs = s.slabs ∧
    (State.logFault s e cls).rings = s.rings ∧ (State.logFault s e cls).plots = s.plots ∧
    (State.logFault s e cls).stash = s.stash ∧ (State.logFault s e cls).matJobs = s.matJobs ∧
    (State.logFault s e cls).vecJobs = s.vecJobs ∧ (State.logFault s e cls).fabric = s.fabric ∧
    (State.logFault s e cls).ports = s.ports ∧ (State.logFault s e cls).puts = s.puts ∧
    (State.logFault s e cls).tags = s.tags ∧ (State.logFault s e cls).mgr = s.mgr ∧
    (State.logFault s e cls).mac = s.mac ∧ (State.logFault s e cls).pcie = s.pcie ∧
    (State.logFault s e cls).sec = s.sec ∧ (State.logFault s e cls).cores = s.cores ∧
    (State.logFault s e cls).power = s.power ∧ (State.logFault s e cls).faults = s.faults ∧
    (State.logFault s e cls).maint = s.maint ∧ (State.logFault s e cls).glob = s.glob := by
  unfold State.logFault
  try dsimp only
  (repeat' split) <;> first | (simp; done) | (simp (disch := (intros; (repeat' split) <;> first | simp | skip)); done)

@[simp] theorem State.latchBit_frame (s : State) (die b : Nat) :
    (State.latchBit s die b).pending = s.pending ∧ (State.latchBit s die b).draws = s.draws ∧
    (State.latchBit s die b).out = s.out ∧ (State.latchBit s die b).hbm = s.hbm ∧
    (State.latchBit s die b).host = s.host ∧ (State.latchBit s die b).pkg = s.pkg ∧
    (State.latchBit s die b).flash = s.flash ∧ (State.latchBit s die b).clocks = s.clocks ∧
    (State.latchBit s die b).engines = s.engines ∧ (State.latchBit s die b).slabs = s.slabs ∧
    (State.latchBit s die b).rings = s.rings ∧ (State.latchBit s die b).plots = s.plots ∧
    (State.latchBit s die b).stash = s.stash ∧ (State.latchBit s die b).matJobs = s.matJobs ∧
    (State.latchBit s die b).vecJobs = s.vecJobs ∧ (State.latchBit s die b).fabric = s.fabric ∧
    (State.latchBit s die b).ports = s.ports ∧ (State.latchBit s die b).puts = s.puts ∧
    (State.latchBit s die b).tags = s.tags ∧ (State.latchBit s die b).mgr = s.mgr ∧
    (State.latchBit s die b).mac = s.mac ∧ (State.latchBit s die b).pcie = s.pcie ∧
    (State.latchBit s die b).sec = s.sec ∧ (State.latchBit s die b).cores = s.cores ∧
    (State.latchBit s die b).power = s.power ∧ (State.latchBit s die b).maint = s.maint ∧
    (State.latchBit s die b).glob = s.glob := by
  unfold State.latchBit
  try dsimp only
  (repeat' split) <;> first | (simp; done) | (simp (disch := (intros; (repeat' split) <;> first | simp | skip)); done)

@[simp] theorem State.signalFault_frame (s : State) (die b : Nat) :
    (State.signalFault s die b).pending = s.pending ∧ (State.signalFault s die b).draws = s.draws ∧
    (State.signalFault s die b).regs = s.regs ∧ (State.signalFault s die b).hbm = s.hbm ∧
    (State.signalFault s die b).host = s.host ∧ (State.signalFault s die b).pkg = s.pkg ∧
    (State.signalFault s die b).flash = s.flash ∧ (State.signalFault s die b).clocks = s.clocks ∧
    (State.signalFault s die b).engines = s.engines ∧ (State.signalFault s die b).slabs = s.slabs ∧
    (State.signalFault s die b).rings = s.rings ∧ (State.signalFault s die b).plots = s.plots ∧
    (State.signalFault s die b).stash = s.stash ∧ (State.signalFault s die b).matJobs = s.matJobs ∧
    (State.signalFault s die b).vecJobs = s.vecJobs ∧ (State.signalFault s die b).fabric = s.fabric ∧
    (State.signalFault s die b).ports = s.ports ∧ (State.signalFault s die b).puts = s.puts ∧
    (State.signalFault s die b).tags = s.tags ∧ (State.signalFault s die b).mgr = s.mgr ∧
    (State.signalFault s die b).mac = s.mac ∧ (State.signalFault s die b).sec = s.sec ∧
    (State.signalFault s die b).cores = s.cores ∧ (State.signalFault s die b).power = s.power ∧
    (State.signalFault s die b).faults = s.faults ∧ (State.signalFault s die b).maint = s.maint ∧
    (State.signalFault s die b).glob = s.glob := by
  unfold State.signalFault
  try dsimp only
  (repeat' split) <;> first | (simp; done) | (simp (disch := (intros; (repeat' split) <;> first | simp | skip)); done)

@[simp] theorem State.latchSure_frame (s : State) (die b : Nat) (plots : List Nat) (unit detail kind : Nat) (sure : Option Nat) :
    (State.latchSure s die b plots unit detail kind sure).pending = s.pending ∧
    (State.latchSure s die b plots unit detail kind sure).draws = s.draws ∧
    (State.latchSure s die b plots unit detail kind sure).hbm = s.hbm ∧
    (State.latchSure s die b plots unit detail kind sure).host = s.host ∧
    (State.latchSure s die b plots unit detail kind sure).pkg = s.pkg ∧
    (State.latchSure s die b plots unit detail kind sure).clocks = s.clocks ∧
    (State.latchSure s die b plots unit detail kind sure).engines = s.engines ∧
    (State.latchSure s die b plots unit detail kind sure).slabs = s.slabs ∧
    (State.latchSure s die b plots unit detail kind sure).rings = s.rings ∧
    (State.latchSure s die b plots unit detail kind sure).stash = s.stash ∧
    (State.latchSure s die b plots unit detail kind sure).matJobs = s.matJobs ∧
    (State.latchSure s die b plots unit detail kind sure).vecJobs = s.vecJobs ∧
    (State.latchSure s die b plots unit detail kind sure).fabric = s.fabric ∧
    (State.latchSure s die b plots unit detail kind sure).ports = s.ports ∧
    (State.latchSure s die b plots unit detail kind sure).puts = s.puts ∧
    (State.latchSure s die b plots unit detail kind sure).tags = s.tags ∧
    (State.latchSure s die b plots unit detail kind sure).mgr = s.mgr ∧
    (State.latchSure s die b plots unit detail kind sure).mac = s.mac ∧
    (State.latchSure s die b plots unit detail kind sure).sec = s.sec ∧
    (State.latchSure s die b plots unit detail kind sure).cores = s.cores ∧
    (State.latchSure s die b plots unit detail kind sure).power = s.power ∧
    (State.latchSure s die b plots unit detail kind sure).maint = s.maint ∧
    (State.latchSure s die b plots unit detail kind sure).glob = s.glob := by
  unfold State.latchSure
  try dsimp only
  (repeat' split) <;> first | (simp; done) | (simp (disch := (intros; (repeat' split) <;> first | simp | skip)); done)

@[simp] theorem State.latch_frame (s : State) (die b : Nat) (plots : List Nat) (unit detail kind : Nat) :
    (State.latch s die b plots unit detail kind).pending = s.pending ∧
    (State.latch s die b plots unit detail kind).draws = s.draws ∧
    (State.latch s die b plots unit detail kind).hbm = s.hbm ∧
    (State.latch s die b plots unit detail kind).host = s.host ∧
    (State.latch s die b plots unit detail kind).pkg = s.pkg ∧
    (State.latch s die b plots unit detail kind).clocks = s.clocks ∧
    (State.latch s die b plots unit detail kind).engines = s.engines ∧
    (State.latch s die b plots unit detail kind).slabs = s.slabs ∧
    (State.latch s die b plots unit detail kind).rings = s.rings ∧
    (State.latch s die b plots unit detail kind).stash = s.stash ∧
    (State.latch s die b plots unit detail kind).matJobs = s.matJobs ∧
    (State.latch s die b plots unit detail kind).vecJobs = s.vecJobs ∧
    (State.latch s die b plots unit detail kind).fabric = s.fabric ∧
    (State.latch s die b plots unit detail kind).ports = s.ports ∧
    (State.latch s die b plots unit detail kind).puts = s.puts ∧
    (State.latch s die b plots unit detail kind).tags = s.tags ∧
    (State.latch s die b plots unit detail kind).mgr = s.mgr ∧
    (State.latch s die b plots unit detail kind).mac = s.mac ∧
    (State.latch s die b plots unit detail kind).sec = s.sec ∧
    (State.latch s die b plots unit detail kind).cores = s.cores ∧
    (State.latch s die b plots unit detail kind).power = s.power ∧
    (State.latch s die b plots unit detail kind).maint = s.maint ∧
    (State.latch s die b plots unit detail kind).glob = s.glob := by
  unfold State.latch
  try dsimp only
  (repeat' split) <;> first | (simp; done) | (simp (disch := (intros; (repeat' split) <;> first | simp | skip)); done)

@[simp] theorem State.latchReplay_frame (s : State) (die b : Nat) (plots : List Nat) (unit : Nat) (waits : List (Nat × Nat)) :
    (State.latchReplay s die b plots unit waits).pending = s.pending ∧
    (State.latchReplay s die b plots unit waits).draws = s.draws ∧
    (State.latchReplay s die b plots unit waits).hbm = s.hbm ∧
    (State.latchReplay s die b plots unit waits).host = s.host ∧
    (State.latchReplay s die b plots unit waits).pkg = s.pkg ∧
    (State.latchReplay s die b plots unit waits).clocks = s.clocks ∧
    (State.latchReplay s die b plots unit waits).engines = s.engines ∧
    (State.latchReplay s die b plots unit waits).slabs = s.slabs ∧
    (State.latchReplay s die b plots unit waits).rings = s.rings ∧
    (State.latchReplay s die b plots unit waits).stash = s.stash ∧
    (State.latchReplay s die b plots unit waits).matJobs = s.matJobs ∧
    (State.latchReplay s die b plots unit waits).vecJobs = s.vecJobs ∧
    (State.latchReplay s die b plots unit waits).fabric = s.fabric ∧
    (State.latchReplay s die b plots unit waits).ports = s.ports ∧
    (State.latchReplay s die b plots unit waits).puts = s.puts ∧
    (State.latchReplay s die b plots unit waits).tags = s.tags ∧
    (State.latchReplay s die b plots unit waits).mgr = s.mgr ∧
    (State.latchReplay s die b plots unit waits).mac = s.mac ∧
    (State.latchReplay s die b plots unit waits).sec = s.sec ∧
    (State.latchReplay s die b plots unit waits).cores = s.cores ∧
    (State.latchReplay s die b plots unit waits).power = s.power ∧
    (State.latchReplay s die b plots unit waits).maint = s.maint ∧
    (State.latchReplay s die b plots unit waits).glob = s.glob := by
  unfold State.latchReplay
  try dsimp only
  (repeat' split) <;> first | (simp; done) | (simp (disch := (intros; (repeat' split) <;> first | simp | skip)); done)

@[simp] theorem State.latchIn_frame (s : State) (dies : List Nat) (b : Nat) (plots : List Nat) (unit detail kind : Nat) :
    (State.latchIn s dies b plots unit detail kind).pending = s.pending ∧
    (State.latchIn s dies b plots unit detail kind).draws = s.draws ∧
    (State.latchIn s dies b plots unit detail kind).hbm = s.hbm ∧
    (State.latchIn s dies b plots unit detail kind).host = s.host ∧
    (State.latchIn s dies b plots unit detail kind).pkg = s.pkg ∧
    (State.latchIn s dies b plots unit detail kind).clocks = s.clocks ∧
    (State.latchIn s dies b plots unit detail kind).engines = s.engines ∧
    (State.latchIn s dies b plots unit detail kind).slabs = s.slabs ∧
    (State.latchIn s dies b plots unit detail kind).rings = s.rings ∧
    (State.latchIn s dies b plots unit detail kind).stash = s.stash ∧
    (State.latchIn s dies b plots unit detail kind).matJobs = s.matJobs ∧
    (State.latchIn s dies b plots unit detail kind).vecJobs = s.vecJobs ∧
    (State.latchIn s dies b plots unit detail kind).fabric = s.fabric ∧
    (State.latchIn s dies b plots unit detail kind).ports = s.ports ∧
    (State.latchIn s dies b plots unit detail kind).puts = s.puts ∧
    (State.latchIn s dies b plots unit detail kind).tags = s.tags ∧
    (State.latchIn s dies b plots unit detail kind).mgr = s.mgr ∧
    (State.latchIn s dies b plots unit detail kind).mac = s.mac ∧
    (State.latchIn s dies b plots unit detail kind).sec = s.sec ∧
    (State.latchIn s dies b plots unit detail kind).cores = s.cores ∧
    (State.latchIn s dies b plots unit detail kind).power = s.power ∧
    (State.latchIn s dies b plots unit detail kind).maint = s.maint ∧
    (State.latchIn s dies b plots unit detail kind).glob = s.glob := by
  unfold State.latchIn
  try dsimp only
  (repeat' split) <;> first | (simp; done) | (simp (disch := (intros; (repeat' split) <;> first | simp | skip)); done)

@[simp] theorem State.latch0_frame (s : State) (die b : Nat) :
    (State.latch0 s die b).pending = s.pending ∧ (State.latch0 s die b).draws = s.draws ∧
    (State.latch0 s die b).hbm = s.hbm ∧ (State.latch0 s die b).host = s.host ∧
    (State.latch0 s die b).pkg = s.pkg ∧ (State.latch0 s die b).clocks = s.clocks ∧
    (State.latch0 s die b).engines = s.engines ∧ (State.latch0 s die b).slabs = s.slabs ∧
    (State.latch0 s die b).rings = s.rings ∧ (State.latch0 s die b).stash = s.stash ∧
    (State.latch0 s die b).matJobs = s.matJobs ∧ (State.latch0 s die b).vecJobs = s.vecJobs ∧
    (State.latch0 s die b).fabric = s.fabric ∧ (State.latch0 s die b).ports = s.ports ∧
    (State.latch0 s die b).puts = s.puts ∧ (State.latch0 s die b).tags = s.tags ∧
    (State.latch0 s die b).mgr = s.mgr ∧ (State.latch0 s die b).mac = s.mac ∧ (State.latch0 s die b).sec = s.sec ∧
    (State.latch0 s die b).cores = s.cores ∧ (State.latch0 s die b).power = s.power ∧
    (State.latch0 s die b).maint = s.maint ∧ (State.latch0 s die b).glob = s.glob := by
  unfold State.latch0
  try dsimp only
  (repeat' split) <;> first | (simp; done) | (simp (disch := (intros; (repeat' split) <;> first | simp | skip)); done)

@[simp] theorem State.faultWriteBack_frame (s : State) (die v : Nat) :
    (State.faultWriteBack s die v).pending = s.pending ∧ (State.faultWriteBack s die v).draws = s.draws ∧
    (State.faultWriteBack s die v).out = s.out ∧ (State.faultWriteBack s die v).hbm = s.hbm ∧
    (State.faultWriteBack s die v).host = s.host ∧ (State.faultWriteBack s die v).pkg = s.pkg ∧
    (State.faultWriteBack s die v).flash = s.flash ∧ (State.faultWriteBack s die v).clocks = s.clocks ∧
    (State.faultWriteBack s die v).engines = s.engines ∧ (State.faultWriteBack s die v).slabs = s.slabs ∧
    (State.faultWriteBack s die v).rings = s.rings ∧ (State.faultWriteBack s die v).plots = s.plots ∧
    (State.faultWriteBack s die v).stash = s.stash ∧ (State.faultWriteBack s die v).matJobs = s.matJobs ∧
    (State.faultWriteBack s die v).vecJobs = s.vecJobs ∧ (State.faultWriteBack s die v).fabric = s.fabric ∧
    (State.faultWriteBack s die v).ports = s.ports ∧ (State.faultWriteBack s die v).puts = s.puts ∧
    (State.faultWriteBack s die v).tags = s.tags ∧ (State.faultWriteBack s die v).mgr = s.mgr ∧
    (State.faultWriteBack s die v).mac = s.mac ∧ (State.faultWriteBack s die v).pcie = s.pcie ∧
    (State.faultWriteBack s die v).sec = s.sec ∧ (State.faultWriteBack s die v).cores = s.cores ∧
    (State.faultWriteBack s die v).power = s.power ∧ (State.faultWriteBack s die v).maint = s.maint ∧
    (State.faultWriteBack s die v).glob = s.glob := by
  unfold State.faultWriteBack
  try dsimp only
  (repeat' split) <;> first | (simp; done) | (simp (disch := (intros; (repeat' split) <;> first | simp | skip)); done)

@[simp] theorem State.wsq_frame (s : State) (seq : Fld) :
    (State.wsq s seq).pending = s.pending ∧ (State.wsq s seq).draws = s.draws ∧ (State.wsq s seq).out = s.out ∧
    (State.wsq s seq).hbm = s.hbm ∧ (State.wsq s seq).host = s.host ∧ (State.wsq s seq).pkg = s.pkg ∧
    (State.wsq s seq).flash = s.flash ∧ (State.wsq s seq).clocks = s.clocks ∧
    (State.wsq s seq).engines = s.engines ∧ (State.wsq s seq).slabs = s.slabs ∧ (State.wsq s seq).rings = s.rings ∧
    (State.wsq s seq).plots = s.plots ∧ (State.wsq s seq).stash = s.stash ∧ (State.wsq s seq).matJobs = s.matJobs ∧
    (State.wsq s seq).vecJobs = s.vecJobs ∧ (State.wsq s seq).fabric = s.fabric ∧
    (State.wsq s seq).ports = s.ports ∧ (State.wsq s seq).puts = s.puts ∧ (State.wsq s seq).tags = s.tags ∧
    (State.wsq s seq).mgr = s.mgr ∧ (State.wsq s seq).mac = s.mac ∧ (State.wsq s seq).pcie = s.pcie ∧
    (State.wsq s seq).sec = s.sec ∧ (State.wsq s seq).cores = s.cores ∧ (State.wsq s seq).power = s.power ∧
    (State.wsq s seq).faults = s.faults ∧ (State.wsq s seq).maint = s.maint ∧ (State.wsq s seq).glob = s.glob := by
  unfold State.wsq
  try dsimp only
  (repeat' split) <;> first | (simp; done) | (simp (disch := (intros; (repeat' split) <;> first | simp | skip)); done)

@[simp] theorem State.wsqBack_frame (s : State) (seq : Fld) (v : Nat) (flags : List Fld) :
    (State.wsqBack s seq v flags).pending = s.pending ∧ (State.wsqBack s seq v flags).draws = s.draws ∧
    (State.wsqBack s seq v flags).out = s.out ∧ (State.wsqBack s seq v flags).hbm = s.hbm ∧
    (State.wsqBack s seq v flags).host = s.host ∧ (State.wsqBack s seq v flags).pkg = s.pkg ∧
    (State.wsqBack s seq v flags).flash = s.flash ∧ (State.wsqBack s seq v flags).clocks = s.clocks ∧
    (State.wsqBack s seq v flags).engines = s.engines ∧ (State.wsqBack s seq v flags).slabs = s.slabs ∧
    (State.wsqBack s seq v flags).rings = s.rings ∧ (State.wsqBack s seq v flags).plots = s.plots ∧
    (State.wsqBack s seq v flags).stash = s.stash ∧ (State.wsqBack s seq v flags).matJobs = s.matJobs ∧
    (State.wsqBack s seq v flags).vecJobs = s.vecJobs ∧ (State.wsqBack s seq v flags).fabric = s.fabric ∧
    (State.wsqBack s seq v flags).ports = s.ports ∧ (State.wsqBack s seq v flags).puts = s.puts ∧
    (State.wsqBack s seq v flags).tags = s.tags ∧ (State.wsqBack s seq v flags).mgr = s.mgr ∧
    (State.wsqBack s seq v flags).mac = s.mac ∧ (State.wsqBack s seq v flags).pcie = s.pcie ∧
    (State.wsqBack s seq v flags).sec = s.sec ∧ (State.wsqBack s seq v flags).cores = s.cores ∧
    (State.wsqBack s seq v flags).power = s.power ∧ (State.wsqBack s seq v flags).faults = s.faults ∧
    (State.wsqBack s seq v flags).maint = s.maint ∧ (State.wsqBack s seq v flags).glob = s.glob := by
  unfold State.wsqBack
  try dsimp only
  (repeat' split) <;> first | (simp; done) | (simp (disch := (intros; (repeat' split) <;> first | simp | skip)); done)

end Sys2Proof.Machine
end

