-- ==== Sys2Proof/Laws/FrameArbiter.lean ====
section
/-! SUPPORT. Frames of the operations of Arbiter. -/

namespace Sys2Proof.Machine

@[simp] theorem State.refreshMaint_frame (s : State) :
    (State.refreshMaint s).pending = s.pending ∧ (State.refreshMaint s).draws = s.draws ∧
    (State.refreshMaint s).out = s.out ∧ (State.refreshMaint s).hbm = s.hbm ∧
    (State.refreshMaint s).host = s.host ∧ (State.refreshMaint s).pkg = s.pkg ∧
    (State.refreshMaint s).flash = s.flash ∧ (State.refreshMaint s).clocks = s.clocks ∧
    (State.refreshMaint s).engines = s.engines ∧ (State.refreshMaint s).slabs = s.slabs ∧
    (State.refreshMaint s).rings = s.rings ∧ (State.refreshMaint s).plots = s.plots ∧
    (State.refreshMaint s).stash = s.stash ∧ (State.refreshMaint s).matJobs = s.matJobs ∧
    (State.refreshMaint s).vecJobs = s.vecJobs ∧ (State.refreshMaint s).fabric = s.fabric ∧
    (State.refreshMaint s).ports = s.ports ∧ (State.refreshMaint s).puts = s.puts ∧
    (State.refreshMaint s).tags = s.tags ∧ (State.refreshMaint s).mgr = s.mgr ∧
    (State.refreshMaint s).mac = s.mac ∧ (State.refreshMaint s).pcie = s.pcie ∧
    (State.refreshMaint s).sec = s.sec ∧ (State.refreshMaint s).cores = s.cores ∧
    (State.refreshMaint s).power = s.power ∧ (State.refreshMaint s).faults = s.faults ∧
    (State.refreshMaint s).maint = s.maint ∧ (State.refreshMaint s).glob = s.glob := by
  unfold State.refreshMaint
  try dsimp only
  (repeat' split) <;> first | (simp; done) | (simp (disch := (intros; (repeat' split) <;> first | simp | skip)); done)

@[simp] theorem State.lockRequest_frame (s : State) (l : Lock) :
    (State.lockRequest s l).pending = s.pending ∧ (State.lockRequest s l).draws = s.draws ∧
    (State.lockRequest s l).out = s.out ∧ (State.lockRequest s l).hbm = s.hbm ∧
    (State.lockRequest s l).host = s.host ∧ (State.lockRequest s l).pkg = s.pkg ∧
    (State.lockRequest s l).flash = s.flash ∧ (State.lockRequest s l).clocks = s.clocks ∧
    (State.lockRequest s l).engines = s.engines ∧ (State.lockRequest s l).slabs = s.slabs ∧
    (State.lockRequest s l).rings = s.rings ∧ (State.lockRequest s l).plots = s.plots ∧
    (State.lockRequest s l).stash = s.stash ∧ (State.lockRequest s l).matJobs = s.matJobs ∧
    (State.lockRequest s l).vecJobs = s.vecJobs ∧ (State.lockRequest s l).fabric = s.fabric ∧
    (State.lockRequest s l).ports = s.ports ∧ (State.lockRequest s l).puts = s.puts ∧
    (State.lockRequest s l).tags = s.tags ∧ (State.lockRequest s l).mgr = s.mgr ∧
    (State.lockRequest s l).mac = s.mac ∧ (State.lockRequest s l).pcie = s.pcie ∧
    (State.lockRequest s l).sec = s.sec ∧ (State.lockRequest s l).cores = s.cores ∧
    (State.lockRequest s l).power = s.power ∧ (State.lockRequest s l).faults = s.faults ∧
    (State.lockRequest s l).glob = s.glob := by
  unfold State.lockRequest
  try dsimp only
  (repeat' split) <;> first | (simp; done) | (simp (disch := (intros; (repeat' split) <;> first | simp | skip)); done)

@[simp] theorem State.lockRelease_frame (s : State) (l : Lock) :
    (State.lockRelease s l).pending = s.pending ∧ (State.lockRelease s l).draws = s.draws ∧
    (State.lockRelease s l).out = s.out ∧ (State.lockRelease s l).hbm = s.hbm ∧
    (State.lockRelease s l).host = s.host ∧ (State.lockRelease s l).pkg = s.pkg ∧
    (State.lockRelease s l).flash = s.flash ∧ (State.lockRelease s l).clocks = s.clocks ∧
    (State.lockRelease s l).engines = s.engines ∧ (State.lockRelease s l).slabs = s.slabs ∧
    (State.lockRelease s l).rings = s.rings ∧ (State.lockRelease s l).plots = s.plots ∧
    (State.lockRelease s l).stash = s.stash ∧ (State.lockRelease s l).matJobs = s.matJobs ∧
    (State.lockRelease s l).vecJobs = s.vecJobs ∧ (State.lockRelease s l).fabric = s.fabric ∧
    (State.lockRelease s l).ports = s.ports ∧ (State.lockRelease s l).puts = s.puts ∧
    (State.lockRelease s l).tags = s.tags ∧ (State.lockRelease s l).mgr = s.mgr ∧
    (State.lockRelease s l).mac = s.mac ∧ (State.lockRelease s l).pcie = s.pcie ∧
    (State.lockRelease s l).sec = s.sec ∧ (State.lockRelease s l).cores = s.cores ∧
    (State.lockRelease s l).power = s.power ∧ (State.lockRelease s l).faults = s.faults ∧
    (State.lockRelease s l).glob = s.glob := by
  unfold State.lockRelease
  try dsimp only
  (repeat' split) <;> first | (simp; done) | (simp (disch := (intros; (repeat' split) <;> first | simp | skip)); done)

@[simp] theorem State.lockAbandon_frame (s : State) (l : Lock) :
    (State.lockAbandon s l).pending = s.pending ∧ (State.lockAbandon s l).draws = s.draws ∧
    (State.lockAbandon s l).out = s.out ∧ (State.lockAbandon s l).hbm = s.hbm ∧
    (State.lockAbandon s l).host = s.host ∧ (State.lockAbandon s l).pkg = s.pkg ∧
    (State.lockAbandon s l).flash = s.flash ∧ (State.lockAbandon s l).clocks = s.clocks ∧
    (State.lockAbandon s l).engines = s.engines ∧ (State.lockAbandon s l).slabs = s.slabs ∧
    (State.lockAbandon s l).rings = s.rings ∧ (State.lockAbandon s l).plots = s.plots ∧
    (State.lockAbandon s l).stash = s.stash ∧ (State.lockAbandon s l).matJobs = s.matJobs ∧
    (State.lockAbandon s l).vecJobs = s.vecJobs ∧ (State.lockAbandon s l).fabric = s.fabric ∧
    (State.lockAbandon s l).ports = s.ports ∧ (State.lockAbandon s l).puts = s.puts ∧
    (State.lockAbandon s l).tags = s.tags ∧ (State.lockAbandon s l).mgr = s.mgr ∧
    (State.lockAbandon s l).mac = s.mac ∧ (State.lockAbandon s l).pcie = s.pcie ∧
    (State.lockAbandon s l).sec = s.sec ∧ (State.lockAbandon s l).cores = s.cores ∧
    (State.lockAbandon s l).power = s.power ∧ (State.lockAbandon s l).faults = s.faults ∧
    (State.lockAbandon s l).glob = s.glob := by
  unfold State.lockAbandon
  try dsimp only
  (repeat' split) <;> first | (simp; done) | (simp (disch := (intros; (repeat' split) <;> first | simp | skip)); done)

end Sys2Proof.Machine
end

