-- ==== Sys2Proof/Laws/Tab.lean ====
section
/-! SUPPORT. What the sparse tables do: reading after a change, and the canonical form that every change
keeps. -/

namespace Sys2Proof.Machine

theorem Tab.look_del_same {α : Type} (t : Tab α) (k : Nat) : Tab.look (Tab.del t k) k = none := by
  induction t with
  | nil => rfl
  | cons e t ih => unfold Tab.del; split <;> simp_all [Tab.look]

theorem Tab.look_del_other {α : Type} (t : Tab α) {k j : Nat} (h : j ≠ k) :
    Tab.look (Tab.del t k) j = Tab.look t j := by
  induction t with
  | nil => rfl
  | cons e t ih =>
    unfold Tab.del
    split
    · rename_i he; rw [ih]; simp [Tab.look, he, Ne.symm h]
    · simp [Tab.look, ih]

theorem Tab.look_ins_same {α : Type} (t : Tab α) (k : Nat) (v : α) : Tab.look (Tab.ins t k v) k = some v := by
  induction t with
  | nil => simp [Tab.ins, Tab.look]
  | cons e t ih =>
    unfold Tab.ins
    split
    · simp [Tab.look]
    · split
      · simp [Tab.look]
      · rename_i h; simp [Tab.look, ih, Ne.symm h]

theorem Tab.look_ins_other {α : Type} (t : Tab α) {k j : Nat} (v : α) (h : j ≠ k) :
    Tab.look (Tab.ins t k v) j = Tab.look t j := by
  induction t with
  | nil => simp [Tab.ins, Tab.look, Ne.symm h]
  | cons e t ih =>
    unfold Tab.ins
    split
    · simp [Tab.look, Ne.symm h]
    · split
      · rename_i hk; simp [Tab.look, ← hk, Ne.symm h]
      · simp [Tab.look, ih]

@[simp] theorem Tab.valD_putD_same {α : Type} [DecidableEq α] (t : Tab α) (k : Nat) (v d : α) :
    Tab.valD (Tab.putD t k v d) k d = v := by
  unfold Tab.putD Tab.valD
  split
  · rename_i h; simp [Tab.look_del_same, h]
  · simp [Tab.look_ins_same]

theorem Tab.valD_putD_other {α : Type} [DecidableEq α] (t : Tab α) {k j : Nat} (v d d' : α) (h : j ≠ k) :
    Tab.valD (Tab.putD t k v d) j d' = Tab.valD t j d' := by
  unfold Tab.putD Tab.valD
  split
  · rw [Tab.look_del_other t h]
  · rw [Tab.look_ins_other t v h]

@[simp] theorem Tab.val_put_same {α : Type} [Inhabited α] [DecidableEq α] (t : Tab α) (k : Nat) (v : α) :
    Tab.val (Tab.put t k v) k = v := Tab.valD_putD_same t k v default

theorem Tab.val_put_other {α : Type} [Inhabited α] [DecidableEq α] (t : Tab α) {k j : Nat} (v : α) (h : j ≠ k) :
    Tab.val (Tab.put t k v) j = Tab.val t j := Tab.valD_putD_other t v default default h

@[simp] theorem Tab.val_upd_same {α : Type} [Inhabited α] [DecidableEq α] (t : Tab α) (k : Nat) (f : α → α) :
    Tab.val (Tab.upd t k f) k = f (Tab.val t k) := Tab.val_put_same t k _

theorem Tab.val_upd_other {α : Type} [Inhabited α] [DecidableEq α] (t : Tab α) {k j : Nat} (f : α → α)
    (h : j ≠ k) : Tab.val (Tab.upd t k f) j = Tab.val t j := Tab.val_put_other t _ h

/-! ### The canonical form -/

theorem Tab.rises_lower {α : Type} (t : Tab α) {a b : Nat} (h : a ≤ b) (ht : Tab.rises t b = true) :
    Tab.rises t a = true := by
  cases t with
  | nil => rfl
  | cons e t =>
    simp only [Tab.rises, Bool.and_eq_true, decide_eq_true_eq] at ht ⊢
    exact ⟨by omega, ht.2⟩

theorem Tab.rises_del {α : Type} (t : Tab α) (k : Nat) :
    ∀ lo, Tab.rises t lo = true → Tab.rises (Tab.del t k) lo = true := by
  induction t with
  | nil => intro lo h; exact h
  | cons e t ih =>
    intro lo h
    simp only [Tab.rises, Bool.and_eq_true, decide_eq_true_eq] at h
    unfold Tab.del
    split
    · exact ih lo (Tab.rises_lower t (by omega) h.2)
    · simp only [Tab.rises, Bool.and_eq_true, decide_eq_true_eq]; exact ⟨h.1, ih _ h.2⟩

theorem Tab.rises_ins {α : Type} (t : Tab α) (k : Nat) (v : α) :
    ∀ lo, lo ≤ k → Tab.rises t lo = true → Tab.rises (Tab.ins t k v) lo = true := by
  induction t with
  | nil => intro lo hk _; simp [Tab.ins, Tab.rises, hk]
  | cons e t ih =>
    intro lo hk h
    simp only [Tab.rises, Bool.and_eq_true, decide_eq_true_eq] at h
    unfold Tab.ins
    split
    · simp only [Tab.rises, Bool.and_eq_true, decide_eq_true_eq]; exact ⟨hk, by omega, h.2⟩
    · split
      · rename_i hk'; subst hk'; simp only [Tab.rises, Bool.and_eq_true, decide_eq_true_eq]; exact ⟨hk, h.2⟩
      · simp only [Tab.rises, Bool.and_eq_true, decide_eq_true_eq]; exact ⟨h.1, ih _ (by omega) h.2⟩

theorem Tab.all_del {α : Type} (t : Tab α) (k : Nat) (p : Nat × α → Bool) (h : t.all p = true) :
    (Tab.del t k).all p = true := by
  induction t with
  | nil => exact h
  | cons e t ih =>
    simp only [List.all_cons, Bool.and_eq_true] at h
    unfold Tab.del
    split
    · exact ih h.2
    · simp only [List.all_cons, Bool.and_eq_true]; exact ⟨h.1, ih h.2⟩

theorem Tab.all_ins {α : Type} (t : Tab α) (k : Nat) (v : α) (p : Nat × α → Bool) (hp : p (k, v) = true)
    (h : t.all p = true) : (Tab.ins t k v).all p = true := by
  induction t with
  | nil => simp [Tab.ins, hp]
  | cons e t ih =>
    simp only [List.all_cons, Bool.and_eq_true] at h
    unfold Tab.ins
    split
    · simp only [List.all_cons, Bool.and_eq_true]; exact ⟨hp, h.1, h.2⟩
    · split
      · simp only [List.all_cons, Bool.and_eq_true]; exact ⟨hp, h.2⟩
      · simp only [List.all_cons, Bool.and_eq_true]; exact ⟨h.1, ih h.2⟩

theorem Tab.wf_putD {α : Type} [DecidableEq α] (t : Tab α) (k : Nat) (v d : α) (h : Tab.wf t d = true) :
    Tab.wf (Tab.putD t k v d) d = true := by
  simp only [Tab.wf, Bool.and_eq_true] at h ⊢
  unfold Tab.putD
  split
  · exact ⟨Tab.rises_del t k 0 h.1, Tab.all_del t k _ h.2⟩
  · rename_i hv; exact ⟨Tab.rises_ins t k v 0 (Nat.zero_le k) h.1, Tab.all_ins t k v _ (by simpa using hv) h.2⟩

theorem Tab.wf_put {α : Type} [Inhabited α] [DecidableEq α] (t : Tab α) (k : Nat) (v : α)
    (h : Tab.wf t default = true) : Tab.wf (Tab.put t k v) default = true := Tab.wf_putD t k v default h

theorem Tab.rises_filter {α : Type} (p : Nat × α → Bool) (t : Tab α) :
    ∀ lo, Tab.rises t lo = true → Tab.rises (List.filter p t) lo = true := by
  induction t with
  | nil => intro lo h; exact h
  | cons e t ih =>
    intro lo h
    simp only [Tab.rises, Bool.and_eq_true, decide_eq_true_eq] at h
    by_cases hp : p e = true
    · rw [List.filter_cons_of_pos hp]
      simp only [Tab.rises, Bool.and_eq_true, decide_eq_true_eq]; exact ⟨h.1, ih _ h.2⟩
    · rw [List.filter_cons_of_neg hp]; exact ih lo (Tab.rises_lower t (by omega) h.2)

theorem Tab.wf_filter {α : Type} [DecidableEq α] (p : Nat × α → Bool) (t : Tab α) (d : α)
    (h : Tab.wf t d = true) : Tab.wf (List.filter p t) d = true := by
  simp only [Tab.wf, Bool.and_eq_true] at h ⊢
  refine ⟨Tab.rises_filter p t 0 h.1, ?_⟩
  rw [List.all_eq_true] at *
  intro e he
  exact h.2 e ((List.mem_filter.mp he).1)

/-! ### Sets of numbers -/

@[simp] theorem mem_addAsc (x y : Nat) (l : List Nat) : x ∈ addAsc y l ↔ x = y ∨ x ∈ l := by
  induction l with
  | nil => simp [addAsc]
  | cons z l ih =>
    unfold addAsc
    split
    · simp
    · split
      · rename_i h; subst h; simp
      · simp only [List.mem_cons, ih]; constructor <;> (intro h; rcases h with h | h | h <;> simp [h])

@[simp] theorem mem_without (x y : Nat) (l : List Nat) : x ∈ without y l ↔ x ∈ l ∧ x ≠ y := by
  simp [without]

/-! ### Byte memories -/

theorem Memory.wf_nil : Memory.wf [] = true := rfl

/-- A byte put into a memory keeps its canonical form. -/
theorem Memory.wf_put (m : Memory) (a : Nat) (b : Byte) (h : Memory.wf m = true) :
    Memory.wf (Tab.put m a b) = true := Tab.wf_put m a b h

/-- Bytes taken out of a memory keep its canonical form. -/
theorem Memory.wf_filter (m : Memory) (p : Nat × Byte → Bool) (h : Memory.wf m = true) :
    Memory.wf (List.filter p m) = true := Tab.wf_filter p m 0 h

end Sys2Proof.Machine
end

