-- ==== Sys2Proof/Laws/Regs.lean ====
section
/-! SUPPORT. What reading and writing a field of a register does: one lemma for a field written, one for any
other field, one for what is no register. -/

namespace Sys2Proof.Machine

@[simp] theorem vote3_same {α : Type} [DecidableEq α] (a d : α) : vote3 a a a d = a := by simp [vote3]

/-- A field reads what its width keeps of the value written; the three copies of an RWT field agree (R497). -/
@[simp] theorem RegFile.rd_wr_same (r : RegFile) (f : Fld) (v : Nat) : (r.wr f v).rd f = v % 2 ^ f.width := by
  unfold RegFile.wr RegFile.rd
  split <;> simp_all

/-- A write leaves every other field as it was. -/
theorem RegFile.rd_wr_other (r : RegFile) {f g : Fld} (v : Nat) (h : g.key ≠ f.key) : (r.wr f v).rd g = r.rd g := by
  unfold RegFile.wr RegFile.rd
  split <;> simp [Tab.valD_putD_other _ _ _ _ h]

@[simp] theorem State.rd_wr_same (s : State) (f : Fld) (v : Nat) : (s.wr f v).rd f = v % 2 ^ f.width :=
  RegFile.rd_wr_same s.regs f v

theorem State.rd_wr_other (s : State) {f g : Fld} (v : Nat) (h : g.key ≠ f.key) : (s.wr f v).rd g = s.rd g :=
  RegFile.rd_wr_other s.regs v h

/-- A state whose registers are not touched reads as before. -/
theorem State.rd_of_regs {s t : State} (h : t.regs = s.regs) (f : Fld) : t.rd f = s.rd f := by
  unfold State.rd; rw [h]

/-- A write of a register changes nothing but the registers. -/
theorem State.wr_eq (s : State) (f : Fld) (v : Nat) : s.wr f v = { s with regs := s.regs.wr f v } := rfl

/-- A saturating counter advanced. -/
theorem State.rd_countUp_same (s : State) (f : Fld) (n : Nat) :
    (s.countUp f n).rd f = min (s.rd f + n) (2 ^ f.width - 1) := by
  have : 0 < 2 ^ f.width := Nat.pow_pos (by omega)
  simp only [State.countUp, State.rd_wr_same]
  exact Nat.mod_eq_of_lt (by omega)

theorem State.rd_countUp_other (s : State) {f g : Fld} (n : Nat) (h : g.key ≠ f.key) :
    (s.countUp f n).rd g = s.rd g := State.rd_wr_other s _ h

/-- A wrapping counter advanced. -/
theorem State.rd_countWrap_same (s : State) (f : Fld) (n : Nat) :
    (s.countWrap f n).rd f = (s.rd f + n) % 2 ^ f.width := State.rd_wr_same s f _

theorem State.rd_countWrap_other (s : State) {f g : Fld} (n : Nat) (h : g.key ≠ f.key) :
    (s.countWrap f n).rd g = s.rd g := State.rd_wr_other s _ h

end Sys2Proof.Machine
end

