-- ==== Sys2Proof/Laws/Flags.lean ====
section
/-! SUPPORT. What latching a fault does (R443 to R453), said once, and what maintenance locks leave alone. -/

namespace Sys2Proof.Machine

/-! ### Bits of a field -/

theorem bit_withBit_same (v i : Nat) (b : Bool) : bit (withBit v i b) i = b := by
  have hp : 0 < 2 ^ i := Nat.two_pow_pos i
  unfold withBit
  split
  · assumption
  · rename_i h
    cases b with
    | true =>
      simp only [bit, decide_eq_true_eq, if_true] at h ⊢
      rw [Nat.add_div_right _ hp]; omega
    | false =>
      simp only [bit, Bool.false_eq_true, if_false, decide_eq_false_iff_not] at h ⊢
      have h2 : 2 ^ i ≤ v := by
        rcases Nat.lt_or_ge v (2 ^ i) with hc | hc
        · rw [Nat.div_eq_of_lt hc] at h; omega
        · exact hc
      have h3 : (v - 2 ^ i) / 2 ^ i = v / 2 ^ i - 1 := by
        have := Nat.sub_mul_div v (2 ^ i) 1
        simpa using this
      rw [h3]; omega

theorem withBit_lt {v i w : Nat} (b : Bool) (hi : i < w) (hv : v < 2 ^ w) : withBit v i b < 2 ^ w := by
  unfold withBit
  split
  · exact hv
  · rename_i h
    split
    · rename_i hb; subst hb
      have hb : bit v i = false := by cases hbv : bit v i <;> simp_all
      simp only [bit, decide_eq_false_iff_not] at hb
      have hp : 0 < 2 ^ i := Nat.two_pow_pos i
      have hw : 2 ^ w = 2 ^ (w - i) * 2 ^ i := by rw [← Nat.pow_add]; congr 1; omega
      have hq : v / 2 ^ i < 2 ^ (w - i) := by
        rw [Nat.div_lt_iff_lt_mul hp]; omega
      have hev : 2 ^ (w - i) % 2 = 0 := by
        have : w - i = (w - i - 1) + 1 := by omega
        rw [this, Nat.pow_succ]; omega
      have hq2 : v / 2 ^ i + 1 < 2 ^ (w - i) := by omega
      have hm := Nat.div_add_mod v (2 ^ i)
      have hl := Nat.mod_lt v hp
      have h4 : 2 ^ i * (v / 2 ^ i + 1 + 1) ≤ 2 ^ i * 2 ^ (w - i) := Nat.mul_le_mul_left _ (by omega)
      rw [Nat.mul_add, Nat.mul_one] at h4
      rw [hw, Nat.mul_comm (2 ^ (w - i))]
      have h5 : 2 ^ i * (v / 2 ^ i + 1) = 2 ^ i * (v / 2 ^ i) + 2 ^ i := by rw [Nat.mul_add, Nat.mul_one]
      omega
    · exact Nat.lt_of_le_of_lt (Nat.sub_le v (2 ^ i)) hv

theorem bit_mod {v i w : Nat} (h : i < w) : bit (v % 2 ^ w) i = bit v i := by
  have := Nat.testBit_mod_two_pow v w i
  simp only [Nat.testBit_eq_decide_div_mod_eq, h, decide_true, Bool.true_and] at this
  exact this

/-- A bit of a field set or cleared reads so. -/
theorem State.rdBit_wrBit_same (s : State) (f : Fld) (i : Nat) (b : Bool) (hi : i < f.width) :
    (s.wrBit f i b).rdBit f i = b := by
  unfold State.rdBit State.wrBit
  rw [State.rd_wr_same, bit_mod hi, bit_withBit_same]

theorem State.rd_wrBit_other (s : State) {f g : Fld} (i : Nat) (b : Bool) (h : g.key ≠ f.key) :
    (s.wrBit f i b).rd g = s.rd g := State.rd_wr_other s _ h

/-! ### Fields outside the fault block -/

theorem State.rd_withFaults (s : State) (v : FaultState) (f : Fld) : State.rd { s with faults := v } f = s.rd f := rfl
theorem State.rd_withFlash (s : State) (v : Flash) (f : Fld) : State.rd { s with flash := v } f = s.rd f := rfl
theorem State.rd_withPcie (s : State) (v : Pcie) (f : Fld) : State.rd { s with pcie := v } f = s.rd f := rfl
theorem State.rd_withMaint (s : State) (v : Maint) (f : Fld) : State.rd { s with maint := v } f = s.rd f := rfl

theorem State.rd_msix (s : State) (a b : Nat) (f : Fld) : (s.msix a b).rd f = s.rd f :=
  State.rd_of_regs (by simp) f

theorem State.rd_refreshFaults (s : State) (f : Fld) (h : ¬ inFaultBlock f) : s.refreshFaults.rd f = s.rd f := by
  unfold inFaultBlock at h
  unfold State.refreshFaults
  dsimp only
  rw [State.rd_withFaults, State.rd_wr_other, State.rd_wr_other] <;> simp [FLT_SUMMARY.DIES, FLT_SUMMARY.HIGHEST] <;> omega

/-- FLT_SUMMARY is all of the registers that a refresh changes. -/
theorem State.rd_refreshFaults_other (s : State) (f : Fld) (h1 : f.key ≠ FLT_SUMMARY.DIES.key)
    (h2 : f.key ≠ FLT_SUMMARY.HIGHEST.key) : s.refreshFaults.rd f = s.rd f := by
  unfold State.refreshFaults
  dsimp only
  rw [State.rd_withFaults, State.rd_wr_other _ _ h2, State.rd_wr_other _ _ h1]

theorem State.faultBit_of_rd {s t : State} {die b : Nat}
    (h1 : t.rd (FLT_WORD_LO.WORD_LO die) = s.rd (FLT_WORD_LO.WORD_LO die))
    (h2 : t.rd (FLT_WORD_HI.WORD_HI die) = s.rd (FLT_WORD_HI.WORD_HI die)) :
    t.faultBit die b = s.faultBit die b := by
  unfold State.faultBit State.rdBit; rw [h1, h2]

theorem State.faultBit_latchBit (s : State) (die b : Nat) (hb : b < 64) : (s.latchBit die b).faultBit die b = true := by
  have h1 : ((s.setFaultBit die b true).countWrap (FLT_SEQ.SEQ die) 1).faultBit die b = true := by
    rw [State.faultBit_of_rd (s := s.setFaultBit die b true)]
    · unfold State.setFaultBit State.faultBit
      split
      · exact State.rdBit_wrBit_same _ _ _ _ (by simp [FLT_WORD_LO.WORD_LO] <;> omega)
      · exact State.rdBit_wrBit_same _ _ _ _ (by simp [FLT_WORD_HI.WORD_HI] <;> omega)
    · exact State.rd_countWrap_other _ _ (by simp [FLT_WORD_LO.WORD_LO, FLT_SEQ.SEQ] <;> omega)
    · exact State.rd_countWrap_other _ _ (by simp [FLT_WORD_HI.WORD_HI, FLT_SEQ.SEQ] <;> omega)
  unfold State.latchBit
  dsimp only
  split
  · exact h1
  · exact h1

theorem State.rd_latchBit (s : State) (die b : Nat) (f : Fld) (hd : die < 25) (h : ¬ inFaultBlock f) :
    (s.latchBit die b).rd f = s.rd f := by
  unfold inFaultBlock at h
  have h1 : ((s.setFaultBit die b true).countWrap (FLT_SEQ.SEQ die) 1).rd f = s.rd f := by
    unfold State.setFaultBit
    rw [State.rd_countWrap_other]
    · split <;> rw [State.rd_wrBit_other] <;> simp [FLT_WORD_LO.WORD_LO, FLT_WORD_HI.WORD_HI] <;> omega
    · simp [FLT_SEQ.SEQ]; omega
  unfold State.latchBit
  dsimp only
  split
  · rw [State.rd_withFaults, h1]
  · exact h1

theorem State.rd_signalFault (s : State) (die b : Nat) (f : Fld) : (s.signalFault die b).rd f = s.rd f :=
  State.rd_of_regs (by simp) f

theorem faultClasses_die {die b : Nat} (h : (faultClasses die b).isEmpty = false) : die < 25 := by
  unfold faultClasses at h
  split at h
  · omega
  · split at h
    · omega
    · split at h
      · omega
      · simp at h

/-- A latch sets its bit. -/
theorem State.faultBit_latchSure (s : State) (die b : Nat) (plots : List Nat) (u d k : Nat) (c : Option Nat)
    (hc : faultClasses die b ≠ []) (hb : b < 64) : (s.latchSure die b plots u d k c).faultBit die b = true := by
  unfold State.latchSure
  split
  · rename_i h; exact absurd (List.isEmpty_iff.mp h) hc
  · dsimp only
    rw [State.faultBit_of_rd (State.rd_signalFault _ _ _ _) (State.rd_signalFault _ _ _ _),
      State.faultBit_of_rd
        (State.rd_refreshFaults_other _ _ (by simp [FLT_WORD_LO.WORD_LO, FLT_SUMMARY.DIES]; omega)
          (by simp [FLT_WORD_LO.WORD_LO, FLT_SUMMARY.HIGHEST]; omega))
        (State.rd_refreshFaults_other _ _ (by simp [FLT_WORD_HI.WORD_HI, FLT_SUMMARY.DIES]; omega)
          (by simp [FLT_WORD_HI.WORD_HI, FLT_SUMMARY.HIGHEST]; omega))]
    have h := State.faultBit_latchBit s die b hb
    (repeat' split) <;> exact h

theorem State.faultBit_latch (s : State) (die b : Nat) (plots : List Nat) (u d k : Nat)
    (hc : faultClasses die b ≠ []) (hb : b < 64) : (s.latch die b plots u d k).faultBit die b = true :=
  State.faultBit_latchSure s die b plots u d k none hc hb

theorem State.faultBit_latch0 (s : State) (die b : Nat) (hc : faultClasses die b ≠ []) (hb : b < 64) :
    (s.latch0 die b).faultBit die b = true := State.faultBit_latch s die b [] 0 0 0 hc hb

/-- A latch leaves every field outside the fault block as it was. -/
theorem State.rd_latchSure (s : State) (die b : Nat) (plots : List Nat) (u d k : Nat) (c : Option Nat) (f : Fld)
    (h : ¬ inFaultBlock f) : (s.latchSure die b plots u d k c).rd f = s.rd f := by
  unfold State.latchSure
  split
  · rfl
  · rename_i he
    have hd := faultClasses_die (by simpa using he)
    dsimp only
    rw [State.rd_signalFault, State.rd_refreshFaults _ _ h]
    (repeat' split)
    all_goals first
      | exact State.rd_latchBit s die b f hd h
      | (unfold State.logFault; rw [State.rd_withFlash]; exact State.rd_latchBit s die b f hd h)
      | (rw [State.rd_withFaults]; exact State.rd_latchBit s die b f hd h)

theorem State.rd_latch (s : State) (die b : Nat) (plots : List Nat) (u d k : Nat) (f : Fld)
    (h : ¬ inFaultBlock f) : (s.latch die b plots u d k).rd f = s.rd f := State.rd_latchSure s die b plots u d k none f h

theorem State.rd_latch0 (s : State) (die b : Nat) (f : Fld) (h : ¬ inFaultBlock f) :
    (s.latch0 die b).rd f = s.rd f := State.rd_latch s die b [] 0 0 0 f h

/-! ### Maintenance locks (FLT_MAINT_STS and CNT_MAINT lie in the fault block) -/

theorem State.rd_refreshMaint (s : State) (f : Fld) (h : ¬ inFaultBlock f) : s.refreshMaint.rd f = s.rd f := by
  unfold inFaultBlock at h
  unfold State.refreshMaint
  dsimp only
  rw [State.rd_wr_other, State.rd_wr_other] <;> simp [FLT_MAINT_STS.ACTIVE, FLT_MAINT_STS.WAITING] <;> omega

theorem State.rd_lockRequest (s : State) (l : Lock) (f : Fld) (h : ¬ inFaultBlock f) :
    (s.lockRequest l).rd f = s.rd f := by
  unfold State.lockRequest
  split
  · rfl
  · split
    · dsimp only
      rw [State.rd_refreshMaint _ _ h, State.rd_withMaint, State.rd_countUp_other]
      unfold inFaultBlock at h; simp [CNT_MAINT.WAITS]; omega
    · rw [State.rd_refreshMaint _ _ h, State.rd_withMaint]

theorem State.rd_lockRelease (s : State) (l : Lock) (f : Fld) (h : ¬ inFaultBlock f) :
    (s.lockRelease l).rd f = s.rd f := by
  unfold State.lockRelease
  dsimp only
  rw [State.rd_refreshMaint _ _ h, State.rd_withMaint]

theorem State.rd_lockAbandon (s : State) (l : Lock) (f : Fld) (h : ¬ inFaultBlock f) :
    (s.lockAbandon l).rd f = s.rd f := by
  unfold State.lockAbandon
  split
  · rw [State.rd_countUp_other, State.rd_lockRelease _ _ _ h]
    unfold inFaultBlock at h; simp [CNT_MAINT.ABANDONED]; omega
  · rw [State.rd_refreshMaint _ _ h, State.rd_withMaint]

end Sys2Proof.Machine
end

