-- ==== Sys2Proof/Laws/FrameEnvelope.lean ====
section
/-! SUPPORT. Frames of the operations of Envelope. -/

namespace Sys2Proof.Machine

@[simp] theorem State.refreshEnvelope_frame (s : State) :
    (State.refreshEnvelope s).pending = s.pending ∧ (State.refreshEnvelope s).draws = s.draws ∧
    (State.refreshEnvelope s).out = s.out ∧ (State.refreshEnvelope s).hbm = s.hbm ∧
    (State.refreshEnvelope s).host = s.host ∧ (State.refreshEnvelope s).pkg = s.pkg ∧
    (State.refreshEnvelope s).flash = s.flash ∧ (State.refreshEnvelope s).clocks = s.clocks ∧
    (State.refreshEnvelope s).engines = s.engines ∧ (State.refreshEnvelope s).slabs = s.slabs ∧
    (State.refreshEnvelope s).rings = s.rings ∧ (State.refreshEnvelope s).plots = s.plots ∧
    (State.refreshEnvelope s).stash = s.stash ∧ (State.refreshEnvelope s).matJobs = s.matJobs ∧
    (State.refreshEnvelope s).vecJobs = s.vecJobs ∧ (State.refreshEnvelope s).fabric = s.fabric ∧
    (State.refreshEnvelope s).ports = s.ports ∧ (State.refreshEnvelope s).puts = s.puts ∧
    (State.refreshEnvelope s).tags = s.tags ∧ (State.refreshEnvelope s).mgr = s.mgr ∧
    (State.refreshEnvelope s).mac = s.mac ∧ (State.refreshEnvelope s).pcie = s.pcie ∧
    (State.refreshEnvelope s).sec = s.sec ∧ (State.refreshEnvelope s).cores = s.cores ∧
    (State.refreshEnvelope s).faults = s.faults ∧ (State.refreshEnvelope s).maint = s.maint ∧
    (State.refreshEnvelope s).glob = s.glob := by
  unfold State.refreshEnvelope
  try dsimp only
  (repeat' split) <;> first | (simp; done) | (simp (disch := (intros; (repeat' split) <;> first | simp | skip)); done)

end Sys2Proof.Machine
end

