-- ==== Sys2Proof/Laws/FrameLinkOps.lean ====
section
/-! SUPPORT. Frames of the operations of LinkOps. -/

namespace Sys2Proof.Machine

@[simp] theorem State.wantPath_frame (s : State) (p : Nat) :
    (State.wantPath s p).pending = s.pending ∧ (State.wantPath s p).draws = s.draws ∧
    (State.wantPath s p).out = s.out ∧ (State.wantPath s p).regs = s.regs ∧ (State.wantPath s p).hbm = s.hbm ∧
    (State.wantPath s p).host = s.host ∧ (State.wantPath s p).pkg = s.pkg ∧ (State.wantPath s p).flash = s.flash ∧
    (State.wantPath s p).clocks = s.clocks ∧ (State.wantPath s p).engines = s.engines ∧
    (State.wantPath s p).slabs = s.slabs ∧ (State.wantPath s p).rings = s.rings ∧
    (State.wantPath s p).plots = s.plots ∧ (State.wantPath s p).stash = s.stash ∧
    (State.wantPath s p).matJobs = s.matJobs ∧ (State.wantPath s p).vecJobs = s.vecJobs ∧
    (State.wantPath s p).ports = s.ports ∧ (State.wantPath s p).puts = s.puts ∧
    (State.wantPath s p).tags = s.tags ∧ (State.wantPath s p).mgr = s.mgr ∧ (State.wantPath s p).mac = s.mac ∧
    (State.wantPath s p).pcie = s.pcie ∧ (State.wantPath s p).sec = s.sec ∧ (State.wantPath s p).cores = s.cores ∧
    (State.wantPath s p).power = s.power ∧ (State.wantPath s p).faults = s.faults ∧
    (State.wantPath s p).maint = s.maint ∧ (State.wantPath s p).glob = s.glob := by
  unfold State.wantPath
  try dsimp only
  (repeat' split) <;> first | (simp; done) | (simp (disch := (intros; (repeat' split) <;> first | simp | skip)); done)

@[simp] theorem State.wantAdder_frame (s : State) (p : Nat) :
    (State.wantAdder s p).pending = s.pending ∧ (State.wantAdder s p).draws = s.draws ∧
    (State.wantAdder s p).out = s.out ∧ (State.wantAdder s p).regs = s.regs ∧ (State.wantAdder s p).hbm = s.hbm ∧
    (State.wantAdder s p).host = s.host ∧ (State.wantAdder s p).pkg = s.pkg ∧
    (State.wantAdder s p).flash = s.flash ∧ (State.wantAdder s p).clocks = s.clocks ∧
    (State.wantAdder s p).engines = s.engines ∧ (State.wantAdder s p).slabs = s.slabs ∧
    (State.wantAdder s p).rings = s.rings ∧ (State.wantAdder s p).plots = s.plots ∧
    (State.wantAdder s p).stash = s.stash ∧ (State.wantAdder s p).matJobs = s.matJobs ∧
    (State.wantAdder s p).vecJobs = s.vecJobs ∧ (State.wantAdder s p).ports = s.ports ∧
    (State.wantAdder s p).puts = s.puts ∧ (State.wantAdder s p).tags = s.tags ∧ (State.wantAdder s p).mgr = s.mgr ∧
    (State.wantAdder s p).mac = s.mac ∧ (State.wantAdder s p).pcie = s.pcie ∧ (State.wantAdder s p).sec = s.sec ∧
    (State.wantAdder s p).cores = s.cores ∧ (State.wantAdder s p).power = s.power ∧
    (State.wantAdder s p).faults = s.faults ∧ (State.wantAdder s p).maint = s.maint ∧
    (State.wantAdder s p).glob = s.glob := by
  unfold State.wantAdder
  try dsimp only
  (repeat' split) <;> first | (simp; done) | (simp (disch := (intros; (repeat' split) <;> first | simp | skip)); done)

@[simp] theorem State.portPath_frame (s : State) (p v : Nat) :
    (State.portPath s p v).pending = s.pending ∧ (State.portPath s p v).draws = s.draws ∧
    (State.portPath s p v).out = s.out ∧ (State.portPath s p v).regs = s.regs ∧
    (State.portPath s p v).hbm = s.hbm ∧ (State.portPath s p v).host = s.host ∧
    (State.portPath s p v).pkg = s.pkg ∧ (State.portPath s p v).flash = s.flash ∧
    (State.portPath s p v).clocks = s.clocks ∧ (State.portPath s p v).engines = s.engines ∧
    (State.portPath s p v).slabs = s.slabs ∧ (State.portPath s p v).rings = s.rings ∧
    (State.portPath s p v).plots = s.plots ∧ (State.portPath s p v).stash = s.stash ∧
    (State.portPath s p v).matJobs = s.matJobs ∧ (State.portPath s p v).vecJobs = s.vecJobs ∧
    (State.portPath s p v).ports = s.ports ∧ (State.portPath s p v).puts = s.puts ∧
    (State.portPath s p v).tags = s.tags ∧ (State.portPath s p v).mgr = s.mgr ∧
    (State.portPath s p v).mac = s.mac ∧ (State.portPath s p v).pcie = s.pcie ∧
    (State.portPath s p v).sec = s.sec ∧ (State.portPath s p v).cores = s.cores ∧
    (State.portPath s p v).power = s.power ∧ (State.portPath s p v).faults = s.faults ∧
    (State.portPath s p v).maint = s.maint ∧ (State.portPath s p v).glob = s.glob := by
  unfold State.portPath
  try dsimp only
  (repeat' split) <;> first | (simp; done) | (simp (disch := (intros; (repeat' split) <;> first | simp | skip)); done)

@[simp] theorem State.setPortState_frame (s : State) (p v : Nat) :
    (State.setPortState s p v).pending = s.pending ∧ (State.setPortState s p v).draws = s.draws ∧
    (State.setPortState s p v).out = s.out ∧ (State.setPortState s p v).hbm = s.hbm ∧
    (State.setPortState s p v).host = s.host ∧ (State.setPortState s p v).pkg = s.pkg ∧
    (State.setPortState s p v).flash = s.flash ∧ (State.setPortState s p v).clocks = s.clocks ∧
    (State.setPortState s p v).engines = s.engines ∧ (State.setPortState s p v).slabs = s.slabs ∧
    (State.setPortState s p v).rings = s.rings ∧ (State.setPortState s p v).plots = s.plots ∧
    (State.setPortState s p v).stash = s.stash ∧ (State.setPortState s p v).matJobs = s.matJobs ∧
    (State.setPortState s p v).vecJobs = s.vecJobs ∧ (State.setPortState s p v).ports = s.ports ∧
    (State.setPortState s p v).puts = s.puts ∧ (State.setPortState s p v).tags = s.tags ∧
    (State.setPortState s p v).mgr = s.mgr ∧ (State.setPortState s p v).mac = s.mac ∧
    (State.setPortState s p v).pcie = s.pcie ∧ (State.setPortState s p v).sec = s.sec ∧
    (State.setPortState s p v).cores = s.cores ∧ (State.setPortState s p v).power = s.power ∧
    (State.setPortState s p v).faults = s.faults ∧ (State.setPortState s p v).maint = s.maint ∧
    (State.setPortState s p v).glob = s.glob := by
  unfold State.setPortState
  try dsimp only
  (repeat' split) <;> first | (simp; done) | (simp (disch := (intros; (repeat' split) <;> first | simp | skip)); done)

@[simp] theorem State.modLink_frame (s : State) (p node : Nat) (f : LinkSide → LinkSide) :
    (State.modLink s p node f).pending = s.pending ∧ (State.modLink s p node f).draws = s.draws ∧
    (State.modLink s p node f).out = s.out ∧ (State.modLink s p node f).regs = s.regs ∧
    (State.modLink s p node f).hbm = s.hbm ∧ (State.modLink s p node f).host = s.host ∧
    (State.modLink s p node f).pkg = s.pkg ∧ (State.modLink s p node f).flash = s.flash ∧
    (State.modLink s p node f).clocks = s.clocks ∧ (State.modLink s p node f).engines = s.engines ∧
    (State.modLink s p node f).slabs = s.slabs ∧ (State.modLink s p node f).rings = s.rings ∧
    (State.modLink s p node f).plots = s.plots ∧ (State.modLink s p node f).stash = s.stash ∧
    (State.modLink s p node f).matJobs = s.matJobs ∧ (State.modLink s p node f).vecJobs = s.vecJobs ∧
    (State.modLink s p node f).fabric = s.fabric ∧ (State.modLink s p node f).puts = s.puts ∧
    (State.modLink s p node f).tags = s.tags ∧ (State.modLink s p node f).mgr = s.mgr ∧
    (State.modLink s p node f).mac = s.mac ∧ (State.modLink s p node f).pcie = s.pcie ∧
    (State.modLink s p node f).sec = s.sec ∧ (State.modLink s p node f).cores = s.cores ∧
    (State.modLink s p node f).power = s.power ∧ (State.modLink s p node f).faults = s.faults ∧
    (State.modLink s p node f).maint = s.maint ∧ (State.modLink s p node f).glob = s.glob := by
  unfold State.modLink
  try dsimp only
  (repeat' split) <;> first | (simp; done) | (simp (disch := (intros; (repeat' split) <;> first | simp | skip)); done)

@[simp] theorem State.emit_frame (s : State) (p node : Nat) (flits : List (List Byte)) :
    (State.emit s p node flits).pending = s.pending ∧ (State.emit s p node flits).draws = s.draws ∧
    (State.emit s p node flits).regs = s.regs ∧ (State.emit s p node flits).hbm = s.hbm ∧
    (State.emit s p node flits).host = s.host ∧ (State.emit s p node flits).pkg = s.pkg ∧
    (State.emit s p node flits).flash = s.flash ∧ (State.emit s p node flits).clocks = s.clocks ∧
    (State.emit s p node flits).engines = s.engines ∧ (State.emit s p node flits).slabs = s.slabs ∧
    (State.emit s p node flits).rings = s.rings ∧ (State.emit s p node flits).plots = s.plots ∧
    (State.emit s p node flits).stash = s.stash ∧ (State.emit s p node flits).matJobs = s.matJobs ∧
    (State.emit s p node flits).vecJobs = s.vecJobs ∧ (State.emit s p node flits).fabric = s.fabric ∧
    (State.emit s p node flits).ports = s.ports ∧ (State.emit s p node flits).puts = s.puts ∧
    (State.emit s p node flits).tags = s.tags ∧ (State.emit s p node flits).mgr = s.mgr ∧
    (State.emit s p node flits).mac = s.mac ∧ (State.emit s p node flits).pcie = s.pcie ∧
    (State.emit s p node flits).sec = s.sec ∧ (State.emit s p node flits).cores = s.cores ∧
    (State.emit s p node flits).power = s.power ∧ (State.emit s p node flits).faults = s.faults ∧
    (State.emit s p node flits).maint = s.maint ∧ (State.emit s p node flits).glob = s.glob := by
  unfold State.emit
  try dsimp only
  (repeat' split) <;> first | (simp; done) | (simp (disch := (intros; (repeat' split) <;> first | simp | skip)); done)

@[simp] theorem State.pumpLink_frame (s : State) (p node : Nat) :
    (State.pumpLink s p node).pending = s.pending ∧ (State.pumpLink s p node).draws = s.draws ∧
    (State.pumpLink s p node).regs = s.regs ∧ (State.pumpLink s p node).hbm = s.hbm ∧
    (State.pumpLink s p node).host = s.host ∧ (State.pumpLink s p node).pkg = s.pkg ∧
    (State.pumpLink s p node).flash = s.flash ∧ (State.pumpLink s p node).clocks = s.clocks ∧
    (State.pumpLink s p node).engines = s.engines ∧ (State.pumpLink s p node).slabs = s.slabs ∧
    (State.pumpLink s p node).rings = s.rings ∧ (State.pumpLink s p node).plots = s.plots ∧
    (State.pumpLink s p node).stash = s.stash ∧ (State.pumpLink s p node).matJobs = s.matJobs ∧
    (State.pumpLink s p node).vecJobs = s.vecJobs ∧ (State.pumpLink s p node).fabric = s.fabric ∧
    (State.pumpLink s p node).puts = s.puts ∧ (State.pumpLink s p node).tags = s.tags ∧
    (State.pumpLink s p node).mgr = s.mgr ∧ (State.pumpLink s p node).mac = s.mac ∧
    (State.pumpLink s p node).pcie = s.pcie ∧ (State.pumpLink s p node).sec = s.sec ∧
    (State.pumpLink s p node).cores = s.cores ∧ (State.pumpLink s p node).power = s.power ∧
    (State.pumpLink s p node).faults = s.faults ∧ (State.pumpLink s p node).maint = s.maint ∧
    (State.pumpLink s p node).glob = s.glob := by
  unfold State.pumpLink
  try dsimp only
  (repeat' split) <;> first | (simp; done) | (simp (disch := (intros; (repeat' split) <;> first | simp | skip)); done)

@[simp] theorem State.pumpPort_frame (s : State) (p : Nat) :
    (State.pumpPort s p).pending = s.pending ∧ (State.pumpPort s p).draws = s.draws ∧
    (State.pumpPort s p).regs = s.regs ∧ (State.pumpPort s p).hbm = s.hbm ∧ (State.pumpPort s p).host = s.host ∧
    (State.pumpPort s p).pkg = s.pkg ∧ (State.pumpPort s p).flash = s.flash ∧
    (State.pumpPort s p).clocks = s.clocks ∧ (State.pumpPort s p).engines = s.engines ∧
    (State.pumpPort s p).slabs = s.slabs ∧ (State.pumpPort s p).rings = s.rings ∧
    (State.pumpPort s p).plots = s.plots ∧ (State.pumpPort s p).stash = s.stash ∧
    (State.pumpPort s p).matJobs = s.matJobs ∧ (State.pumpPort s p).vecJobs = s.vecJobs ∧
    (State.pumpPort s p).fabric = s.fabric ∧ (State.pumpPort s p).puts = s.puts ∧
    (State.pumpPort s p).tags = s.tags ∧ (State.pumpPort s p).mgr = s.mgr ∧ (State.pumpPort s p).mac = s.mac ∧
    (State.pumpPort s p).pcie = s.pcie ∧ (State.pumpPort s p).sec = s.sec ∧ (State.pumpPort s p).cores = s.cores ∧
    (State.pumpPort s p).power = s.power ∧ (State.pumpPort s p).faults = s.faults ∧
    (State.pumpPort s p).maint = s.maint ∧ (State.pumpPort s p).glob = s.glob := by
  unfold State.pumpPort
  try dsimp only
  (repeat' split) <;> first | (simp; done) | (simp (disch := (intros; (repeat' split) <;> first | simp | skip)); done)

@[simp] theorem State.sendFlits_frame (s : State) (p node typ ctx : Nat) (pieces : List (Nat × List Byte)) :
    (State.sendFlits s p node typ ctx pieces).pending = s.pending ∧
    (State.sendFlits s p node typ ctx pieces).draws = s.draws ∧
    (State.sendFlits s p node typ ctx pieces).regs = s.regs ∧
    (State.sendFlits s p node typ ctx pieces).hbm = s.hbm ∧
    (State.sendFlits s p node typ ctx pieces).host = s.host ∧
    (State.sendFlits s p node typ ctx pieces).pkg = s.pkg ∧
    (State.sendFlits s p node typ ctx pieces).flash = s.flash ∧
    (State.sendFlits s p node typ ctx pieces).clocks = s.clocks ∧
    (State.sendFlits s p node typ ctx pieces).engines = s.engines ∧
    (State.sendFlits s p node typ ctx pieces).slabs = s.slabs ∧
    (State.sendFlits s p node typ ctx pieces).rings = s.rings ∧
    (State.sendFlits s p node typ ctx pieces).plots = s.plots ∧
    (State.sendFlits s p node typ ctx pieces).stash = s.stash ∧
    (State.sendFlits s p node typ ctx pieces).matJobs = s.matJobs ∧
    (State.sendFlits s p node typ ctx pieces).vecJobs = s.vecJobs ∧
    (State.sendFlits s p node typ ctx pieces).fabric = s.fabric ∧
    (State.sendFlits s p node typ ctx pieces).puts = s.puts ∧
    (State.sendFlits s p node typ ctx pieces).tags = s.tags ∧
    (State.sendFlits s p node typ ctx pieces).mgr = s.mgr ∧ (State.sendFlits s p node typ ctx pieces).mac = s.mac ∧
    (State.sendFlits s p node typ ctx pieces).pcie = s.pcie ∧
    (State.sendFlits s p node typ ctx pieces).sec = s.sec ∧
    (State.sendFlits s p node typ ctx pieces).cores = s.cores ∧
    (State.sendFlits s p node typ ctx pieces).power = s.power ∧
    (State.sendFlits s p node typ ctx pieces).faults = s.faults ∧
    (State.sendFlits s p node typ ctx pieces).maint = s.maint ∧
    (State.sendFlits s p node typ ctx pieces).glob = s.glob := by
  unfold State.sendFlits
  try dsimp only
  (repeat' split) <;> first | (simp; done) | (simp (disch := (intros; (repeat' split) <;> first | simp | skip)); done)

@[simp] theorem State.controlTag_frame (s : State) (p node tag : Nat) (c : Ctrl) :
    (State.controlTag s p node tag c).pending = s.pending ∧ (State.controlTag s p node tag c).draws = s.draws ∧
    (State.controlTag s p node tag c).regs = s.regs ∧ (State.controlTag s p node tag c).hbm = s.hbm ∧
    (State.controlTag s p node tag c).host = s.host ∧ (State.controlTag s p node tag c).pkg = s.pkg ∧
    (State.controlTag s p node tag c).flash = s.flash ∧ (State.controlTag s p node tag c).clocks = s.clocks ∧
    (State.controlTag s p node tag c).engines = s.engines ∧ (State.controlTag s p node tag c).slabs = s.slabs ∧
    (State.controlTag s p node tag c).rings = s.rings ∧ (State.controlTag s p node tag c).plots = s.plots ∧
    (State.controlTag s p node tag c).stash = s.stash ∧ (State.controlTag s p node tag c).matJobs = s.matJobs ∧
    (State.controlTag s p node tag c).vecJobs = s.vecJobs ∧ (State.controlTag s p node tag c).fabric = s.fabric ∧
    (State.controlTag s p node tag c).puts = s.puts ∧ (State.controlTag s p node tag c).tags = s.tags ∧
    (State.controlTag s p node tag c).mgr = s.mgr ∧ (State.controlTag s p node tag c).mac = s.mac ∧
    (State.controlTag s p node tag c).pcie = s.pcie ∧ (State.controlTag s p node tag c).sec = s.sec ∧
    (State.controlTag s p node tag c).cores = s.cores ∧ (State.controlTag s p node tag c).power = s.power ∧
    (State.controlTag s p node tag c).faults = s.faults ∧ (State.controlTag s p node tag c).maint = s.maint ∧
    (State.controlTag s p node tag c).glob = s.glob := by
  unfold State.controlTag
  try dsimp only
  (repeat' split) <;> first | (simp; done) | (simp (disch := (intros; (repeat' split) <;> first | simp | skip)); done)

@[simp] theorem State.control_frame (s : State) (p node : Nat) (c : Ctrl) :
    (State.control s p node c).pending = s.pending ∧ (State.control s p node c).draws = s.draws ∧
    (State.control s p node c).regs = s.regs ∧ (State.control s p node c).hbm = s.hbm ∧
    (State.control s p node c).host = s.host ∧ (State.control s p node c).pkg = s.pkg ∧
    (State.control s p node c).flash = s.flash ∧ (State.control s p node c).clocks = s.clocks ∧
    (State.control s p node c).engines = s.engines ∧ (State.control s p node c).slabs = s.slabs ∧
    (State.control s p node c).rings = s.rings ∧ (State.control s p node c).plots = s.plots ∧
    (State.control s p node c).stash = s.stash ∧ (State.control s p node c).matJobs = s.matJobs ∧
    (State.control s p node c).vecJobs = s.vecJobs ∧ (State.control s p node c).fabric = s.fabric ∧
    (State.control s p node c).puts = s.puts ∧ (State.control s p node c).tags = s.tags ∧
    (State.control s p node c).mgr = s.mgr ∧ (State.control s p node c).mac = s.mac ∧
    (State.control s p node c).pcie = s.pcie ∧ (State.control s p node c).sec = s.sec ∧
    (State.control s p node c).cores = s.cores ∧ (State.control s p node c).power = s.power ∧
    (State.control s p node c).faults = s.faults ∧ (State.control s p node c).maint = s.maint ∧
    (State.control s p node c).glob = s.glob := by
  unfold State.control
  try dsimp only
  (repeat' split) <;> first | (simp; done) | (simp (disch := (intros; (repeat' split) <;> first | simp | skip)); done)

@[simp] theorem State.controlTo_frame (s : State) (node : Nat) (c : Ctrl) :
    (State.controlTo s node c).pending = s.pending ∧ (State.controlTo s node c).draws = s.draws ∧
    (State.controlTo s node c).regs = s.regs ∧ (State.controlTo s node c).hbm = s.hbm ∧
    (State.controlTo s node c).host = s.host ∧ (State.controlTo s node c).pkg = s.pkg ∧
    (State.controlTo s node c).flash = s.flash ∧ (State.controlTo s node c).clocks = s.clocks ∧
    (State.controlTo s node c).engines = s.engines ∧ (State.controlTo s node c).slabs = s.slabs ∧
    (State.controlTo s node c).rings = s.rings ∧ (State.controlTo s node c).plots = s.plots ∧
    (State.controlTo s node c).stash = s.stash ∧ (State.controlTo s node c).matJobs = s.matJobs ∧
    (State.controlTo s node c).vecJobs = s.vecJobs ∧ (State.controlTo s node c).fabric = s.fabric ∧
    (State.controlTo s node c).puts = s.puts ∧ (State.controlTo s node c).tags = s.tags ∧
    (State.controlTo s node c).mgr = s.mgr ∧ (State.controlTo s node c).mac = s.mac ∧
    (State.controlTo s node c).pcie = s.pcie ∧ (State.controlTo s node c).sec = s.sec ∧
    (State.controlTo s node c).cores = s.cores ∧ (State.controlTo s node c).power = s.power ∧
    (State.controlTo s node c).faults = s.faults ∧ (State.controlTo s node c).maint = s.maint ∧
    (State.controlTo s node c).glob = s.glob := by
  unfold State.controlTo
  try dsimp only
  (repeat' split) <;> first | (simp; done) | (simp (disch := (intros; (repeat' split) <;> first | simp | skip)); done)

@[simp] theorem State.toManager_frame (s : State) (c : Ctrl) :
    (State.toManager s c).pending = s.pending ∧ (State.toManager s c).draws = s.draws ∧
    (State.toManager s c).regs = s.regs ∧ (State.toManager s c).hbm = s.hbm ∧ (State.toManager s c).host = s.host ∧
    (State.toManager s c).pkg = s.pkg ∧ (State.toManager s c).flash = s.flash ∧
    (State.toManager s c).clocks = s.clocks ∧ (State.toManager s c).engines = s.engines ∧
    (State.toManager s c).slabs = s.slabs ∧ (State.toManager s c).rings = s.rings ∧
    (State.toManager s c).plots = s.plots ∧ (State.toManager s c).stash = s.stash ∧
    (State.toManager s c).matJobs = s.matJobs ∧ (State.toManager s c).vecJobs = s.vecJobs ∧
    (State.toManager s c).fabric = s.fabric ∧ (State.toManager s c).puts = s.puts ∧
    (State.toManager s c).tags = s.tags ∧ (State.toManager s c).mgr = s.mgr ∧ (State.toManager s c).mac = s.mac ∧
    (State.toManager s c).pcie = s.pcie ∧ (State.toManager s c).sec = s.sec ∧
    (State.toManager s c).cores = s.cores ∧ (State.toManager s c).power = s.power ∧
    (State.toManager s c).faults = s.faults ∧ (State.toManager s c).maint = s.maint ∧
    (State.toManager s c).glob = s.glob := by
  unfold State.toManager
  try dsimp only
  (repeat' split) <;> first | (simp; done) | (simp (disch := (intros; (repeat' split) <;> first | simp | skip)); done)

@[simp] theorem State.finish_frame (s : State) (r i st v : Nat) :
    (State.finish s r i st v).pending = s.pending ∧ (State.finish s r i st v).draws = s.draws ∧
    (State.finish s r i st v).out = s.out ∧ (State.finish s r i st v).regs = s.regs ∧
    (State.finish s r i st v).hbm = s.hbm ∧ (State.finish s r i st v).host = s.host ∧
    (State.finish s r i st v).pkg = s.pkg ∧ (State.finish s r i st v).flash = s.flash ∧
    (State.finish s r i st v).clocks = s.clocks ∧ (State.finish s r i st v).engines = s.engines ∧
    (State.finish s r i st v).slabs = s.slabs ∧ (State.finish s r i st v).plots = s.plots ∧
    (State.finish s r i st v).stash = s.stash ∧ (State.finish s r i st v).matJobs = s.matJobs ∧
    (State.finish s r i st v).vecJobs = s.vecJobs ∧ (State.finish s r i st v).fabric = s.fabric ∧
    (State.finish s r i st v).ports = s.ports ∧ (State.finish s r i st v).puts = s.puts ∧
    (State.finish s r i st v).tags = s.tags ∧ (State.finish s r i st v).mgr = s.mgr ∧
    (State.finish s r i st v).mac = s.mac ∧ (State.finish s r i st v).pcie = s.pcie ∧
    (State.finish s r i st v).sec = s.sec ∧ (State.finish s r i st v).cores = s.cores ∧
    (State.finish s r i st v).power = s.power ∧ (State.finish s r i st v).faults = s.faults ∧
    (State.finish s r i st v).maint = s.maint ∧ (State.finish s r i st v).glob = s.glob := by
  unfold State.finish
  try dsimp only
  (repeat' split) <;> first | (simp; done) | (simp (disch := (intros; (repeat' split) <;> first | simp | skip)); done)

@[simp] theorem State.refreshTags_frame (s : State) :
    (State.refreshTags s).pending = s.pending ∧ (State.refreshTags s).draws = s.draws ∧
    (State.refreshTags s).out = s.out ∧ (State.refreshTags s).hbm = s.hbm ∧ (State.refreshTags s).host = s.host ∧
    (State.refreshTags s).pkg = s.pkg ∧ (State.refreshTags s).flash = s.flash ∧
    (State.refreshTags s).clocks = s.clocks ∧ (State.refreshTags s).engines = s.engines ∧
    (State.refreshTags s).slabs = s.slabs ∧ (State.refreshTags s).rings = s.rings ∧
    (State.refreshTags s).plots = s.plots ∧ (State.refreshTags s).stash = s.stash ∧
    (State.refreshTags s).matJobs = s.matJobs ∧ (State.refreshTags s).vecJobs = s.vecJobs ∧
    (State.refreshTags s).fabric = s.fabric ∧ (State.refreshTags s).ports = s.ports ∧
    (State.refreshTags s).puts = s.puts ∧ (State.refreshTags s).tags = s.tags ∧ (State.refreshTags s).mgr = s.mgr ∧
    (State.refreshTags s).mac = s.mac ∧ (State.refreshTags s).pcie = s.pcie ∧ (State.refreshTags s).sec = s.sec ∧
    (State.refreshTags s).cores = s.cores ∧ (State.refreshTags s).power = s.power ∧
    (State.refreshTags s).faults = s.faults ∧ (State.refreshTags s).maint = s.maint ∧
    (State.refreshTags s).glob = s.glob := by
  unfold State.refreshTags
  try dsimp only
  (repeat' split) <;> first | (simp; done) | (simp (disch := (intros; (repeat' split) <;> first | simp | skip)); done)

@[simp] theorem State.dropTag_frame (s : State) (t : TagUse) :
    (State.dropTag s t).pending = s.pending ∧ (State.dropTag s t).draws = s.draws ∧
    (State.dropTag s t).out = s.out ∧ (State.dropTag s t).hbm = s.hbm ∧ (State.dropTag s t).host = s.host ∧
    (State.dropTag s t).pkg = s.pkg ∧ (State.dropTag s t).flash = s.flash ∧ (State.dropTag s t).clocks = s.clocks ∧
    (State.dropTag s t).engines = s.engines ∧ (State.dropTag s t).slabs = s.slabs ∧
    (State.dropTag s t).rings = s.rings ∧ (State.dropTag s t).plots = s.plots ∧
    (State.dropTag s t).stash = s.stash ∧ (State.dropTag s t).matJobs = s.matJobs ∧
    (State.dropTag s t).vecJobs = s.vecJobs ∧ (State.dropTag s t).fabric = s.fabric ∧
    (State.dropTag s t).ports = s.ports ∧ (State.dropTag s t).puts = s.puts ∧ (State.dropTag s t).mgr = s.mgr ∧
    (State.dropTag s t).mac = s.mac ∧ (State.dropTag s t).pcie = s.pcie ∧ (State.dropTag s t).sec = s.sec ∧
    (State.dropTag s t).cores = s.cores ∧ (State.dropTag s t).power = s.power ∧
    (State.dropTag s t).faults = s.faults ∧ (State.dropTag s t).maint = s.maint ∧ (State.dropTag s t).glob = s.glob := by
  unfold State.dropTag
  try dsimp only
  (repeat' split) <;> first | (simp; done) | (simp (disch := (intros; (repeat' split) <;> first | simp | skip)); done)

@[simp] theorem State.finishIfIdle_frame (s : State) (r i : Nat) :
    (State.finishIfIdle s r i).pending = s.pending ∧ (State.finishIfIdle s r i).draws = s.draws ∧
    (State.finishIfIdle s r i).out = s.out ∧ (State.finishIfIdle s r i).regs = s.regs ∧
    (State.finishIfIdle s r i).hbm = s.hbm ∧ (State.finishIfIdle s r i).host = s.host ∧
    (State.finishIfIdle s r i).pkg = s.pkg ∧ (State.finishIfIdle s r i).flash = s.flash ∧
    (State.finishIfIdle s r i).clocks = s.clocks ∧ (State.finishIfIdle s r i).engines = s.engines ∧
    (State.finishIfIdle s r i).slabs = s.slabs ∧ (State.finishIfIdle s r i).plots = s.plots ∧
    (State.finishIfIdle s r i).stash = s.stash ∧ (State.finishIfIdle s r i).matJobs = s.matJobs ∧
    (State.finishIfIdle s r i).vecJobs = s.vecJobs ∧ (State.finishIfIdle s r i).fabric = s.fabric ∧
    (State.finishIfIdle s r i).ports = s.ports ∧ (State.finishIfIdle s r i).puts = s.puts ∧
    (State.finishIfIdle s r i).tags = s.tags ∧ (State.finishIfIdle s r i).mgr = s.mgr ∧
    (State.finishIfIdle s r i).mac = s.mac ∧ (State.finishIfIdle s r i).pcie = s.pcie ∧
    (State.finishIfIdle s r i).sec = s.sec ∧ (State.finishIfIdle s r i).cores = s.cores ∧
    (State.finishIfIdle s r i).power = s.power ∧ (State.finishIfIdle s r i).faults = s.faults ∧
    (State.finishIfIdle s r i).maint = s.maint ∧ (State.finishIfIdle s r i).glob = s.glob := by
  unfold State.finishIfIdle
  try dsimp only
  (repeat' split) <;> first | (simp; done) | (simp (disch := (intros; (repeat' split) <;> first | simp | skip)); done)

@[simp] theorem State.hostWrite_frame (s : State) (func a : Nat) (b : List Byte) (data : Bool) :
    (State.hostWrite s func a b data).pending = s.pending ∧ (State.hostWrite s func a b data).draws = s.draws ∧
    (State.hostWrite s func a b data).regs = s.regs ∧ (State.hostWrite s func a b data).hbm = s.hbm ∧
    (State.hostWrite s func a b data).pkg = s.pkg ∧ (State.hostWrite s func a b data).flash = s.flash ∧
    (State.hostWrite s func a b data).clocks = s.clocks ∧ (State.hostWrite s func a b data).engines = s.engines ∧
    (State.hostWrite s func a b data).slabs = s.slabs ∧ (State.hostWrite s func a b data).rings = s.rings ∧
    (State.hostWrite s func a b data).plots = s.plots ∧ (State.hostWrite s func a b data).stash = s.stash ∧
    (State.hostWrite s func a b data).matJobs = s.matJobs ∧ (State.hostWrite s func a b data).vecJobs = s.vecJobs ∧
    (State.hostWrite s func a b data).fabric = s.fabric ∧ (State.hostWrite s func a b data).ports = s.ports ∧
    (State.hostWrite s func a b data).puts = s.puts ∧ (State.hostWrite s func a b data).tags = s.tags ∧
    (State.hostWrite s func a b data).mgr = s.mgr ∧ (State.hostWrite s func a b data).mac = s.mac ∧
    (State.hostWrite s func a b data).pcie = s.pcie ∧ (State.hostWrite s func a b data).sec = s.sec ∧
    (State.hostWrite s func a b data).cores = s.cores ∧ (State.hostWrite s func a b data).power = s.power ∧
    (State.hostWrite s func a b data).faults = s.faults ∧ (State.hostWrite s func a b data).maint = s.maint ∧
    (State.hostWrite s func a b data).glob = s.glob := by
  unfold State.hostWrite
  try dsimp only
  (repeat' split) <;> first | (simp; done) | (simp (disch := (intros; (repeat' split) <;> first | simp | skip)); done)

@[simp] theorem State.sendTransfer_frame (s : State) (t : TagUse) (node p : Nat) :
    (State.sendTransfer s t node p).pending = s.pending ∧ (State.sendTransfer s t node p).draws = s.draws ∧
    (State.sendTransfer s t node p).regs = s.regs ∧ (State.sendTransfer s t node p).hbm = s.hbm ∧
    (State.sendTransfer s t node p).host = s.host ∧ (State.sendTransfer s t node p).pkg = s.pkg ∧
    (State.sendTransfer s t node p).flash = s.flash ∧ (State.sendTransfer s t node p).clocks = s.clocks ∧
    (State.sendTransfer s t node p).engines = s.engines ∧ (State.sendTransfer s t node p).slabs = s.slabs ∧
    (State.sendTransfer s t node p).rings = s.rings ∧ (State.sendTransfer s t node p).plots = s.plots ∧
    (State.sendTransfer s t node p).stash = s.stash ∧ (State.sendTransfer s t node p).matJobs = s.matJobs ∧
    (State.sendTransfer s t node p).vecJobs = s.vecJobs ∧ (State.sendTransfer s t node p).fabric = s.fabric ∧
    (State.sendTransfer s t node p).puts = s.puts ∧ (State.sendTransfer s t node p).tags = s.tags ∧
    (State.sendTransfer s t node p).mgr = s.mgr ∧ (State.sendTransfer s t node p).mac = s.mac ∧
    (State.sendTransfer s t node p).pcie = s.pcie ∧ (State.sendTransfer s t node p).sec = s.sec ∧
    (State.sendTransfer s t node p).cores = s.cores ∧ (State.sendTransfer s t node p).faults = s.faults ∧
    (State.sendTransfer s t node p).maint = s.maint ∧ (State.sendTransfer s t node p).glob = s.glob := by
  unfold State.sendTransfer
  try dsimp only
  (repeat' split) <;> first | (simp; done) | (simp (disch := (intros; (repeat' split) <;> first | simp | skip)); done)

@[simp] theorem State.dropTags_frame (s : State) (r i : Nat) :
    (State.dropTags s r i).pending = s.pending ∧ (State.dropTags s r i).draws = s.draws ∧
    (State.dropTags s r i).out = s.out ∧ (State.dropTags s r i).hbm = s.hbm ∧
    (State.dropTags s r i).host = s.host ∧ (State.dropTags s r i).pkg = s.pkg ∧
    (State.dropTags s r i).flash = s.flash ∧ (State.dropTags s r i).clocks = s.clocks ∧
    (State.dropTags s r i).engines = s.engines ∧ (State.dropTags s r i).slabs = s.slabs ∧
    (State.dropTags s r i).rings = s.rings ∧ (State.dropTags s r i).plots = s.plots ∧
    (State.dropTags s r i).stash = s.stash ∧ (State.dropTags s r i).matJobs = s.matJobs ∧
    (State.dropTags s r i).vecJobs = s.vecJobs ∧ (State.dropTags s r i).fabric = s.fabric ∧
    (State.dropTags s r i).ports = s.ports ∧ (State.dropTags s r i).puts = s.puts ∧
    (State.dropTags s r i).mgr = s.mgr ∧ (State.dropTags s r i).mac = s.mac ∧
    (State.dropTags s r i).pcie = s.pcie ∧ (State.dropTags s r i).sec = s.sec ∧
    (State.dropTags s r i).cores = s.cores ∧ (State.dropTags s r i).power = s.power ∧
    (State.dropTags s r i).faults = s.faults ∧ (State.dropTags s r i).maint = s.maint ∧
    (State.dropTags s r i).glob = s.glob := by
  unfold State.dropTags
  try dsimp only
  (repeat' split) <;> first | (simp; done) | (simp (disch := (intros; (repeat' split) <;> first | simp | skip)); done)

@[simp] theorem State.failEpoch_frame (s : State) (k : Nat) (sealFail : Bool) :
    (State.failEpoch s k sealFail).pending = s.pending ∧ (State.failEpoch s k sealFail).draws = s.draws ∧
    (State.failEpoch s k sealFail).hbm = s.hbm ∧ (State.failEpoch s k sealFail).host = s.host ∧
    (State.failEpoch s k sealFail).pkg = s.pkg ∧ (State.failEpoch s k sealFail).flash = s.flash ∧
    (State.failEpoch s k sealFail).clocks = s.clocks ∧ (State.failEpoch s k sealFail).engines = s.engines ∧
    (State.failEpoch s k sealFail).slabs = s.slabs ∧ (State.failEpoch s k sealFail).rings = s.rings ∧
    (State.failEpoch s k sealFail).plots = s.plots ∧ (State.failEpoch s k sealFail).stash = s.stash ∧
    (State.failEpoch s k sealFail).matJobs = s.matJobs ∧ (State.failEpoch s k sealFail).vecJobs = s.vecJobs ∧
    (State.failEpoch s k sealFail).puts = s.puts ∧ (State.failEpoch s k sealFail).mgr = s.mgr ∧
    (State.failEpoch s k sealFail).mac = s.mac ∧ (State.failEpoch s k sealFail).pcie = s.pcie ∧
    (State.failEpoch s k sealFail).sec = s.sec ∧ (State.failEpoch s k sealFail).cores = s.cores ∧
    (State.failEpoch s k sealFail).power = s.power ∧ (State.failEpoch s k sealFail).faults = s.faults ∧
    (State.failEpoch s k sealFail).maint = s.maint ∧ (State.failEpoch s k sealFail).glob = s.glob := by
  unfold State.failEpoch
  try dsimp only
  (repeat' split) <;> first | (simp; done) | (simp (disch := (intros; (repeat' split) <;> first | simp | skip)); done)

@[simp] theorem State.dropEpoch_frame (s : State) (r i : Nat) :
    (State.dropEpoch s r i).pending = s.pending ∧ (State.dropEpoch s r i).draws = s.draws ∧
    (State.dropEpoch s r i).out = s.out ∧ (State.dropEpoch s r i).regs = s.regs ∧
    (State.dropEpoch s r i).hbm = s.hbm ∧ (State.dropEpoch s r i).host = s.host ∧
    (State.dropEpoch s r i).pkg = s.pkg ∧ (State.dropEpoch s r i).flash = s.flash ∧
    (State.dropEpoch s r i).clocks = s.clocks ∧ (State.dropEpoch s r i).engines = s.engines ∧
    (State.dropEpoch s r i).slabs = s.slabs ∧ (State.dropEpoch s r i).rings = s.rings ∧
    (State.dropEpoch s r i).plots = s.plots ∧ (State.dropEpoch s r i).stash = s.stash ∧
    (State.dropEpoch s r i).matJobs = s.matJobs ∧ (State.dropEpoch s r i).vecJobs = s.vecJobs ∧
    (State.dropEpoch s r i).ports = s.ports ∧ (State.dropEpoch s r i).puts = s.puts ∧
    (State.dropEpoch s r i).tags = s.tags ∧ (State.dropEpoch s r i).mgr = s.mgr ∧
    (State.dropEpoch s r i).mac = s.mac ∧ (State.dropEpoch s r i).pcie = s.pcie ∧
    (State.dropEpoch s r i).sec = s.sec ∧ (State.dropEpoch s r i).cores = s.cores ∧
    (State.dropEpoch s r i).power = s.power ∧ (State.dropEpoch s r i).faults = s.faults ∧
    (State.dropEpoch s r i).maint = s.maint ∧ (State.dropEpoch s r i).glob = s.glob := by
  unfold State.dropEpoch
  try dsimp only
  (repeat' split) <;> first | (simp; done) | (simp (disch := (intros; (repeat' split) <;> first | simp | skip)); done)

@[simp] theorem State.failStream_frame (s : State) (r i : Nat) :
    (State.failStream s r i).pending = s.pending ∧ (State.failStream s r i).draws = s.draws ∧
    (State.failStream s r i).hbm = s.hbm ∧ (State.failStream s r i).host = s.host ∧
    (State.failStream s r i).pkg = s.pkg ∧ (State.failStream s r i).flash = s.flash ∧
    (State.failStream s r i).clocks = s.clocks ∧ (State.failStream s r i).engines = s.engines ∧
    (State.failStream s r i).slabs = s.slabs ∧ (State.failStream s r i).rings = s.rings ∧
    (State.failStream s r i).plots = s.plots ∧ (State.failStream s r i).stash = s.stash ∧
    (State.failStream s r i).matJobs = s.matJobs ∧ (State.failStream s r i).vecJobs = s.vecJobs ∧
    (State.failStream s r i).puts = s.puts ∧ (State.failStream s r i).mgr = s.mgr ∧
    (State.failStream s r i).mac = s.mac ∧ (State.failStream s r i).pcie = s.pcie ∧
    (State.failStream s r i).sec = s.sec ∧ (State.failStream s r i).cores = s.cores ∧
    (State.failStream s r i).power = s.power ∧ (State.failStream s r i).faults = s.faults ∧
    (State.failStream s r i).maint = s.maint ∧ (State.failStream s r i).glob = s.glob := by
  unfold State.failStream
  try dsimp only
  (repeat' split) <;> first | (simp; done) | (simp (disch := (intros; (repeat' split) <;> first | simp | skip)); done)

@[simp] theorem State.putTag_frame (s : State) (t : TagUse) :
    (State.putTag s t).pending = s.pending ∧ (State.putTag s t).draws = s.draws ∧ (State.putTag s t).out = s.out ∧
    (State.putTag s t).hbm = s.hbm ∧ (State.putTag s t).host = s.host ∧ (State.putTag s t).pkg = s.pkg ∧
    (State.putTag s t).flash = s.flash ∧ (State.putTag s t).clocks = s.clocks ∧
    (State.putTag s t).engines = s.engines ∧ (State.putTag s t).slabs = s.slabs ∧
    (State.putTag s t).rings = s.rings ∧ (State.putTag s t).plots = s.plots ∧ (State.putTag s t).stash = s.stash ∧
    (State.putTag s t).matJobs = s.matJobs ∧ (State.putTag s t).vecJobs = s.vecJobs ∧
    (State.putTag s t).fabric = s.fabric ∧ (State.putTag s t).ports = s.ports ∧ (State.putTag s t).puts = s.puts ∧
    (State.putTag s t).mgr = s.mgr ∧ (State.putTag s t).mac = s.mac ∧ (State.putTag s t).pcie = s.pcie ∧
    (State.putTag s t).sec = s.sec ∧ (State.putTag s t).cores = s.cores ∧ (State.putTag s t).power = s.power ∧
    (State.putTag s t).faults = s.faults ∧ (State.putTag s t).maint = s.maint ∧ (State.putTag s t).glob = s.glob := by
  unfold State.putTag
  try dsimp only
  (repeat' split) <;> first | (simp; done) | (simp (disch := (intros; (repeat' split) <;> first | simp | skip)); done)

@[simp] theorem State.sendRequest_frame (s : State) (t : TagUse) (c : Ctrl) :
    (State.sendRequest s t c).pending = s.pending ∧ (State.sendRequest s t c).draws = s.draws ∧
    (State.sendRequest s t c).regs = s.regs ∧ (State.sendRequest s t c).hbm = s.hbm ∧
    (State.sendRequest s t c).host = s.host ∧ (State.sendRequest s t c).pkg = s.pkg ∧
    (State.sendRequest s t c).flash = s.flash ∧ (State.sendRequest s t c).clocks = s.clocks ∧
    (State.sendRequest s t c).engines = s.engines ∧ (State.sendRequest s t c).slabs = s.slabs ∧
    (State.sendRequest s t c).rings = s.rings ∧ (State.sendRequest s t c).plots = s.plots ∧
    (State.sendRequest s t c).stash = s.stash ∧ (State.sendRequest s t c).matJobs = s.matJobs ∧
    (State.sendRequest s t c).vecJobs = s.vecJobs ∧ (State.sendRequest s t c).fabric = s.fabric ∧
    (State.sendRequest s t c).puts = s.puts ∧ (State.sendRequest s t c).tags = s.tags ∧
    (State.sendRequest s t c).mgr = s.mgr ∧ (State.sendRequest s t c).mac = s.mac ∧
    (State.sendRequest s t c).pcie = s.pcie ∧ (State.sendRequest s t c).sec = s.sec ∧
    (State.sendRequest s t c).cores = s.cores ∧ (State.sendRequest s t c).power = s.power ∧
    (State.sendRequest s t c).faults = s.faults ∧ (State.sendRequest s t c).maint = s.maint ∧
    (State.sendRequest s t c).glob = s.glob := by
  unfold State.sendRequest
  try dsimp only
  (repeat' split) <;> first | (simp; done) | (simp (disch := (intros; (repeat' split) <;> first | simp | skip)); done)

@[simp] theorem State.beginTx_frame (s : State) (t : TagUse) :
    (State.beginTx s t).pending = s.pending ∧ (State.beginTx s t).draws = s.draws ∧
    (State.beginTx s t).hbm = s.hbm ∧ (State.beginTx s t).pkg = s.pkg ∧ (State.beginTx s t).flash = s.flash ∧
    (State.beginTx s t).clocks = s.clocks ∧ (State.beginTx s t).engines = s.engines ∧
    (State.beginTx s t).slabs = s.slabs ∧ (State.beginTx s t).plots = s.plots ∧
    (State.beginTx s t).stash = s.stash ∧ (State.beginTx s t).matJobs = s.matJobs ∧
    (State.beginTx s t).vecJobs = s.vecJobs ∧ (State.beginTx s t).puts = s.puts ∧ (State.beginTx s t).mgr = s.mgr ∧
    (State.beginTx s t).mac = s.mac ∧ (State.beginTx s t).pcie = s.pcie ∧ (State.beginTx s t).sec = s.sec ∧
    (State.beginTx s t).cores = s.cores ∧ (State.beginTx s t).faults = s.faults ∧
    (State.beginTx s t).maint = s.maint ∧ (State.beginTx s t).glob = s.glob := by
  unfold State.beginTx
  try dsimp only
  (repeat' split) <;> first | (simp; done) | (simp (disch := (intros; (repeat' split) <;> first | simp | skip)); done)

@[simp] theorem State.askTag_frame (s : State) (t : TagUse) :
    (State.askTag s t).pending = s.pending ∧ (State.askTag s t).draws = s.draws ∧ (State.askTag s t).hbm = s.hbm ∧
    (State.askTag s t).pkg = s.pkg ∧ (State.askTag s t).flash = s.flash ∧ (State.askTag s t).clocks = s.clocks ∧
    (State.askTag s t).engines = s.engines ∧ (State.askTag s t).slabs = s.slabs ∧
    (State.askTag s t).plots = s.plots ∧ (State.askTag s t).stash = s.stash ∧
    (State.askTag s t).matJobs = s.matJobs ∧ (State.askTag s t).vecJobs = s.vecJobs ∧
    (State.askTag s t).puts = s.puts ∧ (State.askTag s t).mgr = s.mgr ∧ (State.askTag s t).mac = s.mac ∧
    (State.askTag s t).pcie = s.pcie ∧ (State.askTag s t).sec = s.sec ∧ (State.askTag s t).cores = s.cores ∧
    (State.askTag s t).faults = s.faults ∧ (State.askTag s t).maint = s.maint ∧ (State.askTag s t).glob = s.glob := by
  unfold State.askTag
  try dsimp only
  (repeat' split) <;> first | (simp; done) | (simp (disch := (intros; (repeat' split) <;> first | simp | skip)); done)

@[simp] theorem State.request_frame (s : State) (peer : Option Nat) (key : Nat) (c : Ctrl) :
    (State.request s peer key c).pending = s.pending ∧ (State.request s peer key c).draws = s.draws ∧
    (State.request s peer key c).hbm = s.hbm ∧ (State.request s peer key c).pkg = s.pkg ∧
    (State.request s peer key c).flash = s.flash ∧ (State.request s peer key c).clocks = s.clocks ∧
    (State.request s peer key c).engines = s.engines ∧ (State.request s peer key c).slabs = s.slabs ∧
    (State.request s peer key c).plots = s.plots ∧ (State.request s peer key c).stash = s.stash ∧
    (State.request s peer key c).matJobs = s.matJobs ∧ (State.request s peer key c).vecJobs = s.vecJobs ∧
    (State.request s peer key c).puts = s.puts ∧ (State.request s peer key c).mgr = s.mgr ∧
    (State.request s peer key c).mac = s.mac ∧ (State.request s peer key c).pcie = s.pcie ∧
    (State.request s peer key c).sec = s.sec ∧ (State.request s peer key c).cores = s.cores ∧
    (State.request s peer key c).faults = s.faults ∧ (State.request s peer key c).maint = s.maint ∧
    (State.request s peer key c).glob = s.glob := by
  unfold State.request
  try dsimp only
  (repeat' split) <;> first | (simp; done) | (simp (disch := (intros; (repeat' split) <;> first | simp | skip)); done)

@[simp] theorem State.answered_frame (s : State) (key : Nat) :
    (State.answered s key).pending = s.pending ∧ (State.answered s key).draws = s.draws ∧
    (State.answered s key).out = s.out ∧ (State.answered s key).hbm = s.hbm ∧
    (State.answered s key).host = s.host ∧ (State.answered s key).pkg = s.pkg ∧
    (State.answered s key).flash = s.flash ∧ (State.answered s key).clocks = s.clocks ∧
    (State.answered s key).engines = s.engines ∧ (State.answered s key).slabs = s.slabs ∧
    (State.answered s key).rings = s.rings ∧ (State.answered s key).plots = s.plots ∧
    (State.answered s key).stash = s.stash ∧ (State.answered s key).matJobs = s.matJobs ∧
    (State.answered s key).vecJobs = s.vecJobs ∧ (State.answered s key).fabric = s.fabric ∧
    (State.answered s key).ports = s.ports ∧ (State.answered s key).puts = s.puts ∧
    (State.answered s key).mgr = s.mgr ∧ (State.answered s key).mac = s.mac ∧
    (State.answered s key).pcie = s.pcie ∧ (State.answered s key).sec = s.sec ∧
    (State.answered s key).cores = s.cores ∧ (State.answered s key).power = s.power ∧
    (State.answered s key).faults = s.faults ∧ (State.answered s key).maint = s.maint ∧
    (State.answered s key).glob = s.glob := by
  unfold State.answered
  try dsimp only
  (repeat' split) <;> first | (simp; done) | (simp (disch := (intros; (repeat' split) <;> first | simp | skip)); done)

@[simp] theorem State.resend_frame (s : State) (p : Nat) (t : TagUse) :
    (State.resend s p t).pending = s.pending ∧ (State.resend s p t).draws = s.draws ∧
    (State.resend s p t).hbm = s.hbm ∧ (State.resend s p t).host = s.host ∧ (State.resend s p t).pkg = s.pkg ∧
    (State.resend s p t).flash = s.flash ∧ (State.resend s p t).clocks = s.clocks ∧
    (State.resend s p t).engines = s.engines ∧ (State.resend s p t).slabs = s.slabs ∧
    (State.resend s p t).plots = s.plots ∧ (State.resend s p t).stash = s.stash ∧
    (State.resend s p t).matJobs = s.matJobs ∧ (State.resend s p t).vecJobs = s.vecJobs ∧
    (State.resend s p t).puts = s.puts ∧ (State.resend s p t).mgr = s.mgr ∧ (State.resend s p t).mac = s.mac ∧
    (State.resend s p t).pcie = s.pcie ∧ (State.resend s p t).sec = s.sec ∧ (State.resend s p t).cores = s.cores ∧
    (State.resend s p t).faults = s.faults ∧ (State.resend s p t).maint = s.maint ∧
    (State.resend s p t).glob = s.glob := by
  unfold State.resend
  try dsimp only
  (repeat' split) <;> first | (simp; done) | (simp (disch := (intros; (repeat' split) <;> first | simp | skip)); done)

@[simp] theorem State.failEpochsOn_frame (s : State) (p : Nat) (sealFail : Bool) :
    (State.failEpochsOn s p sealFail).pending = s.pending ∧ (State.failEpochsOn s p sealFail).draws = s.draws ∧
    (State.failEpochsOn s p sealFail).hbm = s.hbm ∧ (State.failEpochsOn s p sealFail).host = s.host ∧
    (State.failEpochsOn s p sealFail).pkg = s.pkg ∧ (State.failEpochsOn s p sealFail).flash = s.flash ∧
    (State.failEpochsOn s p sealFail).clocks = s.clocks ∧ (State.failEpochsOn s p sealFail).engines = s.engines ∧
    (State.failEpochsOn s p sealFail).slabs = s.slabs ∧ (State.failEpochsOn s p sealFail).rings = s.rings ∧
    (State.failEpochsOn s p sealFail).plots = s.plots ∧ (State.failEpochsOn s p sealFail).stash = s.stash ∧
    (State.failEpochsOn s p sealFail).matJobs = s.matJobs ∧ (State.failEpochsOn s p sealFail).vecJobs = s.vecJobs ∧
    (State.failEpochsOn s p sealFail).puts = s.puts ∧ (State.failEpochsOn s p sealFail).mgr = s.mgr ∧
    (State.failEpochsOn s p sealFail).mac = s.mac ∧ (State.failEpochsOn s p sealFail).pcie = s.pcie ∧
    (State.failEpochsOn s p sealFail).sec = s.sec ∧ (State.failEpochsOn s p sealFail).cores = s.cores ∧
    (State.failEpochsOn s p sealFail).power = s.power ∧ (State.failEpochsOn s p sealFail).faults = s.faults ∧
    (State.failEpochsOn s p sealFail).maint = s.maint ∧ (State.failEpochsOn s p sealFail).glob = s.glob := by
  unfold State.failEpochsOn
  try dsimp only
  (repeat' split) <;> first | (simp; done) | (simp (disch := (intros; (repeat' split) <;> first | simp | skip)); done)

@[simp] theorem State.unclaim_frame (s : State) (slab : Nat) :
    (State.unclaim s slab).pending = s.pending ∧ (State.unclaim s slab).draws = s.draws ∧
    (State.unclaim s slab).out = s.out ∧ (State.unclaim s slab).regs = s.regs ∧
    (State.unclaim s slab).hbm = s.hbm ∧ (State.unclaim s slab).host = s.host ∧
    (State.unclaim s slab).pkg = s.pkg ∧ (State.unclaim s slab).flash = s.flash ∧
    (State.unclaim s slab).clocks = s.clocks ∧ (State.unclaim s slab).engines = s.engines ∧
    (State.unclaim s slab).rings = s.rings ∧ (State.unclaim s slab).plots = s.plots ∧
    (State.unclaim s slab).stash = s.stash ∧ (State.unclaim s slab).matJobs = s.matJobs ∧
    (State.unclaim s slab).vecJobs = s.vecJobs ∧ (State.unclaim s slab).fabric = s.fabric ∧
    (State.unclaim s slab).ports = s.ports ∧ (State.unclaim s slab).puts = s.puts ∧
    (State.unclaim s slab).tags = s.tags ∧ (State.unclaim s slab).mgr = s.mgr ∧
    (State.unclaim s slab).mac = s.mac ∧ (State.unclaim s slab).pcie = s.pcie ∧
    (State.unclaim s slab).sec = s.sec ∧ (State.unclaim s slab).cores = s.cores ∧
    (State.unclaim s slab).power = s.power ∧ (State.unclaim s slab).faults = s.faults ∧
    (State.unclaim s slab).maint = s.maint ∧ (State.unclaim s slab).glob = s.glob := by
  unfold State.unclaim
  try dsimp only
  (repeat' split) <;> first | (simp; done) | (simp (disch := (intros; (repeat' split) <;> first | simp | skip)); done)

@[simp] theorem State.portLeave_frame (s0 : State) (p st : Nat) :
    (State.portLeave s0 p st).pending = s0.pending ∧ (State.portLeave s0 p st).draws = s0.draws ∧
    (State.portLeave s0 p st).hbm = s0.hbm ∧ (State.portLeave s0 p st).host = s0.host ∧
    (State.portLeave s0 p st).pkg = s0.pkg ∧ (State.portLeave s0 p st).flash = s0.flash ∧
    (State.portLeave s0 p st).clocks = s0.clocks ∧ (State.portLeave s0 p st).engines = s0.engines ∧
    (State.portLeave s0 p st).plots = s0.plots ∧ (State.portLeave s0 p st).stash = s0.stash ∧
    (State.portLeave s0 p st).matJobs = s0.matJobs ∧ (State.portLeave s0 p st).vecJobs = s0.vecJobs ∧
    (State.portLeave s0 p st).mgr = s0.mgr ∧ (State.portLeave s0 p st).mac = s0.mac ∧
    (State.portLeave s0 p st).pcie = s0.pcie ∧ (State.portLeave s0 p st).sec = s0.sec ∧
    (State.portLeave s0 p st).cores = s0.cores ∧ (State.portLeave s0 p st).faults = s0.faults ∧
    (State.portLeave s0 p st).glob = s0.glob := by
  unfold State.portLeave
  try dsimp only
  (repeat' split) <;> first | (simp; done) | (simp (disch := (intros; (repeat' split) <;> first | simp | skip)); done)

@[simp] theorem State.portOut_frame (s : State) (p : Nat) :
    (State.portOut s p).pending = s.pending ∧ (State.portOut s p).draws = s.draws ∧
    (State.portOut s p).hbm = s.hbm ∧ (State.portOut s p).host = s.host ∧ (State.portOut s p).pkg = s.pkg ∧
    (State.portOut s p).flash = s.flash ∧ (State.portOut s p).clocks = s.clocks ∧
    (State.portOut s p).engines = s.engines ∧ (State.portOut s p).plots = s.plots ∧
    (State.portOut s p).stash = s.stash ∧ (State.portOut s p).matJobs = s.matJobs ∧
    (State.portOut s p).vecJobs = s.vecJobs ∧ (State.portOut s p).mgr = s.mgr ∧ (State.portOut s p).mac = s.mac ∧
    (State.portOut s p).pcie = s.pcie ∧ (State.portOut s p).sec = s.sec ∧ (State.portOut s p).cores = s.cores ∧
    (State.portOut s p).faults = s.faults ∧ (State.portOut s p).glob = s.glob := by
  unfold State.portOut
  try dsimp only
  (repeat' split) <;> first | (simp; done) | (simp (disch := (intros; (repeat' split) <;> first | simp | skip)); done)

@[simp] theorem State.formFloor_frame (s : State) :
    (State.formFloor s).pending = s.pending ∧ (State.formFloor s).out = s.out ∧ (State.formFloor s).hbm = s.hbm ∧
    (State.formFloor s).host = s.host ∧ (State.formFloor s).pkg = s.pkg ∧ (State.formFloor s).flash = s.flash ∧
    (State.formFloor s).clocks = s.clocks ∧ (State.formFloor s).engines = s.engines ∧
    (State.formFloor s).slabs = s.slabs ∧ (State.formFloor s).rings = s.rings ∧
    (State.formFloor s).plots = s.plots ∧ (State.formFloor s).stash = s.stash ∧
    (State.formFloor s).matJobs = s.matJobs ∧ (State.formFloor s).vecJobs = s.vecJobs ∧
    (State.formFloor s).fabric = s.fabric ∧ (State.formFloor s).ports = s.ports ∧
    (State.formFloor s).puts = s.puts ∧ (State.formFloor s).tags = s.tags ∧ (State.formFloor s).mgr = s.mgr ∧
    (State.formFloor s).mac = s.mac ∧ (State.formFloor s).pcie = s.pcie ∧ (State.formFloor s).sec = s.sec ∧
    (State.formFloor s).cores = s.cores ∧ (State.formFloor s).faults = s.faults ∧
    (State.formFloor s).maint = s.maint ∧ (State.formFloor s).glob = s.glob := by
  unfold State.formFloor
  try dsimp only
  (repeat' split) <;> first | (simp; done) | (simp (disch := (intros; (repeat' split) <;> first | simp | skip)); done)

@[simp] theorem State.recordLane_frame (s : State) (kind unit sub cause : Nat) :
    (State.recordLane s kind unit sub cause).pending = s.pending ∧
    (State.recordLane s kind unit sub cause).draws = s.draws ∧
    (State.recordLane s kind unit sub cause).out = s.out ∧ (State.recordLane s kind unit sub cause).regs = s.regs ∧
    (State.recordLane s kind unit sub cause).hbm = s.hbm ∧ (State.recordLane s kind unit sub cause).host = s.host ∧
    (State.recordLane s kind unit sub cause).pkg = s.pkg ∧
    (State.recordLane s kind unit sub cause).clocks = s.clocks ∧
    (State.recordLane s kind unit sub cause).engines = s.engines ∧
    (State.recordLane s kind unit sub cause).slabs = s.slabs ∧
    (State.recordLane s kind unit sub cause).rings = s.rings ∧
    (State.recordLane s kind unit sub cause).plots = s.plots ∧
    (State.recordLane s kind unit sub cause).stash = s.stash ∧
    (State.recordLane s kind unit sub cause).matJobs = s.matJobs ∧
    (State.recordLane s kind unit sub cause).vecJobs = s.vecJobs ∧
    (State.recordLane s kind unit sub cause).fabric = s.fabric ∧
    (State.recordLane s kind unit sub cause).ports = s.ports ∧
    (State.recordLane s kind unit sub cause).puts = s.puts ∧
    (State.recordLane s kind unit sub cause).tags = s.tags ∧ (State.recordLane s kind unit sub cause).mgr = s.mgr ∧
    (State.recordLane s kind unit sub cause).mac = s.mac ∧ (State.recordLane s kind unit sub cause).pcie = s.pcie ∧
    (State.recordLane s kind unit sub cause).sec = s.sec ∧
    (State.recordLane s kind unit sub cause).cores = s.cores ∧
    (State.recordLane s kind unit sub cause).power = s.power ∧
    (State.recordLane s kind unit sub cause).faults = s.faults ∧
    (State.recordLane s kind unit sub cause).maint = s.maint ∧
    (State.recordLane s kind unit sub cause).glob = s.glob := by
  unfold State.recordLane
  try dsimp only
  (repeat' split) <;> first | (simp; done) | (simp (disch := (intros; (repeat' split) <;> first | simp | skip)); done)

@[simp] theorem State.retirePort_frame (s : State) (p cause : Nat) :
    (State.retirePort s p cause).pending = s.pending ∧ (State.retirePort s p cause).hbm = s.hbm ∧
    (State.retirePort s p cause).host = s.host ∧ (State.retirePort s p cause).pkg = s.pkg ∧
    (State.retirePort s p cause).clocks = s.clocks ∧ (State.retirePort s p cause).engines = s.engines ∧
    (State.retirePort s p cause).stash = s.stash ∧ (State.retirePort s p cause).matJobs = s.matJobs ∧
    (State.retirePort s p cause).vecJobs = s.vecJobs ∧ (State.retirePort s p cause).mgr = s.mgr ∧
    (State.retirePort s p cause).mac = s.mac ∧ (State.retirePort s p cause).sec = s.sec ∧
    (State.retirePort s p cause).cores = s.cores ∧ (State.retirePort s p cause).glob = s.glob := by
  unfold State.retirePort
  try dsimp only
  (repeat' split) <;> first | (simp; done) | (simp (disch := (intros; (repeat' split) <;> first | simp | skip)); done)

@[simp] theorem State.quarantineKept_frame (s : State) (p : Nat) :
    (State.quarantineKept s p).pending = s.pending ∧ (State.quarantineKept s p).hbm = s.hbm ∧
    (State.quarantineKept s p).host = s.host ∧ (State.quarantineKept s p).pkg = s.pkg ∧
    (State.quarantineKept s p).clocks = s.clocks ∧ (State.quarantineKept s p).engines = s.engines ∧
    (State.quarantineKept s p).slabs = s.slabs ∧ (State.quarantineKept s p).rings = s.rings ∧
    (State.quarantineKept s p).stash = s.stash ∧ (State.quarantineKept s p).matJobs = s.matJobs ∧
    (State.quarantineKept s p).vecJobs = s.vecJobs ∧ (State.quarantineKept s p).ports = s.ports ∧
    (State.quarantineKept s p).puts = s.puts ∧ (State.quarantineKept s p).tags = s.tags ∧
    (State.quarantineKept s p).mgr = s.mgr ∧ (State.quarantineKept s p).mac = s.mac ∧
    (State.quarantineKept s p).sec = s.sec ∧ (State.quarantineKept s p).cores = s.cores ∧
    (State.quarantineKept s p).maint = s.maint ∧ (State.quarantineKept s p).glob = s.glob := by
  unfold State.quarantineKept
  try dsimp only
  (repeat' split) <;> first | (simp; done) | (simp (disch := (intros; (repeat' split) <;> first | simp | skip)); done)

@[simp] theorem State.retrainOr_frame (s : State) (p count : Nat) :
    (State.retrainOr s p count).pending = s.pending ∧ (State.retrainOr s p count).hbm = s.hbm ∧
    (State.retrainOr s p count).host = s.host ∧ (State.retrainOr s p count).pkg = s.pkg ∧
    (State.retrainOr s p count).clocks = s.clocks ∧ (State.retrainOr s p count).engines = s.engines ∧
    (State.retrainOr s p count).stash = s.stash ∧ (State.retrainOr s p count).matJobs = s.matJobs ∧
    (State.retrainOr s p count).vecJobs = s.vecJobs ∧ (State.retrainOr s p count).mgr = s.mgr ∧
    (State.retrainOr s p count).mac = s.mac ∧ (State.retrainOr s p count).sec = s.sec ∧
    (State.retrainOr s p count).cores = s.cores ∧ (State.retrainOr s p count).glob = s.glob := by
  unfold State.retrainOr
  try dsimp only
  (repeat' split) <;> first | (simp; done) | (simp (disch := (intros; (repeat' split) <;> first | simp | skip)); done)

@[simp] theorem State.retrain_frame (s : State) (p : Nat) :
    (State.retrain s p).pending = s.pending ∧ (State.retrain s p).hbm = s.hbm ∧ (State.retrain s p).host = s.host ∧
    (State.retrain s p).pkg = s.pkg ∧ (State.retrain s p).clocks = s.clocks ∧
    (State.retrain s p).engines = s.engines ∧ (State.retrain s p).stash = s.stash ∧
    (State.retrain s p).matJobs = s.matJobs ∧ (State.retrain s p).vecJobs = s.vecJobs ∧
    (State.retrain s p).mgr = s.mgr ∧ (State.retrain s p).mac = s.mac ∧ (State.retrain s p).sec = s.sec ∧
    (State.retrain s p).cores = s.cores ∧ (State.retrain s p).glob = s.glob := by
  unfold State.retrain
  try dsimp only
  (repeat' split) <;> first | (simp; done) | (simp (disch := (intros; (repeat' split) <;> first | simp | skip)); done)

@[simp] theorem State.stalled_frame (s : State) (p : Nat) :
    (State.stalled s p).pending = s.pending ∧ (State.stalled s p).hbm = s.hbm ∧ (State.stalled s p).host = s.host ∧
    (State.stalled s p).pkg = s.pkg ∧ (State.stalled s p).clocks = s.clocks ∧
    (State.stalled s p).engines = s.engines ∧ (State.stalled s p).stash = s.stash ∧
    (State.stalled s p).matJobs = s.matJobs ∧ (State.stalled s p).vecJobs = s.vecJobs ∧
    (State.stalled s p).mgr = s.mgr ∧ (State.stalled s p).mac = s.mac ∧ (State.stalled s p).sec = s.sec ∧
    (State.stalled s p).cores = s.cores ∧ (State.stalled s p).glob = s.glob := by
  unfold State.stalled
  try dsimp only
  (repeat' split) <;> first | (simp; done) | (simp (disch := (intros; (repeat' split) <;> first | simp | skip)); done)

end Sys2Proof.Machine
end

