-- ==== Sys2Proof/Laws/FrameMacOps.lean ====
section
/-! SUPPORT. Frames of the operations of MacOps. -/

namespace Sys2Proof.Machine

@[simp] theorem State.modMgr_frame (s : State) (f : Mgr → Mgr) :
    (State.modMgr s f).pending = s.pending ∧ (State.modMgr s f).draws = s.draws ∧ (State.modMgr s f).out = s.out ∧
    (State.modMgr s f).regs = s.regs ∧ (State.modMgr s f).hbm = s.hbm ∧ (State.modMgr s f).host = s.host ∧
    (State.modMgr s f).pkg = s.pkg ∧ (State.modMgr s f).flash = s.flash ∧ (State.modMgr s f).clocks = s.clocks ∧
    (State.modMgr s f).engines = s.engines ∧ (State.modMgr s f).slabs = s.slabs ∧
    (State.modMgr s f).rings = s.rings ∧ (State.modMgr s f).plots = s.plots ∧ (State.modMgr s f).stash = s.stash ∧
    (State.modMgr s f).matJobs = s.matJobs ∧ (State.modMgr s f).vecJobs = s.vecJobs ∧
    (State.modMgr s f).fabric = s.fabric ∧ (State.modMgr s f).ports = s.ports ∧ (State.modMgr s f).puts = s.puts ∧
    (State.modMgr s f).tags = s.tags ∧ (State.modMgr s f).mac = s.mac ∧ (State.modMgr s f).pcie = s.pcie ∧
    (State.modMgr s f).sec = s.sec ∧ (State.modMgr s f).cores = s.cores ∧ (State.modMgr s f).power = s.power ∧
    (State.modMgr s f).faults = s.faults ∧ (State.modMgr s f).maint = s.maint ∧ (State.modMgr s f).glob = s.glob := by
  unfold State.modMgr
  try dsimp only
  (repeat' split) <;> first | (simp; done) | (simp (disch := (intros; (repeat' split) <;> first | simp | skip)); done)

@[simp] theorem State.modMac_frame (s : State) (f : Mac → Mac) :
    (State.modMac s f).pending = s.pending ∧ (State.modMac s f).draws = s.draws ∧ (State.modMac s f).out = s.out ∧
    (State.modMac s f).regs = s.regs ∧ (State.modMac s f).hbm = s.hbm ∧ (State.modMac s f).host = s.host ∧
    (State.modMac s f).pkg = s.pkg ∧ (State.modMac s f).flash = s.flash ∧ (State.modMac s f).clocks = s.clocks ∧
    (State.modMac s f).engines = s.engines ∧ (State.modMac s f).slabs = s.slabs ∧
    (State.modMac s f).rings = s.rings ∧ (State.modMac s f).plots = s.plots ∧ (State.modMac s f).stash = s.stash ∧
    (State.modMac s f).matJobs = s.matJobs ∧ (State.modMac s f).vecJobs = s.vecJobs ∧
    (State.modMac s f).fabric = s.fabric ∧ (State.modMac s f).ports = s.ports ∧ (State.modMac s f).puts = s.puts ∧
    (State.modMac s f).tags = s.tags ∧ (State.modMac s f).mgr = s.mgr ∧ (State.modMac s f).pcie = s.pcie ∧
    (State.modMac s f).sec = s.sec ∧ (State.modMac s f).cores = s.cores ∧ (State.modMac s f).power = s.power ∧
    (State.modMac s f).faults = s.faults ∧ (State.modMac s f).maint = s.maint ∧ (State.modMac s f).glob = s.glob := by
  unfold State.modMac
  try dsimp only
  (repeat' split) <;> first | (simp; done) | (simp (disch := (intros; (repeat' split) <;> first | simp | skip)); done)

@[simp] theorem State.macAttempt_frame (s : State) (f : List Byte) (n : Nat) :
    (State.macAttempt s f n).pending = s.pending ∧ (State.macAttempt s f n).draws = s.draws ∧
    (State.macAttempt s f n).regs = s.regs ∧ (State.macAttempt s f n).hbm = s.hbm ∧
    (State.macAttempt s f n).host = s.host ∧ (State.macAttempt s f n).pkg = s.pkg ∧
    (State.macAttempt s f n).flash = s.flash ∧ (State.macAttempt s f n).clocks = s.clocks ∧
    (State.macAttempt s f n).engines = s.engines ∧ (State.macAttempt s f n).slabs = s.slabs ∧
    (State.macAttempt s f n).rings = s.rings ∧ (State.macAttempt s f n).plots = s.plots ∧
    (State.macAttempt s f n).stash = s.stash ∧ (State.macAttempt s f n).matJobs = s.matJobs ∧
    (State.macAttempt s f n).vecJobs = s.vecJobs ∧ (State.macAttempt s f n).fabric = s.fabric ∧
    (State.macAttempt s f n).ports = s.ports ∧ (State.macAttempt s f n).puts = s.puts ∧
    (State.macAttempt s f n).tags = s.tags ∧ (State.macAttempt s f n).mgr = s.mgr ∧
    (State.macAttempt s f n).pcie = s.pcie ∧ (State.macAttempt s f n).sec = s.sec ∧
    (State.macAttempt s f n).cores = s.cores ∧ (State.macAttempt s f n).power = s.power ∧
    (State.macAttempt s f n).faults = s.faults ∧ (State.macAttempt s f n).maint = s.maint ∧
    (State.macAttempt s f n).glob = s.glob := by
  unfold State.macAttempt
  try dsimp only
  (repeat' split) <;> first | (simp; done) | (simp (disch := (intros; (repeat' split) <;> first | simp | skip)); done)

@[simp] theorem State.macNext_frame (s : State) :
    (State.macNext s).pending = s.pending ∧ (State.macNext s).draws = s.draws ∧ (State.macNext s).regs = s.regs ∧
    (State.macNext s).hbm = s.hbm ∧ (State.macNext s).host = s.host ∧ (State.macNext s).pkg = s.pkg ∧
    (State.macNext s).flash = s.flash ∧ (State.macNext s).clocks = s.clocks ∧
    (State.macNext s).engines = s.engines ∧ (State.macNext s).slabs = s.slabs ∧ (State.macNext s).rings = s.rings ∧
    (State.macNext s).plots = s.plots ∧ (State.macNext s).stash = s.stash ∧ (State.macNext s).matJobs = s.matJobs ∧
    (State.macNext s).vecJobs = s.vecJobs ∧ (State.macNext s).fabric = s.fabric ∧
    (State.macNext s).ports = s.ports ∧ (State.macNext s).puts = s.puts ∧ (State.macNext s).tags = s.tags ∧
    (State.macNext s).mgr = s.mgr ∧ (State.macNext s).pcie = s.pcie ∧ (State.macNext s).sec = s.sec ∧
    (State.macNext s).cores = s.cores ∧ (State.macNext s).power = s.power ∧ (State.macNext s).faults = s.faults ∧
    (State.macNext s).maint = s.maint ∧ (State.macNext s).glob = s.glob := by
  unfold State.macNext
  try dsimp only
  (repeat' split) <;> first | (simp; done) | (simp (disch := (intros; (repeat' split) <;> first | simp | skip)); done)

@[simp] theorem State.macSend_frame (s : State) (f : List Byte) :
    (State.macSend s f).pending = s.pending ∧ (State.macSend s f).draws = s.draws ∧
    (State.macSend s f).regs = s.regs ∧ (State.macSend s f).hbm = s.hbm ∧ (State.macSend s f).host = s.host ∧
    (State.macSend s f).pkg = s.pkg ∧ (State.macSend s f).flash = s.flash ∧ (State.macSend s f).clocks = s.clocks ∧
    (State.macSend s f).engines = s.engines ∧ (State.macSend s f).slabs = s.slabs ∧
    (State.macSend s f).rings = s.rings ∧ (State.macSend s f).plots = s.plots ∧
    (State.macSend s f).stash = s.stash ∧ (State.macSend s f).matJobs = s.matJobs ∧
    (State.macSend s f).vecJobs = s.vecJobs ∧ (State.macSend s f).fabric = s.fabric ∧
    (State.macSend s f).ports = s.ports ∧ (State.macSend s f).puts = s.puts ∧ (State.macSend s f).tags = s.tags ∧
    (State.macSend s f).mgr = s.mgr ∧ (State.macSend s f).pcie = s.pcie ∧ (State.macSend s f).sec = s.sec ∧
    (State.macSend s f).cores = s.cores ∧ (State.macSend s f).power = s.power ∧
    (State.macSend s f).faults = s.faults ∧ (State.macSend s f).maint = s.maint ∧ (State.macSend s f).glob = s.glob := by
  unfold State.macSend
  try dsimp only
  (repeat' split) <;> first | (simp; done) | (simp (disch := (intros; (repeat' split) <;> first | simp | skip)); done)

@[simp] theorem State.macResume_frame (s : State) :
    (State.macResume s).pending = s.pending ∧ (State.macResume s).draws = s.draws ∧
    (State.macResume s).regs = s.regs ∧ (State.macResume s).hbm = s.hbm ∧ (State.macResume s).host = s.host ∧
    (State.macResume s).pkg = s.pkg ∧ (State.macResume s).flash = s.flash ∧ (State.macResume s).clocks = s.clocks ∧
    (State.macResume s).engines = s.engines ∧ (State.macResume s).slabs = s.slabs ∧
    (State.macResume s).rings = s.rings ∧ (State.macResume s).plots = s.plots ∧
    (State.macResume s).stash = s.stash ∧ (State.macResume s).matJobs = s.matJobs ∧
    (State.macResume s).vecJobs = s.vecJobs ∧ (State.macResume s).fabric = s.fabric ∧
    (State.macResume s).ports = s.ports ∧ (State.macResume s).puts = s.puts ∧ (State.macResume s).tags = s.tags ∧
    (State.macResume s).mgr = s.mgr ∧ (State.macResume s).pcie = s.pcie ∧ (State.macResume s).sec = s.sec ∧
    (State.macResume s).cores = s.cores ∧ (State.macResume s).power = s.power ∧
    (State.macResume s).faults = s.faults ∧ (State.macResume s).maint = s.maint ∧ (State.macResume s).glob = s.glob := by
  unfold State.macResume
  try dsimp only
  (repeat' split) <;> first | (simp; done) | (simp (disch := (intros; (repeat' split) <;> first | simp | skip)); done)

@[simp] theorem State.segmentSend_frame (s : State) (dst : Option Nat) (c : Ctrl) :
    (State.segmentSend s dst c).pending = s.pending ∧ (State.segmentSend s dst c).draws = s.draws ∧
    (State.segmentSend s dst c).regs = s.regs ∧ (State.segmentSend s dst c).hbm = s.hbm ∧
    (State.segmentSend s dst c).host = s.host ∧ (State.segmentSend s dst c).pkg = s.pkg ∧
    (State.segmentSend s dst c).flash = s.flash ∧ (State.segmentSend s dst c).clocks = s.clocks ∧
    (State.segmentSend s dst c).engines = s.engines ∧ (State.segmentSend s dst c).slabs = s.slabs ∧
    (State.segmentSend s dst c).rings = s.rings ∧ (State.segmentSend s dst c).plots = s.plots ∧
    (State.segmentSend s dst c).stash = s.stash ∧ (State.segmentSend s dst c).matJobs = s.matJobs ∧
    (State.segmentSend s dst c).vecJobs = s.vecJobs ∧ (State.segmentSend s dst c).fabric = s.fabric ∧
    (State.segmentSend s dst c).ports = s.ports ∧ (State.segmentSend s dst c).puts = s.puts ∧
    (State.segmentSend s dst c).tags = s.tags ∧ (State.segmentSend s dst c).mgr = s.mgr ∧
    (State.segmentSend s dst c).pcie = s.pcie ∧ (State.segmentSend s dst c).sec = s.sec ∧
    (State.segmentSend s dst c).cores = s.cores ∧ (State.segmentSend s dst c).power = s.power ∧
    (State.segmentSend s dst c).faults = s.faults ∧ (State.segmentSend s dst c).maint = s.maint ∧
    (State.segmentSend s dst c).glob = s.glob := by
  unfold State.segmentSend
  try dsimp only
  (repeat' split) <;> first | (simp; done) | (simp (disch := (intros; (repeat' split) <;> first | simp | skip)); done)

@[simp] theorem State.sayHello_frame (s : State) :
    (State.sayHello s).pending = s.pending ∧ (State.sayHello s).draws = s.draws ∧
    (State.sayHello s).regs = s.regs ∧ (State.sayHello s).hbm = s.hbm ∧ (State.sayHello s).host = s.host ∧
    (State.sayHello s).pkg = s.pkg ∧ (State.sayHello s).flash = s.flash ∧ (State.sayHello s).clocks = s.clocks ∧
    (State.sayHello s).engines = s.engines ∧ (State.sayHello s).slabs = s.slabs ∧
    (State.sayHello s).rings = s.rings ∧ (State.sayHello s).plots = s.plots ∧ (State.sayHello s).stash = s.stash ∧
    (State.sayHello s).matJobs = s.matJobs ∧ (State.sayHello s).vecJobs = s.vecJobs ∧
    (State.sayHello s).fabric = s.fabric ∧ (State.sayHello s).ports = s.ports ∧ (State.sayHello s).puts = s.puts ∧
    (State.sayHello s).tags = s.tags ∧ (State.sayHello s).mgr = s.mgr ∧ (State.sayHello s).pcie = s.pcie ∧
    (State.sayHello s).sec = s.sec ∧ (State.sayHello s).cores = s.cores ∧ (State.sayHello s).power = s.power ∧
    (State.sayHello s).faults = s.faults ∧ (State.sayHello s).maint = s.maint ∧ (State.sayHello s).glob = s.glob := by
  unfold State.sayHello
  try dsimp only
  (repeat' split) <;> first | (simp; done) | (simp (disch := (intros; (repeat' split) <;> first | simp | skip)); done)

@[simp] theorem State.putCaps_frame (s : State) (x0 : TableWrite) :
    (State.putCaps s x0).pending = s.pending ∧ (State.putCaps s x0).draws = s.draws ∧
    (State.putCaps s x0).out = s.out ∧ (State.putCaps s x0).regs = s.regs ∧ (State.putCaps s x0).hbm = s.hbm ∧
    (State.putCaps s x0).host = s.host ∧ (State.putCaps s x0).pkg = s.pkg ∧ (State.putCaps s x0).flash = s.flash ∧
    (State.putCaps s x0).clocks = s.clocks ∧ (State.putCaps s x0).engines = s.engines ∧
    (State.putCaps s x0).slabs = s.slabs ∧ (State.putCaps s x0).rings = s.rings ∧
    (State.putCaps s x0).plots = s.plots ∧ (State.putCaps s x0).stash = s.stash ∧
    (State.putCaps s x0).matJobs = s.matJobs ∧ (State.putCaps s x0).vecJobs = s.vecJobs ∧
    (State.putCaps s x0).fabric = s.fabric ∧ (State.putCaps s x0).ports = s.ports ∧
    (State.putCaps s x0).puts = s.puts ∧ (State.putCaps s x0).mgr = s.mgr ∧ (State.putCaps s x0).mac = s.mac ∧
    (State.putCaps s x0).pcie = s.pcie ∧ (State.putCaps s x0).sec = s.sec ∧ (State.putCaps s x0).cores = s.cores ∧
    (State.putCaps s x0).power = s.power ∧ (State.putCaps s x0).faults = s.faults ∧
    (State.putCaps s x0).maint = s.maint ∧ (State.putCaps s x0).glob = s.glob := by
  unfold State.putCaps
  try dsimp only
  (repeat' split) <;> first | (simp; done) | (simp (disch := (intros; (repeat' split) <;> first | simp | skip)); done)

@[simp] theorem State.drainTables_frame (s : State) :
    (State.drainTables s).pending = s.pending ∧ (State.drainTables s).draws = s.draws ∧
    (State.drainTables s).out = s.out ∧ (State.drainTables s).regs = s.regs ∧ (State.drainTables s).hbm = s.hbm ∧
    (State.drainTables s).host = s.host ∧ (State.drainTables s).pkg = s.pkg ∧
    (State.drainTables s).flash = s.flash ∧ (State.drainTables s).clocks = s.clocks ∧
    (State.drainTables s).engines = s.engines ∧ (State.drainTables s).slabs = s.slabs ∧
    (State.drainTables s).rings = s.rings ∧ (State.drainTables s).plots = s.plots ∧
    (State.drainTables s).stash = s.stash ∧ (State.drainTables s).matJobs = s.matJobs ∧
    (State.drainTables s).vecJobs = s.vecJobs ∧ (State.drainTables s).ports = s.ports ∧
    (State.drainTables s).puts = s.puts ∧ (State.drainTables s).tags = s.tags ∧ (State.drainTables s).mgr = s.mgr ∧
    (State.drainTables s).mac = s.mac ∧ (State.drainTables s).pcie = s.pcie ∧ (State.drainTables s).sec = s.sec ∧
    (State.drainTables s).cores = s.cores ∧ (State.drainTables s).power = s.power ∧
    (State.drainTables s).faults = s.faults ∧ (State.drainTables s).maint = s.maint ∧
    (State.drainTables s).glob = s.glob := by
  unfold State.drainTables
  try dsimp only
  (repeat' split) <;> first | (simp; done) | (simp (disch := (intros; (repeat' split) <;> first | simp | skip)); done)

@[simp] theorem State.writeTable_frame (s : State) (epoch : BitVec 32) (t : TableWrite) :
    (State.writeTable s epoch t).pending = s.pending ∧ (State.writeTable s epoch t).draws = s.draws ∧
    (State.writeTable s epoch t).out = s.out ∧ (State.writeTable s epoch t).hbm = s.hbm ∧
    (State.writeTable s epoch t).host = s.host ∧ (State.writeTable s epoch t).pkg = s.pkg ∧
    (State.writeTable s epoch t).flash = s.flash ∧ (State.writeTable s epoch t).clocks = s.clocks ∧
    (State.writeTable s epoch t).engines = s.engines ∧ (State.writeTable s epoch t).slabs = s.slabs ∧
    (State.writeTable s epoch t).rings = s.rings ∧ (State.writeTable s epoch t).plots = s.plots ∧
    (State.writeTable s epoch t).stash = s.stash ∧ (State.writeTable s epoch t).matJobs = s.matJobs ∧
    (State.writeTable s epoch t).vecJobs = s.vecJobs ∧ (State.writeTable s epoch t).ports = s.ports ∧
    (State.writeTable s epoch t).puts = s.puts ∧ (State.writeTable s epoch t).mgr = s.mgr ∧
    (State.writeTable s epoch t).mac = s.mac ∧ (State.writeTable s epoch t).pcie = s.pcie ∧
    (State.writeTable s epoch t).sec = s.sec ∧ (State.writeTable s epoch t).cores = s.cores ∧
    (State.writeTable s epoch t).power = s.power ∧ (State.writeTable s epoch t).faults = s.faults ∧
    (State.writeTable s epoch t).maint = s.maint ∧ (State.writeTable s epoch t).glob = s.glob := by
  unfold State.writeTable
  try dsimp only
  (repeat' split) <;> first | (simp; done) | (simp (disch := (intros; (repeat' split) <;> first | simp | skip)); done)

end Sys2Proof.Machine
end

