-- ==== Sys2Proof/Laws/FrameService.lean ====
section
/-! SUPPORT. Frames of the operations of Service. -/

namespace Sys2Proof.Machine

@[simp] theorem State.refreshPath_frame (s : State) :
    (State.refreshPath s).pending = s.pending ∧ (State.refreshPath s).draws = s.draws ∧
    (State.refreshPath s).out = s.out ∧ (State.refreshPath s).hbm = s.hbm ∧ (State.refreshPath s).host = s.host ∧
    (State.refreshPath s).pkg = s.pkg ∧ (State.refreshPath s).flash = s.flash ∧
    (State.refreshPath s).clocks = s.clocks ∧ (State.refreshPath s).engines = s.engines ∧
    (State.refreshPath s).slabs = s.slabs ∧ (State.refreshPath s).rings = s.rings ∧
    (State.refreshPath s).plots = s.plots ∧ (State.refreshPath s).stash = s.stash ∧
    (State.refreshPath s).matJobs = s.matJobs ∧ (State.refreshPath s).vecJobs = s.vecJobs ∧
    (State.refreshPath s).fabric = s.fabric ∧ (State.refreshPath s).ports = s.ports ∧
    (State.refreshPath s).puts = s.puts ∧ (State.refreshPath s).tags = s.tags ∧ (State.refreshPath s).mgr = s.mgr ∧
    (State.refreshPath s).mac = s.mac ∧ (State.refreshPath s).pcie = s.pcie ∧ (State.refreshPath s).sec = s.sec ∧
    (State.refreshPath s).cores = s.cores ∧ (State.refreshPath s).power = s.power ∧
    (State.refreshPath s).faults = s.faults ∧ (State.refreshPath s).maint = s.maint ∧
    (State.refreshPath s).glob = s.glob := by
  unfold State.refreshPath
  try dsimp only
  (repeat' split) <;> first | (simp; done) | (simp (disch := (intros; (repeat' split) <;> first | simp | skip)); done)

@[simp] theorem State.vergeOut_frame (s : State) (k : Nat) :
    (State.vergeOut s k).pending = s.pending ∧ (State.vergeOut s k).draws = s.draws ∧
    (State.vergeOut s k).hbm = s.hbm ∧ (State.vergeOut s k).host = s.host ∧ (State.vergeOut s k).pkg = s.pkg ∧
    (State.vergeOut s k).flash = s.flash ∧ (State.vergeOut s k).clocks = s.clocks ∧
    (State.vergeOut s k).engines = s.engines ∧ (State.vergeOut s k).plots = s.plots ∧
    (State.vergeOut s k).stash = s.stash ∧ (State.vergeOut s k).matJobs = s.matJobs ∧
    (State.vergeOut s k).vecJobs = s.vecJobs ∧ (State.vergeOut s k).mgr = s.mgr ∧
    (State.vergeOut s k).mac = s.mac ∧ (State.vergeOut s k).pcie = s.pcie ∧ (State.vergeOut s k).sec = s.sec ∧
    (State.vergeOut s k).cores = s.cores ∧ (State.vergeOut s k).faults = s.faults ∧
    (State.vergeOut s k).glob = s.glob := by
  unfold State.vergeOut
  try dsimp only
  (repeat' split) <;> first | (simp; done) | (simp (disch := (intros; (repeat' split) <;> first | simp | skip)); done)

@[simp] theorem State.fenceOne_frame (s : State) (gd : Nat) :
    (State.fenceOne s gd).pending = s.pending ∧ (State.fenceOne s gd).draws = s.draws ∧
    (State.fenceOne s gd).host = s.host ∧ (State.fenceOne s gd).flash = s.flash ∧
    (State.fenceOne s gd).clocks = s.clocks ∧ (State.fenceOne s gd).engines = s.engines ∧
    (State.fenceOne s gd).plots = s.plots ∧ (State.fenceOne s gd).stash = s.stash ∧
    (State.fenceOne s gd).matJobs = s.matJobs ∧ (State.fenceOne s gd).vecJobs = s.vecJobs ∧
    (State.fenceOne s gd).mgr = s.mgr ∧ (State.fenceOne s gd).mac = s.mac ∧ (State.fenceOne s gd).pcie = s.pcie ∧
    (State.fenceOne s gd).sec = s.sec ∧ (State.fenceOne s gd).cores = s.cores ∧
    (State.fenceOne s gd).faults = s.faults ∧ (State.fenceOne s gd).glob = s.glob := by
  unfold State.fenceOne
  try dsimp only
  (repeat' split) <;> first | (simp; done) | (simp (disch := (intros; (repeat' split) <;> first | simp | skip)); done)

@[simp] theorem State.fenceUnreached_frame (s : State) :
    (State.fenceUnreached s).pending = s.pending ∧ (State.fenceUnreached s).draws = s.draws ∧
    (State.fenceUnreached s).host = s.host ∧ (State.fenceUnreached s).flash = s.flash ∧
    (State.fenceUnreached s).clocks = s.clocks ∧ (State.fenceUnreached s).engines = s.engines ∧
    (State.fenceUnreached s).plots = s.plots ∧ (State.fenceUnreached s).stash = s.stash ∧
    (State.fenceUnreached s).matJobs = s.matJobs ∧ (State.fenceUnreached s).vecJobs = s.vecJobs ∧
    (State.fenceUnreached s).mgr = s.mgr ∧ (State.fenceUnreached s).mac = s.mac ∧
    (State.fenceUnreached s).pcie = s.pcie ∧ (State.fenceUnreached s).sec = s.sec ∧
    (State.fenceUnreached s).cores = s.cores ∧ (State.fenceUnreached s).faults = s.faults ∧
    (State.fenceUnreached s).glob = s.glob := by
  unfold State.fenceUnreached
  try dsimp only
  (repeat' split) <;> first | (simp; done) | (simp (disch := (intros; (repeat' split) <;> first | simp | skip)); done)

@[simp] theorem State.fenceDie_frame (s : State) (gd : Nat) :
    (State.fenceDie s gd).pending = s.pending ∧ (State.fenceDie s gd).draws = s.draws ∧
    (State.fenceDie s gd).host = s.host ∧ (State.fenceDie s gd).flash = s.flash ∧
    (State.fenceDie s gd).clocks = s.clocks ∧ (State.fenceDie s gd).engines = s.engines ∧
    (State.fenceDie s gd).plots = s.plots ∧ (State.fenceDie s gd).stash = s.stash ∧
    (State.fenceDie s gd).matJobs = s.matJobs ∧ (State.fenceDie s gd).vecJobs = s.vecJobs ∧
    (State.fenceDie s gd).mgr = s.mgr ∧ (State.fenceDie s gd).mac = s.mac ∧ (State.fenceDie s gd).pcie = s.pcie ∧
    (State.fenceDie s gd).sec = s.sec ∧ (State.fenceDie s gd).cores = s.cores ∧
    (State.fenceDie s gd).faults = s.faults ∧ (State.fenceDie s gd).glob = s.glob := by
  unfold State.fenceDie
  try dsimp only
  (repeat' split) <;> first | (simp; done) | (simp (disch := (intros; (repeat' split) <;> first | simp | skip)); done)

@[simp] theorem State.retireChannel_frame (s : State) (ch : Nat) :
    (State.retireChannel s ch).pending = s.pending ∧ (State.retireChannel s ch).draws = s.draws ∧
    (State.retireChannel s ch).host = s.host ∧ (State.retireChannel s ch).clocks = s.clocks ∧
    (State.retireChannel s ch).engines = s.engines ∧ (State.retireChannel s ch).stash = s.stash ∧
    (State.retireChannel s ch).matJobs = s.matJobs ∧ (State.retireChannel s ch).vecJobs = s.vecJobs ∧
    (State.retireChannel s ch).mgr = s.mgr ∧ (State.retireChannel s ch).mac = s.mac ∧
    (State.retireChannel s ch).sec = s.sec ∧ (State.retireChannel s ch).cores = s.cores ∧
    (State.retireChannel s ch).glob = s.glob := by
  unfold State.retireChannel
  try dsimp only
  (repeat' split) <;> first | (simp; done) | (simp (disch := (intros; (repeat' split) <;> first | simp | skip)); done)

@[simp] theorem State.retireGroup_frame (s : State) (ch g : Nat) :
    (State.retireGroup s ch g).pending = s.pending ∧ (State.retireGroup s ch g).draws = s.draws ∧
    (State.retireGroup s ch g).host = s.host ∧ (State.retireGroup s ch g).clocks = s.clocks ∧
    (State.retireGroup s ch g).engines = s.engines ∧ (State.retireGroup s ch g).stash = s.stash ∧
    (State.retireGroup s ch g).matJobs = s.matJobs ∧ (State.retireGroup s ch g).vecJobs = s.vecJobs ∧
    (State.retireGroup s ch g).mgr = s.mgr ∧ (State.retireGroup s ch g).mac = s.mac ∧
    (State.retireGroup s ch g).sec = s.sec ∧ (State.retireGroup s ch g).cores = s.cores ∧
    (State.retireGroup s ch g).glob = s.glob := by
  unfold State.retireGroup
  try dsimp only
  (repeat' split) <;> first | (simp; done) | (simp (disch := (intros; (repeat' split) <;> first | simp | skip)); done)

@[simp] theorem State.retireDieLane_frame (s : State) (ch g lane die : Nat) :
    (State.retireDieLane s ch g lane die).pending = s.pending ∧
    (State.retireDieLane s ch g lane die).draws = s.draws ∧ (State.retireDieLane s ch g lane die).host = s.host ∧
    (State.retireDieLane s ch g lane die).clocks = s.clocks ∧
    (State.retireDieLane s ch g lane die).engines = s.engines ∧
    (State.retireDieLane s ch g lane die).stash = s.stash ∧
    (State.retireDieLane s ch g lane die).matJobs = s.matJobs ∧
    (State.retireDieLane s ch g lane die).vecJobs = s.vecJobs ∧ (State.retireDieLane s ch g lane die).mgr = s.mgr ∧
    (State.retireDieLane s ch g lane die).mac = s.mac ∧ (State.retireDieLane s ch g lane die).sec = s.sec ∧
    (State.retireDieLane s ch g lane die).cores = s.cores ∧ (State.retireDieLane s ch g lane die).glob = s.glob := by
  unfold State.retireDieLane
  try dsimp only
  (repeat' split) <;> first | (simp; done) | (simp (disch := (intros; (repeat' split) <;> first | simp | skip)); done)

@[simp] theorem State.refreshPages_frame (s : State) :
    (State.refreshPages s).pending = s.pending ∧ (State.refreshPages s).draws = s.draws ∧
    (State.refreshPages s).out = s.out ∧ (State.refreshPages s).hbm = s.hbm ∧
    (State.refreshPages s).host = s.host ∧ (State.refreshPages s).pkg = s.pkg ∧
    (State.refreshPages s).flash = s.flash ∧ (State.refreshPages s).clocks = s.clocks ∧
    (State.refreshPages s).engines = s.engines ∧ (State.refreshPages s).slabs = s.slabs ∧
    (State.refreshPages s).rings = s.rings ∧ (State.refreshPages s).plots = s.plots ∧
    (State.refreshPages s).stash = s.stash ∧ (State.refreshPages s).matJobs = s.matJobs ∧
    (State.refreshPages s).vecJobs = s.vecJobs ∧ (State.refreshPages s).fabric = s.fabric ∧
    (State.refreshPages s).ports = s.ports ∧ (State.refreshPages s).puts = s.puts ∧
    (State.refreshPages s).tags = s.tags ∧ (State.refreshPages s).mgr = s.mgr ∧
    (State.refreshPages s).mac = s.mac ∧ (State.refreshPages s).pcie = s.pcie ∧
    (State.refreshPages s).sec = s.sec ∧ (State.refreshPages s).cores = s.cores ∧
    (State.refreshPages s).power = s.power ∧ (State.refreshPages s).faults = s.faults ∧
    (State.refreshPages s).maint = s.maint ∧ (State.refreshPages s).glob = s.glob := by
  unfold State.refreshPages
  try dsimp only
  (repeat' split) <;> first | (simp; done) | (simp (disch := (intros; (repeat' split) <;> first | simp | skip)); done)

@[simp] theorem State.retirePage_frame (s : State) (stack page : Nat) :
    (State.retirePage s stack page).pending = s.pending ∧ (State.retirePage s stack page).draws = s.draws ∧
    (State.retirePage s stack page).host = s.host ∧ (State.retirePage s stack page).pkg = s.pkg ∧
    (State.retirePage s stack page).clocks = s.clocks ∧ (State.retirePage s stack page).engines = s.engines ∧
    (State.retirePage s stack page).slabs = s.slabs ∧ (State.retirePage s stack page).rings = s.rings ∧
    (State.retirePage s stack page).stash = s.stash ∧ (State.retirePage s stack page).matJobs = s.matJobs ∧
    (State.retirePage s stack page).vecJobs = s.vecJobs ∧ (State.retirePage s stack page).fabric = s.fabric ∧
    (State.retirePage s stack page).ports = s.ports ∧ (State.retirePage s stack page).puts = s.puts ∧
    (State.retirePage s stack page).tags = s.tags ∧ (State.retirePage s stack page).mgr = s.mgr ∧
    (State.retirePage s stack page).mac = s.mac ∧ (State.retirePage s stack page).sec = s.sec ∧
    (State.retirePage s stack page).cores = s.cores ∧ (State.retirePage s stack page).power = s.power ∧
    (State.retirePage s stack page).maint = s.maint ∧ (State.retirePage s stack page).glob = s.glob := by
  unfold State.retirePage
  try dsimp only
  (repeat' split) <;> first | (simp; done) | (simp (disch := (intros; (repeat' split) <;> first | simp | skip)); done)

@[simp] theorem State.retireBank_frame (s : State) (gd b : Nat) :
    (State.retireBank s gd b).pending = s.pending ∧ (State.retireBank s gd b).draws = s.draws ∧
    (State.retireBank s gd b).hbm = s.hbm ∧ (State.retireBank s gd b).host = s.host ∧
    (State.retireBank s gd b).clocks = s.clocks ∧ (State.retireBank s gd b).engines = s.engines ∧
    (State.retireBank s gd b).slabs = s.slabs ∧ (State.retireBank s gd b).rings = s.rings ∧
    (State.retireBank s gd b).stash = s.stash ∧ (State.retireBank s gd b).matJobs = s.matJobs ∧
    (State.retireBank s gd b).vecJobs = s.vecJobs ∧ (State.retireBank s gd b).fabric = s.fabric ∧
    (State.retireBank s gd b).ports = s.ports ∧ (State.retireBank s gd b).puts = s.puts ∧
    (State.retireBank s gd b).tags = s.tags ∧ (State.retireBank s gd b).mgr = s.mgr ∧
    (State.retireBank s gd b).mac = s.mac ∧ (State.retireBank s gd b).sec = s.sec ∧
    (State.retireBank s gd b).cores = s.cores ∧ (State.retireBank s gd b).power = s.power ∧
    (State.retireBank s gd b).maint = s.maint ∧ (State.retireBank s gd b).glob = s.glob := by
  unfold State.retireBank
  try dsimp only
  (repeat' split) <;> first | (simp; done) | (simp (disch := (intros; (repeat' split) <;> first | simp | skip)); done)

@[simp] theorem State.tileRead_frame (s : State) (gd bank half : Nat) (ecc : Ecc) :
    (State.tileRead s gd bank half ecc).pending = s.pending ∧ (State.tileRead s gd bank half ecc).draws = s.draws ∧
    (State.tileRead s gd bank half ecc).hbm = s.hbm ∧ (State.tileRead s gd bank half ecc).host = s.host ∧
    (State.tileRead s gd bank half ecc).clocks = s.clocks ∧
    (State.tileRead s gd bank half ecc).engines = s.engines ∧ (State.tileRead s gd bank half ecc).slabs = s.slabs ∧
    (State.tileRead s gd bank half ecc).rings = s.rings ∧ (State.tileRead s gd bank half ecc).stash = s.stash ∧
    (State.tileRead s gd bank half ecc).matJobs = s.matJobs ∧
    (State.tileRead s gd bank half ecc).vecJobs = s.vecJobs ∧
    (State.tileRead s gd bank half ecc).fabric = s.fabric ∧ (State.tileRead s gd bank half ecc).ports = s.ports ∧
    (State.tileRead s gd bank half ecc).puts = s.puts ∧ (State.tileRead s gd bank half ecc).tags = s.tags ∧
    (State.tileRead s gd bank half ecc).mgr = s.mgr ∧ (State.tileRead s gd bank half ecc).mac = s.mac ∧
    (State.tileRead s gd bank half ecc).sec = s.sec ∧ (State.tileRead s gd bank half ecc).cores = s.cores ∧
    (State.tileRead s gd bank half ecc).power = s.power ∧ (State.tileRead s gd bank half ecc).maint = s.maint ∧
    (State.tileRead s gd bank half ecc).glob = s.glob := by
  unfold State.tileRead
  try dsimp only
  (repeat' split) <;> first | (simp; done) | (simp (disch := (intros; (repeat' split) <;> first | simp | skip)); done)

end Sys2Proof.Machine
end

