-- ==== Sys2Proof/Laws/FrameRegOps.lean ====
section
/-! SUPPORT. Frames of the operations of RegOps. -/

namespace Sys2Proof.Machine

@[simp] theorem State.setShadow_frame (s : State) (path addr v : Nat) :
    (State.setShadow s path addr v).pending = s.pending ∧ (State.setShadow s path addr v).draws = s.draws ∧
    (State.setShadow s path addr v).out = s.out ∧ (State.setShadow s path addr v).hbm = s.hbm ∧
    (State.setShadow s path addr v).host = s.host ∧ (State.setShadow s path addr v).pkg = s.pkg ∧
    (State.setShadow s path addr v).flash = s.flash ∧ (State.setShadow s path addr v).clocks = s.clocks ∧
    (State.setShadow s path addr v).engines = s.engines ∧ (State.setShadow s path addr v).slabs = s.slabs ∧
    (State.setShadow s path addr v).rings = s.rings ∧ (State.setShadow s path addr v).plots = s.plots ∧
    (State.setShadow s path addr v).stash = s.stash ∧ (State.setShadow s path addr v).matJobs = s.matJobs ∧
    (State.setShadow s path addr v).vecJobs = s.vecJobs ∧ (State.setShadow s path addr v).fabric = s.fabric ∧
    (State.setShadow s path addr v).ports = s.ports ∧ (State.setShadow s path addr v).puts = s.puts ∧
    (State.setShadow s path addr v).tags = s.tags ∧ (State.setShadow s path addr v).mgr = s.mgr ∧
    (State.setShadow s path addr v).mac = s.mac ∧ (State.setShadow s path addr v).pcie = s.pcie ∧
    (State.setShadow s path addr v).sec = s.sec ∧ (State.setShadow s path addr v).cores = s.cores ∧
    (State.setShadow s path addr v).power = s.power ∧ (State.setShadow s path addr v).faults = s.faults ∧
    (State.setShadow s path addr v).maint = s.maint ∧ (State.setShadow s path addr v).glob = s.glob := by
  unfold State.setShadow
  try dsimp only
  (repeat' split) <;> first | (simp; done) | (simp (disch := (intros; (repeat' split) <;> first | simp | skip)); done)

@[simp] theorem State.latchRead_frame (s : State) (path addr : Nat) :
    (State.latchRead s path addr).pending = s.pending ∧ (State.latchRead s path addr).draws = s.draws ∧
    (State.latchRead s path addr).out = s.out ∧ (State.latchRead s path addr).hbm = s.hbm ∧
    (State.latchRead s path addr).host = s.host ∧ (State.latchRead s path addr).pkg = s.pkg ∧
    (State.latchRead s path addr).flash = s.flash ∧ (State.latchRead s path addr).clocks = s.clocks ∧
    (State.latchRead s path addr).engines = s.engines ∧ (State.latchRead s path addr).slabs = s.slabs ∧
    (State.latchRead s path addr).rings = s.rings ∧ (State.latchRead s path addr).plots = s.plots ∧
    (State.latchRead s path addr).stash = s.stash ∧ (State.latchRead s path addr).matJobs = s.matJobs ∧
    (State.latchRead s path addr).vecJobs = s.vecJobs ∧ (State.latchRead s path addr).fabric = s.fabric ∧
    (State.latchRead s path addr).ports = s.ports ∧ (State.latchRead s path addr).puts = s.puts ∧
    (State.latchRead s path addr).tags = s.tags ∧ (State.latchRead s path addr).mgr = s.mgr ∧
    (State.latchRead s path addr).mac = s.mac ∧ (State.latchRead s path addr).pcie = s.pcie ∧
    (State.latchRead s path addr).sec = s.sec ∧ (State.latchRead s path addr).cores = s.cores ∧
    (State.latchRead s path addr).power = s.power ∧ (State.latchRead s path addr).faults = s.faults ∧
    (State.latchRead s path addr).maint = s.maint ∧ (State.latchRead s path addr).glob = s.glob := by
  unfold State.latchRead
  try dsimp only
  (repeat' split) <;> first | (simp; done) | (simp (disch := (intros; (repeat' split) <;> first | simp | skip)); done)

end Sys2Proof.Machine
end

