-- ==== Sys2Proof/Laws/FrameClocks.lean ====
section
/-! SUPPORT. Frames of the operations of Clocks. -/

namespace Sys2Proof.Machine

@[simp] theorem State.wantFreq_frame (s : State) (target : Nat) :
    (State.wantFreq s target).pending = s.pending ∧ (State.wantFreq s target).draws = s.draws ∧
    (State.wantFreq s target).out = s.out ∧ (State.wantFreq s target).hbm = s.hbm ∧
    (State.wantFreq s target).host = s.host ∧ (State.wantFreq s target).pkg = s.pkg ∧
    (State.wantFreq s target).flash = s.flash ∧ (State.wantFreq s target).engines = s.engines ∧
    (State.wantFreq s target).slabs = s.slabs ∧ (State.wantFreq s target).rings = s.rings ∧
    (State.wantFreq s target).plots = s.plots ∧ (State.wantFreq s target).stash = s.stash ∧
    (State.wantFreq s target).matJobs = s.matJobs ∧ (State.wantFreq s target).vecJobs = s.vecJobs ∧
    (State.wantFreq s target).fabric = s.fabric ∧ (State.wantFreq s target).ports = s.ports ∧
    (State.wantFreq s target).puts = s.puts ∧ (State.wantFreq s target).tags = s.tags ∧
    (State.wantFreq s target).mgr = s.mgr ∧ (State.wantFreq s target).mac = s.mac ∧
    (State.wantFreq s target).pcie = s.pcie ∧ (State.wantFreq s target).sec = s.sec ∧
    (State.wantFreq s target).cores = s.cores ∧ (State.wantFreq s target).power = s.power ∧
    (State.wantFreq s target).faults = s.faults ∧ (State.wantFreq s target).glob = s.glob := by
  unfold State.wantFreq
  try dsimp only
  (repeat' split) <;> first | (simp; done) | (simp (disch := (intros; (repeat' split) <;> first | simp | skip)); done)

@[simp] theorem State.settleFreq_frame (s : State) (target : Nat) :
    (State.settleFreq s target).pending = s.pending ∧ (State.settleFreq s target).draws = s.draws ∧
    (State.settleFreq s target).hbm = s.hbm ∧ (State.settleFreq s target).host = s.host ∧
    (State.settleFreq s target).pkg = s.pkg ∧ (State.settleFreq s target).flash = s.flash ∧
    (State.settleFreq s target).engines = s.engines ∧ (State.settleFreq s target).slabs = s.slabs ∧
    (State.settleFreq s target).rings = s.rings ∧ (State.settleFreq s target).plots = s.plots ∧
    (State.settleFreq s target).stash = s.stash ∧ (State.settleFreq s target).matJobs = s.matJobs ∧
    (State.settleFreq s target).vecJobs = s.vecJobs ∧ (State.settleFreq s target).puts = s.puts ∧
    (State.settleFreq s target).tags = s.tags ∧ (State.settleFreq s target).mgr = s.mgr ∧
    (State.settleFreq s target).mac = s.mac ∧ (State.settleFreq s target).pcie = s.pcie ∧
    (State.settleFreq s target).sec = s.sec ∧ (State.settleFreq s target).cores = s.cores ∧
    (State.settleFreq s target).power = s.power ∧ (State.settleFreq s target).faults = s.faults ∧
    (State.settleFreq s target).glob = s.glob := by
  unfold State.settleFreq
  try dsimp only
  (repeat' split) <;> first | (simp; done) | (simp (disch := (intros; (repeat' split) <;> first | simp | skip)); done)

@[simp] theorem State.setLock_frame (s : State) (l : Nat) (b : Bool) :
    (State.setLock s l b).pending = s.pending ∧ (State.setLock s l b).draws = s.draws ∧
    (State.setLock s l b).out = s.out ∧ (State.setLock s l b).hbm = s.hbm ∧ (State.setLock s l b).host = s.host ∧
    (State.setLock s l b).pkg = s.pkg ∧ (State.setLock s l b).flash = s.flash ∧
    (State.setLock s l b).clocks = s.clocks ∧ (State.setLock s l b).engines = s.engines ∧
    (State.setLock s l b).slabs = s.slabs ∧ (State.setLock s l b).rings = s.rings ∧
    (State.setLock s l b).plots = s.plots ∧ (State.setLock s l b).stash = s.stash ∧
    (State.setLock s l b).matJobs = s.matJobs ∧ (State.setLock s l b).vecJobs = s.vecJobs ∧
    (State.setLock s l b).fabric = s.fabric ∧ (State.setLock s l b).ports = s.ports ∧
    (State.setLock s l b).puts = s.puts ∧ (State.setLock s l b).tags = s.tags ∧ (State.setLock s l b).mgr = s.mgr ∧
    (State.setLock s l b).mac = s.mac ∧ (State.setLock s l b).pcie = s.pcie ∧ (State.setLock s l b).sec = s.sec ∧
    (State.setLock s l b).cores = s.cores ∧ (State.setLock s l b).power = s.power ∧
    (State.setLock s l b).faults = s.faults ∧ (State.setLock s l b).maint = s.maint ∧
    (State.setLock s l b).glob = s.glob := by
  unfold State.setLock
  try dsimp only
  (repeat' split) <;> first | (simp; done) | (simp (disch := (intros; (repeat' split) <;> first | simp | skip)); done)

@[simp] theorem State.loseLock_frame (s : State) (l : Nat) :
    (State.loseLock s l).pending = s.pending ∧ (State.loseLock s l).draws = s.draws ∧
    (State.loseLock s l).hbm = s.hbm ∧ (State.loseLock s l).host = s.host ∧ (State.loseLock s l).pkg = s.pkg ∧
    (State.loseLock s l).engines = s.engines ∧ (State.loseLock s l).slabs = s.slabs ∧
    (State.loseLock s l).rings = s.rings ∧ (State.loseLock s l).stash = s.stash ∧
    (State.loseLock s l).matJobs = s.matJobs ∧ (State.loseLock s l).vecJobs = s.vecJobs ∧
    (State.loseLock s l).fabric = s.fabric ∧ (State.loseLock s l).ports = s.ports ∧
    (State.loseLock s l).puts = s.puts ∧ (State.loseLock s l).tags = s.tags ∧ (State.loseLock s l).mgr = s.mgr ∧
    (State.loseLock s l).mac = s.mac ∧ (State.loseLock s l).sec = s.sec ∧ (State.loseLock s l).cores = s.cores ∧
    (State.loseLock s l).power = s.power ∧ (State.loseLock s l).maint = s.maint ∧ (State.loseLock s l).glob = s.glob := by
  unfold State.loseLock
  try dsimp only
  (repeat' split) <;> first | (simp; done) | (simp (disch := (intros; (repeat' split) <;> first | simp | skip)); done)

@[simp] theorem State.gainLock_frame (s : State) (l : Nat) :
    (State.gainLock s l).pending = s.pending ∧ (State.gainLock s l).draws = s.draws ∧
    (State.gainLock s l).hbm = s.hbm ∧ (State.gainLock s l).host = s.host ∧ (State.gainLock s l).pkg = s.pkg ∧
    (State.gainLock s l).flash = s.flash ∧ (State.gainLock s l).engines = s.engines ∧
    (State.gainLock s l).slabs = s.slabs ∧ (State.gainLock s l).rings = s.rings ∧
    (State.gainLock s l).plots = s.plots ∧ (State.gainLock s l).stash = s.stash ∧
    (State.gainLock s l).matJobs = s.matJobs ∧ (State.gainLock s l).vecJobs = s.vecJobs ∧
    (State.gainLock s l).fabric = s.fabric ∧ (State.gainLock s l).puts = s.puts ∧
    (State.gainLock s l).tags = s.tags ∧ (State.gainLock s l).mgr = s.mgr ∧ (State.gainLock s l).pcie = s.pcie ∧
    (State.gainLock s l).sec = s.sec ∧ (State.gainLock s l).cores = s.cores ∧
    (State.gainLock s l).power = s.power ∧ (State.gainLock s l).faults = s.faults ∧
    (State.gainLock s l).maint = s.maint ∧ (State.gainLock s l).glob = s.glob := by
  unfold State.gainLock
  try dsimp only
  (repeat' split) <;> first | (simp; done) | (simp (disch := (intros; (repeat' split) <;> first | simp | skip)); done)

end Sys2Proof.Machine
end

