-- ==== Sys2Proof/Laws/FrameLinkRx.lean ====
section
/-! SUPPORT. Frames of the operations of LinkRx. -/

namespace Sys2Proof.Machine

@[simp] theorem State.goBackN_frame (s : State) (p node : Nat) :
    (State.goBackN s p node).pending = s.pending ∧ (State.goBackN s p node).draws = s.draws ∧
    (State.goBackN s p node).regs = s.regs ∧ (State.goBackN s p node).hbm = s.hbm ∧
    (State.goBackN s p node).host = s.host ∧ (State.goBackN s p node).pkg = s.pkg ∧
    (State.goBackN s p node).flash = s.flash ∧ (State.goBackN s p node).clocks = s.clocks ∧
    (State.goBackN s p node).engines = s.engines ∧ (State.goBackN s p node).slabs = s.slabs ∧
    (State.goBackN s p node).rings = s.rings ∧ (State.goBackN s p node).plots = s.plots ∧
    (State.goBackN s p node).stash = s.stash ∧ (State.goBackN s p node).matJobs = s.matJobs ∧
    (State.goBackN s p node).vecJobs = s.vecJobs ∧ (State.goBackN s p node).fabric = s.fabric ∧
    (State.goBackN s p node).puts = s.puts ∧ (State.goBackN s p node).tags = s.tags ∧
    (State.goBackN s p node).mgr = s.mgr ∧ (State.goBackN s p node).mac = s.mac ∧
    (State.goBackN s p node).pcie = s.pcie ∧ (State.goBackN s p node).sec = s.sec ∧
    (State.goBackN s p node).cores = s.cores ∧ (State.goBackN s p node).power = s.power ∧
    (State.goBackN s p node).faults = s.faults ∧ (State.goBackN s p node).maint = s.maint ∧
    (State.goBackN s p node).glob = s.glob := by
  unfold State.goBackN
  try dsimp only
  (repeat' split) <;> first | (simp; done) | (simp (disch := (intros; (repeat' split) <;> first | simp | skip)); done)

@[simp] theorem State.showLanes_frame (s : State) (p : Nat) :
    (State.showLanes s p).pending = s.pending ∧ (State.showLanes s p).draws = s.draws ∧
    (State.showLanes s p).out = s.out ∧ (State.showLanes s p).hbm = s.hbm ∧ (State.showLanes s p).host = s.host ∧
    (State.showLanes s p).pkg = s.pkg ∧ (State.showLanes s p).flash = s.flash ∧
    (State.showLanes s p).clocks = s.clocks ∧ (State.showLanes s p).engines = s.engines ∧
    (State.showLanes s p).slabs = s.slabs ∧ (State.showLanes s p).rings = s.rings ∧
    (State.showLanes s p).plots = s.plots ∧ (State.showLanes s p).stash = s.stash ∧
    (State.showLanes s p).matJobs = s.matJobs ∧ (State.showLanes s p).vecJobs = s.vecJobs ∧
    (State.showLanes s p).fabric = s.fabric ∧ (State.showLanes s p).ports = s.ports ∧
    (State.showLanes s p).puts = s.puts ∧ (State.showLanes s p).tags = s.tags ∧ (State.showLanes s p).mgr = s.mgr ∧
    (State.showLanes s p).mac = s.mac ∧ (State.showLanes s p).pcie = s.pcie ∧ (State.showLanes s p).sec = s.sec ∧
    (State.showLanes s p).cores = s.cores ∧ (State.showLanes s p).power = s.power ∧
    (State.showLanes s p).faults = s.faults ∧ (State.showLanes s p).maint = s.maint ∧
    (State.showLanes s p).glob = s.glob := by
  unfold State.showLanes
  try dsimp only
  (repeat' split) <;> first | (simp; done) | (simp (disch := (intros; (repeat' split) <;> first | simp | skip)); done)

@[simp] theorem State.wakePort_frame (s : State) (p : Nat) :
    (State.wakePort s p).pending = s.pending ∧ (State.wakePort s p).draws = s.draws ∧
    (State.wakePort s p).hbm = s.hbm ∧ (State.wakePort s p).host = s.host ∧ (State.wakePort s p).pkg = s.pkg ∧
    (State.wakePort s p).flash = s.flash ∧ (State.wakePort s p).clocks = s.clocks ∧
    (State.wakePort s p).engines = s.engines ∧ (State.wakePort s p).slabs = s.slabs ∧
    (State.wakePort s p).rings = s.rings ∧ (State.wakePort s p).plots = s.plots ∧
    (State.wakePort s p).stash = s.stash ∧ (State.wakePort s p).matJobs = s.matJobs ∧
    (State.wakePort s p).vecJobs = s.vecJobs ∧ (State.wakePort s p).puts = s.puts ∧
    (State.wakePort s p).tags = s.tags ∧ (State.wakePort s p).mgr = s.mgr ∧ (State.wakePort s p).mac = s.mac ∧
    (State.wakePort s p).pcie = s.pcie ∧ (State.wakePort s p).sec = s.sec ∧ (State.wakePort s p).cores = s.cores ∧
    (State.wakePort s p).power = s.power ∧ (State.wakePort s p).faults = s.faults ∧
    (State.wakePort s p).maint = s.maint ∧ (State.wakePort s p).glob = s.glob := by
  unfold State.wakePort
  try dsimp only
  (repeat' split) <;> first | (simp; done) | (simp (disch := (intros; (repeat' split) <;> first | simp | skip)); done)

@[simp] theorem State.retireLanes_frame (s : State) (p : Nat) (lanes : List Nat) (own : Bool) :
    (State.retireLanes s p lanes own).pending = s.pending ∧ (State.retireLanes s p lanes own).hbm = s.hbm ∧
    (State.retireLanes s p lanes own).host = s.host ∧ (State.retireLanes s p lanes own).pkg = s.pkg ∧
    (State.retireLanes s p lanes own).clocks = s.clocks ∧ (State.retireLanes s p lanes own).engines = s.engines ∧
    (State.retireLanes s p lanes own).stash = s.stash ∧ (State.retireLanes s p lanes own).matJobs = s.matJobs ∧
    (State.retireLanes s p lanes own).vecJobs = s.vecJobs ∧ (State.retireLanes s p lanes own).mgr = s.mgr ∧
    (State.retireLanes s p lanes own).mac = s.mac ∧ (State.retireLanes s p lanes own).sec = s.sec ∧
    (State.retireLanes s p lanes own).cores = s.cores ∧ (State.retireLanes s p lanes own).glob = s.glob := by
  unfold State.retireLanes
  try dsimp only
  (repeat' split) <;> first | (simp; done) | (simp (disch := (intros; (repeat' split) <;> first | simp | skip)); done)

@[simp] theorem State.chargeLane_frame (s : State) (p lane : Nat) :
    (State.chargeLane s p lane).pending = s.pending ∧ (State.chargeLane s p lane).host = s.host ∧
    (State.chargeLane s p lane).pkg = s.pkg ∧ (State.chargeLane s p lane).clocks = s.clocks ∧
    (State.chargeLane s p lane).engines = s.engines ∧ (State.chargeLane s p lane).stash = s.stash ∧
    (State.chargeLane s p lane).matJobs = s.matJobs ∧ (State.chargeLane s p lane).vecJobs = s.vecJobs ∧
    (State.chargeLane s p lane).mgr = s.mgr ∧ (State.chargeLane s p lane).mac = s.mac ∧
    (State.chargeLane s p lane).sec = s.sec ∧ (State.chargeLane s p lane).cores = s.cores ∧
    (State.chargeLane s p lane).glob = s.glob := by
  unfold State.chargeLane
  try dsimp only
  (repeat' split) <;> first | (simp; done) | (simp (disch := (intros; (repeat' split) <;> first | simp | skip)); done)

@[simp] theorem State.chargePath_frame (s : State) (p node : Nat) :
    (State.chargePath s p node).pending = s.pending ∧ (State.chargePath s p node).hbm = s.hbm ∧
    (State.chargePath s p node).host = s.host ∧ (State.chargePath s p node).pkg = s.pkg ∧
    (State.chargePath s p node).clocks = s.clocks ∧ (State.chargePath s p node).engines = s.engines ∧
    (State.chargePath s p node).stash = s.stash ∧ (State.chargePath s p node).matJobs = s.matJobs ∧
    (State.chargePath s p node).vecJobs = s.vecJobs ∧ (State.chargePath s p node).mgr = s.mgr ∧
    (State.chargePath s p node).mac = s.mac ∧ (State.chargePath s p node).sec = s.sec ∧
    (State.chargePath s p node).cores = s.cores ∧ (State.chargePath s p node).glob = s.glob := by
  unfold State.chargePath
  try dsimp only
  (repeat' split) <;> first | (simp; done) | (simp (disch := (intros; (repeat' split) <;> first | simp | skip)); done)

@[simp] theorem State.retry_frame (s : State) (p node : Nat) (lane : Option Nat) :
    (State.retry s p node lane).pending = s.pending ∧ (State.retry s p node lane).host = s.host ∧
    (State.retry s p node lane).pkg = s.pkg ∧ (State.retry s p node lane).clocks = s.clocks ∧
    (State.retry s p node lane).engines = s.engines ∧ (State.retry s p node lane).stash = s.stash ∧
    (State.retry s p node lane).matJobs = s.matJobs ∧ (State.retry s p node lane).vecJobs = s.vecJobs ∧
    (State.retry s p node lane).mgr = s.mgr ∧ (State.retry s p node lane).mac = s.mac ∧
    (State.retry s p node lane).sec = s.sec ∧ (State.retry s p node lane).cores = s.cores ∧
    (State.retry s p node lane).glob = s.glob := by
  unfold State.retry
  try dsimp only
  (repeat' split) <;> first | (simp; done) | (simp (disch := (intros; (repeat' split) <;> first | simp | skip)); done)

@[simp] theorem State.quarantine_frame (s : State) (p node : Nat) :
    (State.quarantine s p node).pending = s.pending ∧ (State.quarantine s p node).draws = s.draws ∧
    (State.quarantine s p node).hbm = s.hbm ∧ (State.quarantine s p node).host = s.host ∧
    (State.quarantine s p node).pkg = s.pkg ∧ (State.quarantine s p node).clocks = s.clocks ∧
    (State.quarantine s p node).engines = s.engines ∧ (State.quarantine s p node).stash = s.stash ∧
    (State.quarantine s p node).matJobs = s.matJobs ∧ (State.quarantine s p node).vecJobs = s.vecJobs ∧
    (State.quarantine s p node).mgr = s.mgr ∧ (State.quarantine s p node).mac = s.mac ∧
    (State.quarantine s p node).sec = s.sec ∧ (State.quarantine s p node).cores = s.cores ∧
    (State.quarantine s p node).glob = s.glob := by
  unfold State.quarantine
  try dsimp only
  (repeat' split) <;> first | (simp; done) | (simp (disch := (intros; (repeat' split) <;> first | simp | skip)); done)

@[simp] theorem State.idleFlit_frame (s : State) (p node : Nat) (nak : Bool) (credits : Nat) :
    (State.idleFlit s p node nak credits).pending = s.pending ∧
    (State.idleFlit s p node nak credits).draws = s.draws ∧ (State.idleFlit s p node nak credits).regs = s.regs ∧
    (State.idleFlit s p node nak credits).hbm = s.hbm ∧ (State.idleFlit s p node nak credits).host = s.host ∧
    (State.idleFlit s p node nak credits).pkg = s.pkg ∧ (State.idleFlit s p node nak credits).flash = s.flash ∧
    (State.idleFlit s p node nak credits).clocks = s.clocks ∧
    (State.idleFlit s p node nak credits).engines = s.engines ∧
    (State.idleFlit s p node nak credits).slabs = s.slabs ∧ (State.idleFlit s p node nak credits).rings = s.rings ∧
    (State.idleFlit s p node nak credits).plots = s.plots ∧ (State.idleFlit s p node nak credits).stash = s.stash ∧
    (State.idleFlit s p node nak credits).matJobs = s.matJobs ∧
    (State.idleFlit s p node nak credits).vecJobs = s.vecJobs ∧
    (State.idleFlit s p node nak credits).fabric = s.fabric ∧
    (State.idleFlit s p node nak credits).ports = s.ports ∧ (State.idleFlit s p node nak credits).puts = s.puts ∧
    (State.idleFlit s p node nak credits).tags = s.tags ∧ (State.idleFlit s p node nak credits).mgr = s.mgr ∧
    (State.idleFlit s p node nak credits).mac = s.mac ∧ (State.idleFlit s p node nak credits).pcie = s.pcie ∧
    (State.idleFlit s p node nak credits).sec = s.sec ∧ (State.idleFlit s p node nak credits).cores = s.cores ∧
    (State.idleFlit s p node nak credits).power = s.power ∧
    (State.idleFlit s p node nak credits).faults = s.faults ∧
    (State.idleFlit s p node nak credits).maint = s.maint ∧ (State.idleFlit s p node nak credits).glob = s.glob := by
  unfold State.idleFlit
  try dsimp only
  (repeat' split) <;> first | (simp; done) | (simp (disch := (intros; (repeat' split) <;> first | simp | skip)); done)

@[simp] theorem State.rotate_frame (s : State) (p : Nat) :
    (State.rotate s p).pending = s.pending ∧ (State.rotate s p).draws = s.draws ∧
    (State.rotate s p).regs = s.regs ∧ (State.rotate s p).hbm = s.hbm ∧ (State.rotate s p).host = s.host ∧
    (State.rotate s p).pkg = s.pkg ∧ (State.rotate s p).flash = s.flash ∧ (State.rotate s p).clocks = s.clocks ∧
    (State.rotate s p).engines = s.engines ∧ (State.rotate s p).slabs = s.slabs ∧
    (State.rotate s p).rings = s.rings ∧ (State.rotate s p).plots = s.plots ∧ (State.rotate s p).stash = s.stash ∧
    (State.rotate s p).matJobs = s.matJobs ∧ (State.rotate s p).vecJobs = s.vecJobs ∧
    (State.rotate s p).fabric = s.fabric ∧ (State.rotate s p).puts = s.puts ∧ (State.rotate s p).tags = s.tags ∧
    (State.rotate s p).mgr = s.mgr ∧ (State.rotate s p).mac = s.mac ∧ (State.rotate s p).pcie = s.pcie ∧
    (State.rotate s p).sec = s.sec ∧ (State.rotate s p).cores = s.cores ∧ (State.rotate s p).power = s.power ∧
    (State.rotate s p).faults = s.faults ∧ (State.rotate s p).maint = s.maint ∧ (State.rotate s p).glob = s.glob := by
  unfold State.rotate
  try dsimp only
  (repeat' split) <;> first | (simp; done) | (simp (disch := (intros; (repeat' split) <;> first | simp | skip)); done)

@[simp] theorem State.freeSlot_frame (s : State) (p node : Nat) (nak : Bool) :
    (State.freeSlot s p node nak).pending = s.pending ∧ (State.freeSlot s p node nak).draws = s.draws ∧
    (State.freeSlot s p node nak).regs = s.regs ∧ (State.freeSlot s p node nak).hbm = s.hbm ∧
    (State.freeSlot s p node nak).host = s.host ∧ (State.freeSlot s p node nak).pkg = s.pkg ∧
    (State.freeSlot s p node nak).flash = s.flash ∧ (State.freeSlot s p node nak).clocks = s.clocks ∧
    (State.freeSlot s p node nak).engines = s.engines ∧ (State.freeSlot s p node nak).slabs = s.slabs ∧
    (State.freeSlot s p node nak).rings = s.rings ∧ (State.freeSlot s p node nak).plots = s.plots ∧
    (State.freeSlot s p node nak).stash = s.stash ∧ (State.freeSlot s p node nak).matJobs = s.matJobs ∧
    (State.freeSlot s p node nak).vecJobs = s.vecJobs ∧ (State.freeSlot s p node nak).fabric = s.fabric ∧
    (State.freeSlot s p node nak).puts = s.puts ∧ (State.freeSlot s p node nak).tags = s.tags ∧
    (State.freeSlot s p node nak).mgr = s.mgr ∧ (State.freeSlot s p node nak).mac = s.mac ∧
    (State.freeSlot s p node nak).pcie = s.pcie ∧ (State.freeSlot s p node nak).sec = s.sec ∧
    (State.freeSlot s p node nak).cores = s.cores ∧ (State.freeSlot s p node nak).power = s.power ∧
    (State.freeSlot s p node nak).faults = s.faults ∧ (State.freeSlot s p node nak).maint = s.maint ∧
    (State.freeSlot s p node nak).glob = s.glob := by
  unfold State.freeSlot
  try dsimp only
  (repeat' split) <;> first | (simp; done) | (simp (disch := (intros; (repeat' split) <;> first | simp | skip)); done)

@[simp] theorem State.rejectFlit_frame (s : State) (p node : Nat) :
    (State.rejectFlit s p node).pending = s.pending ∧ (State.rejectFlit s p node).draws = s.draws ∧
    (State.rejectFlit s p node).regs = s.regs ∧ (State.rejectFlit s p node).hbm = s.hbm ∧
    (State.rejectFlit s p node).host = s.host ∧ (State.rejectFlit s p node).pkg = s.pkg ∧
    (State.rejectFlit s p node).flash = s.flash ∧ (State.rejectFlit s p node).clocks = s.clocks ∧
    (State.rejectFlit s p node).engines = s.engines ∧ (State.rejectFlit s p node).slabs = s.slabs ∧
    (State.rejectFlit s p node).rings = s.rings ∧ (State.rejectFlit s p node).plots = s.plots ∧
    (State.rejectFlit s p node).stash = s.stash ∧ (State.rejectFlit s p node).matJobs = s.matJobs ∧
    (State.rejectFlit s p node).vecJobs = s.vecJobs ∧ (State.rejectFlit s p node).fabric = s.fabric ∧
    (State.rejectFlit s p node).puts = s.puts ∧ (State.rejectFlit s p node).tags = s.tags ∧
    (State.rejectFlit s p node).mgr = s.mgr ∧ (State.rejectFlit s p node).mac = s.mac ∧
    (State.rejectFlit s p node).pcie = s.pcie ∧ (State.rejectFlit s p node).sec = s.sec ∧
    (State.rejectFlit s p node).cores = s.cores ∧ (State.rejectFlit s p node).power = s.power ∧
    (State.rejectFlit s p node).faults = s.faults ∧ (State.rejectFlit s p node).maint = s.maint ∧
    (State.rejectFlit s p node).glob = s.glob := by
  unfold State.rejectFlit
  try dsimp only
  (repeat' split) <;> first | (simp; done) | (simp (disch := (intros; (repeat' split) <;> first | simp | skip)); done)

@[simp] theorem State.ackTo_frame (s : State) (p node ack : Nat) :
    (State.ackTo s p node ack).pending = s.pending ∧ (State.ackTo s p node ack).draws = s.draws ∧
    (State.ackTo s p node ack).out = s.out ∧ (State.ackTo s p node ack).regs = s.regs ∧
    (State.ackTo s p node ack).hbm = s.hbm ∧ (State.ackTo s p node ack).host = s.host ∧
    (State.ackTo s p node ack).pkg = s.pkg ∧ (State.ackTo s p node ack).flash = s.flash ∧
    (State.ackTo s p node ack).clocks = s.clocks ∧ (State.ackTo s p node ack).engines = s.engines ∧
    (State.ackTo s p node ack).slabs = s.slabs ∧ (State.ackTo s p node ack).rings = s.rings ∧
    (State.ackTo s p node ack).plots = s.plots ∧ (State.ackTo s p node ack).stash = s.stash ∧
    (State.ackTo s p node ack).matJobs = s.matJobs ∧ (State.ackTo s p node ack).vecJobs = s.vecJobs ∧
    (State.ackTo s p node ack).fabric = s.fabric ∧ (State.ackTo s p node ack).puts = s.puts ∧
    (State.ackTo s p node ack).mgr = s.mgr ∧ (State.ackTo s p node ack).mac = s.mac ∧
    (State.ackTo s p node ack).pcie = s.pcie ∧ (State.ackTo s p node ack).sec = s.sec ∧
    (State.ackTo s p node ack).cores = s.cores ∧ (State.ackTo s p node ack).power = s.power ∧
    (State.ackTo s p node ack).faults = s.faults ∧ (State.ackTo s p node ack).maint = s.maint ∧
    (State.ackTo s p node ack).glob = s.glob := by
  unfold State.ackTo
  try dsimp only
  (repeat' split) <;> first | (simp; done) | (simp (disch := (intros; (repeat' split) <;> first | simp | skip)); done)

@[simp] theorem State.takeAck_frame (s : State) (p node : Nat) (b : List Byte) :
    (State.takeAck s p node b).pending = s.pending ∧ (State.takeAck s p node b).draws = s.draws ∧
    (State.takeAck s p node b).out = s.out ∧ (State.takeAck s p node b).regs = s.regs ∧
    (State.takeAck s p node b).hbm = s.hbm ∧ (State.takeAck s p node b).host = s.host ∧
    (State.takeAck s p node b).pkg = s.pkg ∧ (State.takeAck s p node b).flash = s.flash ∧
    (State.takeAck s p node b).clocks = s.clocks ∧ (State.takeAck s p node b).engines = s.engines ∧
    (State.takeAck s p node b).slabs = s.slabs ∧ (State.takeAck s p node b).rings = s.rings ∧
    (State.takeAck s p node b).plots = s.plots ∧ (State.takeAck s p node b).stash = s.stash ∧
    (State.takeAck s p node b).matJobs = s.matJobs ∧ (State.takeAck s p node b).vecJobs = s.vecJobs ∧
    (State.takeAck s p node b).fabric = s.fabric ∧ (State.takeAck s p node b).puts = s.puts ∧
    (State.takeAck s p node b).mgr = s.mgr ∧ (State.takeAck s p node b).mac = s.mac ∧
    (State.takeAck s p node b).pcie = s.pcie ∧ (State.takeAck s p node b).sec = s.sec ∧
    (State.takeAck s p node b).cores = s.cores ∧ (State.takeAck s p node b).power = s.power ∧
    (State.takeAck s p node b).faults = s.faults ∧ (State.takeAck s p node b).maint = s.maint ∧
    (State.takeAck s p node b).glob = s.glob := by
  unfold State.takeAck
  try dsimp only
  (repeat' split) <;> first | (simp; done) | (simp (disch := (intros; (repeat' split) <;> first | simp | skip)); done)

@[simp] theorem State.cancelLpi_frame (s : State) (p : Nat) :
    (State.cancelLpi s p).pending = s.pending ∧ (State.cancelLpi s p).draws = s.draws ∧
    (State.cancelLpi s p).out = s.out ∧ (State.cancelLpi s p).regs = s.regs ∧ (State.cancelLpi s p).hbm = s.hbm ∧
    (State.cancelLpi s p).host = s.host ∧ (State.cancelLpi s p).pkg = s.pkg ∧
    (State.cancelLpi s p).flash = s.flash ∧ (State.cancelLpi s p).clocks = s.clocks ∧
    (State.cancelLpi s p).engines = s.engines ∧ (State.cancelLpi s p).slabs = s.slabs ∧
    (State.cancelLpi s p).rings = s.rings ∧ (State.cancelLpi s p).plots = s.plots ∧
    (State.cancelLpi s p).stash = s.stash ∧ (State.cancelLpi s p).matJobs = s.matJobs ∧
    (State.cancelLpi s p).vecJobs = s.vecJobs ∧ (State.cancelLpi s p).fabric = s.fabric ∧
    (State.cancelLpi s p).puts = s.puts ∧ (State.cancelLpi s p).tags = s.tags ∧ (State.cancelLpi s p).mgr = s.mgr ∧
    (State.cancelLpi s p).mac = s.mac ∧ (State.cancelLpi s p).pcie = s.pcie ∧ (State.cancelLpi s p).sec = s.sec ∧
    (State.cancelLpi s p).cores = s.cores ∧ (State.cancelLpi s p).power = s.power ∧
    (State.cancelLpi s p).faults = s.faults ∧ (State.cancelLpi s p).maint = s.maint ∧
    (State.cancelLpi s p).glob = s.glob := by
  unfold State.cancelLpi
  try dsimp only
  (repeat' split) <;> first | (simp; done) | (simp (disch := (intros; (repeat' split) <;> first | simp | skip)); done)

@[simp] theorem State.takeControl_frame (s : State) (p node : Nat) (b : List Byte) (tagOk : Bool) :
    (State.takeControl s p node b tagOk).pending = s.pending ∧
    (State.takeControl s p node b tagOk).draws = s.draws ∧ (State.takeControl s p node b tagOk).hbm = s.hbm ∧
    (State.takeControl s p node b tagOk).host = s.host ∧ (State.takeControl s p node b tagOk).pkg = s.pkg ∧
    (State.takeControl s p node b tagOk).clocks = s.clocks ∧
    (State.takeControl s p node b tagOk).engines = s.engines ∧
    (State.takeControl s p node b tagOk).stash = s.stash ∧
    (State.takeControl s p node b tagOk).matJobs = s.matJobs ∧
    (State.takeControl s p node b tagOk).vecJobs = s.vecJobs ∧ (State.takeControl s p node b tagOk).mgr = s.mgr ∧
    (State.takeControl s p node b tagOk).mac = s.mac ∧ (State.takeControl s p node b tagOk).sec = s.sec ∧
    (State.takeControl s p node b tagOk).cores = s.cores ∧ (State.takeControl s p node b tagOk).glob = s.glob := by
  unfold State.takeControl
  try dsimp only
  (repeat' split) <;> first | (simp; done) | (simp (disch := (intros; (repeat' split) <;> first | simp | skip)); done)

@[simp] theorem State.takePut_frame (s : State) (p : Nat) (b : List Byte) :
    (State.takePut s p b).pending = s.pending ∧ (State.takePut s p b).draws = s.draws ∧
    (State.takePut s p b).out = s.out ∧ (State.takePut s p b).regs = s.regs ∧ (State.takePut s p b).hbm = s.hbm ∧
    (State.takePut s p b).host = s.host ∧ (State.takePut s p b).pkg = s.pkg ∧
    (State.takePut s p b).flash = s.flash ∧ (State.takePut s p b).clocks = s.clocks ∧
    (State.takePut s p b).engines = s.engines ∧ (State.takePut s p b).slabs = s.slabs ∧
    (State.takePut s p b).rings = s.rings ∧ (State.takePut s p b).plots = s.plots ∧
    (State.takePut s p b).stash = s.stash ∧ (State.takePut s p b).matJobs = s.matJobs ∧
    (State.takePut s p b).vecJobs = s.vecJobs ∧ (State.takePut s p b).fabric = s.fabric ∧
    (State.takePut s p b).ports = s.ports ∧ (State.takePut s p b).tags = s.tags ∧
    (State.takePut s p b).mgr = s.mgr ∧ (State.takePut s p b).mac = s.mac ∧ (State.takePut s p b).pcie = s.pcie ∧
    (State.takePut s p b).sec = s.sec ∧ (State.takePut s p b).cores = s.cores ∧
    (State.takePut s p b).power = s.power ∧ (State.takePut s p b).faults = s.faults ∧
    (State.takePut s p b).maint = s.maint ∧ (State.takePut s p b).glob = s.glob := by
  unfold State.takePut
  try dsimp only
  (repeat' split) <;> first | (simp; done) | (simp (disch := (intros; (repeat' split) <;> first | simp | skip)); done)

@[simp] theorem State.takeFlit_frame (s : State) (p node : Nat) (b : List Byte) (tagOk : Bool) :
    (State.takeFlit s p node b tagOk).pending = s.pending ∧ (State.takeFlit s p node b tagOk).draws = s.draws ∧
    (State.takeFlit s p node b tagOk).hbm = s.hbm ∧ (State.takeFlit s p node b tagOk).host = s.host ∧
    (State.takeFlit s p node b tagOk).pkg = s.pkg ∧ (State.takeFlit s p node b tagOk).clocks = s.clocks ∧
    (State.takeFlit s p node b tagOk).engines = s.engines ∧ (State.takeFlit s p node b tagOk).stash = s.stash ∧
    (State.takeFlit s p node b tagOk).matJobs = s.matJobs ∧ (State.takeFlit s p node b tagOk).vecJobs = s.vecJobs ∧
    (State.takeFlit s p node b tagOk).mgr = s.mgr ∧ (State.takeFlit s p node b tagOk).mac = s.mac ∧
    (State.takeFlit s p node b tagOk).sec = s.sec ∧ (State.takeFlit s p node b tagOk).cores = s.cores ∧
    (State.takeFlit s p node b tagOk).glob = s.glob := by
  unfold State.takeFlit
  try dsimp only
  (repeat' split) <;> first | (simp; done) | (simp (disch := (intros; (repeat' split) <;> first | simp | skip)); done)

@[simp] theorem State.flitIn_frame (s : State) (p node : Nat) (b : List Byte) (tagOk : Bool) :
    (State.flitIn s p node b tagOk).pending = s.pending ∧ (State.flitIn s p node b tagOk).hbm = s.hbm ∧
    (State.flitIn s p node b tagOk).host = s.host ∧ (State.flitIn s p node b tagOk).pkg = s.pkg ∧
    (State.flitIn s p node b tagOk).clocks = s.clocks ∧ (State.flitIn s p node b tagOk).engines = s.engines ∧
    (State.flitIn s p node b tagOk).stash = s.stash ∧ (State.flitIn s p node b tagOk).matJobs = s.matJobs ∧
    (State.flitIn s p node b tagOk).vecJobs = s.vecJobs ∧ (State.flitIn s p node b tagOk).mgr = s.mgr ∧
    (State.flitIn s p node b tagOk).mac = s.mac ∧ (State.flitIn s p node b tagOk).sec = s.sec ∧
    (State.flitIn s p node b tagOk).cores = s.cores ∧ (State.flitIn s p node b tagOk).glob = s.glob := by
  unfold State.flitIn
  try dsimp only
  (repeat' split) <;> first | (simp; done) | (simp (disch := (intros; (repeat' split) <;> first | simp | skip)); done)

@[simp] theorem State.modAdm_frame (s : State) (p node : Nat) (f : Admission → Admission) :
    (State.modAdm s p node f).pending = s.pending ∧ (State.modAdm s p node f).draws = s.draws ∧
    (State.modAdm s p node f).out = s.out ∧ (State.modAdm s p node f).regs = s.regs ∧
    (State.modAdm s p node f).hbm = s.hbm ∧ (State.modAdm s p node f).host = s.host ∧
    (State.modAdm s p node f).pkg = s.pkg ∧ (State.modAdm s p node f).flash = s.flash ∧
    (State.modAdm s p node f).clocks = s.clocks ∧ (State.modAdm s p node f).engines = s.engines ∧
    (State.modAdm s p node f).slabs = s.slabs ∧ (State.modAdm s p node f).rings = s.rings ∧
    (State.modAdm s p node f).plots = s.plots ∧ (State.modAdm s p node f).stash = s.stash ∧
    (State.modAdm s p node f).matJobs = s.matJobs ∧ (State.modAdm s p node f).vecJobs = s.vecJobs ∧
    (State.modAdm s p node f).fabric = s.fabric ∧ (State.modAdm s p node f).puts = s.puts ∧
    (State.modAdm s p node f).tags = s.tags ∧ (State.modAdm s p node f).mgr = s.mgr ∧
    (State.modAdm s p node f).mac = s.mac ∧ (State.modAdm s p node f).pcie = s.pcie ∧
    (State.modAdm s p node f).sec = s.sec ∧ (State.modAdm s p node f).cores = s.cores ∧
    (State.modAdm s p node f).power = s.power ∧ (State.modAdm s p node f).faults = s.faults ∧
    (State.modAdm s p node f).maint = s.maint ∧ (State.modAdm s p node f).glob = s.glob := by
  unfold State.modAdm
  try dsimp only
  (repeat' split) <;> first | (simp; done) | (simp (disch := (intros; (repeat' split) <;> first | simp | skip)); done)

@[simp] theorem State.logAdmission_frame (s : State) (p node m : Nat) (b : List Byte) :
    (State.logAdmission s p node m b).pending = s.pending ∧ (State.logAdmission s p node m b).draws = s.draws ∧
    (State.logAdmission s p node m b).out = s.out ∧ (State.logAdmission s p node m b).regs = s.regs ∧
    (State.logAdmission s p node m b).hbm = s.hbm ∧ (State.logAdmission s p node m b).host = s.host ∧
    (State.logAdmission s p node m b).pkg = s.pkg ∧ (State.logAdmission s p node m b).flash = s.flash ∧
    (State.logAdmission s p node m b).clocks = s.clocks ∧ (State.logAdmission s p node m b).engines = s.engines ∧
    (State.logAdmission s p node m b).slabs = s.slabs ∧ (State.logAdmission s p node m b).rings = s.rings ∧
    (State.logAdmission s p node m b).plots = s.plots ∧ (State.logAdmission s p node m b).stash = s.stash ∧
    (State.logAdmission s p node m b).matJobs = s.matJobs ∧ (State.logAdmission s p node m b).vecJobs = s.vecJobs ∧
    (State.logAdmission s p node m b).fabric = s.fabric ∧ (State.logAdmission s p node m b).puts = s.puts ∧
    (State.logAdmission s p node m b).tags = s.tags ∧ (State.logAdmission s p node m b).mgr = s.mgr ∧
    (State.logAdmission s p node m b).mac = s.mac ∧ (State.logAdmission s p node m b).pcie = s.pcie ∧
    (State.logAdmission s p node m b).sec = s.sec ∧ (State.logAdmission s p node m b).cores = s.cores ∧
    (State.logAdmission s p node m b).power = s.power ∧ (State.logAdmission s p node m b).faults = s.faults ∧
    (State.logAdmission s p node m b).maint = s.maint ∧ (State.logAdmission s p node m b).glob = s.glob := by
  unfold State.logAdmission
  try dsimp only
  (repeat' split) <;> first | (simp; done) | (simp (disch := (intros; (repeat' split) <;> first | simp | skip)); done)

@[simp] theorem State.sendAdmission_frame (s : State) (p node m : Nat) :
    (State.sendAdmission s p node m).pending = s.pending ∧ (State.sendAdmission s p node m).regs = s.regs ∧
    (State.sendAdmission s p node m).hbm = s.hbm ∧ (State.sendAdmission s p node m).host = s.host ∧
    (State.sendAdmission s p node m).pkg = s.pkg ∧ (State.sendAdmission s p node m).flash = s.flash ∧
    (State.sendAdmission s p node m).clocks = s.clocks ∧ (State.sendAdmission s p node m).engines = s.engines ∧
    (State.sendAdmission s p node m).slabs = s.slabs ∧ (State.sendAdmission s p node m).rings = s.rings ∧
    (State.sendAdmission s p node m).plots = s.plots ∧ (State.sendAdmission s p node m).stash = s.stash ∧
    (State.sendAdmission s p node m).matJobs = s.matJobs ∧ (State.sendAdmission s p node m).vecJobs = s.vecJobs ∧
    (State.sendAdmission s p node m).fabric = s.fabric ∧ (State.sendAdmission s p node m).puts = s.puts ∧
    (State.sendAdmission s p node m).tags = s.tags ∧ (State.sendAdmission s p node m).mgr = s.mgr ∧
    (State.sendAdmission s p node m).mac = s.mac ∧ (State.sendAdmission s p node m).pcie = s.pcie ∧
    (State.sendAdmission s p node m).sec = s.sec ∧ (State.sendAdmission s p node m).cores = s.cores ∧
    (State.sendAdmission s p node m).power = s.power ∧ (State.sendAdmission s p node m).faults = s.faults ∧
    (State.sendAdmission s p node m).maint = s.maint ∧ (State.sendAdmission s p node m).glob = s.glob := by
  unfold State.sendAdmission
  try dsimp only
  (repeat' split) <;> first | (simp; done) | (simp (disch := (intros; (repeat' split) <;> first | simp | skip)); done)

@[simp] theorem State.openPath_frame (s : State) (p node : Nat) :
    (State.openPath s p node).pending = s.pending ∧ (State.openPath s p node).draws = s.draws ∧
    (State.openPath s p node).regs = s.regs ∧ (State.openPath s p node).hbm = s.hbm ∧
    (State.openPath s p node).host = s.host ∧ (State.openPath s p node).pkg = s.pkg ∧
    (State.openPath s p node).flash = s.flash ∧ (State.openPath s p node).clocks = s.clocks ∧
    (State.openPath s p node).engines = s.engines ∧ (State.openPath s p node).slabs = s.slabs ∧
    (State.openPath s p node).rings = s.rings ∧ (State.openPath s p node).plots = s.plots ∧
    (State.openPath s p node).stash = s.stash ∧ (State.openPath s p node).matJobs = s.matJobs ∧
    (State.openPath s p node).vecJobs = s.vecJobs ∧ (State.openPath s p node).fabric = s.fabric ∧
    (State.openPath s p node).puts = s.puts ∧ (State.openPath s p node).tags = s.tags ∧
    (State.openPath s p node).mgr = s.mgr ∧ (State.openPath s p node).mac = s.mac ∧
    (State.openPath s p node).pcie = s.pcie ∧ (State.openPath s p node).sec = s.sec ∧
    (State.openPath s p node).cores = s.cores ∧ (State.openPath s p node).power = s.power ∧
    (State.openPath s p node).faults = s.faults ∧ (State.openPath s p node).maint = s.maint ∧
    (State.openPath s p node).glob = s.glob := by
  unfold State.openPath
  try dsimp only
  (repeat' split) <;> first | (simp; done) | (simp (disch := (intros; (repeat' split) <;> first | simp | skip)); done)

@[simp] theorem State.startAdmission_frame (s : State) (p node : Nat) (first : Bool) :
    (State.startAdmission s p node first).pending = s.pending ∧ (State.startAdmission s p node first).hbm = s.hbm ∧
    (State.startAdmission s p node first).host = s.host ∧ (State.startAdmission s p node first).pkg = s.pkg ∧
    (State.startAdmission s p node first).flash = s.flash ∧
    (State.startAdmission s p node first).clocks = s.clocks ∧
    (State.startAdmission s p node first).engines = s.engines ∧
    (State.startAdmission s p node first).slabs = s.slabs ∧ (State.startAdmission s p node first).rings = s.rings ∧
    (State.startAdmission s p node first).plots = s.plots ∧ (State.startAdmission s p node first).stash = s.stash ∧
    (State.startAdmission s p node first).matJobs = s.matJobs ∧
    (State.startAdmission s p node first).vecJobs = s.vecJobs ∧
    (State.startAdmission s p node first).puts = s.puts ∧ (State.startAdmission s p node first).tags = s.tags ∧
    (State.startAdmission s p node first).mgr = s.mgr ∧ (State.startAdmission s p node first).mac = s.mac ∧
    (State.startAdmission s p node first).pcie = s.pcie ∧ (State.startAdmission s p node first).sec = s.sec ∧
    (State.startAdmission s p node first).cores = s.cores ∧ (State.startAdmission s p node first).power = s.power ∧
    (State.startAdmission s p node first).faults = s.faults ∧
    (State.startAdmission s p node first).maint = s.maint ∧ (State.startAdmission s p node first).glob = s.glob := by
  unfold State.startAdmission
  try dsimp only
  (repeat' split) <;> first | (simp; done) | (simp (disch := (intros; (repeat' split) <;> first | simp | skip)); done)

@[simp] theorem State.deriveKeys_frame (s : State) (p node : Nat) :
    (State.deriveKeys s p node).pending = s.pending ∧ (State.deriveKeys s p node).draws = s.draws ∧
    (State.deriveKeys s p node).out = s.out ∧ (State.deriveKeys s p node).regs = s.regs ∧
    (State.deriveKeys s p node).hbm = s.hbm ∧ (State.deriveKeys s p node).host = s.host ∧
    (State.deriveKeys s p node).pkg = s.pkg ∧ (State.deriveKeys s p node).flash = s.flash ∧
    (State.deriveKeys s p node).clocks = s.clocks ∧ (State.deriveKeys s p node).engines = s.engines ∧
    (State.deriveKeys s p node).slabs = s.slabs ∧ (State.deriveKeys s p node).rings = s.rings ∧
    (State.deriveKeys s p node).plots = s.plots ∧ (State.deriveKeys s p node).stash = s.stash ∧
    (State.deriveKeys s p node).matJobs = s.matJobs ∧ (State.deriveKeys s p node).vecJobs = s.vecJobs ∧
    (State.deriveKeys s p node).fabric = s.fabric ∧ (State.deriveKeys s p node).puts = s.puts ∧
    (State.deriveKeys s p node).tags = s.tags ∧ (State.deriveKeys s p node).mgr = s.mgr ∧
    (State.deriveKeys s p node).mac = s.mac ∧ (State.deriveKeys s p node).pcie = s.pcie ∧
    (State.deriveKeys s p node).sec = s.sec ∧ (State.deriveKeys s p node).cores = s.cores ∧
    (State.deriveKeys s p node).power = s.power ∧ (State.deriveKeys s p node).faults = s.faults ∧
    (State.deriveKeys s p node).maint = s.maint ∧ (State.deriveKeys s p node).glob = s.glob := by
  unfold State.deriveKeys
  try dsimp only
  (repeat' split) <;> first | (simp; done) | (simp (disch := (intros; (repeat' split) <;> first | simp | skip)); done)

@[simp] theorem State.sendJoin_frame (s : State) :
    (State.sendJoin s).pending = s.pending ∧ (State.sendJoin s).draws = s.draws ∧ (State.sendJoin s).hbm = s.hbm ∧
    (State.sendJoin s).pkg = s.pkg ∧ (State.sendJoin s).flash = s.flash ∧ (State.sendJoin s).clocks = s.clocks ∧
    (State.sendJoin s).engines = s.engines ∧ (State.sendJoin s).slabs = s.slabs ∧
    (State.sendJoin s).plots = s.plots ∧ (State.sendJoin s).stash = s.stash ∧
    (State.sendJoin s).matJobs = s.matJobs ∧ (State.sendJoin s).vecJobs = s.vecJobs ∧
    (State.sendJoin s).puts = s.puts ∧ (State.sendJoin s).pcie = s.pcie ∧ (State.sendJoin s).sec = s.sec ∧
    (State.sendJoin s).cores = s.cores ∧ (State.sendJoin s).faults = s.faults ∧
    (State.sendJoin s).maint = s.maint ∧ (State.sendJoin s).glob = s.glob := by
  unfold State.sendJoin
  try dsimp only
  (repeat' split) <;> first | (simp; done) | (simp (disch := (intros; (repeat' split) <;> first | simp | skip)); done)

@[simp] theorem State.askJoin_frame (s : State) :
    (State.askJoin s).pending = s.pending ∧ (State.askJoin s).draws = s.draws ∧ (State.askJoin s).hbm = s.hbm ∧
    (State.askJoin s).pkg = s.pkg ∧ (State.askJoin s).flash = s.flash ∧ (State.askJoin s).clocks = s.clocks ∧
    (State.askJoin s).engines = s.engines ∧ (State.askJoin s).slabs = s.slabs ∧ (State.askJoin s).plots = s.plots ∧
    (State.askJoin s).stash = s.stash ∧ (State.askJoin s).matJobs = s.matJobs ∧
    (State.askJoin s).vecJobs = s.vecJobs ∧ (State.askJoin s).puts = s.puts ∧ (State.askJoin s).pcie = s.pcie ∧
    (State.askJoin s).sec = s.sec ∧ (State.askJoin s).cores = s.cores ∧ (State.askJoin s).faults = s.faults ∧
    (State.askJoin s).maint = s.maint ∧ (State.askJoin s).glob = s.glob := by
  unfold State.askJoin
  try dsimp only
  (repeat' split) <;> first | (simp; done) | (simp (disch := (intros; (repeat' split) <;> first | simp | skip)); done)

@[simp] theorem State.failAdmission_frame (s : State) (p node : Nat) :
    (State.failAdmission s p node).pending = s.pending ∧ (State.failAdmission s p node).draws = s.draws ∧
    (State.failAdmission s p node).hbm = s.hbm ∧ (State.failAdmission s p node).pkg = s.pkg ∧
    (State.failAdmission s p node).flash = s.flash ∧ (State.failAdmission s p node).clocks = s.clocks ∧
    (State.failAdmission s p node).engines = s.engines ∧ (State.failAdmission s p node).slabs = s.slabs ∧
    (State.failAdmission s p node).plots = s.plots ∧ (State.failAdmission s p node).stash = s.stash ∧
    (State.failAdmission s p node).matJobs = s.matJobs ∧ (State.failAdmission s p node).vecJobs = s.vecJobs ∧
    (State.failAdmission s p node).puts = s.puts ∧ (State.failAdmission s p node).pcie = s.pcie ∧
    (State.failAdmission s p node).sec = s.sec ∧ (State.failAdmission s p node).cores = s.cores ∧
    (State.failAdmission s p node).faults = s.faults ∧ (State.failAdmission s p node).maint = s.maint ∧
    (State.failAdmission s p node).glob = s.glob := by
  unfold State.failAdmission
  try dsimp only
  (repeat' split) <;> first | (simp; done) | (simp (disch := (intros; (repeat' split) <;> first | simp | skip)); done)

@[simp] theorem State.admitted_frame (s : State) (p node : Nat) :
    (State.admitted s p node).pending = s.pending ∧ (State.admitted s p node).draws = s.draws ∧
    (State.admitted s p node).hbm = s.hbm ∧ (State.admitted s p node).pkg = s.pkg ∧
    (State.admitted s p node).flash = s.flash ∧ (State.admitted s p node).clocks = s.clocks ∧
    (State.admitted s p node).engines = s.engines ∧ (State.admitted s p node).slabs = s.slabs ∧
    (State.admitted s p node).plots = s.plots ∧ (State.admitted s p node).stash = s.stash ∧
    (State.admitted s p node).matJobs = s.matJobs ∧ (State.admitted s p node).vecJobs = s.vecJobs ∧
    (State.admitted s p node).puts = s.puts ∧ (State.admitted s p node).pcie = s.pcie ∧
    (State.admitted s p node).sec = s.sec ∧ (State.admitted s p node).cores = s.cores ∧
    (State.admitted s p node).faults = s.faults ∧ (State.admitted s p node).maint = s.maint ∧
    (State.admitted s p node).glob = s.glob := by
  unfold State.admitted
  try dsimp only
  (repeat' split) <;> first | (simp; done) | (simp (disch := (intros; (repeat' split) <;> first | simp | skip)); done)

end Sys2Proof.Machine
end

