-- ==== Sys2Proof/Laws/FrameAdmission.lean ====
section
/-! SUPPORT. Frames of the operations of Admission. -/

namespace Sys2Proof.Machine

@[simp] theorem State.answerAdmission_frame (s : State) (p node m : Nat) (b : List Byte) (answers : List Nat) :
    (State.answerAdmission s p node m b answers).pending = s.pending ∧
    (State.answerAdmission s p node m b answers).regs = s.regs ∧
    (State.answerAdmission s p node m b answers).hbm = s.hbm ∧
    (State.answerAdmission s p node m b answers).host = s.host ∧
    (State.answerAdmission s p node m b answers).pkg = s.pkg ∧
    (State.answerAdmission s p node m b answers).flash = s.flash ∧
    (State.answerAdmission s p node m b answers).clocks = s.clocks ∧
    (State.answerAdmission s p node m b answers).engines = s.engines ∧
    (State.answerAdmission s p node m b answers).slabs = s.slabs ∧
    (State.answerAdmission s p node m b answers).rings = s.rings ∧
    (State.answerAdmission s p node m b answers).plots = s.plots ∧
    (State.answerAdmission s p node m b answers).stash = s.stash ∧
    (State.answerAdmission s p node m b answers).matJobs = s.matJobs ∧
    (State.answerAdmission s p node m b answers).vecJobs = s.vecJobs ∧
    (State.answerAdmission s p node m b answers).fabric = s.fabric ∧
    (State.answerAdmission s p node m b answers).puts = s.puts ∧
    (State.answerAdmission s p node m b answers).tags = s.tags ∧
    (State.answerAdmission s p node m b answers).mgr = s.mgr ∧
    (State.answerAdmission s p node m b answers).mac = s.mac ∧
    (State.answerAdmission s p node m b answers).pcie = s.pcie ∧
    (State.answerAdmission s p node m b answers).sec = s.sec ∧
    (State.answerAdmission s p node m b answers).cores = s.cores ∧
    (State.answerAdmission s p node m b answers).power = s.power ∧
    (State.answerAdmission s p node m b answers).faults = s.faults ∧
    (State.answerAdmission s p node m b answers).maint = s.maint ∧
    (State.answerAdmission s p node m b answers).glob = s.glob := by
  unfold State.answerAdmission
  try dsimp only
  (repeat' split) <;> first | (simp; done) | (simp (disch := (intros; (repeat' split) <;> first | simp | skip)); done)

end Sys2Proof.Machine
end

