-- ==== Sys2Proof/Laws/FrameOperands.lean ====
section
/-! SUPPORT. Frames of the operations of Operands. -/

namespace Sys2Proof.Machine

@[simp] theorem State.poisonEvent_frame (s : State) (p a : Nat) :
    (State.poisonEvent s p a).pending = s.pending ∧ (State.poisonEvent s p a).draws = s.draws ∧
    (State.poisonEvent s p a).host = s.host ∧ (State.poisonEvent s p a).pkg = s.pkg ∧
    (State.poisonEvent s p a).clocks = s.clocks ∧ (State.poisonEvent s p a).engines = s.engines ∧
    (State.poisonEvent s p a).slabs = s.slabs ∧ (State.poisonEvent s p a).rings = s.rings ∧
    (State.poisonEvent s p a).stash = s.stash ∧ (State.poisonEvent s p a).matJobs = s.matJobs ∧
    (State.poisonEvent s p a).vecJobs = s.vecJobs ∧ (State.poisonEvent s p a).fabric = s.fabric ∧
    (State.poisonEvent s p a).ports = s.ports ∧ (State.poisonEvent s p a).puts = s.puts ∧
    (State.poisonEvent s p a).tags = s.tags ∧ (State.poisonEvent s p a).mgr = s.mgr ∧
    (State.poisonEvent s p a).mac = s.mac ∧ (State.poisonEvent s p a).sec = s.sec ∧
    (State.poisonEvent s p a).cores = s.cores ∧ (State.poisonEvent s p a).power = s.power ∧
    (State.poisonEvent s p a).maint = s.maint ∧ (State.poisonEvent s p a).glob = s.glob := by
  unfold State.poisonEvent
  try dsimp only
  (repeat' split) <;> first | (simp; done) | (simp (disch := (intros; (repeat' split) <;> first | simp | skip)); done)

@[simp] theorem State.failDesc_frame (s : State) (r i p : Nat) (x0 : Fail) :
    (State.failDesc s r i p x0).pending = s.pending ∧ (State.failDesc s r i p x0).draws = s.draws ∧
    (State.failDesc s r i p x0).host = s.host ∧ (State.failDesc s r i p x0).pkg = s.pkg ∧
    (State.failDesc s r i p x0).clocks = s.clocks ∧ (State.failDesc s r i p x0).engines = s.engines ∧
    (State.failDesc s r i p x0).slabs = s.slabs ∧ (State.failDesc s r i p x0).stash = s.stash ∧
    (State.failDesc s r i p x0).matJobs = s.matJobs ∧ (State.failDesc s r i p x0).vecJobs = s.vecJobs ∧
    (State.failDesc s r i p x0).fabric = s.fabric ∧ (State.failDesc s r i p x0).ports = s.ports ∧
    (State.failDesc s r i p x0).puts = s.puts ∧ (State.failDesc s r i p x0).tags = s.tags ∧
    (State.failDesc s r i p x0).mgr = s.mgr ∧ (State.failDesc s r i p x0).mac = s.mac ∧
    (State.failDesc s r i p x0).sec = s.sec ∧ (State.failDesc s r i p x0).cores = s.cores ∧
    (State.failDesc s r i p x0).power = s.power ∧ (State.failDesc s r i p x0).maint = s.maint ∧
    (State.failDesc s r i p x0).glob = s.glob := by
  unfold State.failDesc
  try dsimp only
  (repeat' split) <;> first | (simp; done) | (simp (disch := (intros; (repeat' split) <;> first | simp | skip)); done)

@[simp] theorem State.moved_frame (s : State) (p r : Nat) (reading : Bool) (l : List (Nat × Nat)) :
    (State.moved s p r reading l).pending = s.pending ∧ (State.moved s p r reading l).draws = s.draws ∧
    (State.moved s p r reading l).out = s.out ∧ (State.moved s p r reading l).hbm = s.hbm ∧
    (State.moved s p r reading l).host = s.host ∧ (State.moved s p r reading l).pkg = s.pkg ∧
    (State.moved s p r reading l).flash = s.flash ∧ (State.moved s p r reading l).clocks = s.clocks ∧
    (State.moved s p r reading l).engines = s.engines ∧ (State.moved s p r reading l).slabs = s.slabs ∧
    (State.moved s p r reading l).rings = s.rings ∧ (State.moved s p r reading l).plots = s.plots ∧
    (State.moved s p r reading l).stash = s.stash ∧ (State.moved s p r reading l).matJobs = s.matJobs ∧
    (State.moved s p r reading l).vecJobs = s.vecJobs ∧ (State.moved s p r reading l).fabric = s.fabric ∧
    (State.moved s p r reading l).ports = s.ports ∧ (State.moved s p r reading l).puts = s.puts ∧
    (State.moved s p r reading l).tags = s.tags ∧ (State.moved s p r reading l).mgr = s.mgr ∧
    (State.moved s p r reading l).mac = s.mac ∧ (State.moved s p r reading l).pcie = s.pcie ∧
    (State.moved s p r reading l).sec = s.sec ∧ (State.moved s p r reading l).cores = s.cores ∧
    (State.moved s p r reading l).faults = s.faults ∧ (State.moved s p r reading l).maint = s.maint ∧
    (State.moved s p r reading l).glob = s.glob := by
  unfold State.moved
  try dsimp only
  (repeat' split) <;> first | (simp; done) | (simp (disch := (intros; (repeat' split) <;> first | simp | skip)); done)

@[simp] theorem State.crossMesh_frame (s : State) (a b : Nat) :
    (State.crossMesh s a b).pending = s.pending ∧ (State.crossMesh s a b).out = s.out ∧
    (State.crossMesh s a b).hbm = s.hbm ∧ (State.crossMesh s a b).host = s.host ∧
    (State.crossMesh s a b).pkg = s.pkg ∧ (State.crossMesh s a b).flash = s.flash ∧
    (State.crossMesh s a b).clocks = s.clocks ∧ (State.crossMesh s a b).engines = s.engines ∧
    (State.crossMesh s a b).slabs = s.slabs ∧ (State.crossMesh s a b).rings = s.rings ∧
    (State.crossMesh s a b).plots = s.plots ∧ (State.crossMesh s a b).stash = s.stash ∧
    (State.crossMesh s a b).matJobs = s.matJobs ∧ (State.crossMesh s a b).vecJobs = s.vecJobs ∧
    (State.crossMesh s a b).fabric = s.fabric ∧ (State.crossMesh s a b).ports = s.ports ∧
    (State.crossMesh s a b).puts = s.puts ∧ (State.crossMesh s a b).tags = s.tags ∧
    (State.crossMesh s a b).mgr = s.mgr ∧ (State.crossMesh s a b).mac = s.mac ∧
    (State.crossMesh s a b).pcie = s.pcie ∧ (State.crossMesh s a b).sec = s.sec ∧
    (State.crossMesh s a b).cores = s.cores ∧ (State.crossMesh s a b).power = s.power ∧
    (State.crossMesh s a b).faults = s.faults ∧ (State.crossMesh s a b).maint = s.maint ∧
    (State.crossMesh s a b).glob = s.glob := by
  unfold State.crossMesh
  try dsimp only
  (repeat' split) <;> first | (simp; done) | (simp (disch := (intros; (repeat' split) <;> first | simp | skip)); done)

@[simp] theorem State.staged_frame (s : State) (p r gd : Nat) (reading : Bool) (l : List (Nat × Nat)) :
    (State.staged s p r gd reading l).pending = s.pending ∧ (State.staged s p r gd reading l).out = s.out ∧
    (State.staged s p r gd reading l).hbm = s.hbm ∧ (State.staged s p r gd reading l).host = s.host ∧
    (State.staged s p r gd reading l).pkg = s.pkg ∧ (State.staged s p r gd reading l).flash = s.flash ∧
    (State.staged s p r gd reading l).clocks = s.clocks ∧ (State.staged s p r gd reading l).engines = s.engines ∧
    (State.staged s p r gd reading l).slabs = s.slabs ∧ (State.staged s p r gd reading l).rings = s.rings ∧
    (State.staged s p r gd reading l).plots = s.plots ∧ (State.staged s p r gd reading l).stash = s.stash ∧
    (State.staged s p r gd reading l).matJobs = s.matJobs ∧ (State.staged s p r gd reading l).vecJobs = s.vecJobs ∧
    (State.staged s p r gd reading l).fabric = s.fabric ∧ (State.staged s p r gd reading l).ports = s.ports ∧
    (State.staged s p r gd reading l).puts = s.puts ∧ (State.staged s p r gd reading l).tags = s.tags ∧
    (State.staged s p r gd reading l).mgr = s.mgr ∧ (State.staged s p r gd reading l).mac = s.mac ∧
    (State.staged s p r gd reading l).pcie = s.pcie ∧ (State.staged s p r gd reading l).sec = s.sec ∧
    (State.staged s p r gd reading l).cores = s.cores ∧ (State.staged s p r gd reading l).faults = s.faults ∧
    (State.staged s p r gd reading l).maint = s.maint ∧ (State.staged s p r gd reading l).glob = s.glob := by
  unfold State.staged
  try dsimp only
  (repeat' split) <;> first | (simp; done) | (simp (disch := (intros; (repeat' split) <;> first | simp | skip)); done)

@[simp] theorem State.modTensor_frame (s : State) (p h : Nat) (f : Tensor → Tensor) :
    (State.modTensor s p h f).pending = s.pending ∧ (State.modTensor s p h f).draws = s.draws ∧
    (State.modTensor s p h f).out = s.out ∧ (State.modTensor s p h f).regs = s.regs ∧
    (State.modTensor s p h f).hbm = s.hbm ∧ (State.modTensor s p h f).host = s.host ∧
    (State.modTensor s p h f).pkg = s.pkg ∧ (State.modTensor s p h f).flash = s.flash ∧
    (State.modTensor s p h f).clocks = s.clocks ∧ (State.modTensor s p h f).engines = s.engines ∧
    (State.modTensor s p h f).slabs = s.slabs ∧ (State.modTensor s p h f).rings = s.rings ∧
    (State.modTensor s p h f).stash = s.stash ∧ (State.modTensor s p h f).matJobs = s.matJobs ∧
    (State.modTensor s p h f).vecJobs = s.vecJobs ∧ (State.modTensor s p h f).fabric = s.fabric ∧
    (State.modTensor s p h f).ports = s.ports ∧ (State.modTensor s p h f).puts = s.puts ∧
    (State.modTensor s p h f).tags = s.tags ∧ (State.modTensor s p h f).mgr = s.mgr ∧
    (State.modTensor s p h f).mac = s.mac ∧ (State.modTensor s p h f).pcie = s.pcie ∧
    (State.modTensor s p h f).sec = s.sec ∧ (State.modTensor s p h f).cores = s.cores ∧
    (State.modTensor s p h f).power = s.power ∧ (State.modTensor s p h f).faults = s.faults ∧
    (State.modTensor s p h f).maint = s.maint ∧ (State.modTensor s p h f).glob = s.glob := by
  unfold State.modTensor
  try dsimp only
  (repeat' split) <;> first | (simp; done) | (simp (disch := (intros; (repeat' split) <;> first | simp | skip)); done)

@[simp] theorem State.rebase_frame (s : State) (p h : Nat) :
    (State.rebase s p h).pending = s.pending ∧ (State.rebase s p h).draws = s.draws ∧
    (State.rebase s p h).out = s.out ∧ (State.rebase s p h).regs = s.regs ∧ (State.rebase s p h).hbm = s.hbm ∧
    (State.rebase s p h).host = s.host ∧ (State.rebase s p h).pkg = s.pkg ∧ (State.rebase s p h).flash = s.flash ∧
    (State.rebase s p h).clocks = s.clocks ∧ (State.rebase s p h).engines = s.engines ∧
    (State.rebase s p h).slabs = s.slabs ∧ (State.rebase s p h).rings = s.rings ∧
    (State.rebase s p h).stash = s.stash ∧ (State.rebase s p h).matJobs = s.matJobs ∧
    (State.rebase s p h).vecJobs = s.vecJobs ∧ (State.rebase s p h).fabric = s.fabric ∧
    (State.rebase s p h).ports = s.ports ∧ (State.rebase s p h).puts = s.puts ∧
    (State.rebase s p h).tags = s.tags ∧ (State.rebase s p h).mgr = s.mgr ∧ (State.rebase s p h).mac = s.mac ∧
    (State.rebase s p h).pcie = s.pcie ∧ (State.rebase s p h).sec = s.sec ∧ (State.rebase s p h).cores = s.cores ∧
    (State.rebase s p h).power = s.power ∧ (State.rebase s p h).faults = s.faults ∧
    (State.rebase s p h).maint = s.maint ∧ (State.rebase s p h).glob = s.glob := by
  unfold State.rebase
  try dsimp only
  (repeat' split) <;> first | (simp; done) | (simp (disch := (intros; (repeat' split) <;> first | simp | skip)); done)

@[simp] theorem State.markNarrow_frame (s : State) (p r i h : Nat) :
    (State.markNarrow s p r i h).pending = s.pending ∧ (State.markNarrow s p r i h).draws = s.draws ∧
    (State.markNarrow s p r i h).out = s.out ∧ (State.markNarrow s p r i h).regs = s.regs ∧
    (State.markNarrow s p r i h).hbm = s.hbm ∧ (State.markNarrow s p r i h).host = s.host ∧
    (State.markNarrow s p r i h).pkg = s.pkg ∧ (State.markNarrow s p r i h).flash = s.flash ∧
    (State.markNarrow s p r i h).clocks = s.clocks ∧ (State.markNarrow s p r i h).engines = s.engines ∧
    (State.markNarrow s p r i h).slabs = s.slabs ∧ (State.markNarrow s p r i h).rings = s.rings ∧
    (State.markNarrow s p r i h).stash = s.stash ∧ (State.markNarrow s p r i h).matJobs = s.matJobs ∧
    (State.markNarrow s p r i h).vecJobs = s.vecJobs ∧ (State.markNarrow s p r i h).fabric = s.fabric ∧
    (State.markNarrow s p r i h).ports = s.ports ∧ (State.markNarrow s p r i h).puts = s.puts ∧
    (State.markNarrow s p r i h).tags = s.tags ∧ (State.markNarrow s p r i h).mgr = s.mgr ∧
    (State.markNarrow s p r i h).mac = s.mac ∧ (State.markNarrow s p r i h).pcie = s.pcie ∧
    (State.markNarrow s p r i h).sec = s.sec ∧ (State.markNarrow s p r i h).cores = s.cores ∧
    (State.markNarrow s p r i h).power = s.power ∧ (State.markNarrow s p r i h).faults = s.faults ∧
    (State.markNarrow s p r i h).maint = s.maint ∧ (State.markNarrow s p r i h).glob = s.glob := by
  unfold State.markNarrow
  try dsimp only
  (repeat' split) <;> first | (simp; done) | (simp (disch := (intros; (repeat' split) <;> first | simp | skip)); done)

end Sys2Proof.Machine
end

