-- ==== Sys2Proof/Laws/FrameIssueOps.lean ====
section
/-! SUPPORT. Frames of the operations of IssueOps. -/

namespace Sys2Proof.Machine

@[simp] theorem State.modStep_frame (s : State) (p : Nat) (f : Step → Step) :
    (State.modStep s p f).pending = s.pending ∧ (State.modStep s p f).draws = s.draws ∧
    (State.modStep s p f).out = s.out ∧ (State.modStep s p f).regs = s.regs ∧ (State.modStep s p f).hbm = s.hbm ∧
    (State.modStep s p f).host = s.host ∧ (State.modStep s p f).pkg = s.pkg ∧
    (State.modStep s p f).flash = s.flash ∧ (State.modStep s p f).clocks = s.clocks ∧
    (State.modStep s p f).engines = s.engines ∧ (State.modStep s p f).slabs = s.slabs ∧
    (State.modStep s p f).rings = s.rings ∧ (State.modStep s p f).stash = s.stash ∧
    (State.modStep s p f).matJobs = s.matJobs ∧ (State.modStep s p f).vecJobs = s.vecJobs ∧
    (State.modStep s p f).fabric = s.fabric ∧ (State.modStep s p f).ports = s.ports ∧
    (State.modStep s p f).puts = s.puts ∧ (State.modStep s p f).tags = s.tags ∧ (State.modStep s p f).mgr = s.mgr ∧
    (State.modStep s p f).mac = s.mac ∧ (State.modStep s p f).pcie = s.pcie ∧ (State.modStep s p f).sec = s.sec ∧
    (State.modStep s p f).cores = s.cores ∧ (State.modStep s p f).power = s.power ∧
    (State.modStep s p f).faults = s.faults ∧ (State.modStep s p f).maint = s.maint ∧
    (State.modStep s p f).glob = s.glob := by
  unfold State.modStep
  try dsimp only
  (repeat' split) <;> first | (simp; done) | (simp (disch := (intros; (repeat' split) <;> first | simp | skip)); done)

@[simp] theorem State.setStage_frame (s : State) (r i st : Nat) :
    (State.setStage s r i st).pending = s.pending ∧ (State.setStage s r i st).draws = s.draws ∧
    (State.setStage s r i st).out = s.out ∧ (State.setStage s r i st).regs = s.regs ∧
    (State.setStage s r i st).hbm = s.hbm ∧ (State.setStage s r i st).host = s.host ∧
    (State.setStage s r i st).pkg = s.pkg ∧ (State.setStage s r i st).flash = s.flash ∧
    (State.setStage s r i st).clocks = s.clocks ∧ (State.setStage s r i st).engines = s.engines ∧
    (State.setStage s r i st).slabs = s.slabs ∧ (State.setStage s r i st).plots = s.plots ∧
    (State.setStage s r i st).stash = s.stash ∧ (State.setStage s r i st).matJobs = s.matJobs ∧
    (State.setStage s r i st).vecJobs = s.vecJobs ∧ (State.setStage s r i st).fabric = s.fabric ∧
    (State.setStage s r i st).ports = s.ports ∧ (State.setStage s r i st).puts = s.puts ∧
    (State.setStage s r i st).tags = s.tags ∧ (State.setStage s r i st).mgr = s.mgr ∧
    (State.setStage s r i st).mac = s.mac ∧ (State.setStage s r i st).pcie = s.pcie ∧
    (State.setStage s r i st).sec = s.sec ∧ (State.setStage s r i st).cores = s.cores ∧
    (State.setStage s r i st).power = s.power ∧ (State.setStage s r i st).faults = s.faults ∧
    (State.setStage s r i st).maint = s.maint ∧ (State.setStage s r i st).glob = s.glob := by
  unfold State.setStage
  try dsimp only
  (repeat' split) <;> first | (simp; done) | (simp (disch := (intros; (repeat' split) <;> first | simp | skip)); done)

@[simp] theorem State.countNf_frame (s : State) (p : Nat) (member : Bool) (n : Nat) :
    (State.countNf s p member n).pending = s.pending ∧ (State.countNf s p member n).draws = s.draws ∧
    (State.countNf s p member n).out = s.out ∧ (State.countNf s p member n).hbm = s.hbm ∧
    (State.countNf s p member n).host = s.host ∧ (State.countNf s p member n).pkg = s.pkg ∧
    (State.countNf s p member n).flash = s.flash ∧ (State.countNf s p member n).clocks = s.clocks ∧
    (State.countNf s p member n).engines = s.engines ∧ (State.countNf s p member n).slabs = s.slabs ∧
    (State.countNf s p member n).rings = s.rings ∧ (State.countNf s p member n).stash = s.stash ∧
    (State.countNf s p member n).matJobs = s.matJobs ∧ (State.countNf s p member n).vecJobs = s.vecJobs ∧
    (State.countNf s p member n).fabric = s.fabric ∧ (State.countNf s p member n).ports = s.ports ∧
    (State.countNf s p member n).puts = s.puts ∧ (State.countNf s p member n).tags = s.tags ∧
    (State.countNf s p member n).mgr = s.mgr ∧ (State.countNf s p member n).mac = s.mac ∧
    (State.countNf s p member n).pcie = s.pcie ∧ (State.countNf s p member n).sec = s.sec ∧
    (State.countNf s p member n).cores = s.cores ∧ (State.countNf s p member n).power = s.power ∧
    (State.countNf s p member n).faults = s.faults ∧ (State.countNf s p member n).maint = s.maint ∧
    (State.countNf s p member n).glob = s.glob := by
  unfold State.countNf
  try dsimp only
  (repeat' split) <;> first | (simp; done) | (simp (disch := (intros; (repeat' split) <;> first | simp | skip)); done)

@[simp] theorem State.countStored_frame (s : State) (p : Nat) (l : List (Nat × Nat)) :
    (State.countStored s p l).pending = s.pending ∧ (State.countStored s p l).draws = s.draws ∧
    (State.countStored s p l).out = s.out ∧ (State.countStored s p l).hbm = s.hbm ∧
    (State.countStored s p l).host = s.host ∧ (State.countStored s p l).pkg = s.pkg ∧
    (State.countStored s p l).flash = s.flash ∧ (State.countStored s p l).clocks = s.clocks ∧
    (State.countStored s p l).engines = s.engines ∧ (State.countStored s p l).slabs = s.slabs ∧
    (State.countStored s p l).rings = s.rings ∧ (State.countStored s p l).plots = s.plots ∧
    (State.countStored s p l).stash = s.stash ∧ (State.countStored s p l).matJobs = s.matJobs ∧
    (State.countStored s p l).vecJobs = s.vecJobs ∧ (State.countStored s p l).fabric = s.fabric ∧
    (State.countStored s p l).ports = s.ports ∧ (State.countStored s p l).puts = s.puts ∧
    (State.countStored s p l).tags = s.tags ∧ (State.countStored s p l).mgr = s.mgr ∧
    (State.countStored s p l).mac = s.mac ∧ (State.countStored s p l).pcie = s.pcie ∧
    (State.countStored s p l).sec = s.sec ∧ (State.countStored s p l).cores = s.cores ∧
    (State.countStored s p l).power = s.power ∧ (State.countStored s p l).faults = s.faults ∧
    (State.countStored s p l).maint = s.maint ∧ (State.countStored s p l).glob = s.glob := by
  unfold State.countStored
  try dsimp only
  (repeat' split) <;> first | (simp; done) | (simp (disch := (intros; (repeat' split) <;> first | simp | skip)); done)

@[simp] theorem State.veWork_frame (s : State) (p r v lanes steps : Nat) :
    (State.veWork s p r v lanes steps).pending = s.pending ∧ (State.veWork s p r v lanes steps).out = s.out ∧
    (State.veWork s p r v lanes steps).hbm = s.hbm ∧ (State.veWork s p r v lanes steps).host = s.host ∧
    (State.veWork s p r v lanes steps).pkg = s.pkg ∧ (State.veWork s p r v lanes steps).flash = s.flash ∧
    (State.veWork s p r v lanes steps).clocks = s.clocks ∧ (State.veWork s p r v lanes steps).engines = s.engines ∧
    (State.veWork s p r v lanes steps).slabs = s.slabs ∧ (State.veWork s p r v lanes steps).rings = s.rings ∧
    (State.veWork s p r v lanes steps).plots = s.plots ∧ (State.veWork s p r v lanes steps).stash = s.stash ∧
    (State.veWork s p r v lanes steps).matJobs = s.matJobs ∧
    (State.veWork s p r v lanes steps).vecJobs = s.vecJobs ∧ (State.veWork s p r v lanes steps).fabric = s.fabric ∧
    (State.veWork s p r v lanes steps).ports = s.ports ∧ (State.veWork s p r v lanes steps).puts = s.puts ∧
    (State.veWork s p r v lanes steps).tags = s.tags ∧ (State.veWork s p r v lanes steps).mgr = s.mgr ∧
    (State.veWork s p r v lanes steps).mac = s.mac ∧ (State.veWork s p r v lanes steps).pcie = s.pcie ∧
    (State.veWork s p r v lanes steps).sec = s.sec ∧ (State.veWork s p r v lanes steps).cores = s.cores ∧
    (State.veWork s p r v lanes steps).faults = s.faults ∧ (State.veWork s p r v lanes steps).maint = s.maint ∧
    (State.veWork s p r v lanes steps).glob = s.glob := by
  unfold State.veWork
  try dsimp only
  (repeat' split) <;> first | (simp; done) | (simp (disch := (intros; (repeat' split) <;> first | simp | skip)); done)

@[simp] theorem State.stageTensors_frame (s : State) (p r gd : Nat) (reading : Bool) (hs : List Nat) :
    (State.stageTensors s p r gd reading hs).pending = s.pending ∧
    (State.stageTensors s p r gd reading hs).out = s.out ∧ (State.stageTensors s p r gd reading hs).hbm = s.hbm ∧
    (State.stageTensors s p r gd reading hs).host = s.host ∧ (State.stageTensors s p r gd reading hs).pkg = s.pkg ∧
    (State.stageTensors s p r gd reading hs).flash = s.flash ∧
    (State.stageTensors s p r gd reading hs).clocks = s.clocks ∧
    (State.stageTensors s p r gd reading hs).engines = s.engines ∧
    (State.stageTensors s p r gd reading hs).slabs = s.slabs ∧
    (State.stageTensors s p r gd reading hs).rings = s.rings ∧
    (State.stageTensors s p r gd reading hs).plots = s.plots ∧
    (State.stageTensors s p r gd reading hs).stash = s.stash ∧
    (State.stageTensors s p r gd reading hs).matJobs = s.matJobs ∧
    (State.stageTensors s p r gd reading hs).vecJobs = s.vecJobs ∧
    (State.stageTensors s p r gd reading hs).fabric = s.fabric ∧
    (State.stageTensors s p r gd reading hs).ports = s.ports ∧
    (State.stageTensors s p r gd reading hs).puts = s.puts ∧
    (State.stageTensors s p r gd reading hs).tags = s.tags ∧ (State.stageTensors s p r gd reading hs).mgr = s.mgr ∧
    (State.stageTensors s p r gd reading hs).mac = s.mac ∧ (State.stageTensors s p r gd reading hs).pcie = s.pcie ∧
    (State.stageTensors s p r gd reading hs).sec = s.sec ∧
    (State.stageTensors s p r gd reading hs).cores = s.cores ∧
    (State.stageTensors s p r gd reading hs).faults = s.faults ∧
    (State.stageTensors s p r gd reading hs).maint = s.maint ∧
    (State.stageTensors s p r gd reading hs).glob = s.glob := by
  unfold State.stageTensors
  try dsimp only
  (repeat' split) <;> first | (simp; done) | (simp (disch := (intros; (repeat' split) <;> first | simp | skip)); done)

@[simp] theorem State.stageAll_frame (s : State) (p r gd : Nat) (e : Entry) :
    (State.stageAll s p r gd e).pending = s.pending ∧ (State.stageAll s p r gd e).out = s.out ∧
    (State.stageAll s p r gd e).hbm = s.hbm ∧ (State.stageAll s p r gd e).host = s.host ∧
    (State.stageAll s p r gd e).pkg = s.pkg ∧ (State.stageAll s p r gd e).flash = s.flash ∧
    (State.stageAll s p r gd e).clocks = s.clocks ∧ (State.stageAll s p r gd e).engines = s.engines ∧
    (State.stageAll s p r gd e).slabs = s.slabs ∧ (State.stageAll s p r gd e).rings = s.rings ∧
    (State.stageAll s p r gd e).plots = s.plots ∧ (State.stageAll s p r gd e).stash = s.stash ∧
    (State.stageAll s p r gd e).matJobs = s.matJobs ∧ (State.stageAll s p r gd e).vecJobs = s.vecJobs ∧
    (State.stageAll s p r gd e).fabric = s.fabric ∧ (State.stageAll s p r gd e).ports = s.ports ∧
    (State.stageAll s p r gd e).puts = s.puts ∧ (State.stageAll s p r gd e).tags = s.tags ∧
    (State.stageAll s p r gd e).mgr = s.mgr ∧ (State.stageAll s p r gd e).mac = s.mac ∧
    (State.stageAll s p r gd e).pcie = s.pcie ∧ (State.stageAll s p r gd e).sec = s.sec ∧
    (State.stageAll s p r gd e).cores = s.cores ∧ (State.stageAll s p r gd e).faults = s.faults ∧
    (State.stageAll s p r gd e).maint = s.maint ∧ (State.stageAll s p r gd e).glob = s.glob := by
  unfold State.stageAll
  try dsimp only
  (repeat' split) <;> first | (simp; done) | (simp (disch := (intros; (repeat' split) <;> first | simp | skip)); done)

@[simp] theorem State.drawMore_frame (s : State) (n : Nat) :
    (State.drawMore s n).pending = s.pending ∧ (State.drawMore s n).out = s.out ∧
    (State.drawMore s n).regs = s.regs ∧ (State.drawMore s n).hbm = s.hbm ∧ (State.drawMore s n).host = s.host ∧
    (State.drawMore s n).pkg = s.pkg ∧ (State.drawMore s n).flash = s.flash ∧
    (State.drawMore s n).clocks = s.clocks ∧ (State.drawMore s n).engines = s.engines ∧
    (State.drawMore s n).slabs = s.slabs ∧ (State.drawMore s n).rings = s.rings ∧
    (State.drawMore s n).plots = s.plots ∧ (State.drawMore s n).stash = s.stash ∧
    (State.drawMore s n).matJobs = s.matJobs ∧ (State.drawMore s n).vecJobs = s.vecJobs ∧
    (State.drawMore s n).fabric = s.fabric ∧ (State.drawMore s n).ports = s.ports ∧
    (State.drawMore s n).puts = s.puts ∧ (State.drawMore s n).tags = s.tags ∧ (State.drawMore s n).mgr = s.mgr ∧
    (State.drawMore s n).mac = s.mac ∧ (State.drawMore s n).pcie = s.pcie ∧ (State.drawMore s n).sec = s.sec ∧
    (State.drawMore s n).cores = s.cores ∧ (State.drawMore s n).power = s.power ∧
    (State.drawMore s n).faults = s.faults ∧ (State.drawMore s n).maint = s.maint ∧
    (State.drawMore s n).glob = s.glob := by
  unfold State.drawMore
  try dsimp only
  (repeat' split) <;> first | (simp; done) | (simp (disch := (intros; (repeat' split) <;> first | simp | skip)); done)

end Sys2Proof.Machine
end

