-- ==== Sys2Proof/Laws/FrameMesh.lean ====
section
/-! SUPPORT. Frames of the operations of Mesh. -/

namespace Sys2Proof.Machine

@[simp] theorem channelParity_frame (s : State) (ch g lane die : Nat) :
    (channelParity s ch g lane die).pending = s.pending ∧ (channelParity s ch g lane die).draws = s.draws ∧
    (channelParity s ch g lane die).host = s.host ∧ (channelParity s ch g lane die).clocks = s.clocks ∧
    (channelParity s ch g lane die).engines = s.engines ∧ (channelParity s ch g lane die).stash = s.stash ∧
    (channelParity s ch g lane die).matJobs = s.matJobs ∧ (channelParity s ch g lane die).vecJobs = s.vecJobs ∧
    (channelParity s ch g lane die).mgr = s.mgr ∧ (channelParity s ch g lane die).mac = s.mac ∧
    (channelParity s ch g lane die).sec = s.sec ∧ (channelParity s ch g lane die).cores = s.cores ∧
    (channelParity s ch g lane die).glob = s.glob := by
  unfold channelParity
  try dsimp only
  (repeat' split) <;> first | (simp; done) | (simp (disch := (intros; (repeat' split) <;> first | simp | skip)); done)

@[simp] theorem State.rowCandidate_frame (s : State) (stack row : Nat) :
    (State.rowCandidate s stack row).pending = s.pending ∧ (State.rowCandidate s stack row).draws = s.draws ∧
    (State.rowCandidate s stack row).out = s.out ∧ (State.rowCandidate s stack row).host = s.host ∧
    (State.rowCandidate s stack row).pkg = s.pkg ∧ (State.rowCandidate s stack row).flash = s.flash ∧
    (State.rowCandidate s stack row).clocks = s.clocks ∧ (State.rowCandidate s stack row).engines = s.engines ∧
    (State.rowCandidate s stack row).slabs = s.slabs ∧ (State.rowCandidate s stack row).rings = s.rings ∧
    (State.rowCandidate s stack row).plots = s.plots ∧ (State.rowCandidate s stack row).stash = s.stash ∧
    (State.rowCandidate s stack row).matJobs = s.matJobs ∧ (State.rowCandidate s stack row).vecJobs = s.vecJobs ∧
    (State.rowCandidate s stack row).fabric = s.fabric ∧ (State.rowCandidate s stack row).ports = s.ports ∧
    (State.rowCandidate s stack row).puts = s.puts ∧ (State.rowCandidate s stack row).tags = s.tags ∧
    (State.rowCandidate s stack row).mgr = s.mgr ∧ (State.rowCandidate s stack row).mac = s.mac ∧
    (State.rowCandidate s stack row).pcie = s.pcie ∧ (State.rowCandidate s stack row).sec = s.sec ∧
    (State.rowCandidate s stack row).cores = s.cores ∧ (State.rowCandidate s stack row).power = s.power ∧
    (State.rowCandidate s stack row).faults = s.faults ∧ (State.rowCandidate s stack row).glob = s.glob := by
  unfold State.rowCandidate
  try dsimp only
  (repeat' split) <;> first | (simp; done) | (simp (disch := (intros; (repeat' split) <;> first | simp | skip)); done)

@[simp] theorem hbmCorrected_frame (s : State) (stack row : Nat) :
    (hbmCorrected s stack row).pending = s.pending ∧ (hbmCorrected s stack row).draws = s.draws ∧
    (hbmCorrected s stack row).host = s.host ∧ (hbmCorrected s stack row).pkg = s.pkg ∧
    (hbmCorrected s stack row).clocks = s.clocks ∧ (hbmCorrected s stack row).engines = s.engines ∧
    (hbmCorrected s stack row).slabs = s.slabs ∧ (hbmCorrected s stack row).rings = s.rings ∧
    (hbmCorrected s stack row).stash = s.stash ∧ (hbmCorrected s stack row).matJobs = s.matJobs ∧
    (hbmCorrected s stack row).vecJobs = s.vecJobs ∧ (hbmCorrected s stack row).fabric = s.fabric ∧
    (hbmCorrected s stack row).ports = s.ports ∧ (hbmCorrected s stack row).puts = s.puts ∧
    (hbmCorrected s stack row).tags = s.tags ∧ (hbmCorrected s stack row).mgr = s.mgr ∧
    (hbmCorrected s stack row).mac = s.mac ∧ (hbmCorrected s stack row).sec = s.sec ∧
    (hbmCorrected s stack row).cores = s.cores ∧ (hbmCorrected s stack row).power = s.power ∧
    (hbmCorrected s stack row).glob = s.glob := by
  unfold hbmCorrected
  try dsimp only
  (repeat' split) <;> first | (simp; done) | (simp (disch := (intros; (repeat' split) <;> first | simp | skip)); done)

@[simp] theorem hbmUncorrectable_frame (s : State) (stack unit row : Nat) :
    (hbmUncorrectable s stack unit row).pending = s.pending ∧ (hbmUncorrectable s stack unit row).draws = s.draws ∧
    (hbmUncorrectable s stack unit row).host = s.host ∧ (hbmUncorrectable s stack unit row).pkg = s.pkg ∧
    (hbmUncorrectable s stack unit row).clocks = s.clocks ∧
    (hbmUncorrectable s stack unit row).engines = s.engines ∧ (hbmUncorrectable s stack unit row).slabs = s.slabs ∧
    (hbmUncorrectable s stack unit row).rings = s.rings ∧ (hbmUncorrectable s stack unit row).stash = s.stash ∧
    (hbmUncorrectable s stack unit row).matJobs = s.matJobs ∧
    (hbmUncorrectable s stack unit row).vecJobs = s.vecJobs ∧
    (hbmUncorrectable s stack unit row).fabric = s.fabric ∧ (hbmUncorrectable s stack unit row).ports = s.ports ∧
    (hbmUncorrectable s stack unit row).puts = s.puts ∧ (hbmUncorrectable s stack unit row).tags = s.tags ∧
    (hbmUncorrectable s stack unit row).mgr = s.mgr ∧ (hbmUncorrectable s stack unit row).mac = s.mac ∧
    (hbmUncorrectable s stack unit row).sec = s.sec ∧ (hbmUncorrectable s stack unit row).cores = s.cores ∧
    (hbmUncorrectable s stack unit row).power = s.power ∧ (hbmUncorrectable s stack unit row).glob = s.glob := by
  unfold hbmUncorrectable
  try dsimp only
  (repeat' split) <;> first | (simp; done) | (simp (disch := (intros; (repeat' split) <;> first | simp | skip)); done)

@[simp] theorem State.afterRepair_frame (s : State) (stack : Nat) :
    (State.afterRepair s stack).pending = s.pending ∧ (State.afterRepair s stack).draws = s.draws ∧
    (State.afterRepair s stack).out = s.out ∧ (State.afterRepair s stack).hbm = s.hbm ∧
    (State.afterRepair s stack).host = s.host ∧ (State.afterRepair s stack).pkg = s.pkg ∧
    (State.afterRepair s stack).flash = s.flash ∧ (State.afterRepair s stack).clocks = s.clocks ∧
    (State.afterRepair s stack).engines = s.engines ∧ (State.afterRepair s stack).slabs = s.slabs ∧
    (State.afterRepair s stack).rings = s.rings ∧ (State.afterRepair s stack).plots = s.plots ∧
    (State.afterRepair s stack).stash = s.stash ∧ (State.afterRepair s stack).matJobs = s.matJobs ∧
    (State.afterRepair s stack).vecJobs = s.vecJobs ∧ (State.afterRepair s stack).fabric = s.fabric ∧
    (State.afterRepair s stack).ports = s.ports ∧ (State.afterRepair s stack).puts = s.puts ∧
    (State.afterRepair s stack).tags = s.tags ∧ (State.afterRepair s stack).mgr = s.mgr ∧
    (State.afterRepair s stack).mac = s.mac ∧ (State.afterRepair s stack).pcie = s.pcie ∧
    (State.afterRepair s stack).sec = s.sec ∧ (State.afterRepair s stack).cores = s.cores ∧
    (State.afterRepair s stack).power = s.power ∧ (State.afterRepair s stack).faults = s.faults ∧
    (State.afterRepair s stack).glob = s.glob := by
  unfold State.afterRepair
  try dsimp only
  (repeat' split) <;> first | (simp; done) | (simp (disch := (intros; (repeat' split) <;> first | simp | skip)); done)

@[simp] theorem State.resumeTimers_frame (s : State) (held : Nat) :
    (State.resumeTimers s held).pending = s.pending ∧ (State.resumeTimers s held).draws = s.draws ∧
    (State.resumeTimers s held).out = s.out ∧ (State.resumeTimers s held).regs = s.regs ∧
    (State.resumeTimers s held).hbm = s.hbm ∧ (State.resumeTimers s held).host = s.host ∧
    (State.resumeTimers s held).pkg = s.pkg ∧ (State.resumeTimers s held).flash = s.flash ∧
    (State.resumeTimers s held).clocks = s.clocks ∧ (State.resumeTimers s held).engines = s.engines ∧
    (State.resumeTimers s held).slabs = s.slabs ∧ (State.resumeTimers s held).rings = s.rings ∧
    (State.resumeTimers s held).plots = s.plots ∧ (State.resumeTimers s held).stash = s.stash ∧
    (State.resumeTimers s held).matJobs = s.matJobs ∧ (State.resumeTimers s held).vecJobs = s.vecJobs ∧
    (State.resumeTimers s held).fabric = s.fabric ∧ (State.resumeTimers s held).ports = s.ports ∧
    (State.resumeTimers s held).puts = s.puts ∧ (State.resumeTimers s held).mgr = s.mgr ∧
    (State.resumeTimers s held).mac = s.mac ∧ (State.resumeTimers s held).pcie = s.pcie ∧
    (State.resumeTimers s held).sec = s.sec ∧ (State.resumeTimers s held).cores = s.cores ∧
    (State.resumeTimers s held).power = s.power ∧ (State.resumeTimers s held).faults = s.faults ∧
    (State.resumeTimers s held).maint = s.maint ∧ (State.resumeTimers s held).glob = s.glob := by
  unfold State.resumeTimers
  try dsimp only
  (repeat' split) <;> first | (simp; done) | (simp (disch := (intros; (repeat' split) <;> first | simp | skip)); done)

@[simp] theorem State.recordKept_frame (s : State) :
    (State.recordKept s).pending = s.pending ∧ (State.recordKept s).hbm = s.hbm ∧
    (State.recordKept s).host = s.host ∧ (State.recordKept s).pkg = s.pkg ∧
    (State.recordKept s).clocks = s.clocks ∧ (State.recordKept s).engines = s.engines ∧
    (State.recordKept s).slabs = s.slabs ∧ (State.recordKept s).rings = s.rings ∧
    (State.recordKept s).stash = s.stash ∧ (State.recordKept s).matJobs = s.matJobs ∧
    (State.recordKept s).vecJobs = s.vecJobs ∧ (State.recordKept s).ports = s.ports ∧
    (State.recordKept s).puts = s.puts ∧ (State.recordKept s).tags = s.tags ∧ (State.recordKept s).mgr = s.mgr ∧
    (State.recordKept s).mac = s.mac ∧ (State.recordKept s).sec = s.sec ∧ (State.recordKept s).cores = s.cores ∧
    (State.recordKept s).maint = s.maint ∧ (State.recordKept s).glob = s.glob := by
  unfold State.recordKept
  try dsimp only
  (repeat' split) <;> first | (simp; done) | (simp (disch := (intros; (repeat' split) <;> first | simp | skip)); done)

@[simp] theorem State.appendLife_frame (s : State) :
    (State.appendLife s).pending = s.pending ∧ (State.appendLife s).draws = s.draws ∧
    (State.appendLife s).out = s.out ∧ (State.appendLife s).regs = s.regs ∧ (State.appendLife s).hbm = s.hbm ∧
    (State.appendLife s).host = s.host ∧ (State.appendLife s).pkg = s.pkg ∧
    (State.appendLife s).clocks = s.clocks ∧ (State.appendLife s).engines = s.engines ∧
    (State.appendLife s).slabs = s.slabs ∧ (State.appendLife s).rings = s.rings ∧
    (State.appendLife s).plots = s.plots ∧ (State.appendLife s).stash = s.stash ∧
    (State.appendLife s).matJobs = s.matJobs ∧ (State.appendLife s).vecJobs = s.vecJobs ∧
    (State.appendLife s).fabric = s.fabric ∧ (State.appendLife s).ports = s.ports ∧
    (State.appendLife s).puts = s.puts ∧ (State.appendLife s).tags = s.tags ∧ (State.appendLife s).mgr = s.mgr ∧
    (State.appendLife s).mac = s.mac ∧ (State.appendLife s).pcie = s.pcie ∧ (State.appendLife s).sec = s.sec ∧
    (State.appendLife s).cores = s.cores ∧ (State.appendLife s).power = s.power ∧
    (State.appendLife s).faults = s.faults ∧ (State.appendLife s).maint = s.maint ∧
    (State.appendLife s).glob = s.glob := by
  unfold State.appendLife
  try dsimp only
  (repeat' split) <;> first | (simp; done) | (simp (disch := (intros; (repeat' split) <;> first | simp | skip)); done)

end Sys2Proof.Machine
end

