-- ==== Sys2Proof/Laws/FrameStepOps.lean ====
section
/-! SUPPORT. Frames of the operations of StepOps. -/

namespace Sys2Proof.Machine

@[simp] theorem State.storeWord_frame (s : State) (addr v : Nat) :
    (State.storeWord s addr v).pending = s.pending ∧ (State.storeWord s addr v).draws = s.draws ∧
    (State.storeWord s addr v).out = s.out ∧ (State.storeWord s addr v).hbm = s.hbm ∧
    (State.storeWord s addr v).host = s.host ∧ (State.storeWord s addr v).pkg = s.pkg ∧
    (State.storeWord s addr v).flash = s.flash ∧ (State.storeWord s addr v).clocks = s.clocks ∧
    (State.storeWord s addr v).engines = s.engines ∧ (State.storeWord s addr v).slabs = s.slabs ∧
    (State.storeWord s addr v).rings = s.rings ∧ (State.storeWord s addr v).plots = s.plots ∧
    (State.storeWord s addr v).stash = s.stash ∧ (State.storeWord s addr v).matJobs = s.matJobs ∧
    (State.storeWord s addr v).vecJobs = s.vecJobs ∧ (State.storeWord s addr v).fabric = s.fabric ∧
    (State.storeWord s addr v).ports = s.ports ∧ (State.storeWord s addr v).puts = s.puts ∧
    (State.storeWord s addr v).tags = s.tags ∧ (State.storeWord s addr v).mgr = s.mgr ∧
    (State.storeWord s addr v).mac = s.mac ∧ (State.storeWord s addr v).pcie = s.pcie ∧
    (State.storeWord s addr v).sec = s.sec ∧ (State.storeWord s addr v).cores = s.cores ∧
    (State.storeWord s addr v).power = s.power ∧ (State.storeWord s addr v).faults = s.faults ∧
    (State.storeWord s addr v).maint = s.maint ∧ (State.storeWord s addr v).glob = s.glob := by
  unfold State.storeWord
  try dsimp only
  (repeat' split) <;> first | (simp; done) | (simp (disch := (intros; (repeat' split) <;> first | simp | skip)); done)

@[simp] theorem State.applyLate_frame (s : State) (p : Nat) :
    (State.applyLate s p).pending = s.pending ∧ (State.applyLate s p).draws = s.draws ∧
    (State.applyLate s p).out = s.out ∧ (State.applyLate s p).hbm = s.hbm ∧ (State.applyLate s p).host = s.host ∧
    (State.applyLate s p).pkg = s.pkg ∧ (State.applyLate s p).flash = s.flash ∧
    (State.applyLate s p).clocks = s.clocks ∧ (State.applyLate s p).engines = s.engines ∧
    (State.applyLate s p).slabs = s.slabs ∧ (State.applyLate s p).rings = s.rings ∧
    (State.applyLate s p).plots = s.plots ∧ (State.applyLate s p).stash = s.stash ∧
    (State.applyLate s p).matJobs = s.matJobs ∧ (State.applyLate s p).vecJobs = s.vecJobs ∧
    (State.applyLate s p).fabric = s.fabric ∧ (State.applyLate s p).ports = s.ports ∧
    (State.applyLate s p).puts = s.puts ∧ (State.applyLate s p).tags = s.tags ∧ (State.applyLate s p).mgr = s.mgr ∧
    (State.applyLate s p).mac = s.mac ∧ (State.applyLate s p).pcie = s.pcie ∧ (State.applyLate s p).sec = s.sec ∧
    (State.applyLate s p).cores = s.cores ∧ (State.applyLate s p).power = s.power ∧
    (State.applyLate s p).faults = s.faults ∧ (State.applyLate s p).maint = s.maint ∧
    (State.applyLate s p).glob = s.glob := by
  unfold State.applyLate
  try dsimp only
  (repeat' split) <;> first | (simp; done) | (simp (disch := (intros; (repeat' split) <;> first | simp | skip)); done)

@[simp] theorem State.showStash_frame (s : State) (p : Nat) :
    (State.showStash s p).pending = s.pending ∧ (State.showStash s p).draws = s.draws ∧
    (State.showStash s p).out = s.out ∧ (State.showStash s p).hbm = s.hbm ∧ (State.showStash s p).host = s.host ∧
    (State.showStash s p).pkg = s.pkg ∧ (State.showStash s p).flash = s.flash ∧
    (State.showStash s p).clocks = s.clocks ∧ (State.showStash s p).engines = s.engines ∧
    (State.showStash s p).slabs = s.slabs ∧ (State.showStash s p).rings = s.rings ∧
    (State.showStash s p).stash = s.stash ∧ (State.showStash s p).matJobs = s.matJobs ∧
    (State.showStash s p).vecJobs = s.vecJobs ∧ (State.showStash s p).fabric = s.fabric ∧
    (State.showStash s p).ports = s.ports ∧ (State.showStash s p).puts = s.puts ∧
    (State.showStash s p).tags = s.tags ∧ (State.showStash s p).mgr = s.mgr ∧ (State.showStash s p).mac = s.mac ∧
    (State.showStash s p).pcie = s.pcie ∧ (State.showStash s p).sec = s.sec ∧
    (State.showStash s p).cores = s.cores ∧ (State.showStash s p).power = s.power ∧
    (State.showStash s p).faults = s.faults ∧ (State.showStash s p).maint = s.maint ∧
    (State.showStash s p).glob = s.glob := by
  unfold State.showStash
  try dsimp only
  (repeat' split) <;> first | (simp; done) | (simp (disch := (intros; (repeat' split) <;> first | simp | skip)); done)

@[simp] theorem State.takeStash_frame (s : State) (p : Nat) (e : StashEntry) :
    (State.takeStash s p e).pending = s.pending ∧ (State.takeStash s p e).draws = s.draws ∧
    (State.takeStash s p e).out = s.out ∧ (State.takeStash s p e).regs = s.regs ∧
    (State.takeStash s p e).hbm = s.hbm ∧ (State.takeStash s p e).host = s.host ∧
    (State.takeStash s p e).pkg = s.pkg ∧ (State.takeStash s p e).flash = s.flash ∧
    (State.takeStash s p e).clocks = s.clocks ∧ (State.takeStash s p e).engines = s.engines ∧
    (State.takeStash s p e).slabs = s.slabs ∧ (State.takeStash s p e).rings = s.rings ∧
    (State.takeStash s p e).stash = s.stash ∧ (State.takeStash s p e).matJobs = s.matJobs ∧
    (State.takeStash s p e).vecJobs = s.vecJobs ∧ (State.takeStash s p e).fabric = s.fabric ∧
    (State.takeStash s p e).ports = s.ports ∧ (State.takeStash s p e).puts = s.puts ∧
    (State.takeStash s p e).tags = s.tags ∧ (State.takeStash s p e).mgr = s.mgr ∧
    (State.takeStash s p e).mac = s.mac ∧ (State.takeStash s p e).pcie = s.pcie ∧
    (State.takeStash s p e).sec = s.sec ∧ (State.takeStash s p e).cores = s.cores ∧
    (State.takeStash s p e).power = s.power ∧ (State.takeStash s p e).faults = s.faults ∧
    (State.takeStash s p e).maint = s.maint ∧ (State.takeStash s p e).glob = s.glob := by
  unfold State.takeStash
  try dsimp only
  (repeat' split) <;> first | (simp; done) | (simp (disch := (intros; (repeat' split) <;> first | simp | skip)); done)

@[simp] theorem State.freeEntry_frame (s : State) (p : Nat) (e : StashEntry) :
    (State.freeEntry s p e).pending = s.pending ∧ (State.freeEntry s p e).draws = s.draws ∧
    (State.freeEntry s p e).out = s.out ∧ (State.freeEntry s p e).regs = s.regs ∧
    (State.freeEntry s p e).hbm = s.hbm ∧ (State.freeEntry s p e).host = s.host ∧
    (State.freeEntry s p e).pkg = s.pkg ∧ (State.freeEntry s p e).flash = s.flash ∧
    (State.freeEntry s p e).clocks = s.clocks ∧ (State.freeEntry s p e).engines = s.engines ∧
    (State.freeEntry s p e).slabs = s.slabs ∧ (State.freeEntry s p e).rings = s.rings ∧
    (State.freeEntry s p e).stash = s.stash ∧ (State.freeEntry s p e).matJobs = s.matJobs ∧
    (State.freeEntry s p e).vecJobs = s.vecJobs ∧ (State.freeEntry s p e).fabric = s.fabric ∧
    (State.freeEntry s p e).ports = s.ports ∧ (State.freeEntry s p e).puts = s.puts ∧
    (State.freeEntry s p e).tags = s.tags ∧ (State.freeEntry s p e).mgr = s.mgr ∧
    (State.freeEntry s p e).mac = s.mac ∧ (State.freeEntry s p e).pcie = s.pcie ∧
    (State.freeEntry s p e).sec = s.sec ∧ (State.freeEntry s p e).cores = s.cores ∧
    (State.freeEntry s p e).power = s.power ∧ (State.freeEntry s p e).faults = s.faults ∧
    (State.freeEntry s p e).maint = s.maint ∧ (State.freeEntry s p e).glob = s.glob := by
  unfold State.freeEntry
  try dsimp only
  (repeat' split) <;> first | (simp; done) | (simp (disch := (intros; (repeat' split) <;> first | simp | skip)); done)

@[simp] theorem State.setSlot_frame (s : State) (n : Nat) (l : List StashEntry) :
    (State.setSlot s n l).pending = s.pending ∧ (State.setSlot s n l).draws = s.draws ∧
    (State.setSlot s n l).out = s.out ∧ (State.setSlot s n l).regs = s.regs ∧ (State.setSlot s n l).hbm = s.hbm ∧
    (State.setSlot s n l).host = s.host ∧ (State.setSlot s n l).pkg = s.pkg ∧
    (State.setSlot s n l).flash = s.flash ∧ (State.setSlot s n l).clocks = s.clocks ∧
    (State.setSlot s n l).engines = s.engines ∧ (State.setSlot s n l).slabs = s.slabs ∧
    (State.setSlot s n l).rings = s.rings ∧ (State.setSlot s n l).plots = s.plots ∧
    (State.setSlot s n l).matJobs = s.matJobs ∧ (State.setSlot s n l).vecJobs = s.vecJobs ∧
    (State.setSlot s n l).fabric = s.fabric ∧ (State.setSlot s n l).ports = s.ports ∧
    (State.setSlot s n l).puts = s.puts ∧ (State.setSlot s n l).tags = s.tags ∧ (State.setSlot s n l).mgr = s.mgr ∧
    (State.setSlot s n l).mac = s.mac ∧ (State.setSlot s n l).pcie = s.pcie ∧ (State.setSlot s n l).sec = s.sec ∧
    (State.setSlot s n l).cores = s.cores ∧ (State.setSlot s n l).power = s.power ∧
    (State.setSlot s n l).faults = s.faults ∧ (State.setSlot s n l).maint = s.maint ∧
    (State.setSlot s n l).glob = s.glob := by
  unfold State.setSlot
  try dsimp only
  (repeat' split) <;> first | (simp; done) | (simp (disch := (intros; (repeat' split) <;> first | simp | skip)); done)

@[simp] theorem State.trimSlot_frame (s : State) (p n keep : Nat) :
    (State.trimSlot s p n keep).pending = s.pending ∧ (State.trimSlot s p n keep).draws = s.draws ∧
    (State.trimSlot s p n keep).out = s.out ∧ (State.trimSlot s p n keep).regs = s.regs ∧
    (State.trimSlot s p n keep).hbm = s.hbm ∧ (State.trimSlot s p n keep).host = s.host ∧
    (State.trimSlot s p n keep).pkg = s.pkg ∧ (State.trimSlot s p n keep).flash = s.flash ∧
    (State.trimSlot s p n keep).clocks = s.clocks ∧ (State.trimSlot s p n keep).engines = s.engines ∧
    (State.trimSlot s p n keep).slabs = s.slabs ∧ (State.trimSlot s p n keep).rings = s.rings ∧
    (State.trimSlot s p n keep).matJobs = s.matJobs ∧ (State.trimSlot s p n keep).vecJobs = s.vecJobs ∧
    (State.trimSlot s p n keep).fabric = s.fabric ∧ (State.trimSlot s p n keep).ports = s.ports ∧
    (State.trimSlot s p n keep).puts = s.puts ∧ (State.trimSlot s p n keep).tags = s.tags ∧
    (State.trimSlot s p n keep).mgr = s.mgr ∧ (State.trimSlot s p n keep).mac = s.mac ∧
    (State.trimSlot s p n keep).pcie = s.pcie ∧ (State.trimSlot s p n keep).sec = s.sec ∧
    (State.trimSlot s p n keep).cores = s.cores ∧ (State.trimSlot s p n keep).power = s.power ∧
    (State.trimSlot s p n keep).faults = s.faults ∧ (State.trimSlot s p n keep).maint = s.maint ∧
    (State.trimSlot s p n keep).glob = s.glob := by
  unfold State.trimSlot
  try dsimp only
  (repeat' split) <;> first | (simp; done) | (simp (disch := (intros; (repeat' split) <;> first | simp | skip)); done)

@[simp] theorem State.retireStash_frame (s : State) (p : Nat) (e : Entry) :
    (State.retireStash s p e).pending = s.pending ∧ (State.retireStash s p e).draws = s.draws ∧
    (State.retireStash s p e).out = s.out ∧ (State.retireStash s p e).hbm = s.hbm ∧
    (State.retireStash s p e).host = s.host ∧ (State.retireStash s p e).pkg = s.pkg ∧
    (State.retireStash s p e).flash = s.flash ∧ (State.retireStash s p e).clocks = s.clocks ∧
    (State.retireStash s p e).engines = s.engines ∧ (State.retireStash s p e).slabs = s.slabs ∧
    (State.retireStash s p e).rings = s.rings ∧ (State.retireStash s p e).matJobs = s.matJobs ∧
    (State.retireStash s p e).vecJobs = s.vecJobs ∧ (State.retireStash s p e).fabric = s.fabric ∧
    (State.retireStash s p e).ports = s.ports ∧ (State.retireStash s p e).puts = s.puts ∧
    (State.retireStash s p e).tags = s.tags ∧ (State.retireStash s p e).mgr = s.mgr ∧
    (State.retireStash s p e).mac = s.mac ∧ (State.retireStash s p e).pcie = s.pcie ∧
    (State.retireStash s p e).sec = s.sec ∧ (State.retireStash s p e).cores = s.cores ∧
    (State.retireStash s p e).power = s.power ∧ (State.retireStash s p e).faults = s.faults ∧
    (State.retireStash s p e).maint = s.maint ∧ (State.retireStash s p e).glob = s.glob := by
  unfold State.retireStash
  try dsimp only
  (repeat' split) <;> first | (simp; done) | (simp (disch := (intros; (repeat' split) <;> first | simp | skip)); done)

@[simp] theorem State.flagStep_frame (s : State) (p : Nat) (l : List Nat) :
    (State.flagStep s p l).pending = s.pending ∧ (State.flagStep s p l).draws = s.draws ∧
    (State.flagStep s p l).out = s.out ∧ (State.flagStep s p l).regs = s.regs ∧
    (State.flagStep s p l).hbm = s.hbm ∧ (State.flagStep s p l).host = s.host ∧
    (State.flagStep s p l).pkg = s.pkg ∧ (State.flagStep s p l).flash = s.flash ∧
    (State.flagStep s p l).clocks = s.clocks ∧ (State.flagStep s p l).engines = s.engines ∧
    (State.flagStep s p l).slabs = s.slabs ∧ (State.flagStep s p l).rings = s.rings ∧
    (State.flagStep s p l).stash = s.stash ∧ (State.flagStep s p l).matJobs = s.matJobs ∧
    (State.flagStep s p l).vecJobs = s.vecJobs ∧ (State.flagStep s p l).fabric = s.fabric ∧
    (State.flagStep s p l).ports = s.ports ∧ (State.flagStep s p l).puts = s.puts ∧
    (State.flagStep s p l).tags = s.tags ∧ (State.flagStep s p l).mgr = s.mgr ∧
    (State.flagStep s p l).mac = s.mac ∧ (State.flagStep s p l).pcie = s.pcie ∧
    (State.flagStep s p l).sec = s.sec ∧ (State.flagStep s p l).cores = s.cores ∧
    (State.flagStep s p l).power = s.power ∧ (State.flagStep s p l).faults = s.faults ∧
    (State.flagStep s p l).maint = s.maint ∧ (State.flagStep s p l).glob = s.glob := by
  unfold State.flagStep
  try dsimp only
  (repeat' split) <;> first | (simp; done) | (simp (disch := (intros; (repeat' split) <;> first | simp | skip)); done)

@[simp] theorem State.countMember_frame (s : State) (p r : Nat) (e : Entry) :
    (State.countMember s p r e).pending = s.pending ∧ (State.countMember s p r e).draws = s.draws ∧
    (State.countMember s p r e).out = s.out ∧ (State.countMember s p r e).regs = s.regs ∧
    (State.countMember s p r e).hbm = s.hbm ∧ (State.countMember s p r e).host = s.host ∧
    (State.countMember s p r e).pkg = s.pkg ∧ (State.countMember s p r e).flash = s.flash ∧
    (State.countMember s p r e).clocks = s.clocks ∧ (State.countMember s p r e).engines = s.engines ∧
    (State.countMember s p r e).slabs = s.slabs ∧ (State.countMember s p r e).rings = s.rings ∧
    (State.countMember s p r e).stash = s.stash ∧ (State.countMember s p r e).matJobs = s.matJobs ∧
    (State.countMember s p r e).vecJobs = s.vecJobs ∧ (State.countMember s p r e).fabric = s.fabric ∧
    (State.countMember s p r e).ports = s.ports ∧ (State.countMember s p r e).puts = s.puts ∧
    (State.countMember s p r e).tags = s.tags ∧ (State.countMember s p r e).mgr = s.mgr ∧
    (State.countMember s p r e).mac = s.mac ∧ (State.countMember s p r e).pcie = s.pcie ∧
    (State.countMember s p r e).sec = s.sec ∧ (State.countMember s p r e).cores = s.cores ∧
    (State.countMember s p r e).power = s.power ∧ (State.countMember s p r e).faults = s.faults ∧
    (State.countMember s p r e).maint = s.maint ∧ (State.countMember s p r e).glob = s.glob := by
  unfold State.countMember
  try dsimp only
  (repeat' split) <;> first | (simp; done) | (simp (disch := (intros; (repeat' split) <;> first | simp | skip)); done)

@[simp] theorem State.takeReport_frame (s : State) (lease : Nat) (b : Report) :
    (State.takeReport s lease b).pending = s.pending ∧ (State.takeReport s lease b).draws = s.draws ∧
    (State.takeReport s lease b).regs = s.regs ∧ (State.takeReport s lease b).hbm = s.hbm ∧
    (State.takeReport s lease b).host = s.host ∧ (State.takeReport s lease b).pkg = s.pkg ∧
    (State.takeReport s lease b).flash = s.flash ∧ (State.takeReport s lease b).clocks = s.clocks ∧
    (State.takeReport s lease b).engines = s.engines ∧ (State.takeReport s lease b).slabs = s.slabs ∧
    (State.takeReport s lease b).rings = s.rings ∧ (State.takeReport s lease b).stash = s.stash ∧
    (State.takeReport s lease b).matJobs = s.matJobs ∧ (State.takeReport s lease b).vecJobs = s.vecJobs ∧
    (State.takeReport s lease b).fabric = s.fabric ∧ (State.takeReport s lease b).puts = s.puts ∧
    (State.takeReport s lease b).tags = s.tags ∧ (State.takeReport s lease b).mac = s.mac ∧
    (State.takeReport s lease b).pcie = s.pcie ∧ (State.takeReport s lease b).sec = s.sec ∧
    (State.takeReport s lease b).cores = s.cores ∧ (State.takeReport s lease b).power = s.power ∧
    (State.takeReport s lease b).faults = s.faults ∧ (State.takeReport s lease b).maint = s.maint ∧
    (State.takeReport s lease b).glob = s.glob := by
  unfold State.takeReport
  try dsimp only
  (repeat' split) <;> first | (simp; done) | (simp (disch := (intros; (repeat' split) <;> first | simp | skip)); done)

@[simp] theorem State.sendReport_frame (s : State) (p : Nat) (failed : Bool) :
    (State.sendReport s p failed).pending = s.pending ∧ (State.sendReport s p failed).draws = s.draws ∧
    (State.sendReport s p failed).hbm = s.hbm ∧ (State.sendReport s p failed).pkg = s.pkg ∧
    (State.sendReport s p failed).flash = s.flash ∧ (State.sendReport s p failed).clocks = s.clocks ∧
    (State.sendReport s p failed).engines = s.engines ∧ (State.sendReport s p failed).slabs = s.slabs ∧
    (State.sendReport s p failed).stash = s.stash ∧ (State.sendReport s p failed).matJobs = s.matJobs ∧
    (State.sendReport s p failed).vecJobs = s.vecJobs ∧ (State.sendReport s p failed).puts = s.puts ∧
    (State.sendReport s p failed).mac = s.mac ∧ (State.sendReport s p failed).pcie = s.pcie ∧
    (State.sendReport s p failed).sec = s.sec ∧ (State.sendReport s p failed).cores = s.cores ∧
    (State.sendReport s p failed).faults = s.faults ∧ (State.sendReport s p failed).maint = s.maint ∧
    (State.sendReport s p failed).glob = s.glob := by
  unfold State.sendReport
  try dsimp only
  (repeat' split) <;> first | (simp; done) | (simp (disch := (intros; (repeat' split) <;> first | simp | skip)); done)

@[simp] theorem State.completeStep_frame (s : State) (p : Nat) (record : Bool) :
    (State.completeStep s p record).pending = s.pending ∧ (State.completeStep s p record).draws = s.draws ∧
    (State.completeStep s p record).hbm = s.hbm ∧ (State.completeStep s p record).pkg = s.pkg ∧
    (State.completeStep s p record).flash = s.flash ∧ (State.completeStep s p record).clocks = s.clocks ∧
    (State.completeStep s p record).engines = s.engines ∧ (State.completeStep s p record).slabs = s.slabs ∧
    (State.completeStep s p record).matJobs = s.matJobs ∧ (State.completeStep s p record).vecJobs = s.vecJobs ∧
    (State.completeStep s p record).puts = s.puts ∧ (State.completeStep s p record).mac = s.mac ∧
    (State.completeStep s p record).pcie = s.pcie ∧ (State.completeStep s p record).sec = s.sec ∧
    (State.completeStep s p record).cores = s.cores ∧ (State.completeStep s p record).faults = s.faults ∧
    (State.completeStep s p record).maint = s.maint ∧ (State.completeStep s p record).glob = s.glob := by
  unfold State.completeStep
  try dsimp only
  (repeat' split) <;> first | (simp; done) | (simp (disch := (intros; (repeat' split) <;> first | simp | skip)); done)

@[simp] theorem State.settleStep_frame (s : State) (p : Nat) :
    (State.settleStep s p).pending = s.pending ∧ (State.settleStep s p).draws = s.draws ∧
    (State.settleStep s p).hbm = s.hbm ∧ (State.settleStep s p).pkg = s.pkg ∧
    (State.settleStep s p).flash = s.flash ∧ (State.settleStep s p).clocks = s.clocks ∧
    (State.settleStep s p).engines = s.engines ∧ (State.settleStep s p).slabs = s.slabs ∧
    (State.settleStep s p).matJobs = s.matJobs ∧ (State.settleStep s p).vecJobs = s.vecJobs ∧
    (State.settleStep s p).puts = s.puts ∧ (State.settleStep s p).pcie = s.pcie ∧
    (State.settleStep s p).sec = s.sec ∧ (State.settleStep s p).cores = s.cores ∧
    (State.settleStep s p).faults = s.faults ∧ (State.settleStep s p).maint = s.maint ∧
    (State.settleStep s p).glob = s.glob := by
  unfold State.settleStep
  try dsimp only
  (repeat' split) <;> first | (simp; done) | (simp (disch := (intros; (repeat' split) <;> first | simp | skip)); done)

end Sys2Proof.Machine
end

