-- ==== Sys2Proof/Laws/FrameGladeOps.lean ====
section
/-! SUPPORT. Frames of the operations of GladeOps. -/

namespace Sys2Proof.Machine

@[simp] theorem State.countRefused_frame (s : State) (n : Nat) :
    (State.countRefused s n).pending = s.pending ∧ (State.countRefused s n).draws = s.draws ∧
    (State.countRefused s n).out = s.out ∧ (State.countRefused s n).hbm = s.hbm ∧
    (State.countRefused s n).host = s.host ∧ (State.countRefused s n).pkg = s.pkg ∧
    (State.countRefused s n).flash = s.flash ∧ (State.countRefused s n).clocks = s.clocks ∧
    (State.countRefused s n).engines = s.engines ∧ (State.countRefused s n).slabs = s.slabs ∧
    (State.countRefused s n).rings = s.rings ∧ (State.countRefused s n).plots = s.plots ∧
    (State.countRefused s n).stash = s.stash ∧ (State.countRefused s n).matJobs = s.matJobs ∧
    (State.countRefused s n).vecJobs = s.vecJobs ∧ (State.countRefused s n).fabric = s.fabric ∧
    (State.countRefused s n).ports = s.ports ∧ (State.countRefused s n).puts = s.puts ∧
    (State.countRefused s n).tags = s.tags ∧ (State.countRefused s n).mgr = s.mgr ∧
    (State.countRefused s n).mac = s.mac ∧ (State.countRefused s n).pcie = s.pcie ∧
    (State.countRefused s n).sec = s.sec ∧ (State.countRefused s n).cores = s.cores ∧
    (State.countRefused s n).power = s.power ∧ (State.countRefused s n).faults = s.faults ∧
    (State.countRefused s n).maint = s.maint ∧ (State.countRefused s n).glob = s.glob := by
  unfold State.countRefused
  try dsimp only
  (repeat' split) <;> first | (simp; done) | (simp (disch := (intros; (repeat' split) <;> first | simp | skip)); done)

@[simp] theorem State.flipSlab_frame (s : State) (n : Nat) (owner : BitVec 2) (node : Nat) :
    (State.flipSlab s n owner node).pending = s.pending ∧ (State.flipSlab s n owner node).draws = s.draws ∧
    (State.flipSlab s n owner node).out = s.out ∧ (State.flipSlab s n owner node).regs = s.regs ∧
    (State.flipSlab s n owner node).hbm = s.hbm ∧ (State.flipSlab s n owner node).host = s.host ∧
    (State.flipSlab s n owner node).pkg = s.pkg ∧ (State.flipSlab s n owner node).flash = s.flash ∧
    (State.flipSlab s n owner node).clocks = s.clocks ∧ (State.flipSlab s n owner node).engines = s.engines ∧
    (State.flipSlab s n owner node).rings = s.rings ∧ (State.flipSlab s n owner node).plots = s.plots ∧
    (State.flipSlab s n owner node).stash = s.stash ∧ (State.flipSlab s n owner node).matJobs = s.matJobs ∧
    (State.flipSlab s n owner node).vecJobs = s.vecJobs ∧ (State.flipSlab s n owner node).fabric = s.fabric ∧
    (State.flipSlab s n owner node).ports = s.ports ∧ (State.flipSlab s n owner node).puts = s.puts ∧
    (State.flipSlab s n owner node).tags = s.tags ∧ (State.flipSlab s n owner node).mgr = s.mgr ∧
    (State.flipSlab s n owner node).mac = s.mac ∧ (State.flipSlab s n owner node).pcie = s.pcie ∧
    (State.flipSlab s n owner node).sec = s.sec ∧ (State.flipSlab s n owner node).cores = s.cores ∧
    (State.flipSlab s n owner node).power = s.power ∧ (State.flipSlab s n owner node).faults = s.faults ∧
    (State.flipSlab s n owner node).maint = s.maint ∧ (State.flipSlab s n owner node).glob = s.glob := by
  unfold State.flipSlab
  try dsimp only
  (repeat' split) <;> first | (simp; done) | (simp (disch := (intros; (repeat' split) <;> first | simp | skip)); done)

@[simp] theorem State.writeGlade_frame (s : State) (a : Nat) (b : List Byte) :
    (State.writeGlade s a b).pending = s.pending ∧ (State.writeGlade s a b).draws = s.draws ∧
    (State.writeGlade s a b).out = s.out ∧ (State.writeGlade s a b).regs = s.regs ∧
    (State.writeGlade s a b).host = s.host ∧ (State.writeGlade s a b).pkg = s.pkg ∧
    (State.writeGlade s a b).flash = s.flash ∧ (State.writeGlade s a b).clocks = s.clocks ∧
    (State.writeGlade s a b).engines = s.engines ∧ (State.writeGlade s a b).slabs = s.slabs ∧
    (State.writeGlade s a b).rings = s.rings ∧ (State.writeGlade s a b).plots = s.plots ∧
    (State.writeGlade s a b).stash = s.stash ∧ (State.writeGlade s a b).matJobs = s.matJobs ∧
    (State.writeGlade s a b).vecJobs = s.vecJobs ∧ (State.writeGlade s a b).fabric = s.fabric ∧
    (State.writeGlade s a b).ports = s.ports ∧ (State.writeGlade s a b).puts = s.puts ∧
    (State.writeGlade s a b).tags = s.tags ∧ (State.writeGlade s a b).mgr = s.mgr ∧
    (State.writeGlade s a b).mac = s.mac ∧ (State.writeGlade s a b).pcie = s.pcie ∧
    (State.writeGlade s a b).sec = s.sec ∧ (State.writeGlade s a b).cores = s.cores ∧
    (State.writeGlade s a b).power = s.power ∧ (State.writeGlade s a b).faults = s.faults ∧
    (State.writeGlade s a b).maint = s.maint ∧ (State.writeGlade s a b).glob = s.glob := by
  unfold State.writeGlade
  try dsimp only
  (repeat' split) <;> first | (simp; done) | (simp (disch := (intros; (repeat' split) <;> first | simp | skip)); done)

end Sys2Proof.Machine
end

