-- ==== Sys2Proof/Laws/FrameMatrix.lean ====
section
/-! SUPPORT. Frames of the operations of Matrix. -/

namespace Sys2Proof.Machine

@[simp] theorem State.modJob_frame (s : State) (r i : Nat) (f : MatJob → MatJob) :
    (State.modJob s r i f).pending = s.pending ∧ (State.modJob s r i f).draws = s.draws ∧
    (State.modJob s r i f).out = s.out ∧ (State.modJob s r i f).regs = s.regs ∧
    (State.modJob s r i f).hbm = s.hbm ∧ (State.modJob s r i f).host = s.host ∧
    (State.modJob s r i f).pkg = s.pkg ∧ (State.modJob s r i f).flash = s.flash ∧
    (State.modJob s r i f).clocks = s.clocks ∧ (State.modJob s r i f).engines = s.engines ∧
    (State.modJob s r i f).slabs = s.slabs ∧ (State.modJob s r i f).rings = s.rings ∧
    (State.modJob s r i f).plots = s.plots ∧ (State.modJob s r i f).stash = s.stash ∧
    (State.modJob s r i f).vecJobs = s.vecJobs ∧ (State.modJob s r i f).fabric = s.fabric ∧
    (State.modJob s r i f).ports = s.ports ∧ (State.modJob s r i f).puts = s.puts ∧
    (State.modJob s r i f).tags = s.tags ∧ (State.modJob s r i f).mgr = s.mgr ∧
    (State.modJob s r i f).mac = s.mac ∧ (State.modJob s r i f).pcie = s.pcie ∧
    (State.modJob s r i f).sec = s.sec ∧ (State.modJob s r i f).cores = s.cores ∧
    (State.modJob s r i f).power = s.power ∧ (State.modJob s r i f).faults = s.faults ∧
    (State.modJob s r i f).maint = s.maint ∧ (State.modJob s r i f).glob = s.glob := by
  unfold State.modJob
  try dsimp only
  (repeat' split) <;> first | (simp; done) | (simp (disch := (intros; (repeat' split) <;> first | simp | skip)); done)

@[simp] theorem State.modTile_frame (s : State) (r i k : Nat) (f : Tile → Tile) :
    (State.modTile s r i k f).pending = s.pending ∧ (State.modTile s r i k f).draws = s.draws ∧
    (State.modTile s r i k f).out = s.out ∧ (State.modTile s r i k f).regs = s.regs ∧
    (State.modTile s r i k f).hbm = s.hbm ∧ (State.modTile s r i k f).host = s.host ∧
    (State.modTile s r i k f).pkg = s.pkg ∧ (State.modTile s r i k f).flash = s.flash ∧
    (State.modTile s r i k f).clocks = s.clocks ∧ (State.modTile s r i k f).engines = s.engines ∧
    (State.modTile s r i k f).slabs = s.slabs ∧ (State.modTile s r i k f).rings = s.rings ∧
    (State.modTile s r i k f).plots = s.plots ∧ (State.modTile s r i k f).stash = s.stash ∧
    (State.modTile s r i k f).vecJobs = s.vecJobs ∧ (State.modTile s r i k f).fabric = s.fabric ∧
    (State.modTile s r i k f).ports = s.ports ∧ (State.modTile s r i k f).puts = s.puts ∧
    (State.modTile s r i k f).tags = s.tags ∧ (State.modTile s r i k f).mgr = s.mgr ∧
    (State.modTile s r i k f).mac = s.mac ∧ (State.modTile s r i k f).pcie = s.pcie ∧
    (State.modTile s r i k f).sec = s.sec ∧ (State.modTile s r i k f).cores = s.cores ∧
    (State.modTile s r i k f).power = s.power ∧ (State.modTile s r i k f).faults = s.faults ∧
    (State.modTile s r i k f).maint = s.maint ∧ (State.modTile s r i k f).glob = s.glob := by
  unfold State.modTile
  try dsimp only
  (repeat' split) <;> first | (simp; done) | (simp (disch := (intros; (repeat' split) <;> first | simp | skip)); done)

@[simp] theorem State.modArray_frame (s : State) (a : Nat) (f : Engine → Engine) :
    (State.modArray s a f).pending = s.pending ∧ (State.modArray s a f).draws = s.draws ∧
    (State.modArray s a f).out = s.out ∧ (State.modArray s a f).regs = s.regs ∧
    (State.modArray s a f).hbm = s.hbm ∧ (State.modArray s a f).host = s.host ∧
    (State.modArray s a f).pkg = s.pkg ∧ (State.modArray s a f).flash = s.flash ∧
    (State.modArray s a f).clocks = s.clocks ∧ (State.modArray s a f).slabs = s.slabs ∧
    (State.modArray s a f).rings = s.rings ∧ (State.modArray s a f).plots = s.plots ∧
    (State.modArray s a f).stash = s.stash ∧ (State.modArray s a f).matJobs = s.matJobs ∧
    (State.modArray s a f).vecJobs = s.vecJobs ∧ (State.modArray s a f).fabric = s.fabric ∧
    (State.modArray s a f).ports = s.ports ∧ (State.modArray s a f).puts = s.puts ∧
    (State.modArray s a f).tags = s.tags ∧ (State.modArray s a f).mgr = s.mgr ∧
    (State.modArray s a f).mac = s.mac ∧ (State.modArray s a f).pcie = s.pcie ∧
    (State.modArray s a f).sec = s.sec ∧ (State.modArray s a f).cores = s.cores ∧
    (State.modArray s a f).power = s.power ∧ (State.modArray s a f).faults = s.faults ∧
    (State.modArray s a f).maint = s.maint ∧ (State.modArray s a f).glob = s.glob := by
  unfold State.modArray
  try dsimp only
  (repeat' split) <;> first | (simp; done) | (simp (disch := (intros; (repeat' split) <;> first | simp | skip)); done)

@[simp] theorem State.markRecord_frame (s : State) (p : Nat) (member : Bool) (h : Nat) :
    (State.markRecord s p member h).pending = s.pending ∧ (State.markRecord s p member h).draws = s.draws ∧
    (State.markRecord s p member h).out = s.out ∧ (State.markRecord s p member h).regs = s.regs ∧
    (State.markRecord s p member h).hbm = s.hbm ∧ (State.markRecord s p member h).host = s.host ∧
    (State.markRecord s p member h).pkg = s.pkg ∧ (State.markRecord s p member h).flash = s.flash ∧
    (State.markRecord s p member h).clocks = s.clocks ∧ (State.markRecord s p member h).engines = s.engines ∧
    (State.markRecord s p member h).slabs = s.slabs ∧ (State.markRecord s p member h).rings = s.rings ∧
    (State.markRecord s p member h).stash = s.stash ∧ (State.markRecord s p member h).matJobs = s.matJobs ∧
    (State.markRecord s p member h).vecJobs = s.vecJobs ∧ (State.markRecord s p member h).fabric = s.fabric ∧
    (State.markRecord s p member h).ports = s.ports ∧ (State.markRecord s p member h).puts = s.puts ∧
    (State.markRecord s p member h).tags = s.tags ∧ (State.markRecord s p member h).mgr = s.mgr ∧
    (State.markRecord s p member h).mac = s.mac ∧ (State.markRecord s p member h).pcie = s.pcie ∧
    (State.markRecord s p member h).sec = s.sec ∧ (State.markRecord s p member h).cores = s.cores ∧
    (State.markRecord s p member h).power = s.power ∧ (State.markRecord s p member h).faults = s.faults ∧
    (State.markRecord s p member h).maint = s.maint ∧ (State.markRecord s p member h).glob = s.glob := by
  unfold State.markRecord
  try dsimp only
  (repeat' split) <;> first | (simp; done) | (simp (disch := (intros; (repeat' split) <;> first | simp | skip)); done)

@[simp] theorem State.closeRecords_frame (s : State) (r i : Nat) :
    (State.closeRecords s r i).pending = s.pending ∧ (State.closeRecords s r i).draws = s.draws ∧
    (State.closeRecords s r i).out = s.out ∧ (State.closeRecords s r i).regs = s.regs ∧
    (State.closeRecords s r i).hbm = s.hbm ∧ (State.closeRecords s r i).host = s.host ∧
    (State.closeRecords s r i).pkg = s.pkg ∧ (State.closeRecords s r i).flash = s.flash ∧
    (State.closeRecords s r i).clocks = s.clocks ∧ (State.closeRecords s r i).engines = s.engines ∧
    (State.closeRecords s r i).slabs = s.slabs ∧ (State.closeRecords s r i).rings = s.rings ∧
    (State.closeRecords s r i).stash = s.stash ∧ (State.closeRecords s r i).matJobs = s.matJobs ∧
    (State.closeRecords s r i).vecJobs = s.vecJobs ∧ (State.closeRecords s r i).fabric = s.fabric ∧
    (State.closeRecords s r i).ports = s.ports ∧ (State.closeRecords s r i).puts = s.puts ∧
    (State.closeRecords s r i).tags = s.tags ∧ (State.closeRecords s r i).mgr = s.mgr ∧
    (State.closeRecords s r i).mac = s.mac ∧ (State.closeRecords s r i).pcie = s.pcie ∧
    (State.closeRecords s r i).sec = s.sec ∧ (State.closeRecords s r i).cores = s.cores ∧
    (State.closeRecords s r i).power = s.power ∧ (State.closeRecords s r i).faults = s.faults ∧
    (State.closeRecords s r i).maint = s.maint ∧ (State.closeRecords s r i).glob = s.glob := by
  unfold State.closeRecords
  try dsimp only
  (repeat' split) <;> first | (simp; done) | (simp (disch := (intros; (repeat' split) <;> first | simp | skip)); done)

@[simp] theorem State.dropJob_frame (s : State) (r i : Nat) :
    (State.dropJob s r i).pending = s.pending ∧ (State.dropJob s r i).draws = s.draws ∧
    (State.dropJob s r i).out = s.out ∧ (State.dropJob s r i).regs = s.regs ∧ (State.dropJob s r i).hbm = s.hbm ∧
    (State.dropJob s r i).host = s.host ∧ (State.dropJob s r i).pkg = s.pkg ∧
    (State.dropJob s r i).flash = s.flash ∧ (State.dropJob s r i).clocks = s.clocks ∧
    (State.dropJob s r i).slabs = s.slabs ∧ (State.dropJob s r i).rings = s.rings ∧
    (State.dropJob s r i).stash = s.stash ∧ (State.dropJob s r i).vecJobs = s.vecJobs ∧
    (State.dropJob s r i).fabric = s.fabric ∧ (State.dropJob s r i).ports = s.ports ∧
    (State.dropJob s r i).puts = s.puts ∧ (State.dropJob s r i).tags = s.tags ∧ (State.dropJob s r i).mgr = s.mgr ∧
    (State.dropJob s r i).mac = s.mac ∧ (State.dropJob s r i).pcie = s.pcie ∧ (State.dropJob s r i).sec = s.sec ∧
    (State.dropJob s r i).cores = s.cores ∧ (State.dropJob s r i).power = s.power ∧
    (State.dropJob s r i).faults = s.faults ∧ (State.dropJob s r i).maint = s.maint ∧
    (State.dropJob s r i).glob = s.glob := by
  unfold State.dropJob
  try dsimp only
  (repeat' split) <;> first | (simp; done) | (simp (disch := (intros; (repeat' split) <;> first | simp | skip)); done)

@[simp] theorem State.failJob_frame (s : State) (r i : Nat) (f : Fail) :
    (State.failJob s r i f).pending = s.pending ∧ (State.failJob s r i f).draws = s.draws ∧
    (State.failJob s r i f).host = s.host ∧ (State.failJob s r i f).pkg = s.pkg ∧
    (State.failJob s r i f).clocks = s.clocks ∧ (State.failJob s r i f).slabs = s.slabs ∧
    (State.failJob s r i f).stash = s.stash ∧ (State.failJob s r i f).vecJobs = s.vecJobs ∧
    (State.failJob s r i f).fabric = s.fabric ∧ (State.failJob s r i f).ports = s.ports ∧
    (State.failJob s r i f).puts = s.puts ∧ (State.failJob s r i f).tags = s.tags ∧
    (State.failJob s r i f).mgr = s.mgr ∧ (State.failJob s r i f).mac = s.mac ∧
    (State.failJob s r i f).sec = s.sec ∧ (State.failJob s r i f).cores = s.cores ∧
    (State.failJob s r i f).power = s.power ∧ (State.failJob s r i f).maint = s.maint ∧
    (State.failJob s r i f).glob = s.glob := by
  unfold State.failJob
  try dsimp only
  (repeat' split) <;> first | (simp; done) | (simp (disch := (intros; (repeat' split) <;> first | simp | skip)); done)

@[simp] theorem State.rebaseOperand_frame (s : State) (p h : Nat) :
    (State.rebaseOperand s p h).pending = s.pending ∧ (State.rebaseOperand s p h).draws = s.draws ∧
    (State.rebaseOperand s p h).out = s.out ∧ (State.rebaseOperand s p h).regs = s.regs ∧
    (State.rebaseOperand s p h).hbm = s.hbm ∧ (State.rebaseOperand s p h).host = s.host ∧
    (State.rebaseOperand s p h).pkg = s.pkg ∧ (State.rebaseOperand s p h).flash = s.flash ∧
    (State.rebaseOperand s p h).clocks = s.clocks ∧ (State.rebaseOperand s p h).engines = s.engines ∧
    (State.rebaseOperand s p h).slabs = s.slabs ∧ (State.rebaseOperand s p h).rings = s.rings ∧
    (State.rebaseOperand s p h).stash = s.stash ∧ (State.rebaseOperand s p h).matJobs = s.matJobs ∧
    (State.rebaseOperand s p h).vecJobs = s.vecJobs ∧ (State.rebaseOperand s p h).fabric = s.fabric ∧
    (State.rebaseOperand s p h).ports = s.ports ∧ (State.rebaseOperand s p h).puts = s.puts ∧
    (State.rebaseOperand s p h).tags = s.tags ∧ (State.rebaseOperand s p h).mgr = s.mgr ∧
    (State.rebaseOperand s p h).mac = s.mac ∧ (State.rebaseOperand s p h).pcie = s.pcie ∧
    (State.rebaseOperand s p h).sec = s.sec ∧ (State.rebaseOperand s p h).cores = s.cores ∧
    (State.rebaseOperand s p h).power = s.power ∧ (State.rebaseOperand s p h).faults = s.faults ∧
    (State.rebaseOperand s p h).maint = s.maint ∧ (State.rebaseOperand s p h).glob = s.glob := by
  unfold State.rebaseOperand
  try dsimp only
  (repeat' split) <;> first | (simp; done) | (simp (disch := (intros; (repeat' split) <;> first | simp | skip)); done)

@[simp] theorem State.rebaseFor_frame (s : State) (p r i : Nat) (e : Entry) (c : Option Nat × Option Nat) :
    (State.rebaseFor s p r i e c).pending = s.pending ∧ (State.rebaseFor s p r i e c).draws = s.draws ∧
    (State.rebaseFor s p r i e c).out = s.out ∧ (State.rebaseFor s p r i e c).regs = s.regs ∧
    (State.rebaseFor s p r i e c).hbm = s.hbm ∧ (State.rebaseFor s p r i e c).host = s.host ∧
    (State.rebaseFor s p r i e c).pkg = s.pkg ∧ (State.rebaseFor s p r i e c).flash = s.flash ∧
    (State.rebaseFor s p r i e c).clocks = s.clocks ∧ (State.rebaseFor s p r i e c).engines = s.engines ∧
    (State.rebaseFor s p r i e c).slabs = s.slabs ∧ (State.rebaseFor s p r i e c).rings = s.rings ∧
    (State.rebaseFor s p r i e c).stash = s.stash ∧ (State.rebaseFor s p r i e c).vecJobs = s.vecJobs ∧
    (State.rebaseFor s p r i e c).fabric = s.fabric ∧ (State.rebaseFor s p r i e c).ports = s.ports ∧
    (State.rebaseFor s p r i e c).puts = s.puts ∧ (State.rebaseFor s p r i e c).tags = s.tags ∧
    (State.rebaseFor s p r i e c).mgr = s.mgr ∧ (State.rebaseFor s p r i e c).mac = s.mac ∧
    (State.rebaseFor s p r i e c).pcie = s.pcie ∧ (State.rebaseFor s p r i e c).sec = s.sec ∧
    (State.rebaseFor s p r i e c).cores = s.cores ∧ (State.rebaseFor s p r i e c).power = s.power ∧
    (State.rebaseFor s p r i e c).faults = s.faults ∧ (State.rebaseFor s p r i e c).maint = s.maint ∧
    (State.rebaseFor s p r i e c).glob = s.glob := by
  unfold State.rebaseFor
  try dsimp only
  (repeat' split) <;> first | (simp; done) | (simp (disch := (intros; (repeat' split) <;> first | simp | skip)); done)

@[simp] theorem State.beginRun_frame (s : State) (a r i k : Nat) (pos : Nat) (last : Bool) :
    (State.beginRun s a r i k pos last).pending = s.pending ∧ (State.beginRun s a r i k pos last).draws = s.draws ∧
    (State.beginRun s a r i k pos last).out = s.out ∧ (State.beginRun s a r i k pos last).regs = s.regs ∧
    (State.beginRun s a r i k pos last).hbm = s.hbm ∧ (State.beginRun s a r i k pos last).host = s.host ∧
    (State.beginRun s a r i k pos last).pkg = s.pkg ∧ (State.beginRun s a r i k pos last).flash = s.flash ∧
    (State.beginRun s a r i k pos last).clocks = s.clocks ∧ (State.beginRun s a r i k pos last).slabs = s.slabs ∧
    (State.beginRun s a r i k pos last).rings = s.rings ∧ (State.beginRun s a r i k pos last).plots = s.plots ∧
    (State.beginRun s a r i k pos last).stash = s.stash ∧ (State.beginRun s a r i k pos last).vecJobs = s.vecJobs ∧
    (State.beginRun s a r i k pos last).fabric = s.fabric ∧ (State.beginRun s a r i k pos last).ports = s.ports ∧
    (State.beginRun s a r i k pos last).puts = s.puts ∧ (State.beginRun s a r i k pos last).tags = s.tags ∧
    (State.beginRun s a r i k pos last).mgr = s.mgr ∧ (State.beginRun s a r i k pos last).mac = s.mac ∧
    (State.beginRun s a r i k pos last).pcie = s.pcie ∧ (State.beginRun s a r i k pos last).sec = s.sec ∧
    (State.beginRun s a r i k pos last).cores = s.cores ∧ (State.beginRun s a r i k pos last).power = s.power ∧
    (State.beginRun s a r i k pos last).faults = s.faults ∧ (State.beginRun s a r i k pos last).maint = s.maint ∧
    (State.beginRun s a r i k pos last).glob = s.glob := by
  unfold State.beginRun
  try dsimp only
  (repeat' split) <;> first | (simp; done) | (simp (disch := (intros; (repeat' split) <;> first | simp | skip)); done)

@[simp] theorem State.startTile_frame (s : State) (p a r i k : Nat) (e : Entry) (j : MatJob) (t : Tile) :
    (State.startTile s p a r i k e j t).pending = s.pending ∧ (State.startTile s p a r i k e j t).draws = s.draws ∧
    (State.startTile s p a r i k e j t).out = s.out ∧ (State.startTile s p a r i k e j t).hbm = s.hbm ∧
    (State.startTile s p a r i k e j t).host = s.host ∧ (State.startTile s p a r i k e j t).pkg = s.pkg ∧
    (State.startTile s p a r i k e j t).flash = s.flash ∧ (State.startTile s p a r i k e j t).clocks = s.clocks ∧
    (State.startTile s p a r i k e j t).slabs = s.slabs ∧ (State.startTile s p a r i k e j t).rings = s.rings ∧
    (State.startTile s p a r i k e j t).stash = s.stash ∧ (State.startTile s p a r i k e j t).vecJobs = s.vecJobs ∧
    (State.startTile s p a r i k e j t).fabric = s.fabric ∧ (State.startTile s p a r i k e j t).ports = s.ports ∧
    (State.startTile s p a r i k e j t).puts = s.puts ∧ (State.startTile s p a r i k e j t).tags = s.tags ∧
    (State.startTile s p a r i k e j t).mgr = s.mgr ∧ (State.startTile s p a r i k e j t).mac = s.mac ∧
    (State.startTile s p a r i k e j t).pcie = s.pcie ∧ (State.startTile s p a r i k e j t).sec = s.sec ∧
    (State.startTile s p a r i k e j t).cores = s.cores ∧ (State.startTile s p a r i k e j t).power = s.power ∧
    (State.startTile s p a r i k e j t).faults = s.faults ∧ (State.startTile s p a r i k e j t).maint = s.maint ∧
    (State.startTile s p a r i k e j t).glob = s.glob := by
  unfold State.startTile
  try dsimp only
  (repeat' split) <;> first | (simp; done) | (simp (disch := (intros; (repeat' split) <;> first | simp | skip)); done)

@[simp] theorem State.countRepeat_frame (s : State) (p a r i : Nat) (member refused : Bool) :
    (State.countRepeat s p a r i member refused).pending = s.pending ∧
    (State.countRepeat s p a r i member refused).draws = s.draws ∧
    (State.countRepeat s p a r i member refused).out = s.out ∧
    (State.countRepeat s p a r i member refused).hbm = s.hbm ∧
    (State.countRepeat s p a r i member refused).host = s.host ∧
    (State.countRepeat s p a r i member refused).pkg = s.pkg ∧
    (State.countRepeat s p a r i member refused).flash = s.flash ∧
    (State.countRepeat s p a r i member refused).clocks = s.clocks ∧
    (State.countRepeat s p a r i member refused).engines = s.engines ∧
    (State.countRepeat s p a r i member refused).slabs = s.slabs ∧
    (State.countRepeat s p a r i member refused).rings = s.rings ∧
    (State.countRepeat s p a r i member refused).stash = s.stash ∧
    (State.countRepeat s p a r i member refused).vecJobs = s.vecJobs ∧
    (State.countRepeat s p a r i member refused).fabric = s.fabric ∧
    (State.countRepeat s p a r i member refused).ports = s.ports ∧
    (State.countRepeat s p a r i member refused).puts = s.puts ∧
    (State.countRepeat s p a r i member refused).tags = s.tags ∧
    (State.countRepeat s p a r i member refused).mgr = s.mgr ∧
    (State.countRepeat s p a r i member refused).mac = s.mac ∧
    (State.countRepeat s p a r i member refused).pcie = s.pcie ∧
    (State.countRepeat s p a r i member refused).sec = s.sec ∧
    (State.countRepeat s p a r i member refused).cores = s.cores ∧
    (State.countRepeat s p a r i member refused).power = s.power ∧
    (State.countRepeat s p a r i member refused).faults = s.faults ∧
    (State.countRepeat s p a r i member refused).maint = s.maint ∧
    (State.countRepeat s p a r i member refused).glob = s.glob := by
  unfold State.countRepeat
  try dsimp only
  (repeat' split) <;> first | (simp; done) | (simp (disch := (intros; (repeat' split) <;> first | simp | skip)); done)

@[simp] theorem State.raiseAmax_frame (s : State) (p : Nat) (e : Entry) (c : Option Nat × Option Nat) (x : OpCount × OpCount) :
    (State.raiseAmax s p e c x).pending = s.pending ∧ (State.raiseAmax s p e c x).draws = s.draws ∧
    (State.raiseAmax s p e c x).out = s.out ∧ (State.raiseAmax s p e c x).regs = s.regs ∧
    (State.raiseAmax s p e c x).hbm = s.hbm ∧ (State.raiseAmax s p e c x).host = s.host ∧
    (State.raiseAmax s p e c x).pkg = s.pkg ∧ (State.raiseAmax s p e c x).flash = s.flash ∧
    (State.raiseAmax s p e c x).clocks = s.clocks ∧ (State.raiseAmax s p e c x).engines = s.engines ∧
    (State.raiseAmax s p e c x).slabs = s.slabs ∧ (State.raiseAmax s p e c x).rings = s.rings ∧
    (State.raiseAmax s p e c x).stash = s.stash ∧ (State.raiseAmax s p e c x).matJobs = s.matJobs ∧
    (State.raiseAmax s p e c x).vecJobs = s.vecJobs ∧ (State.raiseAmax s p e c x).fabric = s.fabric ∧
    (State.raiseAmax s p e c x).ports = s.ports ∧ (State.raiseAmax s p e c x).puts = s.puts ∧
    (State.raiseAmax s p e c x).tags = s.tags ∧ (State.raiseAmax s p e c x).mgr = s.mgr ∧
    (State.raiseAmax s p e c x).mac = s.mac ∧ (State.raiseAmax s p e c x).pcie = s.pcie ∧
    (State.raiseAmax s p e c x).sec = s.sec ∧ (State.raiseAmax s p e c x).cores = s.cores ∧
    (State.raiseAmax s p e c x).power = s.power ∧ (State.raiseAmax s p e c x).faults = s.faults ∧
    (State.raiseAmax s p e c x).maint = s.maint ∧ (State.raiseAmax s p e c x).glob = s.glob := by
  unfold State.raiseAmax
  try dsimp only
  (repeat' split) <;> first | (simp; done) | (simp (disch := (intros; (repeat' split) <;> first | simp | skip)); done)

@[simp] theorem State.countFails_frame (s : State) (p : Nat) (l : List (Nat × BitVec 128 × List Bool)) :
    (State.countFails s p l).pending = s.pending ∧ (State.countFails s p l).draws = s.draws ∧
    (State.countFails s p l).out = s.out ∧ (State.countFails s p l).hbm = s.hbm ∧
    (State.countFails s p l).host = s.host ∧ (State.countFails s p l).pkg = s.pkg ∧
    (State.countFails s p l).flash = s.flash ∧ (State.countFails s p l).clocks = s.clocks ∧
    (State.countFails s p l).engines = s.engines ∧ (State.countFails s p l).slabs = s.slabs ∧
    (State.countFails s p l).rings = s.rings ∧ (State.countFails s p l).plots = s.plots ∧
    (State.countFails s p l).stash = s.stash ∧ (State.countFails s p l).matJobs = s.matJobs ∧
    (State.countFails s p l).vecJobs = s.vecJobs ∧ (State.countFails s p l).fabric = s.fabric ∧
    (State.countFails s p l).ports = s.ports ∧ (State.countFails s p l).puts = s.puts ∧
    (State.countFails s p l).tags = s.tags ∧ (State.countFails s p l).mgr = s.mgr ∧
    (State.countFails s p l).mac = s.mac ∧ (State.countFails s p l).pcie = s.pcie ∧
    (State.countFails s p l).sec = s.sec ∧ (State.countFails s p l).cores = s.cores ∧
    (State.countFails s p l).power = s.power ∧ (State.countFails s p l).faults = s.faults ∧
    (State.countFails s p l).maint = s.maint ∧ (State.countFails s p l).glob = s.glob := by
  unfold State.countFails
  try dsimp only
  (repeat' split) <;> first | (simp; done) | (simp (disch := (intros; (repeat' split) <;> first | simp | skip)); done)

@[simp] theorem State.askRepeat_frame (s : State) (p r i k d : Nat) :
    (State.askRepeat s p r i k d).pending = s.pending ∧ (State.askRepeat s p r i k d).draws = s.draws ∧
    (State.askRepeat s p r i k d).out = s.out ∧ (State.askRepeat s p r i k d).regs = s.regs ∧
    (State.askRepeat s p r i k d).hbm = s.hbm ∧ (State.askRepeat s p r i k d).host = s.host ∧
    (State.askRepeat s p r i k d).pkg = s.pkg ∧ (State.askRepeat s p r i k d).flash = s.flash ∧
    (State.askRepeat s p r i k d).clocks = s.clocks ∧ (State.askRepeat s p r i k d).engines = s.engines ∧
    (State.askRepeat s p r i k d).slabs = s.slabs ∧ (State.askRepeat s p r i k d).rings = s.rings ∧
    (State.askRepeat s p r i k d).stash = s.stash ∧ (State.askRepeat s p r i k d).vecJobs = s.vecJobs ∧
    (State.askRepeat s p r i k d).fabric = s.fabric ∧ (State.askRepeat s p r i k d).ports = s.ports ∧
    (State.askRepeat s p r i k d).puts = s.puts ∧ (State.askRepeat s p r i k d).tags = s.tags ∧
    (State.askRepeat s p r i k d).mgr = s.mgr ∧ (State.askRepeat s p r i k d).mac = s.mac ∧
    (State.askRepeat s p r i k d).pcie = s.pcie ∧ (State.askRepeat s p r i k d).sec = s.sec ∧
    (State.askRepeat s p r i k d).cores = s.cores ∧ (State.askRepeat s p r i k d).power = s.power ∧
    (State.askRepeat s p r i k d).faults = s.faults ∧ (State.askRepeat s p r i k d).maint = s.maint ∧
    (State.askRepeat s p r i k d).glob = s.glob := by
  unfold State.askRepeat
  try dsimp only
  (repeat' split) <;> first | (simp; done) | (simp (disch := (intros; (repeat' split) <;> first | simp | skip)); done)

@[simp] theorem State.countSteps_frame (s : State) (a r i n : Nat) :
    (State.countSteps s a r i n).pending = s.pending ∧ (State.countSteps s a r i n).draws = s.draws ∧
    (State.countSteps s a r i n).out = s.out ∧ (State.countSteps s a r i n).hbm = s.hbm ∧
    (State.countSteps s a r i n).host = s.host ∧ (State.countSteps s a r i n).pkg = s.pkg ∧
    (State.countSteps s a r i n).flash = s.flash ∧ (State.countSteps s a r i n).clocks = s.clocks ∧
    (State.countSteps s a r i n).slabs = s.slabs ∧ (State.countSteps s a r i n).rings = s.rings ∧
    (State.countSteps s a r i n).plots = s.plots ∧ (State.countSteps s a r i n).stash = s.stash ∧
    (State.countSteps s a r i n).matJobs = s.matJobs ∧ (State.countSteps s a r i n).vecJobs = s.vecJobs ∧
    (State.countSteps s a r i n).fabric = s.fabric ∧ (State.countSteps s a r i n).ports = s.ports ∧
    (State.countSteps s a r i n).puts = s.puts ∧ (State.countSteps s a r i n).tags = s.tags ∧
    (State.countSteps s a r i n).mgr = s.mgr ∧ (State.countSteps s a r i n).mac = s.mac ∧
    (State.countSteps s a r i n).pcie = s.pcie ∧ (State.countSteps s a r i n).sec = s.sec ∧
    (State.countSteps s a r i n).cores = s.cores ∧ (State.countSteps s a r i n).power = s.power ∧
    (State.countSteps s a r i n).faults = s.faults ∧ (State.countSteps s a r i n).maint = s.maint ∧
    (State.countSteps s a r i n).glob = s.glob := by
  unfold State.countSteps
  try dsimp only
  (repeat' split) <;> first | (simp; done) | (simp (disch := (intros; (repeat' split) <;> first | simp | skip)); done)

@[simp] theorem State.countPass_frame (s : State) (p a r i : Nat) (e : Entry) (t : Tile) (f : Nat × Nat) (z : List Nat) :
    (State.countPass s p a r i e t f z).pending = s.pending ∧ (State.countPass s p a r i e t f z).out = s.out ∧
    (State.countPass s p a r i e t f z).hbm = s.hbm ∧ (State.countPass s p a r i e t f z).host = s.host ∧
    (State.countPass s p a r i e t f z).pkg = s.pkg ∧ (State.countPass s p a r i e t f z).flash = s.flash ∧
    (State.countPass s p a r i e t f z).clocks = s.clocks ∧ (State.countPass s p a r i e t f z).slabs = s.slabs ∧
    (State.countPass s p a r i e t f z).rings = s.rings ∧ (State.countPass s p a r i e t f z).plots = s.plots ∧
    (State.countPass s p a r i e t f z).stash = s.stash ∧ (State.countPass s p a r i e t f z).matJobs = s.matJobs ∧
    (State.countPass s p a r i e t f z).vecJobs = s.vecJobs ∧
    (State.countPass s p a r i e t f z).fabric = s.fabric ∧ (State.countPass s p a r i e t f z).ports = s.ports ∧
    (State.countPass s p a r i e t f z).puts = s.puts ∧ (State.countPass s p a r i e t f z).tags = s.tags ∧
    (State.countPass s p a r i e t f z).mgr = s.mgr ∧ (State.countPass s p a r i e t f z).mac = s.mac ∧
    (State.countPass s p a r i e t f z).pcie = s.pcie ∧ (State.countPass s p a r i e t f z).sec = s.sec ∧
    (State.countPass s p a r i e t f z).cores = s.cores ∧ (State.countPass s p a r i e t f z).faults = s.faults ∧
    (State.countPass s p a r i e t f z).maint = s.maint ∧ (State.countPass s p a r i e t f z).glob = s.glob := by
  unfold State.countPass
  try dsimp only
  (repeat' split) <;> first | (simp; done) | (simp (disch := (intros; (repeat' split) <;> first | simp | skip)); done)

@[simp] theorem State.tileReads_frame (s : State) (p gd : Nat) (l : List (Fin 64 × Fin 131072 × Ecc)) :
    (State.tileReads s p gd l).pending = s.pending ∧ (State.tileReads s p gd l).draws = s.draws ∧
    (State.tileReads s p gd l).hbm = s.hbm ∧ (State.tileReads s p gd l).host = s.host ∧
    (State.tileReads s p gd l).clocks = s.clocks ∧ (State.tileReads s p gd l).engines = s.engines ∧
    (State.tileReads s p gd l).slabs = s.slabs ∧ (State.tileReads s p gd l).rings = s.rings ∧
    (State.tileReads s p gd l).stash = s.stash ∧ (State.tileReads s p gd l).matJobs = s.matJobs ∧
    (State.tileReads s p gd l).vecJobs = s.vecJobs ∧ (State.tileReads s p gd l).fabric = s.fabric ∧
    (State.tileReads s p gd l).ports = s.ports ∧ (State.tileReads s p gd l).puts = s.puts ∧
    (State.tileReads s p gd l).tags = s.tags ∧ (State.tileReads s p gd l).mgr = s.mgr ∧
    (State.tileReads s p gd l).mac = s.mac ∧ (State.tileReads s p gd l).sec = s.sec ∧
    (State.tileReads s p gd l).cores = s.cores ∧ (State.tileReads s p gd l).power = s.power ∧
    (State.tileReads s p gd l).maint = s.maint ∧ (State.tileReads s p gd l).glob = s.glob := by
  unfold State.tileReads
  try dsimp only
  (repeat' split) <;> first | (simp; done) | (simp (disch := (intros; (repeat' split) <;> first | simp | skip)); done)

@[simp] theorem State.countTile_frame (s : State) (p a : Nat) (quant : Bool) (pos : Nat) :
    (State.countTile s p a quant pos).pending = s.pending ∧ (State.countTile s p a quant pos).draws = s.draws ∧
    (State.countTile s p a quant pos).out = s.out ∧ (State.countTile s p a quant pos).hbm = s.hbm ∧
    (State.countTile s p a quant pos).host = s.host ∧ (State.countTile s p a quant pos).pkg = s.pkg ∧
    (State.countTile s p a quant pos).flash = s.flash ∧ (State.countTile s p a quant pos).clocks = s.clocks ∧
    (State.countTile s p a quant pos).engines = s.engines ∧ (State.countTile s p a quant pos).slabs = s.slabs ∧
    (State.countTile s p a quant pos).rings = s.rings ∧ (State.countTile s p a quant pos).plots = s.plots ∧
    (State.countTile s p a quant pos).stash = s.stash ∧ (State.countTile s p a quant pos).matJobs = s.matJobs ∧
    (State.countTile s p a quant pos).vecJobs = s.vecJobs ∧ (State.countTile s p a quant pos).fabric = s.fabric ∧
    (State.countTile s p a quant pos).ports = s.ports ∧ (State.countTile s p a quant pos).puts = s.puts ∧
    (State.countTile s p a quant pos).tags = s.tags ∧ (State.countTile s p a quant pos).mgr = s.mgr ∧
    (State.countTile s p a quant pos).mac = s.mac ∧ (State.countTile s p a quant pos).pcie = s.pcie ∧
    (State.countTile s p a quant pos).sec = s.sec ∧ (State.countTile s p a quant pos).cores = s.cores ∧
    (State.countTile s p a quant pos).power = s.power ∧ (State.countTile s p a quant pos).faults = s.faults ∧
    (State.countTile s p a quant pos).maint = s.maint ∧ (State.countTile s p a quant pos).glob = s.glob := by
  unfold State.countTile
  try dsimp only
  (repeat' split) <;> first | (simp; done) | (simp (disch := (intros; (repeat' split) <;> first | simp | skip)); done)

@[simp] theorem State.endJob_frame (s : State) (r i : Nat) (e : Entry) :
    (State.endJob s r i e).pending = s.pending ∧ (State.endJob s r i e).draws = s.draws ∧
    (State.endJob s r i e).out = s.out ∧ (State.endJob s r i e).regs = s.regs ∧
    (State.endJob s r i e).hbm = s.hbm ∧ (State.endJob s r i e).host = s.host ∧
    (State.endJob s r i e).pkg = s.pkg ∧ (State.endJob s r i e).flash = s.flash ∧
    (State.endJob s r i e).clocks = s.clocks ∧ (State.endJob s r i e).slabs = s.slabs ∧
    (State.endJob s r i e).stash = s.stash ∧ (State.endJob s r i e).vecJobs = s.vecJobs ∧
    (State.endJob s r i e).fabric = s.fabric ∧ (State.endJob s r i e).ports = s.ports ∧
    (State.endJob s r i e).puts = s.puts ∧ (State.endJob s r i e).tags = s.tags ∧
    (State.endJob s r i e).mgr = s.mgr ∧ (State.endJob s r i e).mac = s.mac ∧
    (State.endJob s r i e).pcie = s.pcie ∧ (State.endJob s r i e).sec = s.sec ∧
    (State.endJob s r i e).cores = s.cores ∧ (State.endJob s r i e).power = s.power ∧
    (State.endJob s r i e).faults = s.faults ∧ (State.endJob s r i e).maint = s.maint ∧
    (State.endJob s r i e).glob = s.glob := by
  unfold State.endJob
  try dsimp only
  (repeat' split) <;> first | (simp; done) | (simp (disch := (intros; (repeat' split) <;> first | simp | skip)); done)

@[simp] theorem State.tileDone_frame (s : State) (a r i k : Nat) :
    (State.tileDone s a r i k).pending = s.pending ∧ (State.tileDone s a r i k).draws = s.draws ∧
    (State.tileDone s a r i k).out = s.out ∧ (State.tileDone s a r i k).regs = s.regs ∧
    (State.tileDone s a r i k).hbm = s.hbm ∧ (State.tileDone s a r i k).host = s.host ∧
    (State.tileDone s a r i k).pkg = s.pkg ∧ (State.tileDone s a r i k).flash = s.flash ∧
    (State.tileDone s a r i k).clocks = s.clocks ∧ (State.tileDone s a r i k).slabs = s.slabs ∧
    (State.tileDone s a r i k).rings = s.rings ∧ (State.tileDone s a r i k).plots = s.plots ∧
    (State.tileDone s a r i k).stash = s.stash ∧ (State.tileDone s a r i k).vecJobs = s.vecJobs ∧
    (State.tileDone s a r i k).fabric = s.fabric ∧ (State.tileDone s a r i k).ports = s.ports ∧
    (State.tileDone s a r i k).puts = s.puts ∧ (State.tileDone s a r i k).tags = s.tags ∧
    (State.tileDone s a r i k).mgr = s.mgr ∧ (State.tileDone s a r i k).mac = s.mac ∧
    (State.tileDone s a r i k).pcie = s.pcie ∧ (State.tileDone s a r i k).sec = s.sec ∧
    (State.tileDone s a r i k).cores = s.cores ∧ (State.tileDone s a r i k).power = s.power ∧
    (State.tileDone s a r i k).faults = s.faults ∧ (State.tileDone s a r i k).maint = s.maint ∧
    (State.tileDone s a r i k).glob = s.glob := by
  unfold State.tileDone
  try dsimp only
  (repeat' split) <;> first | (simp; done) | (simp (disch := (intros; (repeat' split) <;> first | simp | skip)); done)

@[simp] theorem State.countRun_frame (s : State) (p a : Nat) (e : Entry) (j : MatJob) (t : Tile) (l : List (Nat × BitVec 128 × List Bool)) (made : Nat) :
    (State.countRun s p a e j t l made).pending = s.pending ∧ (State.countRun s p a e j t l made).draws = s.draws ∧
    (State.countRun s p a e j t l made).out = s.out ∧ (State.countRun s p a e j t l made).hbm = s.hbm ∧
    (State.countRun s p a e j t l made).host = s.host ∧ (State.countRun s p a e j t l made).pkg = s.pkg ∧
    (State.countRun s p a e j t l made).flash = s.flash ∧ (State.countRun s p a e j t l made).clocks = s.clocks ∧
    (State.countRun s p a e j t l made).engines = s.engines ∧ (State.countRun s p a e j t l made).slabs = s.slabs ∧
    (State.countRun s p a e j t l made).rings = s.rings ∧ (State.countRun s p a e j t l made).stash = s.stash ∧
    (State.countRun s p a e j t l made).matJobs = s.matJobs ∧
    (State.countRun s p a e j t l made).vecJobs = s.vecJobs ∧
    (State.countRun s p a e j t l made).fabric = s.fabric ∧ (State.countRun s p a e j t l made).ports = s.ports ∧
    (State.countRun s p a e j t l made).puts = s.puts ∧ (State.countRun s p a e j t l made).tags = s.tags ∧
    (State.countRun s p a e j t l made).mgr = s.mgr ∧ (State.countRun s p a e j t l made).mac = s.mac ∧
    (State.countRun s p a e j t l made).pcie = s.pcie ∧ (State.countRun s p a e j t l made).sec = s.sec ∧
    (State.countRun s p a e j t l made).cores = s.cores ∧ (State.countRun s p a e j t l made).power = s.power ∧
    (State.countRun s p a e j t l made).faults = s.faults ∧ (State.countRun s p a e j t l made).maint = s.maint ∧
    (State.countRun s p a e j t l made).glob = s.glob := by
  unfold State.countRun
  try dsimp only
  (repeat' split) <;> first | (simp; done) | (simp (disch := (intros; (repeat' split) <;> first | simp | skip)); done)

end Sys2Proof.Machine
end

