-- ==== Sys2Proof/Laws/FrameVector.lean ====
section
/-! SUPPORT. Frames of the operations of Vector. -/

namespace Sys2Proof.Machine

@[simp] theorem State.veDone_frame (s : State) (p r i : Nat) (e : Entry) (reads : List (Nat × Nat)) (lanes steps nf : Nat) :
    (State.veDone s p r i e reads lanes steps nf).pending = s.pending ∧
    (State.veDone s p r i e reads lanes steps nf).out = s.out ∧
    (State.veDone s p r i e reads lanes steps nf).hbm = s.hbm ∧
    (State.veDone s p r i e reads lanes steps nf).host = s.host ∧
    (State.veDone s p r i e reads lanes steps nf).pkg = s.pkg ∧
    (State.veDone s p r i e reads lanes steps nf).flash = s.flash ∧
    (State.veDone s p r i e reads lanes steps nf).clocks = s.clocks ∧
    (State.veDone s p r i e reads lanes steps nf).engines = s.engines ∧
    (State.veDone s p r i e reads lanes steps nf).slabs = s.slabs ∧
    (State.veDone s p r i e reads lanes steps nf).stash = s.stash ∧
    (State.veDone s p r i e reads lanes steps nf).matJobs = s.matJobs ∧
    (State.veDone s p r i e reads lanes steps nf).vecJobs = s.vecJobs ∧
    (State.veDone s p r i e reads lanes steps nf).fabric = s.fabric ∧
    (State.veDone s p r i e reads lanes steps nf).ports = s.ports ∧
    (State.veDone s p r i e reads lanes steps nf).puts = s.puts ∧
    (State.veDone s p r i e reads lanes steps nf).tags = s.tags ∧
    (State.veDone s p r i e reads lanes steps nf).mgr = s.mgr ∧
    (State.veDone s p r i e reads lanes steps nf).mac = s.mac ∧
    (State.veDone s p r i e reads lanes steps nf).pcie = s.pcie ∧
    (State.veDone s p r i e reads lanes steps nf).sec = s.sec ∧
    (State.veDone s p r i e reads lanes steps nf).cores = s.cores ∧
    (State.veDone s p r i e reads lanes steps nf).faults = s.faults ∧
    (State.veDone s p r i e reads lanes steps nf).maint = s.maint ∧
    (State.veDone s p r i e reads lanes steps nf).glob = s.glob := by
  unfold State.veDone
  try dsimp only
  (repeat' split) <;> first | (simp; done) | (simp (disch := (intros; (repeat' split) <;> first | simp | skip)); done)

@[simp] theorem State.arrayWork_frame (s : State) (p r i a fmt outs len : Nat) (z : List Nat) (e : Entry) :
    (State.arrayWork s p r i a fmt outs len z e).pending = s.pending ∧
    (State.arrayWork s p r i a fmt outs len z e).out = s.out ∧
    (State.arrayWork s p r i a fmt outs len z e).hbm = s.hbm ∧
    (State.arrayWork s p r i a fmt outs len z e).host = s.host ∧
    (State.arrayWork s p r i a fmt outs len z e).pkg = s.pkg ∧
    (State.arrayWork s p r i a fmt outs len z e).flash = s.flash ∧
    (State.arrayWork s p r i a fmt outs len z e).clocks = s.clocks ∧
    (State.arrayWork s p r i a fmt outs len z e).slabs = s.slabs ∧
    (State.arrayWork s p r i a fmt outs len z e).rings = s.rings ∧
    (State.arrayWork s p r i a fmt outs len z e).plots = s.plots ∧
    (State.arrayWork s p r i a fmt outs len z e).stash = s.stash ∧
    (State.arrayWork s p r i a fmt outs len z e).matJobs = s.matJobs ∧
    (State.arrayWork s p r i a fmt outs len z e).vecJobs = s.vecJobs ∧
    (State.arrayWork s p r i a fmt outs len z e).fabric = s.fabric ∧
    (State.arrayWork s p r i a fmt outs len z e).ports = s.ports ∧
    (State.arrayWork s p r i a fmt outs len z e).puts = s.puts ∧
    (State.arrayWork s p r i a fmt outs len z e).tags = s.tags ∧
    (State.arrayWork s p r i a fmt outs len z e).mgr = s.mgr ∧
    (State.arrayWork s p r i a fmt outs len z e).mac = s.mac ∧
    (State.arrayWork s p r i a fmt outs len z e).pcie = s.pcie ∧
    (State.arrayWork s p r i a fmt outs len z e).sec = s.sec ∧
    (State.arrayWork s p r i a fmt outs len z e).cores = s.cores ∧
    (State.arrayWork s p r i a fmt outs len z e).faults = s.faults ∧
    (State.arrayWork s p r i a fmt outs len z e).maint = s.maint ∧
    (State.arrayWork s p r i a fmt outs len z e).glob = s.glob := by
  unfold State.arrayWork
  try dsimp only
  (repeat' split) <;> first | (simp; done) | (simp (disch := (intros; (repeat' split) <;> first | simp | skip)); done)

end Sys2Proof.Machine
end

