-- ==== Sys2Proof/Laws/FrameCopyOps.lean ====
section
/-! SUPPORT. Frames of the operations of CopyOps. -/

namespace Sys2Proof.Machine

@[simp] theorem State.modEntry_frame (s : State) (r i : Nat) (f : Entry → Entry) :
    (State.modEntry s r i f).pending = s.pending ∧ (State.modEntry s r i f).draws = s.draws ∧
    (State.modEntry s r i f).out = s.out ∧ (State.modEntry s r i f).regs = s.regs ∧
    (State.modEntry s r i f).hbm = s.hbm ∧ (State.modEntry s r i f).host = s.host ∧
    (State.modEntry s r i f).pkg = s.pkg ∧ (State.modEntry s r i f).flash = s.flash ∧
    (State.modEntry s r i f).clocks = s.clocks ∧ (State.modEntry s r i f).engines = s.engines ∧
    (State.modEntry s r i f).slabs = s.slabs ∧ (State.modEntry s r i f).plots = s.plots ∧
    (State.modEntry s r i f).stash = s.stash ∧ (State.modEntry s r i f).matJobs = s.matJobs ∧
    (State.modEntry s r i f).vecJobs = s.vecJobs ∧ (State.modEntry s r i f).fabric = s.fabric ∧
    (State.modEntry s r i f).ports = s.ports ∧ (State.modEntry s r i f).puts = s.puts ∧
    (State.modEntry s r i f).tags = s.tags ∧ (State.modEntry s r i f).mgr = s.mgr ∧
    (State.modEntry s r i f).mac = s.mac ∧ (State.modEntry s r i f).pcie = s.pcie ∧
    (State.modEntry s r i f).sec = s.sec ∧ (State.modEntry s r i f).cores = s.cores ∧
    (State.modEntry s r i f).power = s.power ∧ (State.modEntry s r i f).faults = s.faults ∧
    (State.modEntry s r i f).maint = s.maint ∧ (State.modEntry s r i f).glob = s.glob := by
  unfold State.modEntry
  try dsimp only
  (repeat' split) <;> first | (simp; done) | (simp (disch := (intros; (repeat' split) <;> first | simp | skip)); done)

@[simp] theorem State.pcieNonFatal_frame (s : State) (plots : List Nat) (detail : Nat) :
    (State.pcieNonFatal s plots detail).pending = s.pending ∧ (State.pcieNonFatal s plots detail).draws = s.draws ∧
    (State.pcieNonFatal s plots detail).hbm = s.hbm ∧ (State.pcieNonFatal s plots detail).host = s.host ∧
    (State.pcieNonFatal s plots detail).pkg = s.pkg ∧ (State.pcieNonFatal s plots detail).clocks = s.clocks ∧
    (State.pcieNonFatal s plots detail).engines = s.engines ∧ (State.pcieNonFatal s plots detail).slabs = s.slabs ∧
    (State.pcieNonFatal s plots detail).rings = s.rings ∧ (State.pcieNonFatal s plots detail).stash = s.stash ∧
    (State.pcieNonFatal s plots detail).matJobs = s.matJobs ∧
    (State.pcieNonFatal s plots detail).vecJobs = s.vecJobs ∧
    (State.pcieNonFatal s plots detail).fabric = s.fabric ∧ (State.pcieNonFatal s plots detail).ports = s.ports ∧
    (State.pcieNonFatal s plots detail).puts = s.puts ∧ (State.pcieNonFatal s plots detail).tags = s.tags ∧
    (State.pcieNonFatal s plots detail).mgr = s.mgr ∧ (State.pcieNonFatal s plots detail).mac = s.mac ∧
    (State.pcieNonFatal s plots detail).sec = s.sec ∧ (State.pcieNonFatal s plots detail).cores = s.cores ∧
    (State.pcieNonFatal s plots detail).power = s.power ∧ (State.pcieNonFatal s plots detail).maint = s.maint ∧
    (State.pcieNonFatal s plots detail).glob = s.glob := by
  unfold State.pcieNonFatal
  try dsimp only
  (repeat' split) <;> first | (simp; done) | (simp (disch := (intros; (repeat' split) <;> first | simp | skip)); done)

@[simp] theorem State.readLost_frame (s : State) (r i p : Nat) (timedOut : Bool) :
    (State.readLost s r i p timedOut).pending = s.pending ∧ (State.readLost s r i p timedOut).draws = s.draws ∧
    (State.readLost s r i p timedOut).hbm = s.hbm ∧ (State.readLost s r i p timedOut).host = s.host ∧
    (State.readLost s r i p timedOut).pkg = s.pkg ∧ (State.readLost s r i p timedOut).clocks = s.clocks ∧
    (State.readLost s r i p timedOut).engines = s.engines ∧ (State.readLost s r i p timedOut).slabs = s.slabs ∧
    (State.readLost s r i p timedOut).stash = s.stash ∧ (State.readLost s r i p timedOut).matJobs = s.matJobs ∧
    (State.readLost s r i p timedOut).vecJobs = s.vecJobs ∧ (State.readLost s r i p timedOut).fabric = s.fabric ∧
    (State.readLost s r i p timedOut).ports = s.ports ∧ (State.readLost s r i p timedOut).puts = s.puts ∧
    (State.readLost s r i p timedOut).tags = s.tags ∧ (State.readLost s r i p timedOut).mgr = s.mgr ∧
    (State.readLost s r i p timedOut).mac = s.mac ∧ (State.readLost s r i p timedOut).sec = s.sec ∧
    (State.readLost s r i p timedOut).cores = s.cores ∧ (State.readLost s r i p timedOut).power = s.power ∧
    (State.readLost s r i p timedOut).maint = s.maint ∧ (State.readLost s r i p timedOut).glob = s.glob := by
  unfold State.readLost
  try dsimp only
  (repeat' split) <;> first | (simp; done) | (simp (disch := (intros; (repeat' split) <;> first | simp | skip)); done)

@[simp] theorem State.refuseSlab_frame (s : State) (r i : Nat) :
    (State.refuseSlab s r i).pending = s.pending ∧ (State.refuseSlab s r i).draws = s.draws ∧
    (State.refuseSlab s r i).out = s.out ∧ (State.refuseSlab s r i).hbm = s.hbm ∧
    (State.refuseSlab s r i).host = s.host ∧ (State.refuseSlab s r i).pkg = s.pkg ∧
    (State.refuseSlab s r i).flash = s.flash ∧ (State.refuseSlab s r i).clocks = s.clocks ∧
    (State.refuseSlab s r i).engines = s.engines ∧ (State.refuseSlab s r i).slabs = s.slabs ∧
    (State.refuseSlab s r i).plots = s.plots ∧ (State.refuseSlab s r i).stash = s.stash ∧
    (State.refuseSlab s r i).matJobs = s.matJobs ∧ (State.refuseSlab s r i).vecJobs = s.vecJobs ∧
    (State.refuseSlab s r i).fabric = s.fabric ∧ (State.refuseSlab s r i).ports = s.ports ∧
    (State.refuseSlab s r i).puts = s.puts ∧ (State.refuseSlab s r i).tags = s.tags ∧
    (State.refuseSlab s r i).mgr = s.mgr ∧ (State.refuseSlab s r i).mac = s.mac ∧
    (State.refuseSlab s r i).pcie = s.pcie ∧ (State.refuseSlab s r i).sec = s.sec ∧
    (State.refuseSlab s r i).cores = s.cores ∧ (State.refuseSlab s r i).power = s.power ∧
    (State.refuseSlab s r i).faults = s.faults ∧ (State.refuseSlab s r i).maint = s.maint ∧
    (State.refuseSlab s r i).glob = s.glob := by
  unfold State.refuseSlab
  try dsimp only
  (repeat' split) <;> first | (simp; done) | (simp (disch := (intros; (repeat' split) <;> first | simp | skip)); done)

@[simp] theorem State.flipLater_frame (s : State) (r i : Nat) (e : Entry) :
    (State.flipLater s r i e).pending = s.pending ∧ (State.flipLater s r i e).draws = s.draws ∧
    (State.flipLater s r i e).out = s.out ∧ (State.flipLater s r i e).regs = s.regs ∧
    (State.flipLater s r i e).hbm = s.hbm ∧ (State.flipLater s r i e).host = s.host ∧
    (State.flipLater s r i e).pkg = s.pkg ∧ (State.flipLater s r i e).flash = s.flash ∧
    (State.flipLater s r i e).clocks = s.clocks ∧ (State.flipLater s r i e).engines = s.engines ∧
    (State.flipLater s r i e).slabs = s.slabs ∧ (State.flipLater s r i e).plots = s.plots ∧
    (State.flipLater s r i e).stash = s.stash ∧ (State.flipLater s r i e).matJobs = s.matJobs ∧
    (State.flipLater s r i e).vecJobs = s.vecJobs ∧ (State.flipLater s r i e).fabric = s.fabric ∧
    (State.flipLater s r i e).ports = s.ports ∧ (State.flipLater s r i e).puts = s.puts ∧
    (State.flipLater s r i e).tags = s.tags ∧ (State.flipLater s r i e).mgr = s.mgr ∧
    (State.flipLater s r i e).mac = s.mac ∧ (State.flipLater s r i e).pcie = s.pcie ∧
    (State.flipLater s r i e).sec = s.sec ∧ (State.flipLater s r i e).cores = s.cores ∧
    (State.flipLater s r i e).power = s.power ∧ (State.flipLater s r i e).faults = s.faults ∧
    (State.flipLater s r i e).maint = s.maint ∧ (State.flipLater s r i e).glob = s.glob := by
  unfold State.flipLater
  try dsimp only
  (repeat' split) <;> first | (simp; done) | (simp (disch := (intros; (repeat' split) <;> first | simp | skip)); done)

end Sys2Proof.Machine
end

