-- ==== Sys2Proof/Laws/FrameCores.lean ====
section
/-! SUPPORT. Frames of the operations of Cores. -/

namespace Sys2Proof.Machine

@[simp] theorem State.freeCall_frame (s : State) (r i : Nat) :
    (State.freeCall s r i).pending = s.pending ∧ (State.freeCall s r i).draws = s.draws ∧
    (State.freeCall s r i).out = s.out ∧ (State.freeCall s r i).regs = s.regs ∧
    (State.freeCall s r i).hbm = s.hbm ∧ (State.freeCall s r i).host = s.host ∧
    (State.freeCall s r i).pkg = s.pkg ∧ (State.freeCall s r i).flash = s.flash ∧
    (State.freeCall s r i).clocks = s.clocks ∧ (State.freeCall s r i).engines = s.engines ∧
    (State.freeCall s r i).slabs = s.slabs ∧ (State.freeCall s r i).rings = s.rings ∧
    (State.freeCall s r i).plots = s.plots ∧ (State.freeCall s r i).stash = s.stash ∧
    (State.freeCall s r i).matJobs = s.matJobs ∧ (State.freeCall s r i).vecJobs = s.vecJobs ∧
    (State.freeCall s r i).fabric = s.fabric ∧ (State.freeCall s r i).ports = s.ports ∧
    (State.freeCall s r i).puts = s.puts ∧ (State.freeCall s r i).tags = s.tags ∧
    (State.freeCall s r i).mgr = s.mgr ∧ (State.freeCall s r i).mac = s.mac ∧
    (State.freeCall s r i).pcie = s.pcie ∧ (State.freeCall s r i).sec = s.sec ∧
    (State.freeCall s r i).power = s.power ∧ (State.freeCall s r i).faults = s.faults ∧
    (State.freeCall s r i).maint = s.maint ∧ (State.freeCall s r i).glob = s.glob := by
  unfold State.freeCall
  try dsimp only
  (repeat' split) <;> first | (simp; done) | (simp (disch := (intros; (repeat' split) <;> first | simp | skip)); done)

@[simp] theorem State.endCall_frame (s : State) (r i st v : Nat) :
    (State.endCall s r i st v).pending = s.pending ∧ (State.endCall s r i st v).draws = s.draws ∧
    (State.endCall s r i st v).out = s.out ∧ (State.endCall s r i st v).hbm = s.hbm ∧
    (State.endCall s r i st v).host = s.host ∧ (State.endCall s r i st v).pkg = s.pkg ∧
    (State.endCall s r i st v).flash = s.flash ∧ (State.endCall s r i st v).clocks = s.clocks ∧
    (State.endCall s r i st v).engines = s.engines ∧ (State.endCall s r i st v).slabs = s.slabs ∧
    (State.endCall s r i st v).plots = s.plots ∧ (State.endCall s r i st v).stash = s.stash ∧
    (State.endCall s r i st v).matJobs = s.matJobs ∧ (State.endCall s r i st v).vecJobs = s.vecJobs ∧
    (State.endCall s r i st v).fabric = s.fabric ∧ (State.endCall s r i st v).ports = s.ports ∧
    (State.endCall s r i st v).puts = s.puts ∧ (State.endCall s r i st v).tags = s.tags ∧
    (State.endCall s r i st v).mgr = s.mgr ∧ (State.endCall s r i st v).mac = s.mac ∧
    (State.endCall s r i st v).pcie = s.pcie ∧ (State.endCall s r i st v).sec = s.sec ∧
    (State.endCall s r i st v).power = s.power ∧ (State.endCall s r i st v).faults = s.faults ∧
    (State.endCall s r i st v).maint = s.maint ∧ (State.endCall s r i st v).glob = s.glob := by
  unfold State.endCall
  try dsimp only
  (repeat' split) <;> first | (simp; done) | (simp (disch := (intros; (repeat' split) <;> first | simp | skip)); done)

@[simp] theorem State.evict_frame (s : State) (p num : Nat) :
    (State.evict s p num).pending = s.pending ∧ (State.evict s p num).draws = s.draws ∧
    (State.evict s p num).out = s.out ∧ (State.evict s p num).regs = s.regs ∧ (State.evict s p num).hbm = s.hbm ∧
    (State.evict s p num).host = s.host ∧ (State.evict s p num).pkg = s.pkg ∧
    (State.evict s p num).flash = s.flash ∧ (State.evict s p num).clocks = s.clocks ∧
    (State.evict s p num).engines = s.engines ∧ (State.evict s p num).slabs = s.slabs ∧
    (State.evict s p num).rings = s.rings ∧ (State.evict s p num).plots = s.plots ∧
    (State.evict s p num).stash = s.stash ∧ (State.evict s p num).matJobs = s.matJobs ∧
    (State.evict s p num).vecJobs = s.vecJobs ∧ (State.evict s p num).fabric = s.fabric ∧
    (State.evict s p num).ports = s.ports ∧ (State.evict s p num).puts = s.puts ∧
    (State.evict s p num).tags = s.tags ∧ (State.evict s p num).mgr = s.mgr ∧ (State.evict s p num).mac = s.mac ∧
    (State.evict s p num).pcie = s.pcie ∧ (State.evict s p num).sec = s.sec ∧
    (State.evict s p num).power = s.power ∧ (State.evict s p num).faults = s.faults ∧
    (State.evict s p num).maint = s.maint ∧ (State.evict s p num).glob = s.glob := by
  unfold State.evict
  try dsimp only
  (repeat' split) <;> first | (simp; done) | (simp (disch := (intros; (repeat' split) <;> first | simp | skip)); done)

@[simp] theorem State.evictAll_frame (s : State) (p : Nat) :
    (State.evictAll s p).pending = s.pending ∧ (State.evictAll s p).draws = s.draws ∧
    (State.evictAll s p).out = s.out ∧ (State.evictAll s p).regs = s.regs ∧ (State.evictAll s p).hbm = s.hbm ∧
    (State.evictAll s p).host = s.host ∧ (State.evictAll s p).pkg = s.pkg ∧ (State.evictAll s p).flash = s.flash ∧
    (State.evictAll s p).clocks = s.clocks ∧ (State.evictAll s p).engines = s.engines ∧
    (State.evictAll s p).slabs = s.slabs ∧ (State.evictAll s p).rings = s.rings ∧
    (State.evictAll s p).plots = s.plots ∧ (State.evictAll s p).stash = s.stash ∧
    (State.evictAll s p).matJobs = s.matJobs ∧ (State.evictAll s p).vecJobs = s.vecJobs ∧
    (State.evictAll s p).fabric = s.fabric ∧ (State.evictAll s p).ports = s.ports ∧
    (State.evictAll s p).puts = s.puts ∧ (State.evictAll s p).tags = s.tags ∧ (State.evictAll s p).mgr = s.mgr ∧
    (State.evictAll s p).mac = s.mac ∧ (State.evictAll s p).pcie = s.pcie ∧ (State.evictAll s p).sec = s.sec ∧
    (State.evictAll s p).power = s.power ∧ (State.evictAll s p).faults = s.faults ∧
    (State.evictAll s p).maint = s.maint ∧ (State.evictAll s p).glob = s.glob := by
  unfold State.evictAll
  try dsimp only
  (repeat' split) <;> first | (simp; done) | (simp (disch := (intros; (repeat' split) <;> first | simp | skip)); done)

@[simp] theorem State.tcmCheck_frame (s : State) (c : Nat) (x0 : Ecc) :
    (State.tcmCheck s c x0).pending = s.pending ∧ (State.tcmCheck s c x0).draws = s.draws ∧
    (State.tcmCheck s c x0).hbm = s.hbm ∧ (State.tcmCheck s c x0).host = s.host ∧
    (State.tcmCheck s c x0).pkg = s.pkg ∧ (State.tcmCheck s c x0).clocks = s.clocks ∧
    (State.tcmCheck s c x0).engines = s.engines ∧ (State.tcmCheck s c x0).slabs = s.slabs ∧
    (State.tcmCheck s c x0).stash = s.stash ∧ (State.tcmCheck s c x0).matJobs = s.matJobs ∧
    (State.tcmCheck s c x0).vecJobs = s.vecJobs ∧ (State.tcmCheck s c x0).fabric = s.fabric ∧
    (State.tcmCheck s c x0).ports = s.ports ∧ (State.tcmCheck s c x0).puts = s.puts ∧
    (State.tcmCheck s c x0).tags = s.tags ∧ (State.tcmCheck s c x0).mgr = s.mgr ∧
    (State.tcmCheck s c x0).mac = s.mac ∧ (State.tcmCheck s c x0).sec = s.sec ∧
    (State.tcmCheck s c x0).power = s.power ∧ (State.tcmCheck s c x0).maint = s.maint ∧
    (State.tcmCheck s c x0).glob = s.glob := by
  unfold State.tcmCheck
  try dsimp only
  (repeat' split) <;> first | (simp; done) | (simp (disch := (intros; (repeat' split) <;> first | simp | skip)); done)

@[simp] theorem State.startCall_frame (s : State) (p r i : Nat) (e : Entry) (cores : List Nat) :
    (State.startCall s p r i e cores).pending = s.pending ∧ (State.startCall s p r i e cores).draws = s.draws ∧
    (State.startCall s p r i e cores).out = s.out ∧ (State.startCall s p r i e cores).regs = s.regs ∧
    (State.startCall s p r i e cores).hbm = s.hbm ∧ (State.startCall s p r i e cores).host = s.host ∧
    (State.startCall s p r i e cores).pkg = s.pkg ∧ (State.startCall s p r i e cores).flash = s.flash ∧
    (State.startCall s p r i e cores).clocks = s.clocks ∧ (State.startCall s p r i e cores).engines = s.engines ∧
    (State.startCall s p r i e cores).slabs = s.slabs ∧ (State.startCall s p r i e cores).rings = s.rings ∧
    (State.startCall s p r i e cores).plots = s.plots ∧ (State.startCall s p r i e cores).stash = s.stash ∧
    (State.startCall s p r i e cores).matJobs = s.matJobs ∧ (State.startCall s p r i e cores).vecJobs = s.vecJobs ∧
    (State.startCall s p r i e cores).fabric = s.fabric ∧ (State.startCall s p r i e cores).ports = s.ports ∧
    (State.startCall s p r i e cores).puts = s.puts ∧ (State.startCall s p r i e cores).tags = s.tags ∧
    (State.startCall s p r i e cores).mgr = s.mgr ∧ (State.startCall s p r i e cores).mac = s.mac ∧
    (State.startCall s p r i e cores).pcie = s.pcie ∧ (State.startCall s p r i e cores).sec = s.sec ∧
    (State.startCall s p r i e cores).power = s.power ∧ (State.startCall s p r i e cores).faults = s.faults ∧
    (State.startCall s p r i e cores).maint = s.maint ∧ (State.startCall s p r i e cores).glob = s.glob := by
  unfold State.startCall
  try dsimp only
  (repeat' split) <;> first | (simp; done) | (simp (disch := (intros; (repeat' split) <;> first | simp | skip)); done)

@[simp] theorem State.registerRoutine_frame (s : State) (p : Nat) (e : Entry) :
    (State.registerRoutine s p e).pending = s.pending ∧ (State.registerRoutine s p e).draws = s.draws ∧
    (State.registerRoutine s p e).out = s.out ∧ (State.registerRoutine s p e).regs = s.regs ∧
    (State.registerRoutine s p e).hbm = s.hbm ∧ (State.registerRoutine s p e).host = s.host ∧
    (State.registerRoutine s p e).pkg = s.pkg ∧ (State.registerRoutine s p e).flash = s.flash ∧
    (State.registerRoutine s p e).clocks = s.clocks ∧ (State.registerRoutine s p e).engines = s.engines ∧
    (State.registerRoutine s p e).slabs = s.slabs ∧ (State.registerRoutine s p e).rings = s.rings ∧
    (State.registerRoutine s p e).stash = s.stash ∧ (State.registerRoutine s p e).matJobs = s.matJobs ∧
    (State.registerRoutine s p e).vecJobs = s.vecJobs ∧ (State.registerRoutine s p e).fabric = s.fabric ∧
    (State.registerRoutine s p e).ports = s.ports ∧ (State.registerRoutine s p e).puts = s.puts ∧
    (State.registerRoutine s p e).tags = s.tags ∧ (State.registerRoutine s p e).mgr = s.mgr ∧
    (State.registerRoutine s p e).mac = s.mac ∧ (State.registerRoutine s p e).pcie = s.pcie ∧
    (State.registerRoutine s p e).sec = s.sec ∧ (State.registerRoutine s p e).power = s.power ∧
    (State.registerRoutine s p e).faults = s.faults ∧ (State.registerRoutine s p e).maint = s.maint ∧
    (State.registerRoutine s p e).glob = s.glob := by
  unfold State.registerRoutine
  try dsimp only
  (repeat' split) <;> first | (simp; done) | (simp (disch := (intros; (repeat' split) <;> first | simp | skip)); done)

@[simp] theorem State.trapCall_frame (s : State) (r i cause : Nat) :
    (State.trapCall s r i cause).pending = s.pending ∧ (State.trapCall s r i cause).draws = s.draws ∧
    (State.trapCall s r i cause).out = s.out ∧ (State.trapCall s r i cause).hbm = s.hbm ∧
    (State.trapCall s r i cause).host = s.host ∧ (State.trapCall s r i cause).pkg = s.pkg ∧
    (State.trapCall s r i cause).flash = s.flash ∧ (State.trapCall s r i cause).clocks = s.clocks ∧
    (State.trapCall s r i cause).engines = s.engines ∧ (State.trapCall s r i cause).slabs = s.slabs ∧
    (State.trapCall s r i cause).plots = s.plots ∧ (State.trapCall s r i cause).stash = s.stash ∧
    (State.trapCall s r i cause).matJobs = s.matJobs ∧ (State.trapCall s r i cause).vecJobs = s.vecJobs ∧
    (State.trapCall s r i cause).fabric = s.fabric ∧ (State.trapCall s r i cause).ports = s.ports ∧
    (State.trapCall s r i cause).puts = s.puts ∧ (State.trapCall s r i cause).tags = s.tags ∧
    (State.trapCall s r i cause).mgr = s.mgr ∧ (State.trapCall s r i cause).mac = s.mac ∧
    (State.trapCall s r i cause).pcie = s.pcie ∧ (State.trapCall s r i cause).sec = s.sec ∧
    (State.trapCall s r i cause).power = s.power ∧ (State.trapCall s r i cause).faults = s.faults ∧
    (State.trapCall s r i cause).maint = s.maint ∧ (State.trapCall s r i cause).glob = s.glob := by
  unfold State.trapCall
  try dsimp only
  (repeat' split) <;> first | (simp; done) | (simp (disch := (intros; (repeat' split) <;> first | simp | skip)); done)

@[simp] theorem State.putTcm_frame (s : State) (c tcm : Nat) (l : List (BitVec 64)) :
    (State.putTcm s c tcm l).pending = s.pending ∧ (State.putTcm s c tcm l).draws = s.draws ∧
    (State.putTcm s c tcm l).out = s.out ∧ (State.putTcm s c tcm l).regs = s.regs ∧
    (State.putTcm s c tcm l).hbm = s.hbm ∧ (State.putTcm s c tcm l).host = s.host ∧
    (State.putTcm s c tcm l).pkg = s.pkg ∧ (State.putTcm s c tcm l).flash = s.flash ∧
    (State.putTcm s c tcm l).clocks = s.clocks ∧ (State.putTcm s c tcm l).engines = s.engines ∧
    (State.putTcm s c tcm l).slabs = s.slabs ∧ (State.putTcm s c tcm l).rings = s.rings ∧
    (State.putTcm s c tcm l).plots = s.plots ∧ (State.putTcm s c tcm l).stash = s.stash ∧
    (State.putTcm s c tcm l).matJobs = s.matJobs ∧ (State.putTcm s c tcm l).vecJobs = s.vecJobs ∧
    (State.putTcm s c tcm l).fabric = s.fabric ∧ (State.putTcm s c tcm l).ports = s.ports ∧
    (State.putTcm s c tcm l).puts = s.puts ∧ (State.putTcm s c tcm l).tags = s.tags ∧
    (State.putTcm s c tcm l).mgr = s.mgr ∧ (State.putTcm s c tcm l).mac = s.mac ∧
    (State.putTcm s c tcm l).pcie = s.pcie ∧ (State.putTcm s c tcm l).sec = s.sec ∧
    (State.putTcm s c tcm l).power = s.power ∧ (State.putTcm s c tcm l).faults = s.faults ∧
    (State.putTcm s c tcm l).maint = s.maint ∧ (State.putTcm s c tcm l).glob = s.glob := by
  unfold State.putTcm
  try dsimp only
  (repeat' split) <;> first | (simp; done) | (simp (disch := (intros; (repeat' split) <;> first | simp | skip)); done)

end Sys2Proof.Machine
end

