-- ==== Sys2Proof/Laws/FrameExchangeOps.lean ====
section
/-! SUPPORT. Frames of the operations of ExchangeOps. -/

namespace Sys2Proof.Machine

@[simp] theorem State.modXJob_frame (s : State) (k : Nat) (f : XJob → XJob) :
    (State.modXJob s k f).pending = s.pending ∧ (State.modXJob s k f).draws = s.draws ∧
    (State.modXJob s k f).out = s.out ∧ (State.modXJob s k f).regs = s.regs ∧ (State.modXJob s k f).hbm = s.hbm ∧
    (State.modXJob s k f).host = s.host ∧ (State.modXJob s k f).pkg = s.pkg ∧
    (State.modXJob s k f).flash = s.flash ∧ (State.modXJob s k f).clocks = s.clocks ∧
    (State.modXJob s k f).engines = s.engines ∧ (State.modXJob s k f).slabs = s.slabs ∧
    (State.modXJob s k f).rings = s.rings ∧ (State.modXJob s k f).plots = s.plots ∧
    (State.modXJob s k f).stash = s.stash ∧ (State.modXJob s k f).matJobs = s.matJobs ∧
    (State.modXJob s k f).vecJobs = s.vecJobs ∧ (State.modXJob s k f).ports = s.ports ∧
    (State.modXJob s k f).puts = s.puts ∧ (State.modXJob s k f).tags = s.tags ∧ (State.modXJob s k f).mgr = s.mgr ∧
    (State.modXJob s k f).mac = s.mac ∧ (State.modXJob s k f).pcie = s.pcie ∧ (State.modXJob s k f).sec = s.sec ∧
    (State.modXJob s k f).cores = s.cores ∧ (State.modXJob s k f).power = s.power ∧
    (State.modXJob s k f).faults = s.faults ∧ (State.modXJob s k f).maint = s.maint ∧
    (State.modXJob s k f).glob = s.glob := by
  unfold State.modXJob
  try dsimp only
  (repeat' split) <;> first | (simp; done) | (simp (disch := (intros; (repeat' split) <;> first | simp | skip)); done)

@[simp] theorem State.xEmit_frame (s : State) (k : Nat) (j : XJob) (e : Entry) (node : Nat) (bytes : List Byte) :
    (State.xEmit s k j e node bytes).pending = s.pending ∧ (State.xEmit s k j e node bytes).draws = s.draws ∧
    (State.xEmit s k j e node bytes).hbm = s.hbm ∧ (State.xEmit s k j e node bytes).pkg = s.pkg ∧
    (State.xEmit s k j e node bytes).flash = s.flash ∧ (State.xEmit s k j e node bytes).clocks = s.clocks ∧
    (State.xEmit s k j e node bytes).engines = s.engines ∧ (State.xEmit s k j e node bytes).slabs = s.slabs ∧
    (State.xEmit s k j e node bytes).plots = s.plots ∧ (State.xEmit s k j e node bytes).stash = s.stash ∧
    (State.xEmit s k j e node bytes).matJobs = s.matJobs ∧ (State.xEmit s k j e node bytes).vecJobs = s.vecJobs ∧
    (State.xEmit s k j e node bytes).puts = s.puts ∧ (State.xEmit s k j e node bytes).mgr = s.mgr ∧
    (State.xEmit s k j e node bytes).mac = s.mac ∧ (State.xEmit s k j e node bytes).pcie = s.pcie ∧
    (State.xEmit s k j e node bytes).sec = s.sec ∧ (State.xEmit s k j e node bytes).cores = s.cores ∧
    (State.xEmit s k j e node bytes).faults = s.faults ∧ (State.xEmit s k j e node bytes).maint = s.maint ∧
    (State.xEmit s k j e node bytes).glob = s.glob := by
  unfold State.xEmit
  try dsimp only
  (repeat' split) <;> first | (simp; done) | (simp (disch := (intros; (repeat' split) <;> first | simp | skip)); done)

@[simp] theorem State.xSend_frame (s : State) (k : Nat) (j : XJob) (e : Entry) (outs : List (Nat × List Byte)) :
    (State.xSend s k j e outs).pending = s.pending ∧ (State.xSend s k j e outs).draws = s.draws ∧
    (State.xSend s k j e outs).hbm = s.hbm ∧ (State.xSend s k j e outs).pkg = s.pkg ∧
    (State.xSend s k j e outs).flash = s.flash ∧ (State.xSend s k j e outs).clocks = s.clocks ∧
    (State.xSend s k j e outs).engines = s.engines ∧ (State.xSend s k j e outs).slabs = s.slabs ∧
    (State.xSend s k j e outs).plots = s.plots ∧ (State.xSend s k j e outs).stash = s.stash ∧
    (State.xSend s k j e outs).matJobs = s.matJobs ∧ (State.xSend s k j e outs).vecJobs = s.vecJobs ∧
    (State.xSend s k j e outs).puts = s.puts ∧ (State.xSend s k j e outs).mgr = s.mgr ∧
    (State.xSend s k j e outs).mac = s.mac ∧ (State.xSend s k j e outs).pcie = s.pcie ∧
    (State.xSend s k j e outs).sec = s.sec ∧ (State.xSend s k j e outs).cores = s.cores ∧
    (State.xSend s k j e outs).faults = s.faults ∧ (State.xSend s k j e outs).maint = s.maint ∧
    (State.xSend s k j e outs).glob = s.glob := by
  unfold State.xSend
  try dsimp only
  (repeat' split) <;> first | (simp; done) | (simp (disch := (intros; (repeat' split) <;> first | simp | skip)); done)

@[simp] theorem State.jobDies_frame (s : State) (k : Nat) (j : XJob) (f : Fail) :
    (State.jobDies s k j f).pending = s.pending ∧ (State.jobDies s k j f).draws = s.draws ∧
    (State.jobDies s k j f).host = s.host ∧ (State.jobDies s k j f).pkg = s.pkg ∧
    (State.jobDies s k j f).clocks = s.clocks ∧ (State.jobDies s k j f).engines = s.engines ∧
    (State.jobDies s k j f).slabs = s.slabs ∧ (State.jobDies s k j f).stash = s.stash ∧
    (State.jobDies s k j f).matJobs = s.matJobs ∧ (State.jobDies s k j f).vecJobs = s.vecJobs ∧
    (State.jobDies s k j f).puts = s.puts ∧ (State.jobDies s k j f).mgr = s.mgr ∧
    (State.jobDies s k j f).mac = s.mac ∧ (State.jobDies s k j f).sec = s.sec ∧
    (State.jobDies s k j f).cores = s.cores ∧ (State.jobDies s k j f).power = s.power ∧
    (State.jobDies s k j f).maint = s.maint ∧ (State.jobDies s k j f).glob = s.glob := by
  unfold State.jobDies
  try dsimp only
  (repeat' split) <;> first | (simp; done) | (simp (disch := (intros; (repeat' split) <;> first | simp | skip)); done)

@[simp] theorem State.readsTensor_frame (s : State) (p r h : Nat) :
    (State.readsTensor s p r h).pending = s.pending ∧ (State.readsTensor s p r h).draws = s.draws ∧
    (State.readsTensor s p r h).out = s.out ∧ (State.readsTensor s p r h).hbm = s.hbm ∧
    (State.readsTensor s p r h).host = s.host ∧ (State.readsTensor s p r h).pkg = s.pkg ∧
    (State.readsTensor s p r h).flash = s.flash ∧ (State.readsTensor s p r h).clocks = s.clocks ∧
    (State.readsTensor s p r h).engines = s.engines ∧ (State.readsTensor s p r h).slabs = s.slabs ∧
    (State.readsTensor s p r h).rings = s.rings ∧ (State.readsTensor s p r h).plots = s.plots ∧
    (State.readsTensor s p r h).stash = s.stash ∧ (State.readsTensor s p r h).matJobs = s.matJobs ∧
    (State.readsTensor s p r h).vecJobs = s.vecJobs ∧ (State.readsTensor s p r h).fabric = s.fabric ∧
    (State.readsTensor s p r h).ports = s.ports ∧ (State.readsTensor s p r h).puts = s.puts ∧
    (State.readsTensor s p r h).tags = s.tags ∧ (State.readsTensor s p r h).mgr = s.mgr ∧
    (State.readsTensor s p r h).mac = s.mac ∧ (State.readsTensor s p r h).pcie = s.pcie ∧
    (State.readsTensor s p r h).sec = s.sec ∧ (State.readsTensor s p r h).cores = s.cores ∧
    (State.readsTensor s p r h).faults = s.faults ∧ (State.readsTensor s p r h).maint = s.maint ∧
    (State.readsTensor s p r h).glob = s.glob := by
  unfold State.readsTensor
  try dsimp only
  (repeat' split) <;> first | (simp; done) | (simp (disch := (intros; (repeat' split) <;> first | simp | skip)); done)

@[simp] theorem State.epochDone_frame (s : State) (k : Nat) (j : XJob) :
    (State.epochDone s k j).pending = s.pending ∧ (State.epochDone s k j).draws = s.draws ∧
    (State.epochDone s k j).out = s.out ∧ (State.epochDone s k j).hbm = s.hbm ∧
    (State.epochDone s k j).host = s.host ∧ (State.epochDone s k j).pkg = s.pkg ∧
    (State.epochDone s k j).flash = s.flash ∧ (State.epochDone s k j).clocks = s.clocks ∧
    (State.epochDone s k j).engines = s.engines ∧ (State.epochDone s k j).slabs = s.slabs ∧
    (State.epochDone s k j).rings = s.rings ∧ (State.epochDone s k j).plots = s.plots ∧
    (State.epochDone s k j).stash = s.stash ∧ (State.epochDone s k j).matJobs = s.matJobs ∧
    (State.epochDone s k j).vecJobs = s.vecJobs ∧ (State.epochDone s k j).ports = s.ports ∧
    (State.epochDone s k j).puts = s.puts ∧ (State.epochDone s k j).tags = s.tags ∧
    (State.epochDone s k j).mgr = s.mgr ∧ (State.epochDone s k j).mac = s.mac ∧
    (State.epochDone s k j).pcie = s.pcie ∧ (State.epochDone s k j).sec = s.sec ∧
    (State.epochDone s k j).cores = s.cores ∧ (State.epochDone s k j).power = s.power ∧
    (State.epochDone s k j).faults = s.faults ∧ (State.epochDone s k j).maint = s.maint ∧
    (State.epochDone s k j).glob = s.glob := by
  unfold State.epochDone
  try dsimp only
  (repeat' split) <;> first | (simp; done) | (simp (disch := (intros; (repeat' split) <;> first | simp | skip)); done)

end Sys2Proof.Machine
end

