-- ==== Sys2Proof/Laws/FrameExchange.lean ====
section
/-! SUPPORT. Frames of the operations of Exchange. -/

namespace Sys2Proof.Machine

@[simp] theorem State.beginJob_frame (s : State) (k : Nat) (j : XJob) :
    (State.beginJob s k j).pending = s.pending ∧ (State.beginJob s k j).draws = s.draws ∧
    (State.beginJob s k j).out = s.out ∧ (State.beginJob s k j).regs = s.regs ∧
    (State.beginJob s k j).hbm = s.hbm ∧ (State.beginJob s k j).host = s.host ∧
    (State.beginJob s k j).pkg = s.pkg ∧ (State.beginJob s k j).flash = s.flash ∧
    (State.beginJob s k j).clocks = s.clocks ∧ (State.beginJob s k j).engines = s.engines ∧
    (State.beginJob s k j).slabs = s.slabs ∧ (State.beginJob s k j).rings = s.rings ∧
    (State.beginJob s k j).plots = s.plots ∧ (State.beginJob s k j).stash = s.stash ∧
    (State.beginJob s k j).matJobs = s.matJobs ∧ (State.beginJob s k j).vecJobs = s.vecJobs ∧
    (State.beginJob s k j).ports = s.ports ∧ (State.beginJob s k j).puts = s.puts ∧
    (State.beginJob s k j).tags = s.tags ∧ (State.beginJob s k j).mgr = s.mgr ∧
    (State.beginJob s k j).mac = s.mac ∧ (State.beginJob s k j).pcie = s.pcie ∧
    (State.beginJob s k j).sec = s.sec ∧ (State.beginJob s k j).cores = s.cores ∧
    (State.beginJob s k j).power = s.power ∧ (State.beginJob s k j).faults = s.faults ∧
    (State.beginJob s k j).maint = s.maint ∧ (State.beginJob s k j).glob = s.glob := by
  unfold State.beginJob
  try dsimp only
  (repeat' split) <;> first | (simp; done) | (simp (disch := (intros; (repeat' split) <;> first | simp | skip)); done)

@[simp] theorem State.endRows_frame (s : State) (k : Nat) (j : XJob) (st : Nat) :
    (State.endRows s k j st).pending = s.pending ∧ (State.endRows s k j st).draws = s.draws ∧
    (State.endRows s k j st).out = s.out ∧ (State.endRows s k j st).hbm = s.hbm ∧
    (State.endRows s k j st).host = s.host ∧ (State.endRows s k j st).pkg = s.pkg ∧
    (State.endRows s k j st).flash = s.flash ∧ (State.endRows s k j st).clocks = s.clocks ∧
    (State.endRows s k j st).engines = s.engines ∧ (State.endRows s k j st).slabs = s.slabs ∧
    (State.endRows s k j st).plots = s.plots ∧ (State.endRows s k j st).stash = s.stash ∧
    (State.endRows s k j st).matJobs = s.matJobs ∧ (State.endRows s k j st).vecJobs = s.vecJobs ∧
    (State.endRows s k j st).ports = s.ports ∧ (State.endRows s k j st).puts = s.puts ∧
    (State.endRows s k j st).mgr = s.mgr ∧ (State.endRows s k j st).mac = s.mac ∧
    (State.endRows s k j st).pcie = s.pcie ∧ (State.endRows s k j st).sec = s.sec ∧
    (State.endRows s k j st).cores = s.cores ∧ (State.endRows s k j st).power = s.power ∧
    (State.endRows s k j st).faults = s.faults ∧ (State.endRows s k j st).maint = s.maint ∧
    (State.endRows s k j st).glob = s.glob := by
  unfold State.endRows
  try dsimp only
  (repeat' split) <;> first | (simp; done) | (simp (disch := (intros; (repeat' split) <;> first | simp | skip)); done)

@[simp] theorem State.restoreDst_frame (s : State) (j : XJob) (e : Entry) :
    (State.restoreDst s j e).pending = s.pending ∧ (State.restoreDst s j e).draws = s.draws ∧
    (State.restoreDst s j e).out = s.out ∧ (State.restoreDst s j e).regs = s.regs ∧
    (State.restoreDst s j e).host = s.host ∧ (State.restoreDst s j e).pkg = s.pkg ∧
    (State.restoreDst s j e).flash = s.flash ∧ (State.restoreDst s j e).clocks = s.clocks ∧
    (State.restoreDst s j e).engines = s.engines ∧ (State.restoreDst s j e).slabs = s.slabs ∧
    (State.restoreDst s j e).rings = s.rings ∧ (State.restoreDst s j e).plots = s.plots ∧
    (State.restoreDst s j e).stash = s.stash ∧ (State.restoreDst s j e).matJobs = s.matJobs ∧
    (State.restoreDst s j e).vecJobs = s.vecJobs ∧ (State.restoreDst s j e).fabric = s.fabric ∧
    (State.restoreDst s j e).ports = s.ports ∧ (State.restoreDst s j e).puts = s.puts ∧
    (State.restoreDst s j e).tags = s.tags ∧ (State.restoreDst s j e).mgr = s.mgr ∧
    (State.restoreDst s j e).mac = s.mac ∧ (State.restoreDst s j e).pcie = s.pcie ∧
    (State.restoreDst s j e).sec = s.sec ∧ (State.restoreDst s j e).cores = s.cores ∧
    (State.restoreDst s j e).power = s.power ∧ (State.restoreDst s j e).faults = s.faults ∧
    (State.restoreDst s j e).maint = s.maint ∧ (State.restoreDst s j e).glob = s.glob := by
  unfold State.restoreDst
  try dsimp only
  (repeat' split) <;> first | (simp; done) | (simp (disch := (intros; (repeat' split) <;> first | simp | skip)); done)

end Sys2Proof.Machine
end

