-- ==== Sys2Proof/Laws/FrameSteps.lean ====
section
/-! SUPPORT. Frames of the operations of Steps. -/

namespace Sys2Proof.Machine

@[simp] theorem State.stepOpensWait_frame (s : State) (p r : Nat) :
    (State.stepOpensWait s p r).pending = s.pending ∧ (State.stepOpensWait s p r).draws = s.draws ∧
    (State.stepOpensWait s p r).out = s.out ∧ (State.stepOpensWait s p r).regs = s.regs ∧
    (State.stepOpensWait s p r).hbm = s.hbm ∧ (State.stepOpensWait s p r).host = s.host ∧
    (State.stepOpensWait s p r).pkg = s.pkg ∧ (State.stepOpensWait s p r).flash = s.flash ∧
    (State.stepOpensWait s p r).clocks = s.clocks ∧ (State.stepOpensWait s p r).engines = s.engines ∧
    (State.stepOpensWait s p r).slabs = s.slabs ∧ (State.stepOpensWait s p r).plots = s.plots ∧
    (State.stepOpensWait s p r).stash = s.stash ∧ (State.stepOpensWait s p r).matJobs = s.matJobs ∧
    (State.stepOpensWait s p r).vecJobs = s.vecJobs ∧ (State.stepOpensWait s p r).fabric = s.fabric ∧
    (State.stepOpensWait s p r).ports = s.ports ∧ (State.stepOpensWait s p r).puts = s.puts ∧
    (State.stepOpensWait s p r).tags = s.tags ∧ (State.stepOpensWait s p r).mgr = s.mgr ∧
    (State.stepOpensWait s p r).mac = s.mac ∧ (State.stepOpensWait s p r).pcie = s.pcie ∧
    (State.stepOpensWait s p r).sec = s.sec ∧ (State.stepOpensWait s p r).cores = s.cores ∧
    (State.stepOpensWait s p r).power = s.power ∧ (State.stepOpensWait s p r).faults = s.faults ∧
    (State.stepOpensWait s p r).maint = s.maint ∧ (State.stepOpensWait s p r).glob = s.glob := by
  unfold State.stepOpensWait
  try dsimp only
  (repeat' split) <;> first | (simp; done) | (simp (disch := (intros; (repeat' split) <;> first | simp | skip)); done)

@[simp] theorem State.atHead_frame (s : State) (r i : Nat) (member : Bool) (order : Nat) :
    (State.atHead s r i member order).pending = s.pending ∧ (State.atHead s r i member order).draws = s.draws ∧
    (State.atHead s r i member order).out = s.out ∧ (State.atHead s r i member order).regs = s.regs ∧
    (State.atHead s r i member order).hbm = s.hbm ∧ (State.atHead s r i member order).host = s.host ∧
    (State.atHead s r i member order).pkg = s.pkg ∧ (State.atHead s r i member order).flash = s.flash ∧
    (State.atHead s r i member order).clocks = s.clocks ∧ (State.atHead s r i member order).engines = s.engines ∧
    (State.atHead s r i member order).slabs = s.slabs ∧ (State.atHead s r i member order).plots = s.plots ∧
    (State.atHead s r i member order).stash = s.stash ∧ (State.atHead s r i member order).matJobs = s.matJobs ∧
    (State.atHead s r i member order).vecJobs = s.vecJobs ∧ (State.atHead s r i member order).fabric = s.fabric ∧
    (State.atHead s r i member order).ports = s.ports ∧ (State.atHead s r i member order).puts = s.puts ∧
    (State.atHead s r i member order).tags = s.tags ∧ (State.atHead s r i member order).mgr = s.mgr ∧
    (State.atHead s r i member order).mac = s.mac ∧ (State.atHead s r i member order).pcie = s.pcie ∧
    (State.atHead s r i member order).sec = s.sec ∧ (State.atHead s r i member order).cores = s.cores ∧
    (State.atHead s r i member order).power = s.power ∧ (State.atHead s r i member order).faults = s.faults ∧
    (State.atHead s r i member order).maint = s.maint ∧ (State.atHead s r i member order).glob = s.glob := by
  unfold State.atHead
  try dsimp only
  (repeat' split) <;> first | (simp; done) | (simp (disch := (intros; (repeat' split) <;> first | simp | skip)); done)

@[simp] theorem State.skipPhase_frame (s : State) (p : Nat) (e : Entry) (st : Nat) (flags : List Nat) :
    (State.skipPhase s p e st flags).pending = s.pending ∧ (State.skipPhase s p e st flags).draws = s.draws ∧
    (State.skipPhase s p e st flags).out = s.out ∧ (State.skipPhase s p e st flags).regs = s.regs ∧
    (State.skipPhase s p e st flags).hbm = s.hbm ∧ (State.skipPhase s p e st flags).host = s.host ∧
    (State.skipPhase s p e st flags).pkg = s.pkg ∧ (State.skipPhase s p e st flags).flash = s.flash ∧
    (State.skipPhase s p e st flags).clocks = s.clocks ∧ (State.skipPhase s p e st flags).engines = s.engines ∧
    (State.skipPhase s p e st flags).slabs = s.slabs ∧ (State.skipPhase s p e st flags).rings = s.rings ∧
    (State.skipPhase s p e st flags).stash = s.stash ∧ (State.skipPhase s p e st flags).matJobs = s.matJobs ∧
    (State.skipPhase s p e st flags).vecJobs = s.vecJobs ∧ (State.skipPhase s p e st flags).fabric = s.fabric ∧
    (State.skipPhase s p e st flags).ports = s.ports ∧ (State.skipPhase s p e st flags).puts = s.puts ∧
    (State.skipPhase s p e st flags).tags = s.tags ∧ (State.skipPhase s p e st flags).mgr = s.mgr ∧
    (State.skipPhase s p e st flags).mac = s.mac ∧ (State.skipPhase s p e st flags).pcie = s.pcie ∧
    (State.skipPhase s p e st flags).sec = s.sec ∧ (State.skipPhase s p e st flags).cores = s.cores ∧
    (State.skipPhase s p e st flags).power = s.power ∧ (State.skipPhase s p e st flags).faults = s.faults ∧
    (State.skipPhase s p e st flags).maint = s.maint ∧ (State.skipPhase s p e st flags).glob = s.glob := by
  unfold State.skipPhase
  try dsimp only
  (repeat' split) <;> first | (simp; done) | (simp (disch := (intros; (repeat' split) <;> first | simp | skip)); done)

@[simp] theorem State.gateLost_frame (s : State) (p : Nat) (e : Entry) :
    (State.gateLost s p e).pending = s.pending ∧ (State.gateLost s p e).draws = s.draws ∧
    (State.gateLost s p e).out = s.out ∧ (State.gateLost s p e).regs = s.regs ∧
    (State.gateLost s p e).hbm = s.hbm ∧ (State.gateLost s p e).host = s.host ∧
    (State.gateLost s p e).pkg = s.pkg ∧ (State.gateLost s p e).flash = s.flash ∧
    (State.gateLost s p e).clocks = s.clocks ∧ (State.gateLost s p e).engines = s.engines ∧
    (State.gateLost s p e).slabs = s.slabs ∧ (State.gateLost s p e).rings = s.rings ∧
    (State.gateLost s p e).stash = s.stash ∧ (State.gateLost s p e).matJobs = s.matJobs ∧
    (State.gateLost s p e).vecJobs = s.vecJobs ∧ (State.gateLost s p e).fabric = s.fabric ∧
    (State.gateLost s p e).ports = s.ports ∧ (State.gateLost s p e).puts = s.puts ∧
    (State.gateLost s p e).tags = s.tags ∧ (State.gateLost s p e).mgr = s.mgr ∧
    (State.gateLost s p e).mac = s.mac ∧ (State.gateLost s p e).pcie = s.pcie ∧
    (State.gateLost s p e).sec = s.sec ∧ (State.gateLost s p e).cores = s.cores ∧
    (State.gateLost s p e).power = s.power ∧ (State.gateLost s p e).faults = s.faults ∧
    (State.gateLost s p e).maint = s.maint ∧ (State.gateLost s p e).glob = s.glob := by
  unfold State.gateLost
  try dsimp only
  (repeat' split) <;> first | (simp; done) | (simp (disch := (intros; (repeat' split) <;> first | simp | skip)); done)

@[simp] theorem State.readOwnRange_frame (s : State) (p r : Nat) (e : Entry) :
    (State.readOwnRange s p r e).pending = s.pending ∧ (State.readOwnRange s p r e).draws = s.draws ∧
    (State.readOwnRange s p r e).host = s.host ∧ (State.readOwnRange s p r e).pkg = s.pkg ∧
    (State.readOwnRange s p r e).clocks = s.clocks ∧ (State.readOwnRange s p r e).engines = s.engines ∧
    (State.readOwnRange s p r e).slabs = s.slabs ∧ (State.readOwnRange s p r e).stash = s.stash ∧
    (State.readOwnRange s p r e).matJobs = s.matJobs ∧ (State.readOwnRange s p r e).vecJobs = s.vecJobs ∧
    (State.readOwnRange s p r e).fabric = s.fabric ∧ (State.readOwnRange s p r e).ports = s.ports ∧
    (State.readOwnRange s p r e).puts = s.puts ∧ (State.readOwnRange s p r e).tags = s.tags ∧
    (State.readOwnRange s p r e).mgr = s.mgr ∧ (State.readOwnRange s p r e).mac = s.mac ∧
    (State.readOwnRange s p r e).sec = s.sec ∧ (State.readOwnRange s p r e).cores = s.cores ∧
    (State.readOwnRange s p r e).power = s.power ∧ (State.readOwnRange s p r e).maint = s.maint ∧
    (State.readOwnRange s p r e).glob = s.glob := by
  unfold State.readOwnRange
  try dsimp only
  (repeat' split) <;> first | (simp; done) | (simp (disch := (intros; (repeat' split) <;> first | simp | skip)); done)

@[simp] theorem State.holdLinks_frame (s : State) (r i : Nat) (l : List (Nat × StashEntry)) :
    (State.holdLinks s r i l).pending = s.pending ∧ (State.holdLinks s r i l).draws = s.draws ∧
    (State.holdLinks s r i l).out = s.out ∧ (State.holdLinks s r i l).regs = s.regs ∧
    (State.holdLinks s r i l).hbm = s.hbm ∧ (State.holdLinks s r i l).host = s.host ∧
    (State.holdLinks s r i l).pkg = s.pkg ∧ (State.holdLinks s r i l).flash = s.flash ∧
    (State.holdLinks s r i l).clocks = s.clocks ∧ (State.holdLinks s r i l).engines = s.engines ∧
    (State.holdLinks s r i l).slabs = s.slabs ∧ (State.holdLinks s r i l).plots = s.plots ∧
    (State.holdLinks s r i l).stash = s.stash ∧ (State.holdLinks s r i l).matJobs = s.matJobs ∧
    (State.holdLinks s r i l).vecJobs = s.vecJobs ∧ (State.holdLinks s r i l).fabric = s.fabric ∧
    (State.holdLinks s r i l).ports = s.ports ∧ (State.holdLinks s r i l).puts = s.puts ∧
    (State.holdLinks s r i l).tags = s.tags ∧ (State.holdLinks s r i l).mgr = s.mgr ∧
    (State.holdLinks s r i l).mac = s.mac ∧ (State.holdLinks s r i l).pcie = s.pcie ∧
    (State.holdLinks s r i l).sec = s.sec ∧ (State.holdLinks s r i l).cores = s.cores ∧
    (State.holdLinks s r i l).power = s.power ∧ (State.holdLinks s r i l).faults = s.faults ∧
    (State.holdLinks s r i l).maint = s.maint ∧ (State.holdLinks s r i l).glob = s.glob := by
  unfold State.holdLinks
  try dsimp only
  (repeat' split) <;> first | (simp; done) | (simp (disch := (intros; (repeat' split) <;> first | simp | skip)); done)

@[simp] theorem State.stashLines_frame (s : State) (home : Nat) (reading : Bool) (l : List StashEntry) :
    (State.stashLines s home reading l).pending = s.pending ∧ (State.stashLines s home reading l).draws = s.draws ∧
    (State.stashLines s home reading l).out = s.out ∧ (State.stashLines s home reading l).hbm = s.hbm ∧
    (State.stashLines s home reading l).host = s.host ∧ (State.stashLines s home reading l).pkg = s.pkg ∧
    (State.stashLines s home reading l).flash = s.flash ∧ (State.stashLines s home reading l).clocks = s.clocks ∧
    (State.stashLines s home reading l).engines = s.engines ∧ (State.stashLines s home reading l).slabs = s.slabs ∧
    (State.stashLines s home reading l).rings = s.rings ∧ (State.stashLines s home reading l).plots = s.plots ∧
    (State.stashLines s home reading l).stash = s.stash ∧ (State.stashLines s home reading l).matJobs = s.matJobs ∧
    (State.stashLines s home reading l).vecJobs = s.vecJobs ∧
    (State.stashLines s home reading l).fabric = s.fabric ∧ (State.stashLines s home reading l).ports = s.ports ∧
    (State.stashLines s home reading l).puts = s.puts ∧ (State.stashLines s home reading l).tags = s.tags ∧
    (State.stashLines s home reading l).mgr = s.mgr ∧ (State.stashLines s home reading l).mac = s.mac ∧
    (State.stashLines s home reading l).pcie = s.pcie ∧ (State.stashLines s home reading l).sec = s.sec ∧
    (State.stashLines s home reading l).cores = s.cores ∧ (State.stashLines s home reading l).power = s.power ∧
    (State.stashLines s home reading l).faults = s.faults ∧ (State.stashLines s home reading l).maint = s.maint ∧
    (State.stashLines s home reading l).glob = s.glob := by
  unfold State.stashLines
  try dsimp only
  (repeat' split) <;> first | (simp; done) | (simp (disch := (intros; (repeat' split) <;> first | simp | skip)); done)

end Sys2Proof.Machine
end

