-- ==== Sys2Proof/Laws/FrameRings.lean ====
section
/-! SUPPORT. Frames of the operations of Rings. -/

namespace Sys2Proof.Machine

@[simp] theorem State.wakeUp_frame (s : State) :
    (State.wakeUp s).pending = s.pending ∧ (State.wakeUp s).draws = s.draws ∧ (State.wakeUp s).out = s.out ∧
    (State.wakeUp s).hbm = s.hbm ∧ (State.wakeUp s).host = s.host ∧ (State.wakeUp s).pkg = s.pkg ∧
    (State.wakeUp s).flash = s.flash ∧ (State.wakeUp s).clocks = s.clocks ∧ (State.wakeUp s).engines = s.engines ∧
    (State.wakeUp s).slabs = s.slabs ∧ (State.wakeUp s).rings = s.rings ∧ (State.wakeUp s).plots = s.plots ∧
    (State.wakeUp s).stash = s.stash ∧ (State.wakeUp s).matJobs = s.matJobs ∧
    (State.wakeUp s).vecJobs = s.vecJobs ∧ (State.wakeUp s).fabric = s.fabric ∧ (State.wakeUp s).ports = s.ports ∧
    (State.wakeUp s).puts = s.puts ∧ (State.wakeUp s).tags = s.tags ∧ (State.wakeUp s).mgr = s.mgr ∧
    (State.wakeUp s).mac = s.mac ∧ (State.wakeUp s).pcie = s.pcie ∧ (State.wakeUp s).sec = s.sec ∧
    (State.wakeUp s).cores = s.cores ∧ (State.wakeUp s).power = s.power ∧ (State.wakeUp s).faults = s.faults ∧
    (State.wakeUp s).maint = s.maint ∧ (State.wakeUp s).glob = s.glob := by
  unfold State.wakeUp
  try dsimp only
  (repeat' split) <;> first | (simp; done) | (simp (disch := (intros; (repeat' split) <;> first | simp | skip)); done)

@[simp] theorem doorbell_frame (s : State) (func ring : Nat) (tail high : Nat) :
    (doorbell s func ring tail high).pending = s.pending ∧ (doorbell s func ring tail high).draws = s.draws ∧
    (doorbell s func ring tail high).out = s.out ∧ (doorbell s func ring tail high).hbm = s.hbm ∧
    (doorbell s func ring tail high).host = s.host ∧ (doorbell s func ring tail high).pkg = s.pkg ∧
    (doorbell s func ring tail high).flash = s.flash ∧ (doorbell s func ring tail high).clocks = s.clocks ∧
    (doorbell s func ring tail high).engines = s.engines ∧ (doorbell s func ring tail high).slabs = s.slabs ∧
    (doorbell s func ring tail high).rings = s.rings ∧ (doorbell s func ring tail high).plots = s.plots ∧
    (doorbell s func ring tail high).stash = s.stash ∧ (doorbell s func ring tail high).matJobs = s.matJobs ∧
    (doorbell s func ring tail high).vecJobs = s.vecJobs ∧ (doorbell s func ring tail high).fabric = s.fabric ∧
    (doorbell s func ring tail high).ports = s.ports ∧ (doorbell s func ring tail high).puts = s.puts ∧
    (doorbell s func ring tail high).tags = s.tags ∧ (doorbell s func ring tail high).mgr = s.mgr ∧
    (doorbell s func ring tail high).mac = s.mac ∧ (doorbell s func ring tail high).pcie = s.pcie ∧
    (doorbell s func ring tail high).sec = s.sec ∧ (doorbell s func ring tail high).cores = s.cores ∧
    (doorbell s func ring tail high).power = s.power ∧ (doorbell s func ring tail high).faults = s.faults ∧
    (doorbell s func ring tail high).maint = s.maint ∧ (doorbell s func ring tail high).glob = s.glob := by
  unfold doorbell
  try dsimp only
  (repeat' split) <;> first | (simp; done) | (simp (disch := (intros; (repeat' split) <;> first | simp | skip)); done)

@[simp] theorem State.storeRingCfg_frame (s : State) (ring v : Nat) :
    (State.storeRingCfg s ring v).pending = s.pending ∧ (State.storeRingCfg s ring v).draws = s.draws ∧
    (State.storeRingCfg s ring v).out = s.out ∧ (State.storeRingCfg s ring v).hbm = s.hbm ∧
    (State.storeRingCfg s ring v).host = s.host ∧ (State.storeRingCfg s ring v).pkg = s.pkg ∧
    (State.storeRingCfg s ring v).flash = s.flash ∧ (State.storeRingCfg s ring v).clocks = s.clocks ∧
    (State.storeRingCfg s ring v).engines = s.engines ∧ (State.storeRingCfg s ring v).slabs = s.slabs ∧
    (State.storeRingCfg s ring v).rings = s.rings ∧ (State.storeRingCfg s ring v).plots = s.plots ∧
    (State.storeRingCfg s ring v).stash = s.stash ∧ (State.storeRingCfg s ring v).matJobs = s.matJobs ∧
    (State.storeRingCfg s ring v).vecJobs = s.vecJobs ∧ (State.storeRingCfg s ring v).fabric = s.fabric ∧
    (State.storeRingCfg s ring v).ports = s.ports ∧ (State.storeRingCfg s ring v).puts = s.puts ∧
    (State.storeRingCfg s ring v).tags = s.tags ∧ (State.storeRingCfg s ring v).mgr = s.mgr ∧
    (State.storeRingCfg s ring v).mac = s.mac ∧ (State.storeRingCfg s ring v).pcie = s.pcie ∧
    (State.storeRingCfg s ring v).sec = s.sec ∧ (State.storeRingCfg s ring v).cores = s.cores ∧
    (State.storeRingCfg s ring v).power = s.power ∧ (State.storeRingCfg s ring v).faults = s.faults ∧
    (State.storeRingCfg s ring v).maint = s.maint ∧ (State.storeRingCfg s ring v).glob = s.glob := by
  unfold State.storeRingCfg
  try dsimp only
  (repeat' split) <;> first | (simp; done) | (simp (disch := (intros; (repeat' split) <;> first | simp | skip)); done)

@[simp] theorem State.startRing_frame (s : State) (ring : Nat) :
    (State.startRing s ring).pending = s.pending ∧ (State.startRing s ring).draws = s.draws ∧
    (State.startRing s ring).out = s.out ∧ (State.startRing s ring).hbm = s.hbm ∧
    (State.startRing s ring).host = s.host ∧ (State.startRing s ring).pkg = s.pkg ∧
    (State.startRing s ring).flash = s.flash ∧ (State.startRing s ring).clocks = s.clocks ∧
    (State.startRing s ring).engines = s.engines ∧ (State.startRing s ring).slabs = s.slabs ∧
    (State.startRing s ring).plots = s.plots ∧ (State.startRing s ring).stash = s.stash ∧
    (State.startRing s ring).matJobs = s.matJobs ∧ (State.startRing s ring).vecJobs = s.vecJobs ∧
    (State.startRing s ring).fabric = s.fabric ∧ (State.startRing s ring).ports = s.ports ∧
    (State.startRing s ring).puts = s.puts ∧ (State.startRing s ring).tags = s.tags ∧
    (State.startRing s ring).mgr = s.mgr ∧ (State.startRing s ring).mac = s.mac ∧
    (State.startRing s ring).pcie = s.pcie ∧ (State.startRing s ring).sec = s.sec ∧
    (State.startRing s ring).cores = s.cores ∧ (State.startRing s ring).power = s.power ∧
    (State.startRing s ring).faults = s.faults ∧ (State.startRing s ring).maint = s.maint ∧
    (State.startRing s ring).glob = s.glob := by
  unfold State.startRing
  try dsimp only
  (repeat' split) <;> first | (simp; done) | (simp (disch := (intros; (repeat' split) <;> first | simp | skip)); done)

@[simp] theorem State.retireEffects_frame (s : State) (p : Nat) (e : Entry) :
    (State.retireEffects s p e).pending = s.pending ∧ (State.retireEffects s p e).draws = s.draws ∧
    (State.retireEffects s p e).out = s.out ∧ (State.retireEffects s p e).hbm = s.hbm ∧
    (State.retireEffects s p e).host = s.host ∧ (State.retireEffects s p e).pkg = s.pkg ∧
    (State.retireEffects s p e).flash = s.flash ∧ (State.retireEffects s p e).clocks = s.clocks ∧
    (State.retireEffects s p e).engines = s.engines ∧ (State.retireEffects s p e).rings = s.rings ∧
    (State.retireEffects s p e).matJobs = s.matJobs ∧ (State.retireEffects s p e).vecJobs = s.vecJobs ∧
    (State.retireEffects s p e).fabric = s.fabric ∧ (State.retireEffects s p e).ports = s.ports ∧
    (State.retireEffects s p e).puts = s.puts ∧ (State.retireEffects s p e).tags = s.tags ∧
    (State.retireEffects s p e).mgr = s.mgr ∧ (State.retireEffects s p e).mac = s.mac ∧
    (State.retireEffects s p e).pcie = s.pcie ∧ (State.retireEffects s p e).sec = s.sec ∧
    (State.retireEffects s p e).power = s.power ∧ (State.retireEffects s p e).faults = s.faults ∧
    (State.retireEffects s p e).maint = s.maint ∧ (State.retireEffects s p e).glob = s.glob := by
  unfold State.retireEffects
  try dsimp only
  (repeat' split) <;> first | (simp; done) | (simp (disch := (intros; (repeat' split) <;> first | simp | skip)); done)

@[simp] theorem State.complete_frame (s : State) (ring : Nat) (e : Entry) :
    (State.complete s ring e).pending = s.pending ∧ (State.complete s ring e).draws = s.draws ∧
    (State.complete s ring e).hbm = s.hbm ∧ (State.complete s ring e).pkg = s.pkg ∧
    (State.complete s ring e).flash = s.flash ∧ (State.complete s ring e).clocks = s.clocks ∧
    (State.complete s ring e).engines = s.engines ∧ (State.complete s ring e).slabs = s.slabs ∧
    (State.complete s ring e).plots = s.plots ∧ (State.complete s ring e).stash = s.stash ∧
    (State.complete s ring e).matJobs = s.matJobs ∧ (State.complete s ring e).vecJobs = s.vecJobs ∧
    (State.complete s ring e).fabric = s.fabric ∧ (State.complete s ring e).ports = s.ports ∧
    (State.complete s ring e).puts = s.puts ∧ (State.complete s ring e).tags = s.tags ∧
    (State.complete s ring e).mgr = s.mgr ∧ (State.complete s ring e).mac = s.mac ∧
    (State.complete s ring e).sec = s.sec ∧ (State.complete s ring e).cores = s.cores ∧
    (State.complete s ring e).power = s.power ∧ (State.complete s ring e).faults = s.faults ∧
    (State.complete s ring e).maint = s.maint ∧ (State.complete s ring e).glob = s.glob := by
  unfold State.complete
  try dsimp only
  (repeat' split) <;> first | (simp; done) | (simp (disch := (intros; (repeat' split) <;> first | simp | skip)); done)

@[simp] theorem State.settleReplays_frame (s : State) (ring : Nat) (e : Entry) :
    (State.settleReplays s ring e).pending = s.pending ∧ (State.settleReplays s ring e).draws = s.draws ∧
    (State.settleReplays s ring e).out = s.out ∧ (State.settleReplays s ring e).regs = s.regs ∧
    (State.settleReplays s ring e).hbm = s.hbm ∧ (State.settleReplays s ring e).host = s.host ∧
    (State.settleReplays s ring e).pkg = s.pkg ∧ (State.settleReplays s ring e).flash = s.flash ∧
    (State.settleReplays s ring e).clocks = s.clocks ∧ (State.settleReplays s ring e).engines = s.engines ∧
    (State.settleReplays s ring e).slabs = s.slabs ∧ (State.settleReplays s ring e).rings = s.rings ∧
    (State.settleReplays s ring e).plots = s.plots ∧ (State.settleReplays s ring e).stash = s.stash ∧
    (State.settleReplays s ring e).matJobs = s.matJobs ∧ (State.settleReplays s ring e).vecJobs = s.vecJobs ∧
    (State.settleReplays s ring e).fabric = s.fabric ∧ (State.settleReplays s ring e).ports = s.ports ∧
    (State.settleReplays s ring e).puts = s.puts ∧ (State.settleReplays s ring e).tags = s.tags ∧
    (State.settleReplays s ring e).mgr = s.mgr ∧ (State.settleReplays s ring e).mac = s.mac ∧
    (State.settleReplays s ring e).pcie = s.pcie ∧ (State.settleReplays s ring e).sec = s.sec ∧
    (State.settleReplays s ring e).cores = s.cores ∧ (State.settleReplays s ring e).power = s.power ∧
    (State.settleReplays s ring e).maint = s.maint ∧ (State.settleReplays s ring e).glob = s.glob := by
  unfold State.settleReplays
  try dsimp only
  (repeat' split) <;> first | (simp; done) | (simp (disch := (intros; (repeat' split) <;> first | simp | skip)); done)

@[simp] theorem State.stopEngines_frame (s : State) (ring idx : Nat) :
    (State.stopEngines s ring idx).pending = s.pending ∧ (State.stopEngines s ring idx).draws = s.draws ∧
    (State.stopEngines s ring idx).hbm = s.hbm ∧ (State.stopEngines s ring idx).host = s.host ∧
    (State.stopEngines s ring idx).pkg = s.pkg ∧ (State.stopEngines s ring idx).flash = s.flash ∧
    (State.stopEngines s ring idx).clocks = s.clocks ∧ (State.stopEngines s ring idx).slabs = s.slabs ∧
    (State.stopEngines s ring idx).rings = s.rings ∧ (State.stopEngines s ring idx).stash = s.stash ∧
    (State.stopEngines s ring idx).puts = s.puts ∧ (State.stopEngines s ring idx).mgr = s.mgr ∧
    (State.stopEngines s ring idx).mac = s.mac ∧ (State.stopEngines s ring idx).pcie = s.pcie ∧
    (State.stopEngines s ring idx).sec = s.sec ∧ (State.stopEngines s ring idx).power = s.power ∧
    (State.stopEngines s ring idx).faults = s.faults ∧ (State.stopEngines s ring idx).maint = s.maint ∧
    (State.stopEngines s ring idx).glob = s.glob := by
  unfold State.stopEngines
  try dsimp only
  (repeat' split) <;> first | (simp; done) | (simp (disch := (intros; (repeat' split) <;> first | simp | skip)); done)

@[simp] theorem State.stopWork_frame (s : State) (ring idx : Nat) :
    (State.stopWork s ring idx).pending = s.pending ∧ (State.stopWork s ring idx).draws = s.draws ∧
    (State.stopWork s ring idx).hbm = s.hbm ∧ (State.stopWork s ring idx).host = s.host ∧
    (State.stopWork s ring idx).pkg = s.pkg ∧ (State.stopWork s ring idx).flash = s.flash ∧
    (State.stopWork s ring idx).clocks = s.clocks ∧ (State.stopWork s ring idx).slabs = s.slabs ∧
    (State.stopWork s ring idx).rings = s.rings ∧ (State.stopWork s ring idx).stash = s.stash ∧
    (State.stopWork s ring idx).puts = s.puts ∧ (State.stopWork s ring idx).mgr = s.mgr ∧
    (State.stopWork s ring idx).mac = s.mac ∧ (State.stopWork s ring idx).pcie = s.pcie ∧
    (State.stopWork s ring idx).sec = s.sec ∧ (State.stopWork s ring idx).power = s.power ∧
    (State.stopWork s ring idx).faults = s.faults ∧ (State.stopWork s ring idx).maint = s.maint ∧
    (State.stopWork s ring idx).glob = s.glob := by
  unfold State.stopWork
  try dsimp only
  (repeat' split) <;> first | (simp; done) | (simp (disch := (intros; (repeat' split) <;> first | simp | skip)); done)

@[simp] theorem State.refuseBar2_frame (s : State) (reading : Bool) :
    (State.refuseBar2 s reading).pending = s.pending ∧ (State.refuseBar2 s reading).draws = s.draws ∧
    (State.refuseBar2 s reading).hbm = s.hbm ∧ (State.refuseBar2 s reading).host = s.host ∧
    (State.refuseBar2 s reading).pkg = s.pkg ∧ (State.refuseBar2 s reading).clocks = s.clocks ∧
    (State.refuseBar2 s reading).engines = s.engines ∧ (State.refuseBar2 s reading).slabs = s.slabs ∧
    (State.refuseBar2 s reading).rings = s.rings ∧ (State.refuseBar2 s reading).stash = s.stash ∧
    (State.refuseBar2 s reading).matJobs = s.matJobs ∧ (State.refuseBar2 s reading).vecJobs = s.vecJobs ∧
    (State.refuseBar2 s reading).fabric = s.fabric ∧ (State.refuseBar2 s reading).ports = s.ports ∧
    (State.refuseBar2 s reading).puts = s.puts ∧ (State.refuseBar2 s reading).tags = s.tags ∧
    (State.refuseBar2 s reading).mgr = s.mgr ∧ (State.refuseBar2 s reading).mac = s.mac ∧
    (State.refuseBar2 s reading).sec = s.sec ∧ (State.refuseBar2 s reading).cores = s.cores ∧
    (State.refuseBar2 s reading).power = s.power ∧ (State.refuseBar2 s reading).maint = s.maint ∧
    (State.refuseBar2 s reading).glob = s.glob := by
  unfold State.refuseBar2
  try dsimp only
  (repeat' split) <;> first | (simp; done) | (simp (disch := (intros; (repeat' split) <;> first | simp | skip)); done)

end Sys2Proof.Machine
end

