-- ==== Sys2Proof/Laws/FramePlotOps.lean ====
section
/-! SUPPORT. Frames of the operations of PlotOps. -/

namespace Sys2Proof.Machine

@[simp] theorem State.clearBanks_frame (s : State) (p : Nat) :
    (State.clearBanks s p).pending = s.pending ∧ (State.clearBanks s p).draws = s.draws ∧
    (State.clearBanks s p).out = s.out ∧ (State.clearBanks s p).regs = s.regs ∧
    (State.clearBanks s p).hbm = s.hbm ∧ (State.clearBanks s p).host = s.host ∧
    (State.clearBanks s p).flash = s.flash ∧ (State.clearBanks s p).clocks = s.clocks ∧
    (State.clearBanks s p).engines = s.engines ∧ (State.clearBanks s p).slabs = s.slabs ∧
    (State.clearBanks s p).rings = s.rings ∧ (State.clearBanks s p).plots = s.plots ∧
    (State.clearBanks s p).stash = s.stash ∧ (State.clearBanks s p).matJobs = s.matJobs ∧
    (State.clearBanks s p).vecJobs = s.vecJobs ∧ (State.clearBanks s p).fabric = s.fabric ∧
    (State.clearBanks s p).ports = s.ports ∧ (State.clearBanks s p).puts = s.puts ∧
    (State.clearBanks s p).tags = s.tags ∧ (State.clearBanks s p).mgr = s.mgr ∧
    (State.clearBanks s p).mac = s.mac ∧ (State.clearBanks s p).pcie = s.pcie ∧
    (State.clearBanks s p).sec = s.sec ∧ (State.clearBanks s p).power = s.power ∧
    (State.clearBanks s p).faults = s.faults ∧ (State.clearBanks s p).maint = s.maint := by
  unfold State.clearBanks
  try dsimp only
  (repeat' split) <;> first | (simp; done) | (simp (disch := (intros; (repeat' split) <;> first | simp | skip)); done)

@[simp] theorem State.cleanExtents_frame (s : State) (p : Nat) :
    (State.cleanExtents s p).pending = s.pending ∧ (State.cleanExtents s p).draws = s.draws ∧
    (State.cleanExtents s p).out = s.out ∧ (State.cleanExtents s p).regs = s.regs ∧
    (State.cleanExtents s p).host = s.host ∧ (State.cleanExtents s p).pkg = s.pkg ∧
    (State.cleanExtents s p).flash = s.flash ∧ (State.cleanExtents s p).clocks = s.clocks ∧
    (State.cleanExtents s p).engines = s.engines ∧ (State.cleanExtents s p).slabs = s.slabs ∧
    (State.cleanExtents s p).rings = s.rings ∧ (State.cleanExtents s p).plots = s.plots ∧
    (State.cleanExtents s p).stash = s.stash ∧ (State.cleanExtents s p).matJobs = s.matJobs ∧
    (State.cleanExtents s p).vecJobs = s.vecJobs ∧ (State.cleanExtents s p).fabric = s.fabric ∧
    (State.cleanExtents s p).ports = s.ports ∧ (State.cleanExtents s p).puts = s.puts ∧
    (State.cleanExtents s p).tags = s.tags ∧ (State.cleanExtents s p).mgr = s.mgr ∧
    (State.cleanExtents s p).mac = s.mac ∧ (State.cleanExtents s p).pcie = s.pcie ∧
    (State.cleanExtents s p).sec = s.sec ∧ (State.cleanExtents s p).cores = s.cores ∧
    (State.cleanExtents s p).power = s.power ∧ (State.cleanExtents s p).faults = s.faults ∧
    (State.cleanExtents s p).maint = s.maint ∧ (State.cleanExtents s p).glob = s.glob := by
  unfold State.cleanExtents
  try dsimp only
  (repeat' split) <;> first | (simp; done) | (simp (disch := (intros; (repeat' split) <;> first | simp | skip)); done)

@[simp] theorem State.seedEngines_frame (s : State) (p : Nat) :
    (State.seedEngines s p).pending = s.pending ∧ (State.seedEngines s p).out = s.out ∧
    (State.seedEngines s p).regs = s.regs ∧ (State.seedEngines s p).hbm = s.hbm ∧
    (State.seedEngines s p).host = s.host ∧ (State.seedEngines s p).pkg = s.pkg ∧
    (State.seedEngines s p).flash = s.flash ∧ (State.seedEngines s p).clocks = s.clocks ∧
    (State.seedEngines s p).slabs = s.slabs ∧ (State.seedEngines s p).rings = s.rings ∧
    (State.seedEngines s p).plots = s.plots ∧ (State.seedEngines s p).stash = s.stash ∧
    (State.seedEngines s p).matJobs = s.matJobs ∧ (State.seedEngines s p).vecJobs = s.vecJobs ∧
    (State.seedEngines s p).fabric = s.fabric ∧ (State.seedEngines s p).ports = s.ports ∧
    (State.seedEngines s p).puts = s.puts ∧ (State.seedEngines s p).tags = s.tags ∧
    (State.seedEngines s p).mgr = s.mgr ∧ (State.seedEngines s p).mac = s.mac ∧
    (State.seedEngines s p).pcie = s.pcie ∧ (State.seedEngines s p).sec = s.sec ∧
    (State.seedEngines s p).cores = s.cores ∧ (State.seedEngines s p).power = s.power ∧
    (State.seedEngines s p).faults = s.faults ∧ (State.seedEngines s p).maint = s.maint ∧
    (State.seedEngines s p).glob = s.glob := by
  unfold State.seedEngines
  try dsimp only
  (repeat' split) <;> first | (simp; done) | (simp (disch := (intros; (repeat' split) <;> first | simp | skip)); done)

@[simp] theorem State.voidHandles_frame (s : State) (p : Nat) :
    (State.voidHandles s p).pending = s.pending ∧ (State.voidHandles s p).draws = s.draws ∧
    (State.voidHandles s p).out = s.out ∧ (State.voidHandles s p).regs = s.regs ∧
    (State.voidHandles s p).hbm = s.hbm ∧ (State.voidHandles s p).host = s.host ∧
    (State.voidHandles s p).pkg = s.pkg ∧ (State.voidHandles s p).flash = s.flash ∧
    (State.voidHandles s p).clocks = s.clocks ∧ (State.voidHandles s p).engines = s.engines ∧
    (State.voidHandles s p).slabs = s.slabs ∧ (State.voidHandles s p).rings = s.rings ∧
    (State.voidHandles s p).stash = s.stash ∧ (State.voidHandles s p).matJobs = s.matJobs ∧
    (State.voidHandles s p).vecJobs = s.vecJobs ∧ (State.voidHandles s p).fabric = s.fabric ∧
    (State.voidHandles s p).ports = s.ports ∧ (State.voidHandles s p).puts = s.puts ∧
    (State.voidHandles s p).tags = s.tags ∧ (State.voidHandles s p).mgr = s.mgr ∧
    (State.voidHandles s p).mac = s.mac ∧ (State.voidHandles s p).pcie = s.pcie ∧
    (State.voidHandles s p).sec = s.sec ∧ (State.voidHandles s p).cores = s.cores ∧
    (State.voidHandles s p).power = s.power ∧ (State.voidHandles s p).faults = s.faults ∧
    (State.voidHandles s p).maint = s.maint ∧ (State.voidHandles s p).glob = s.glob := by
  unfold State.voidHandles
  try dsimp only
  (repeat' split) <;> first | (simp; done) | (simp (disch := (intros; (repeat' split) <;> first | simp | skip)); done)

@[simp] theorem State.freeSlabs_frame (s : State) (pick : Slab → Bool) :
    (State.freeSlabs s pick).pending = s.pending ∧ (State.freeSlabs s pick).draws = s.draws ∧
    (State.freeSlabs s pick).out = s.out ∧ (State.freeSlabs s pick).regs = s.regs ∧
    (State.freeSlabs s pick).hbm = s.hbm ∧ (State.freeSlabs s pick).host = s.host ∧
    (State.freeSlabs s pick).pkg = s.pkg ∧ (State.freeSlabs s pick).flash = s.flash ∧
    (State.freeSlabs s pick).clocks = s.clocks ∧ (State.freeSlabs s pick).engines = s.engines ∧
    (State.freeSlabs s pick).rings = s.rings ∧ (State.freeSlabs s pick).plots = s.plots ∧
    (State.freeSlabs s pick).stash = s.stash ∧ (State.freeSlabs s pick).matJobs = s.matJobs ∧
    (State.freeSlabs s pick).vecJobs = s.vecJobs ∧ (State.freeSlabs s pick).fabric = s.fabric ∧
    (State.freeSlabs s pick).ports = s.ports ∧ (State.freeSlabs s pick).tags = s.tags ∧
    (State.freeSlabs s pick).mgr = s.mgr ∧ (State.freeSlabs s pick).mac = s.mac ∧
    (State.freeSlabs s pick).pcie = s.pcie ∧ (State.freeSlabs s pick).sec = s.sec ∧
    (State.freeSlabs s pick).cores = s.cores ∧ (State.freeSlabs s pick).power = s.power ∧
    (State.freeSlabs s pick).faults = s.faults ∧ (State.freeSlabs s pick).maint = s.maint ∧
    (State.freeSlabs s pick).glob = s.glob := by
  unfold State.freeSlabs
  try dsimp only
  (repeat' split) <;> first | (simp; done) | (simp (disch := (intros; (repeat' split) <;> first | simp | skip)); done)

@[simp] theorem State.stopPlot_frame (s : State) (p : Nat) :
    (State.stopPlot s p).pending = s.pending ∧ (State.stopPlot s p).draws = s.draws ∧
    (State.stopPlot s p).hbm = s.hbm ∧ (State.stopPlot s p).host = s.host ∧ (State.stopPlot s p).pkg = s.pkg ∧
    (State.stopPlot s p).flash = s.flash ∧ (State.stopPlot s p).clocks = s.clocks ∧
    (State.stopPlot s p).slabs = s.slabs ∧ (State.stopPlot s p).rings = s.rings ∧
    (State.stopPlot s p).stash = s.stash ∧ (State.stopPlot s p).puts = s.puts ∧ (State.stopPlot s p).mgr = s.mgr ∧
    (State.stopPlot s p).mac = s.mac ∧ (State.stopPlot s p).pcie = s.pcie ∧ (State.stopPlot s p).sec = s.sec ∧
    (State.stopPlot s p).power = s.power ∧ (State.stopPlot s p).faults = s.faults ∧
    (State.stopPlot s p).maint = s.maint ∧ (State.stopPlot s p).glob = s.glob := by
  unfold State.stopPlot
  try dsimp only
  (repeat' split) <;> first | (simp; done) | (simp (disch := (intros; (repeat' split) <;> first | simp | skip)); done)

@[simp] theorem State.tellPlot_frame (s : State) (p : Nat) :
    (State.tellPlot s p).pending = s.pending ∧ (State.tellPlot s p).draws = s.draws ∧
    (State.tellPlot s p).regs = s.regs ∧ (State.tellPlot s p).hbm = s.hbm ∧ (State.tellPlot s p).host = s.host ∧
    (State.tellPlot s p).pkg = s.pkg ∧ (State.tellPlot s p).flash = s.flash ∧
    (State.tellPlot s p).clocks = s.clocks ∧ (State.tellPlot s p).engines = s.engines ∧
    (State.tellPlot s p).slabs = s.slabs ∧ (State.tellPlot s p).rings = s.rings ∧
    (State.tellPlot s p).plots = s.plots ∧ (State.tellPlot s p).stash = s.stash ∧
    (State.tellPlot s p).matJobs = s.matJobs ∧ (State.tellPlot s p).vecJobs = s.vecJobs ∧
    (State.tellPlot s p).fabric = s.fabric ∧ (State.tellPlot s p).ports = s.ports ∧
    (State.tellPlot s p).puts = s.puts ∧ (State.tellPlot s p).tags = s.tags ∧ (State.tellPlot s p).mgr = s.mgr ∧
    (State.tellPlot s p).mac = s.mac ∧ (State.tellPlot s p).sec = s.sec ∧ (State.tellPlot s p).cores = s.cores ∧
    (State.tellPlot s p).power = s.power ∧ (State.tellPlot s p).faults = s.faults ∧
    (State.tellPlot s p).maint = s.maint ∧ (State.tellPlot s p).glob = s.glob := by
  unfold State.tellPlot
  try dsimp only
  (repeat' split) <;> first | (simp; done) | (simp (disch := (intros; (repeat' split) <;> first | simp | skip)); done)

@[simp] theorem State.startReset_frame (s : State) (p : Nat) (clear flr release : Bool) :
    (State.startReset s p clear flr release).pending = s.pending ∧
    (State.startReset s p clear flr release).hbm = s.hbm ∧ (State.startReset s p clear flr release).host = s.host ∧
    (State.startReset s p clear flr release).pkg = s.pkg ∧
    (State.startReset s p clear flr release).flash = s.flash ∧
    (State.startReset s p clear flr release).clocks = s.clocks ∧
    (State.startReset s p clear flr release).slabs = s.slabs ∧
    (State.startReset s p clear flr release).rings = s.rings ∧
    (State.startReset s p clear flr release).stash = s.stash ∧
    (State.startReset s p clear flr release).puts = s.puts ∧ (State.startReset s p clear flr release).mac = s.mac ∧
    (State.startReset s p clear flr release).power = s.power ∧
    (State.startReset s p clear flr release).faults = s.faults ∧
    (State.startReset s p clear flr release).maint = s.maint ∧
    (State.startReset s p clear flr release).glob = s.glob := by
  unfold State.startReset
  try dsimp only
  (repeat' split) <;> first | (simp; done) | (simp (disch := (intros; (repeat' split) <;> first | simp | skip)); done)

@[simp] theorem State.retireMarked_frame (s : State) (p : Nat) :
    (State.retireMarked s p).pending = s.pending ∧ (State.retireMarked s p).draws = s.draws ∧
    (State.retireMarked s p).out = s.out ∧ (State.retireMarked s p).regs = s.regs ∧
    (State.retireMarked s p).host = s.host ∧ (State.retireMarked s p).flash = s.flash ∧
    (State.retireMarked s p).clocks = s.clocks ∧ (State.retireMarked s p).engines = s.engines ∧
    (State.retireMarked s p).slabs = s.slabs ∧ (State.retireMarked s p).rings = s.rings ∧
    (State.retireMarked s p).plots = s.plots ∧ (State.retireMarked s p).stash = s.stash ∧
    (State.retireMarked s p).matJobs = s.matJobs ∧ (State.retireMarked s p).vecJobs = s.vecJobs ∧
    (State.retireMarked s p).fabric = s.fabric ∧ (State.retireMarked s p).ports = s.ports ∧
    (State.retireMarked s p).puts = s.puts ∧ (State.retireMarked s p).tags = s.tags ∧
    (State.retireMarked s p).mgr = s.mgr ∧ (State.retireMarked s p).mac = s.mac ∧
    (State.retireMarked s p).pcie = s.pcie ∧ (State.retireMarked s p).sec = s.sec ∧
    (State.retireMarked s p).cores = s.cores ∧ (State.retireMarked s p).power = s.power ∧
    (State.retireMarked s p).faults = s.faults ∧ (State.retireMarked s p).maint = s.maint ∧
    (State.retireMarked s p).glob = s.glob := by
  unfold State.retireMarked
  try dsimp only
  (repeat' split) <;> first | (simp; done) | (simp (disch := (intros; (repeat' split) <;> first | simp | skip)); done)

@[simp] theorem State.releasePlot_frame (s : State) (p : Nat) :
    (State.releasePlot s p).pending = s.pending ∧ (State.releasePlot s p).draws = s.draws ∧
    (State.releasePlot s p).host = s.host ∧ (State.releasePlot s p).flash = s.flash ∧
    (State.releasePlot s p).clocks = s.clocks ∧ (State.releasePlot s p).engines = s.engines ∧
    (State.releasePlot s p).slabs = s.slabs ∧ (State.releasePlot s p).rings = s.rings ∧
    (State.releasePlot s p).stash = s.stash ∧ (State.releasePlot s p).matJobs = s.matJobs ∧
    (State.releasePlot s p).vecJobs = s.vecJobs ∧ (State.releasePlot s p).fabric = s.fabric ∧
    (State.releasePlot s p).ports = s.ports ∧ (State.releasePlot s p).puts = s.puts ∧
    (State.releasePlot s p).tags = s.tags ∧ (State.releasePlot s p).mgr = s.mgr ∧
    (State.releasePlot s p).mac = s.mac ∧ (State.releasePlot s p).sec = s.sec ∧
    (State.releasePlot s p).power = s.power ∧ (State.releasePlot s p).faults = s.faults ∧
    (State.releasePlot s p).maint = s.maint ∧ (State.releasePlot s p).glob = s.glob := by
  unfold State.releasePlot
  try dsimp only
  (repeat' split) <;> first | (simp; done) | (simp (disch := (intros; (repeat' split) <;> first | simp | skip)); done)

@[simp] theorem State.emptyStash_frame (s : State) (p : Nat) :
    (State.emptyStash s p).pending = s.pending ∧ (State.emptyStash s p).draws = s.draws ∧
    (State.emptyStash s p).out = s.out ∧ (State.emptyStash s p).hbm = s.hbm ∧
    (State.emptyStash s p).host = s.host ∧ (State.emptyStash s p).pkg = s.pkg ∧
    (State.emptyStash s p).flash = s.flash ∧ (State.emptyStash s p).clocks = s.clocks ∧
    (State.emptyStash s p).engines = s.engines ∧ (State.emptyStash s p).slabs = s.slabs ∧
    (State.emptyStash s p).rings = s.rings ∧ (State.emptyStash s p).matJobs = s.matJobs ∧
    (State.emptyStash s p).vecJobs = s.vecJobs ∧ (State.emptyStash s p).fabric = s.fabric ∧
    (State.emptyStash s p).ports = s.ports ∧ (State.emptyStash s p).puts = s.puts ∧
    (State.emptyStash s p).tags = s.tags ∧ (State.emptyStash s p).mgr = s.mgr ∧
    (State.emptyStash s p).mac = s.mac ∧ (State.emptyStash s p).pcie = s.pcie ∧
    (State.emptyStash s p).sec = s.sec ∧ (State.emptyStash s p).cores = s.cores ∧
    (State.emptyStash s p).power = s.power ∧ (State.emptyStash s p).faults = s.faults ∧
    (State.emptyStash s p).maint = s.maint ∧ (State.emptyStash s p).glob = s.glob := by
  unfold State.emptyStash
  try dsimp only
  (repeat' split) <;> first | (simp; done) | (simp (disch := (intros; (repeat' split) <;> first | simp | skip)); done)

@[simp] theorem State.drainPlot_frame (s : State) (p : Nat) (r : PlotReset) :
    (State.drainPlot s p r).pending = s.pending ∧ (State.drainPlot s p r).hbm = s.hbm ∧
    (State.drainPlot s p r).pkg = s.pkg ∧ (State.drainPlot s p r).flash = s.flash ∧
    (State.drainPlot s p r).clocks = s.clocks ∧ (State.drainPlot s p r).engines = s.engines ∧
    (State.drainPlot s p r).matJobs = s.matJobs ∧ (State.drainPlot s p r).vecJobs = s.vecJobs ∧
    (State.drainPlot s p r).mac = s.mac ∧ (State.drainPlot s p r).pcie = s.pcie ∧
    (State.drainPlot s p r).cores = s.cores ∧ (State.drainPlot s p r).faults = s.faults ∧
    (State.drainPlot s p r).maint = s.maint ∧ (State.drainPlot s p r).glob = s.glob := by
  unfold State.drainPlot
  try dsimp only
  (repeat' split) <;> first | (simp; done) | (simp (disch := (intros; (repeat' split) <;> first | simp | skip)); done)

@[simp] theorem State.finishReset_frame (s : State) (p : Nat) (r : PlotReset) :
    (State.finishReset s p r).pending = s.pending ∧ (State.finishReset s p r).host = s.host ∧
    (State.finishReset s p r).flash = s.flash ∧ (State.finishReset s p r).clocks = s.clocks ∧
    (State.finishReset s p r).slabs = s.slabs ∧ (State.finishReset s p r).rings = s.rings ∧
    (State.finishReset s p r).stash = s.stash ∧ (State.finishReset s p r).matJobs = s.matJobs ∧
    (State.finishReset s p r).vecJobs = s.vecJobs ∧ (State.finishReset s p r).fabric = s.fabric ∧
    (State.finishReset s p r).ports = s.ports ∧ (State.finishReset s p r).puts = s.puts ∧
    (State.finishReset s p r).tags = s.tags ∧ (State.finishReset s p r).mac = s.mac ∧
    (State.finishReset s p r).power = s.power ∧ (State.finishReset s p r).faults = s.faults ∧
    (State.finishReset s p r).maint = s.maint := by
  unfold State.finishReset
  try dsimp only
  (repeat' split) <;> first | (simp; done) | (simp (disch := (intros; (repeat' split) <;> first | simp | skip)); done)

@[simp] theorem State.c2Reset_frame (s : State) (p : Nat) (clear flr : Bool) :
    (State.c2Reset s p clear flr).pending = s.pending ∧ (State.c2Reset s p clear flr).hbm = s.hbm ∧
    (State.c2Reset s p clear flr).host = s.host ∧ (State.c2Reset s p clear flr).pkg = s.pkg ∧
    (State.c2Reset s p clear flr).clocks = s.clocks ∧ (State.c2Reset s p clear flr).slabs = s.slabs ∧
    (State.c2Reset s p clear flr).rings = s.rings ∧ (State.c2Reset s p clear flr).stash = s.stash ∧
    (State.c2Reset s p clear flr).puts = s.puts ∧ (State.c2Reset s p clear flr).mac = s.mac ∧
    (State.c2Reset s p clear flr).power = s.power ∧ (State.c2Reset s p clear flr).faults = s.faults ∧
    (State.c2Reset s p clear flr).maint = s.maint ∧ (State.c2Reset s p clear flr).glob = s.glob := by
  unfold State.c2Reset
  try dsimp only
  (repeat' split) <;> first | (simp; done) | (simp (disch := (intros; (repeat' split) <;> first | simp | skip)); done)

end Sys2Proof.Machine
end

