-- ==== Sys2Proof/Laws/FrameMgmt.lean ====
section
/-! SUPPORT. Frames of the operations of Mgmt. -/

namespace Sys2Proof.Machine

@[simp] theorem State.countBad_frame (s : State) (fcsOk aligned : Bool) (octets : Nat) :
    (State.countBad s fcsOk aligned octets).pending = s.pending ∧
    (State.countBad s fcsOk aligned octets).draws = s.draws ∧ (State.countBad s fcsOk aligned octets).out = s.out ∧
    (State.countBad s fcsOk aligned octets).hbm = s.hbm ∧ (State.countBad s fcsOk aligned octets).host = s.host ∧
    (State.countBad s fcsOk aligned octets).pkg = s.pkg ∧ (State.countBad s fcsOk aligned octets).flash = s.flash ∧
    (State.countBad s fcsOk aligned octets).clocks = s.clocks ∧
    (State.countBad s fcsOk aligned octets).engines = s.engines ∧
    (State.countBad s fcsOk aligned octets).slabs = s.slabs ∧
    (State.countBad s fcsOk aligned octets).rings = s.rings ∧
    (State.countBad s fcsOk aligned octets).plots = s.plots ∧
    (State.countBad s fcsOk aligned octets).stash = s.stash ∧
    (State.countBad s fcsOk aligned octets).matJobs = s.matJobs ∧
    (State.countBad s fcsOk aligned octets).vecJobs = s.vecJobs ∧
    (State.countBad s fcsOk aligned octets).fabric = s.fabric ∧
    (State.countBad s fcsOk aligned octets).ports = s.ports ∧
    (State.countBad s fcsOk aligned octets).puts = s.puts ∧ (State.countBad s fcsOk aligned octets).tags = s.tags ∧
    (State.countBad s fcsOk aligned octets).mgr = s.mgr ∧ (State.countBad s fcsOk aligned octets).mac = s.mac ∧
    (State.countBad s fcsOk aligned octets).pcie = s.pcie ∧ (State.countBad s fcsOk aligned octets).sec = s.sec ∧
    (State.countBad s fcsOk aligned octets).cores = s.cores ∧
    (State.countBad s fcsOk aligned octets).power = s.power ∧
    (State.countBad s fcsOk aligned octets).faults = s.faults ∧
    (State.countBad s fcsOk aligned octets).maint = s.maint ∧ (State.countBad s fcsOk aligned octets).glob = s.glob := by
  unfold State.countBad
  try dsimp only
  (repeat' split) <;> first | (simp; done) | (simp (disch := (intros; (repeat' split) <;> first | simp | skip)); done)

@[simp] theorem State.deliverFrame_frame (s : State) (flags : Nat) (frame : List Byte) :
    (State.deliverFrame s flags frame).pending = s.pending ∧ (State.deliverFrame s flags frame).draws = s.draws ∧
    (State.deliverFrame s flags frame).out = s.out ∧ (State.deliverFrame s flags frame).regs = s.regs ∧
    (State.deliverFrame s flags frame).hbm = s.hbm ∧ (State.deliverFrame s flags frame).host = s.host ∧
    (State.deliverFrame s flags frame).pkg = s.pkg ∧ (State.deliverFrame s flags frame).flash = s.flash ∧
    (State.deliverFrame s flags frame).clocks = s.clocks ∧ (State.deliverFrame s flags frame).engines = s.engines ∧
    (State.deliverFrame s flags frame).slabs = s.slabs ∧ (State.deliverFrame s flags frame).rings = s.rings ∧
    (State.deliverFrame s flags frame).plots = s.plots ∧ (State.deliverFrame s flags frame).stash = s.stash ∧
    (State.deliverFrame s flags frame).matJobs = s.matJobs ∧
    (State.deliverFrame s flags frame).vecJobs = s.vecJobs ∧ (State.deliverFrame s flags frame).fabric = s.fabric ∧
    (State.deliverFrame s flags frame).ports = s.ports ∧ (State.deliverFrame s flags frame).puts = s.puts ∧
    (State.deliverFrame s flags frame).tags = s.tags ∧ (State.deliverFrame s flags frame).mgr = s.mgr ∧
    (State.deliverFrame s flags frame).pcie = s.pcie ∧ (State.deliverFrame s flags frame).sec = s.sec ∧
    (State.deliverFrame s flags frame).cores = s.cores ∧ (State.deliverFrame s flags frame).power = s.power ∧
    (State.deliverFrame s flags frame).faults = s.faults ∧ (State.deliverFrame s flags frame).maint = s.maint ∧
    (State.deliverFrame s flags frame).glob = s.glob := by
  unfold State.deliverFrame
  try dsimp only
  (repeat' split) <;> first | (simp; done) | (simp (disch := (intros; (repeat' split) <;> first | simp | skip)); done)

@[simp] theorem State.takePlcaId_frame (s : State) :
    (State.takePlcaId s).pending = s.pending ∧ (State.takePlcaId s).draws = s.draws ∧
    (State.takePlcaId s).out = s.out ∧ (State.takePlcaId s).regs = s.regs ∧ (State.takePlcaId s).hbm = s.hbm ∧
    (State.takePlcaId s).host = s.host ∧ (State.takePlcaId s).pkg = s.pkg ∧ (State.takePlcaId s).flash = s.flash ∧
    (State.takePlcaId s).clocks = s.clocks ∧ (State.takePlcaId s).engines = s.engines ∧
    (State.takePlcaId s).slabs = s.slabs ∧ (State.takePlcaId s).rings = s.rings ∧
    (State.takePlcaId s).plots = s.plots ∧ (State.takePlcaId s).stash = s.stash ∧
    (State.takePlcaId s).matJobs = s.matJobs ∧ (State.takePlcaId s).vecJobs = s.vecJobs ∧
    (State.takePlcaId s).fabric = s.fabric ∧ (State.takePlcaId s).ports = s.ports ∧
    (State.takePlcaId s).puts = s.puts ∧ (State.takePlcaId s).tags = s.tags ∧ (State.takePlcaId s).mgr = s.mgr ∧
    (State.takePlcaId s).pcie = s.pcie ∧ (State.takePlcaId s).sec = s.sec ∧ (State.takePlcaId s).cores = s.cores ∧
    (State.takePlcaId s).power = s.power ∧ (State.takePlcaId s).faults = s.faults ∧
    (State.takePlcaId s).maint = s.maint ∧ (State.takePlcaId s).glob = s.glob := by
  unfold State.takePlcaId
  try dsimp only
  (repeat' split) <;> first | (simp; done) | (simp (disch := (intros; (repeat' split) <;> first | simp | skip)); done)

@[simp] theorem State.opportunity_frame (s : State) :
    (State.opportunity s).pending = s.pending ∧ (State.opportunity s).draws = s.draws ∧
    (State.opportunity s).regs = s.regs ∧ (State.opportunity s).hbm = s.hbm ∧ (State.opportunity s).host = s.host ∧
    (State.opportunity s).pkg = s.pkg ∧ (State.opportunity s).flash = s.flash ∧
    (State.opportunity s).clocks = s.clocks ∧ (State.opportunity s).engines = s.engines ∧
    (State.opportunity s).slabs = s.slabs ∧ (State.opportunity s).rings = s.rings ∧
    (State.opportunity s).plots = s.plots ∧ (State.opportunity s).stash = s.stash ∧
    (State.opportunity s).matJobs = s.matJobs ∧ (State.opportunity s).vecJobs = s.vecJobs ∧
    (State.opportunity s).fabric = s.fabric ∧ (State.opportunity s).ports = s.ports ∧
    (State.opportunity s).puts = s.puts ∧ (State.opportunity s).tags = s.tags ∧ (State.opportunity s).mgr = s.mgr ∧
    (State.opportunity s).pcie = s.pcie ∧ (State.opportunity s).sec = s.sec ∧
    (State.opportunity s).cores = s.cores ∧ (State.opportunity s).power = s.power ∧
    (State.opportunity s).faults = s.faults ∧ (State.opportunity s).maint = s.maint ∧
    (State.opportunity s).glob = s.glob := by
  unfold State.opportunity
  try dsimp only
  (repeat' split) <;> first | (simp; done) | (simp (disch := (intros; (repeat' split) <;> first | simp | skip)); done)

@[simp] theorem State.viaLead_frame (s : State) (copse : Nat) (c : Ctrl) :
    (State.viaLead s copse c).pending = s.pending ∧ (State.viaLead s copse c).draws = s.draws ∧
    (State.viaLead s copse c).regs = s.regs ∧ (State.viaLead s copse c).hbm = s.hbm ∧
    (State.viaLead s copse c).host = s.host ∧ (State.viaLead s copse c).pkg = s.pkg ∧
    (State.viaLead s copse c).flash = s.flash ∧ (State.viaLead s copse c).clocks = s.clocks ∧
    (State.viaLead s copse c).engines = s.engines ∧ (State.viaLead s copse c).slabs = s.slabs ∧
    (State.viaLead s copse c).rings = s.rings ∧ (State.viaLead s copse c).plots = s.plots ∧
    (State.viaLead s copse c).stash = s.stash ∧ (State.viaLead s copse c).matJobs = s.matJobs ∧
    (State.viaLead s copse c).vecJobs = s.vecJobs ∧ (State.viaLead s copse c).fabric = s.fabric ∧
    (State.viaLead s copse c).puts = s.puts ∧ (State.viaLead s copse c).tags = s.tags ∧
    (State.viaLead s copse c).mgr = s.mgr ∧ (State.viaLead s copse c).pcie = s.pcie ∧
    (State.viaLead s copse c).sec = s.sec ∧ (State.viaLead s copse c).cores = s.cores ∧
    (State.viaLead s copse c).power = s.power ∧ (State.viaLead s copse c).faults = s.faults ∧
    (State.viaLead s copse c).maint = s.maint ∧ (State.viaLead s copse c).glob = s.glob := by
  unfold State.viaLead
  try dsimp only
  (repeat' split) <;> first | (simp; done) | (simp (disch := (intros; (repeat' split) <;> first | simp | skip)); done)

@[simp] theorem State.ensureStandby_frame (s : State) (gone : Option Nat) :
    (State.ensureStandby s gone).pending = s.pending ∧ (State.ensureStandby s gone).draws = s.draws ∧
    (State.ensureStandby s gone).out = s.out ∧ (State.ensureStandby s gone).regs = s.regs ∧
    (State.ensureStandby s gone).hbm = s.hbm ∧ (State.ensureStandby s gone).host = s.host ∧
    (State.ensureStandby s gone).pkg = s.pkg ∧ (State.ensureStandby s gone).flash = s.flash ∧
    (State.ensureStandby s gone).clocks = s.clocks ∧ (State.ensureStandby s gone).engines = s.engines ∧
    (State.ensureStandby s gone).slabs = s.slabs ∧ (State.ensureStandby s gone).rings = s.rings ∧
    (State.ensureStandby s gone).plots = s.plots ∧ (State.ensureStandby s gone).stash = s.stash ∧
    (State.ensureStandby s gone).matJobs = s.matJobs ∧ (State.ensureStandby s gone).vecJobs = s.vecJobs ∧
    (State.ensureStandby s gone).fabric = s.fabric ∧ (State.ensureStandby s gone).ports = s.ports ∧
    (State.ensureStandby s gone).puts = s.puts ∧ (State.ensureStandby s gone).tags = s.tags ∧
    (State.ensureStandby s gone).mac = s.mac ∧ (State.ensureStandby s gone).pcie = s.pcie ∧
    (State.ensureStandby s gone).sec = s.sec ∧ (State.ensureStandby s gone).cores = s.cores ∧
    (State.ensureStandby s gone).power = s.power ∧ (State.ensureStandby s gone).faults = s.faults ∧
    (State.ensureStandby s gone).maint = s.maint ∧ (State.ensureStandby s gone).glob = s.glob := by
  unfold State.ensureStandby
  try dsimp only
  (repeat' split) <;> first | (simp; done) | (simp (disch := (intros; (repeat' split) <;> first | simp | skip)); done)

@[simp] theorem State.appoint_frame (s : State) :
    (State.appoint s).pending = s.pending ∧ (State.appoint s).out = s.out ∧ (State.appoint s).hbm = s.hbm ∧
    (State.appoint s).host = s.host ∧ (State.appoint s).pkg = s.pkg ∧ (State.appoint s).flash = s.flash ∧
    (State.appoint s).clocks = s.clocks ∧ (State.appoint s).engines = s.engines ∧
    (State.appoint s).slabs = s.slabs ∧ (State.appoint s).rings = s.rings ∧ (State.appoint s).plots = s.plots ∧
    (State.appoint s).stash = s.stash ∧ (State.appoint s).matJobs = s.matJobs ∧
    (State.appoint s).vecJobs = s.vecJobs ∧ (State.appoint s).fabric = s.fabric ∧
    (State.appoint s).ports = s.ports ∧ (State.appoint s).puts = s.puts ∧ (State.appoint s).tags = s.tags ∧
    (State.appoint s).mac = s.mac ∧ (State.appoint s).pcie = s.pcie ∧ (State.appoint s).sec = s.sec ∧
    (State.appoint s).cores = s.cores ∧ (State.appoint s).power = s.power ∧ (State.appoint s).faults = s.faults ∧
    (State.appoint s).maint = s.maint ∧ (State.appoint s).glob = s.glob := by
  unfold State.appoint
  try dsimp only
  (repeat' split) <;> first | (simp; done) | (simp (disch := (intros; (repeat' split) <;> first | simp | skip)); done)

@[simp] theorem State.raiseEpoch_frame (s : State) :
    (State.raiseEpoch s).pending = s.pending ∧ (State.raiseEpoch s).out = s.out ∧
    (State.raiseEpoch s).hbm = s.hbm ∧ (State.raiseEpoch s).host = s.host ∧ (State.raiseEpoch s).pkg = s.pkg ∧
    (State.raiseEpoch s).flash = s.flash ∧ (State.raiseEpoch s).clocks = s.clocks ∧
    (State.raiseEpoch s).engines = s.engines ∧ (State.raiseEpoch s).slabs = s.slabs ∧
    (State.raiseEpoch s).rings = s.rings ∧ (State.raiseEpoch s).plots = s.plots ∧
    (State.raiseEpoch s).stash = s.stash ∧ (State.raiseEpoch s).matJobs = s.matJobs ∧
    (State.raiseEpoch s).vecJobs = s.vecJobs ∧ (State.raiseEpoch s).fabric = s.fabric ∧
    (State.raiseEpoch s).ports = s.ports ∧ (State.raiseEpoch s).puts = s.puts ∧
    (State.raiseEpoch s).tags = s.tags ∧ (State.raiseEpoch s).mac = s.mac ∧ (State.raiseEpoch s).pcie = s.pcie ∧
    (State.raiseEpoch s).sec = s.sec ∧ (State.raiseEpoch s).cores = s.cores ∧
    (State.raiseEpoch s).power = s.power ∧ (State.raiseEpoch s).faults = s.faults ∧
    (State.raiseEpoch s).maint = s.maint ∧ (State.raiseEpoch s).glob = s.glob := by
  unfold State.raiseEpoch
  try dsimp only
  (repeat' split) <;> first | (simp; done) | (simp (disch := (intros; (repeat' split) <;> first | simp | skip)); done)

@[simp] theorem State.sendTables_frame (s : State) :
    (State.sendTables s).pending = s.pending ∧ (State.sendTables s).draws = s.draws ∧
    (State.sendTables s).regs = s.regs ∧ (State.sendTables s).hbm = s.hbm ∧ (State.sendTables s).host = s.host ∧
    (State.sendTables s).pkg = s.pkg ∧ (State.sendTables s).flash = s.flash ∧
    (State.sendTables s).clocks = s.clocks ∧ (State.sendTables s).engines = s.engines ∧
    (State.sendTables s).slabs = s.slabs ∧ (State.sendTables s).rings = s.rings ∧
    (State.sendTables s).plots = s.plots ∧ (State.sendTables s).stash = s.stash ∧
    (State.sendTables s).matJobs = s.matJobs ∧ (State.sendTables s).vecJobs = s.vecJobs ∧
    (State.sendTables s).fabric = s.fabric ∧ (State.sendTables s).puts = s.puts ∧
    (State.sendTables s).tags = s.tags ∧ (State.sendTables s).mgr = s.mgr ∧ (State.sendTables s).mac = s.mac ∧
    (State.sendTables s).pcie = s.pcie ∧ (State.sendTables s).sec = s.sec ∧ (State.sendTables s).cores = s.cores ∧
    (State.sendTables s).power = s.power ∧ (State.sendTables s).faults = s.faults ∧
    (State.sendTables s).maint = s.maint ∧ (State.sendTables s).glob = s.glob := by
  unfold State.sendTables
  try dsimp only
  (repeat' split) <;> first | (simp; done) | (simp (disch := (intros; (repeat' split) <;> first | simp | skip)); done)

@[simp] theorem State.newEpoch_frame (s : State) :
    (State.newEpoch s).pending = s.pending ∧ (State.newEpoch s).hbm = s.hbm ∧ (State.newEpoch s).host = s.host ∧
    (State.newEpoch s).pkg = s.pkg ∧ (State.newEpoch s).flash = s.flash ∧ (State.newEpoch s).clocks = s.clocks ∧
    (State.newEpoch s).engines = s.engines ∧ (State.newEpoch s).slabs = s.slabs ∧
    (State.newEpoch s).rings = s.rings ∧ (State.newEpoch s).plots = s.plots ∧ (State.newEpoch s).stash = s.stash ∧
    (State.newEpoch s).matJobs = s.matJobs ∧ (State.newEpoch s).vecJobs = s.vecJobs ∧
    (State.newEpoch s).fabric = s.fabric ∧ (State.newEpoch s).puts = s.puts ∧ (State.newEpoch s).tags = s.tags ∧
    (State.newEpoch s).mac = s.mac ∧ (State.newEpoch s).pcie = s.pcie ∧ (State.newEpoch s).sec = s.sec ∧
    (State.newEpoch s).cores = s.cores ∧ (State.newEpoch s).power = s.power ∧
    (State.newEpoch s).faults = s.faults ∧ (State.newEpoch s).maint = s.maint ∧ (State.newEpoch s).glob = s.glob := by
  unfold State.newEpoch
  try dsimp only
  (repeat' split) <;> first | (simp; done) | (simp (disch := (intros; (repeat' split) <;> first | simp | skip)); done)

@[simp] theorem State.relayAnswer_frame (s : State) (c : Ctrl) :
    (State.relayAnswer s c).pending = s.pending ∧ (State.relayAnswer s c).draws = s.draws ∧
    (State.relayAnswer s c).regs = s.regs ∧ (State.relayAnswer s c).hbm = s.hbm ∧
    (State.relayAnswer s c).host = s.host ∧ (State.relayAnswer s c).pkg = s.pkg ∧
    (State.relayAnswer s c).flash = s.flash ∧ (State.relayAnswer s c).clocks = s.clocks ∧
    (State.relayAnswer s c).engines = s.engines ∧ (State.relayAnswer s c).slabs = s.slabs ∧
    (State.relayAnswer s c).rings = s.rings ∧ (State.relayAnswer s c).plots = s.plots ∧
    (State.relayAnswer s c).stash = s.stash ∧ (State.relayAnswer s c).matJobs = s.matJobs ∧
    (State.relayAnswer s c).vecJobs = s.vecJobs ∧ (State.relayAnswer s c).fabric = s.fabric ∧
    (State.relayAnswer s c).puts = s.puts ∧ (State.relayAnswer s c).tags = s.tags ∧
    (State.relayAnswer s c).mgr = s.mgr ∧ (State.relayAnswer s c).mac = s.mac ∧
    (State.relayAnswer s c).pcie = s.pcie ∧ (State.relayAnswer s c).sec = s.sec ∧
    (State.relayAnswer s c).cores = s.cores ∧ (State.relayAnswer s c).power = s.power ∧
    (State.relayAnswer s c).faults = s.faults ∧ (State.relayAnswer s c).maint = s.maint ∧
    (State.relayAnswer s c).glob = s.glob := by
  unfold State.relayAnswer
  try dsimp only
  (repeat' split) <;> first | (simp; done) | (simp (disch := (intros; (repeat' split) <;> first | simp | skip)); done)

@[simp] theorem State.answerJoin_frame (s : State) (copse : Nat) (c : Ctrl) :
    (State.answerJoin s copse c).pending = s.pending ∧ (State.answerJoin s copse c).draws = s.draws ∧
    (State.answerJoin s copse c).regs = s.regs ∧ (State.answerJoin s copse c).hbm = s.hbm ∧
    (State.answerJoin s copse c).host = s.host ∧ (State.answerJoin s copse c).pkg = s.pkg ∧
    (State.answerJoin s copse c).flash = s.flash ∧ (State.answerJoin s copse c).clocks = s.clocks ∧
    (State.answerJoin s copse c).engines = s.engines ∧ (State.answerJoin s copse c).slabs = s.slabs ∧
    (State.answerJoin s copse c).rings = s.rings ∧ (State.answerJoin s copse c).plots = s.plots ∧
    (State.answerJoin s copse c).stash = s.stash ∧ (State.answerJoin s copse c).matJobs = s.matJobs ∧
    (State.answerJoin s copse c).vecJobs = s.vecJobs ∧ (State.answerJoin s copse c).fabric = s.fabric ∧
    (State.answerJoin s copse c).puts = s.puts ∧ (State.answerJoin s copse c).tags = s.tags ∧
    (State.answerJoin s copse c).mgr = s.mgr ∧ (State.answerJoin s copse c).mac = s.mac ∧
    (State.answerJoin s copse c).pcie = s.pcie ∧ (State.answerJoin s copse c).sec = s.sec ∧
    (State.answerJoin s copse c).cores = s.cores ∧ (State.answerJoin s copse c).power = s.power ∧
    (State.answerJoin s copse c).faults = s.faults ∧ (State.answerJoin s copse c).maint = s.maint ∧
    (State.answerJoin s copse c).glob = s.glob := by
  unfold State.answerJoin
  try dsimp only
  (repeat' split) <;> first | (simp; done) | (simp (disch := (intros; (repeat' split) <;> first | simp | skip)); done)

@[simp] theorem State.decideJoin_frame (s : State) (devId copse : Nat) (partners : List Nat) :
    (State.decideJoin s devId copse partners).pending = s.pending ∧
    (State.decideJoin s devId copse partners).host = s.host ∧
    (State.decideJoin s devId copse partners).pkg = s.pkg ∧
    (State.decideJoin s devId copse partners).clocks = s.clocks ∧
    (State.decideJoin s devId copse partners).engines = s.engines ∧
    (State.decideJoin s devId copse partners).slabs = s.slabs ∧
    (State.decideJoin s devId copse partners).rings = s.rings ∧
    (State.decideJoin s devId copse partners).plots = s.plots ∧
    (State.decideJoin s devId copse partners).stash = s.stash ∧
    (State.decideJoin s devId copse partners).matJobs = s.matJobs ∧
    (State.decideJoin s devId copse partners).vecJobs = s.vecJobs ∧
    (State.decideJoin s devId copse partners).fabric = s.fabric ∧
    (State.decideJoin s devId copse partners).puts = s.puts ∧
    (State.decideJoin s devId copse partners).tags = s.tags ∧
    (State.decideJoin s devId copse partners).mac = s.mac ∧
    (State.decideJoin s devId copse partners).pcie = s.pcie ∧
    (State.decideJoin s devId copse partners).sec = s.sec ∧
    (State.decideJoin s devId copse partners).cores = s.cores ∧
    (State.decideJoin s devId copse partners).power = s.power ∧
    (State.decideJoin s devId copse partners).faults = s.faults ∧
    (State.decideJoin s devId copse partners).maint = s.maint ∧
    (State.decideJoin s devId copse partners).glob = s.glob := by
  unfold State.decideJoin
  try dsimp only
  (repeat' split) <;> first | (simp; done) | (simp (disch := (intros; (repeat' split) <;> first | simp | skip)); done)

@[simp] theorem State.grantLeave_frame (s : State) (n : Nat) :
    (State.grantLeave s n).pending = s.pending ∧ (State.grantLeave s n).hbm = s.hbm ∧
    (State.grantLeave s n).host = s.host ∧ (State.grantLeave s n).pkg = s.pkg ∧
    (State.grantLeave s n).flash = s.flash ∧ (State.grantLeave s n).clocks = s.clocks ∧
    (State.grantLeave s n).engines = s.engines ∧ (State.grantLeave s n).slabs = s.slabs ∧
    (State.grantLeave s n).rings = s.rings ∧ (State.grantLeave s n).plots = s.plots ∧
    (State.grantLeave s n).stash = s.stash ∧ (State.grantLeave s n).matJobs = s.matJobs ∧
    (State.grantLeave s n).vecJobs = s.vecJobs ∧ (State.grantLeave s n).fabric = s.fabric ∧
    (State.grantLeave s n).puts = s.puts ∧ (State.grantLeave s n).tags = s.tags ∧
    (State.grantLeave s n).mac = s.mac ∧ (State.grantLeave s n).pcie = s.pcie ∧
    (State.grantLeave s n).sec = s.sec ∧ (State.grantLeave s n).cores = s.cores ∧
    (State.grantLeave s n).power = s.power ∧ (State.grantLeave s n).faults = s.faults ∧
    (State.grantLeave s n).maint = s.maint ∧ (State.grantLeave s n).glob = s.glob := by
  unfold State.grantLeave
  try dsimp only
  (repeat' split) <;> first | (simp; done) | (simp (disch := (intros; (repeat' split) <;> first | simp | skip)); done)

@[simp] theorem State.decideChange_frame (s : State) (x0 : MemberReq) :
    (State.decideChange s x0).pending = s.pending ∧ (State.decideChange s x0).host = s.host ∧
    (State.decideChange s x0).pkg = s.pkg ∧ (State.decideChange s x0).clocks = s.clocks ∧
    (State.decideChange s x0).engines = s.engines ∧ (State.decideChange s x0).slabs = s.slabs ∧
    (State.decideChange s x0).rings = s.rings ∧ (State.decideChange s x0).plots = s.plots ∧
    (State.decideChange s x0).stash = s.stash ∧ (State.decideChange s x0).matJobs = s.matJobs ∧
    (State.decideChange s x0).vecJobs = s.vecJobs ∧ (State.decideChange s x0).fabric = s.fabric ∧
    (State.decideChange s x0).puts = s.puts ∧ (State.decideChange s x0).tags = s.tags ∧
    (State.decideChange s x0).mac = s.mac ∧ (State.decideChange s x0).pcie = s.pcie ∧
    (State.decideChange s x0).sec = s.sec ∧ (State.decideChange s x0).cores = s.cores ∧
    (State.decideChange s x0).power = s.power ∧ (State.decideChange s x0).faults = s.faults ∧
    (State.decideChange s x0).maint = s.maint ∧ (State.decideChange s x0).glob = s.glob := by
  unfold State.decideChange
  try dsimp only
  (repeat' split) <;> first | (simp; done) | (simp (disch := (intros; (repeat' split) <;> first | simp | skip)); done)

@[simp] theorem State.drainMembership_frame (s : State) :
    (State.drainMembership s).pending = s.pending ∧ (State.drainMembership s).host = s.host ∧
    (State.drainMembership s).pkg = s.pkg ∧ (State.drainMembership s).clocks = s.clocks ∧
    (State.drainMembership s).engines = s.engines ∧ (State.drainMembership s).slabs = s.slabs ∧
    (State.drainMembership s).rings = s.rings ∧ (State.drainMembership s).plots = s.plots ∧
    (State.drainMembership s).stash = s.stash ∧ (State.drainMembership s).matJobs = s.matJobs ∧
    (State.drainMembership s).vecJobs = s.vecJobs ∧ (State.drainMembership s).fabric = s.fabric ∧
    (State.drainMembership s).puts = s.puts ∧ (State.drainMembership s).tags = s.tags ∧
    (State.drainMembership s).mac = s.mac ∧ (State.drainMembership s).pcie = s.pcie ∧
    (State.drainMembership s).sec = s.sec ∧ (State.drainMembership s).cores = s.cores ∧
    (State.drainMembership s).power = s.power ∧ (State.drainMembership s).faults = s.faults ∧
    (State.drainMembership s).glob = s.glob := by
  unfold State.drainMembership
  try dsimp only
  (repeat' split) <;> first | (simp; done) | (simp (disch := (intros; (repeat' split) <;> first | simp | skip)); done)

@[simp] theorem State.askMembership_frame (s : State) (q : MemberReq) :
    (State.askMembership s q).pending = s.pending ∧ (State.askMembership s q).host = s.host ∧
    (State.askMembership s q).pkg = s.pkg ∧ (State.askMembership s q).clocks = s.clocks ∧
    (State.askMembership s q).engines = s.engines ∧ (State.askMembership s q).slabs = s.slabs ∧
    (State.askMembership s q).rings = s.rings ∧ (State.askMembership s q).plots = s.plots ∧
    (State.askMembership s q).stash = s.stash ∧ (State.askMembership s q).matJobs = s.matJobs ∧
    (State.askMembership s q).vecJobs = s.vecJobs ∧ (State.askMembership s q).fabric = s.fabric ∧
    (State.askMembership s q).puts = s.puts ∧ (State.askMembership s q).tags = s.tags ∧
    (State.askMembership s q).mac = s.mac ∧ (State.askMembership s q).pcie = s.pcie ∧
    (State.askMembership s q).sec = s.sec ∧ (State.askMembership s q).cores = s.cores ∧
    (State.askMembership s q).power = s.power ∧ (State.askMembership s q).faults = s.faults ∧
    (State.askMembership s q).glob = s.glob := by
  unfold State.askMembership
  try dsimp only
  (repeat' split) <;> first | (simp; done) | (simp (disch := (intros; (repeat' split) <;> first | simp | skip)); done)

@[simp] theorem State.leaveLeases_frame (s : State) :
    (State.leaveLeases s).pending = s.pending ∧ (State.leaveLeases s).hbm = s.hbm ∧
    (State.leaveLeases s).host = s.host ∧ (State.leaveLeases s).pkg = s.pkg ∧
    (State.leaveLeases s).flash = s.flash ∧ (State.leaveLeases s).clocks = s.clocks ∧
    (State.leaveLeases s).slabs = s.slabs ∧ (State.leaveLeases s).rings = s.rings ∧
    (State.leaveLeases s).stash = s.stash ∧ (State.leaveLeases s).puts = s.puts ∧
    (State.leaveLeases s).mac = s.mac ∧ (State.leaveLeases s).power = s.power ∧
    (State.leaveLeases s).faults = s.faults ∧ (State.leaveLeases s).maint = s.maint ∧
    (State.leaveLeases s).glob = s.glob := by
  unfold State.leaveLeases
  try dsimp only
  (repeat' split) <;> first | (simp; done) | (simp (disch := (intros; (repeat' split) <;> first | simp | skip)); done)

@[simp] theorem State.followManager_frame (s : State) (n epoch : Nat) :
    (State.followManager s n epoch).pending = s.pending ∧ (State.followManager s n epoch).draws = s.draws ∧
    (State.followManager s n epoch).out = s.out ∧ (State.followManager s n epoch).hbm = s.hbm ∧
    (State.followManager s n epoch).host = s.host ∧ (State.followManager s n epoch).pkg = s.pkg ∧
    (State.followManager s n epoch).flash = s.flash ∧ (State.followManager s n epoch).clocks = s.clocks ∧
    (State.followManager s n epoch).engines = s.engines ∧ (State.followManager s n epoch).slabs = s.slabs ∧
    (State.followManager s n epoch).rings = s.rings ∧ (State.followManager s n epoch).plots = s.plots ∧
    (State.followManager s n epoch).stash = s.stash ∧ (State.followManager s n epoch).matJobs = s.matJobs ∧
    (State.followManager s n epoch).vecJobs = s.vecJobs ∧ (State.followManager s n epoch).fabric = s.fabric ∧
    (State.followManager s n epoch).ports = s.ports ∧ (State.followManager s n epoch).puts = s.puts ∧
    (State.followManager s n epoch).tags = s.tags ∧ (State.followManager s n epoch).mac = s.mac ∧
    (State.followManager s n epoch).pcie = s.pcie ∧ (State.followManager s n epoch).sec = s.sec ∧
    (State.followManager s n epoch).cores = s.cores ∧ (State.followManager s n epoch).power = s.power ∧
    (State.followManager s n epoch).faults = s.faults ∧ (State.followManager s n epoch).maint = s.maint ∧
    (State.followManager s n epoch).glob = s.glob := by
  unfold State.followManager
  try dsimp only
  (repeat' split) <;> first | (simp; done) | (simp (disch := (intros; (repeat' split) <;> first | simp | skip)); done)

@[simp] theorem State.takeRole_frame (s : State) (role : Nat) :
    (State.takeRole s role).draws = s.draws ∧ (State.takeRole s role).out = s.out ∧
    (State.takeRole s role).hbm = s.hbm ∧ (State.takeRole s role).host = s.host ∧
    (State.takeRole s role).pkg = s.pkg ∧ (State.takeRole s role).flash = s.flash ∧
    (State.takeRole s role).clocks = s.clocks ∧ (State.takeRole s role).engines = s.engines ∧
    (State.takeRole s role).slabs = s.slabs ∧ (State.takeRole s role).rings = s.rings ∧
    (State.takeRole s role).plots = s.plots ∧ (State.takeRole s role).stash = s.stash ∧
    (State.takeRole s role).matJobs = s.matJobs ∧ (State.takeRole s role).vecJobs = s.vecJobs ∧
    (State.takeRole s role).fabric = s.fabric ∧ (State.takeRole s role).ports = s.ports ∧
    (State.takeRole s role).puts = s.puts ∧ (State.takeRole s role).tags = s.tags ∧
    (State.takeRole s role).mac = s.mac ∧ (State.takeRole s role).pcie = s.pcie ∧
    (State.takeRole s role).sec = s.sec ∧ (State.takeRole s role).cores = s.cores ∧
    (State.takeRole s role).power = s.power ∧ (State.takeRole s role).faults = s.faults ∧
    (State.takeRole s role).maint = s.maint ∧ (State.takeRole s role).glob = s.glob := by
  unfold State.takeRole
  try dsimp only
  (repeat' split) <;> first | (simp; done) | (simp (disch := (intros; (repeat' split) <;> first | simp | skip)); done)

@[simp] theorem State.modMember_frame (s : State) (n : Nat) (f : Member → Member) :
    (State.modMember s n f).pending = s.pending ∧ (State.modMember s n f).draws = s.draws ∧
    (State.modMember s n f).out = s.out ∧ (State.modMember s n f).regs = s.regs ∧
    (State.modMember s n f).hbm = s.hbm ∧ (State.modMember s n f).host = s.host ∧
    (State.modMember s n f).pkg = s.pkg ∧ (State.modMember s n f).flash = s.flash ∧
    (State.modMember s n f).clocks = s.clocks ∧ (State.modMember s n f).engines = s.engines ∧
    (State.modMember s n f).slabs = s.slabs ∧ (State.modMember s n f).rings = s.rings ∧
    (State.modMember s n f).plots = s.plots ∧ (State.modMember s n f).stash = s.stash ∧
    (State.modMember s n f).matJobs = s.matJobs ∧ (State.modMember s n f).vecJobs = s.vecJobs ∧
    (State.modMember s n f).fabric = s.fabric ∧ (State.modMember s n f).ports = s.ports ∧
    (State.modMember s n f).puts = s.puts ∧ (State.modMember s n f).tags = s.tags ∧
    (State.modMember s n f).mac = s.mac ∧ (State.modMember s n f).pcie = s.pcie ∧
    (State.modMember s n f).sec = s.sec ∧ (State.modMember s n f).cores = s.cores ∧
    (State.modMember s n f).power = s.power ∧ (State.modMember s n f).faults = s.faults ∧
    (State.modMember s n f).maint = s.maint ∧ (State.modMember s n f).glob = s.glob := by
  unfold State.modMember
  try dsimp only
  (repeat' split) <;> first | (simp; done) | (simp (disch := (intros; (repeat' split) <;> first | simp | skip)); done)

@[simp] theorem State.declareFailed_frame (s : State) (n : Nat) :
    (State.declareFailed s n).pending = s.pending ∧ (State.declareFailed s n).draws = s.draws ∧
    (State.declareFailed s n).hbm = s.hbm ∧ (State.declareFailed s n).host = s.host ∧
    (State.declareFailed s n).pkg = s.pkg ∧ (State.declareFailed s n).flash = s.flash ∧
    (State.declareFailed s n).clocks = s.clocks ∧ (State.declareFailed s n).engines = s.engines ∧
    (State.declareFailed s n).slabs = s.slabs ∧ (State.declareFailed s n).rings = s.rings ∧
    (State.declareFailed s n).plots = s.plots ∧ (State.declareFailed s n).stash = s.stash ∧
    (State.declareFailed s n).matJobs = s.matJobs ∧ (State.declareFailed s n).vecJobs = s.vecJobs ∧
    (State.declareFailed s n).fabric = s.fabric ∧ (State.declareFailed s n).puts = s.puts ∧
    (State.declareFailed s n).tags = s.tags ∧ (State.declareFailed s n).pcie = s.pcie ∧
    (State.declareFailed s n).sec = s.sec ∧ (State.declareFailed s n).cores = s.cores ∧
    (State.declareFailed s n).power = s.power ∧ (State.declareFailed s n).faults = s.faults ∧
    (State.declareFailed s n).glob = s.glob := by
  unfold State.declareFailed
  try dsimp only
  (repeat' split) <;> first | (simp; done) | (simp (disch := (intros; (repeat' split) <;> first | simp | skip)); done)

@[simp] theorem State.closeWindow_frame (s : State) (n : Nat) :
    (State.closeWindow s n).pending = s.pending ∧ (State.closeWindow s n).draws = s.draws ∧
    (State.closeWindow s n).hbm = s.hbm ∧ (State.closeWindow s n).host = s.host ∧
    (State.closeWindow s n).pkg = s.pkg ∧ (State.closeWindow s n).flash = s.flash ∧
    (State.closeWindow s n).clocks = s.clocks ∧ (State.closeWindow s n).engines = s.engines ∧
    (State.closeWindow s n).slabs = s.slabs ∧ (State.closeWindow s n).rings = s.rings ∧
    (State.closeWindow s n).plots = s.plots ∧ (State.closeWindow s n).stash = s.stash ∧
    (State.closeWindow s n).matJobs = s.matJobs ∧ (State.closeWindow s n).vecJobs = s.vecJobs ∧
    (State.closeWindow s n).fabric = s.fabric ∧ (State.closeWindow s n).puts = s.puts ∧
    (State.closeWindow s n).tags = s.tags ∧ (State.closeWindow s n).pcie = s.pcie ∧
    (State.closeWindow s n).sec = s.sec ∧ (State.closeWindow s n).cores = s.cores ∧
    (State.closeWindow s n).power = s.power ∧ (State.closeWindow s n).faults = s.faults ∧
    (State.closeWindow s n).glob = s.glob := by
  unfold State.closeWindow
  try dsimp only
  (repeat' split) <;> first | (simp; done) | (simp (disch := (intros; (repeat' split) <;> first | simp | skip)); done)

@[simp] theorem State.holdFlits_frame (s : State) :
    (State.holdFlits s).pending = s.pending ∧ (State.holdFlits s).draws = s.draws ∧
    (State.holdFlits s).out = s.out ∧ (State.holdFlits s).regs = s.regs ∧ (State.holdFlits s).hbm = s.hbm ∧
    (State.holdFlits s).host = s.host ∧ (State.holdFlits s).pkg = s.pkg ∧ (State.holdFlits s).flash = s.flash ∧
    (State.holdFlits s).clocks = s.clocks ∧ (State.holdFlits s).engines = s.engines ∧
    (State.holdFlits s).slabs = s.slabs ∧ (State.holdFlits s).rings = s.rings ∧
    (State.holdFlits s).plots = s.plots ∧ (State.holdFlits s).stash = s.stash ∧
    (State.holdFlits s).matJobs = s.matJobs ∧ (State.holdFlits s).vecJobs = s.vecJobs ∧
    (State.holdFlits s).fabric = s.fabric ∧ (State.holdFlits s).puts = s.puts ∧ (State.holdFlits s).tags = s.tags ∧
    (State.holdFlits s).mgr = s.mgr ∧ (State.holdFlits s).mac = s.mac ∧ (State.holdFlits s).pcie = s.pcie ∧
    (State.holdFlits s).sec = s.sec ∧ (State.holdFlits s).cores = s.cores ∧ (State.holdFlits s).power = s.power ∧
    (State.holdFlits s).faults = s.faults ∧ (State.holdFlits s).maint = s.maint ∧ (State.holdFlits s).glob = s.glob := by
  unfold State.holdFlits
  try dsimp only
  (repeat' split) <;> first | (simp; done) | (simp (disch := (intros; (repeat' split) <;> first | simp | skip)); done)

@[simp] theorem State.learn_frame (s : State) (members : List (Fin 1024 × BitVec 64 × Nat × Fin 3)) (leases : List (BitVec 32 × List (Fin 1024))) :
    (State.learn s members leases).pending = s.pending ∧ (State.learn s members leases).draws = s.draws ∧
    (State.learn s members leases).out = s.out ∧ (State.learn s members leases).regs = s.regs ∧
    (State.learn s members leases).hbm = s.hbm ∧ (State.learn s members leases).host = s.host ∧
    (State.learn s members leases).pkg = s.pkg ∧ (State.learn s members leases).flash = s.flash ∧
    (State.learn s members leases).clocks = s.clocks ∧ (State.learn s members leases).engines = s.engines ∧
    (State.learn s members leases).slabs = s.slabs ∧ (State.learn s members leases).rings = s.rings ∧
    (State.learn s members leases).plots = s.plots ∧ (State.learn s members leases).stash = s.stash ∧
    (State.learn s members leases).matJobs = s.matJobs ∧ (State.learn s members leases).vecJobs = s.vecJobs ∧
    (State.learn s members leases).fabric = s.fabric ∧ (State.learn s members leases).ports = s.ports ∧
    (State.learn s members leases).puts = s.puts ∧ (State.learn s members leases).tags = s.tags ∧
    (State.learn s members leases).mac = s.mac ∧ (State.learn s members leases).pcie = s.pcie ∧
    (State.learn s members leases).sec = s.sec ∧ (State.learn s members leases).cores = s.cores ∧
    (State.learn s members leases).power = s.power ∧ (State.learn s members leases).faults = s.faults ∧
    (State.learn s members leases).maint = s.maint ∧ (State.learn s members leases).glob = s.glob := by
  unfold State.learn
  try dsimp only
  (repeat' split) <;> first | (simp; done) | (simp (disch := (intros; (repeat' split) <;> first | simp | skip)); done)

@[simp] theorem State.takeOver_frame (s : State) :
    (State.takeOver s).pending = s.pending ∧ (State.takeOver s).host = s.host ∧ (State.takeOver s).pkg = s.pkg ∧
    (State.takeOver s).clocks = s.clocks ∧ (State.takeOver s).engines = s.engines ∧
    (State.takeOver s).slabs = s.slabs ∧ (State.takeOver s).rings = s.rings ∧ (State.takeOver s).plots = s.plots ∧
    (State.takeOver s).stash = s.stash ∧ (State.takeOver s).matJobs = s.matJobs ∧
    (State.takeOver s).vecJobs = s.vecJobs ∧ (State.takeOver s).fabric = s.fabric ∧
    (State.takeOver s).puts = s.puts ∧ (State.takeOver s).tags = s.tags ∧ (State.takeOver s).mac = s.mac ∧
    (State.takeOver s).pcie = s.pcie ∧ (State.takeOver s).sec = s.sec ∧ (State.takeOver s).cores = s.cores ∧
    (State.takeOver s).power = s.power ∧ (State.takeOver s).faults = s.faults ∧ (State.takeOver s).glob = s.glob := by
  unfold State.takeOver
  try dsimp only
  (repeat' split) <;> first | (simp; done) | (simp (disch := (intros; (repeat' split) <;> first | simp | skip)); done)

@[simp] theorem State.resendPending_frame (s : State) (n : Nat) :
    (State.resendPending s n).pending = s.pending ∧ (State.resendPending s n).draws = s.draws ∧
    (State.resendPending s n).hbm = s.hbm ∧ (State.resendPending s n).pkg = s.pkg ∧
    (State.resendPending s n).flash = s.flash ∧ (State.resendPending s n).clocks = s.clocks ∧
    (State.resendPending s n).engines = s.engines ∧ (State.resendPending s n).slabs = s.slabs ∧
    (State.resendPending s n).plots = s.plots ∧ (State.resendPending s n).stash = s.stash ∧
    (State.resendPending s n).matJobs = s.matJobs ∧ (State.resendPending s n).vecJobs = s.vecJobs ∧
    (State.resendPending s n).puts = s.puts ∧ (State.resendPending s n).mgr = s.mgr ∧
    (State.resendPending s n).mac = s.mac ∧ (State.resendPending s n).pcie = s.pcie ∧
    (State.resendPending s n).sec = s.sec ∧ (State.resendPending s n).cores = s.cores ∧
    (State.resendPending s n).faults = s.faults ∧ (State.resendPending s n).maint = s.maint ∧
    (State.resendPending s n).glob = s.glob := by
  unfold State.resendPending
  try dsimp only
  (repeat' split) <;> first | (simp; done) | (simp (disch := (intros; (repeat' split) <;> first | simp | skip)); done)

@[simp] theorem State.takeAuth_frame (s : State) (port node : Nat) :
    (State.takeAuth s port node).pending = s.pending ∧ (State.takeAuth s port node).draws = s.draws ∧
    (State.takeAuth s port node).out = s.out ∧ (State.takeAuth s port node).regs = s.regs ∧
    (State.takeAuth s port node).hbm = s.hbm ∧ (State.takeAuth s port node).host = s.host ∧
    (State.takeAuth s port node).pkg = s.pkg ∧ (State.takeAuth s port node).flash = s.flash ∧
    (State.takeAuth s port node).clocks = s.clocks ∧ (State.takeAuth s port node).engines = s.engines ∧
    (State.takeAuth s port node).slabs = s.slabs ∧ (State.takeAuth s port node).rings = s.rings ∧
    (State.takeAuth s port node).plots = s.plots ∧ (State.takeAuth s port node).stash = s.stash ∧
    (State.takeAuth s port node).matJobs = s.matJobs ∧ (State.takeAuth s port node).vecJobs = s.vecJobs ∧
    (State.takeAuth s port node).fabric = s.fabric ∧ (State.takeAuth s port node).puts = s.puts ∧
    (State.takeAuth s port node).tags = s.tags ∧ (State.takeAuth s port node).mgr = s.mgr ∧
    (State.takeAuth s port node).mac = s.mac ∧ (State.takeAuth s port node).pcie = s.pcie ∧
    (State.takeAuth s port node).sec = s.sec ∧ (State.takeAuth s port node).cores = s.cores ∧
    (State.takeAuth s port node).power = s.power ∧ (State.takeAuth s port node).faults = s.faults ∧
    (State.takeAuth s port node).maint = s.maint ∧ (State.takeAuth s port node).glob = s.glob := by
  unfold State.takeAuth
  try dsimp only
  (repeat' split) <;> first | (simp; done) | (simp (disch := (intros; (repeat' split) <;> first | simp | skip)); done)

@[simp] theorem State.failBarriers_frame (s : State) (lease : Nat) (nodes : List Nat) :
    (State.failBarriers s lease nodes).pending = s.pending ∧ (State.failBarriers s lease nodes).draws = s.draws ∧
    (State.failBarriers s lease nodes).regs = s.regs ∧ (State.failBarriers s lease nodes).hbm = s.hbm ∧
    (State.failBarriers s lease nodes).host = s.host ∧ (State.failBarriers s lease nodes).pkg = s.pkg ∧
    (State.failBarriers s lease nodes).flash = s.flash ∧ (State.failBarriers s lease nodes).clocks = s.clocks ∧
    (State.failBarriers s lease nodes).engines = s.engines ∧ (State.failBarriers s lease nodes).slabs = s.slabs ∧
    (State.failBarriers s lease nodes).rings = s.rings ∧ (State.failBarriers s lease nodes).stash = s.stash ∧
    (State.failBarriers s lease nodes).matJobs = s.matJobs ∧
    (State.failBarriers s lease nodes).vecJobs = s.vecJobs ∧ (State.failBarriers s lease nodes).fabric = s.fabric ∧
    (State.failBarriers s lease nodes).puts = s.puts ∧ (State.failBarriers s lease nodes).tags = s.tags ∧
    (State.failBarriers s lease nodes).mac = s.mac ∧ (State.failBarriers s lease nodes).pcie = s.pcie ∧
    (State.failBarriers s lease nodes).sec = s.sec ∧ (State.failBarriers s lease nodes).cores = s.cores ∧
    (State.failBarriers s lease nodes).power = s.power ∧ (State.failBarriers s lease nodes).faults = s.faults ∧
    (State.failBarriers s lease nodes).maint = s.maint ∧ (State.failBarriers s lease nodes).glob = s.glob := by
  unfold State.failBarriers
  try dsimp only
  (repeat' split) <;> first | (simp; done) | (simp (disch := (intros; (repeat' split) <;> first | simp | skip)); done)

@[simp] theorem State.substituteIn_frame (s : State) (n spare : Nat) (e : Nat × List Nat) :
    (State.substituteIn s n spare e).pending = s.pending ∧ (State.substituteIn s n spare e).draws = s.draws ∧
    (State.substituteIn s n spare e).regs = s.regs ∧ (State.substituteIn s n spare e).hbm = s.hbm ∧
    (State.substituteIn s n spare e).host = s.host ∧ (State.substituteIn s n spare e).pkg = s.pkg ∧
    (State.substituteIn s n spare e).flash = s.flash ∧ (State.substituteIn s n spare e).clocks = s.clocks ∧
    (State.substituteIn s n spare e).engines = s.engines ∧ (State.substituteIn s n spare e).slabs = s.slabs ∧
    (State.substituteIn s n spare e).rings = s.rings ∧ (State.substituteIn s n spare e).stash = s.stash ∧
    (State.substituteIn s n spare e).matJobs = s.matJobs ∧ (State.substituteIn s n spare e).vecJobs = s.vecJobs ∧
    (State.substituteIn s n spare e).fabric = s.fabric ∧ (State.substituteIn s n spare e).puts = s.puts ∧
    (State.substituteIn s n spare e).tags = s.tags ∧ (State.substituteIn s n spare e).mac = s.mac ∧
    (State.substituteIn s n spare e).sec = s.sec ∧ (State.substituteIn s n spare e).cores = s.cores ∧
    (State.substituteIn s n spare e).power = s.power ∧ (State.substituteIn s n spare e).faults = s.faults ∧
    (State.substituteIn s n spare e).maint = s.maint ∧ (State.substituteIn s n spare e).glob = s.glob := by
  unfold State.substituteIn
  try dsimp only
  (repeat' split) <;> first | (simp; done) | (simp (disch := (intros; (repeat' split) <;> first | simp | skip)); done)

@[simp] theorem State.resetShares_frame (s : State) (n : Nat) (e : Nat × List Nat) :
    (State.resetShares s n e).pending = s.pending ∧ (State.resetShares s n e).hbm = s.hbm ∧
    (State.resetShares s n e).host = s.host ∧ (State.resetShares s n e).pkg = s.pkg ∧
    (State.resetShares s n e).clocks = s.clocks ∧ (State.resetShares s n e).slabs = s.slabs ∧
    (State.resetShares s n e).rings = s.rings ∧ (State.resetShares s n e).stash = s.stash ∧
    (State.resetShares s n e).puts = s.puts ∧ (State.resetShares s n e).mac = s.mac ∧
    (State.resetShares s n e).power = s.power ∧ (State.resetShares s n e).faults = s.faults ∧
    (State.resetShares s n e).maint = s.maint ∧ (State.resetShares s n e).glob = s.glob := by
  unfold State.resetShares
  try dsimp only
  (repeat' split) <;> first | (simp; done) | (simp (disch := (intros; (repeat' split) <;> first | simp | skip)); done)

@[simp] theorem State.vacate_frame (s : State) (n : Nat) :
    (State.vacate s n).pending = s.pending ∧ (State.vacate s n).draws = s.draws ∧ (State.vacate s n).out = s.out ∧
    (State.vacate s n).regs = s.regs ∧ (State.vacate s n).hbm = s.hbm ∧ (State.vacate s n).host = s.host ∧
    (State.vacate s n).pkg = s.pkg ∧ (State.vacate s n).flash = s.flash ∧ (State.vacate s n).clocks = s.clocks ∧
    (State.vacate s n).engines = s.engines ∧ (State.vacate s n).slabs = s.slabs ∧
    (State.vacate s n).rings = s.rings ∧ (State.vacate s n).plots = s.plots ∧ (State.vacate s n).stash = s.stash ∧
    (State.vacate s n).matJobs = s.matJobs ∧ (State.vacate s n).vecJobs = s.vecJobs ∧
    (State.vacate s n).fabric = s.fabric ∧ (State.vacate s n).ports = s.ports ∧ (State.vacate s n).puts = s.puts ∧
    (State.vacate s n).tags = s.tags ∧ (State.vacate s n).mac = s.mac ∧ (State.vacate s n).pcie = s.pcie ∧
    (State.vacate s n).sec = s.sec ∧ (State.vacate s n).cores = s.cores ∧ (State.vacate s n).power = s.power ∧
    (State.vacate s n).faults = s.faults ∧ (State.vacate s n).maint = s.maint ∧ (State.vacate s n).glob = s.glob := by
  unfold State.vacate
  try dsimp only
  (repeat' split) <;> first | (simp; done) | (simp (disch := (intros; (repeat' split) <;> first | simp | skip)); done)

end Sys2Proof.Machine
end

