-- ==== Sys2Proof/Laws/FramePcieOps.lean ====
section
/-! SUPPORT. Frames of the operations of PcieOps. -/

namespace Sys2Proof.Machine

@[simp] theorem State.clearRegs_frame (s : State) (lo hi : Nat) :
    (State.clearRegs s lo hi).pending = s.pending ∧ (State.clearRegs s lo hi).draws = s.draws ∧
    (State.clearRegs s lo hi).out = s.out ∧ (State.clearRegs s lo hi).hbm = s.hbm ∧
    (State.clearRegs s lo hi).host = s.host ∧ (State.clearRegs s lo hi).pkg = s.pkg ∧
    (State.clearRegs s lo hi).flash = s.flash ∧ (State.clearRegs s lo hi).clocks = s.clocks ∧
    (State.clearRegs s lo hi).engines = s.engines ∧ (State.clearRegs s lo hi).slabs = s.slabs ∧
    (State.clearRegs s lo hi).rings = s.rings ∧ (State.clearRegs s lo hi).plots = s.plots ∧
    (State.clearRegs s lo hi).stash = s.stash ∧ (State.clearRegs s lo hi).matJobs = s.matJobs ∧
    (State.clearRegs s lo hi).vecJobs = s.vecJobs ∧ (State.clearRegs s lo hi).fabric = s.fabric ∧
    (State.clearRegs s lo hi).ports = s.ports ∧ (State.clearRegs s lo hi).puts = s.puts ∧
    (State.clearRegs s lo hi).tags = s.tags ∧ (State.clearRegs s lo hi).mgr = s.mgr ∧
    (State.clearRegs s lo hi).mac = s.mac ∧ (State.clearRegs s lo hi).pcie = s.pcie ∧
    (State.clearRegs s lo hi).sec = s.sec ∧ (State.clearRegs s lo hi).cores = s.cores ∧
    (State.clearRegs s lo hi).power = s.power ∧ (State.clearRegs s lo hi).faults = s.faults ∧
    (State.clearRegs s lo hi).maint = s.maint ∧ (State.clearRegs s lo hi).glob = s.glob := by
  unfold State.clearRegs
  try dsimp only
  (repeat' split) <;> first | (simp; done) | (simp (disch := (intros; (repeat' split) <;> first | simp | skip)); done)

@[simp] theorem State.modPcie_frame (s : State) (f : Pcie → Pcie) :
    (State.modPcie s f).pending = s.pending ∧ (State.modPcie s f).draws = s.draws ∧
    (State.modPcie s f).out = s.out ∧ (State.modPcie s f).regs = s.regs ∧ (State.modPcie s f).hbm = s.hbm ∧
    (State.modPcie s f).host = s.host ∧ (State.modPcie s f).pkg = s.pkg ∧ (State.modPcie s f).flash = s.flash ∧
    (State.modPcie s f).clocks = s.clocks ∧ (State.modPcie s f).engines = s.engines ∧
    (State.modPcie s f).slabs = s.slabs ∧ (State.modPcie s f).rings = s.rings ∧
    (State.modPcie s f).plots = s.plots ∧ (State.modPcie s f).stash = s.stash ∧
    (State.modPcie s f).matJobs = s.matJobs ∧ (State.modPcie s f).vecJobs = s.vecJobs ∧
    (State.modPcie s f).fabric = s.fabric ∧ (State.modPcie s f).ports = s.ports ∧
    (State.modPcie s f).puts = s.puts ∧ (State.modPcie s f).tags = s.tags ∧ (State.modPcie s f).mgr = s.mgr ∧
    (State.modPcie s f).mac = s.mac ∧ (State.modPcie s f).sec = s.sec ∧ (State.modPcie s f).cores = s.cores ∧
    (State.modPcie s f).power = s.power ∧ (State.modPcie s f).faults = s.faults ∧
    (State.modPcie s f).maint = s.maint ∧ (State.modPcie s f).glob = s.glob := by
  unfold State.modPcie
  try dsimp only
  (repeat' split) <;> first | (simp; done) | (simp (disch := (intros; (repeat' split) <;> first | simp | skip)); done)

@[simp] theorem State.modFunc_frame (s : State) (n : Nat) (f : Func → Func) :
    (State.modFunc s n f).pending = s.pending ∧ (State.modFunc s n f).draws = s.draws ∧
    (State.modFunc s n f).out = s.out ∧ (State.modFunc s n f).regs = s.regs ∧ (State.modFunc s n f).hbm = s.hbm ∧
    (State.modFunc s n f).host = s.host ∧ (State.modFunc s n f).pkg = s.pkg ∧
    (State.modFunc s n f).flash = s.flash ∧ (State.modFunc s n f).clocks = s.clocks ∧
    (State.modFunc s n f).engines = s.engines ∧ (State.modFunc s n f).slabs = s.slabs ∧
    (State.modFunc s n f).rings = s.rings ∧ (State.modFunc s n f).plots = s.plots ∧
    (State.modFunc s n f).stash = s.stash ∧ (State.modFunc s n f).matJobs = s.matJobs ∧
    (State.modFunc s n f).vecJobs = s.vecJobs ∧ (State.modFunc s n f).fabric = s.fabric ∧
    (State.modFunc s n f).ports = s.ports ∧ (State.modFunc s n f).puts = s.puts ∧
    (State.modFunc s n f).tags = s.tags ∧ (State.modFunc s n f).mgr = s.mgr ∧ (State.modFunc s n f).mac = s.mac ∧
    (State.modFunc s n f).sec = s.sec ∧ (State.modFunc s n f).cores = s.cores ∧
    (State.modFunc s n f).power = s.power ∧ (State.modFunc s n f).faults = s.faults ∧
    (State.modFunc s n f).maint = s.maint ∧ (State.modFunc s n f).glob = s.glob := by
  unfold State.modFunc
  try dsimp only
  (repeat' split) <;> first | (simp; done) | (simp (disch := (intros; (repeat' split) <;> first | simp | skip)); done)

@[simp] theorem State.vfReset_frame (s : State) (vf : Nat) :
    (State.vfReset s vf).pending = s.pending ∧ (State.vfReset s vf).hbm = s.hbm ∧
    (State.vfReset s vf).host = s.host ∧ (State.vfReset s vf).pkg = s.pkg ∧ (State.vfReset s vf).flash = s.flash ∧
    (State.vfReset s vf).clocks = s.clocks ∧ (State.vfReset s vf).slabs = s.slabs ∧
    (State.vfReset s vf).rings = s.rings ∧ (State.vfReset s vf).stash = s.stash ∧
    (State.vfReset s vf).puts = s.puts ∧ (State.vfReset s vf).mac = s.mac ∧ (State.vfReset s vf).power = s.power ∧
    (State.vfReset s vf).faults = s.faults ∧ (State.vfReset s vf).maint = s.maint ∧
    (State.vfReset s vf).glob = s.glob := by
  unfold State.vfReset
  try dsimp only
  (repeat' split) <;> first | (simp; done) | (simp (disch := (intros; (repeat' split) <;> first | simp | skip)); done)

@[simp] theorem State.pfReset_frame (s : State) (c2 : Bool) :
    (State.pfReset s c2).pending = s.pending ∧ (State.pfReset s c2).hbm = s.hbm ∧
    (State.pfReset s c2).host = s.host ∧ (State.pfReset s c2).pkg = s.pkg ∧
    (State.pfReset s c2).clocks = s.clocks ∧ (State.pfReset s c2).slabs = s.slabs ∧
    (State.pfReset s c2).stash = s.stash ∧ (State.pfReset s c2).puts = s.puts ∧ (State.pfReset s c2).mac = s.mac ∧
    (State.pfReset s c2).power = s.power ∧ (State.pfReset s c2).faults = s.faults ∧
    (State.pfReset s c2).maint = s.maint ∧ (State.pfReset s c2).glob = s.glob := by
  unfold State.pfReset
  try dsimp only
  (repeat' split) <;> first | (simp; done) | (simp (disch := (intros; (repeat' split) <;> first | simp | skip)); done)

@[simp] theorem State.linkDown_frame (s : State) :
    (State.linkDown s).pending = s.pending ∧ (State.linkDown s).draws = s.draws ∧ (State.linkDown s).out = s.out ∧
    (State.linkDown s).hbm = s.hbm ∧ (State.linkDown s).host = s.host ∧ (State.linkDown s).pkg = s.pkg ∧
    (State.linkDown s).flash = s.flash ∧ (State.linkDown s).clocks = s.clocks ∧
    (State.linkDown s).engines = s.engines ∧ (State.linkDown s).slabs = s.slabs ∧
    (State.linkDown s).rings = s.rings ∧ (State.linkDown s).plots = s.plots ∧ (State.linkDown s).stash = s.stash ∧
    (State.linkDown s).matJobs = s.matJobs ∧ (State.linkDown s).vecJobs = s.vecJobs ∧
    (State.linkDown s).fabric = s.fabric ∧ (State.linkDown s).ports = s.ports ∧ (State.linkDown s).puts = s.puts ∧
    (State.linkDown s).tags = s.tags ∧ (State.linkDown s).mgr = s.mgr ∧ (State.linkDown s).mac = s.mac ∧
    (State.linkDown s).sec = s.sec ∧ (State.linkDown s).cores = s.cores ∧ (State.linkDown s).power = s.power ∧
    (State.linkDown s).faults = s.faults ∧ (State.linkDown s).maint = s.maint ∧ (State.linkDown s).glob = s.glob := by
  unfold State.linkDown
  try dsimp only
  (repeat' split) <;> first | (simp; done) | (simp (disch := (intros; (repeat' split) <;> first | simp | skip)); done)

@[simp] theorem State.doe_frame (s : State) (answer : Doe) :
    (State.doe s answer).pending = s.pending ∧ (State.doe s answer).draws = s.draws ∧
    (State.doe s answer).out = s.out ∧ (State.doe s answer).regs = s.regs ∧ (State.doe s answer).hbm = s.hbm ∧
    (State.doe s answer).host = s.host ∧ (State.doe s answer).pkg = s.pkg ∧ (State.doe s answer).flash = s.flash ∧
    (State.doe s answer).clocks = s.clocks ∧ (State.doe s answer).engines = s.engines ∧
    (State.doe s answer).slabs = s.slabs ∧ (State.doe s answer).rings = s.rings ∧
    (State.doe s answer).plots = s.plots ∧ (State.doe s answer).stash = s.stash ∧
    (State.doe s answer).matJobs = s.matJobs ∧ (State.doe s answer).vecJobs = s.vecJobs ∧
    (State.doe s answer).fabric = s.fabric ∧ (State.doe s answer).ports = s.ports ∧
    (State.doe s answer).puts = s.puts ∧ (State.doe s answer).tags = s.tags ∧ (State.doe s answer).mgr = s.mgr ∧
    (State.doe s answer).mac = s.mac ∧ (State.doe s answer).sec = s.sec ∧ (State.doe s answer).cores = s.cores ∧
    (State.doe s answer).power = s.power ∧ (State.doe s answer).faults = s.faults ∧
    (State.doe s answer).maint = s.maint ∧ (State.doe s answer).glob = s.glob := by
  unfold State.doe
  try dsimp only
  (repeat' split) <;> first | (simp; done) | (simp (disch := (intros; (repeat' split) <;> first | simp | skip)); done)

end Sys2Proof.Machine
end

