-- ==== Sys2Proof/Laws/FrameResetOps.lean ====
section
/-! SUPPORT. Frames of the operations of ResetOps. -/

namespace Sys2Proof.Machine

@[simp] theorem State.zeroKeys_frame (s : State) :
    (State.zeroKeys s).pending = s.pending ∧ (State.zeroKeys s).draws = s.draws ∧ (State.zeroKeys s).out = s.out ∧
    (State.zeroKeys s).regs = s.regs ∧ (State.zeroKeys s).hbm = s.hbm ∧ (State.zeroKeys s).host = s.host ∧
    (State.zeroKeys s).pkg = s.pkg ∧ (State.zeroKeys s).flash = s.flash ∧ (State.zeroKeys s).clocks = s.clocks ∧
    (State.zeroKeys s).engines = s.engines ∧ (State.zeroKeys s).slabs = s.slabs ∧
    (State.zeroKeys s).rings = s.rings ∧ (State.zeroKeys s).plots = s.plots ∧ (State.zeroKeys s).stash = s.stash ∧
    (State.zeroKeys s).matJobs = s.matJobs ∧ (State.zeroKeys s).vecJobs = s.vecJobs ∧
    (State.zeroKeys s).fabric = s.fabric ∧ (State.zeroKeys s).puts = s.puts ∧ (State.zeroKeys s).tags = s.tags ∧
    (State.zeroKeys s).mac = s.mac ∧ (State.zeroKeys s).pcie = s.pcie ∧ (State.zeroKeys s).cores = s.cores ∧
    (State.zeroKeys s).power = s.power ∧ (State.zeroKeys s).faults = s.faults ∧
    (State.zeroKeys s).maint = s.maint ∧ (State.zeroKeys s).glob = s.glob := by
  unfold State.zeroKeys
  try dsimp only
  (repeat' split) <;> first | (simp; done) | (simp (disch := (intros; (repeat' split) <;> first | simp | skip)); done)

@[simp] theorem State.supplyOff_frame (s : State) (gd : Nat) :
    (State.supplyOff s gd).pending = s.pending ∧ (State.supplyOff s gd).draws = s.draws ∧
    (State.supplyOff s gd).out = s.out ∧ (State.supplyOff s gd).hbm = s.hbm ∧
    (State.supplyOff s gd).host = s.host ∧ (State.supplyOff s gd).pkg = s.pkg ∧
    (State.supplyOff s gd).flash = s.flash ∧ (State.supplyOff s gd).clocks = s.clocks ∧
    (State.supplyOff s gd).engines = s.engines ∧ (State.supplyOff s gd).slabs = s.slabs ∧
    (State.supplyOff s gd).rings = s.rings ∧ (State.supplyOff s gd).plots = s.plots ∧
    (State.supplyOff s gd).stash = s.stash ∧ (State.supplyOff s gd).matJobs = s.matJobs ∧
    (State.supplyOff s gd).vecJobs = s.vecJobs ∧ (State.supplyOff s gd).fabric = s.fabric ∧
    (State.supplyOff s gd).ports = s.ports ∧ (State.supplyOff s gd).puts = s.puts ∧
    (State.supplyOff s gd).tags = s.tags ∧ (State.supplyOff s gd).mgr = s.mgr ∧
    (State.supplyOff s gd).mac = s.mac ∧ (State.supplyOff s gd).pcie = s.pcie ∧
    (State.supplyOff s gd).sec = s.sec ∧ (State.supplyOff s gd).cores = s.cores ∧
    (State.supplyOff s gd).faults = s.faults ∧ (State.supplyOff s gd).maint = s.maint ∧
    (State.supplyOff s gd).glob = s.glob := by
  unfold State.supplyOff
  try dsimp only
  (repeat' split) <;> first | (simp; done) | (simp (disch := (intros; (repeat' split) <;> first | simp | skip)); done)

@[simp] theorem State.allPortsDown_frame (s : State) :
    (State.allPortsDown s).pending = s.pending ∧ (State.allPortsDown s).draws = s.draws ∧
    (State.allPortsDown s).hbm = s.hbm ∧ (State.allPortsDown s).host = s.host ∧
    (State.allPortsDown s).pkg = s.pkg ∧ (State.allPortsDown s).flash = s.flash ∧
    (State.allPortsDown s).clocks = s.clocks ∧ (State.allPortsDown s).engines = s.engines ∧
    (State.allPortsDown s).plots = s.plots ∧ (State.allPortsDown s).stash = s.stash ∧
    (State.allPortsDown s).matJobs = s.matJobs ∧ (State.allPortsDown s).vecJobs = s.vecJobs ∧
    (State.allPortsDown s).mgr = s.mgr ∧ (State.allPortsDown s).mac = s.mac ∧
    (State.allPortsDown s).pcie = s.pcie ∧ (State.allPortsDown s).sec = s.sec ∧
    (State.allPortsDown s).cores = s.cores ∧ (State.allPortsDown s).faults = s.faults ∧
    (State.allPortsDown s).glob = s.glob := by
  unfold State.allPortsDown
  try dsimp only
  (repeat' split) <;> first | (simp; done) | (simp (disch := (intros; (repeat' split) <;> first | simp | skip)); done)

@[simp] theorem State.enterWindthrow_frame (s : State) :
    (State.enterWindthrow s).pending = s.pending ∧ (State.enterWindthrow s).draws = s.draws ∧
    (State.enterWindthrow s).hbm = s.hbm ∧ (State.enterWindthrow s).host = s.host ∧
    (State.enterWindthrow s).pkg = s.pkg ∧ (State.enterWindthrow s).flash = s.flash ∧
    (State.enterWindthrow s).clocks = s.clocks ∧ (State.enterWindthrow s).engines = s.engines ∧
    (State.enterWindthrow s).plots = s.plots ∧ (State.enterWindthrow s).stash = s.stash ∧
    (State.enterWindthrow s).mac = s.mac ∧ (State.enterWindthrow s).pcie = s.pcie ∧
    (State.enterWindthrow s).cores = s.cores ∧ (State.enterWindthrow s).glob = s.glob := by
  unfold State.enterWindthrow
  try dsimp only
  (repeat' split) <;> first | (simp; done) | (simp (disch := (intros; (repeat' split) <;> first | simp | skip)); done)

@[simp] theorem State.strike_frame (s : State) (die b : Nat) (plots : List Nat) (unit detail : Nat) :
    (State.strike s die b plots unit detail).pending = s.pending ∧
    (State.strike s die b plots unit detail).draws = s.draws ∧
    (State.strike s die b plots unit detail).hbm = s.hbm ∧ (State.strike s die b plots unit detail).host = s.host ∧
    (State.strike s die b plots unit detail).pkg = s.pkg ∧
    (State.strike s die b plots unit detail).clocks = s.clocks ∧
    (State.strike s die b plots unit detail).engines = s.engines ∧
    (State.strike s die b plots unit detail).stash = s.stash ∧
    (State.strike s die b plots unit detail).mac = s.mac ∧
    (State.strike s die b plots unit detail).cores = s.cores ∧
    (State.strike s die b plots unit detail).glob = s.glob := by
  unfold State.strike
  try dsimp only
  (repeat' split) <;> first | (simp; done) | (simp (disch := (intros; (repeat' split) <;> first | simp | skip)); done)

@[simp] theorem State.depart_frame (s : State) :
    (State.depart s).pending = s.pending ∧ (State.depart s).draws = s.draws ∧ (State.depart s).regs = s.regs ∧
    (State.depart s).hbm = s.hbm ∧ (State.depart s).host = s.host ∧ (State.depart s).pkg = s.pkg ∧
    (State.depart s).flash = s.flash ∧ (State.depart s).clocks = s.clocks ∧ (State.depart s).engines = s.engines ∧
    (State.depart s).slabs = s.slabs ∧ (State.depart s).rings = s.rings ∧ (State.depart s).plots = s.plots ∧
    (State.depart s).stash = s.stash ∧ (State.depart s).matJobs = s.matJobs ∧
    (State.depart s).vecJobs = s.vecJobs ∧ (State.depart s).fabric = s.fabric ∧ (State.depart s).puts = s.puts ∧
    (State.depart s).tags = s.tags ∧ (State.depart s).mgr = s.mgr ∧ (State.depart s).pcie = s.pcie ∧
    (State.depart s).sec = s.sec ∧ (State.depart s).cores = s.cores ∧ (State.depart s).power = s.power ∧
    (State.depart s).faults = s.faults ∧ (State.depart s).maint = s.maint ∧ (State.depart s).glob = s.glob := by
  unfold State.depart
  try dsimp only
  (repeat' split) <;> first | (simp; done) | (simp (disch := (intros; (repeat' split) <;> first | simp | skip)); done)

@[simp] theorem State.stopDevice_frame (s : State) :
    (State.stopDevice s).pending = s.pending ∧ (State.stopDevice s).draws = s.draws ∧
    (State.stopDevice s).regs = s.regs ∧ (State.stopDevice s).hbm = s.hbm ∧ (State.stopDevice s).host = s.host ∧
    (State.stopDevice s).pkg = s.pkg ∧ (State.stopDevice s).flash = s.flash ∧
    (State.stopDevice s).clocks = s.clocks ∧ (State.stopDevice s).engines = s.engines ∧
    (State.stopDevice s).slabs = s.slabs ∧ (State.stopDevice s).rings = s.rings ∧
    (State.stopDevice s).plots = s.plots ∧ (State.stopDevice s).stash = s.stash ∧
    (State.stopDevice s).matJobs = s.matJobs ∧ (State.stopDevice s).vecJobs = s.vecJobs ∧
    (State.stopDevice s).fabric = s.fabric ∧ (State.stopDevice s).puts = s.puts ∧
    (State.stopDevice s).tags = s.tags ∧ (State.stopDevice s).mgr = s.mgr ∧ (State.stopDevice s).pcie = s.pcie ∧
    (State.stopDevice s).sec = s.sec ∧ (State.stopDevice s).cores = s.cores ∧
    (State.stopDevice s).power = s.power ∧ (State.stopDevice s).maint = s.maint ∧ (State.stopDevice s).glob = s.glob := by
  unfold State.stopDevice
  try dsimp only
  (repeat' split) <;> first | (simp; done) | (simp (disch := (intros; (repeat' split) <;> first | simp | skip)); done)

@[simp] theorem State.holdDevice_frame (s : State) :
    (State.holdDevice s).pending = s.pending ∧ (State.holdDevice s).draws = s.draws ∧
    (State.holdDevice s).out = s.out ∧ (State.holdDevice s).hbm = s.hbm ∧ (State.holdDevice s).host = s.host ∧
    (State.holdDevice s).pkg = s.pkg ∧ (State.holdDevice s).flash = s.flash ∧
    (State.holdDevice s).clocks = s.clocks ∧ (State.holdDevice s).engines = s.engines ∧
    (State.holdDevice s).slabs = s.slabs ∧ (State.holdDevice s).rings = s.rings ∧
    (State.holdDevice s).plots = s.plots ∧ (State.holdDevice s).stash = s.stash ∧
    (State.holdDevice s).matJobs = s.matJobs ∧ (State.holdDevice s).vecJobs = s.vecJobs ∧
    (State.holdDevice s).fabric = s.fabric ∧ (State.holdDevice s).ports = s.ports ∧
    (State.holdDevice s).puts = s.puts ∧ (State.holdDevice s).tags = s.tags ∧ (State.holdDevice s).mgr = s.mgr ∧
    (State.holdDevice s).mac = s.mac ∧ (State.holdDevice s).pcie = s.pcie ∧ (State.holdDevice s).sec = s.sec ∧
    (State.holdDevice s).cores = s.cores ∧ (State.holdDevice s).power = s.power ∧
    (State.holdDevice s).faults = s.faults ∧ (State.holdDevice s).maint = s.maint := by
  unfold State.holdDevice
  try dsimp only
  (repeat' split) <;> first | (simp; done) | (simp (disch := (intros; (repeat' split) <;> first | simp | skip)); done)

@[simp] theorem State.deviceFatal_frame (s : State) :
    (State.deviceFatal s).pending = s.pending ∧ (State.deviceFatal s).draws = s.draws ∧
    (State.deviceFatal s).hbm = s.hbm ∧ (State.deviceFatal s).host = s.host ∧ (State.deviceFatal s).pkg = s.pkg ∧
    (State.deviceFatal s).flash = s.flash ∧ (State.deviceFatal s).clocks = s.clocks ∧
    (State.deviceFatal s).engines = s.engines ∧ (State.deviceFatal s).slabs = s.slabs ∧
    (State.deviceFatal s).rings = s.rings ∧ (State.deviceFatal s).plots = s.plots ∧
    (State.deviceFatal s).stash = s.stash ∧ (State.deviceFatal s).matJobs = s.matJobs ∧
    (State.deviceFatal s).vecJobs = s.vecJobs ∧ (State.deviceFatal s).fabric = s.fabric ∧
    (State.deviceFatal s).puts = s.puts ∧ (State.deviceFatal s).tags = s.tags ∧ (State.deviceFatal s).mgr = s.mgr ∧
    (State.deviceFatal s).pcie = s.pcie ∧ (State.deviceFatal s).sec = s.sec ∧
    (State.deviceFatal s).cores = s.cores ∧ (State.deviceFatal s).power = s.power ∧
    (State.deviceFatal s).maint = s.maint := by
  unfold State.deviceFatal
  try dsimp only
  (repeat' split) <;> first | (simp; done) | (simp (disch := (intros; (repeat' split) <;> first | simp | skip)); done)

@[simp] theorem State.startWarm_frame (s : State) :
    (State.startWarm s).pending = s.pending ∧ (State.startWarm s).draws = s.draws ∧
    (State.startWarm s).regs = s.regs ∧ (State.startWarm s).hbm = s.hbm ∧ (State.startWarm s).host = s.host ∧
    (State.startWarm s).pkg = s.pkg ∧ (State.startWarm s).flash = s.flash ∧ (State.startWarm s).clocks = s.clocks ∧
    (State.startWarm s).engines = s.engines ∧ (State.startWarm s).slabs = s.slabs ∧
    (State.startWarm s).rings = s.rings ∧ (State.startWarm s).plots = s.plots ∧
    (State.startWarm s).stash = s.stash ∧ (State.startWarm s).matJobs = s.matJobs ∧
    (State.startWarm s).vecJobs = s.vecJobs ∧ (State.startWarm s).fabric = s.fabric ∧
    (State.startWarm s).puts = s.puts ∧ (State.startWarm s).tags = s.tags ∧ (State.startWarm s).mgr = s.mgr ∧
    (State.startWarm s).pcie = s.pcie ∧ (State.startWarm s).sec = s.sec ∧ (State.startWarm s).cores = s.cores ∧
    (State.startWarm s).power = s.power ∧ (State.startWarm s).maint = s.maint := by
  unfold State.startWarm
  try dsimp only
  (repeat' split) <;> first | (simp; done) | (simp (disch := (intros; (repeat' split) <;> first | simp | skip)); done)

@[simp] theorem State.fatalEvent_frame (s : State) :
    (State.fatalEvent s).pending = s.pending ∧ (State.fatalEvent s).draws = s.draws ∧
    (State.fatalEvent s).hbm = s.hbm ∧ (State.fatalEvent s).host = s.host ∧ (State.fatalEvent s).pkg = s.pkg ∧
    (State.fatalEvent s).clocks = s.clocks ∧ (State.fatalEvent s).engines = s.engines ∧
    (State.fatalEvent s).slabs = s.slabs ∧ (State.fatalEvent s).rings = s.rings ∧
    (State.fatalEvent s).plots = s.plots ∧ (State.fatalEvent s).stash = s.stash ∧
    (State.fatalEvent s).matJobs = s.matJobs ∧ (State.fatalEvent s).vecJobs = s.vecJobs ∧
    (State.fatalEvent s).fabric = s.fabric ∧ (State.fatalEvent s).puts = s.puts ∧
    (State.fatalEvent s).tags = s.tags ∧ (State.fatalEvent s).mgr = s.mgr ∧ (State.fatalEvent s).pcie = s.pcie ∧
    (State.fatalEvent s).sec = s.sec ∧ (State.fatalEvent s).cores = s.cores ∧
    (State.fatalEvent s).power = s.power ∧ (State.fatalEvent s).maint = s.maint := by
  unfold State.fatalEvent
  try dsimp only
  (repeat' split) <;> first | (simp; done) | (simp (disch := (intros; (repeat' split) <;> first | simp | skip)); done)

@[simp] theorem State.reapply_frame (s : State) :
    (State.reapply s).pending = s.pending ∧ (State.reapply s).draws = s.draws ∧ (State.reapply s).out = s.out ∧
    (State.reapply s).host = s.host ∧ (State.reapply s).flash = s.flash ∧ (State.reapply s).clocks = s.clocks ∧
    (State.reapply s).engines = s.engines ∧ (State.reapply s).slabs = s.slabs ∧ (State.reapply s).rings = s.rings ∧
    (State.reapply s).plots = s.plots ∧ (State.reapply s).stash = s.stash ∧ (State.reapply s).matJobs = s.matJobs ∧
    (State.reapply s).vecJobs = s.vecJobs ∧ (State.reapply s).puts = s.puts ∧ (State.reapply s).tags = s.tags ∧
    (State.reapply s).mgr = s.mgr ∧ (State.reapply s).mac = s.mac ∧ (State.reapply s).pcie = s.pcie ∧
    (State.reapply s).sec = s.sec ∧ (State.reapply s).cores = s.cores ∧ (State.reapply s).power = s.power ∧
    (State.reapply s).faults = s.faults ∧ (State.reapply s).maint = s.maint ∧ (State.reapply s).glob = s.glob := by
  unfold State.reapply
  try dsimp only
  (repeat' split) <;> first | (simp; done) | (simp (disch := (intros; (repeat' split) <;> first | simp | skip)); done)

@[simp] theorem State.portsAtReset_frame (s : State) :
    (State.portsAtReset s).pending = s.pending ∧ (State.portsAtReset s).draws = s.draws ∧
    (State.portsAtReset s).out = s.out ∧ (State.portsAtReset s).regs = s.regs ∧
    (State.portsAtReset s).hbm = s.hbm ∧ (State.portsAtReset s).host = s.host ∧
    (State.portsAtReset s).pkg = s.pkg ∧ (State.portsAtReset s).flash = s.flash ∧
    (State.portsAtReset s).clocks = s.clocks ∧ (State.portsAtReset s).engines = s.engines ∧
    (State.portsAtReset s).slabs = s.slabs ∧ (State.portsAtReset s).rings = s.rings ∧
    (State.portsAtReset s).plots = s.plots ∧ (State.portsAtReset s).stash = s.stash ∧
    (State.portsAtReset s).matJobs = s.matJobs ∧ (State.portsAtReset s).vecJobs = s.vecJobs ∧
    (State.portsAtReset s).fabric = s.fabric ∧ (State.portsAtReset s).puts = s.puts ∧
    (State.portsAtReset s).tags = s.tags ∧ (State.portsAtReset s).mgr = s.mgr ∧
    (State.portsAtReset s).mac = s.mac ∧ (State.portsAtReset s).pcie = s.pcie ∧
    (State.portsAtReset s).sec = s.sec ∧ (State.portsAtReset s).cores = s.cores ∧
    (State.portsAtReset s).power = s.power ∧ (State.portsAtReset s).faults = s.faults ∧
    (State.portsAtReset s).maint = s.maint ∧ (State.portsAtReset s).glob = s.glob := by
  unfold State.portsAtReset
  try dsimp only
  (repeat' split) <;> first | (simp; done) | (simp (disch := (intros; (repeat' split) <;> first | simp | skip)); done)

@[simp] theorem State.showLife_frame (s : State) :
    (State.showLife s).pending = s.pending ∧ (State.showLife s).draws = s.draws ∧ (State.showLife s).out = s.out ∧
    (State.showLife s).hbm = s.hbm ∧ (State.showLife s).host = s.host ∧ (State.showLife s).pkg = s.pkg ∧
    (State.showLife s).flash = s.flash ∧ (State.showLife s).clocks = s.clocks ∧
    (State.showLife s).engines = s.engines ∧ (State.showLife s).slabs = s.slabs ∧
    (State.showLife s).rings = s.rings ∧ (State.showLife s).plots = s.plots ∧ (State.showLife s).stash = s.stash ∧
    (State.showLife s).matJobs = s.matJobs ∧ (State.showLife s).vecJobs = s.vecJobs ∧
    (State.showLife s).fabric = s.fabric ∧ (State.showLife s).ports = s.ports ∧ (State.showLife s).puts = s.puts ∧
    (State.showLife s).tags = s.tags ∧ (State.showLife s).mgr = s.mgr ∧ (State.showLife s).mac = s.mac ∧
    (State.showLife s).pcie = s.pcie ∧ (State.showLife s).sec = s.sec ∧ (State.showLife s).cores = s.cores ∧
    (State.showLife s).power = s.power ∧ (State.showLife s).faults = s.faults ∧
    (State.showLife s).maint = s.maint ∧ (State.showLife s).glob = s.glob := by
  unfold State.showLife
  try dsimp only
  (repeat' split) <;> first | (simp; done) | (simp (disch := (intros; (repeat' split) <;> first | simp | skip)); done)

@[simp] theorem State.showImages_frame (s : State) :
    (State.showImages s).pending = s.pending ∧ (State.showImages s).draws = s.draws ∧
    (State.showImages s).out = s.out ∧ (State.showImages s).hbm = s.hbm ∧ (State.showImages s).host = s.host ∧
    (State.showImages s).pkg = s.pkg ∧ (State.showImages s).flash = s.flash ∧
    (State.showImages s).clocks = s.clocks ∧ (State.showImages s).engines = s.engines ∧
    (State.showImages s).slabs = s.slabs ∧ (State.showImages s).rings = s.rings ∧
    (State.showImages s).plots = s.plots ∧ (State.showImages s).stash = s.stash ∧
    (State.showImages s).matJobs = s.matJobs ∧ (State.showImages s).vecJobs = s.vecJobs ∧
    (State.showImages s).fabric = s.fabric ∧ (State.showImages s).ports = s.ports ∧
    (State.showImages s).puts = s.puts ∧ (State.showImages s).tags = s.tags ∧ (State.showImages s).mgr = s.mgr ∧
    (State.showImages s).mac = s.mac ∧ (State.showImages s).pcie = s.pcie ∧ (State.showImages s).sec = s.sec ∧
    (State.showImages s).cores = s.cores ∧ (State.showImages s).power = s.power ∧
    (State.showImages s).faults = s.faults ∧ (State.showImages s).maint = s.maint ∧
    (State.showImages s).glob = s.glob := by
  unfold State.showImages
  try dsimp only
  (repeat' split) <;> first | (simp; done) | (simp (disch := (intros; (repeat' split) <;> first | simp | skip)); done)

@[simp] theorem State.setImage_frame (s : State) (b : Bool) (i : ImageSlot) :
    (State.setImage s b i).pending = s.pending ∧ (State.setImage s b i).draws = s.draws ∧
    (State.setImage s b i).out = s.out ∧ (State.setImage s b i).hbm = s.hbm ∧
    (State.setImage s b i).host = s.host ∧ (State.setImage s b i).pkg = s.pkg ∧
    (State.setImage s b i).clocks = s.clocks ∧ (State.setImage s b i).engines = s.engines ∧
    (State.setImage s b i).slabs = s.slabs ∧ (State.setImage s b i).rings = s.rings ∧
    (State.setImage s b i).plots = s.plots ∧ (State.setImage s b i).stash = s.stash ∧
    (State.setImage s b i).matJobs = s.matJobs ∧ (State.setImage s b i).vecJobs = s.vecJobs ∧
    (State.setImage s b i).fabric = s.fabric ∧ (State.setImage s b i).ports = s.ports ∧
    (State.setImage s b i).puts = s.puts ∧ (State.setImage s b i).tags = s.tags ∧
    (State.setImage s b i).mgr = s.mgr ∧ (State.setImage s b i).mac = s.mac ∧
    (State.setImage s b i).pcie = s.pcie ∧ (State.setImage s b i).sec = s.sec ∧
    (State.setImage s b i).cores = s.cores ∧ (State.setImage s b i).power = s.power ∧
    (State.setImage s b i).faults = s.faults ∧ (State.setImage s b i).maint = s.maint ∧
    (State.setImage s b i).glob = s.glob := by
  unfold State.setImage
  try dsimp only
  (repeat' split) <;> first | (simp; done) | (simp (disch := (intros; (repeat' split) <;> first | simp | skip)); done)

@[simp] theorem State.markImage_frame (s : State) (b : Bool) (st : Nat) :
    (State.markImage s b st).pending = s.pending ∧ (State.markImage s b st).draws = s.draws ∧
    (State.markImage s b st).out = s.out ∧ (State.markImage s b st).hbm = s.hbm ∧
    (State.markImage s b st).host = s.host ∧ (State.markImage s b st).pkg = s.pkg ∧
    (State.markImage s b st).clocks = s.clocks ∧ (State.markImage s b st).engines = s.engines ∧
    (State.markImage s b st).slabs = s.slabs ∧ (State.markImage s b st).rings = s.rings ∧
    (State.markImage s b st).plots = s.plots ∧ (State.markImage s b st).stash = s.stash ∧
    (State.markImage s b st).matJobs = s.matJobs ∧ (State.markImage s b st).vecJobs = s.vecJobs ∧
    (State.markImage s b st).fabric = s.fabric ∧ (State.markImage s b st).ports = s.ports ∧
    (State.markImage s b st).puts = s.puts ∧ (State.markImage s b st).tags = s.tags ∧
    (State.markImage s b st).mgr = s.mgr ∧ (State.markImage s b st).mac = s.mac ∧
    (State.markImage s b st).pcie = s.pcie ∧ (State.markImage s b st).sec = s.sec ∧
    (State.markImage s b st).cores = s.cores ∧ (State.markImage s b st).power = s.power ∧
    (State.markImage s b st).faults = s.faults ∧ (State.markImage s b st).maint = s.maint ∧
    (State.markImage s b st).glob = s.glob := by
  unfold State.markImage
  try dsimp only
  (repeat' split) <;> first | (simp; done) | (simp (disch := (intros; (repeat' split) <;> first | simp | skip)); done)

@[simp] theorem State.claimManager_frame (s : State) :
    (State.claimManager s).pending = s.pending ∧ (State.claimManager s).out = s.out ∧
    (State.claimManager s).hbm = s.hbm ∧ (State.claimManager s).host = s.host ∧
    (State.claimManager s).pkg = s.pkg ∧ (State.claimManager s).flash = s.flash ∧
    (State.claimManager s).clocks = s.clocks ∧ (State.claimManager s).engines = s.engines ∧
    (State.claimManager s).slabs = s.slabs ∧ (State.claimManager s).rings = s.rings ∧
    (State.claimManager s).plots = s.plots ∧ (State.claimManager s).stash = s.stash ∧
    (State.claimManager s).matJobs = s.matJobs ∧ (State.claimManager s).vecJobs = s.vecJobs ∧
    (State.claimManager s).fabric = s.fabric ∧ (State.claimManager s).ports = s.ports ∧
    (State.claimManager s).puts = s.puts ∧ (State.claimManager s).tags = s.tags ∧
    (State.claimManager s).mac = s.mac ∧ (State.claimManager s).pcie = s.pcie ∧
    (State.claimManager s).sec = s.sec ∧ (State.claimManager s).cores = s.cores ∧
    (State.claimManager s).power = s.power ∧ (State.claimManager s).faults = s.faults ∧
    (State.claimManager s).maint = s.maint ∧ (State.claimManager s).glob = s.glob := by
  unfold State.claimManager
  try dsimp only
  (repeat' split) <;> first | (simp; done) | (simp (disch := (intros; (repeat' split) <;> first | simp | skip)); done)

@[simp] theorem State.release_frame (s : State) (b : Bool) :
    (State.release s b).pending = s.pending ∧ (State.release s b).out = s.out ∧ (State.release s b).hbm = s.hbm ∧
    (State.release s b).host = s.host ∧ (State.release s b).pkg = s.pkg ∧ (State.release s b).flash = s.flash ∧
    (State.release s b).clocks = s.clocks ∧ (State.release s b).engines = s.engines ∧
    (State.release s b).slabs = s.slabs ∧ (State.release s b).rings = s.rings ∧
    (State.release s b).plots = s.plots ∧ (State.release s b).stash = s.stash ∧
    (State.release s b).matJobs = s.matJobs ∧ (State.release s b).vecJobs = s.vecJobs ∧
    (State.release s b).fabric = s.fabric ∧ (State.release s b).ports = s.ports ∧
    (State.release s b).puts = s.puts ∧ (State.release s b).tags = s.tags ∧ (State.release s b).mac = s.mac ∧
    (State.release s b).pcie = s.pcie ∧ (State.release s b).cores = s.cores ∧ (State.release s b).power = s.power ∧
    (State.release s b).faults = s.faults ∧ (State.release s b).maint = s.maint ∧ (State.release s b).glob = s.glob := by
  unfold State.release
  try dsimp only
  (repeat' split) <;> first | (simp; done) | (simp (disch := (intros; (repeat' split) <;> first | simp | skip)); done)

@[simp] theorem State.recover_frame (s : State) :
    (State.recover s).pending = s.pending ∧ (State.recover s).draws = s.draws ∧ (State.recover s).out = s.out ∧
    (State.recover s).hbm = s.hbm ∧ (State.recover s).host = s.host ∧ (State.recover s).pkg = s.pkg ∧
    (State.recover s).clocks = s.clocks ∧ (State.recover s).engines = s.engines ∧
    (State.recover s).slabs = s.slabs ∧ (State.recover s).rings = s.rings ∧ (State.recover s).plots = s.plots ∧
    (State.recover s).stash = s.stash ∧ (State.recover s).matJobs = s.matJobs ∧
    (State.recover s).vecJobs = s.vecJobs ∧ (State.recover s).fabric = s.fabric ∧
    (State.recover s).ports = s.ports ∧ (State.recover s).puts = s.puts ∧ (State.recover s).tags = s.tags ∧
    (State.recover s).mgr = s.mgr ∧ (State.recover s).mac = s.mac ∧ (State.recover s).pcie = s.pcie ∧
    (State.recover s).cores = s.cores ∧ (State.recover s).power = s.power ∧ (State.recover s).faults = s.faults ∧
    (State.recover s).maint = s.maint ∧ (State.recover s).glob = s.glob := by
  unfold State.recover
  try dsimp only
  (repeat' split) <;> first | (simp; done) | (simp (disch := (intros; (repeat' split) <;> first | simp | skip)); done)

@[simp] theorem State.dropTrial_frame (s : State) :
    (State.dropTrial s).pending = s.pending ∧ (State.dropTrial s).draws = s.draws ∧
    (State.dropTrial s).out = s.out ∧ (State.dropTrial s).hbm = s.hbm ∧ (State.dropTrial s).host = s.host ∧
    (State.dropTrial s).pkg = s.pkg ∧ (State.dropTrial s).clocks = s.clocks ∧
    (State.dropTrial s).engines = s.engines ∧ (State.dropTrial s).slabs = s.slabs ∧
    (State.dropTrial s).rings = s.rings ∧ (State.dropTrial s).plots = s.plots ∧
    (State.dropTrial s).stash = s.stash ∧ (State.dropTrial s).matJobs = s.matJobs ∧
    (State.dropTrial s).vecJobs = s.vecJobs ∧ (State.dropTrial s).fabric = s.fabric ∧
    (State.dropTrial s).ports = s.ports ∧ (State.dropTrial s).puts = s.puts ∧ (State.dropTrial s).tags = s.tags ∧
    (State.dropTrial s).mgr = s.mgr ∧ (State.dropTrial s).mac = s.mac ∧ (State.dropTrial s).pcie = s.pcie ∧
    (State.dropTrial s).sec = s.sec ∧ (State.dropTrial s).cores = s.cores ∧ (State.dropTrial s).power = s.power ∧
    (State.dropTrial s).faults = s.faults ∧ (State.dropTrial s).maint = s.maint ∧ (State.dropTrial s).glob = s.glob := by
  unfold State.dropTrial
  try dsimp only
  (repeat' split) <;> first | (simp; done) | (simp (disch := (intros; (repeat' split) <;> first | simp | skip)); done)

@[simp] theorem State.qualifyLanes_frame (s : State) (l : List (Fin 32 × Fin 8 × Fin 32)) :
    (State.qualifyLanes s l).pending = s.pending ∧ (State.qualifyLanes s l).draws = s.draws ∧
    (State.qualifyLanes s l).host = s.host ∧ (State.qualifyLanes s l).clocks = s.clocks ∧
    (State.qualifyLanes s l).engines = s.engines ∧ (State.qualifyLanes s l).stash = s.stash ∧
    (State.qualifyLanes s l).matJobs = s.matJobs ∧ (State.qualifyLanes s l).vecJobs = s.vecJobs ∧
    (State.qualifyLanes s l).mgr = s.mgr ∧ (State.qualifyLanes s l).mac = s.mac ∧
    (State.qualifyLanes s l).sec = s.sec ∧ (State.qualifyLanes s l).cores = s.cores ∧
    (State.qualifyLanes s l).glob = s.glob := by
  unfold State.qualifyLanes
  try dsimp only
  (repeat' split) <;> first | (simp; done) | (simp (disch := (intros; (repeat' split) <;> first | simp | skip)); done)

end Sys2Proof.Machine
end

