-- ==== Sys2Proof/Laws/FrameBringup.lean ====
section
/-! SUPPORT. Frames of the operations of Bringup. -/

namespace Sys2Proof.Machine

@[simp] theorem State.failQualify_frame (s : State) (gd : Nat) :
    (State.failQualify s gd).pending = s.pending ∧ (State.failQualify s gd).draws = s.draws ∧
    (State.failQualify s gd).host = s.host ∧ (State.failQualify s gd).clocks = s.clocks ∧
    (State.failQualify s gd).engines = s.engines ∧ (State.failQualify s gd).plots = s.plots ∧
    (State.failQualify s gd).stash = s.stash ∧ (State.failQualify s gd).matJobs = s.matJobs ∧
    (State.failQualify s gd).vecJobs = s.vecJobs ∧ (State.failQualify s gd).mgr = s.mgr ∧
    (State.failQualify s gd).pcie = s.pcie ∧ (State.failQualify s gd).sec = s.sec ∧
    (State.failQualify s gd).cores = s.cores := by
  unfold State.failQualify
  try dsimp only
  (repeat' split) <;> first | (simp; done) | (simp (disch := (intros; (repeat' split) <;> first | simp | skip)); done)

@[simp] theorem State.joinLease_frame (s : State) (gd p : Nat) :
    (State.joinLease s gd p).pending = s.pending ∧ (State.joinLease s gd p).out = s.out ∧
    (State.joinLease s gd p).regs = s.regs ∧ (State.joinLease s gd p).host = s.host ∧
    (State.joinLease s gd p).flash = s.flash ∧ (State.joinLease s gd p).clocks = s.clocks ∧
    (State.joinLease s gd p).slabs = s.slabs ∧ (State.joinLease s gd p).rings = s.rings ∧
    (State.joinLease s gd p).plots = s.plots ∧ (State.joinLease s gd p).stash = s.stash ∧
    (State.joinLease s gd p).matJobs = s.matJobs ∧ (State.joinLease s gd p).vecJobs = s.vecJobs ∧
    (State.joinLease s gd p).fabric = s.fabric ∧ (State.joinLease s gd p).ports = s.ports ∧
    (State.joinLease s gd p).puts = s.puts ∧ (State.joinLease s gd p).tags = s.tags ∧
    (State.joinLease s gd p).mgr = s.mgr ∧ (State.joinLease s gd p).mac = s.mac ∧
    (State.joinLease s gd p).pcie = s.pcie ∧ (State.joinLease s gd p).sec = s.sec ∧
    (State.joinLease s gd p).cores = s.cores ∧ (State.joinLease s gd p).power = s.power ∧
    (State.joinLease s gd p).faults = s.faults ∧ (State.joinLease s gd p).maint = s.maint ∧
    (State.joinLease s gd p).glob = s.glob := by
  unfold State.joinLease
  try dsimp only
  (repeat' split) <;> first | (simp; done) | (simp (disch := (intros; (repeat' split) <;> first | simp | skip)); done)

@[simp] theorem State.storeAutoWake_frame (s : State) (a : Bool) :
    (State.storeAutoWake s a).pending = s.pending ∧ (State.storeAutoWake s a).draws = s.draws ∧
    (State.storeAutoWake s a).out = s.out ∧ (State.storeAutoWake s a).hbm = s.hbm ∧
    (State.storeAutoWake s a).host = s.host ∧ (State.storeAutoWake s a).pkg = s.pkg ∧
    (State.storeAutoWake s a).flash = s.flash ∧ (State.storeAutoWake s a).clocks = s.clocks ∧
    (State.storeAutoWake s a).engines = s.engines ∧ (State.storeAutoWake s a).slabs = s.slabs ∧
    (State.storeAutoWake s a).rings = s.rings ∧ (State.storeAutoWake s a).plots = s.plots ∧
    (State.storeAutoWake s a).stash = s.stash ∧ (State.storeAutoWake s a).matJobs = s.matJobs ∧
    (State.storeAutoWake s a).vecJobs = s.vecJobs ∧ (State.storeAutoWake s a).fabric = s.fabric ∧
    (State.storeAutoWake s a).ports = s.ports ∧ (State.storeAutoWake s a).puts = s.puts ∧
    (State.storeAutoWake s a).tags = s.tags ∧ (State.storeAutoWake s a).mgr = s.mgr ∧
    (State.storeAutoWake s a).mac = s.mac ∧ (State.storeAutoWake s a).pcie = s.pcie ∧
    (State.storeAutoWake s a).sec = s.sec ∧ (State.storeAutoWake s a).cores = s.cores ∧
    (State.storeAutoWake s a).power = s.power ∧ (State.storeAutoWake s a).faults = s.faults ∧
    (State.storeAutoWake s a).maint = s.maint ∧ (State.storeAutoWake s a).glob = s.glob := by
  unfold State.storeAutoWake
  try dsimp only
  (repeat' split) <;> first | (simp; done) | (simp (disch := (intros; (repeat' split) <;> first | simp | skip)); done)

@[simp] theorem State.beginFallow_frame (s : State) :
    (State.beginFallow s).pending = s.pending ∧ (State.beginFallow s).draws = s.draws ∧
    (State.beginFallow s).out = s.out ∧ (State.beginFallow s).host = s.host ∧ (State.beginFallow s).pkg = s.pkg ∧
    (State.beginFallow s).clocks = s.clocks ∧ (State.beginFallow s).engines = s.engines ∧
    (State.beginFallow s).slabs = s.slabs ∧ (State.beginFallow s).rings = s.rings ∧
    (State.beginFallow s).plots = s.plots ∧ (State.beginFallow s).stash = s.stash ∧
    (State.beginFallow s).matJobs = s.matJobs ∧ (State.beginFallow s).vecJobs = s.vecJobs ∧
    (State.beginFallow s).fabric = s.fabric ∧ (State.beginFallow s).ports = s.ports ∧
    (State.beginFallow s).puts = s.puts ∧ (State.beginFallow s).tags = s.tags ∧ (State.beginFallow s).mgr = s.mgr ∧
    (State.beginFallow s).mac = s.mac ∧ (State.beginFallow s).pcie = s.pcie ∧ (State.beginFallow s).sec = s.sec ∧
    (State.beginFallow s).cores = s.cores ∧ (State.beginFallow s).power = s.power ∧
    (State.beginFallow s).faults = s.faults ∧ (State.beginFallow s).maint = s.maint ∧
    (State.beginFallow s).glob = s.glob := by
  unfold State.beginFallow
  try dsimp only
  (repeat' split) <;> first | (simp; done) | (simp (disch := (intros; (repeat' split) <;> first | simp | skip)); done)

@[simp] theorem State.wakeDie_frame (s : State) (gd : Nat) :
    (State.wakeDie s gd).pending = s.pending ∧ (State.wakeDie s gd).draws = s.draws ∧
    (State.wakeDie s gd).out = s.out ∧ (State.wakeDie s gd).host = s.host ∧ (State.wakeDie s gd).flash = s.flash ∧
    (State.wakeDie s gd).clocks = s.clocks ∧ (State.wakeDie s gd).engines = s.engines ∧
    (State.wakeDie s gd).slabs = s.slabs ∧ (State.wakeDie s gd).rings = s.rings ∧
    (State.wakeDie s gd).plots = s.plots ∧ (State.wakeDie s gd).stash = s.stash ∧
    (State.wakeDie s gd).matJobs = s.matJobs ∧ (State.wakeDie s gd).vecJobs = s.vecJobs ∧
    (State.wakeDie s gd).fabric = s.fabric ∧ (State.wakeDie s gd).ports = s.ports ∧
    (State.wakeDie s gd).puts = s.puts ∧ (State.wakeDie s gd).tags = s.tags ∧ (State.wakeDie s gd).mgr = s.mgr ∧
    (State.wakeDie s gd).mac = s.mac ∧ (State.wakeDie s gd).pcie = s.pcie ∧ (State.wakeDie s gd).sec = s.sec ∧
    (State.wakeDie s gd).cores = s.cores ∧ (State.wakeDie s gd).faults = s.faults ∧
    (State.wakeDie s gd).maint = s.maint ∧ (State.wakeDie s gd).glob = s.glob := by
  unfold State.wakeDie
  try dsimp only
  (repeat' split) <;> first | (simp; done) | (simp (disch := (intros; (repeat' split) <;> first | simp | skip)); done)

end Sys2Proof.Machine
end

