-- ==== Sys2Proof/Laws/FramePower.lean ====
section
/-! SUPPORT. Frames of the operations of Power. -/

namespace Sys2Proof.Machine

@[simp] theorem State.modPower_frame (s : State) (f : Power → Power) :
    (State.modPower s f).pending = s.pending ∧ (State.modPower s f).draws = s.draws ∧
    (State.modPower s f).out = s.out ∧ (State.modPower s f).regs = s.regs ∧ (State.modPower s f).hbm = s.hbm ∧
    (State.modPower s f).host = s.host ∧ (State.modPower s f).pkg = s.pkg ∧ (State.modPower s f).flash = s.flash ∧
    (State.modPower s f).clocks = s.clocks ∧ (State.modPower s f).engines = s.engines ∧
    (State.modPower s f).slabs = s.slabs ∧ (State.modPower s f).rings = s.rings ∧
    (State.modPower s f).plots = s.plots ∧ (State.modPower s f).stash = s.stash ∧
    (State.modPower s f).matJobs = s.matJobs ∧ (State.modPower s f).vecJobs = s.vecJobs ∧
    (State.modPower s f).fabric = s.fabric ∧ (State.modPower s f).ports = s.ports ∧
    (State.modPower s f).puts = s.puts ∧ (State.modPower s f).tags = s.tags ∧ (State.modPower s f).mgr = s.mgr ∧
    (State.modPower s f).mac = s.mac ∧ (State.modPower s f).pcie = s.pcie ∧ (State.modPower s f).sec = s.sec ∧
    (State.modPower s f).cores = s.cores ∧ (State.modPower s f).faults = s.faults ∧
    (State.modPower s f).maint = s.maint ∧ (State.modPower s f).glob = s.glob := by
  unfold State.modPower
  try dsimp only
  (repeat' split) <;> first | (simp; done) | (simp (disch := (intros; (repeat' split) <;> first | simp | skip)); done)

@[simp] theorem State.rampVolts_frame (s : State) :
    (State.rampVolts s).pending = s.pending ∧ (State.rampVolts s).draws = s.draws ∧
    (State.rampVolts s).out = s.out ∧ (State.rampVolts s).hbm = s.hbm ∧ (State.rampVolts s).host = s.host ∧
    (State.rampVolts s).pkg = s.pkg ∧ (State.rampVolts s).flash = s.flash ∧ (State.rampVolts s).clocks = s.clocks ∧
    (State.rampVolts s).engines = s.engines ∧ (State.rampVolts s).slabs = s.slabs ∧
    (State.rampVolts s).rings = s.rings ∧ (State.rampVolts s).plots = s.plots ∧
    (State.rampVolts s).stash = s.stash ∧ (State.rampVolts s).matJobs = s.matJobs ∧
    (State.rampVolts s).vecJobs = s.vecJobs ∧ (State.rampVolts s).fabric = s.fabric ∧
    (State.rampVolts s).ports = s.ports ∧ (State.rampVolts s).puts = s.puts ∧ (State.rampVolts s).tags = s.tags ∧
    (State.rampVolts s).mgr = s.mgr ∧ (State.rampVolts s).mac = s.mac ∧ (State.rampVolts s).pcie = s.pcie ∧
    (State.rampVolts s).sec = s.sec ∧ (State.rampVolts s).cores = s.cores ∧ (State.rampVolts s).power = s.power ∧
    (State.rampVolts s).faults = s.faults ∧ (State.rampVolts s).maint = s.maint ∧ (State.rampVolts s).glob = s.glob := by
  unfold State.rampVolts
  try dsimp only
  (repeat' split) <;> first | (simp; done) | (simp (disch := (intros; (repeat' split) <;> first | simp | skip)); done)

@[simp] theorem State.follow_frame (s : State) (power : Nat) (compute : List Nat) (steady : Bool) :
    (State.follow s power compute steady).pending = s.pending ∧
    (State.follow s power compute steady).draws = s.draws ∧ (State.follow s power compute steady).out = s.out ∧
    (State.follow s power compute steady).regs = s.regs ∧ (State.follow s power compute steady).hbm = s.hbm ∧
    (State.follow s power compute steady).host = s.host ∧ (State.follow s power compute steady).pkg = s.pkg ∧
    (State.follow s power compute steady).flash = s.flash ∧
    (State.follow s power compute steady).clocks = s.clocks ∧
    (State.follow s power compute steady).engines = s.engines ∧
    (State.follow s power compute steady).slabs = s.slabs ∧ (State.follow s power compute steady).rings = s.rings ∧
    (State.follow s power compute steady).plots = s.plots ∧ (State.follow s power compute steady).stash = s.stash ∧
    (State.follow s power compute steady).matJobs = s.matJobs ∧
    (State.follow s power compute steady).vecJobs = s.vecJobs ∧
    (State.follow s power compute steady).fabric = s.fabric ∧
    (State.follow s power compute steady).ports = s.ports ∧ (State.follow s power compute steady).puts = s.puts ∧
    (State.follow s power compute steady).tags = s.tags ∧ (State.follow s power compute steady).mgr = s.mgr ∧
    (State.follow s power compute steady).mac = s.mac ∧ (State.follow s power compute steady).pcie = s.pcie ∧
    (State.follow s power compute steady).sec = s.sec ∧ (State.follow s power compute steady).cores = s.cores ∧
    (State.follow s power compute steady).faults = s.faults ∧
    (State.follow s power compute steady).maint = s.maint ∧ (State.follow s power compute steady).glob = s.glob := by
  unfold State.follow
  try dsimp only
  (repeat' split) <;> first | (simp; done) | (simp (disch := (intros; (repeat' split) <;> first | simp | skip)); done)

@[simp] theorem State.refreshDroop_frame (s : State) :
    (State.refreshDroop s).pending = s.pending ∧ (State.refreshDroop s).draws = s.draws ∧
    (State.refreshDroop s).out = s.out ∧ (State.refreshDroop s).hbm = s.hbm ∧
    (State.refreshDroop s).host = s.host ∧ (State.refreshDroop s).pkg = s.pkg ∧
    (State.refreshDroop s).flash = s.flash ∧ (State.refreshDroop s).clocks = s.clocks ∧
    (State.refreshDroop s).engines = s.engines ∧ (State.refreshDroop s).slabs = s.slabs ∧
    (State.refreshDroop s).rings = s.rings ∧ (State.refreshDroop s).plots = s.plots ∧
    (State.refreshDroop s).stash = s.stash ∧ (State.refreshDroop s).matJobs = s.matJobs ∧
    (State.refreshDroop s).vecJobs = s.vecJobs ∧ (State.refreshDroop s).fabric = s.fabric ∧
    (State.refreshDroop s).ports = s.ports ∧ (State.refreshDroop s).puts = s.puts ∧
    (State.refreshDroop s).tags = s.tags ∧ (State.refreshDroop s).mgr = s.mgr ∧
    (State.refreshDroop s).mac = s.mac ∧ (State.refreshDroop s).pcie = s.pcie ∧
    (State.refreshDroop s).sec = s.sec ∧ (State.refreshDroop s).cores = s.cores ∧
    (State.refreshDroop s).power = s.power ∧ (State.refreshDroop s).faults = s.faults ∧
    (State.refreshDroop s).maint = s.maint ∧ (State.refreshDroop s).glob = s.glob := by
  unfold State.refreshDroop
  try dsimp only
  (repeat' split) <;> first | (simp; done) | (simp (disch := (intros; (repeat' split) <;> first | simp | skip)); done)

@[simp] theorem State.restartTile_frame (s : State) (a : Nat) :
    (State.restartTile s a).pending = s.pending ∧ (State.restartTile s a).draws = s.draws ∧
    (State.restartTile s a).out = s.out ∧ (State.restartTile s a).regs = s.regs ∧
    (State.restartTile s a).hbm = s.hbm ∧ (State.restartTile s a).host = s.host ∧
    (State.restartTile s a).pkg = s.pkg ∧ (State.restartTile s a).flash = s.flash ∧
    (State.restartTile s a).clocks = s.clocks ∧ (State.restartTile s a).slabs = s.slabs ∧
    (State.restartTile s a).rings = s.rings ∧ (State.restartTile s a).plots = s.plots ∧
    (State.restartTile s a).stash = s.stash ∧ (State.restartTile s a).vecJobs = s.vecJobs ∧
    (State.restartTile s a).fabric = s.fabric ∧ (State.restartTile s a).ports = s.ports ∧
    (State.restartTile s a).puts = s.puts ∧ (State.restartTile s a).tags = s.tags ∧
    (State.restartTile s a).mgr = s.mgr ∧ (State.restartTile s a).mac = s.mac ∧
    (State.restartTile s a).pcie = s.pcie ∧ (State.restartTile s a).sec = s.sec ∧
    (State.restartTile s a).cores = s.cores ∧ (State.restartTile s a).power = s.power ∧
    (State.restartTile s a).faults = s.faults ∧ (State.restartTile s a).maint = s.maint ∧
    (State.restartTile s a).glob = s.glob := by
  unfold State.restartTile
  try dsimp only
  (repeat' split) <;> first | (simp; done) | (simp (disch := (intros; (repeat' split) <;> first | simp | skip)); done)

@[simp] theorem State.failPathOn_frame (s : State) (here : Nat → Bool) :
    (State.failPathOn s here).pending = s.pending ∧ (State.failPathOn s here).draws = s.draws ∧
    (State.failPathOn s here).hbm = s.hbm ∧ (State.failPathOn s here).host = s.host ∧
    (State.failPathOn s here).pkg = s.pkg ∧ (State.failPathOn s here).flash = s.flash ∧
    (State.failPathOn s here).clocks = s.clocks ∧ (State.failPathOn s here).engines = s.engines ∧
    (State.failPathOn s here).slabs = s.slabs ∧ (State.failPathOn s here).rings = s.rings ∧
    (State.failPathOn s here).plots = s.plots ∧ (State.failPathOn s here).stash = s.stash ∧
    (State.failPathOn s here).matJobs = s.matJobs ∧ (State.failPathOn s here).vecJobs = s.vecJobs ∧
    (State.failPathOn s here).puts = s.puts ∧ (State.failPathOn s here).mgr = s.mgr ∧
    (State.failPathOn s here).mac = s.mac ∧ (State.failPathOn s here).pcie = s.pcie ∧
    (State.failPathOn s here).sec = s.sec ∧ (State.failPathOn s here).cores = s.cores ∧
    (State.failPathOn s here).power = s.power ∧ (State.failPathOn s here).faults = s.faults ∧
    (State.failPathOn s here).maint = s.maint ∧ (State.failPathOn s here).glob = s.glob := by
  unfold State.failPathOn
  try dsimp only
  (repeat' split) <;> first | (simp; done) | (simp (disch := (intros; (repeat' split) <;> first | simp | skip)); done)

@[simp] theorem State.endBrownout_frame (s : State) (gd : Nat) :
    (State.endBrownout s gd).pending = s.pending ∧ (State.endBrownout s gd).draws = s.draws ∧
    (State.endBrownout s gd).out = s.out ∧ (State.endBrownout s gd).hbm = s.hbm ∧
    (State.endBrownout s gd).host = s.host ∧ (State.endBrownout s gd).pkg = s.pkg ∧
    (State.endBrownout s gd).flash = s.flash ∧ (State.endBrownout s gd).clocks = s.clocks ∧
    (State.endBrownout s gd).engines = s.engines ∧ (State.endBrownout s gd).slabs = s.slabs ∧
    (State.endBrownout s gd).rings = s.rings ∧ (State.endBrownout s gd).plots = s.plots ∧
    (State.endBrownout s gd).stash = s.stash ∧ (State.endBrownout s gd).matJobs = s.matJobs ∧
    (State.endBrownout s gd).vecJobs = s.vecJobs ∧ (State.endBrownout s gd).fabric = s.fabric ∧
    (State.endBrownout s gd).ports = s.ports ∧ (State.endBrownout s gd).puts = s.puts ∧
    (State.endBrownout s gd).tags = s.tags ∧ (State.endBrownout s gd).mgr = s.mgr ∧
    (State.endBrownout s gd).mac = s.mac ∧ (State.endBrownout s gd).pcie = s.pcie ∧
    (State.endBrownout s gd).sec = s.sec ∧ (State.endBrownout s gd).cores = s.cores ∧
    (State.endBrownout s gd).faults = s.faults ∧ (State.endBrownout s gd).maint = s.maint ∧
    (State.endBrownout s gd).glob = s.glob := by
  unfold State.endBrownout
  try dsimp only
  (repeat' split) <;> first | (simp; done) | (simp (disch := (intros; (repeat' split) <;> first | simp | skip)); done)

@[simp] theorem State.chargePlot_frame (s : State) (p e : Nat) :
    (State.chargePlot s p e).1.pending = s.pending ∧ (State.chargePlot s p e).1.draws = s.draws ∧
    (State.chargePlot s p e).1.out = s.out ∧ (State.chargePlot s p e).1.hbm = s.hbm ∧
    (State.chargePlot s p e).1.host = s.host ∧ (State.chargePlot s p e).1.pkg = s.pkg ∧
    (State.chargePlot s p e).1.flash = s.flash ∧ (State.chargePlot s p e).1.clocks = s.clocks ∧
    (State.chargePlot s p e).1.engines = s.engines ∧ (State.chargePlot s p e).1.slabs = s.slabs ∧
    (State.chargePlot s p e).1.rings = s.rings ∧ (State.chargePlot s p e).1.stash = s.stash ∧
    (State.chargePlot s p e).1.matJobs = s.matJobs ∧ (State.chargePlot s p e).1.vecJobs = s.vecJobs ∧
    (State.chargePlot s p e).1.fabric = s.fabric ∧ (State.chargePlot s p e).1.ports = s.ports ∧
    (State.chargePlot s p e).1.puts = s.puts ∧ (State.chargePlot s p e).1.tags = s.tags ∧
    (State.chargePlot s p e).1.mgr = s.mgr ∧ (State.chargePlot s p e).1.mac = s.mac ∧
    (State.chargePlot s p e).1.pcie = s.pcie ∧ (State.chargePlot s p e).1.sec = s.sec ∧
    (State.chargePlot s p e).1.cores = s.cores ∧ (State.chargePlot s p e).1.power = s.power ∧
    (State.chargePlot s p e).1.faults = s.faults ∧ (State.chargePlot s p e).1.maint = s.maint ∧
    (State.chargePlot s p e).1.glob = s.glob := by
  unfold State.chargePlot
  try dsimp only
  (repeat' split) <;> first | (simp; done) | (simp (disch := (intros; (repeat' split) <;> first | simp | skip)); done)

@[simp] theorem State.chargeRing_frame (s : State) (r e : Nat) :
    (State.chargeRing s r e).pending = s.pending ∧ (State.chargeRing s r e).draws = s.draws ∧
    (State.chargeRing s r e).out = s.out ∧ (State.chargeRing s r e).hbm = s.hbm ∧
    (State.chargeRing s r e).host = s.host ∧ (State.chargeRing s r e).pkg = s.pkg ∧
    (State.chargeRing s r e).flash = s.flash ∧ (State.chargeRing s r e).clocks = s.clocks ∧
    (State.chargeRing s r e).engines = s.engines ∧ (State.chargeRing s r e).slabs = s.slabs ∧
    (State.chargeRing s r e).plots = s.plots ∧ (State.chargeRing s r e).stash = s.stash ∧
    (State.chargeRing s r e).matJobs = s.matJobs ∧ (State.chargeRing s r e).vecJobs = s.vecJobs ∧
    (State.chargeRing s r e).fabric = s.fabric ∧ (State.chargeRing s r e).ports = s.ports ∧
    (State.chargeRing s r e).puts = s.puts ∧ (State.chargeRing s r e).tags = s.tags ∧
    (State.chargeRing s r e).mgr = s.mgr ∧ (State.chargeRing s r e).mac = s.mac ∧
    (State.chargeRing s r e).pcie = s.pcie ∧ (State.chargeRing s r e).sec = s.sec ∧
    (State.chargeRing s r e).cores = s.cores ∧ (State.chargeRing s r e).power = s.power ∧
    (State.chargeRing s r e).faults = s.faults ∧ (State.chargeRing s r e).maint = s.maint ∧
    (State.chargeRing s r e).glob = s.glob := by
  unfold State.chargeRing
  try dsimp only
  (repeat' split) <;> first | (simp; done) | (simp (disch := (intros; (repeat' split) <;> first | simp | skip)); done)

@[simp] theorem State.chargeNone_frame (s : State) (e : Nat) :
    (State.chargeNone s e).1.pending = s.pending ∧ (State.chargeNone s e).1.draws = s.draws ∧
    (State.chargeNone s e).1.out = s.out ∧ (State.chargeNone s e).1.hbm = s.hbm ∧
    (State.chargeNone s e).1.host = s.host ∧ (State.chargeNone s e).1.pkg = s.pkg ∧
    (State.chargeNone s e).1.flash = s.flash ∧ (State.chargeNone s e).1.clocks = s.clocks ∧
    (State.chargeNone s e).1.engines = s.engines ∧ (State.chargeNone s e).1.slabs = s.slabs ∧
    (State.chargeNone s e).1.rings = s.rings ∧ (State.chargeNone s e).1.plots = s.plots ∧
    (State.chargeNone s e).1.stash = s.stash ∧ (State.chargeNone s e).1.matJobs = s.matJobs ∧
    (State.chargeNone s e).1.vecJobs = s.vecJobs ∧ (State.chargeNone s e).1.fabric = s.fabric ∧
    (State.chargeNone s e).1.ports = s.ports ∧ (State.chargeNone s e).1.puts = s.puts ∧
    (State.chargeNone s e).1.tags = s.tags ∧ (State.chargeNone s e).1.mgr = s.mgr ∧
    (State.chargeNone s e).1.mac = s.mac ∧ (State.chargeNone s e).1.pcie = s.pcie ∧
    (State.chargeNone s e).1.sec = s.sec ∧ (State.chargeNone s e).1.cores = s.cores ∧
    (State.chargeNone s e).1.faults = s.faults ∧ (State.chargeNone s e).1.maint = s.maint ∧
    (State.chargeNone s e).1.glob = s.glob := by
  unfold State.chargeNone
  try dsimp only
  (repeat' split) <;> first | (simp; done) | (simp (disch := (intros; (repeat' split) <;> first | simp | skip)); done)

@[simp] theorem State.chargeDevice_frame (s : State) (u : Nat) :
    (State.chargeDevice s u).pending = s.pending ∧ (State.chargeDevice s u).draws = s.draws ∧
    (State.chargeDevice s u).out = s.out ∧ (State.chargeDevice s u).hbm = s.hbm ∧
    (State.chargeDevice s u).host = s.host ∧ (State.chargeDevice s u).pkg = s.pkg ∧
    (State.chargeDevice s u).flash = s.flash ∧ (State.chargeDevice s u).clocks = s.clocks ∧
    (State.chargeDevice s u).engines = s.engines ∧ (State.chargeDevice s u).slabs = s.slabs ∧
    (State.chargeDevice s u).rings = s.rings ∧ (State.chargeDevice s u).plots = s.plots ∧
    (State.chargeDevice s u).stash = s.stash ∧ (State.chargeDevice s u).matJobs = s.matJobs ∧
    (State.chargeDevice s u).vecJobs = s.vecJobs ∧ (State.chargeDevice s u).fabric = s.fabric ∧
    (State.chargeDevice s u).ports = s.ports ∧ (State.chargeDevice s u).puts = s.puts ∧
    (State.chargeDevice s u).tags = s.tags ∧ (State.chargeDevice s u).mgr = s.mgr ∧
    (State.chargeDevice s u).mac = s.mac ∧ (State.chargeDevice s u).pcie = s.pcie ∧
    (State.chargeDevice s u).sec = s.sec ∧ (State.chargeDevice s u).cores = s.cores ∧
    (State.chargeDevice s u).faults = s.faults ∧ (State.chargeDevice s u).maint = s.maint ∧
    (State.chargeDevice s u).glob = s.glob := by
  unfold State.chargeDevice
  try dsimp only
  (repeat' split) <;> first | (simp; done) | (simp (disch := (intros; (repeat' split) <;> first | simp | skip)); done)

@[simp] theorem State.thermFlag_frame (s : State) (f : Fld) :
    (State.thermFlag s f).pending = s.pending ∧ (State.thermFlag s f).draws = s.draws ∧
    (State.thermFlag s f).out = s.out ∧ (State.thermFlag s f).hbm = s.hbm ∧ (State.thermFlag s f).host = s.host ∧
    (State.thermFlag s f).pkg = s.pkg ∧ (State.thermFlag s f).flash = s.flash ∧
    (State.thermFlag s f).clocks = s.clocks ∧ (State.thermFlag s f).engines = s.engines ∧
    (State.thermFlag s f).slabs = s.slabs ∧ (State.thermFlag s f).rings = s.rings ∧
    (State.thermFlag s f).plots = s.plots ∧ (State.thermFlag s f).stash = s.stash ∧
    (State.thermFlag s f).matJobs = s.matJobs ∧ (State.thermFlag s f).vecJobs = s.vecJobs ∧
    (State.thermFlag s f).fabric = s.fabric ∧ (State.thermFlag s f).ports = s.ports ∧
    (State.thermFlag s f).puts = s.puts ∧ (State.thermFlag s f).tags = s.tags ∧ (State.thermFlag s f).mgr = s.mgr ∧
    (State.thermFlag s f).mac = s.mac ∧ (State.thermFlag s f).pcie = s.pcie ∧ (State.thermFlag s f).sec = s.sec ∧
    (State.thermFlag s f).cores = s.cores ∧ (State.thermFlag s f).power = s.power ∧
    (State.thermFlag s f).faults = s.faults ∧ (State.thermFlag s f).maint = s.maint ∧
    (State.thermFlag s f).glob = s.glob := by
  unfold State.thermFlag
  try dsimp only
  (repeat' split) <;> first | (simp; done) | (simp (disch := (intros; (repeat' split) <;> first | simp | skip)); done)

@[simp] theorem State.warnDie_frame (s : State) (d t : Nat) :
    (State.warnDie s d t).pending = s.pending ∧ (State.warnDie s d t).draws = s.draws ∧
    (State.warnDie s d t).hbm = s.hbm ∧ (State.warnDie s d t).host = s.host ∧ (State.warnDie s d t).pkg = s.pkg ∧
    (State.warnDie s d t).flash = s.flash ∧ (State.warnDie s d t).clocks = s.clocks ∧
    (State.warnDie s d t).engines = s.engines ∧ (State.warnDie s d t).slabs = s.slabs ∧
    (State.warnDie s d t).rings = s.rings ∧ (State.warnDie s d t).plots = s.plots ∧
    (State.warnDie s d t).stash = s.stash ∧ (State.warnDie s d t).matJobs = s.matJobs ∧
    (State.warnDie s d t).vecJobs = s.vecJobs ∧ (State.warnDie s d t).fabric = s.fabric ∧
    (State.warnDie s d t).ports = s.ports ∧ (State.warnDie s d t).puts = s.puts ∧
    (State.warnDie s d t).tags = s.tags ∧ (State.warnDie s d t).mgr = s.mgr ∧ (State.warnDie s d t).mac = s.mac ∧
    (State.warnDie s d t).sec = s.sec ∧ (State.warnDie s d t).cores = s.cores ∧
    (State.warnDie s d t).faults = s.faults ∧ (State.warnDie s d t).maint = s.maint ∧
    (State.warnDie s d t).glob = s.glob := by
  unfold State.warnDie
  try dsimp only
  (repeat' split) <;> first | (simp; done) | (simp (disch := (intros; (repeat' split) <;> first | simp | skip)); done)

@[simp] theorem State.throttleDie_frame (s : State) (d t : Nat) :
    (State.throttleDie s d t).pending = s.pending ∧ (State.throttleDie s d t).draws = s.draws ∧
    (State.throttleDie s d t).out = s.out ∧ (State.throttleDie s d t).hbm = s.hbm ∧
    (State.throttleDie s d t).host = s.host ∧ (State.throttleDie s d t).pkg = s.pkg ∧
    (State.throttleDie s d t).flash = s.flash ∧ (State.throttleDie s d t).clocks = s.clocks ∧
    (State.throttleDie s d t).engines = s.engines ∧ (State.throttleDie s d t).slabs = s.slabs ∧
    (State.throttleDie s d t).rings = s.rings ∧ (State.throttleDie s d t).plots = s.plots ∧
    (State.throttleDie s d t).stash = s.stash ∧ (State.throttleDie s d t).matJobs = s.matJobs ∧
    (State.throttleDie s d t).vecJobs = s.vecJobs ∧ (State.throttleDie s d t).fabric = s.fabric ∧
    (State.throttleDie s d t).ports = s.ports ∧ (State.throttleDie s d t).puts = s.puts ∧
    (State.throttleDie s d t).tags = s.tags ∧ (State.throttleDie s d t).mgr = s.mgr ∧
    (State.throttleDie s d t).mac = s.mac ∧ (State.throttleDie s d t).pcie = s.pcie ∧
    (State.throttleDie s d t).sec = s.sec ∧ (State.throttleDie s d t).cores = s.cores ∧
    (State.throttleDie s d t).faults = s.faults ∧ (State.throttleDie s d t).maint = s.maint ∧
    (State.throttleDie s d t).glob = s.glob := by
  unfold State.throttleDie
  try dsimp only
  (repeat' split) <;> first | (simp; done) | (simp (disch := (intros; (repeat' split) <;> first | simp | skip)); done)

@[simp] theorem State.readDie_frame (s : State) (d t : Nat) :
    (State.readDie s d t).pending = s.pending ∧ (State.readDie s d t).draws = s.draws ∧
    (State.readDie s d t).hbm = s.hbm ∧ (State.readDie s d t).host = s.host ∧ (State.readDie s d t).pkg = s.pkg ∧
    (State.readDie s d t).flash = s.flash ∧ (State.readDie s d t).clocks = s.clocks ∧
    (State.readDie s d t).engines = s.engines ∧ (State.readDie s d t).slabs = s.slabs ∧
    (State.readDie s d t).rings = s.rings ∧ (State.readDie s d t).plots = s.plots ∧
    (State.readDie s d t).stash = s.stash ∧ (State.readDie s d t).matJobs = s.matJobs ∧
    (State.readDie s d t).vecJobs = s.vecJobs ∧ (State.readDie s d t).fabric = s.fabric ∧
    (State.readDie s d t).ports = s.ports ∧ (State.readDie s d t).puts = s.puts ∧
    (State.readDie s d t).tags = s.tags ∧ (State.readDie s d t).mgr = s.mgr ∧ (State.readDie s d t).mac = s.mac ∧
    (State.readDie s d t).sec = s.sec ∧ (State.readDie s d t).cores = s.cores ∧
    (State.readDie s d t).faults = s.faults ∧ (State.readDie s d t).maint = s.maint ∧
    (State.readDie s d t).glob = s.glob := by
  unfold State.readDie
  try dsimp only
  (repeat' split) <;> first | (simp; done) | (simp (disch := (intros; (repeat' split) <;> first | simp | skip)); done)

@[simp] theorem State.showHottest_frame (s : State) :
    (State.showHottest s).pending = s.pending ∧ (State.showHottest s).draws = s.draws ∧
    (State.showHottest s).out = s.out ∧ (State.showHottest s).hbm = s.hbm ∧ (State.showHottest s).host = s.host ∧
    (State.showHottest s).pkg = s.pkg ∧ (State.showHottest s).flash = s.flash ∧
    (State.showHottest s).clocks = s.clocks ∧ (State.showHottest s).engines = s.engines ∧
    (State.showHottest s).slabs = s.slabs ∧ (State.showHottest s).rings = s.rings ∧
    (State.showHottest s).plots = s.plots ∧ (State.showHottest s).stash = s.stash ∧
    (State.showHottest s).matJobs = s.matJobs ∧ (State.showHottest s).vecJobs = s.vecJobs ∧
    (State.showHottest s).fabric = s.fabric ∧ (State.showHottest s).ports = s.ports ∧
    (State.showHottest s).puts = s.puts ∧ (State.showHottest s).tags = s.tags ∧ (State.showHottest s).mgr = s.mgr ∧
    (State.showHottest s).mac = s.mac ∧ (State.showHottest s).pcie = s.pcie ∧ (State.showHottest s).sec = s.sec ∧
    (State.showHottest s).cores = s.cores ∧ (State.showHottest s).power = s.power ∧
    (State.showHottest s).faults = s.faults ∧ (State.showHottest s).maint = s.maint ∧
    (State.showHottest s).glob = s.glob := by
  unfold State.showHottest
  try dsimp only
  (repeat' split) <;> first | (simp; done) | (simp (disch := (intros; (repeat' split) <;> first | simp | skip)); done)

@[simp] theorem State.readPressure_frame (s : State) (pressure : Option Nat) :
    (State.readPressure s pressure).pending = s.pending ∧ (State.readPressure s pressure).out = s.out ∧
    (State.readPressure s pressure).hbm = s.hbm ∧ (State.readPressure s pressure).host = s.host ∧
    (State.readPressure s pressure).pkg = s.pkg ∧ (State.readPressure s pressure).flash = s.flash ∧
    (State.readPressure s pressure).clocks = s.clocks ∧ (State.readPressure s pressure).engines = s.engines ∧
    (State.readPressure s pressure).slabs = s.slabs ∧ (State.readPressure s pressure).rings = s.rings ∧
    (State.readPressure s pressure).plots = s.plots ∧ (State.readPressure s pressure).stash = s.stash ∧
    (State.readPressure s pressure).matJobs = s.matJobs ∧ (State.readPressure s pressure).vecJobs = s.vecJobs ∧
    (State.readPressure s pressure).fabric = s.fabric ∧ (State.readPressure s pressure).ports = s.ports ∧
    (State.readPressure s pressure).puts = s.puts ∧ (State.readPressure s pressure).tags = s.tags ∧
    (State.readPressure s pressure).mgr = s.mgr ∧ (State.readPressure s pressure).mac = s.mac ∧
    (State.readPressure s pressure).pcie = s.pcie ∧ (State.readPressure s pressure).sec = s.sec ∧
    (State.readPressure s pressure).cores = s.cores ∧ (State.readPressure s pressure).faults = s.faults ∧
    (State.readPressure s pressure).maint = s.maint ∧ (State.readPressure s pressure).glob = s.glob := by
  unfold State.readPressure
  try dsimp only
  (repeat' split) <;> first | (simp; done) | (simp (disch := (intros; (repeat' split) <;> first | simp | skip)); done)

@[simp] theorem State.coolWarn_frame (s : State) (f : Fld) (pct : Nat) :
    (State.coolWarn s f pct).pending = s.pending ∧ (State.coolWarn s f pct).draws = s.draws ∧
    (State.coolWarn s f pct).hbm = s.hbm ∧ (State.coolWarn s f pct).host = s.host ∧
    (State.coolWarn s f pct).pkg = s.pkg ∧ (State.coolWarn s f pct).flash = s.flash ∧
    (State.coolWarn s f pct).clocks = s.clocks ∧ (State.coolWarn s f pct).engines = s.engines ∧
    (State.coolWarn s f pct).slabs = s.slabs ∧ (State.coolWarn s f pct).rings = s.rings ∧
    (State.coolWarn s f pct).plots = s.plots ∧ (State.coolWarn s f pct).stash = s.stash ∧
    (State.coolWarn s f pct).matJobs = s.matJobs ∧ (State.coolWarn s f pct).vecJobs = s.vecJobs ∧
    (State.coolWarn s f pct).fabric = s.fabric ∧ (State.coolWarn s f pct).ports = s.ports ∧
    (State.coolWarn s f pct).puts = s.puts ∧ (State.coolWarn s f pct).tags = s.tags ∧
    (State.coolWarn s f pct).mgr = s.mgr ∧ (State.coolWarn s f pct).mac = s.mac ∧
    (State.coolWarn s f pct).sec = s.sec ∧ (State.coolWarn s f pct).cores = s.cores ∧
    (State.coolWarn s f pct).power = s.power ∧ (State.coolWarn s f pct).faults = s.faults ∧
    (State.coolWarn s f pct).maint = s.maint ∧ (State.coolWarn s f pct).glob = s.glob := by
  unfold State.coolWarn
  try dsimp only
  (repeat' split) <;> first | (simp; done) | (simp (disch := (intros; (repeat' split) <;> first | simp | skip)); done)

@[simp] theorem State.coolState_frame (s : State) :
    (State.coolState s).pending = s.pending ∧ (State.coolState s).draws = s.draws ∧
    (State.coolState s).out = s.out ∧ (State.coolState s).hbm = s.hbm ∧ (State.coolState s).host = s.host ∧
    (State.coolState s).pkg = s.pkg ∧ (State.coolState s).flash = s.flash ∧ (State.coolState s).clocks = s.clocks ∧
    (State.coolState s).engines = s.engines ∧ (State.coolState s).slabs = s.slabs ∧
    (State.coolState s).rings = s.rings ∧ (State.coolState s).plots = s.plots ∧
    (State.coolState s).stash = s.stash ∧ (State.coolState s).matJobs = s.matJobs ∧
    (State.coolState s).vecJobs = s.vecJobs ∧ (State.coolState s).fabric = s.fabric ∧
    (State.coolState s).ports = s.ports ∧ (State.coolState s).puts = s.puts ∧ (State.coolState s).tags = s.tags ∧
    (State.coolState s).mgr = s.mgr ∧ (State.coolState s).mac = s.mac ∧ (State.coolState s).pcie = s.pcie ∧
    (State.coolState s).sec = s.sec ∧ (State.coolState s).cores = s.cores ∧ (State.coolState s).power = s.power ∧
    (State.coolState s).faults = s.faults ∧ (State.coolState s).maint = s.maint ∧ (State.coolState s).glob = s.glob := by
  unfold State.coolState
  try dsimp only
  (repeat' split) <;> first | (simp; done) | (simp (disch := (intros; (repeat' split) <;> first | simp | skip)); done)

@[simp] theorem State.suddenStop_frame (s : State) :
    (State.suddenStop s).pending = s.pending ∧ (State.suddenStop s).draws = s.draws ∧
    (State.suddenStop s).hbm = s.hbm ∧ (State.suddenStop s).host = s.host ∧ (State.suddenStop s).pkg = s.pkg ∧
    (State.suddenStop s).clocks = s.clocks ∧ (State.suddenStop s).engines = s.engines ∧
    (State.suddenStop s).slabs = s.slabs ∧ (State.suddenStop s).rings = s.rings ∧
    (State.suddenStop s).stash = s.stash ∧ (State.suddenStop s).matJobs = s.matJobs ∧
    (State.suddenStop s).vecJobs = s.vecJobs ∧ (State.suddenStop s).fabric = s.fabric ∧
    (State.suddenStop s).ports = s.ports ∧ (State.suddenStop s).puts = s.puts ∧
    (State.suddenStop s).tags = s.tags ∧ (State.suddenStop s).mgr = s.mgr ∧ (State.suddenStop s).mac = s.mac ∧
    (State.suddenStop s).sec = s.sec ∧ (State.suddenStop s).cores = s.cores ∧
    (State.suddenStop s).maint = s.maint ∧ (State.suddenStop s).glob = s.glob := by
  unfold State.suddenStop
  try dsimp only
  (repeat' split) <;> first | (simp; done) | (simp (disch := (intros; (repeat' split) <;> first | simp | skip)); done)

end Sys2Proof.Machine
end

