-- ==== Sys2Proof/Laws/FrameTransfers.lean ====
section
/-! SUPPORT. Frames of the operations of Transfers. -/

namespace Sys2Proof.Machine

@[simp] theorem State.sendCompletion_frame (s : State) (p node tag status : Nat) :
    (State.sendCompletion s p node tag status).pending = s.pending ∧
    (State.sendCompletion s p node tag status).draws = s.draws ∧
    (State.sendCompletion s p node tag status).regs = s.regs ∧
    (State.sendCompletion s p node tag status).hbm = s.hbm ∧
    (State.sendCompletion s p node tag status).host = s.host ∧
    (State.sendCompletion s p node tag status).pkg = s.pkg ∧
    (State.sendCompletion s p node tag status).flash = s.flash ∧
    (State.sendCompletion s p node tag status).clocks = s.clocks ∧
    (State.sendCompletion s p node tag status).engines = s.engines ∧
    (State.sendCompletion s p node tag status).slabs = s.slabs ∧
    (State.sendCompletion s p node tag status).rings = s.rings ∧
    (State.sendCompletion s p node tag status).plots = s.plots ∧
    (State.sendCompletion s p node tag status).stash = s.stash ∧
    (State.sendCompletion s p node tag status).matJobs = s.matJobs ∧
    (State.sendCompletion s p node tag status).vecJobs = s.vecJobs ∧
    (State.sendCompletion s p node tag status).fabric = s.fabric ∧
    (State.sendCompletion s p node tag status).puts = s.puts ∧
    (State.sendCompletion s p node tag status).tags = s.tags ∧
    (State.sendCompletion s p node tag status).mgr = s.mgr ∧
    (State.sendCompletion s p node tag status).mac = s.mac ∧
    (State.sendCompletion s p node tag status).pcie = s.pcie ∧
    (State.sendCompletion s p node tag status).sec = s.sec ∧
    (State.sendCompletion s p node tag status).cores = s.cores ∧
    (State.sendCompletion s p node tag status).power = s.power ∧
    (State.sendCompletion s p node tag status).faults = s.faults ∧
    (State.sendCompletion s p node tag status).maint = s.maint ∧
    (State.sendCompletion s p node tag status).glob = s.glob := by
  unfold State.sendCompletion
  try dsimp only
  (repeat' split) <;> first | (simp; done) | (simp (disch := (intros; (repeat' split) <;> first | simp | skip)); done)

@[simp] theorem State.admitPeer_frame (s : State) (src a n : Nat) :
    (State.admitPeer s src a n).1.pending = s.pending ∧ (State.admitPeer s src a n).1.draws = s.draws ∧
    (State.admitPeer s src a n).1.out = s.out ∧ (State.admitPeer s src a n).1.hbm = s.hbm ∧
    (State.admitPeer s src a n).1.host = s.host ∧ (State.admitPeer s src a n).1.pkg = s.pkg ∧
    (State.admitPeer s src a n).1.flash = s.flash ∧ (State.admitPeer s src a n).1.clocks = s.clocks ∧
    (State.admitPeer s src a n).1.engines = s.engines ∧ (State.admitPeer s src a n).1.slabs = s.slabs ∧
    (State.admitPeer s src a n).1.rings = s.rings ∧ (State.admitPeer s src a n).1.plots = s.plots ∧
    (State.admitPeer s src a n).1.stash = s.stash ∧ (State.admitPeer s src a n).1.matJobs = s.matJobs ∧
    (State.admitPeer s src a n).1.vecJobs = s.vecJobs ∧ (State.admitPeer s src a n).1.fabric = s.fabric ∧
    (State.admitPeer s src a n).1.ports = s.ports ∧ (State.admitPeer s src a n).1.puts = s.puts ∧
    (State.admitPeer s src a n).1.tags = s.tags ∧ (State.admitPeer s src a n).1.mgr = s.mgr ∧
    (State.admitPeer s src a n).1.mac = s.mac ∧ (State.admitPeer s src a n).1.pcie = s.pcie ∧
    (State.admitPeer s src a n).1.sec = s.sec ∧ (State.admitPeer s src a n).1.cores = s.cores ∧
    (State.admitPeer s src a n).1.power = s.power ∧ (State.admitPeer s src a n).1.faults = s.faults ∧
    (State.admitPeer s src a n).1.maint = s.maint ∧ (State.admitPeer s src a n).1.glob = s.glob := by
  unfold State.admitPeer
  try dsimp only
  (repeat' split) <;> first | (simp; done) | (simp (disch := (intros; (repeat' split) <;> first | simp | skip)); done)

@[simp] theorem State.landPut_frame (s : State) (u : Put) :
    (State.landPut s u).pending = s.pending ∧ (State.landPut s u).draws = s.draws ∧
    (State.landPut s u).host = s.host ∧ (State.landPut s u).pkg = s.pkg ∧ (State.landPut s u).flash = s.flash ∧
    (State.landPut s u).clocks = s.clocks ∧ (State.landPut s u).engines = s.engines ∧
    (State.landPut s u).rings = s.rings ∧ (State.landPut s u).plots = s.plots ∧
    (State.landPut s u).stash = s.stash ∧ (State.landPut s u).matJobs = s.matJobs ∧
    (State.landPut s u).vecJobs = s.vecJobs ∧ (State.landPut s u).fabric = s.fabric ∧
    (State.landPut s u).tags = s.tags ∧ (State.landPut s u).mgr = s.mgr ∧ (State.landPut s u).mac = s.mac ∧
    (State.landPut s u).pcie = s.pcie ∧ (State.landPut s u).sec = s.sec ∧ (State.landPut s u).cores = s.cores ∧
    (State.landPut s u).faults = s.faults ∧ (State.landPut s u).maint = s.maint ∧ (State.landPut s u).glob = s.glob := by
  unfold State.landPut
  try dsimp only
  (repeat' split) <;> first | (simp; done) | (simp (disch := (intros; (repeat' split) <;> first | simp | skip)); done)

@[simp] theorem State.failRead_frame (s : State) (p src tag : Nat) :
    (State.failRead s p src tag).pending = s.pending ∧ (State.failRead s p src tag).draws = s.draws ∧
    (State.failRead s p src tag).out = s.out ∧ (State.failRead s p src tag).hbm = s.hbm ∧
    (State.failRead s p src tag).host = s.host ∧ (State.failRead s p src tag).pkg = s.pkg ∧
    (State.failRead s p src tag).flash = s.flash ∧ (State.failRead s p src tag).clocks = s.clocks ∧
    (State.failRead s p src tag).engines = s.engines ∧ (State.failRead s p src tag).slabs = s.slabs ∧
    (State.failRead s p src tag).plots = s.plots ∧ (State.failRead s p src tag).stash = s.stash ∧
    (State.failRead s p src tag).matJobs = s.matJobs ∧ (State.failRead s p src tag).vecJobs = s.vecJobs ∧
    (State.failRead s p src tag).fabric = s.fabric ∧ (State.failRead s p src tag).ports = s.ports ∧
    (State.failRead s p src tag).puts = s.puts ∧ (State.failRead s p src tag).mgr = s.mgr ∧
    (State.failRead s p src tag).mac = s.mac ∧ (State.failRead s p src tag).pcie = s.pcie ∧
    (State.failRead s p src tag).sec = s.sec ∧ (State.failRead s p src tag).cores = s.cores ∧
    (State.failRead s p src tag).power = s.power ∧ (State.failRead s p src tag).faults = s.faults ∧
    (State.failRead s p src tag).maint = s.maint ∧ (State.failRead s p src tag).glob = s.glob := by
  unfold State.failRead
  try dsimp only
  (repeat' split) <;> first | (simp; done) | (simp (disch := (intros; (repeat' split) <;> first | simp | skip)); done)

end Sys2Proof.Machine
end

