-- ==== Sys2Proof/Laws/FrameFaults.lean ====
section
/-! SUPPORT. Frames of the operations of Faults. -/

namespace Sys2Proof.Machine

@[simp] theorem State.resetEngine_frame (s : State) (gd e bit : Nat) :
    (State.resetEngine s gd e bit).pending = s.pending ∧ (State.resetEngine s gd e bit).host = s.host ∧
    (State.resetEngine s gd e bit).pkg = s.pkg ∧ (State.resetEngine s gd e bit).clocks = s.clocks ∧
    (State.resetEngine s gd e bit).slabs = s.slabs ∧ (State.resetEngine s gd e bit).stash = s.stash ∧
    (State.resetEngine s gd e bit).vecJobs = s.vecJobs ∧ (State.resetEngine s gd e bit).puts = s.puts ∧
    (State.resetEngine s gd e bit).mgr = s.mgr ∧ (State.resetEngine s gd e bit).mac = s.mac ∧
    (State.resetEngine s gd e bit).sec = s.sec ∧ (State.resetEngine s gd e bit).cores = s.cores ∧
    (State.resetEngine s gd e bit).power = s.power ∧ (State.resetEngine s gd e bit).maint = s.maint ∧
    (State.resetEngine s gd e bit).glob = s.glob := by
  unfold State.resetEngine
  try dsimp only
  (repeat' split) <;> first | (simp; done) | (simp (disch := (intros; (repeat' split) <;> first | simp | skip)); done)

@[simp] theorem State.retestAll_frame (s : State) (ch : Nat) :
    (State.retestAll s ch).pending = s.pending ∧ (State.retestAll s ch).draws = s.draws ∧
    (State.retestAll s ch).out = s.out ∧ (State.retestAll s ch).hbm = s.hbm ∧
    (State.retestAll s ch).host = s.host ∧ (State.retestAll s ch).flash = s.flash ∧
    (State.retestAll s ch).clocks = s.clocks ∧ (State.retestAll s ch).engines = s.engines ∧
    (State.retestAll s ch).slabs = s.slabs ∧ (State.retestAll s ch).rings = s.rings ∧
    (State.retestAll s ch).plots = s.plots ∧ (State.retestAll s ch).stash = s.stash ∧
    (State.retestAll s ch).matJobs = s.matJobs ∧ (State.retestAll s ch).vecJobs = s.vecJobs ∧
    (State.retestAll s ch).fabric = s.fabric ∧ (State.retestAll s ch).ports = s.ports ∧
    (State.retestAll s ch).puts = s.puts ∧ (State.retestAll s ch).tags = s.tags ∧
    (State.retestAll s ch).mgr = s.mgr ∧ (State.retestAll s ch).mac = s.mac ∧
    (State.retestAll s ch).pcie = s.pcie ∧ (State.retestAll s ch).sec = s.sec ∧
    (State.retestAll s ch).cores = s.cores ∧ (State.retestAll s ch).power = s.power ∧
    (State.retestAll s ch).faults = s.faults ∧ (State.retestAll s ch).glob = s.glob := by
  unfold State.retestAll
  try dsimp only
  (repeat' split) <;> first | (simp; done) | (simp (disch := (intros; (repeat' split) <;> first | simp | skip)); done)

@[simp] theorem State.stopCore_frame (s : State) (c : Nat) :
    (State.stopCore s c).pending = s.pending ∧ (State.stopCore s c).draws = s.draws ∧
    (State.stopCore s c).out = s.out ∧ (State.stopCore s c).hbm = s.hbm ∧ (State.stopCore s c).host = s.host ∧
    (State.stopCore s c).pkg = s.pkg ∧ (State.stopCore s c).flash = s.flash ∧
    (State.stopCore s c).clocks = s.clocks ∧ (State.stopCore s c).engines = s.engines ∧
    (State.stopCore s c).slabs = s.slabs ∧ (State.stopCore s c).plots = s.plots ∧
    (State.stopCore s c).stash = s.stash ∧ (State.stopCore s c).matJobs = s.matJobs ∧
    (State.stopCore s c).vecJobs = s.vecJobs ∧ (State.stopCore s c).fabric = s.fabric ∧
    (State.stopCore s c).ports = s.ports ∧ (State.stopCore s c).puts = s.puts ∧
    (State.stopCore s c).tags = s.tags ∧ (State.stopCore s c).mgr = s.mgr ∧ (State.stopCore s c).mac = s.mac ∧
    (State.stopCore s c).pcie = s.pcie ∧ (State.stopCore s c).sec = s.sec ∧ (State.stopCore s c).power = s.power ∧
    (State.stopCore s c).faults = s.faults ∧ (State.stopCore s c).maint = s.maint ∧
    (State.stopCore s c).glob = s.glob := by
  unfold State.stopCore
  try dsimp only
  (repeat' split) <;> first | (simp; done) | (simp (disch := (intros; (repeat' split) <;> first | simp | skip)); done)

@[simp] theorem State.latchTmo_frame (s : State) (plot : Option Nat) (unit : Nat) (sure : Option Nat) :
    (State.latchTmo s plot unit sure).pending = s.pending ∧ (State.latchTmo s plot unit sure).draws = s.draws ∧
    (State.latchTmo s plot unit sure).hbm = s.hbm ∧ (State.latchTmo s plot unit sure).host = s.host ∧
    (State.latchTmo s plot unit sure).pkg = s.pkg ∧ (State.latchTmo s plot unit sure).clocks = s.clocks ∧
    (State.latchTmo s plot unit sure).engines = s.engines ∧ (State.latchTmo s plot unit sure).slabs = s.slabs ∧
    (State.latchTmo s plot unit sure).rings = s.rings ∧ (State.latchTmo s plot unit sure).stash = s.stash ∧
    (State.latchTmo s plot unit sure).matJobs = s.matJobs ∧ (State.latchTmo s plot unit sure).vecJobs = s.vecJobs ∧
    (State.latchTmo s plot unit sure).fabric = s.fabric ∧ (State.latchTmo s plot unit sure).ports = s.ports ∧
    (State.latchTmo s plot unit sure).puts = s.puts ∧ (State.latchTmo s plot unit sure).tags = s.tags ∧
    (State.latchTmo s plot unit sure).mgr = s.mgr ∧ (State.latchTmo s plot unit sure).mac = s.mac ∧
    (State.latchTmo s plot unit sure).sec = s.sec ∧ (State.latchTmo s plot unit sure).cores = s.cores ∧
    (State.latchTmo s plot unit sure).power = s.power ∧ (State.latchTmo s plot unit sure).maint = s.maint ∧
    (State.latchTmo s plot unit sure).glob = s.glob := by
  unfold State.latchTmo
  try dsimp only
  (repeat' split) <;> first | (simp; done) | (simp (disch := (intros; (repeat' split) <;> first | simp | skip)); done)

@[simp] theorem State.latchTmoReplay_frame (s : State) (plot : Option Nat) (unit r i : Nat) :
    (State.latchTmoReplay s plot unit r i).pending = s.pending ∧
    (State.latchTmoReplay s plot unit r i).draws = s.draws ∧ (State.latchTmoReplay s plot unit r i).hbm = s.hbm ∧
    (State.latchTmoReplay s plot unit r i).host = s.host ∧ (State.latchTmoReplay s plot unit r i).pkg = s.pkg ∧
    (State.latchTmoReplay s plot unit r i).clocks = s.clocks ∧
    (State.latchTmoReplay s plot unit r i).engines = s.engines ∧
    (State.latchTmoReplay s plot unit r i).slabs = s.slabs ∧
    (State.latchTmoReplay s plot unit r i).rings = s.rings ∧
    (State.latchTmoReplay s plot unit r i).stash = s.stash ∧
    (State.latchTmoReplay s plot unit r i).matJobs = s.matJobs ∧
    (State.latchTmoReplay s plot unit r i).vecJobs = s.vecJobs ∧
    (State.latchTmoReplay s plot unit r i).fabric = s.fabric ∧
    (State.latchTmoReplay s plot unit r i).ports = s.ports ∧ (State.latchTmoReplay s plot unit r i).puts = s.puts ∧
    (State.latchTmoReplay s plot unit r i).tags = s.tags ∧ (State.latchTmoReplay s plot unit r i).mgr = s.mgr ∧
    (State.latchTmoReplay s plot unit r i).mac = s.mac ∧ (State.latchTmoReplay s plot unit r i).sec = s.sec ∧
    (State.latchTmoReplay s plot unit r i).cores = s.cores ∧
    (State.latchTmoReplay s plot unit r i).power = s.power ∧
    (State.latchTmoReplay s plot unit r i).maint = s.maint ∧ (State.latchTmoReplay s plot unit r i).glob = s.glob := by
  unfold State.latchTmoReplay
  try dsimp only
  (repeat' split) <;> first | (simp; done) | (simp (disch := (intros; (repeat' split) <;> first | simp | skip)); done)

@[simp] theorem State.peerTimeout_frame (s : State) (t : TagUse) (node : Nat) :
    (State.peerTimeout s t node).pending = s.pending ∧ (State.peerTimeout s t node).hbm = s.hbm ∧
    (State.peerTimeout s t node).host = s.host ∧ (State.peerTimeout s t node).pkg = s.pkg ∧
    (State.peerTimeout s t node).clocks = s.clocks ∧ (State.peerTimeout s t node).engines = s.engines ∧
    (State.peerTimeout s t node).stash = s.stash ∧ (State.peerTimeout s t node).matJobs = s.matJobs ∧
    (State.peerTimeout s t node).vecJobs = s.vecJobs ∧ (State.peerTimeout s t node).mgr = s.mgr ∧
    (State.peerTimeout s t node).mac = s.mac ∧ (State.peerTimeout s t node).sec = s.sec ∧
    (State.peerTimeout s t node).cores = s.cores ∧ (State.peerTimeout s t node).glob = s.glob := by
  unfold State.peerTimeout
  try dsimp only
  (repeat' split) <;> first | (simp; done) | (simp (disch := (intros; (repeat' split) <;> first | simp | skip)); done)

@[simp] theorem State.dmaTimeout_frame (s : State) (t : TagUse) :
    (State.dmaTimeout s t).pending = s.pending ∧ (State.dmaTimeout s t).draws = s.draws ∧
    (State.dmaTimeout s t).hbm = s.hbm ∧ (State.dmaTimeout s t).host = s.host ∧
    (State.dmaTimeout s t).pkg = s.pkg ∧ (State.dmaTimeout s t).clocks = s.clocks ∧
    (State.dmaTimeout s t).engines = s.engines ∧ (State.dmaTimeout s t).slabs = s.slabs ∧
    (State.dmaTimeout s t).stash = s.stash ∧ (State.dmaTimeout s t).matJobs = s.matJobs ∧
    (State.dmaTimeout s t).vecJobs = s.vecJobs ∧ (State.dmaTimeout s t).fabric = s.fabric ∧
    (State.dmaTimeout s t).ports = s.ports ∧ (State.dmaTimeout s t).puts = s.puts ∧
    (State.dmaTimeout s t).mgr = s.mgr ∧ (State.dmaTimeout s t).mac = s.mac ∧ (State.dmaTimeout s t).sec = s.sec ∧
    (State.dmaTimeout s t).cores = s.cores ∧ (State.dmaTimeout s t).power = s.power ∧
    (State.dmaTimeout s t).maint = s.maint ∧ (State.dmaTimeout s t).glob = s.glob := by
  unfold State.dmaTimeout
  try dsimp only
  (repeat' split) <;> first | (simp; done) | (simp (disch := (intros; (repeat' split) <;> first | simp | skip)); done)

@[simp] theorem State.bufferFault_frame (s : State) (die b p : Nat) :
    (State.bufferFault s die b p).pending = s.pending ∧ (State.bufferFault s die b p).draws = s.draws ∧
    (State.bufferFault s die b p).hbm = s.hbm ∧ (State.bufferFault s die b p).host = s.host ∧
    (State.bufferFault s die b p).pkg = s.pkg ∧ (State.bufferFault s die b p).flash = s.flash ∧
    (State.bufferFault s die b p).clocks = s.clocks ∧ (State.bufferFault s die b p).engines = s.engines ∧
    (State.bufferFault s die b p).plots = s.plots ∧ (State.bufferFault s die b p).stash = s.stash ∧
    (State.bufferFault s die b p).matJobs = s.matJobs ∧ (State.bufferFault s die b p).vecJobs = s.vecJobs ∧
    (State.bufferFault s die b p).mgr = s.mgr ∧ (State.bufferFault s die b p).mac = s.mac ∧
    (State.bufferFault s die b p).pcie = s.pcie ∧ (State.bufferFault s die b p).sec = s.sec ∧
    (State.bufferFault s die b p).cores = s.cores ∧ (State.bufferFault s die b p).faults = s.faults ∧
    (State.bufferFault s die b p).glob = s.glob := by
  unfold State.bufferFault
  try dsimp only
  (repeat' split) <;> first | (simp; done) | (simp (disch := (intros; (repeat' split) <;> first | simp | skip)); done)

@[simp] theorem State.errorLine_frame (s : State) (die b : Nat) (plots : List Nat) (unit detail : Nat) :
    (State.errorLine s die b plots unit detail).pending = s.pending ∧
    (State.errorLine s die b plots unit detail).draws = s.draws ∧
    (State.errorLine s die b plots unit detail).hbm = s.hbm ∧
    (State.errorLine s die b plots unit detail).host = s.host ∧
    (State.errorLine s die b plots unit detail).pkg = s.pkg ∧
    (State.errorLine s die b plots unit detail).clocks = s.clocks ∧
    (State.errorLine s die b plots unit detail).engines = s.engines ∧
    (State.errorLine s die b plots unit detail).stash = s.stash ∧
    (State.errorLine s die b plots unit detail).mac = s.mac ∧
    (State.errorLine s die b plots unit detail).cores = s.cores ∧
    (State.errorLine s die b plots unit detail).glob = s.glob := by
  unfold State.errorLine
  try dsimp only
  (repeat' split) <;> first | (simp; done) | (simp (disch := (intros; (repeat' split) <;> first | simp | skip)); done)

@[simp] theorem State.noteClass_frame (s : State) (die b cls : Nat) :
    (State.noteClass s die b cls).pending = s.pending ∧ (State.noteClass s die b cls).draws = s.draws ∧
    (State.noteClass s die b cls).out = s.out ∧ (State.noteClass s die b cls).regs = s.regs ∧
    (State.noteClass s die b cls).hbm = s.hbm ∧ (State.noteClass s die b cls).host = s.host ∧
    (State.noteClass s die b cls).pkg = s.pkg ∧ (State.noteClass s die b cls).flash = s.flash ∧
    (State.noteClass s die b cls).clocks = s.clocks ∧ (State.noteClass s die b cls).engines = s.engines ∧
    (State.noteClass s die b cls).slabs = s.slabs ∧ (State.noteClass s die b cls).rings = s.rings ∧
    (State.noteClass s die b cls).plots = s.plots ∧ (State.noteClass s die b cls).stash = s.stash ∧
    (State.noteClass s die b cls).matJobs = s.matJobs ∧ (State.noteClass s die b cls).vecJobs = s.vecJobs ∧
    (State.noteClass s die b cls).fabric = s.fabric ∧ (State.noteClass s die b cls).ports = s.ports ∧
    (State.noteClass s die b cls).puts = s.puts ∧ (State.noteClass s die b cls).tags = s.tags ∧
    (State.noteClass s die b cls).mgr = s.mgr ∧ (State.noteClass s die b cls).mac = s.mac ∧
    (State.noteClass s die b cls).pcie = s.pcie ∧ (State.noteClass s die b cls).sec = s.sec ∧
    (State.noteClass s die b cls).cores = s.cores ∧ (State.noteClass s die b cls).power = s.power ∧
    (State.noteClass s die b cls).maint = s.maint ∧ (State.noteClass s die b cls).glob = s.glob := by
  unfold State.noteClass
  try dsimp only
  (repeat' split) <;> first | (simp; done) | (simp (disch := (intros; (repeat' split) <;> first | simp | skip)); done)

@[simp] theorem State.classAction_frame (s : State) (e : Event) (cls : Nat) :
    (State.classAction s e cls).pending = s.pending ∧ (State.classAction s e cls).hbm = s.hbm ∧
    (State.classAction s e cls).host = s.host ∧ (State.classAction s e cls).pkg = s.pkg ∧
    (State.classAction s e cls).flash = s.flash ∧ (State.classAction s e cls).clocks = s.clocks ∧
    (State.classAction s e cls).slabs = s.slabs ∧ (State.classAction s e cls).rings = s.rings ∧
    (State.classAction s e cls).stash = s.stash ∧ (State.classAction s e cls).puts = s.puts ∧
    (State.classAction s e cls).power = s.power ∧ (State.classAction s e cls).maint = s.maint := by
  unfold State.classAction
  try dsimp only
  (repeat' split) <;> first | (simp; done) | (simp (disch := (intros; (repeat' split) <;> first | simp | skip)); done)

end Sys2Proof.Machine
end

