-- ==== Sys2Proof/Laws/FrameLinks.lean ====
section
/-! SUPPORT. Frames of the operations of Links. -/

namespace Sys2Proof.Machine

@[simp] theorem State.unwantFreq_frame (s : State) (p : Nat) :
    (State.unwantFreq s p).pending = s.pending ∧ (State.unwantFreq s p).draws = s.draws ∧
    (State.unwantFreq s p).out = s.out ∧ (State.unwantFreq s p).hbm = s.hbm ∧
    (State.unwantFreq s p).host = s.host ∧ (State.unwantFreq s p).pkg = s.pkg ∧
    (State.unwantFreq s p).flash = s.flash ∧ (State.unwantFreq s p).engines = s.engines ∧
    (State.unwantFreq s p).slabs = s.slabs ∧ (State.unwantFreq s p).rings = s.rings ∧
    (State.unwantFreq s p).plots = s.plots ∧ (State.unwantFreq s p).stash = s.stash ∧
    (State.unwantFreq s p).matJobs = s.matJobs ∧ (State.unwantFreq s p).vecJobs = s.vecJobs ∧
    (State.unwantFreq s p).fabric = s.fabric ∧ (State.unwantFreq s p).ports = s.ports ∧
    (State.unwantFreq s p).puts = s.puts ∧ (State.unwantFreq s p).tags = s.tags ∧
    (State.unwantFreq s p).mgr = s.mgr ∧ (State.unwantFreq s p).mac = s.mac ∧
    (State.unwantFreq s p).pcie = s.pcie ∧ (State.unwantFreq s p).sec = s.sec ∧
    (State.unwantFreq s p).cores = s.cores ∧ (State.unwantFreq s p).power = s.power ∧
    (State.unwantFreq s p).faults = s.faults ∧ (State.unwantFreq s p).glob = s.glob := by
  unfold State.unwantFreq
  try dsimp only
  (repeat' split) <;> first | (simp; done) | (simp (disch := (intros; (repeat' split) <;> first | simp | skip)); done)

@[simp] theorem State.writePortMode_frame (s : State) (p mode : Nat) :
    (State.writePortMode s p mode).pending = s.pending ∧ (State.writePortMode s p mode).hbm = s.hbm ∧
    (State.writePortMode s p mode).host = s.host ∧ (State.writePortMode s p mode).pkg = s.pkg ∧
    (State.writePortMode s p mode).flash = s.flash ∧ (State.writePortMode s p mode).engines = s.engines ∧
    (State.writePortMode s p mode).slabs = s.slabs ∧ (State.writePortMode s p mode).rings = s.rings ∧
    (State.writePortMode s p mode).plots = s.plots ∧ (State.writePortMode s p mode).stash = s.stash ∧
    (State.writePortMode s p mode).matJobs = s.matJobs ∧ (State.writePortMode s p mode).vecJobs = s.vecJobs ∧
    (State.writePortMode s p mode).puts = s.puts ∧ (State.writePortMode s p mode).tags = s.tags ∧
    (State.writePortMode s p mode).mgr = s.mgr ∧ (State.writePortMode s p mode).mac = s.mac ∧
    (State.writePortMode s p mode).pcie = s.pcie ∧ (State.writePortMode s p mode).sec = s.sec ∧
    (State.writePortMode s p mode).cores = s.cores ∧ (State.writePortMode s p mode).faults = s.faults ∧
    (State.writePortMode s p mode).glob = s.glob := by
  unfold State.writePortMode
  try dsimp only
  (repeat' split) <;> first | (simp; done) | (simp (disch := (intros; (repeat' split) <;> first | simp | skip)); done)

@[simp] theorem State.storePortCtl_frame (s : State) (p v : Nat) :
    (State.storePortCtl s p v).pending = s.pending ∧ (State.storePortCtl s p v).hbm = s.hbm ∧
    (State.storePortCtl s p v).host = s.host ∧ (State.storePortCtl s p v).pkg = s.pkg ∧
    (State.storePortCtl s p v).flash = s.flash ∧ (State.storePortCtl s p v).engines = s.engines ∧
    (State.storePortCtl s p v).slabs = s.slabs ∧ (State.storePortCtl s p v).rings = s.rings ∧
    (State.storePortCtl s p v).plots = s.plots ∧ (State.storePortCtl s p v).stash = s.stash ∧
    (State.storePortCtl s p v).matJobs = s.matJobs ∧ (State.storePortCtl s p v).vecJobs = s.vecJobs ∧
    (State.storePortCtl s p v).puts = s.puts ∧ (State.storePortCtl s p v).tags = s.tags ∧
    (State.storePortCtl s p v).mgr = s.mgr ∧ (State.storePortCtl s p v).mac = s.mac ∧
    (State.storePortCtl s p v).pcie = s.pcie ∧ (State.storePortCtl s p v).sec = s.sec ∧
    (State.storePortCtl s p v).cores = s.cores ∧ (State.storePortCtl s p v).faults = s.faults ∧
    (State.storePortCtl s p v).glob = s.glob := by
  unfold State.storePortCtl
  try dsimp only
  (repeat' split) <;> first | (simp; done) | (simp (disch := (intros; (repeat' split) <;> first | simp | skip)); done)

@[simp] theorem State.codeword_frame (s : State) (p : Nat) (errs : List Nat) :
    (State.codeword s p errs).pending = s.pending ∧ (State.codeword s p errs).draws = s.draws ∧
    (State.codeword s p errs).hbm = s.hbm ∧ (State.codeword s p errs).host = s.host ∧
    (State.codeword s p errs).pkg = s.pkg ∧ (State.codeword s p errs).clocks = s.clocks ∧
    (State.codeword s p errs).engines = s.engines ∧ (State.codeword s p errs).slabs = s.slabs ∧
    (State.codeword s p errs).rings = s.rings ∧ (State.codeword s p errs).stash = s.stash ∧
    (State.codeword s p errs).matJobs = s.matJobs ∧ (State.codeword s p errs).vecJobs = s.vecJobs ∧
    (State.codeword s p errs).fabric = s.fabric ∧ (State.codeword s p errs).puts = s.puts ∧
    (State.codeword s p errs).tags = s.tags ∧ (State.codeword s p errs).mgr = s.mgr ∧
    (State.codeword s p errs).mac = s.mac ∧ (State.codeword s p errs).sec = s.sec ∧
    (State.codeword s p errs).cores = s.cores ∧ (State.codeword s p errs).power = s.power ∧
    (State.codeword s p errs).maint = s.maint ∧ (State.codeword s p errs).glob = s.glob := by
  unfold State.codeword
  try dsimp only
  (repeat' split) <;> first | (simp; done) | (simp (disch := (intros; (repeat' split) <;> first | simp | skip)); done)

@[simp] theorem State.settleLpi_frame (s : State) (p : Nat) :
    (State.settleLpi s p).pending = s.pending ∧ (State.settleLpi s p).draws = s.draws ∧
    (State.settleLpi s p).out = s.out ∧ (State.settleLpi s p).hbm = s.hbm ∧ (State.settleLpi s p).host = s.host ∧
    (State.settleLpi s p).pkg = s.pkg ∧ (State.settleLpi s p).flash = s.flash ∧
    (State.settleLpi s p).clocks = s.clocks ∧ (State.settleLpi s p).engines = s.engines ∧
    (State.settleLpi s p).slabs = s.slabs ∧ (State.settleLpi s p).rings = s.rings ∧
    (State.settleLpi s p).plots = s.plots ∧ (State.settleLpi s p).stash = s.stash ∧
    (State.settleLpi s p).matJobs = s.matJobs ∧ (State.settleLpi s p).vecJobs = s.vecJobs ∧
    (State.settleLpi s p).puts = s.puts ∧ (State.settleLpi s p).tags = s.tags ∧ (State.settleLpi s p).mgr = s.mgr ∧
    (State.settleLpi s p).mac = s.mac ∧ (State.settleLpi s p).pcie = s.pcie ∧ (State.settleLpi s p).sec = s.sec ∧
    (State.settleLpi s p).cores = s.cores ∧ (State.settleLpi s p).power = s.power ∧
    (State.settleLpi s p).faults = s.faults ∧ (State.settleLpi s p).maint = s.maint ∧
    (State.settleLpi s p).glob = s.glob := by
  unfold State.settleLpi
  try dsimp only
  (repeat' split) <;> first | (simp; done) | (simp (disch := (intros; (repeat' split) <;> first | simp | skip)); done)

@[simp] theorem State.dropFrame_frame (s : State) (p : Nat) :
    (State.dropFrame s p).pending = s.pending ∧ (State.dropFrame s p).draws = s.draws ∧
    (State.dropFrame s p).out = s.out ∧ (State.dropFrame s p).regs = s.regs ∧ (State.dropFrame s p).hbm = s.hbm ∧
    (State.dropFrame s p).host = s.host ∧ (State.dropFrame s p).pkg = s.pkg ∧
    (State.dropFrame s p).flash = s.flash ∧ (State.dropFrame s p).clocks = s.clocks ∧
    (State.dropFrame s p).engines = s.engines ∧ (State.dropFrame s p).slabs = s.slabs ∧
    (State.dropFrame s p).rings = s.rings ∧ (State.dropFrame s p).plots = s.plots ∧
    (State.dropFrame s p).stash = s.stash ∧ (State.dropFrame s p).matJobs = s.matJobs ∧
    (State.dropFrame s p).vecJobs = s.vecJobs ∧ (State.dropFrame s p).fabric = s.fabric ∧
    (State.dropFrame s p).puts = s.puts ∧ (State.dropFrame s p).tags = s.tags ∧ (State.dropFrame s p).mgr = s.mgr ∧
    (State.dropFrame s p).mac = s.mac ∧ (State.dropFrame s p).pcie = s.pcie ∧ (State.dropFrame s p).sec = s.sec ∧
    (State.dropFrame s p).cores = s.cores ∧ (State.dropFrame s p).power = s.power ∧
    (State.dropFrame s p).faults = s.faults ∧ (State.dropFrame s p).maint = s.maint ∧
    (State.dropFrame s p).glob = s.glob := by
  unfold State.dropFrame
  try dsimp only
  (repeat' split) <;> first | (simp; done) | (simp (disch := (intros; (repeat' split) <;> first | simp | skip)); done)

@[simp] theorem State.laneWindow_frame (s : State) (p lane err syms : Nat) :
    (State.laneWindow s p lane err syms).pending = s.pending ∧
    (State.laneWindow s p lane err syms).draws = s.draws ∧ (State.laneWindow s p lane err syms).out = s.out ∧
    (State.laneWindow s p lane err syms).hbm = s.hbm ∧ (State.laneWindow s p lane err syms).host = s.host ∧
    (State.laneWindow s p lane err syms).pkg = s.pkg ∧ (State.laneWindow s p lane err syms).flash = s.flash ∧
    (State.laneWindow s p lane err syms).clocks = s.clocks ∧
    (State.laneWindow s p lane err syms).engines = s.engines ∧
    (State.laneWindow s p lane err syms).slabs = s.slabs ∧ (State.laneWindow s p lane err syms).rings = s.rings ∧
    (State.laneWindow s p lane err syms).plots = s.plots ∧ (State.laneWindow s p lane err syms).stash = s.stash ∧
    (State.laneWindow s p lane err syms).matJobs = s.matJobs ∧
    (State.laneWindow s p lane err syms).vecJobs = s.vecJobs ∧
    (State.laneWindow s p lane err syms).fabric = s.fabric ∧ (State.laneWindow s p lane err syms).puts = s.puts ∧
    (State.laneWindow s p lane err syms).tags = s.tags ∧ (State.laneWindow s p lane err syms).mgr = s.mgr ∧
    (State.laneWindow s p lane err syms).mac = s.mac ∧ (State.laneWindow s p lane err syms).pcie = s.pcie ∧
    (State.laneWindow s p lane err syms).sec = s.sec ∧ (State.laneWindow s p lane err syms).cores = s.cores ∧
    (State.laneWindow s p lane err syms).power = s.power ∧ (State.laneWindow s p lane err syms).faults = s.faults ∧
    (State.laneWindow s p lane err syms).maint = s.maint ∧ (State.laneWindow s p lane err syms).glob = s.glob := by
  unfold State.laneWindow
  try dsimp only
  (repeat' split) <;> first | (simp; done) | (simp (disch := (intros; (repeat' split) <;> first | simp | skip)); done)

@[simp] theorem State.laneRestored_frame (s : State) (p sub kind : Nat) :
    (State.laneRestored s p sub kind).pending = s.pending ∧ (State.laneRestored s p sub kind).draws = s.draws ∧
    (State.laneRestored s p sub kind).out = s.out ∧ (State.laneRestored s p sub kind).regs = s.regs ∧
    (State.laneRestored s p sub kind).hbm = s.hbm ∧ (State.laneRestored s p sub kind).host = s.host ∧
    (State.laneRestored s p sub kind).pkg = s.pkg ∧ (State.laneRestored s p sub kind).clocks = s.clocks ∧
    (State.laneRestored s p sub kind).engines = s.engines ∧ (State.laneRestored s p sub kind).slabs = s.slabs ∧
    (State.laneRestored s p sub kind).rings = s.rings ∧ (State.laneRestored s p sub kind).plots = s.plots ∧
    (State.laneRestored s p sub kind).stash = s.stash ∧ (State.laneRestored s p sub kind).matJobs = s.matJobs ∧
    (State.laneRestored s p sub kind).vecJobs = s.vecJobs ∧ (State.laneRestored s p sub kind).fabric = s.fabric ∧
    (State.laneRestored s p sub kind).ports = s.ports ∧ (State.laneRestored s p sub kind).puts = s.puts ∧
    (State.laneRestored s p sub kind).tags = s.tags ∧ (State.laneRestored s p sub kind).mgr = s.mgr ∧
    (State.laneRestored s p sub kind).mac = s.mac ∧ (State.laneRestored s p sub kind).pcie = s.pcie ∧
    (State.laneRestored s p sub kind).sec = s.sec ∧ (State.laneRestored s p sub kind).cores = s.cores ∧
    (State.laneRestored s p sub kind).power = s.power ∧ (State.laneRestored s p sub kind).faults = s.faults ∧
    (State.laneRestored s p sub kind).maint = s.maint ∧ (State.laneRestored s p sub kind).glob = s.glob := by
  unfold State.laneRestored
  try dsimp only
  (repeat' split) <;> first | (simp; done) | (simp (disch := (intros; (repeat' split) <;> first | simp | skip)); done)

@[simp] theorem State.proposeLpi_frame (s : State) (p : Nat) :
    (State.proposeLpi s p).pending = s.pending ∧ (State.proposeLpi s p).draws = s.draws ∧
    (State.proposeLpi s p).regs = s.regs ∧ (State.proposeLpi s p).hbm = s.hbm ∧
    (State.proposeLpi s p).host = s.host ∧ (State.proposeLpi s p).pkg = s.pkg ∧
    (State.proposeLpi s p).flash = s.flash ∧ (State.proposeLpi s p).clocks = s.clocks ∧
    (State.proposeLpi s p).engines = s.engines ∧ (State.proposeLpi s p).slabs = s.slabs ∧
    (State.proposeLpi s p).rings = s.rings ∧ (State.proposeLpi s p).plots = s.plots ∧
    (State.proposeLpi s p).stash = s.stash ∧ (State.proposeLpi s p).matJobs = s.matJobs ∧
    (State.proposeLpi s p).vecJobs = s.vecJobs ∧ (State.proposeLpi s p).fabric = s.fabric ∧
    (State.proposeLpi s p).puts = s.puts ∧ (State.proposeLpi s p).tags = s.tags ∧
    (State.proposeLpi s p).mgr = s.mgr ∧ (State.proposeLpi s p).mac = s.mac ∧
    (State.proposeLpi s p).pcie = s.pcie ∧ (State.proposeLpi s p).sec = s.sec ∧
    (State.proposeLpi s p).cores = s.cores ∧ (State.proposeLpi s p).power = s.power ∧
    (State.proposeLpi s p).faults = s.faults ∧ (State.proposeLpi s p).maint = s.maint ∧
    (State.proposeLpi s p).glob = s.glob := by
  unfold State.proposeLpi
  try dsimp only
  (repeat' split) <;> first | (simp; done) | (simp (disch := (intros; (repeat' split) <;> first | simp | skip)); done)

@[simp] theorem State.longLoss_frame (s : State) (p : Nat) :
    (State.longLoss s p).pending = s.pending ∧ (State.longLoss s p).hbm = s.hbm ∧
    (State.longLoss s p).host = s.host ∧ (State.longLoss s p).pkg = s.pkg ∧
    (State.longLoss s p).clocks = s.clocks ∧ (State.longLoss s p).engines = s.engines ∧
    (State.longLoss s p).stash = s.stash ∧ (State.longLoss s p).matJobs = s.matJobs ∧
    (State.longLoss s p).vecJobs = s.vecJobs ∧ (State.longLoss s p).mgr = s.mgr ∧
    (State.longLoss s p).mac = s.mac ∧ (State.longLoss s p).sec = s.sec ∧ (State.longLoss s p).cores = s.cores ∧
    (State.longLoss s p).glob = s.glob := by
  unfold State.longLoss
  try dsimp only
  (repeat' split) <;> first | (simp; done) | (simp (disch := (intros; (repeat' split) <;> first | simp | skip)); done)

end Sys2Proof.Machine
end

