-- ==== Sys2Proof/Laws/FramePlots.lean ====
section
/-! SUPPORT. Frames of the operations of Plots. -/

namespace Sys2Proof.Machine

@[simp] theorem State.noteLease_frame (s : State) (p : Nat) (x0 : PlotSource) :
    (State.noteLease s p x0).pending = s.pending ∧ (State.noteLease s p x0).draws = s.draws ∧
    (State.noteLease s p x0).out = s.out ∧ (State.noteLease s p x0).hbm = s.hbm ∧
    (State.noteLease s p x0).host = s.host ∧ (State.noteLease s p x0).pkg = s.pkg ∧
    (State.noteLease s p x0).flash = s.flash ∧ (State.noteLease s p x0).clocks = s.clocks ∧
    (State.noteLease s p x0).engines = s.engines ∧ (State.noteLease s p x0).slabs = s.slabs ∧
    (State.noteLease s p x0).rings = s.rings ∧ (State.noteLease s p x0).plots = s.plots ∧
    (State.noteLease s p x0).stash = s.stash ∧ (State.noteLease s p x0).matJobs = s.matJobs ∧
    (State.noteLease s p x0).vecJobs = s.vecJobs ∧ (State.noteLease s p x0).fabric = s.fabric ∧
    (State.noteLease s p x0).ports = s.ports ∧ (State.noteLease s p x0).puts = s.puts ∧
    (State.noteLease s p x0).tags = s.tags ∧ (State.noteLease s p x0).mac = s.mac ∧
    (State.noteLease s p x0).pcie = s.pcie ∧ (State.noteLease s p x0).sec = s.sec ∧
    (State.noteLease s p x0).cores = s.cores ∧ (State.noteLease s p x0).power = s.power ∧
    (State.noteLease s p x0).faults = s.faults ∧ (State.noteLease s p x0).maint = s.maint ∧
    (State.noteLease s p x0).glob = s.glob := by
  unfold State.noteLease
  try dsimp only
  (repeat' split) <;> first | (simp; done) | (simp (disch := (intros; (repeat' split) <;> first | simp | skip)); done)

@[simp] theorem State.plotErr_frame (s : State) (p e : Nat) :
    (State.plotErr s p e).pending = s.pending ∧ (State.plotErr s p e).draws = s.draws ∧
    (State.plotErr s p e).out = s.out ∧ (State.plotErr s p e).hbm = s.hbm ∧ (State.plotErr s p e).host = s.host ∧
    (State.plotErr s p e).pkg = s.pkg ∧ (State.plotErr s p e).flash = s.flash ∧
    (State.plotErr s p e).clocks = s.clocks ∧ (State.plotErr s p e).engines = s.engines ∧
    (State.plotErr s p e).slabs = s.slabs ∧ (State.plotErr s p e).rings = s.rings ∧
    (State.plotErr s p e).plots = s.plots ∧ (State.plotErr s p e).stash = s.stash ∧
    (State.plotErr s p e).matJobs = s.matJobs ∧ (State.plotErr s p e).vecJobs = s.vecJobs ∧
    (State.plotErr s p e).fabric = s.fabric ∧ (State.plotErr s p e).ports = s.ports ∧
    (State.plotErr s p e).puts = s.puts ∧ (State.plotErr s p e).tags = s.tags ∧ (State.plotErr s p e).mgr = s.mgr ∧
    (State.plotErr s p e).mac = s.mac ∧ (State.plotErr s p e).pcie = s.pcie ∧ (State.plotErr s p e).sec = s.sec ∧
    (State.plotErr s p e).cores = s.cores ∧ (State.plotErr s p e).power = s.power ∧
    (State.plotErr s p e).faults = s.faults ∧ (State.plotErr s p e).maint = s.maint ∧
    (State.plotErr s p e).glob = s.glob := by
  unfold State.plotErr
  try dsimp only
  (repeat' split) <;> first | (simp; done) | (simp (disch := (intros; (repeat' split) <;> first | simp | skip)); done)

@[simp] theorem State.endLease_frame (s : State) (p : Nat) (src : PlotSource) :
    (State.endLease s p src).pending = s.pending ∧ (State.endLease s p src).host = s.host ∧
    (State.endLease s p src).pkg = s.pkg ∧ (State.endLease s p src).clocks = s.clocks ∧
    (State.endLease s p src).engines = s.engines ∧ (State.endLease s p src).slabs = s.slabs ∧
    (State.endLease s p src).rings = s.rings ∧ (State.endLease s p src).plots = s.plots ∧
    (State.endLease s p src).stash = s.stash ∧ (State.endLease s p src).matJobs = s.matJobs ∧
    (State.endLease s p src).vecJobs = s.vecJobs ∧ (State.endLease s p src).fabric = s.fabric ∧
    (State.endLease s p src).puts = s.puts ∧ (State.endLease s p src).tags = s.tags ∧
    (State.endLease s p src).mac = s.mac ∧ (State.endLease s p src).pcie = s.pcie ∧
    (State.endLease s p src).sec = s.sec ∧ (State.endLease s p src).cores = s.cores ∧
    (State.endLease s p src).power = s.power ∧ (State.endLease s p src).faults = s.faults ∧
    (State.endLease s p src).glob = s.glob := by
  unfold State.endLease
  try dsimp only
  (repeat' split) <;> first | (simp; done) | (simp (disch := (intros; (repeat' split) <;> first | simp | skip)); done)

@[simp] theorem plotResetCommand_frame (s : State) (p : Nat) (src : PlotSource) (clear : Bool) :
    (plotResetCommand s p src clear).pending = s.pending ∧ (plotResetCommand s p src clear).hbm = s.hbm ∧
    (plotResetCommand s p src clear).host = s.host ∧ (plotResetCommand s p src clear).pkg = s.pkg ∧
    (plotResetCommand s p src clear).flash = s.flash ∧ (plotResetCommand s p src clear).clocks = s.clocks ∧
    (plotResetCommand s p src clear).slabs = s.slabs ∧ (plotResetCommand s p src clear).rings = s.rings ∧
    (plotResetCommand s p src clear).stash = s.stash ∧ (plotResetCommand s p src clear).puts = s.puts ∧
    (plotResetCommand s p src clear).mac = s.mac ∧ (plotResetCommand s p src clear).power = s.power ∧
    (plotResetCommand s p src clear).faults = s.faults ∧ (plotResetCommand s p src clear).maint = s.maint ∧
    (plotResetCommand s p src clear).glob = s.glob := by
  unfold plotResetCommand
  try dsimp only
  (repeat' split) <;> first | (simp; done) | (simp (disch := (intros; (repeat' split) <;> first | simp | skip)); done)

end Sys2Proof.Machine
end

