-- ==== Sys2Proof/Laws/FrameSecurity.lean ====
section
/-! SUPPORT. Frames of the operations of Security. -/

namespace Sys2Proof.Machine

@[simp] theorem State.putBoxByte_frame (s : State) (i : Nat) (b : Byte) :
    (State.putBoxByte s i b).pending = s.pending ∧ (State.putBoxByte s i b).draws = s.draws ∧
    (State.putBoxByte s i b).out = s.out ∧ (State.putBoxByte s i b).hbm = s.hbm ∧
    (State.putBoxByte s i b).host = s.host ∧ (State.putBoxByte s i b).pkg = s.pkg ∧
    (State.putBoxByte s i b).flash = s.flash ∧ (State.putBoxByte s i b).clocks = s.clocks ∧
    (State.putBoxByte s i b).engines = s.engines ∧ (State.putBoxByte s i b).slabs = s.slabs ∧
    (State.putBoxByte s i b).rings = s.rings ∧ (State.putBoxByte s i b).plots = s.plots ∧
    (State.putBoxByte s i b).stash = s.stash ∧ (State.putBoxByte s i b).matJobs = s.matJobs ∧
    (State.putBoxByte s i b).vecJobs = s.vecJobs ∧ (State.putBoxByte s i b).fabric = s.fabric ∧
    (State.putBoxByte s i b).ports = s.ports ∧ (State.putBoxByte s i b).puts = s.puts ∧
    (State.putBoxByte s i b).tags = s.tags ∧ (State.putBoxByte s i b).mgr = s.mgr ∧
    (State.putBoxByte s i b).mac = s.mac ∧ (State.putBoxByte s i b).pcie = s.pcie ∧
    (State.putBoxByte s i b).sec = s.sec ∧ (State.putBoxByte s i b).cores = s.cores ∧
    (State.putBoxByte s i b).power = s.power ∧ (State.putBoxByte s i b).faults = s.faults ∧
    (State.putBoxByte s i b).maint = s.maint ∧ (State.putBoxByte s i b).glob = s.glob := by
  unfold State.putBoxByte
  try dsimp only
  (repeat' split) <;> first | (simp; done) | (simp (disch := (intros; (repeat' split) <;> first | simp | skip)); done)

@[simp] theorem State.boxCommand_frame (s : State) (r : BoxReq) :
    (State.boxCommand s r).pending = s.pending ∧ (State.boxCommand s r).draws = s.draws ∧
    (State.boxCommand s r).out = s.out ∧ (State.boxCommand s r).hbm = s.hbm ∧
    (State.boxCommand s r).host = s.host ∧ (State.boxCommand s r).pkg = s.pkg ∧
    (State.boxCommand s r).flash = s.flash ∧ (State.boxCommand s r).clocks = s.clocks ∧
    (State.boxCommand s r).engines = s.engines ∧ (State.boxCommand s r).slabs = s.slabs ∧
    (State.boxCommand s r).rings = s.rings ∧ (State.boxCommand s r).plots = s.plots ∧
    (State.boxCommand s r).stash = s.stash ∧ (State.boxCommand s r).matJobs = s.matJobs ∧
    (State.boxCommand s r).vecJobs = s.vecJobs ∧ (State.boxCommand s r).fabric = s.fabric ∧
    (State.boxCommand s r).ports = s.ports ∧ (State.boxCommand s r).puts = s.puts ∧
    (State.boxCommand s r).tags = s.tags ∧ (State.boxCommand s r).mgr = s.mgr ∧
    (State.boxCommand s r).mac = s.mac ∧ (State.boxCommand s r).pcie = s.pcie ∧
    (State.boxCommand s r).cores = s.cores ∧ (State.boxCommand s r).power = s.power ∧
    (State.boxCommand s r).faults = s.faults ∧ (State.boxCommand s r).maint = s.maint ∧
    (State.boxCommand s r).glob = s.glob := by
  unfold State.boxCommand
  try dsimp only
  (repeat' split) <;> first | (simp; done) | (simp (disch := (intros; (repeat' split) <;> first | simp | skip)); done)

@[simp] theorem State.writeCerts_frame (s : State) (f : Flash → Flash) :
    (State.writeCerts s f).pending = s.pending ∧ (State.writeCerts s f).draws = s.draws ∧
    (State.writeCerts s f).out = s.out ∧ (State.writeCerts s f).regs = s.regs ∧
    (State.writeCerts s f).hbm = s.hbm ∧ (State.writeCerts s f).host = s.host ∧
    (State.writeCerts s f).pkg = s.pkg ∧ (State.writeCerts s f).clocks = s.clocks ∧
    (State.writeCerts s f).engines = s.engines ∧ (State.writeCerts s f).slabs = s.slabs ∧
    (State.writeCerts s f).rings = s.rings ∧ (State.writeCerts s f).plots = s.plots ∧
    (State.writeCerts s f).stash = s.stash ∧ (State.writeCerts s f).matJobs = s.matJobs ∧
    (State.writeCerts s f).vecJobs = s.vecJobs ∧ (State.writeCerts s f).fabric = s.fabric ∧
    (State.writeCerts s f).ports = s.ports ∧ (State.writeCerts s f).puts = s.puts ∧
    (State.writeCerts s f).tags = s.tags ∧ (State.writeCerts s f).mgr = s.mgr ∧
    (State.writeCerts s f).mac = s.mac ∧ (State.writeCerts s f).pcie = s.pcie ∧
    (State.writeCerts s f).sec = s.sec ∧ (State.writeCerts s f).cores = s.cores ∧
    (State.writeCerts s f).power = s.power ∧ (State.writeCerts s f).faults = s.faults ∧
    (State.writeCerts s f).maint = s.maint ∧ (State.writeCerts s f).glob = s.glob := by
  unfold State.writeCerts
  try dsimp only
  (repeat' split) <;> first | (simp; done) | (simp (disch := (intros; (repeat' split) <;> first | simp | skip)); done)

@[simp] theorem State.unlockDebug_frame (s : State) :
    (State.unlockDebug s).pending = s.pending ∧ (State.unlockDebug s).hbm = s.hbm ∧
    (State.unlockDebug s).host = s.host ∧ (State.unlockDebug s).pkg = s.pkg ∧
    (State.unlockDebug s).flash = s.flash ∧ (State.unlockDebug s).clocks = s.clocks ∧
    (State.unlockDebug s).slabs = s.slabs ∧ (State.unlockDebug s).rings = s.rings ∧
    (State.unlockDebug s).stash = s.stash ∧ (State.unlockDebug s).puts = s.puts ∧
    (State.unlockDebug s).mac = s.mac ∧ (State.unlockDebug s).power = s.power ∧
    (State.unlockDebug s).faults = s.faults ∧ (State.unlockDebug s).maint = s.maint ∧
    (State.unlockDebug s).glob = s.glob := by
  unfold State.unlockDebug
  try dsimp only
  (repeat' split) <;> first | (simp; done) | (simp (disch := (intros; (repeat' split) <;> first | simp | skip)); done)

@[simp] theorem State.fwResult_frame (s : State) (r : Nat) :
    (State.fwResult s r).pending = s.pending ∧ (State.fwResult s r).draws = s.draws ∧
    (State.fwResult s r).out = s.out ∧ (State.fwResult s r).hbm = s.hbm ∧ (State.fwResult s r).host = s.host ∧
    (State.fwResult s r).pkg = s.pkg ∧ (State.fwResult s r).flash = s.flash ∧
    (State.fwResult s r).clocks = s.clocks ∧ (State.fwResult s r).engines = s.engines ∧
    (State.fwResult s r).slabs = s.slabs ∧ (State.fwResult s r).rings = s.rings ∧
    (State.fwResult s r).plots = s.plots ∧ (State.fwResult s r).stash = s.stash ∧
    (State.fwResult s r).matJobs = s.matJobs ∧ (State.fwResult s r).vecJobs = s.vecJobs ∧
    (State.fwResult s r).fabric = s.fabric ∧ (State.fwResult s r).ports = s.ports ∧
    (State.fwResult s r).puts = s.puts ∧ (State.fwResult s r).tags = s.tags ∧ (State.fwResult s r).mgr = s.mgr ∧
    (State.fwResult s r).mac = s.mac ∧ (State.fwResult s r).pcie = s.pcie ∧ (State.fwResult s r).sec = s.sec ∧
    (State.fwResult s r).cores = s.cores ∧ (State.fwResult s r).power = s.power ∧
    (State.fwResult s r).faults = s.faults ∧ (State.fwResult s r).maint = s.maint ∧
    (State.fwResult s r).glob = s.glob := by
  unfold State.fwResult
  try dsimp only
  (repeat' split) <;> first | (simp; done) | (simp (disch := (intros; (repeat' split) <;> first | simp | skip)); done)

@[simp] theorem State.fwEnd_frame (s : State) (r : Nat) :
    (State.fwEnd s r).pending = s.pending ∧ (State.fwEnd s r).host = s.host ∧ (State.fwEnd s r).pkg = s.pkg ∧
    (State.fwEnd s r).clocks = s.clocks ∧ (State.fwEnd s r).engines = s.engines ∧
    (State.fwEnd s r).slabs = s.slabs ∧ (State.fwEnd s r).rings = s.rings ∧ (State.fwEnd s r).plots = s.plots ∧
    (State.fwEnd s r).stash = s.stash ∧ (State.fwEnd s r).matJobs = s.matJobs ∧
    (State.fwEnd s r).vecJobs = s.vecJobs ∧ (State.fwEnd s r).fabric = s.fabric ∧ (State.fwEnd s r).puts = s.puts ∧
    (State.fwEnd s r).tags = s.tags ∧ (State.fwEnd s r).mac = s.mac ∧ (State.fwEnd s r).pcie = s.pcie ∧
    (State.fwEnd s r).sec = s.sec ∧ (State.fwEnd s r).cores = s.cores ∧ (State.fwEnd s r).power = s.power ∧
    (State.fwEnd s r).faults = s.faults ∧ (State.fwEnd s r).glob = s.glob := by
  unfold State.fwEnd
  try dsimp only
  (repeat' split) <;> first | (simp; done) | (simp (disch := (intros; (repeat' split) <;> first | simp | skip)); done)

@[simp] theorem State.fwWriting_frame (s : State) (g : Staging) :
    (State.fwWriting s g).pending = s.pending ∧ (State.fwWriting s g).draws = s.draws ∧
    (State.fwWriting s g).out = s.out ∧ (State.fwWriting s g).hbm = s.hbm ∧ (State.fwWriting s g).host = s.host ∧
    (State.fwWriting s g).pkg = s.pkg ∧ (State.fwWriting s g).clocks = s.clocks ∧
    (State.fwWriting s g).engines = s.engines ∧ (State.fwWriting s g).slabs = s.slabs ∧
    (State.fwWriting s g).rings = s.rings ∧ (State.fwWriting s g).plots = s.plots ∧
    (State.fwWriting s g).stash = s.stash ∧ (State.fwWriting s g).matJobs = s.matJobs ∧
    (State.fwWriting s g).vecJobs = s.vecJobs ∧ (State.fwWriting s g).fabric = s.fabric ∧
    (State.fwWriting s g).ports = s.ports ∧ (State.fwWriting s g).puts = s.puts ∧
    (State.fwWriting s g).tags = s.tags ∧ (State.fwWriting s g).mgr = s.mgr ∧ (State.fwWriting s g).mac = s.mac ∧
    (State.fwWriting s g).pcie = s.pcie ∧ (State.fwWriting s g).sec = s.sec ∧
    (State.fwWriting s g).cores = s.cores ∧ (State.fwWriting s g).power = s.power ∧
    (State.fwWriting s g).faults = s.faults ∧ (State.fwWriting s g).maint = s.maint ∧
    (State.fwWriting s g).glob = s.glob := by
  unfold State.fwWriting
  try dsimp only
  (repeat' split) <;> first | (simp; done) | (simp (disch := (intros; (repeat' split) <;> first | simp | skip)); done)

@[simp] theorem State.fwLock_frame (s : State) (g : Staging) :
    (State.fwLock s g).pending = s.pending ∧ (State.fwLock s g).draws = s.draws ∧ (State.fwLock s g).out = s.out ∧
    (State.fwLock s g).hbm = s.hbm ∧ (State.fwLock s g).host = s.host ∧ (State.fwLock s g).pkg = s.pkg ∧
    (State.fwLock s g).clocks = s.clocks ∧ (State.fwLock s g).engines = s.engines ∧
    (State.fwLock s g).slabs = s.slabs ∧ (State.fwLock s g).rings = s.rings ∧ (State.fwLock s g).plots = s.plots ∧
    (State.fwLock s g).stash = s.stash ∧ (State.fwLock s g).matJobs = s.matJobs ∧
    (State.fwLock s g).vecJobs = s.vecJobs ∧ (State.fwLock s g).fabric = s.fabric ∧
    (State.fwLock s g).ports = s.ports ∧ (State.fwLock s g).puts = s.puts ∧ (State.fwLock s g).tags = s.tags ∧
    (State.fwLock s g).mgr = s.mgr ∧ (State.fwLock s g).mac = s.mac ∧ (State.fwLock s g).pcie = s.pcie ∧
    (State.fwLock s g).sec = s.sec ∧ (State.fwLock s g).cores = s.cores ∧ (State.fwLock s g).power = s.power ∧
    (State.fwLock s g).faults = s.faults ∧ (State.fwLock s g).glob = s.glob := by
  unfold State.fwLock
  try dsimp only
  (repeat' split) <;> first | (simp; done) | (simp (disch := (intros; (repeat' split) <;> first | simp | skip)); done)

@[simp] theorem State.fwPass_frame (s : State) (g : Staging) :
    (State.fwPass s g).pending = s.pending ∧ (State.fwPass s g).host = s.host ∧ (State.fwPass s g).pkg = s.pkg ∧
    (State.fwPass s g).clocks = s.clocks ∧ (State.fwPass s g).engines = s.engines ∧
    (State.fwPass s g).slabs = s.slabs ∧ (State.fwPass s g).rings = s.rings ∧ (State.fwPass s g).plots = s.plots ∧
    (State.fwPass s g).stash = s.stash ∧ (State.fwPass s g).matJobs = s.matJobs ∧
    (State.fwPass s g).vecJobs = s.vecJobs ∧ (State.fwPass s g).fabric = s.fabric ∧
    (State.fwPass s g).puts = s.puts ∧ (State.fwPass s g).tags = s.tags ∧ (State.fwPass s g).mac = s.mac ∧
    (State.fwPass s g).pcie = s.pcie ∧ (State.fwPass s g).sec = s.sec ∧ (State.fwPass s g).cores = s.cores ∧
    (State.fwPass s g).power = s.power ∧ (State.fwPass s g).faults = s.faults ∧ (State.fwPass s g).glob = s.glob := by
  unfold State.fwPass
  try dsimp only
  (repeat' split) <;> first | (simp; done) | (simp (disch := (intros; (repeat' split) <;> first | simp | skip)); done)

@[simp] theorem State.fwSector_frame (s : State) (g : Staging) (good : Bool) :
    (State.fwSector s g good).pending = s.pending ∧ (State.fwSector s g good).host = s.host ∧
    (State.fwSector s g good).pkg = s.pkg ∧ (State.fwSector s g good).clocks = s.clocks ∧
    (State.fwSector s g good).engines = s.engines ∧ (State.fwSector s g good).slabs = s.slabs ∧
    (State.fwSector s g good).rings = s.rings ∧ (State.fwSector s g good).plots = s.plots ∧
    (State.fwSector s g good).stash = s.stash ∧ (State.fwSector s g good).matJobs = s.matJobs ∧
    (State.fwSector s g good).vecJobs = s.vecJobs ∧ (State.fwSector s g good).fabric = s.fabric ∧
    (State.fwSector s g good).puts = s.puts ∧ (State.fwSector s g good).tags = s.tags ∧
    (State.fwSector s g good).mac = s.mac ∧ (State.fwSector s g good).pcie = s.pcie ∧
    (State.fwSector s g good).sec = s.sec ∧ (State.fwSector s g good).cores = s.cores ∧
    (State.fwSector s g good).power = s.power ∧ (State.fwSector s g good).faults = s.faults ∧
    (State.fwSector s g good).glob = s.glob := by
  unfold State.fwSector
  try dsimp only
  (repeat' split) <;> first | (simp; done) | (simp (disch := (intros; (repeat' split) <;> first | simp | skip)); done)

@[simp] theorem State.confirmImage_frame (s : State) :
    (State.confirmImage s).pending = s.pending ∧ (State.confirmImage s).draws = s.draws ∧
    (State.confirmImage s).out = s.out ∧ (State.confirmImage s).hbm = s.hbm ∧
    (State.confirmImage s).host = s.host ∧ (State.confirmImage s).pkg = s.pkg ∧
    (State.confirmImage s).clocks = s.clocks ∧ (State.confirmImage s).engines = s.engines ∧
    (State.confirmImage s).slabs = s.slabs ∧ (State.confirmImage s).rings = s.rings ∧
    (State.confirmImage s).plots = s.plots ∧ (State.confirmImage s).stash = s.stash ∧
    (State.confirmImage s).matJobs = s.matJobs ∧ (State.confirmImage s).vecJobs = s.vecJobs ∧
    (State.confirmImage s).fabric = s.fabric ∧ (State.confirmImage s).ports = s.ports ∧
    (State.confirmImage s).puts = s.puts ∧ (State.confirmImage s).tags = s.tags ∧
    (State.confirmImage s).mgr = s.mgr ∧ (State.confirmImage s).mac = s.mac ∧
    (State.confirmImage s).pcie = s.pcie ∧ (State.confirmImage s).cores = s.cores ∧
    (State.confirmImage s).power = s.power ∧ (State.confirmImage s).faults = s.faults ∧
    (State.confirmImage s).maint = s.maint ∧ (State.confirmImage s).glob = s.glob := by
  unfold State.confirmImage
  try dsimp only
  (repeat' split) <;> first | (simp; done) | (simp (disch := (intros; (repeat' split) <;> first | simp | skip)); done)

end Sys2Proof.Machine
end

