-- ==== Sys2Proof/Laws/FrameRegWrite.lean ====
section
/-! SUPPORT. Frames of the operations of RegWrite. -/

namespace Sys2Proof.Machine

@[simp] theorem State.afterWrite_frame (s : State) (a : Nat) :
    (State.afterWrite s a).pending = s.pending ∧ (State.afterWrite s a).draws = s.draws ∧
    (State.afterWrite s a).out = s.out ∧ (State.afterWrite s a).hbm = s.hbm ∧
    (State.afterWrite s a).host = s.host ∧ (State.afterWrite s a).pkg = s.pkg ∧
    (State.afterWrite s a).flash = s.flash ∧ (State.afterWrite s a).clocks = s.clocks ∧
    (State.afterWrite s a).engines = s.engines ∧ (State.afterWrite s a).slabs = s.slabs ∧
    (State.afterWrite s a).rings = s.rings ∧ (State.afterWrite s a).plots = s.plots ∧
    (State.afterWrite s a).stash = s.stash ∧ (State.afterWrite s a).matJobs = s.matJobs ∧
    (State.afterWrite s a).vecJobs = s.vecJobs ∧ (State.afterWrite s a).fabric = s.fabric ∧
    (State.afterWrite s a).ports = s.ports ∧ (State.afterWrite s a).puts = s.puts ∧
    (State.afterWrite s a).tags = s.tags ∧ (State.afterWrite s a).mgr = s.mgr ∧
    (State.afterWrite s a).pcie = s.pcie ∧ (State.afterWrite s a).sec = s.sec ∧
    (State.afterWrite s a).cores = s.cores ∧ (State.afterWrite s a).maint = s.maint ∧
    (State.afterWrite s a).glob = s.glob := by
  unfold State.afterWrite
  try dsimp only
  (repeat' split) <;> first | (simp; done) | (simp (disch := (intros; (repeat' split) <;> first | simp | skip)); done)

@[simp] theorem State.writePlain_frame (s : State) (path : Nat) (row : RegRow) (a v : Nat) :
    (State.writePlain s path row a v).pending = s.pending ∧ (State.writePlain s path row a v).draws = s.draws ∧
    (State.writePlain s path row a v).out = s.out ∧ (State.writePlain s path row a v).hbm = s.hbm ∧
    (State.writePlain s path row a v).host = s.host ∧ (State.writePlain s path row a v).pkg = s.pkg ∧
    (State.writePlain s path row a v).flash = s.flash ∧ (State.writePlain s path row a v).clocks = s.clocks ∧
    (State.writePlain s path row a v).engines = s.engines ∧ (State.writePlain s path row a v).slabs = s.slabs ∧
    (State.writePlain s path row a v).rings = s.rings ∧ (State.writePlain s path row a v).plots = s.plots ∧
    (State.writePlain s path row a v).stash = s.stash ∧ (State.writePlain s path row a v).matJobs = s.matJobs ∧
    (State.writePlain s path row a v).vecJobs = s.vecJobs ∧ (State.writePlain s path row a v).fabric = s.fabric ∧
    (State.writePlain s path row a v).ports = s.ports ∧ (State.writePlain s path row a v).puts = s.puts ∧
    (State.writePlain s path row a v).tags = s.tags ∧ (State.writePlain s path row a v).mgr = s.mgr ∧
    (State.writePlain s path row a v).pcie = s.pcie ∧ (State.writePlain s path row a v).sec = s.sec ∧
    (State.writePlain s path row a v).cores = s.cores ∧ (State.writePlain s path row a v).maint = s.maint ∧
    (State.writePlain s path row a v).glob = s.glob := by
  unfold State.writePlain
  try dsimp only
  (repeat' split) <;> first | (simp; done) | (simp (disch := (intros; (repeat' split) <;> first | simp | skip)); done)

@[simp] theorem State.writeMsix_frame (s : State) (func off : Nat) (v : Word) :
    (State.writeMsix s func off v).pending = s.pending ∧ (State.writeMsix s func off v).draws = s.draws ∧
    (State.writeMsix s func off v).regs = s.regs ∧ (State.writeMsix s func off v).hbm = s.hbm ∧
    (State.writeMsix s func off v).host = s.host ∧ (State.writeMsix s func off v).pkg = s.pkg ∧
    (State.writeMsix s func off v).flash = s.flash ∧ (State.writeMsix s func off v).clocks = s.clocks ∧
    (State.writeMsix s func off v).engines = s.engines ∧ (State.writeMsix s func off v).slabs = s.slabs ∧
    (State.writeMsix s func off v).rings = s.rings ∧ (State.writeMsix s func off v).plots = s.plots ∧
    (State.writeMsix s func off v).stash = s.stash ∧ (State.writeMsix s func off v).matJobs = s.matJobs ∧
    (State.writeMsix s func off v).vecJobs = s.vecJobs ∧ (State.writeMsix s func off v).fabric = s.fabric ∧
    (State.writeMsix s func off v).ports = s.ports ∧ (State.writeMsix s func off v).puts = s.puts ∧
    (State.writeMsix s func off v).tags = s.tags ∧ (State.writeMsix s func off v).mgr = s.mgr ∧
    (State.writeMsix s func off v).mac = s.mac ∧ (State.writeMsix s func off v).sec = s.sec ∧
    (State.writeMsix s func off v).cores = s.cores ∧ (State.writeMsix s func off v).power = s.power ∧
    (State.writeMsix s func off v).faults = s.faults ∧ (State.writeMsix s func off v).maint = s.maint ∧
    (State.writeMsix s func off v).glob = s.glob := by
  unfold State.writeMsix
  try dsimp only
  (repeat' split) <;> first | (simp; done) | (simp (disch := (intros; (repeat' split) <;> first | simp | skip)); done)

@[simp] theorem State.oddAccess_frame (s : State) :
    (State.oddAccess s).pending = s.pending ∧ (State.oddAccess s).draws = s.draws ∧
    (State.oddAccess s).hbm = s.hbm ∧ (State.oddAccess s).host = s.host ∧ (State.oddAccess s).pkg = s.pkg ∧
    (State.oddAccess s).clocks = s.clocks ∧ (State.oddAccess s).engines = s.engines ∧
    (State.oddAccess s).slabs = s.slabs ∧ (State.oddAccess s).rings = s.rings ∧
    (State.oddAccess s).stash = s.stash ∧ (State.oddAccess s).matJobs = s.matJobs ∧
    (State.oddAccess s).vecJobs = s.vecJobs ∧ (State.oddAccess s).fabric = s.fabric ∧
    (State.oddAccess s).ports = s.ports ∧ (State.oddAccess s).puts = s.puts ∧ (State.oddAccess s).tags = s.tags ∧
    (State.oddAccess s).mgr = s.mgr ∧ (State.oddAccess s).mac = s.mac ∧ (State.oddAccess s).sec = s.sec ∧
    (State.oddAccess s).cores = s.cores ∧ (State.oddAccess s).power = s.power ∧
    (State.oddAccess s).maint = s.maint ∧ (State.oddAccess s).glob = s.glob := by
  unfold State.oddAccess
  try dsimp only
  (repeat' split) <;> first | (simp; done) | (simp (disch := (intros; (repeat' split) <;> first | simp | skip)); done)

@[simp] theorem State.writeWord_frame (s : State) (path a : Nat) (v : Word) :
    (State.writeWord s path a v).pending = s.pending ∧ (State.writeWord s path a v).draws = s.draws ∧
    (State.writeWord s path a v).hbm = s.hbm ∧ (State.writeWord s path a v).host = s.host ∧
    (State.writeWord s path a v).pkg = s.pkg ∧ (State.writeWord s path a v).clocks = s.clocks ∧
    (State.writeWord s path a v).engines = s.engines ∧ (State.writeWord s path a v).slabs = s.slabs ∧
    (State.writeWord s path a v).rings = s.rings ∧ (State.writeWord s path a v).stash = s.stash ∧
    (State.writeWord s path a v).matJobs = s.matJobs ∧ (State.writeWord s path a v).vecJobs = s.vecJobs ∧
    (State.writeWord s path a v).fabric = s.fabric ∧ (State.writeWord s path a v).ports = s.ports ∧
    (State.writeWord s path a v).puts = s.puts ∧ (State.writeWord s path a v).tags = s.tags ∧
    (State.writeWord s path a v).mgr = s.mgr ∧ (State.writeWord s path a v).cores = s.cores ∧
    (State.writeWord s path a v).maint = s.maint ∧ (State.writeWord s path a v).glob = s.glob := by
  unfold State.writeWord
  try dsimp only
  (repeat' split) <;> first | (simp; done) | (simp (disch := (intros; (repeat' split) <;> first | simp | skip)); done)

@[simp] theorem State.upset_frame (s : State) (u : Upset) :
    (State.upset s u).pending = s.pending ∧ (State.upset s u).draws = s.draws ∧ (State.upset s u).out = s.out ∧
    (State.upset s u).hbm = s.hbm ∧ (State.upset s u).host = s.host ∧ (State.upset s u).pkg = s.pkg ∧
    (State.upset s u).flash = s.flash ∧ (State.upset s u).clocks = s.clocks ∧
    (State.upset s u).engines = s.engines ∧ (State.upset s u).rings = s.rings ∧ (State.upset s u).plots = s.plots ∧
    (State.upset s u).stash = s.stash ∧ (State.upset s u).matJobs = s.matJobs ∧
    (State.upset s u).vecJobs = s.vecJobs ∧ (State.upset s u).fabric = s.fabric ∧
    (State.upset s u).ports = s.ports ∧ (State.upset s u).puts = s.puts ∧ (State.upset s u).tags = s.tags ∧
    (State.upset s u).mgr = s.mgr ∧ (State.upset s u).mac = s.mac ∧ (State.upset s u).pcie = s.pcie ∧
    (State.upset s u).sec = s.sec ∧ (State.upset s u).cores = s.cores ∧ (State.upset s u).power = s.power ∧
    (State.upset s u).faults = s.faults ∧ (State.upset s u).maint = s.maint ∧ (State.upset s u).glob = s.glob := by
  unfold State.upset
  try dsimp only
  (repeat' split) <;> first | (simp; done) | (simp (disch := (intros; (repeat' split) <;> first | simp | skip)); done)

@[simp] theorem State.voted_frame (s : State) (sec : Bool) (v : Vote) :
    (State.voted s sec v).pending = s.pending ∧ (State.voted s sec v).draws = s.draws ∧
    (State.voted s sec v).hbm = s.hbm ∧ (State.voted s sec v).host = s.host ∧ (State.voted s sec v).pkg = s.pkg ∧
    (State.voted s sec v).clocks = s.clocks ∧ (State.voted s sec v).engines = s.engines ∧
    (State.voted s sec v).stash = s.stash ∧ (State.voted s sec v).mac = s.mac ∧
    (State.voted s sec v).cores = s.cores ∧ (State.voted s sec v).glob = s.glob := by
  unfold State.voted
  try dsimp only
  (repeat' split) <;> first | (simp; done) | (simp (disch := (intros; (repeat' split) <;> first | simp | skip)); done)

@[simp] theorem State.voteField_frame (s : State) (key : Nat) :
    (State.voteField s key).pending = s.pending ∧ (State.voteField s key).draws = s.draws ∧
    (State.voteField s key).hbm = s.hbm ∧ (State.voteField s key).host = s.host ∧
    (State.voteField s key).pkg = s.pkg ∧ (State.voteField s key).clocks = s.clocks ∧
    (State.voteField s key).engines = s.engines ∧ (State.voteField s key).stash = s.stash ∧
    (State.voteField s key).mac = s.mac ∧ (State.voteField s key).cores = s.cores ∧
    (State.voteField s key).glob = s.glob := by
  unfold State.voteField
  try dsimp only
  (repeat' split) <;> first | (simp; done) | (simp (disch := (intros; (repeat' split) <;> first | simp | skip)); done)

@[simp] theorem State.voteSlab_frame (s : State) (n : Nat) :
    (State.voteSlab s n).pending = s.pending ∧ (State.voteSlab s n).draws = s.draws ∧
    (State.voteSlab s n).hbm = s.hbm ∧ (State.voteSlab s n).host = s.host ∧ (State.voteSlab s n).pkg = s.pkg ∧
    (State.voteSlab s n).clocks = s.clocks ∧ (State.voteSlab s n).engines = s.engines ∧
    (State.voteSlab s n).stash = s.stash ∧ (State.voteSlab s n).mac = s.mac ∧
    (State.voteSlab s n).cores = s.cores ∧ (State.voteSlab s n).glob = s.glob := by
  unfold State.voteSlab
  try dsimp only
  (repeat' split) <;> first | (simp; done) | (simp (disch := (intros; (repeat' split) <;> first | simp | skip)); done)

@[simp] theorem State.voteDerived_frame (s : State) (u : Upset) :
    (State.voteDerived s u).pending = s.pending ∧ (State.voteDerived s u).draws = s.draws ∧
    (State.voteDerived s u).hbm = s.hbm ∧ (State.voteDerived s u).host = s.host ∧
    (State.voteDerived s u).pkg = s.pkg ∧ (State.voteDerived s u).clocks = s.clocks ∧
    (State.voteDerived s u).engines = s.engines ∧ (State.voteDerived s u).slabs = s.slabs ∧
    (State.voteDerived s u).rings = s.rings ∧ (State.voteDerived s u).stash = s.stash ∧
    (State.voteDerived s u).matJobs = s.matJobs ∧ (State.voteDerived s u).vecJobs = s.vecJobs ∧
    (State.voteDerived s u).fabric = s.fabric ∧ (State.voteDerived s u).ports = s.ports ∧
    (State.voteDerived s u).puts = s.puts ∧ (State.voteDerived s u).tags = s.tags ∧
    (State.voteDerived s u).mgr = s.mgr ∧ (State.voteDerived s u).mac = s.mac ∧
    (State.voteDerived s u).sec = s.sec ∧ (State.voteDerived s u).cores = s.cores ∧
    (State.voteDerived s u).power = s.power ∧ (State.voteDerived s u).maint = s.maint ∧
    (State.voteDerived s u).glob = s.glob := by
  unfold State.voteDerived
  try dsimp only
  (repeat' split) <;> first | (simp; done) | (simp (disch := (intros; (repeat' split) <;> first | simp | skip)); done)

end Sys2Proof.Machine
end

