-- ==== Sys2Proof/Laws/FrameUpdate.lean ====
section
/-! SUPPORT. Frames of the operations of Update. -/

namespace Sys2Proof.Machine

@[simp] theorem State.openPhase_frame (s : State) (p : Nat) (e : Entry) (rs : List Region) :
    (State.openPhase s p e rs).pending = s.pending ∧ (State.openPhase s p e rs).pkg = s.pkg ∧
    (State.openPhase s p e rs).clocks = s.clocks ∧ (State.openPhase s p e rs).engines = s.engines ∧
    (State.openPhase s p e rs).slabs = s.slabs ∧ (State.openPhase s p e rs).stash = s.stash ∧
    (State.openPhase s p e rs).matJobs = s.matJobs ∧ (State.openPhase s p e rs).vecJobs = s.vecJobs ∧
    (State.openPhase s p e rs).puts = s.puts ∧ (State.openPhase s p e rs).mgr = s.mgr ∧
    (State.openPhase s p e rs).mac = s.mac ∧ (State.openPhase s p e rs).sec = s.sec ∧
    (State.openPhase s p e rs).cores = s.cores ∧ (State.openPhase s p e rs).maint = s.maint ∧
    (State.openPhase s p e rs).glob = s.glob := by
  unfold State.openPhase
  try dsimp only
  (repeat' split) <;> first | (simp; done) | (simp (disch := (intros; (repeat' split) <;> first | simp | skip)); done)

@[simp] theorem State.decideGate_frame (s : State) (p r i : Nat) (e : Entry) :
    (State.decideGate s p r i e).pending = s.pending ∧ (State.decideGate s p r i e).pkg = s.pkg ∧
    (State.decideGate s p r i e).clocks = s.clocks ∧ (State.decideGate s p r i e).engines = s.engines ∧
    (State.decideGate s p r i e).slabs = s.slabs ∧ (State.decideGate s p r i e).stash = s.stash ∧
    (State.decideGate s p r i e).matJobs = s.matJobs ∧ (State.decideGate s p r i e).vecJobs = s.vecJobs ∧
    (State.decideGate s p r i e).puts = s.puts ∧ (State.decideGate s p r i e).mgr = s.mgr ∧
    (State.decideGate s p r i e).mac = s.mac ∧ (State.decideGate s p r i e).sec = s.sec ∧
    (State.decideGate s p r i e).cores = s.cores ∧ (State.decideGate s p r i e).maint = s.maint ∧
    (State.decideGate s p r i e).glob = s.glob := by
  unfold State.decideGate
  try dsimp only
  (repeat' split) <;> first | (simp; done) | (simp (disch := (intros; (repeat' split) <;> first | simp | skip)); done)

@[simp] theorem State.countPiece_frame (s s0 : State) (p : Nat) (e : Entry) (r : Region) (idx : List Nat) (reads : List (List Word)) (made : Nat) :
    (State.countPiece s s0 p e r idx reads made).pending = s.pending ∧
    (State.countPiece s s0 p e r idx reads made).draws = s.draws ∧
    (State.countPiece s s0 p e r idx reads made).out = s.out ∧
    (State.countPiece s s0 p e r idx reads made).hbm = s.hbm ∧
    (State.countPiece s s0 p e r idx reads made).host = s.host ∧
    (State.countPiece s s0 p e r idx reads made).pkg = s.pkg ∧
    (State.countPiece s s0 p e r idx reads made).flash = s.flash ∧
    (State.countPiece s s0 p e r idx reads made).clocks = s.clocks ∧
    (State.countPiece s s0 p e r idx reads made).engines = s.engines ∧
    (State.countPiece s s0 p e r idx reads made).slabs = s.slabs ∧
    (State.countPiece s s0 p e r idx reads made).rings = s.rings ∧
    (State.countPiece s s0 p e r idx reads made).stash = s.stash ∧
    (State.countPiece s s0 p e r idx reads made).matJobs = s.matJobs ∧
    (State.countPiece s s0 p e r idx reads made).vecJobs = s.vecJobs ∧
    (State.countPiece s s0 p e r idx reads made).fabric = s.fabric ∧
    (State.countPiece s s0 p e r idx reads made).ports = s.ports ∧
    (State.countPiece s s0 p e r idx reads made).puts = s.puts ∧
    (State.countPiece s s0 p e r idx reads made).tags = s.tags ∧
    (State.countPiece s s0 p e r idx reads made).mgr = s.mgr ∧
    (State.countPiece s s0 p e r idx reads made).mac = s.mac ∧
    (State.countPiece s s0 p e r idx reads made).pcie = s.pcie ∧
    (State.countPiece s s0 p e r idx reads made).sec = s.sec ∧
    (State.countPiece s s0 p e r idx reads made).cores = s.cores ∧
    (State.countPiece s s0 p e r idx reads made).power = s.power ∧
    (State.countPiece s s0 p e r idx reads made).faults = s.faults ∧
    (State.countPiece s s0 p e r idx reads made).maint = s.maint ∧
    (State.countPiece s s0 p e r idx reads made).glob = s.glob := by
  unfold State.countPiece
  try dsimp only
  (repeat' split) <;> first | (simp; done) | (simp (disch := (intros; (repeat' split) <;> first | simp | skip)); done)

@[simp] theorem State.dieShare_frame (s : State) (p ring gd : Nat) (r : Region) (idx : List Nat) (first : Bool) :
    (State.dieShare s p ring gd r idx first).pending = s.pending ∧
    (State.dieShare s p ring gd r idx first).out = s.out ∧ (State.dieShare s p ring gd r idx first).hbm = s.hbm ∧
    (State.dieShare s p ring gd r idx first).host = s.host ∧ (State.dieShare s p ring gd r idx first).pkg = s.pkg ∧
    (State.dieShare s p ring gd r idx first).flash = s.flash ∧
    (State.dieShare s p ring gd r idx first).clocks = s.clocks ∧
    (State.dieShare s p ring gd r idx first).engines = s.engines ∧
    (State.dieShare s p ring gd r idx first).slabs = s.slabs ∧
    (State.dieShare s p ring gd r idx first).rings = s.rings ∧
    (State.dieShare s p ring gd r idx first).plots = s.plots ∧
    (State.dieShare s p ring gd r idx first).stash = s.stash ∧
    (State.dieShare s p ring gd r idx first).matJobs = s.matJobs ∧
    (State.dieShare s p ring gd r idx first).vecJobs = s.vecJobs ∧
    (State.dieShare s p ring gd r idx first).fabric = s.fabric ∧
    (State.dieShare s p ring gd r idx first).ports = s.ports ∧
    (State.dieShare s p ring gd r idx first).puts = s.puts ∧
    (State.dieShare s p ring gd r idx first).tags = s.tags ∧ (State.dieShare s p ring gd r idx first).mgr = s.mgr ∧
    (State.dieShare s p ring gd r idx first).mac = s.mac ∧ (State.dieShare s p ring gd r idx first).pcie = s.pcie ∧
    (State.dieShare s p ring gd r idx first).sec = s.sec ∧
    (State.dieShare s p ring gd r idx first).cores = s.cores ∧
    (State.dieShare s p ring gd r idx first).faults = s.faults ∧
    (State.dieShare s p ring gd r idx first).maint = s.maint ∧
    (State.dieShare s p ring gd r idx first).glob = s.glob := by
  unfold State.dieShare
  try dsimp only
  (repeat' split) <;> first | (simp; done) | (simp (disch := (intros; (repeat' split) <;> first | simp | skip)); done)

end Sys2Proof.Machine
end

