-- ==== Sys2Proof/Laws/FrameStep.lean ====
section
/-! SUPPORT. Frames of the operations of Step. -/

namespace Sys2Proof.Machine

@[simp] theorem State.withFetchWord_frame (s : State) (nbits w : Nat) :
    (State.withFetchWord s nbits w).draws = s.draws ∧ (State.withFetchWord s nbits w).out = s.out ∧
    (State.withFetchWord s nbits w).regs = s.regs ∧ (State.withFetchWord s nbits w).hbm = s.hbm ∧
    (State.withFetchWord s nbits w).host = s.host ∧ (State.withFetchWord s nbits w).pkg = s.pkg ∧
    (State.withFetchWord s nbits w).flash = s.flash ∧ (State.withFetchWord s nbits w).clocks = s.clocks ∧
    (State.withFetchWord s nbits w).engines = s.engines ∧ (State.withFetchWord s nbits w).slabs = s.slabs ∧
    (State.withFetchWord s nbits w).rings = s.rings ∧ (State.withFetchWord s nbits w).plots = s.plots ∧
    (State.withFetchWord s nbits w).stash = s.stash ∧ (State.withFetchWord s nbits w).matJobs = s.matJobs ∧
    (State.withFetchWord s nbits w).vecJobs = s.vecJobs ∧ (State.withFetchWord s nbits w).fabric = s.fabric ∧
    (State.withFetchWord s nbits w).ports = s.ports ∧ (State.withFetchWord s nbits w).puts = s.puts ∧
    (State.withFetchWord s nbits w).tags = s.tags ∧ (State.withFetchWord s nbits w).mgr = s.mgr ∧
    (State.withFetchWord s nbits w).mac = s.mac ∧ (State.withFetchWord s nbits w).pcie = s.pcie ∧
    (State.withFetchWord s nbits w).sec = s.sec ∧ (State.withFetchWord s nbits w).cores = s.cores ∧
    (State.withFetchWord s nbits w).power = s.power ∧ (State.withFetchWord s nbits w).faults = s.faults ∧
    (State.withFetchWord s nbits w).maint = s.maint ∧ (State.withFetchWord s nbits w).glob = s.glob := by
  unfold State.withFetchWord
  try dsimp only
  (repeat' split) <;> first | (simp; done) | (simp (disch := (intros; (repeat' split) <;> first | simp | skip)); done)

end Sys2Proof.Machine
end

