-- ==== Sys2Proof/Laws/Memory.lean ====
section
/-! SUPPORT. What the operations on device and host memory do: reading after a write, every byte outside the
written range, and the canonical form that each of them keeps. -/

namespace Sys2Proof.Machine

/-! ### Host memory -/

theorem Memory.wf_write (m : Memory) (a : Nat) (l : List Byte) (h : Memory.wf m = true) :
    Memory.wf (Memory.write m a l) = true := by
  induction l generalizing m a with
  | nil => exact h
  | cons b l ih => exact ih _ _ (Memory.wf_put m a b h)

theorem Memory.val_write_outside (m : Memory) (a : Nat) (l : List Byte) (x : Nat) (h : x < a ∨ a + l.length ≤ x) :
    Tab.val (Memory.write m a l) x = Tab.val m x := by
  induction l generalizing m a with
  | nil => rfl
  | cons b l ih =>
    simp only [List.length_cons] at h
    unfold Memory.write
    rw [ih _ _ (by omega), Tab.val_put_other m b (by omega)]

theorem Memory.val_write_inside (m : Memory) (a : Nat) (l : List Byte) (i : Nat) (h : i < l.length) :
    Tab.val (Memory.write m a l) (a + i) = l.getD i 0 := by
  induction l generalizing m a i with
  | nil => simp at h
  | cons b l ih =>
    unfold Memory.write
    cases i with
    | zero => rw [Memory.val_write_outside _ _ _ _ (by omega)]; simp
    | succ i =>
      simp only [List.length_cons] at h
      rw [show a + (i + 1) = a + 1 + i from by omega, ih _ _ _ (by omega)]
      simp

/-! ### Device memory -/

theorem Tab.look_filter {α : Type} (t : Tab α) (p : Nat → Bool) (k : Nat) :
    Tab.look (List.filter (fun e => p e.1) t) k = if p k = true then Tab.look t k else none := by
  induction t with
  | nil => simp [Tab.look]
  | cons e t ih =>
    by_cases he : p e.1 = true
    · rw [List.filter_cons_of_pos (by simpa using he)]
      simp only [Tab.look]
      by_cases hk : e.1 = k
      · subst hk; simp [he]
      · simp [hk, ih]
    · rw [List.filter_cons_of_neg (by simpa using he), ih]
      simp only [Tab.look]
      by_cases hk : e.1 = k
      · subst hk; simp [he]
      · simp [hk]

/-- A clean page that becomes dirty reads as before: zero. -/
@[simp] theorem Hbm.byte_touch (h : Hbm) (page a : Nat) : (h.touch page).byte a = h.byte a := by
  unfold Hbm.touch
  split
  · rfl
  · rename_i hp
    unfold Hbm.byte
    simp only [mem_addAsc]
    by_cases ha : a / pageBytes = page
    · subst ha
      rw [if_pos (Or.inl rfl), if_neg hp]
      unfold Tab.val Tab.valD
      rw [Tab.look_filter h.mem (fun k => decide (k / pageBytes ≠ a / pageBytes)) a]
      simp; rfl
    · simp only [ha, false_or]
      split
      · unfold Tab.val Tab.valD
        rw [Tab.look_filter h.mem (fun k => decide (k / pageBytes ≠ page)) a]
        simp [ha]
      · rfl

theorem Hbm.byte_touches (l : List Nat) (h : Hbm) (a : Nat) : (l.foldl Hbm.touch h).byte a = h.byte a := by
  induction l generalizing h with
  | nil => rfl
  | cons p l ih => rw [List.foldl_cons, ih, Hbm.byte_touch]

@[simp] theorem Hbm.dirty_poke (h : Hbm) (a : Nat) (l : List Byte) : (h.poke a l).dirty = h.dirty := by
  induction l generalizing h a with
  | nil => rfl
  | cons b l ih => unfold Hbm.poke; rw [ih]

theorem Hbm.mem_poke (h : Hbm) (a : Nat) (l : List Byte) : (h.poke a l).mem = Memory.write h.mem a l := by
  induction l generalizing h a with
  | nil => rfl
  | cons b l ih => unfold Hbm.poke Memory.write; rw [ih]

/-- A byte outside a write reads as before. -/
theorem Hbm.byte_write_outside (h : Hbm) (a : Nat) (l : List Byte) (x : Nat) (hx : x < a ∨ a + l.length ≤ x) :
    (h.write a l).byte x = h.byte x := by
  rw [← Hbm.byte_touches (blocksOf pageBytes a l.length) h x]
  unfold Hbm.write Hbm.byte
  dsimp only
  rw [Hbm.dirty_poke, Hbm.mem_poke, Memory.val_write_outside _ _ _ _ hx]

theorem Hbm.wf_touch (h : Hbm) (page : Nat) (hw : Memory.wf h.mem = true) : Memory.wf (h.touch page).mem = true := by
  unfold Hbm.touch
  split
  · exact hw
  · exact Memory.wf_filter _ _ hw

/-- A write keeps the canonical form. -/
theorem Hbm.wf_write (h : Hbm) (a : Nat) (l : List Byte) (hw : Memory.wf h.mem = true) :
    Memory.wf (h.write a l).mem = true := by
  unfold Hbm.write
  dsimp only
  rw [Hbm.mem_poke]
  refine Memory.wf_write _ _ _ ?_
  generalize blocksOf pageBytes a l.length = ps
  induction ps generalizing h with
  | nil => exact hw
  | cons p ps ih => exact ih _ (Hbm.wf_touch h p hw)

theorem Hbm.wf_writePieces (h : Hbm) (q : List (Nat × Nat)) (l : List Byte) (hw : Memory.wf h.mem = true) :
    Memory.wf (h.writePieces q l).mem = true := by
  induction q generalizing h l with
  | nil => exact hw
  | cons p q ih => exact ih _ _ (Hbm.wf_write _ _ _ hw)

theorem Hbm.byte_writePieces_outside (h : Hbm) (q : List (Nat × Nat)) (l : List Byte) (x : Nat)
    (hx : ∀ p ∈ q, x < p.1 ∨ p.1 + p.2 ≤ x) : (h.writePieces q l).byte x = h.byte x := by
  induction q generalizing h l with
  | nil => rfl
  | cons p q ih =>
    unfold Hbm.writePieces
    rw [ih _ _ (fun y hy => hx y (List.mem_cons_of_mem _ hy))]
    refine Hbm.byte_write_outside _ _ _ _ ?_
    have := hx p List.mem_cons_self
    rw [List.length_take]; omega

/-! ### The memory of a plot -/

/-- The device addresses of a plot-relative range are those of its pieces. -/
theorem State.pieces_cover (s : State) (p a n x : Nat) (q : Nat × Nat) (hq : q ∈ s.pieces p a n)
    (hx : q.1 ≤ x ∧ x < q.1 + q.2) : ∃ y, a ≤ y ∧ y < a + n ∧ s.plotToHbm p y = some x := by
  unfold State.pieces at hq
  rw [List.mem_filterMap] at hq
  obtain ⟨g, hg, hq⟩ := hq
  dsimp only at hq
  rw [Option.map_eq_some_iff] at hq
  obtain ⟨d, hd, rfl⟩ := hq
  dsimp only at hx
  refine ⟨max a (g * extentBytes) + (x - d), by omega, by omega, ?_⟩
  unfold State.plotToHbm at hd ⊢
  rw [Option.map_eq_some_iff] at hd
  obtain ⟨b, hb, rfl⟩ := hd
  have hn : a < (g + 1) * extentBytes ∧ g * extentBytes < a + n := by
    unfold blocksOf at hg
    split at hg
    · simp at hg
    · rw [List.mem_map] at hg
      obtain ⟨k, hk, rfl⟩ := hg
      rw [List.mem_range] at hk
      have h1 := Nat.div_add_mod a extentBytes
      have h2 := Nat.mod_lt a (show 0 < extentBytes by decide)
      have h3 := Nat.div_add_mod (a + n - 1) extentBytes
      have hk2 : k + a / extentBytes ≤ (a + n - 1) / extentBytes := by omega
      have h4 := Nat.mul_le_mul_right extentBytes hk2
      have h5 : (k + a / extentBytes) * extentBytes = k * extentBytes + extentBytes * (a / extentBytes) := by
        rw [Nat.add_mul, Nat.mul_comm (a / extentBytes)]
      have h6 := Nat.mul_comm ((a + n - 1) / extentBytes) extentBytes
      rw [Nat.add_mul]
      constructor <;> omega
  have hm : ∀ z, g * extentBytes ≤ z → z < (g + 1) * extentBytes → z / extentBytes = g ∧ z % extentBytes = z - g * extentBytes := by
    intro z h1 h2
    have h3 : z / extentBytes = g := Nat.div_eq_of_lt_le h1 h2
    refine ⟨h3, ?_⟩
    have := Nat.div_add_mod z extentBytes
    rw [h3, Nat.mul_comm] at this
    omega
  have hlo := hm (max a (g * extentBytes)) (by omega) (by rw [Nat.add_mul] at *; simp only [extentBytes] at *; omega)
  rw [hlo.1] at hb
  rw [hlo.2] at hx ⊢
  have hy := hm (max a (g * extentBytes) + (x - (b + (max a (g * extentBytes) - g * extentBytes))))
    (by omega) (by omega)
  rw [hy.1, hy.2, hb]
  simp only [Option.map_some, Option.some.injEq]
  omega

/-- A write to the memory of a plot changes no byte outside its plot-relative range. -/
theorem State.writePlot_outside (s t : State) (p r a : Nat) (l : List Byte) (h : s.writePlot p r a l = .ok t) (x : Nat)
    (hx : ∀ y, a ≤ y → y < a + l.length → s.plotToHbm p y ≠ some x) : t.hbm.byte x = s.hbm.byte x := by
  unfold State.writePlot at h
  dsimp only at h
  split at h
  · cases h
  · injection h with h
    subst h
    simp only [State.moved_frame]
    refine Hbm.byte_writePieces_outside _ _ _ _ (fun q hq => ?_)
    rcases Nat.lt_or_ge x q.1 with h1 | h1
    · exact .inl h1
    · rcases Nat.lt_or_ge x (q.1 + q.2) with h2 | h2
      · obtain ⟨y, h3, h4, h5⟩ := State.pieces_cover s p a l.length x q hq ⟨h1, h2⟩
        exact absurd h5 (hx y h3 h4)
      · exact .inr h2

/-- A write to the memory of a plot keeps the canonical form, and leaves host memory and the stash alone. -/
theorem State.writePlot_keeps (s t : State) (p r a : Nat) (l : List Byte) (h : s.writePlot p r a l = .ok t) :
    (Memory.wf s.hbm.mem = true → Memory.wf t.hbm.mem = true) ∧ t.host = s.host ∧ t.stash = s.stash := by
  unfold State.writePlot at h
  dsimp only at h
  split at h
  · cases h
  · injection h with h
    subst h
    simp only [State.moved_frame, and_true]
    exact Hbm.wf_writePieces _ _ _


/-! ### When an access succeeds -/

/-- What stops an access at a device address: its stack is fenced out, its page is retired, or, for a read, its unit
is poisoned. -/
def State.badAt (s : State) (reading : Bool) (x : Nat) : Prop :=
  s.fenced (x / stackBytes) = true ∨ (∃ g ∈ s.hbm.retired, g * pageBytes ≤ x ∧ x < g * pageBytes + pageBytes)
  ∨ (reading = true ∧ ∃ u ∈ s.hbm.poison, u * unitBytes ≤ x ∧ x < u * unitBytes + unitBytes
      ∧ u * unitBytes / pageBytes ∈ s.hbm.dirty)

/-- A plot-relative address of a range lies in one of its pieces, and a piece lies in one stack. -/
theorem State.pieces_complete (s : State) (p a n y x : Nat) (hy : a ≤ y ∧ y < a + n) (hx : s.plotToHbm p y = some x) :
    ∃ q ∈ s.pieces p a n, q.1 ≤ x ∧ x < q.1 + q.2 := by
  have hm : ∀ z, z / extentBytes * extentBytes + z % extentBytes = z := fun z => by
    rw [Nat.mul_comm]; exact Nat.div_add_mod z extentBytes
  have hlt : ∀ z, z % extentBytes < extentBytes := fun z => Nat.mod_lt z (by decide)
  unfold State.plotToHbm at hx
  rw [Option.map_eq_some_iff] at hx
  obtain ⟨b, hb, rfl⟩ := hx
  have h1 := hm y
  have h2 := hlt y
  have hg : (y / extentBytes) ∈ blocksOf extentBytes a n := by
    unfold blocksOf
    rw [if_neg (by omega)]
    rw [List.mem_map]
    have h3 : a / extentBytes ≤ y / extentBytes := Nat.div_le_div_right hy.1
    have h4 : y / extentBytes ≤ (a + n - 1) / extentBytes := Nat.div_le_div_right (by omega)
    exact ⟨y / extentBytes - a / extentBytes, by rw [List.mem_range]; omega, by omega⟩
  have hlo : max a (y / extentBytes * extentBytes) / extentBytes = y / extentBytes :=
    Nat.div_eq_of_lt_le (by omega) (by rw [Nat.add_mul]; omega)
  have hlm := hm (max a (y / extentBytes * extentBytes))
  rw [hlo] at hlm
  refine ⟨(b + max a (y / extentBytes * extentBytes) % extentBytes,
    min (a + n) ((y / extentBytes + 1) * extentBytes) - max a (y / extentBytes * extentBytes)), ?_, ?_, ?_⟩
  · unfold State.pieces
    rw [List.mem_filterMap]
    refine ⟨y / extentBytes, hg, ?_⟩
    dsimp only
    unfold State.plotToHbm
    rw [hlo, hb]
    rfl
  · dsimp only; omega
  · dsimp only; rw [Nat.add_mul]; omega

theorem State.pieces_stack (s : State) (p a n x : Nat) (q : Nat × Nat) (hq : q ∈ s.pieces p a n)
    (hx : q.1 ≤ x ∧ x < q.1 + q.2) : x / stackBytes = q.1 / stackBytes ∧ 0 < q.2 := by
  unfold State.pieces at hq
  rw [List.mem_filterMap] at hq
  obtain ⟨g, _, hq⟩ := hq
  dsimp only at hq
  rw [Option.map_eq_some_iff] at hq
  obtain ⟨d, hd, rfl⟩ := hq
  dsimp only at hx ⊢
  refine ⟨?_, by omega⟩
  unfold State.plotToHbm at hd
  rw [Option.map_eq_some_iff] at hd
  obtain ⟨b, hb, rfl⟩ := hd
  have hmem := List.mem_of_getElem? hb
  unfold State.hbmSpace at hmem
  rw [List.mem_flatMap] at hmem
  obtain ⟨m, _, hmem⟩ := hmem
  rw [List.mem_map] at hmem
  obtain ⟨e, he, rfl⟩ := hmem
  unfold State.extsIn at he
  simp only [List.mem_filter, List.mem_range] at he
  have h1 : max a (g * extentBytes) % extentBytes < extentBytes := Nat.mod_lt _ (by decide)
  have h2 := Nat.div_add_mod (max a (g * extentBytes)) extentBytes
  have h3 : (max a (g * extentBytes)) / extentBytes * extentBytes ≥ g * extentBytes :=
    Nat.mul_le_mul_right _ ((Nat.le_div_iff_mul_le (by decide)).mpr (by omega))
  have h4 : x < m * stackBytes + e * extentBytes + extentBytes := by
    rw [Nat.mul_comm extentBytes] at h2
    rw [Nat.add_mul] at hx
    omega
  have h5 : e * extentBytes + extentBytes ≤ stackBytes := by
    simp only [extentBytes, stackBytes]; omega
  have hz : ∀ z, m * stackBytes ≤ z → z < m * stackBytes + stackBytes → z / stackBytes = m := fun z h1 h2 =>
    Nat.div_eq_of_lt_le h1 (by rw [Nat.add_mul]; omega)
  rw [hz x (by omega) (by omega), hz _ (by omega) (by omega)]

/-- An access succeeds when none of its addresses is bad. -/
theorem State.accessFail_iff (s : State) (reading : Bool) (p a n : Nat) :
    s.accessFail reading (s.pieces p a n) = none
      ↔ ∀ y x, a ≤ y → y < a + n → s.plotToHbm p y = some x → ¬ s.badAt reading x := by
  unfold State.accessFail
  constructor
  · intro h y x hy1 hy2 hx hb
    obtain ⟨q, hq, hqx⟩ := State.pieces_complete s p a n y x ⟨hy1, hy2⟩ hx
    have hst := State.pieces_stack s p a n x q hq hqx
    split at h
    · simp at h
    · rename_i h0
      rw [List.any_eq_true] at h0
      rcases hb with hb | ⟨g, hg, hb⟩ | ⟨hr, u, hu, hb⟩
      · exact h0 ⟨q, hq, by rw [← hst.1, hb]; rfl⟩
      · refine h0 ⟨q, hq, ?_⟩
        rw [Bool.or_eq_true]; right
        unfold Hbm.retiredIn
        rw [List.any_eq_true]
        exact ⟨g, hg, by simp only [decide_eq_true_eq]; omega⟩
      · rw [if_pos hr] at h
        split at h
        · cases h
        · rename_i hn
          rw [List.find?_eq_none] at hn
          refine hn q hq ?_
          unfold Hbm.poisoned
          rw [List.any_eq_true]
          exact ⟨u, hu, by simp only [decide_eq_true_eq]; exact ⟨by omega, by omega, hb.2.2⟩⟩
  · intro h
    have hbad : ∀ q ∈ s.pieces p a n, ∀ x, q.1 ≤ x → x < q.1 + q.2 → ¬ s.badAt reading x := by
      intro q hq x h1 h2
      obtain ⟨y, h3, h4, h5⟩ := State.pieces_cover s p a n x q hq ⟨h1, h2⟩
      exact h y x h3 h4 h5
    have hpos : ∀ q ∈ s.pieces p a n, 0 < q.2 := by
      intro q hq
      unfold State.pieces at hq
      rw [List.mem_filterMap] at hq
      obtain ⟨g, hg, hq⟩ := hq
      dsimp only at hq
      rw [Option.map_eq_some_iff] at hq
      obtain ⟨d, hd, rfl⟩ := hq
      dsimp only
      unfold blocksOf at hg
      split at hg
      · simp at hg
      · rw [List.mem_map] at hg
        obtain ⟨k, hk, rfl⟩ := hg
        rw [List.mem_range] at hk
        have h1 := Nat.div_add_mod a extentBytes
        have h2 := Nat.mod_lt a (show 0 < extentBytes by decide)
        have h3 := Nat.div_add_mod (a + n - 1) extentBytes
        have hk2 : k + a / extentBytes ≤ (a + n - 1) / extentBytes := by omega
        have h4 := Nat.mul_le_mul_right extentBytes hk2
        have h5 : (k + a / extentBytes) * extentBytes = k * extentBytes + extentBytes * (a / extentBytes) := by
          rw [Nat.add_mul, Nat.mul_comm (a / extentBytes)]
        have h6 := Nat.mul_comm ((a + n - 1) / extentBytes) extentBytes
        rw [Nat.add_mul]
        have h7 : 0 < extentBytes := by decide
        omega
    rw [if_neg]
    · split
      · rename_i hr
        split
        · rename_i q hf
          have hq := List.mem_of_find?_eq_some hf
          have hp := List.find?_some hf
          unfold Hbm.poisoned at hp
          rw [List.any_eq_true] at hp
          obtain ⟨u, hu, hp⟩ := hp
          simp only [decide_eq_true_eq] at hp
          have h0 := hpos q hq
          exact absurd (Or.inr (Or.inr ⟨hr, u, hu, by simp only [unitBytes] at *; omega, by simp only [unitBytes] at *; omega, hp.2.2⟩))
            (hbad q hq (max q.1 (u * unitBytes)) (by omega) (by omega))
        · rfl
      · rfl
    · rw [List.any_eq_true]
      rintro ⟨q, hq, hf⟩
      have h0 := hpos q hq
      rw [Bool.or_eq_true] at hf
      rcases hf with hf | hf
      · exact hbad q hq q.1 (by omega) (by omega) (Or.inl hf)
      · unfold Hbm.retiredIn at hf
        rw [List.any_eq_true] at hf
        obtain ⟨g, hg, hf⟩ := hf
        simp only [decide_eq_true_eq] at hf
        exact hbad q hq (max q.1 (g * pageBytes)) (by omega) (by omega)
          (Or.inr (Or.inl ⟨g, hg, by simp only [pageBytes] at *; omega, by simp only [pageBytes] at *; omega⟩))

theorem Hbm.retired_write (h : Hbm) (a : Nat) (l : List Byte) : (h.write a l).retired = h.retired := by
  have h1 : ∀ (ps : List Nat) (h : Hbm), (ps.foldl Hbm.touch h).retired = h.retired := by
    intro ps
    induction ps with
    | nil => intro h; rfl
    | cons p ps ih => intro h; rw [List.foldl_cons, ih]; unfold Hbm.touch; split <;> rfl
  have h2 : ∀ (l : List Byte) (a : Nat) (h : Hbm), (Hbm.poke h a l).retired = h.retired := by
    intro l
    induction l with
    | nil => intro a h; rfl
    | cons b l ih => intro a h; unfold Hbm.poke; rw [ih]
  unfold Hbm.write
  dsimp only
  rw [h2, h1]

/-- Poison that can be read. -/
def Hbm.live (h : Hbm) (u : Nat) : Prop := u ∈ h.poison ∧ u * unitBytes / pageBytes ∈ h.dirty

theorem Hbm.live_write (h : Hbm) (a : Nat) (l : List Byte) (u : Nat) (hu : (h.write a l).live u) : h.live u := by
  have h1 : ∀ (ps : List Nat) (h : Hbm), (ps.foldl Hbm.touch h).live u → h.live u := by
    intro ps
    induction ps with
    | nil => intro h hu; exact hu
    | cons p ps ih =>
      intro h hu
      rw [List.foldl_cons] at hu
      have hl := ih _ hu
      unfold Hbm.touch at hl
      split at hl
      · exact hl
      · unfold Hbm.live at hl ⊢
        simp only [List.mem_filter, decide_eq_true_eq, mem_addAsc] at hl
        exact ⟨hl.1.1, hl.2.resolve_left hl.1.2⟩
  have h2 : ∀ (l : List Byte) (a : Nat) (h : Hbm), (Hbm.poke h a l).poison = h.poison := by
    intro l
    induction l with
    | nil => intro a h; rfl
    | cons b l ih => intro a h; unfold Hbm.poke; rw [ih]
  refine h1 (blocksOf pageBytes a l.length) h ?_
  unfold Hbm.live Hbm.write at *
  dsimp only at hu
  rw [Hbm.dirty_poke, h2] at hu
  exact ⟨(List.mem_filter.mp hu.1).1, hu.2⟩

/-- A write makes no address bad. -/
theorem State.badAt_writePlot {s t : State} {p r a : Nat} {l : List Byte} (h : s.writePlot p r a l = .ok t) (b : Bool)
    (x : Nat) (hx : t.badAt b x) : s.badAt b x := by
  unfold State.writePlot at h
  dsimp only at h
  split at h
  · cases h
  · injection h with h
    subst h
    unfold State.badAt State.fenced at *
    simp only [State.moved_frame] at hx
    have hr : ∀ (q : List (Nat × Nat)) (l : List Byte) (h : Hbm), (h.writePieces q l).retired = h.retired := by
      intro q
      induction q with
      | nil => intro l h; rfl
      | cons p q ih => intro l h; unfold Hbm.writePieces; rw [ih, Hbm.retired_write]
    have hl : ∀ u (q : List (Nat × Nat)) (l : List Byte) (h : Hbm), (h.writePieces q l).live u → h.live u := by
      intro u q
      induction q with
      | nil => intro l h hu; exact hu
      | cons p q ih => intro l h hu; exact Hbm.live_write _ _ _ _ (ih _ _ hu)
    rw [hr] at hx
    refine hx.imp id (Or.imp id ?_)
    rintro ⟨h1, u, h2, h3, h4, h5⟩
    have := hl u _ _ _ ⟨h2, h5⟩
    exact ⟨h1, u, this.1, h3, h4, this.2⟩

/-- Device and host memory are in their canonical form after reset: nothing is listed. -/
theorem State.reset_memory_wf : Memory.wf State.reset.hbm.mem = true ∧ Memory.wf State.reset.host = true := by
  decide

/-! ### Writes of many elements -/

/-- Counting the events of moved bytes changes performance counters alone. -/
theorem State.rd_perf_low (s : State) (gd ev n : Nat) (f : Fld) (h : f.key < 0x800410 * 32) :
    (s.perf gd ev n).rd f = s.rd f := by
  have one (s : State) (sel : Nat → Fld) (k : Nat) :
      (if s.rd (sel gd) = ev then s.countWrap (CNT_GD_PERF.COUNT gd k) n else s).rd f = s.rd f := by
    split
    · refine State.rd_countWrap_other s n ?_
      simp only [CNT_GD_PERF.COUNT]; omega
    · rfl
  unfold State.perf
  dsimp only
  rw [one, one, one, one]

theorem State.rd_charge (s : State) (p r d n : Nat) (f : Fld) : (s.charge p r d n).rd f = s.rd f := rfl

theorem State.rd_moved_low (s : State) (p r : Nat) (b : Bool) (l : List (Nat × Nat)) (f : Fld)
    (h : f.key < 0x800410 * 32) : (s.moved p r b l).rd f = s.rd f := by
  unfold State.moved
  induction l generalizing s with
  | nil => rfl
  | cons q l ih =>
    rw [List.foldl_cons, ih]
    dsimp only
    split <;> simp only [State.rd_perf_low _ _ _ _ _ h, State.rd_charge]

/-- The lease of a plot is what its registers say. -/
theorem State.plotToHbm_of_rd {s t : State} (p : Nat)
    (h : ∀ f, f.key < 32 * 0x80200 + 0x4000 * p → t.rd f = s.rd f) (a : Nat) :
    t.plotToHbm p a = s.plotToHbm p a := by
  have h0 : ∀ n, n < 16 → t.rd (PLOT_HBM_0.EXT_0 p n) = s.rd (PLOT_HBM_0.EXT_0 p n) := fun n hn =>
    h _ (by simp only [PLOT_HBM_0.EXT_0]; omega)
  have h1 : ∀ n, n < 16 → t.rd (PLOT_HBM_1.EXT_1 p n) = s.rd (PLOT_HBM_1.EXT_1 p n) := fun n hn =>
    h _ (by simp only [PLOT_HBM_1.EXT_1]; omega)
  have h2 : ∀ n, n < 16 → t.rd (PLOT_HBM_2.EXT_2 p n) = s.rd (PLOT_HBM_2.EXT_2 p n) := fun n hn =>
    h _ (by simp only [PLOT_HBM_2.EXT_2]; omega)
  have he : ∀ n, n < 16 → t.extsIn p n = s.extsIn p n := by
    intro n hn; unfold State.extsIn
    congr 1; funext e
    simp only [State.leasesExt, State.rdBit, h0 n hn, h1 n hn, h2 n hn]
  have hs : t.stacksOf p = s.stacksOf p := by
    unfold State.stacksOf
    refine List.filter_congr (fun n hn => ?_)
    rw [List.mem_range] at hn
    rw [h0 n hn, h1 n hn, h2 n hn]
  have hl : t.hbmSpace p = s.hbmSpace p := by
    unfold State.hbmSpace
    rw [hs]
    have hm : ∀ n ∈ s.stacksOf p, n < 16 := by
      intro n hn; unfold State.stacksOf at hn; simp only [List.mem_filter, List.mem_range] at hn; exact hn.1
    generalize s.stacksOf p = l at hm
    induction l with
    | nil => rfl
    | cons n l ih =>
      rw [List.flatMap_cons, List.flatMap_cons, he n (hm n List.mem_cons_self),
        ih (fun m hm' => hm m (List.mem_cons_of_mem _ hm'))]
  unfold State.plotToHbm
  rw [hl]

/-- Same lease, same host memory and stash; every device byte whose plot-relative address the
predicate `w` does not allow is as before; the canonical form is kept. -/
def PlotWrites (s t : State) (p : Nat) (w : Nat → Prop) : Prop :=
  (∀ a, t.plotToHbm p a = s.plotToHbm p a) ∧ t.host = s.host ∧ t.stash = s.stash
  ∧ (Memory.wf s.hbm.mem = true → Memory.wf t.hbm.mem = true)
  ∧ (∀ b x, t.badAt b x → s.badAt b x)
  ∧ ∀ x, (∀ y, w y → s.plotToHbm p y ≠ some x) → t.hbm.byte x = s.hbm.byte x

theorem PlotWrites.refl (s : State) (p : Nat) (w : Nat → Prop) : PlotWrites s s p w :=
  ⟨fun _ => rfl, rfl, rfl, id, fun _ _ => id, fun _ _ => rfl⟩

theorem PlotWrites.trans {s t u : State} {p : Nat} {w : Nat → Prop} (h1 : PlotWrites s t p w)
    (h2 : PlotWrites t u p w) : PlotWrites s u p w := by
  refine ⟨fun a => (h2.1 a).trans (h1.1 a), h2.2.1.trans h1.2.1, h2.2.2.1.trans h1.2.2.1,
    fun h => h2.2.2.2.1 (h1.2.2.2.1 h), fun b x h => h1.2.2.2.2.1 b x (h2.2.2.2.2.1 b x h), fun x hx => ?_⟩
  rw [h2.2.2.2.2.2 x (fun y hy => by rw [h1.1 y]; exact hx y hy), h1.2.2.2.2.2 x hx]

theorem PlotWrites.weaken {s t : State} {p : Nat} {w v : Nat → Prop} (h : PlotWrites s t p w)
    (hv : ∀ y, w y → v y) : PlotWrites s t p v :=
  ⟨h.1, h.2.1, h.2.2.1, h.2.2.2.1, h.2.2.2.2.1, fun x hx => h.2.2.2.2.2 x (fun y hy => hx y (hv y hy))⟩

/-- A change that leaves memory and every field below the performance counters alone writes nothing. -/
theorem PlotWrites.of {s t : State} (p : Nat) (w : Nat → Prop) (h1 : t.hbm = s.hbm) (h2 : t.host = s.host)
    (h3 : t.stash = s.stash) (h4 : t.regs = s.regs) (h5 : t.pkg = s.pkg) : PlotWrites s t p w := by
  refine ⟨fun a => State.plotToHbm_of_rd p (fun f _ => State.rd_of_regs h4 f) a, h2, h3, fun h => by rw [h1]; exact h,
    fun b x h => by unfold State.badAt State.fenced at *; rw [h1, h5] at h; exact h, fun x _ => by rw [h1]⟩

theorem State.writePlot_writes {s t : State} {p r a : Nat} {l : List Byte} (hp : p < 64) (h : s.writePlot p r a l = .ok t) :
    PlotWrites s t p (fun y => a ≤ y ∧ y < a + l.length) := by
  have hk := State.writePlot_keeps s t p r a l h
  refine ⟨fun b => ?_, hk.2.1, hk.2.2, hk.1, State.badAt_writePlot h, fun x hx => State.writePlot_outside s t p r a l h x (fun y h1 h2 => hx y ⟨h1, h2⟩)⟩
  unfold State.writePlot at h
  dsimp only at h
  split at h
  · cases h
  · injection h with h
    subst h
    exact State.plotToHbm_of_rd p (fun f hf => State.rd_moved_low _ _ _ _ _ _ (by omega)) b

theorem PlotWrites.foldlM {α β : Type} (st : α → State) (f : α → β → Except Fail α) (p : Nat) (w : Nat → Prop)
    (l : List β) (h : ∀ a b a', b ∈ l → f a b = .ok a' → PlotWrites (st a) (st a') p w) (a a' : α)
    (hf : l.foldlM f a = .ok a') : PlotWrites (st a) (st a') p w := by
  induction l generalizing a with
  | nil => cases hf; exact PlotWrites.refl _ _ _
  | cons b l ih =>
    rw [List.foldlM_cons] at hf
    cases hb : f a b with
    | error e => rw [hb] at hf; cases hf
    | ok a1 =>
      rw [hb] at hf
      exact (h a b a1 List.mem_cons_self hb).trans (ih (fun a b a' hm => h a b a' (List.mem_cons_of_mem _ hm)) a1 hf)

/-- The addresses that a list of writes covers. -/
def Covers (l : List (Nat × List Byte)) (y : Nat) : Prop := ∃ q ∈ l, q.1 ≤ y ∧ y < q.1 + q.2.length

theorem abut_covers (l : List (Nat × List Byte)) (y : Nat) : Covers (abut l) y ↔ Covers l y := by
  induction l with
  | nil => exact Iff.rfl
  | cons q l ih =>
    have hc : Covers (q :: l) y ↔ (q.1 ≤ y ∧ y < q.1 + q.2.length) ∨ Covers l y := by simp [Covers]
    rw [hc, ← ih]
    rw [abut]
    generalize abut l = m
    split
    · simp [Covers]
    · rename_i n rest
      split
      · rename_i he
        simp only [Covers, List.mem_cons, exists_eq_or_imp, List.length_append]
        constructor
        · rintro (⟨h1, h2⟩ | h)
          · by_cases hy : y < q.1 + q.2.length
            · exact .inl ⟨h1, hy⟩
            · exact .inr (.inl ⟨by omega, by omega⟩)
          · exact .inr (.inr h)
        · rintro (⟨h1, h2⟩ | ⟨h1, h2⟩ | h)
          · exact .inl ⟨h1, by omega⟩
          · exact .inl ⟨by omega, by omega⟩
          · exact .inr h
      · simp [Covers]

/-- Writes at several addresses touch no byte that none of them covers. -/
theorem State.writeRuns_writes {s t : State} {p r : Nat} {l : List (Nat × List Byte)} (hp : p < 64)
    (h : s.writeRuns p r l = .ok t) : PlotWrites s t p (Covers l) := by
  refine PlotWrites.foldlM id _ p _ (abut l) (fun a b a' hb hf => ?_) s t h
  exact (State.writePlot_writes hp hf).weaken (fun y hy => (abut_covers l y).mp ⟨b, hb, hy⟩)

theorem State.storeWords_writes {s t : State} {p r : Nat} {q : Tensor} {l : List (Nat × Word)} (hp : p < 64)
    (h : s.storeWords p r q l = .ok t) :
    PlotWrites s t p (fun y => ∃ x ∈ l, q.addr + 4 * x.1 ≤ y ∧ y < q.addr + 4 * x.1 + 4) := by
  refine (State.writeRuns_writes hp h).weaken (fun y hy => ?_)
  obtain ⟨z, hz, h1, h2⟩ := hy
  obtain ⟨x, hx, rfl⟩ := List.mem_map.mp hz
  exact ⟨x, hx, h1, by simpa [leBytes] using h2⟩

theorem leBytes_length (n v : Nat) : (leBytes n v).length = n := by
  induction n generalizing v with
  | zero => rfl
  | succ n ih => simp [leBytes, ih]

theorem blockBytes_length (w : Nat) (b : Block) : (blockBytes w b).length = 1 + 4 * w := by
  simp [blockBytes, leBytes_length]; omega

/-- A burst is 256 bytes (R69). -/
theorem burstBytes_length (gen : Nat) (f : BurstFlags) (w : Nat) (bs : List Block) (h : bs.length ≤ blocksPerBurst w) :
    (burstBytes gen f w bs).length = 256 := by
  have hm : (bs.map (blockBytes w)).flatten.length = bs.length * (1 + 4 * w) := by
    induction bs with
    | nil => simp
    | cons b bs ih =>
      simp only [List.map_cons, List.flatten_cons, List.length_append, blockBytes_length, List.length_cons, Nat.add_mul]
      rw [ih (by simp only [List.length_cons] at h; omega)]; omega
  have h2 : bs.length * (1 + 4 * w) ≤ 252 :=
    Nat.le_trans (Nat.mul_le_mul_right _ h) (Nat.div_mul_le_self 252 (1 + 4 * w))
  unfold burstBytes
  simp only [List.length_append, List.length_replicate, leBytes_length, hm]
  omega

theorem Tensor.writeBurst_length (t : Tensor) (m : WriteMode) (new : Nat → Option Val) (j : Nat) (old : List Byte)
    (_ : 1 ≤ t.fmt ∧ t.fmt ≤ 8) : (t.writeBurst m new j old).1.length = 256 := by
  unfold Tensor.writeBurst
  dsimp only
  refine burstBytes_length _ _ _ _ ?_
  simp only [List.length_map, List.length_range, Tensor.burstCount]
  omega

/-- What an element write covers lies in the bytes that the tensor occupies. -/
theorem Tensor.elemWrites_in (t : Tensor) (m : WriteMode) (idx : List Nat) (v : Nat → Val) (hn : isNarrow t.fmt = false)
    (hi : ∀ i ∈ idx, i < t.count) (z : Nat × List Byte) (hz : z ∈ t.elemWrites m idx v) :
    t.addr ≤ z.1 ∧ z.1 + z.2.length ≤ t.addr + t.bytes := by
  have main : ∀ i ∈ idx, elemBytes t.fmt * i + elemBytes t.fmt ≤ t.bytes := fun i hx => by
    have hm := Nat.mul_le_mul_left (elemBytes t.fmt) (show i + 1 ≤ t.count from hi i hx)
    rw [Nat.mul_add] at hm
    by_cases hd : t.fmt = 0xD
    · have he : elemBytes t.fmt = 2 := by rw [hd]; rfl
      have hb : t.bytes = t.residueOff + t.count := by simp [Tensor.bytes, hd, isNarrow]
      have hro : 2 * t.count ≤ t.residueOff := by unfold Tensor.residueOff roundUp ceilDiv; omega
      rw [he] at hm ⊢; omega
    · have hb : t.bytes = elemBytes t.fmt * t.count := by simp only [Tensor.bytes, hn, hd, if_false, Bool.false_eq_true]
      omega
  unfold Tensor.elemWrites at hz
  rcases List.mem_append.mp hz with h | h
  · obtain ⟨i, hx, rfl⟩ := List.mem_map.mp h
    have := main i hx
    simp only [leBytes_length]
    omega
  · split at h
    · rename_i hd
      obtain ⟨i, hx, rfl⟩ := List.mem_map.mp h
      have hb : t.bytes = t.residueOff + t.count := by simp [Tensor.bytes, hd, isNarrow]
      have := hi i hx
      simp only [leBytes_length]
      omega
    · cases h

/-- A store writes no byte outside the bytes that the tensor occupies. -/
theorem State.store_writes {s t : State} {p r h : Nat} {m : WriteMode} {new : Nat → Option Val} {w : Wrote}
    (hp : p < 64) (hs : s.store p r h m new = .ok (t, w)) :
    PlotWrites s t p (fun y => (Tab.val (s.plot p).handles h).addr ≤ y
      ∧ y < (Tab.val (s.plot p).handles h).addr + (Tab.val (s.plot p).handles h).bytes) := by
  unfold State.store at hs
  dsimp only at hs
  generalize htq : Tab.val (s.plot p).handles h = q at *
  split at hs
  · rename_i hn
    cases hf : List.foldlM (fun (acc : State × Wrote) j => do
        let old ← acc.1.oldBurst p q new j
        let s' ← acc.1.writePlot p r (q.addr + 256 * j) (q.writeBurst m new j old).1
        pure (s', acc.2.add (q.writeBurst m new j old).2)) (s, ({} : Wrote))
          ((List.range q.bursts).filter (fun j => (q.burstElems j).any (fun n => (new n).isSome))) with
    | error e => rw [hf] at hs; cases hs
    | ok a =>
      rw [hf] at hs
      injection hs with hs
      injection hs with hs _
      refine PlotWrites.trans (t := a.1) ?_ ?_
      · refine PlotWrites.foldlM (fun a : State × Wrote => a.1) _ p _ _ (fun c j c' hb hw => ?_) (s, {}) a hf
        simp only [List.mem_filter, List.mem_range] at hb
        cases hr : c.1.oldBurst p q new j with
        | error e => rw [hr] at hw; cases hw
        | ok old =>
          rw [hr] at hw
          cases hv : c.1.writePlot p r (q.addr + 256 * j) (q.writeBurst m new j old).1 with
          | error e => simp only [bind, Except.bind, hv] at hw; cases hw
          | ok u =>
            simp only [bind, Except.bind, hv] at hw
            injection hw with hw
            subst hw
            refine (State.writePlot_writes hp hv).weaken (fun y hy => ?_)
            have hl : (q.writeBurst m new j old).1.length = 256 := Tensor.writeBurst_length _ _ _ _ _ (by simpa [isNarrow] using hn)
            rw [hl] at hy
            simp only [Tensor.bytes, hn, if_true]
            omega
      · subst hs
        exact PlotWrites.of p _ rfl rfl rfl rfl rfl
  · rename_i hn
    cases hf : s.writeRuns p r (q.elemWrites m ((List.range q.count).filter (fun i => (new i).isSome))
        (fun i => (new i).getD .zero)) with
    | error e => rw [hf] at hs; cases hs
    | ok a =>
      rw [hf] at hs
      injection hs with hs
      injection hs with hs _
      refine PlotWrites.trans (t := a) ?_ ?_
      · refine (State.writeRuns_writes hp hf).weaken (fun y hy => ?_)
        obtain ⟨z, hz, h1, h2⟩ := hy
        have := Tensor.elemWrites_in q m _ _ (by simpa using hn) (fun x hx => (by simpa using (List.mem_filter.mp hx).1)) z hz
        omega
      · subst hs
        split
        · exact PlotWrites.of p _ rfl rfl rfl rfl rfl
        · exact PlotWrites.refl _ _ _

/-! ### Stores that succeed -/

/-- No address of a plot-relative range is bad. -/
def State.rangeOk (s : State) (b : Bool) (p a n : Nat) : Prop :=
  ∀ y x, a ≤ y → y < a + n → s.plotToHbm p y = some x → ¬ s.badAt b x

theorem State.rangeOk_sub {s : State} {b : Bool} {p a n a' n' : Nat} (h : s.rangeOk b p a n) (h1 : a ≤ a')
    (h2 : a' + n' ≤ a + n) : s.rangeOk b p a' n' := fun y x h3 h4 h5 => h y x (by omega) (by omega) h5

theorem State.rangeOk_write {s : State} {p a n : Nat} (h : s.rangeOk true p a n) : s.rangeOk false p a n := by
  intro y x h1 h2 h3 hb
  refine h y x h1 h2 h3 ?_
  rcases hb with hb | hb | hb
  · exact .inl hb
  · exact .inr (.inl hb)
  · exact absurd hb.1 (by decide)

theorem State.rangeOk_keep {s t : State} {b : Bool} {p a n : Nat} {w : Nat → Prop} (hw : PlotWrites s t p w)
    (h : s.rangeOk b p a n) : t.rangeOk b p a n := by
  intro y x h1 h2 h3 hb
  rw [hw.1] at h3
  exact h y x h1 h2 h3 (hw.2.2.2.2.1 b x hb)

theorem State.readPlot_ok {s : State} {p a n : Nat} (h : s.rangeOk true p a n) : ∃ l, s.readPlot p a n = .ok l := by
  have h1 := (State.accessFail_iff s true p a n).mpr h
  unfold State.readPlot
  dsimp only
  rw [h1]
  exact ⟨_, rfl⟩

theorem State.writePlot_ok {s : State} {p r a : Nat} {l : List Byte} (h : s.rangeOk false p a l.length) :
    ∃ t, s.writePlot p r a l = .ok t := by
  have h1 := (State.accessFail_iff s false p a l.length).mpr h
  unfold State.writePlot
  dsimp only
  rw [h1]
  exact ⟨_, rfl⟩

theorem foldlM_ok {α β : Type} (f : α → β → Except Fail α) (inv : α → Prop) (l : List β)
    (h : ∀ a b, b ∈ l → inv a → ∃ a', f a b = .ok a' ∧ inv a') (a : α) (ha : inv a) :
    ∃ a', l.foldlM f a = .ok a' ∧ inv a' := by
  induction l generalizing a with
  | nil => exact ⟨a, rfl, ha⟩
  | cons b l ih =>
    obtain ⟨a1, h1, h2⟩ := h a b List.mem_cons_self ha
    obtain ⟨a2, h3, h4⟩ := ih (fun a b hb => h a b (List.mem_cons_of_mem _ hb)) a1 h2
    refine ⟨a2, ?_, h4⟩
    rw [List.foldlM_cons, h1]
    exact h3

/-- Writes at several addresses of a range none of whose addresses is bad. -/
theorem State.writeRuns_ok {s : State} {p r a n : Nat} {l : List (Nat × List Byte)} (hp : p < 64)
    (h : s.rangeOk true p a n) (hl : ∀ q ∈ l, a ≤ q.1 ∧ q.1 + q.2.length ≤ a + n) : ∃ t, s.writeRuns p r l = .ok t := by
  obtain ⟨t, ht, _⟩ := foldlM_ok (fun (s : State) (q : Nat × List Byte) => s.writePlot p r q.1 q.2)
    (fun s => s.rangeOk true p a n) (abut l) (fun u b hb hu => by
      have hr : u.rangeOk false p b.1 b.2.length := State.rangeOk_write (fun y x h1 h2 h3 => by
        obtain ⟨q, hq, h4, h5⟩ := (abut_covers l y).mp ⟨b, hb, h1, h2⟩
        have := hl q hq
        exact hu y x (by omega) (by omega) h3)
      obtain ⟨v, hv⟩ := State.writePlot_ok (r := r) hr
      exact ⟨v, hv, State.rangeOk_keep (State.writePlot_writes hp hv) hu⟩) s h
  exact ⟨t, ht⟩

/-- Words stored where no address is bad. -/
theorem State.storeWords_ok {s : State} {p r : Nat} {q : Tensor} {l : List (Nat × Word)} {n : Nat} (hp : p < 64)
    (h : s.rangeOk true p q.addr n) (hl : ∀ x ∈ l, 4 * x.1 + 4 ≤ n) : ∃ t, s.storeWords p r q l = .ok t := by
  refine State.writeRuns_ok hp h (fun z hz => ?_)
  obtain ⟨x, hx, rfl⟩ := List.mem_map.mp hz
  have := hl x hx
  simp only [leBytes_length]
  omega

/-- A tensor stored where none of its addresses is bad. -/
theorem State.store_ok {s : State} {p r h : Nat} {m : WriteMode} {new : Nat → Option Val} (hp : p < 64)
    (hr : s.rangeOk true p (Tab.val (s.plot p).handles h).addr (Tab.val (s.plot p).handles h).bytes) :
    ∃ t w, s.store p r h m new = .ok (t, w) := by
  unfold State.store
  dsimp only
  generalize htq : Tab.val (s.plot p).handles h = q at *
  split
  · rename_i hn
    obtain ⟨a, ha, _⟩ := foldlM_ok (fun (acc : State × Wrote) j => do
        let old ← acc.1.oldBurst p q new j
        let s' ← acc.1.writePlot p r (q.addr + 256 * j) (q.writeBurst m new j old).1
        pure (s', acc.2.add (q.writeBurst m new j old).2))
      (fun a => a.1.rangeOk true p q.addr q.bytes)
      ((List.range q.bursts).filter (fun j => (q.burstElems j).any (fun n => (new n).isSome)))
      (fun c j hb hu => by
        simp only [List.mem_filter, List.mem_range] at hb
        have hbytes : q.bytes = 256 * q.bursts := by simp only [Tensor.bytes, hn, if_true]
        have hsub := State.rangeOk_sub (a' := q.addr + 256 * j) (n' := 256) hu (by omega) (by omega)
        obtain ⟨old, ho⟩ : ∃ old, c.1.oldBurst p q new j = .ok old := by
          unfold State.oldBurst
          split
          · exact ⟨[], rfl⟩
          · exact State.readPlot_ok hsub
        have hl : (q.writeBurst m new j old).1.length = 256 := Tensor.writeBurst_length _ _ _ _ _ (by simpa [isNarrow] using hn)
        obtain ⟨v, hv⟩ := State.writePlot_ok (r := r) (s := c.1) (p := p) (a := q.addr + 256 * j)
          (l := (q.writeBurst m new j old).1) (by rw [hl]; exact State.rangeOk_write hsub)
        refine ⟨(v, c.2.add (q.writeBurst m new j old).2), ?_, State.rangeOk_keep (State.writePlot_writes hp hv) hu⟩
        rw [ho]
        simp only [bind, Except.bind, hv]
        rfl) (s, {}) hr
    refine ⟨a.1.modTensor p h (fun t => { t with
      amax := valY32 (.fin false (max a.2.amax (y32Val q.amax).mag))
      flags := t.flags ||| BitVec.ofNat 8 ((if 0 < a.2.nf then 1 else 0) ||| (if 0 < a.2.uf then 2 else 0) ||| (if 0 < a.2.sat then 4 else 0)) }), a.2, ?_⟩
    rw [ha]
    rfl
  · rename_i hn
    obtain ⟨a, ha⟩ := State.writeRuns_ok (r := r) (l := q.elemWrites m ((List.range q.count).filter
      (fun i => (new i).isSome)) (fun i => (new i).getD .zero)) hp hr
      (Tensor.elemWrites_in q m _ _ (by simpa using hn) (fun x hx => (by simpa using (List.mem_filter.mp hx).1)))
    rw [ha]
    exact ⟨_, _, rfl⟩

end Sys2Proof.Machine
end

