-- ==== Sys2Proof/Laws/Parts.lean ====
section
/-! SUPPORT. A numbered part of the state after one of its kind is changed: itself, every other one, and the rest of
the component that holds it. -/

namespace Sys2Proof.Machine

@[simp] theorem State.wr_regs (s : State) (f : Fld) (v : Nat) : (s.wr f v).regs = s.regs.wr f v := rfl

@[simp] theorem State.modPlot_plots (s : State) (n : Nat) (f : Plot → Plot) :
    (s.modPlot n f).plots = Tab.upd s.plots n f := rfl
@[simp] theorem State.plot_modPlot_same (s : State) (n : Nat) (f : Plot → Plot) :
    (s.modPlot n f).plot n = f (s.plot n) := Tab.val_upd_same _ _ _
theorem State.plot_modPlot_other (s : State) {n m : Nat} (f : Plot → Plot) (h : m ≠ n) :
    (s.modPlot n f).plot m = s.plot m := Tab.val_upd_other _ _ h
theorem State.plot_of {s t : State} (h : t.plots = s.plots) (n : Nat) : t.plot n = s.plot n := by
  unfold State.plot; rw [h]

@[simp] theorem State.modRing_rings (s : State) (n : Nat) (f : Ring → Ring) :
    (s.modRing n f).rings = Tab.upd s.rings n f := rfl
@[simp] theorem State.ring_modRing_same (s : State) (n : Nat) (f : Ring → Ring) :
    (s.modRing n f).ring n = f (s.ring n) := Tab.val_upd_same _ _ _
theorem State.ring_modRing_other (s : State) {n m : Nat} (f : Ring → Ring) (h : m ≠ n) :
    (s.modRing n f).ring m = s.ring m := Tab.val_upd_other _ _ h
theorem State.ring_of {s t : State} (h : t.rings = s.rings) (n : Nat) : t.ring n = s.ring n := by
  unfold State.ring; rw [h]

@[simp] theorem State.modPort_ports (s : State) (n : Nat) (f : Port → Port) :
    (s.modPort n f).ports = Tab.upd s.ports n f := rfl
@[simp] theorem State.port_modPort_same (s : State) (n : Nat) (f : Port → Port) :
    (s.modPort n f).port n = f (s.port n) := Tab.val_upd_same _ _ _
theorem State.port_modPort_other (s : State) {n m : Nat} (f : Port → Port) (h : m ≠ n) :
    (s.modPort n f).port m = s.port m := Tab.val_upd_other _ _ h
theorem State.port_of {s t : State} (h : t.ports = s.ports) (n : Nat) : t.port n = s.port n := by
  unfold State.port; rw [h]

@[simp] theorem State.modSlab_slabs (s : State) (n : Nat) (f : Slab → Slab) :
    (s.modSlab n f).slabs = Tab.upd s.slabs n f := rfl
@[simp] theorem State.slab_modSlab_same (s : State) (n : Nat) (f : Slab → Slab) :
    (s.modSlab n f).slab n = f (s.slab n) := Tab.val_upd_same _ _ _
theorem State.slab_modSlab_other (s : State) {n m : Nat} (f : Slab → Slab) (h : m ≠ n) :
    (s.modSlab n f).slab m = s.slab m := Tab.val_upd_other _ _ h
theorem State.slab_of {s t : State} (h : t.slabs = s.slabs) (n : Nat) : t.slab n = s.slab n := by
  unfold State.slab; rw [h]

@[simp] theorem State.modCore_cores (s : State) (n : Nat) (f : Core → Core) :
    (s.modCore n f).cores = Tab.upd s.cores n f := rfl
@[simp] theorem State.core_modCore_same (s : State) (n : Nat) (f : Core → Core) :
    (s.modCore n f).core n = f (s.core n) := Tab.val_upd_same _ _ _
theorem State.core_modCore_other (s : State) {n m : Nat} (f : Core → Core) (h : m ≠ n) :
    (s.modCore n f).core m = s.core m := Tab.val_upd_other _ _ h
theorem State.core_of {s t : State} (h : t.cores = s.cores) (n : Nat) : t.core n = s.core n := by
  unfold State.core; rw [h]

@[simp] theorem State.modStack_hbm (s : State) (n : Nat) (f : Stack → Stack) :
    (s.modStack n f).hbm = { s.hbm with stackTab := Tab.upd s.hbm.stackTab n f } := rfl
@[simp] theorem State.stack_modStack_same (s : State) (n : Nat) (f : Stack → Stack) :
    (s.modStack n f).stack n = f (s.stack n) := Tab.val_upd_same _ _ _
theorem State.stack_modStack_other (s : State) {n m : Nat} (f : Stack → Stack) (h : m ≠ n) :
    (s.modStack n f).stack m = s.stack m := Tab.val_upd_other _ _ h
theorem State.stack_of {s t : State} (h : t.hbm.stackTab = s.hbm.stackTab) (n : Nat) : t.stack n = s.stack n := by
  unfold State.stack; rw [h]

@[simp] theorem State.modChannel_pkg (s : State) (n : Nat) (f : Channel → Channel) :
    (s.modChannel n f).pkg = { s.pkg with channels := Tab.upd s.pkg.channels n f } := rfl
@[simp] theorem State.channel_modChannel_same (s : State) (n : Nat) (f : Channel → Channel) :
    (s.modChannel n f).channel n = f (s.channel n) := Tab.val_upd_same _ _ _
theorem State.channel_modChannel_other (s : State) {n m : Nat} (f : Channel → Channel) (h : m ≠ n) :
    (s.modChannel n f).channel m = s.channel m := Tab.val_upd_other _ _ h
theorem State.channel_of {s t : State} (h : t.pkg.channels = s.pkg.channels) (n : Nat) : t.channel n = s.channel n := by
  unfold State.channel; rw [h]

@[simp] theorem State.modDie_power (s : State) (n : Nat) (f : Die → Die) :
    (s.modDie n f).power = { s.power with dies := Tab.upd s.power.dies n f } := rfl
@[simp] theorem State.die_modDie_same (s : State) (n : Nat) (f : Die → Die) :
    (s.modDie n f).die n = f (s.die n) := Tab.val_upd_same _ _ _
theorem State.die_modDie_other (s : State) {n m : Nat} (f : Die → Die) (h : m ≠ n) :
    (s.modDie n f).die m = s.die m := Tab.val_upd_other _ _ h
theorem State.die_of {s t : State} (h : t.power.dies = s.power.dies) (n : Nat) : t.die n = s.die n := by
  unfold State.die; rw [h]

@[simp] theorem State.modSched_fabric (s : State) (n : Nat) (f : Sched → Sched) :
    (s.modSched n f).fabric = { s.fabric with scheds := Tab.upd s.fabric.scheds n f } := rfl
@[simp] theorem State.sched_modSched_same (s : State) (n : Nat) (f : Sched → Sched) :
    (s.modSched n f).sched n = f (s.sched n) := Tab.val_upd_same _ _ _
theorem State.sched_modSched_other (s : State) {n m : Nat} (f : Sched → Sched) (h : m ≠ n) :
    (s.modSched n f).sched m = s.sched m := Tab.val_upd_other _ _ h
theorem State.sched_of {s t : State} (h : t.fabric.scheds = s.fabric.scheds) (n : Nat) : t.sched n = s.sched n := by
  unfold State.sched; rw [h]

@[simp] theorem State.modEngine_engines (s : State) (gd e : Nat) (f : Engine → Engine) :
    (s.modEngine gd e f).engines = Tab.upd s.engines (9 * gd + e) f := rfl
@[simp] theorem State.engine_modEngine_same (s : State) (gd e : Nat) (f : Engine → Engine) :
    (s.modEngine gd e f).engine gd e = f (s.engine gd e) := Tab.val_upd_same _ _ _
theorem State.engine_modEngine_other (s : State) {gd e gd' e' : Nat} (f : Engine → Engine) (h : 9 * gd' + e' ≠ 9 * gd + e) :
    (s.modEngine gd e f).engine gd' e' = s.engine gd' e' := Tab.val_upd_other _ _ h
theorem State.engine_of {s t : State} (h : t.engines = s.engines) (gd e : Nat) : t.engine gd e = s.engine gd e := by
  unfold State.engine; rw [h]

@[simp] theorem State.modBank_pkg (s : State) (gd b : Nat) (f : Bank → Bank) :
    (s.modBank gd b f).pkg = { s.pkg with banks := Tab.upd s.pkg.banks (64 * gd + b) f } := rfl
@[simp] theorem State.bank_modBank_same (s : State) (gd b : Nat) (f : Bank → Bank) :
    (s.modBank gd b f).bank gd b = f (s.bank gd b) := Tab.val_upd_same _ _ _
theorem State.bank_modBank_other (s : State) {gd b gd' b' : Nat} (f : Bank → Bank) (h : 64 * gd' + b' ≠ 64 * gd + b) :
    (s.modBank gd b f).bank gd' b' = s.bank gd' b' := Tab.val_upd_other _ _ h
theorem State.bank_of {s t : State} (h : t.pkg.banks = s.pkg.banks) (gd b : Nat) : t.bank gd b = s.bank gd b := by
  unfold State.bank; rw [h]

end Sys2Proof.Machine
end

