-- ==== Sys2Proof/Laws/Safety.lean ====
section
/-! SUPPORT. How the frames of the statements are shown. -/

namespace Sys2Proof.Machine

theorem SameMemory.of {s t : State} (h1 : t.hbm.mem = s.hbm.mem) (h2 : t.hbm.dirty = s.hbm.dirty)
    (h3 : t.host = s.host) (h4 : t.stash = s.stash) : SameMemory s t := by
  refine ⟨fun a => ?_, fun a => ?_, h4⟩
  · simp [Hbm.byte, h1, h2]
  · rw [h3]

theorem SameMemory.refl (s : State) : SameMemory s s := SameMemory.of rfl rfl rfl rfl

theorem OnlyFields.refl (s : State) (ks : List Nat) : OnlyFields s s ks := ⟨rfl, fun _ _ => rfl⟩

theorem OnlyFields.wr {s t : State} {ks : List Nat} (h : OnlyFields s t ks) (f : Fld) (v : Nat) (hf : f.key ∈ ks) :
    OnlyFields s (t.wr f v) ks := by
  refine ⟨?_, fun g hg => ?_⟩
  · rw [State.wr_eq, h.1]
  · have hk : g.key ≠ f.key := fun hk => hg (by rw [hk]; exact hf)
    rw [State.rd_wr_other t v hk]; exact h.2 g hg

theorem OnlyFields.countUp {s t : State} {ks : List Nat} (h : OnlyFields s t ks) (f : Fld) (n : Nat) (hf : f.key ∈ ks) :
    OnlyFields s (t.countUp f n) ks := h.wr f _ hf

theorem OnlyFields.countWrap {s t : State} {ks : List Nat} (h : OnlyFields s t ks) (f : Fld) (n : Nat)
    (hf : f.key ∈ ks) : OnlyFields s (t.countWrap f n) ks := h.wr f _ hf

theorem OtherFields.of {s t : State} {ks : List Nat}
    (h : ∀ f, ¬ inFaultBlock f → f.key ∉ ks → t.rd f = s.rd f) : OtherFields s t ks := h

theorem OnlyFields.sameMemory {s t : State} {ks : List Nat} (h : OnlyFields s t ks) : SameMemory s t := by
  rw [h.1]; exact SameMemory.of rfl rfl rfl rfl

/-- An event of class C1 or higher waits for core 1 after its latch (R447). -/
theorem State.events_latchSure (s : State) (die b : Nat) (plots : List Nat) (u d k : Nat) (c : Option Nat)
    (hc : faultClasses die b ≠ []) (ht : topClass die b ≠ 0) :
    (s.latchSure die b plots u d k c).faults.events = s.faults.events
      ++ [{ die := die, bit := b, plots := plots, unit := u, detail := d, kind := k, time := s.now, sure := c }] := by
  unfold State.latchSure
  split
  · rename_i h; exact absurd (List.isEmpty_iff.mp h) hc
  · simp only [State.signalFault_frame]
    unfold State.refreshFaults
    dsimp only
    simp only [State.wr_frame]
    unfold State.latchBit State.setFaultBit
    dsimp only
    (repeat' split) <;> simp

end Sys2Proof.Machine
end

