-- ==== Sys2Proof/Laws/Issue.lean ====
section
/-! SUPPORT. How a descriptor issues, finishes and leaves the other descriptors alone. -/

namespace Sys2Proof.Machine

/-- Finishing a descriptor leaves every other as it was. -/
theorem OtherEntries.finish (s : State) (r i st v : Nat) : OtherEntries s (s.finish r i st v) r i := by
  intro r' i' h
  unfold State.finish State.modRing State.entry State.ring
  dsimp only
  by_cases hr : r' = r
  · subst hr
    rw [Tab.val_upd_same]
    dsimp only
    have hi : i' ≠ i := by omega
    generalize (Tab.val s.rings r').entries = l
    induction l with
    | nil => rfl
    | cons x l ih =>
      simp only [List.map_cons, List.find?_cons]
      by_cases hx : x.idx = i
      · have h1 : ∀ b : Prop, [Decidable b] → (decide ((if b then { x with stage := 3, status := BitVec.ofNat 8 st, value := BitVec.ofNat 32 v } else x).idx = i') = false) := by
          intro b _; split <;> simp [hx, Ne.symm hi]
        rw [h1]; simp only [show decide (x.idx = i') = false by simp [hx, Ne.symm hi]]
        exact ih
      · simp only [hx, false_and, if_false]
        rw [ih]
  · rw [Tab.val_upd_other _ _ hr]
theorem OtherEntries.setStage (s : State) (r i st : Nat) : OtherEntries s (s.setStage r i st) r i := by
  intro r' i' h
  unfold State.setStage State.modRing State.entry State.ring
  dsimp only
  by_cases hr : r' = r
  · subst hr
    rw [Tab.val_upd_same]
    dsimp only
    have hi : i' ≠ i := by omega
    generalize (Tab.val s.rings r').entries = l
    induction l with
    | nil => rfl
    | cons x l ih =>
      simp only [List.map_cons, List.find?_cons]
      by_cases hx : x.idx = i
      · simp only [hx, if_true, show decide (i = i') = false by simp [Ne.symm hi]]
        exact ih
      · simp only [hx, if_false]
        rw [ih]
  · rw [Tab.val_upd_other _ _ hr]
theorem OtherEntries.trans {s t u : State} {r i : Nat} (h1 : OtherEntries s t r i) (h2 : OtherEntries t u r i) : OtherEntries s u r i :=
  fun r' i' h => (h2 r' i' h).trans (h1 r' i' h)
theorem OtherEntries.of {s t : State} (r i : Nat) (h : t.rings = s.rings) : OtherEntries s t r i := by
  intro r' i' _; unfold State.entry State.ring; rw [h]
theorem State.entry_setStage (s : State) (r i st : Nat) (e : Entry) (h : s.entry r i = some e) : (s.setStage r i st).entry r i = some { e with stage := st } := by
  unfold State.setStage State.modRing State.entry State.ring at *
  dsimp only
  rw [Tab.val_upd_same]
  dsimp only
  generalize (Tab.val s.rings r).entries = l at *
  induction l with
  | nil => simp at h
  | cons x l ih =>
    simp only [List.map_cons, List.find?_cons] at h ⊢
    by_cases hx : x.idx = i
    · simp only [hx, decide_true] at h ⊢
      injection h with h; subst h; simp [hx]
    · simp only [hx, decide_false] at h ⊢
      simp only [if_false, hx, decide_false]
      exact ih h
/-- A descriptor that has not finished takes its outcome. -/
theorem State.ended_finish (s : State) (r i st v : Nat) (e : Entry) (h : s.entry r i = some e) (hs : e.stage < 3) : (s.finish r i st v).ended r i st v := by
  unfold State.ended
  refine ⟨{ e with stage := 3, status := BitVec.ofNat 8 st, value := BitVec.ofNat 32 v }, ?_, rfl, rfl, rfl⟩
  unfold State.finish State.modRing State.entry State.ring at *
  dsimp only
  rw [Tab.val_upd_same]
  dsimp only
  generalize (Tab.val s.rings r).entries = l at *
  induction l with
  | nil => simp at h
  | cons x l ih =>
    simp only [List.map_cons, List.find?_cons] at h ⊢
    by_cases hx : x.idx = i
    · simp only [hx, decide_true] at h ⊢
      injection h with h; subst h; simp [hx, hs]
    · simp only [hx, decide_false] at h ⊢
      simp only [if_false, hx, decide_false, false_and]
      exact ih h
theorem State.mayIssue_entry {s : State} {r i op : Nat} {e : Entry} (h : s.mayIssue r i op = some e) : s.entry r i = some e := by
  unfold State.mayIssue at h
  split at h
  · cases h
  · rename_i e' he
    dsimp only at h
    split at h
    · rw [he]; exact h
    · cases h
/-- A descriptor that takes its opcode has that opcode's effect. -/
theorem State.issue_ok {s : State} {r i op : Nat} {e : Entry} (h : s.takes r i op e) {run : State → Nat → Entry → Except Fail State} {t : State}
    (hr : run (s.setStage r i 2) (s.ringPlot r) e = .ok t) : s.issue r i op run = .next t := by
  unfold State.issue
  rw [h.1]; dsimp only; rw [h.2.1]; dsimp only; rw [hr]
theorem checks_ok {l : List (Nat × Bool)} (h : firstFail l = none) : checks l = .ok () := by
  unfold checks; rw [h]

/-- Folding the lowest offset from one already found never loses it. -/
theorem lowest_isSome (l : List (Nat × Bool)) (k : Nat) :
    (l.foldl (fun (m : Option Nat) q => match m with
      | none => some q.1
      | some k => some (min k q.1)) (some k)).isSome = true := by
  induction l generalizing k with
  | nil => rfl
  | cons q t ih => exact ih _

/-- No check fails exactly where none of the list holds. -/
theorem firstFail_eq_none {l : List (Nat × Bool)} : firstFail l = none ↔ ∀ q ∈ l, q.2 = false := by
  unfold firstFail
  cases h : l.filter (fun q => q.2) with
  | nil =>
    have h' := List.filter_eq_nil_iff.mp h
    exact ⟨fun _ q hq => Bool.eq_false_iff.mpr (h' q hq), fun _ => rfl⟩
  | cons a t =>
    have hs := lowest_isSome t a.1
    constructor
    · intro hn; exact absurd (hs.symm.trans (congrArg Option.isSome hn)) (by decide)
    · intro hf
      have ha : a ∈ l.filter (fun q => q.2) := by rw [h]; exact List.mem_cons_self ..
      have := List.mem_filter.mp ha
      rw [hf a this.1] at this; cases this.2

/-- Checks of fields and of handles pass where both lists do, the handles' where the count is not zero. -/
theorem checkAll_ok {empty : Bool} {f h : List (Nat × Bool)} (hf : firstFail f = none)
    (hh : empty = false → firstFail h = none) : checkAll empty f h = .ok () := by
  unfold checkAll
  apply checks_ok
  cases empty with
  | true => exact hf
  | false =>
    rw [firstFail_eq_none] at *
    intro q hq
    rcases List.mem_append.mp hq with h1 | h1
    · exact hf q h1
    · exact hh rfl q h1


end Sys2Proof.Machine
end

