-- ==== Sys2Proof/Tests/Slice0.lean ====
section
/-! SUPPORT. Tests of the model: the worked examples of the spec, ill-formed commands that every check refuses, and
for every obligation with hypotheses a state and operands that meet the hypotheses of each of its clauses. -/

namespace Sys2Proof.Tests

set_option Elab.async false

open Sys2Proof Sys2Proof.Machine

/-- A state with some fields written. -/
def put (s : State) (l : List (Fld × Nat)) : State := l.foldl (fun s x => s.wr x.1 x.2) s

/-- A device in full service: booted, every die joined, the link up, node 1 and lead of its copse; plot 0 bound with an
array, engines, a bank, one extent, cores and ports; ring 0 of it enabled and running. -/
def up : State :=
  put { State.reset with
    glob := { poweredOn := true, perstLow := false }
    sec := { booted := true, extension := true }
    pcie := { answering := true, vfEnable := true, numVfs := 63 }
    faults := { started := true }
    mgr := { managerNode := some 0 }
    power := { dies := (List.range 16).map (fun d => (d, { supplyOn := true, targetMv := 450 })) }
    slabs := [(1, { base := 16, owner := ownDEVICE }), (2, { base := 32, owner := ownPEER, peerNode := 2 }),
      (3, { base := 48, owner := ownHOST })]
    plots := [(0, { handles := (List.range 5).map (fun h => (h + 1, { addr := 4096 * h, rows := 1, cols := 4, fmt := 0xE, valid := true }))
      ++ (List.range 5).map (fun h => (h + 6, { addr := 65536 + 4096 * h, rows := 1, cols := 4, fmt := 0xB, valid := true }))
      ++ (List.range 5).map (fun h => (h + 11, { addr := 131072 + 4096 * h, rows := 1, cols := 64, fmt := 0xE, valid := true }))
      ++ (List.range 5).map (fun h => (h + 16, { addr := 196608 + 4096 * h, rows := 1, cols := 1, fmt := 0xE, valid := true }))
      ++ [(21, { addr := 262144, rows := 1, cols := 4, fmt := 0xD, valid := true }), (22, { addr := 266240, rows := 1, cols := 4, fmt := 9, valid := true })] })] }
    [(CTL_BRINGUP_STS.PHASE, 3), (STS_INSERVICE.GROVE, 0xFFFF), (STS_INSERVICE.STACKS, 0xFFFF), (STS_PCIE_LINK.UP, 1),
     (CTL_CORE_STS.RUNNING, 15), (STS_MGT_ROLE.ROLE, 1), (STS_MGT_ROLE.NODE, 1), (STS_MGT_ROLE.LEAD, 1),
     (CLK_STATUS.PCIE_LOCK, 1), (CLK_STATUS.HBM_LOCK, 15), (CLK_STATUS.SERDES_LOCK, 255), (CLK_STATUS.MGT_LOCK, 1),
     (CLK_STATUS.AUX_LOCK, 1), (PLOT_STS.STATE 0, plotBOUND), (PLOT_ARRAYS_LO.ARRAYS_LO 0, 1), (PLOT_VE_LO.VE_LO 0, 15),
     (PLOT_BANKS_LO.BANKS_LO 0 0, 1), (PLOT_HBM_0.EXT_0 0 0, 1), (PLOT_CORES.CORES 0, 3), (PLOT_PORTS.PORTS 0, 1), (PLOT_TAGS.TAGS 0, 16),
     (LNK_PORT_STS.STATE 0, portUP), (RING_CFG.ENABLE 0, 1), (RING_STS.STATE 0, 1), (CLK_SOSC_COUNT_HI.COUNT_HI, 100)]

/-- A descriptor at the head of ring 0, from its opcode, its flags and fields as (byte, value). -/
def desc (op flags : Nat) (l : List (Nat × Nat)) : Entry :=
  { raw := BitVec.ofNat 512 (l.foldl (fun a x => a + x.2 * 2 ^ (8 * x.1)) (op + flags * 256)), stage := 1, member := bit flags 2 }

/-- A state with descriptors fetched into ring 0. -/
def fetched (s : State) (l : List Entry) : State := s.modRing 0 (fun q => { q with entries := l })

theorem takes_of {s : State} {r i op : Nat} {e : Entry}
    (h : s.mayIssue r i op = some e ∧ s.memberStop (s.ringPlot r) e = none ∧ s.ringPlot r < 64) : s.takes r i op e := h

/-- Whether a computation succeeds. -/
def succeeds {α : Type} : Except Fail α → Bool
  | .ok _ => true
  | .error _ => false

theorem ok_of {α : Type} {x : Except Fail α} (h : succeeds x = true) : ∃ l, x = .ok l := by
  cases x with
  | ok l => exact ⟨l, rfl⟩
  | error _ => cases h

theorem leaseSound_of {s : State} {p : Nat} (h : s.pkg.fenced = [] ∧ s.hbm.retired = [] ∧ s.hbm.poison = []) :
    s.leaseSound p := by
  intro a n
  have h1 (x : Nat × Nat) : (s.fenced (x.1 / stackBytes) || s.hbm.retiredIn x.1 x.2) = false := by
    simp [State.fenced, Hbm.retiredIn, h.1, h.2.1]
  have h2 (x : Nat × Nat) : s.hbm.poisoned x.1 x.2 = false := by simp [Hbm.poisoned, h.2.2]
  have h3 : ((s.pieces p a n).find? fun q => s.hbm.poisoned q.1 q.2) = none := by
    rw [List.find?_eq_none]; intro x _; simp [h2]
  simp only [State.accessFail, h1, List.any_eq_true, Bool.false_eq_true, and_false, exists_false, if_false, if_true, h3]

/-- What a computation that succeeds answers. -/
def got {α : Type} [Inhabited α] : Except Fail α → α
  | .ok a => a
  | .error _ => default

theorem eq_got {α : Type} [Inhabited α] {x : Except Fail α} (h : succeeds x = true) : x = .ok (got x) := by
  cases x with
  | ok l => rfl
  | error _ => cases h

theorem unit_ok {x : Except Fail Unit} (h : succeeds x = true) : x = .ok () := by
  cases x with
  | ok l => rfl
  | error _ => cases h

/-- A descriptor issued, and one finished. -/
def issued (e : Entry) : Entry := { e with stage := 2 }
def finished (e : Entry) : Entry := { e with stage := 3 }

/-- A MATMUL of one row by one column over four elements. -/
def mat (qa k : Nat) : Entry := desc opMATMUL 0 [(8, 6), (10, 7), (12, 16), (16, 1), (20, 1), (23, 0xE + 16 * qa), (24, k)]

/-- Its one tile. -/
def tile : Tile := { rows := 1, cols := 1, klen := 4 }

/-- A state in which descriptor 0 of ring 0 is issued and its job has a tile on array 0. -/
def inMat (e : Entry) (j : MatJob) : State :=
  fetched { up with matJobs := [j], engines := [(0, { tile := some (0, 0, 0) })] } [issued e]

/-- An elementwise, reduce, norm or softmax descriptor over one row of four elements, all in Y32. -/
def rowOp (op : Nat) (l : List (Nat × Nat)) : Entry := desc op 0 (l ++ [(16, 1), (20, 4), (23, 0xE)])

theorem all_readable {s : State} {p : Nat} {l : List (Nat × Nat × Nat)}
    (h : l.all (fun u => succeeds (s.loadFirst p (s.tensorOf p u.2.1) u.2.2)) = true) :
    ∀ u ∈ l, s.readable p u.2.1 u.2.2 :=
  fun u hu => ok_of (List.all_eq_true.1 h u hu)

/-- A table of one region: Rule 1 over one row of four elements, with other bits of its first byte. -/
def regionMem (b : Byte) : Hbm :=
  { mem := [(131072, 1 + b), (131074, 21), (131076, 2), (131088, 1), (131092, 4)], dirty := [32] }

/-- Its record. -/
def region (b : Nat) : Region := BitVec.ofNat 512 (1 + b + 21 * 2 ^ 16 + 2 * 2 ^ 32 + 2 ^ 128 + 4 * 2 ^ 160)

theorem all_later {l : List Entry} (h : l.all Entry.hasIssued = true) : ∀ f ∈ l, f.hasIssued = true :=
  List.all_eq_true.1 h

/-- A computation succeeds with a value. -/
def gives {α : Type} [DecidableEq α] (x : Except Fail α) (v : α) : Bool :=
  match x with
  | .ok a => decide (a = v)
  | .error _ => false

theorem ok_is {α : Type} [DecidableEq α] {x : Except Fail α} {v : α} (h : gives x v = true) : x = .ok v := by
  cases x with
  | ok l => rw [of_decide_eq_true h]
  | error _ => cases h

/-- An EXCHANGE of four elements among three devices, all kept, under a schedule and a mode. -/
def xchg (sched mode : Nat) : Entry :=
  desc opEXCHANGE 0 [(8, 1), (12, 2), (14, 3), (16, 4), (18, 22), (20, 4), (24, 5), (27, 127), (28, 3 + 5 * 2 ^ 13),
    (29, 4 * sched + 16 * mode), (32, 32)]

/-- A device whose schedule 0 executes `j`, with descriptor 0 of ring 0 issued. -/
def inX (nodes : List Nat) (e : Entry) (j : XJob) : State :=
  fetched { up with fabric := { scheds := [(0, { nodes := nodes, cur := some 5, job := some j })], routes := [(2, [0]), (3, [0])] } } [issued e]

/-- A device on whose core 4 descriptor 0 of ring 0 runs a call, with handle 1 passed. -/
def inCall (e : Entry) : State :=
  fetched { up with cores := [(4, { job := some (0, 0), args := [(1, up.tensorOf 0 1)] })] } [issued e]

theorem others_idle {s : State} {k : Core} (h : s.cores = [(4, k)]) (j : Nat × Nat) :
    ∀ c, c ≠ 4 → (s.core c).job ≠ some j := by
  intro c hc
  have : Tab.look s.cores c = none := by simp [h, Tab.look, Ne.symm hc]
  rw [State.core, Tab.val, Tab.valD, this]
  intro hx; cases hx

theorem no_scheds {s : State} {port : Nat} (h : s.fabric.scheds = []) : ∀ q ∈ s.fabric.scheds, ∀ j, q.2.job = some j →
    j.failed ≠ none ∨ j.op ≠ opEXCHANGE ∨ ∀ n ∈ q.2.nodes, port ∉ s.routeOf n := by
  intro q hq; rw [h] at hq; cases hq

/-- A DISPATCH or COMBINE of one token to one expert among three devices, into local experts of one row. -/
def rowsOp (op : Nat) : Entry :=
  desc op 0 [(8, 1), (10, 11), (12, 12), (14, 2), (16, 2), (18, 13), (20, 3), (22, 4), (24, 1), (28, 1), (30, 1), (32, 5),
    (36, 1 + 4 * 256)]

/-- A flit of 240 payload bytes from node 2, of a type and SEQ. -/
def flit (typ seq : Nat) : List Byte := flitBytes typ seq true false 0 1 2 0 0 (List.replicate 240 0)

/-- A device with the state of port 0 and its register state changed. -/
def onPort (st : Nat) (f : Port → Port) : State := (put up [(LNK_PORT_STS.STATE 0, st)]).modPort 0 f

/-- Port 0 admits a partner, as far as the admission says. -/
def admits (a : Admission) : State :=
  onPort portADMITTING (fun q => { q with link := { q.link with adm := { a with since := some 0 } } })

/-- The manager. -/
def manager (m : Mgr) : State := put { up with mgr := m } [(STS_MGT_ROLE.MGR_ROLE, 1)]

/-- A plot reset in progress on plot 0. -/
def resetting (r : PlotReset) : State :=
  (put up [(PLOT_STS.STATE 0, plotRESETTING)]).modPlot 0 (fun q => { q with reset := some r })

theorem none_all {α : Type} {x : Option α} {P : α → Prop} (h : x = none) : ∀ d, x = some d → P d := by
  intro d hd; rw [h] at hd; cases hd

theorem no_wsq {path a : Nat} {P : Fld → List Fld → Prop} (h : wsqAt path a = none) :
    ∀ f flags, wsqAt path a = some (f, flags) → P f flags := by
  intro f flags hd; rw [h] at hd; cases hd

/-- The state of an outcome. -/
def after : Host.Outcome State Fault Refusal → State
  | .next t => t
  | _ => State.reset

/-- Whether an outcome is a next state. -/
def goesOn : Host.Outcome State Fault Refusal → Bool
  | .next _ => true
  | _ => false

theorem next_after {o : Host.Outcome State Fault Refusal} (h : goesOn o = true) : o = .next (after o) := by
  cases o with
  | next t => rfl
  | _ => cases h

theorem rwt_reset {key : Nat} {f : Fld} (h : rwtField key = some f) : f.acc = .rwt ∧ f.reset < 2 ^ f.width := by
  have all : (regRows.all fun r => r.flds.all fun g => decide (g.reset < 2 ^ g.width)) = true := by decide +kernel
  unfold rwtField at h
  split at h
  · next row hr =>
    split at h
    · next g hg =>
      have e := Option.some.inj h
      have h1 := List.mem_of_find?_eq_some hr
      have h2 : g ∈ row.flds := List.mem_of_find?_eq_some hg
      have h3 := List.find?_some hg
      simp only [decide_eq_true_eq] at h3
      rw [← e]
      exact ⟨h3.2, of_decide_eq_true (List.all_eq_true.1 (List.all_eq_true.1 all row h1) g h2)⟩
    · cases h
  · cases h

/-- The state after reset, 2³² periods on. -/
def later : State := { State.reset with regs := { field := [(CLK_SOSC_COUNT_HI.COUNT_HI.key, 1)] } }

theorem rwt_not_clock {key : Nat} {f : Fld} (h : rwtField key = some f) :
    key ≠ CLK_SOSC_COUNT_HI.COUNT_HI.key ∧ f.key ≠ CLK_SOSC_COUNT_HI.COUNT_HI.key := by
  have none_there : (rowAt (CLK_SOSC_COUNT_HI.COUNT_HI.key / 32)).all
      (fun r => r.flds.all fun g => decide (g.acc ≠ .rwt)) = true := by decide +kernel
  have based : (regRows.all fun r => r.flds.all fun g => decide (g.acc ≠ .rwt)
      || decide (g.key / 32 = r.base ∧ r.base ≠ CLK_SOSC_COUNT_HI.COUNT_HI.key / 32)) = true := by decide +kernel
  have hr := (rwt_reset h).1
  unfold rwtField at h
  split at h
  · next row hrow =>
    split at h
    · next g hg =>
      have e := Option.some.inj h
      have h2 : g ∈ row.flds := List.mem_of_find?_eq_some hg
      have hacc : g.acc = .rwt := by rw [← e] at hr; exact hr
      have h1 := List.all_eq_true.1 (List.all_eq_true.1 based row (List.mem_of_find?_eq_some hrow)) g h2
      simp only [hacc, ne_eq, not_true_eq_false, decide_false, Bool.false_or, decide_eq_true_eq] at h1
      have hne : key / 32 ≠ CLK_SOSC_COUNT_HI.COUNT_HI.key / 32 := by
        intro hk
        rw [hk] at hrow
        rw [hrow] at none_there
        have := List.all_eq_true.1 none_there g h2
        simp [hacc] at this
      refine ⟨fun hk => hne (by rw [hk]), fun hk => ?_⟩
      rw [← e, fieldAt] at hk
      simp only at hk
      have hk2 : (g.key + 32 * (key / 32 - row.base)) / 32 = CLK_SOSC_COUNT_HI.COUNT_HI.key / 32 := by rw [hk]
      omega
    · cases h
  · cases h

/-- A device whose registers hold their reset values but for its clock. -/
theorem fresh_agrees {s : State} (h : s.regs = later.regs)
    (hs : s.slabs.all (fun q => decide (q.2.plot = q.2.plotB ∧ q.2.plotB = q.2.plotC)) = true) : s.allAgree := by
  refine ⟨fun key f hf => ?_, fun n => ?_⟩
  · have hr := rwt_reset hf
    have hk := rwt_not_clock hf
    refine ⟨by rw [State.copiesAgree, h]; exact ⟨by simp [later, Tab.valD, Tab.look, Ne.symm hk.1], rfl⟩, ?_⟩
    have : s.rd f = f.reset := by
      simp [State.rd, RegFile.rd, h, later, Tab.valD, Tab.look, hr.1, vote3, Ne.symm hk.2]
    rw [this]; exact hr.2
  · rw [State.slab, Tab.val, Tab.valD]
    generalize hl : Tab.look s.slabs n = x
    cases x with
    | none => exact ⟨rfl, rfl⟩
    | some e =>
      have hm : ∃ q ∈ s.slabs, q.2 = e := by
        clear hs
        generalize s.slabs = l at hl
        induction l with
        | nil => cases hl
        | cons q l ih =>
          simp only [Tab.look] at hl
          split at hl
          · exact ⟨q, List.mem_cons_self .., Option.some.inj hl⟩
          · obtain ⟨y, hy, hh⟩ := ih hl; exact ⟨y, List.mem_cons_of_mem _ hy, hh⟩
      obtain ⟨q, hq, rfl⟩ := hm
      exact of_decide_eq_true (List.all_eq_true.1 hs q hq)

/-- The register at an address. -/
def rowOf (a : Nat) : RegRow := (rowAt a).getD ⟨"", 0, [], [], .plain⟩

/-- A computation ends with a failure. -/
def errs {α : Type} (x : Except Fail α) (f : Fail) : Bool :=
  match x with
  | .error g => decide (g = f)
  | .ok _ => false

theorem err_is {α : Type} {x : Except Fail α} {f : Fail} (h : errs x f = true) : x = .error f := by
  cases x with
  | ok l => cases h
  | error g => rw [of_decide_eq_true h]

theorem pieces_read {s : State} {p : Nat} {r : Region} (h : ((regionPieces r none).all fun q =>
    succeeds (s.elems p (s.tensorOf p (r.h 2)) q.idx)
    && succeeds (s.elems p (s.tensorOf p (r.h 4)) (q.idx.map (· + r.goff)))) = true)
    (hm : r.hasM = false) (hr : r.rule ≠ 2) : ∀ q ∈ regionPieces r none,
    (∃ l, s.elems p (s.tensorOf p (r.h 2)) q.idx = .ok l)
    ∧ (∃ l, s.elems p (s.tensorOf p (r.h 4)) (q.idx.map (· + r.goff)) = .ok l)
    ∧ (r.hasM = true → ∃ l, s.elems p (s.tensorOf p (r.h 6)) q.idx = .ok l)
    ∧ (r.rule = 2 → ∃ l, s.elems p (s.tensorOf p (r.h 8)) q.idx = .ok l) := by
  intro q hq
  have := List.all_eq_true.1 h q hq
  simp only [Bool.and_eq_true] at this
  exact ⟨ok_of this.1, ok_of this.2, fun x => by simp [hm] at x, fun x => absurd x hr⟩

/-- The descriptor, the job and the state of one pass. -/
def passEntry : Entry := issued (mat 0 4)
def passJob : MatJob := { tiles := [tile] }
def passState : State := inMat (mat 0 4) passJob

/-- The same for an operand that is quantised and reads a value that is not finite. -/
def failEntry : Entry := issued (mat 5 4)
def failJob : MatJob := { tiles := [tile], widthA := BitVec.ofNat 128 (2 ^ 91 + 0xB * 2 ^ 80) }
def failState : State := { inMat (mat 5 4) failJob with hbm := { mem := [(65536, 0x80), (65537, 0x7F)], dirty := [16] } }

/-- Two computations in turn, each of which succeeds. -/
theorem two_ok {A B C D E F : Type} [Inhabited A] [Inhabited B] [Inhabited C] [Inhabited D] [Inhabited E] [Inhabited F]
    {x : Except Fail (A × B × C)} {f : A → Except Fail (D × E × F)} {P : C → F → Prop} (h : succeeds x = true)
    (h2 : succeeds (f (got x).1) = true) (h3 : P (got x).2.2 (got (f (got x).1)).2.2) :
    ∃ s1 xa na s2 xb nb, x = .ok (s1, xa, na) ∧ f s1 = .ok (s2, xb, nb) ∧ P na nb :=
  ⟨_, _, _, _, _, _, eq_got h, eq_got h2, h3⟩

/-- A whole broadcast frame of the management segment with a control counter. -/
def mgtFrame (dst : BitVec 48) (version ctr : Nat) : List Byte :=
  macFrame dst 2 ([0x88, 0xB5] ++ leBytes 4 version ++ leBytes 8 ctr ++ List.replicate 34 0)

/-! ### The worked examples of the spec -/

/-- The four elements of the example of Table 3.7: 0.400, −0.270, 0.050 and 0.160 in Y32. -/
def narrowInputs : List Val := [0x3ECCCCCD, 0xBE8A3D71, 0x3D4CCCCD, 0x3E23D70A].map y32Val

/-- Its coarse scale, 3.0. -/
def narrowScale : Nat := (y32Val 0x40400000).mag

/-- Table 3.7: the fine byte and the codes. -/
theorem test_narrow_block_codes :
    let b := encodeBlock 4 narrowScale 32 none narrowInputs
    b.f = 0xF5 ∧ b.q.take 4 = [4, 13, 0, 1] ∧ b.sat = 0 ∧ b.uf = false := by decide +kernel

/-- The 17 bytes of the block under R71. -/
theorem test_narrow_block_bytes :
    blockBytes 4 (encodeBlock 4 narrowScale 32 none narrowInputs) = [0xF5, 0xD4, 0x10] ++ List.replicate 14 0 := by
  decide +kernel

/-- An element of 900 against the same scale saturates at 7; one of 10⁻¹² underflows. -/
theorem test_narrow_block_ends :
    (encodeBlock 4 narrowScale 32 none [y32Val 0x44610000]).f = 0xFF
    ∧ (encodeBlock 4 narrowScale 32 none [y32Val 0x44610000]).q.head? = some 7
    ∧ (encodeBlock 4 narrowScale 32 none [y32Val 0x44610000]).sat = 1
    ∧ (encodeBlock 4 narrowScale 32 none [y32Val 0x2B8CBCCC]).f = 0
    ∧ (encodeBlock 4 narrowScale 32 none [y32Val 0x2B8CBCCC]).uf = true := by decide +kernel

/-- The header of the full N4 burst, GEN 0x3A. -/
theorem test_burst_header : burstHeader 0x3A {} 14 4 = 0x003A00E4 := by decide +kernel

/-- The two elements of a block of the example of Table 8.6; the other thirty are +0. -/
def blockOf (a b : Word) : List Word := [a, b] ++ List.replicate 30 0

/-- Table 8.6: W0 sends 5.0 and 0.0001 with E = 3. -/
theorem test_exchange_first_hop :
    let x := encodeRecord (blockOf 0x40A00000 0x38D1B717) 0x82 false false
    x.header = 0x0082 ∧ x.codes.take 2 = [0x5000, 0] := by decide +kernel

/-- Table 8.6: W1 adds 4.0 and 0.0002, and rescales to E = 4. -/
theorem test_exchange_rescales :
    let a := (({ sums := blockOf 0x40800000 0x3951B717, exp := 0x82 } : XAcc).addRecord 0 0x0082 (blockOf 0x5000 0)).1
    let x := encodeRecord a.sums a.exp a.esc a.resc
    x.header = 0x0183 ∧ x.codes.take 2 = [0x4800, 0] ∧ x.rescale = 1 := by decide +kernel

/-- Table 8.6: W3 adds 3.75 and −0.00005 to 8.0 and ends with 24,064, and R215 writes 0x84 with HEADROOM 1. -/
theorem test_exchange_last_hop :
    let a := (({ sums := blockOf 0x40700000 0xB851B717, exp := 0x82 } : XAcc).addRecord 2 0x0183 (blockOf 0x4000 0)).1
    let x := encodeRecord a.sums a.exp a.esc a.resc
    x.header = 0x0183 ∧ x.codes.take 2 = [0x5E00, 0]
    ∧ renewedExp (desc opEXCHANGE 0 [(30, 16)]) (widenRecord x.header x.codes) = some 0x84 := by decide +kernel

/-- The width record of the example of Table 5.6. -/
def exampleWidth : BitVec 128 :=
  BitVec.ofNat 128 (0x0318 + 256 * 2 ^ 16 + 16 * 2 ^ 32 + 0x0800 * 2 ^ 48 + 0xB * 2 ^ 80 + 0xF * 2 ^ 88)

/-- Table 5.6: only LOST fails at N4 and at N5, with demands N5 and Y8a; Y8a passes. -/
theorem test_escalation_ladder :
    failedChecks exampleWidth { uf := 6, ufDen := 4000, sat := 3, satDen := 127000, lost := 6350, lostDen := 126808 } none
      = [false, false, true, false]
    ∧ demandOf exampleWidth 4 [false, false, true, false] = 5
    ∧ failedChecks exampleWidth { lost := 2230 } (some (4096, 131072)) = [false, false, false, false]
    ∧ failedChecks exampleWidth { lost := 4410 } (some (4096, 131072)) = [false, false, true, false]
    ∧ demandOf exampleWidth 5 [false, false, true, false] = 9
    ∧ failedChecks exampleWidth { lost := 442, lostDen := 127000, satDen := 127000 } none = [false, false, false, false] := by
  decide +kernel

/-- Sixteen dies at one supply and 60 °C, with the pins at 0b100. -/
def atSupply (mv : Nat) : State :=
  put { up with power := { envCode := 4, target := mv, dies := (List.range 16).map (fun d => (d, { supplyOn := true, targetMv := mv, tempC := 60 })) } }
    ((List.range 16).map (fun d => (STS_GD_POWER.VOLT_MV d, mv)))

/-- A part of the measured power that the compute domains draw, in mW. -/
def shares (mw : Nat) : List Nat := (mw - 15 * (mw / 16)) :: List.replicate 15 (mw / 16)

/-- Table 16.3 step 3: 1,189 W of which 629 W scale; the target is 0.52 V. -/
theorem test_follower_steps_down :
    (after (execControlInterval 1189000 (shares 629000) (atSupply 600))).power.target = 520 := by decide +kernel

/-- Table 16.3 step 6: from 0.52 V, measured at 763 W, it steps up to 0.53 V. -/
theorem test_follower_steps_up :
    (after (execControlInterval 763000 (shares 334000) (atSupply 520))).power.target = 530 := by decide +kernel

/-- Table 19.10 steps 1, 3 and 4: the shadows of two paths are separate. -/
theorem test_shadows_are_separate :
    let s := put up [(PWR_ENERGY_DEV_LO.COUNT_LO, 0xFFFFFF00), (PWR_ENERGY_DEV_HI.COUNT_HI, 1)]
    let t := after (execLowWordRead 0 0x20020 s)
    let u := put t [(PWR_ENERGY_DEV_LO.COUNT_LO, 0x0001F300), (PWR_ENERGY_DEV_HI.COUNT_HI, 2)]
    let v := after (execLowWordRead 4 0x20020 u)
    v.readWord 0 0x20024 = 1 ∧ v.readWord 4 0x20024 = 2 := by decide +kernel

/-- Table 19.10 steps 5 to 8: a write-back of an old SEQ clears nothing, one of the present SEQ clears. -/
theorem test_write_back_of_seq :
    let s := put up [(STS_ESC_OVERRUN.SEQ 2, 8), (STS_ESC_OVERRUN.OVERRUN 2, 1)]
    s.readWord 0 0x88084 = 0x801
    ∧ (after (execWsqWriteBack 0 0x88084 7 s)).readWord 0 0x88084 = 0x801
    ∧ (after (execWsqWriteBack 0 0x88084 8 s)).readWord 0 0x88084 = 0x800 := by decide +kernel

/-- Table 15.4 steps 10 and 11: the window of a trial ends; B is marked BAD and A boots. -/
theorem test_trial_fails :
    let a : ImageSlot := { state := 1, chainOk := true, digestsOk := true, svn := 7 }
    let b : ImageSlot := { state := 3, chainOk := true, digestsOk := true, svn := 8 }
    let s := put { up with flash := { imgA := a, imgB := b }, sec := { booted := true, trialDeadline := some 0 } }
      [(SEC_STS.TRIAL, 1), (SEC_STS.BOOT_IMAGE, 1), (SEC_STS.FUSE_SVN, 7)]
    let t := after (execConfirmTimeout s)
    let u := after (execWarmResetDieStop { cfgOk := true, badLanes := [] } t)
    u.flash.imgB.state = 4 ∧ u.rd SEC_STS.TRIAL = 0 ∧ u.rd SEC_STS.BOOT_IMAGE = 0 ∧ u.rd SEC_STS.FUSE_SVN = 7 := by
  decide +kernel

/-! ### Ill-formed commands -/

/-- An outcome of a firmware check, with a measurement of some length. -/
def checkOf (n : Nat) : ImageCheck := { chainOk := true, digestsOk := true, svn := 0, measurement := List.replicate n 0 }

/-- Whether an outcome is the fault of an ill-formed command. -/
def illFormed : Host.Outcome State Fault Refusal → Bool
  | .fault f => decide (f = .malformedCommand)
  | _ => false

theorem fault_is {o : Host.Outcome State Fault Refusal} (h : illFormed o = true) : o = .fault .malformedCommand := by
  cases o with
  | fault f => cases f <;> first | rfl | cases h
  | _ => cases h

/-- Refused: a read that brings data. -/
theorem test_stream_start_ill :
    Instr.wellFormed (.streamStart 0 true 0 0 2 1 0 false 0xE [0]) = false
    ∧ exec (.streamStart 0 true 0 0 2 1 0 false 0xE [0]) up = .fault .malformedCommand := ⟨by decide +kernel, fault_is (by decide +kernel)⟩

/-- Refused: a write of two elements with one. -/
theorem test_stream_start_short :
    Instr.wellFormed (.streamStart 0 true 0 0 2 1 0 true 0xE [0]) = false
    ∧ exec (.streamStart 0 true 0 0 2 1 0 true 0xE [0]) up = .fault .malformedCommand := ⟨by decide +kernel, fault_is (by decide +kernel)⟩

/-- Refused: a dense record of one code. -/
theorem test_exchange_record_ill :
    Instr.wellFormed (.exchangeRecordArrive 0 0 0 0 none 0 0x82 [0]) = false
    ∧ exec (.exchangeRecordArrive 0 0 0 0 none 0 0x82 [0]) up = .fault .malformedCommand := ⟨by decide +kernel, fault_is (by decide +kernel)⟩

/-- Refused: a list of one entry whose header counts two. -/
theorem test_exchange_list_ill :
    Instr.wellFormed (.exchangeListArrive 0 0 0 0 none 0 2 [(0, 0)]) = false
    ∧ exec (.exchangeListArrive 0 0 0 0 none 0 2 [(0, 0)]) up = .fault .malformedCommand := ⟨by decide +kernel, fault_is (by decide +kernel)⟩

/-- Refused: a final record of one code. -/
theorem test_gather_record_ill :
    Instr.wellFormed (.exchangeGatherRecord 0 0 0 0 none (.block 0 0x82 [0])) = false
    ∧ exec (.exchangeGatherRecord 0 0 0 0 none (.block 0 0x82 [0])) up = .fault .malformedCommand := ⟨by decide +kernel, fault_is (by decide +kernel)⟩

/-- Refused: a flit of 255 bytes. -/
theorem test_flit_ill :
    Instr.wellFormed (.flitReceive 0 (List.replicate 255 0) [] true) = false
    ∧ exec (.flitReceive 0 (List.replicate 255 0) [] true) up = .fault .malformedCommand := ⟨by decide +kernel, fault_is (by decide +kernel)⟩

/-- Refused: a NAK with the errors of three lanes. -/
theorem test_nak_ill :
    Instr.wellFormed (.nakReceive 0 0 0 [0, 0, 0]) = false
    ∧ exec (.nakReceive 0 0 0 [0, 0, 0]) up = .fault .malformedCommand := ⟨by decide +kernel, fault_is (by decide +kernel)⟩

/-- Refused: a re-qualification with no errors of lanes. -/
theorem test_requal_ill :
    Instr.wellFormed (.requalComplete 0 [] 0 []) = false
    ∧ exec (.requalComplete 0 [] 0 []) up = .fault .malformedCommand := ⟨by decide +kernel, fault_is (by decide +kernel)⟩

/-- Refused: a put of 209 bytes. -/
theorem test_put_ill :
    Instr.wellFormed (.putReceive 0 0 0 0 209 none (List.replicate 209 0)) = false
    ∧ exec (.putReceive 0 0 0 0 209 none (List.replicate 209 0)) up = .fault .malformedCommand := ⟨by decide +kernel, fault_is (by decide +kernel)⟩

/-- Refused: read data of 241 bytes. -/
theorem test_read_data_ill :
    Instr.wellFormed (.readData 0 0 0 (List.replicate 241 0)) = false
    ∧ exec (.readData 0 0 0 (List.replicate 241 0)) up = .fault .malformedCommand := ⟨by decide +kernel, fault_is (by decide +kernel)⟩

/-- Refused: a measurement of 31 bytes. -/
theorem test_stage_ill :
    Instr.wellFormed (.stage 0 (checkOf 31)) = false
    ∧ exec (.stage 0 (checkOf 31)) up = .fault .malformedCommand := ⟨by decide +kernel, fault_is (by decide +kernel)⟩

/-- Refused: a measurement of 33 bytes. -/
theorem test_recovery_chunk_ill :
    Instr.wellFormed (.recoveryChunk 0 (checkOf 33)) = false
    ∧ exec (.recoveryChunk 0 (checkOf 33)) up = .fault .malformedCommand := ⟨by decide +kernel, fault_is (by decide +kernel)⟩

/-- Refused: powers of fifteen dies. -/
theorem test_control_interval_ill :
    Instr.wellFormed (.controlInterval 0 (List.replicate 15 0)) = false
    ∧ exec (.controlInterval 0 (List.replicate 15 0)) up = .fault .malformedCommand := ⟨by decide +kernel, fault_is (by decide +kernel)⟩

/-- Refused: energies of three stacks' loops. -/
theorem test_attribution_ill :
    Instr.wellFormed (.attributionInterval (List.replicate 16 0) [0, 0, 0] (List.replicate 8 0) 0) = false
    ∧ exec (.attributionInterval (List.replicate 16 0) [0, 0, 0] (List.replicate 8 0) 0) up = .fault .malformedCommand := ⟨by decide +kernel, fault_is (by decide +kernel)⟩

/-- Refused: temperatures of 24 dies. -/
theorem test_temperatures_ill :
    Instr.wellFormed (.temperatureRead (List.replicate 24 0)) = false
    ∧ exec (.temperatureRead (List.replicate 24 0)) up = .fault .malformedCommand := ⟨by decide +kernel, fault_is (by decide +kernel)⟩

/-- Refused: CTL_RESET, whose write is a row of its own. -/
theorem test_register_write_ill :
    Instr.wellFormed (.registerWrite 0 (.word 0x110 0)) = false
    ∧ exec (.registerWrite 0 (.word 0x110 0)) up = .fault .malformedCommand := ⟨by decide +kernel, fault_is (by decide +kernel)⟩

/-- Refused: FALLOW, whose write is a row of its own. -/
theorem test_register_write_ill_power :
    Instr.wellFormed (.registerWrite 0 (.word 0x114 1)) = false
    ∧ exec (.registerWrite 0 (.word 0x114 1)) up = .fault .malformedCommand := ⟨by decide +kernel, fault_is (by decide +kernel)⟩

/-! ### Witnesses -/

/-- States and operands that meet the hypotheses of `ErrorsAreChargedCountedAndPoisoned`. -/
theorem witness_errors_are_charged_counted_and_poisoned :
    (∃ (s : State) (ch : Fin 32) (g : Fin 8) (lane : Fin 32), s.laneServes ch g lane = false)
    ∧ (∃ (s : State) (ch : Fin 32) (g : Fin 8) (lane : Fin 32), s.laneServes ch g lane = true ∧ s.laneErrors ch
      g lane < 15)
    ∧ (∃ (s : State) (ch : Fin 32) (g : Fin 8) (lane : Fin 32), s.laneServes ch g lane = true ∧ 15 ≤
      s.laneErrors ch g lane)
    ∧ (∃ (s : State) (ch : Fin 32) (g : Fin 8), g.val ∈ (s.channel ch).retest)
    ∧ (∃ (s : State) (ch : Fin 32) (g : Fin 8), g.val ∉ (s.channel ch).retest)
    ∧ (∃ (s : State) (st : Fin 16) (u : Fin 3221225472) (e : Ecc), (s.unitReads st u = false ∨ e = .good))
    ∧ (∃ (s : State) (st : Fin 16) (u : Fin 3221225472), s.unitReads st u = true)
    ∧ (∃ (s : State) (st : Fin 16) (u : Fin 3221225472), s.unitReads st u = true)
    ∧ (∃ (s : State) (st : Fin 16), s.scrubs st = false)
    ∧ (∃ (s : State) (st : Fin 16) (e : Ecc), s.scrubs st = true ∧ (s.retiredUnit st (s.stack st).scrubNext =
      true ∨ e = .good))
    ∧ (∃ (s : State) (st : Fin 16), s.scrubs st = true ∧ s.retiredUnit st (s.stack st).scrubNext = false)
    ∧ (∃ (s : State) (st : Fin 16), s.scrubs st = true ∧ s.retiredUnit st (s.stack st).scrubNext = false) :=
  ⟨⟨up.modChannel 0 (fun c => { c with retired := true }), 0, 0, 0, by decide +kernel⟩,
   ⟨up, 0, 0, 0, by decide +kernel⟩,
   ⟨up.modChannel 0 (fun c => { c with parity := List.replicate 15 (0, 0, up.now) }), 0, 0, 0,
    by decide +kernel⟩,
   ⟨up.modChannel 0 (fun c => { c with retest := [0] }), 0, 0, by decide +kernel⟩,
   ⟨up, 0, 0, by decide +kernel⟩,
   ⟨{ up with hbm := { dirty := [0] } }, 0, 0, .good, by decide +kernel⟩,
   ⟨{ up with hbm := { dirty := [0] } }, 0, 0, by decide +kernel⟩,
   ⟨{ up with hbm := { dirty := [0] } }, 0, 0, by decide +kernel⟩,
   ⟨{ up with hbm := { dirty := [0] } }, 0, by decide +kernel⟩,
   ⟨(put up [(CFG_MEM_SCRUB.HBM_EN 0, 1)]).modStack 0 (fun k => { k with trained := true }), 0, .good,
    by decide +kernel⟩,
   ⟨(put up [(CFG_MEM_SCRUB.HBM_EN 0, 1)]).modStack 0 (fun k => { k with trained := true }), 0,
    by decide +kernel⟩,
   ⟨(put up [(CFG_MEM_SCRUB.HBM_EN 0, 1)]).modStack 0 (fun k => { k with trained := true }), 0,
    by decide +kernel⟩⟩

/-- States and operands that meet the hypotheses of `RepairsScrubsAndRecordsAdvance`. -/
theorem witness_repairs_scrubs_and_records_advance :
    (∃ (s : State) (st : Fin 16) (row : Nat), s.hasLock { kind := 1, unit := st } = true ∧ row ∈ (s.stack
      st).candidates ∧ (s.stack st).repair = none)
    ∧ (∃ (s : State) (st : Fin 16) (row : Nat), s.hasLock { kind := 1, unit := st } = true ∧ row ∈ (s.stack
      st).candidates ∧ (s.stack st).repair = none)
    ∧ (∃ (s : State) (st : Fin 16) (row : Nat), (s.hasLock { kind := 1, unit := st } = false ∨ row ∉ (s.stack
      st).candidates ∨ (s.stack st).repair ≠ none))
    ∧ (∃ (s : State) (st : Fin 16) (row : Nat), (s.stack st).repair = some row)
    ∧ (∃ (s : State) (st : Fin 16), (s.stack st).repair = none)
    ∧ (∃ (s : State) (gd : Fin 16) (b : Fin 64), s.tileScrubs gd b = true)
    ∧ (∃ (s : State) (gd : Fin 16) (b : Fin 64), s.tileScrubs gd b = true)
    ∧ (∃ (s : State) (gd : Fin 16) (b : Fin 64), s.tileScrubs gd b = true)
    ∧ (∃ (s : State) (gd : Fin 16) (b : Fin 64), s.tileScrubs gd b = false)
    ∧ (∃ (s : State) (r : LaneRec) (l : List LaneRec), s.flash.pendLane = r :: l ∧ s.flash.laneFirst = false)
    ∧ (∃ (s : State) (r : LaneRec) (l : List LaneRec), s.flash.pendLane = r :: l ∧ s.flash.laneFirst = true)
    ∧ (∃ (s : State) (r : FaultRec) (l : List FaultRec), s.flash.pendLane = [] ∧ s.flash.pendLog = r :: l)
    ∧ (∃ (s : State) (r : LifeRec) (l : List LifeRec), s.flash.pendLane = [] ∧ s.flash.pendLog = [] ∧
      s.flash.pendLife = r :: l)
    ∧ (∃ (s : State), s.flash.waits = true)
    ∧ (∃ (s : State), s.flash.waits = true)
    ∧ (∃ (s : State), s.flash.waits = false)
    ∧ (∃ (s : State), (∀ n, s.flash.lastLife = some n → n + 60 * perS ≤ s.now))
    ∧ (∃ (s : State) (n : Nat), s.flash.lastLife = some n ∧ s.now < n + 60 * perS) :=
  ⟨⟨{ up.modStack 0 (fun k => { k with candidates := [7] }) with maint := { active := [{ kind := 1, unit := 0 }] } },
    0, 7, by decide +kernel⟩,
   ⟨{ up.modStack 0 (fun k => { k with candidates := [7] }) with maint := { active := [{ kind := 1, unit := 0 }] } },
    0, 7, by decide +kernel⟩,
   ⟨up, 0, 0, by decide +kernel⟩,
   ⟨up.modStack 0 (fun k => { k with repair := some 7 }), 0, 7, by decide +kernel⟩,
   ⟨up, 0, by decide +kernel⟩,
   ⟨up.modStack 0 (fun k => { k with repair := some 7 }), 0, 0, by decide +kernel⟩,
   ⟨up, 0, 0, by decide +kernel⟩,
   ⟨up, 0, 0, by decide +kernel⟩,
   ⟨{ up with pkg := { fenced := [0] } }, 0, 0, by decide +kernel⟩,
   ⟨{ up with flash := { pendLane := [{}] } }, {}, [], by decide +kernel⟩,
   ⟨{ up with flash := { pendLane := [{}], laneFirst := true } }, {}, [], by decide +kernel⟩,
   ⟨{ up with flash := { pendLog := [{}] } }, {}, [], by decide +kernel⟩,
   ⟨{ up with flash := { pendLife := [{}] } }, {}, [], by decide +kernel⟩,
   ⟨{ up with flash := { pendLife := [{}] } }, by decide +kernel⟩,
   ⟨{ up with flash := { pendLife := [{}] } }, by decide +kernel⟩,
   ⟨up, by decide +kernel⟩,
   ⟨{ up with flash := { lastLife := some 0 } }, by decide +kernel⟩,
   ⟨{ up with flash := { lastLife := some up.now } }, up.now, by decide +kernel⟩⟩

/-- States and operands that meet the hypotheses of `OscillatorsAndWatchdogsReport`. -/
theorem witness_oscillators_and_watchdogs_report :
    (∃ (s : State) (gd : Fin 16), s.fenced gd = false ∧ (s.die gd).supplyOn = true ∧ s.past (s.die
      gd).windowAt 8192 = true)
    ∧ (∃ (s : State) (gd : Fin 16), (s.fenced gd = true ∨ (s.die gd).supplyOn = false ∨ s.past (s.die
      gd).windowAt 8192 = false))
    ∧ (∃ (s : State) (since : Nat), s.past since (s.rd CFG_STALL_WDOG.PERIOD_US * perUs) = false)
    ∧ (∃ (s : State) (gd : Fin 16) (since : Nat), s.past since (s.rd CFG_STALL_WDOG.PERIOD_US * perUs) = true ∧
      s.groveUp gd = true ∧ (s.die gd).supplyOn = true ∧ (s.die gd).brownout = none)
    ∧ (∃ (s : State) (gd : Fin 16), (s.groveUp gd = false ∨ (s.die gd).supplyOn = false ∨ (s.die gd).brownout ≠
      none))
    ∧ (∃ (s : State) (ch : Fin 32) (first : Bool) (since : Nat), s.past since (s.rd CFG_STALL_WDOG.PERIOD_US *
      perUs) = true ∧ (s.channel ch).retired = false ∧ s.fenced (stallDie ch first) = false ∧ (s.die (stallDie
      ch first)).supplyOn = true ∧ (s.die (stallDie ch first)).brownout = none)
    ∧ (∃ (s : State) (ch : Fin 32) (first : Bool), ((s.channel ch).retired = true ∨ s.fenced (stallDie ch first)
      = true ∨ (s.die (stallDie ch first)).supplyOn = false ∨ (s.die (stallDie ch first)).brownout ≠ none))
    ∧ (∃ (s : State) (since : Nat), s.past since (s.rd CFG_STALL_WDOG.PERIOD_US * perUs) = true ∧ s.sec.booted =
      true)
    ∧ (∃ (s : State), s.sec.booted = false) :=
  ⟨⟨up, 0, by decide +kernel⟩,
   ⟨{ up with pkg := { fenced := [0] } }, 0, by decide +kernel⟩,
   ⟨up, up.now + 1, by decide +kernel⟩,
   ⟨up, 0, 0, by decide +kernel⟩,
   ⟨put up [(STS_INSERVICE.GROVE, 0)], 0, by decide +kernel⟩,
   ⟨up, 0, false, 0, by decide +kernel⟩,
   ⟨up.modChannel 0 (fun c => { c with retired := true }), 0, false, by decide +kernel⟩,
   ⟨up, 0, by decide +kernel⟩,
   ⟨State.reset, by decide +kernel⟩⟩

/-- States and operands that meet the hypotheses of `ClocksChangeLockAndStore`. -/
theorem witness_clocks_change_lock_and_store :
    (∃ (s : State) (g : Fin 28), ((∀ f ∈ s.clocks.wanted, f.target ≠ g.val) ∨ s.droopActive = true ∨
      (s.droopHeld = false ∧ ∀ f ∈ s.clocks.wanted, s.now < f.since + 10 * perMs) ∨ ((g.val < 4 ∨ s.modeDiffers
      (g.val - 4) = true) ∧ s.hasLock (freqLock g) = false)))
    ∧ (∃ (s : State) (g : Fin 28) (f : FreqReq), s.clocks.wanted.find? (fun f => decide (f.target = g.val)) =
      some f ∧ s.droopActive = false ∧ (s.droopHeld = true ∨ f.since + 10 * perMs ≤ s.now) ∧ ((g.val < 4 ∧
      s.hasLock (freqLock g) = true) ∨ (4 ≤ g.val ∧ s.modeDiffers (g.val - 4) = false)))
    ∧ (∃ (s : State) (g : Fin 28) (f : FreqReq), s.clocks.wanted.find? (fun f => decide (f.target = g.val)) =
      some f ∧ s.droopActive = false ∧ (s.droopHeld = true ∨ f.since + 10 * perMs ≤ s.now) ∧ 4 ≤ g.val ∧
      s.modeDiffers (g.val - 4) = true ∧ s.hasLock (freqLock g) = true)
    ∧ (∃ (s : State) (g : Fin 28), g.val ∉ s.clocks.active)
    ∧ (∃ (s : State) (g : Fin 28), g.val ∈ s.clocks.active ∧ g.val < 4)
    ∧ (∃ (s : State) (g : Fin 28), g.val ∈ s.clocks.active ∧ 4 ≤ g.val ∧ s.modeDiffers (g.val - 4) = false)
    ∧ (∃ (s : State) (g : Fin 28), g.val ∈ s.clocks.active ∧ 4 ≤ g.val ∧ s.modeDiffers (g.val - 4) = true)
    ∧ (∃ (s : State) (l : Fin 15), s.loopLocked l = true)
    ∧ (∃ (s : State) (l : Fin 15), s.loopLocked l = false)
    ∧ (∃ (s : State) (l : Fin 15), refOfLoop l ∉ s.clocks.refDown)
    ∧ (∃ (s : State) (l : Fin 15), refOfLoop l ∈ s.clocks.refDown)
    ∧ (∃ (s : State) (n : Nat), s.past n (20 * perUs) = true)
    ∧ (∃ (s : State) (n : Nat), s.past n (20 * perUs) = false)
    ∧ (∃ (s : State) (r : Fin 3), r.val ∈ s.clocks.refDown)
    ∧ (∃ (s : State) (r : Fin 3), r.val ∉ s.clocks.refDown)
    ∧ (∃ (s : State) (path : Fin 6) (v : BitVec 32), s.writeOpen path 0x10030 = true ∧ v.toNat % 4 ≠ 3)
    ∧ (∃ (s : State) (path : Fin 6) (v : BitVec 32), (s.writeOpen path 0x10030 = false ∨ v.toNat % 4 = 3))
    ∧ (∃ (s : State) (path : Fin 6), s.writeOpen path 0x10010 = true)
    ∧ (∃ (s : State) (path : Fin 6), s.writeOpen path 0x10010 = false) :=
  ⟨⟨up, 0, by decide +kernel⟩,
   ⟨{ up with clocks := { wanted := [{ target := 0 }] }, maint := { active := [freqLock 0] } }, 0,
    { target := 0 }, by decide +kernel⟩,
   ⟨{ put up [(LNK_PORT_CTL.MODE 0, 2)] with clocks := { wanted := [{ target := 4 }] }, maint := { active := [freqLock 4] } },
    4, { target := 4 }, by decide +kernel⟩,
   ⟨up, 0, by decide +kernel⟩,
   ⟨{ up with clocks := { active := [3] } }, 3, by decide +kernel⟩,
   ⟨{ up with clocks := { active := [4] } }, 4, by decide +kernel⟩,
   ⟨{ put up [(LNK_PORT_CTL.MODE 0, 2)] with clocks := { active := [4] } }, 4, by decide +kernel⟩,
   ⟨up.modDie 0 (fun d => { d with droop := true }), 0, by decide +kernel⟩,
   ⟨put up [(CLK_STATUS.PCIE_LOCK, 0)], 0, by decide +kernel⟩,
   ⟨{ up with clocks := { refDown := [0] } }, 0, by decide +kernel⟩,
   ⟨{ up with clocks := { refDown := [2] } }, 0, by decide +kernel⟩,
   ⟨{ up with clocks := { refDown := [0] } }, 0, by decide +kernel⟩,
   ⟨up, up.now, by decide +kernel⟩,
   ⟨{ up with clocks := { refDown := [0] } }, 0, by decide +kernel⟩,
   ⟨up, 0, by decide +kernel⟩,
   ⟨up, 0, 2, by decide +kernel⟩,
   ⟨up, 0, 3, by decide +kernel⟩,
   ⟨up, 0, by decide +kernel⟩,
   ⟨up, 5, by decide +kernel⟩⟩

/-- States and operands that meet the hypotheses of `MatmulsDivideIntoTilesThatArraysTake`. -/
theorem witness_matmuls_divide_into_tiles_that_arrays_take :
    (∃ (s : State) (ring : Fin 1024) (idx : Nat) (e : Entry), (firstFail (matFields e) = none ∧ e.mM ≠ 0 ∧
      e.mN ≠ 0 ∧ e.mK ≠ 0 ∧ firstFail (s.matHandles (s.ringPlot ring) e) = none) ∧ s.takes ring idx opMATMUL e ∧
      (1 < e.mShares → s.checkVe (s.ringPlot ring) = .ok ()) ∧ s.checkWhole (s.ringPlot ring) (s.tensorOf
      (s.ringPlot ring) (e.u16 8)) = .ok () ∧ s.checkWhole (s.ringPlot ring) (s.tensorOf (s.ringPlot ring)
      (e.u16 10)) = .ok () ∧ (e.mAccum = true → s.checkWhole (s.ringPlot ring) (s.tensorOf (s.ringPlot ring)
      (e.u16 12)) = .ok () ∧ ∃ l, s.load (s.ringPlot ring) (s.tensorOf (s.ringPlot ring) (e.u16 12)) = .ok l))
    ∧ (∃ (s : State) (ring : Fin 1024) (idx : Nat) (e : Entry), (firstFail (matFields e) = none ∧ (e.mM = 0 ∨
      e.mN = 0 ∨ e.mK = 0)) ∧ s.takes ring idx opMATMUL e)
    ∧ (∃ (s : State) (ring : Fin 1024) (idx : Nat) (v : Nat) (e : Entry), (firstFail (if e.mM = 0 ∨ e.mN = 0 ∨
      e.mK = 0 then matFields e else matFields e ++ s.matHandles (s.ringPlot ring) e) = some v) ∧ s.takes ring
      idx opMATMUL e)
    ∧ (∃ (s : State) (a : Fin 48) (p : Nat), s.ownerOfEngine (a / 3) (a % 3) = some p ∧ s.groveUp (a / 3) = true
      ∧ (s.die (a / 3)).brownout = none ∧ (s.array a).tile = none ∧ s.plotState p = plotBOUND ∧ s.running = true
      ∧ ((s.nextTile p false).isSome = true ∨ (s.nextTile p true).isSome = true))
    ∧ (∃ (s : State) (a : Fin 48), s.ownerOfEngine (a / 3) (a % 3) = none)
    ∧ (∃ (s : State) (a : Fin 48) (p : Nat), s.ownerOfEngine (a / 3) (a % 3) = some p ∧ (s.groveUp (a / 3) =
      false ∨ (s.die (a / 3)).brownout ≠ none ∨ (s.array a).tile ≠ none ∨ s.plotState p ≠ plotBOUND ∨ s.running
      = false ∨ (s.nextTile p false = none ∧ s.nextTile p true = none))) :=
  ⟨⟨fetched up [(mat 0 4)], 0, 0, mat 0 4, by decide +kernel, takes_of (by decide +kernel), fun h => absurd h
    (by decide +kernel), unit_ok (by decide +kernel), unit_ok (by decide +kernel), fun h => absurd h
    (by decide +kernel)⟩,
   ⟨fetched up [(mat 0 0)], 0, 0, mat 0 0, by decide +kernel, takes_of (by decide +kernel)⟩,
   ⟨fetched up [(mat 11 4)], 0, 0, 23, mat 11 4, by decide +kernel, takes_of (by decide +kernel)⟩,
   ⟨{ inMat (mat 0 4) { tiles := [tile] } with engines := [] }, 0, 0, by decide +kernel⟩,
   ⟨up, 3, by decide +kernel⟩,
   ⟨up, 0, 0, by decide +kernel⟩⟩

/-- States and operands that meet the hypotheses of `PassesIssueCompleteOrAskForRepeats`. -/
theorem witness_passes_issue_complete_or_ask_for_repeats :
    (∃ (s : State) (a : Fin 48) (r i k : Nat) (j : MatJob) (t : Tile) (e : Entry) (tile : List (Fin 64 × Fin
      131072 × Ecc)), s.tileOn a = some (r, i, k, j, t, e) ∧ s.running = true ∧ s.groveUp (a / 3) = true ∧
      (s.die (a / 3)).brownout = none ∧ t.demand = none ∧ t.granted = none ∧ t.passes < ceilDiv t.klen (kPass
      (s.runFmts (s.ringPlot r) e (s.runCodes (s.ringPlot r) e j t.pos t.last)).1 (s.runFmts (s.ringPlot r) e
      (s.runCodes (s.ringPlot r) e j t.pos t.last)).2) ∧ s.anyStalled (s.passReads (s.ringPlot r) a e t (kPass
      (s.runFmts (s.ringPlot r) e (s.runCodes (s.ringPlot r) e j t.pos t.last)).1 (s.runFmts (s.ringPlot r) e
      (s.runCodes (s.ringPlot r) e j t.pos t.last)).2) t.passes) = false ∧ s.tileLost (s.ringPlot r) (a / 3)
      tile = false ∧ ∃ s1 xa na s2 xb nb, (s.tileReads (s.ringPlot r) (a / 3) tile).sliceA (s.ringPlot r) (a /
      3) e t (s.runCodes (s.ringPlot r) e j t.pos t.last) (kPass (s.runFmts (s.ringPlot r) e (s.runCodes
      (s.ringPlot r) e j t.pos t.last)).1 (s.runFmts (s.ringPlot r) e (s.runCodes (s.ringPlot r) e j t.pos
      t.last)).2) t.passes = .ok (s1, xa, na) ∧ s1.takeB (s.ringPlot r) a e t (s.runCodes (s.ringPlot r) e j
      t.pos t.last) (kPass (s.runFmts (s.ringPlot r) e (s.runCodes (s.ringPlot r) e j t.pos t.last)).1
      (s.runFmts (s.ringPlot r) e (s.runCodes (s.ringPlot r) e j t.pos t.last)).2) t.passes = .ok (s2, xb, nb) ∧
      (t.last = true ∨ runDemand (judged e j t (s.runCodes (s.ringPlot r) e j t.pos t.last) t.klen true
      (t.cntA.add na, t.cntB.add nb)) = 0))
    ∧ (∃ (s : State) (a : Fin 48) (r i k : Nat) (j : MatJob) (t : Tile) (e : Entry) (tile : List (Fin 64 × Fin
      131072 × Ecc)), s.tileOn a = some (r, i, k, j, t, e) ∧ s.running = true ∧ s.groveUp (a / 3) = true ∧
      (s.die (a / 3)).brownout = none ∧ t.demand = none ∧ t.granted = none ∧ t.passes < ceilDiv t.klen (kPass
      (s.runFmts (s.ringPlot r) e (s.runCodes (s.ringPlot r) e j t.pos t.last)).1 (s.runFmts (s.ringPlot r) e
      (s.runCodes (s.ringPlot r) e j t.pos t.last)).2) ∧ s.anyStalled (s.passReads (s.ringPlot r) a e t (kPass
      (s.runFmts (s.ringPlot r) e (s.runCodes (s.ringPlot r) e j t.pos t.last)).1 (s.runFmts (s.ringPlot r) e
      (s.runCodes (s.ringPlot r) e j t.pos t.last)).2) t.passes) = false ∧ s.tileLost (s.ringPlot r) (a / 3)
      tile = false ∧ ∃ s1 xa na s2 xb nb, (s.tileReads (s.ringPlot r) (a / 3) tile).sliceA (s.ringPlot r) (a /
      3) e t (s.runCodes (s.ringPlot r) e j t.pos t.last) (kPass (s.runFmts (s.ringPlot r) e (s.runCodes
      (s.ringPlot r) e j t.pos t.last)).1 (s.runFmts (s.ringPlot r) e (s.runCodes (s.ringPlot r) e j t.pos
      t.last)).2) t.passes = .ok (s1, xa, na) ∧ s1.takeB (s.ringPlot r) a e t (s.runCodes (s.ringPlot r) e j
      t.pos t.last) (kPass (s.runFmts (s.ringPlot r) e (s.runCodes (s.ringPlot r) e j t.pos t.last)).1
      (s.runFmts (s.ringPlot r) e (s.runCodes (s.ringPlot r) e j t.pos t.last)).2) t.passes = .ok (s2, xb, nb) ∧
      t.last = false ∧ runDemand (judged e j t (s.runCodes (s.ringPlot r) e j t.pos t.last) t.klen true
      (t.cntA.add na, t.cntB.add nb)) ≠ 0)
    ∧ (∃ (s : State) (a : Fin 48) (r : Nat) (i : Nat) (k : Nat) (j : MatJob) (t : Tile) (e : Entry) (tile : List
      (Fin 64 × Fin 131072 × Ecc)), s.tileOn a = some (r, i, k, j, t, e) ∧ e.stage = 2 ∧ s.running = true ∧
      s.groveUp (a / 3) = true ∧ (s.die (a / 3)).brownout = none ∧ t.demand = none ∧ t.granted = none ∧ t.passes
      < ceilDiv t.klen (kPass (s.runFmts (s.ringPlot r) e (s.runCodes (s.ringPlot r) e j t.pos t.last)).1
      (s.runFmts (s.ringPlot r) e (s.runCodes (s.ringPlot r) e j t.pos t.last)).2) ∧ s.anyStalled (s.passReads
      (s.ringPlot r) a e t (kPass (s.runFmts (s.ringPlot r) e (s.runCodes (s.ringPlot r) e j t.pos t.last)).1
      (s.runFmts (s.ringPlot r) e (s.runCodes (s.ringPlot r) e j t.pos t.last)).2) t.passes) = false ∧
      s.tileLost (s.ringPlot r) (a / 3) tile = true)
    ∧ (∃ (s : State) (a : Fin 48), s.tileOn a = none)
    ∧ (∃ (s : State) (a : Fin 48) (r : Nat) (i : Nat) (k : Nat) (j : MatJob) (t : Tile) (e : Entry), s.tileOn a
      = some (r, i, k, j, t, e) ∧ (s.running = false ∨ s.groveUp (a / 3) = false ∨ (s.die (a / 3)).brownout ≠
      none ∨ t.demand ≠ none ∨ t.granted ≠ none ∨ ceilDiv t.klen (kPass (s.runFmts (s.ringPlot r) e (s.runCodes
      (s.ringPlot r) e j t.pos t.last)).1 (s.runFmts (s.ringPlot r) e (s.runCodes (s.ringPlot r) e j t.pos
      t.last)).2) ≤ t.passes ∨ s.anyStalled (s.passReads (s.ringPlot r) a e t (kPass (s.runFmts (s.ringPlot r) e
      (s.runCodes (s.ringPlot r) e j t.pos t.last)).1 (s.runFmts (s.ringPlot r) e (s.runCodes (s.ringPlot r) e j
      t.pos t.last)).2) t.passes) = true))
    ∧ (∃ (s : State) (a : Fin 48) (r : Nat) (i : Nat) (k : Nat) (j : MatJob) (t : Tile) (e : Entry), (s.tileOn a
      = some (r, i, k, j, t, e) ∧ t.last = false ∧ (runDemand (judged e j t (s.runCodes (s.ringPlot r) e j t.pos
      t.last) t.klen false (t.cntA, t.cntB))) ≠ 0) ∧ s.runEnds a r e j t)
    ∧ (∃ (s : State) (a : Fin 48) (r : Nat) (i : Nat) (k : Nat) (j : MatJob) (t : Tile) (e : Entry), (s.tileOn a
      = some (r, i, k, j, t, e) ∧ (t.last = true ∨ runDemand (judged e j t (s.runCodes (s.ringPlot r) e j t.pos
      t.last) t.klen false (t.cntA, t.cntB)) = 0) ∧ e.mShares ≠ 1) ∧ s.runEnds a r e j t)
    ∧ (∃ (s : State) (a : Fin 48) (r : Nat) (i : Nat) (k : Nat) (j : MatJob) (t : Tile) (e : Entry), (s.tileOn a
      = some (r, i, k, j, t, e) ∧ (t.last = true ∨ runDemand (judged e j t (s.runCodes (s.ringPlot r) e j t.pos
      t.last) t.klen false (t.cntA, t.cntB)) = 0) ∧ e.mShares = 1 ∧ e.stage = 2 ∧ (s.ringPlot r) < 64) ∧
      s.runEnds a r e j t ∧ s.sound (s.ringPlot r) (e.u16 12) ∧ (e.mAccum = true → ∃ y, s.oldTile (s.ringPlot r)
      e j t = .ok y) ∧ (e.mFuse = true → s.sound (s.ringPlot r) (e.u16 14) ∧ (s.tensorOf (s.ringPlot r) (e.u16
      14)).fmt = 0xE ∧ 2 * (e.mM * ceilDiv e.mN 256) ≤ (s.tensorOf (s.ringPlot r) (e.u16 14)).count ∧ t.row0 +
      t.rows ≤ e.mM ∧ t.col0 < e.mN))
    ∧ (∃ (s : State) (a : Fin 48), s.tileOn a = none)
    ∧ (∃ (s : State) (a : Fin 48) (r : Nat) (i : Nat) (k : Nat) (j : MatJob) (t : Tile) (e : Entry), s.tileOn a
      = some (r, i, k, j, t, e) ∧ (¬ s.runEnds a r e j t)) :=
  ⟨⟨passState, 0, 0, 0, 0, passJob, tile, passEntry, [], by decide +kernel, by decide +kernel,
    by decide +kernel, by decide +kernel, by decide +kernel, by decide +kernel, by decide +kernel,
    by decide +kernel, by decide +kernel, two_ok (by decide +kernel) (by decide +kernel) (by decide +kernel)⟩,
   ⟨failState, 0, 0, 0, 0, failJob, tile, failEntry, [], by decide +kernel, by decide +kernel,
    by decide +kernel, by decide +kernel, by decide +kernel, by decide +kernel, by decide +kernel,
    by decide +kernel, by decide +kernel, two_ok (by decide +kernel) (by decide +kernel) (by decide +kernel)⟩,
   ⟨inMat ((mat 0 4)) ({ tiles := [(tile)] }), 0, 0, 0, 0, { tiles := [(tile)] }, tile, issued ((mat 0 4)),
    [(0, 0, .uncorrectable)], by and_intros <;> decide +kernel⟩,
   ⟨up, 0, by decide +kernel⟩,
   ⟨inMat ((mat 0 4)) ({ tiles := [({ tile with demand := some 1 })] }), 0, 0, 0, 0,
    { tiles := [({ tile with demand := some 1 })] }, { tile with demand := some 1 }, issued ((mat 0 4)),
    by and_intros <;> decide +kernel⟩,
   ⟨inMat ((mat 5 4))
    ({ tiles := [({ tile with passes := 1, cntA := { nf := 1, counts := { nf := 1 } } })], widthA := BitVec.ofNat 128 (2 ^ 91 + 0xB * 2 ^ 80) }),
    0, 0, 0, 0,
    { tiles := [({ tile with passes := 1, cntA := { nf := 1, counts := { nf := 1 } } })], widthA := BitVec.ofNat 128 (2 ^ 91 + 0xB * 2 ^ 80) },
    { tile with passes := 1, cntA := { nf := 1, counts := { nf := 1 } } }, issued ((mat 5 4)),
    by and_intros <;> decide +kernel, ⟨by decide +kernel, by decide +kernel, by decide +kernel,
    by decide +kernel, by decide +kernel, by decide +kernel⟩⟩,
   ⟨inMat ((mat 0 1048577)) ({ tiles := [({ tile with passes := 1 })] }), 0, 0, 0, 0,
    { tiles := [({ tile with passes := 1 })] }, { tile with passes := 1 }, issued ((mat 0 1048577)),
    by and_intros <;> decide +kernel, ⟨by decide +kernel, by decide +kernel, by decide +kernel,
    by decide +kernel, by decide +kernel, by decide +kernel⟩⟩,
   ⟨inMat ((mat 0 4)) ({ tiles := [({ tile with passes := 1 })] }), 0, 0, 0, 0,
    { tiles := [({ tile with passes := 1 })] }, { tile with passes := 1 }, issued ((mat 0 4)),
    by and_intros <;> decide +kernel, ⟨by decide +kernel, by decide +kernel, by decide +kernel,
    by decide +kernel, by decide +kernel, by decide +kernel⟩, leaseSound_of (by decide +kernel) _ _, fun h =>
    absurd h (by decide +kernel), fun h => absurd h (by decide +kernel)⟩,
   ⟨up, 0, by decide +kernel⟩,
   ⟨inMat ((mat 0 4)) ({ tiles := [(tile)] }), 0, 0, 0, 0, { tiles := [(tile)] }, tile, issued ((mat 0 4)),
    by and_intros <;> decide +kernel, fun h => absurd h.2.2.2.2.1 (by decide +kernel)⟩⟩

/-- States and operands that meet the hypotheses of `RepeatsDrawOnTheBudget`. -/
theorem witness_repeats_draw_on_the_budget :
    (∃ (s : State) (p : Fin 64) (r : Nat) (i : Nat) (k : Nat) (rest : List (Nat × Nat × Nat)) (j : MatJob) (e
      : Entry) (t : Tile), (s.plot p).requests = (r, i, k) :: rest ∧ s.job r i = some j ∧ s.entry r i = some e ∧
      j.tiles[k]? = some t ∧ e.member = false)
    ∧ (∃ (s : State) (p : Fin 64) (r : Nat) (i : Nat) (k : Nat) (rest : List (Nat × Nat × Nat)) (j : MatJob) (e
      : Entry) (t : Tile) (q : Step), (s.plot p).requests = (r, i, k) :: rest ∧ s.job r i = some j ∧ s.entry r i
      = some e ∧ j.tiles[k]? = some t ∧ e.member = true ∧ (s.plot p).step = some q ∧ q.exhausted = false ∧
      (q.repeats < s.rd (CFG_ESC_BUDGET.MIN_REPEATS p) ∨ (q.repeats + 1) * 65536 ≤ s.rd (CFG_ESC_BUDGET.FRACTION
      p) * q.tiles))
    ∧ (∃ (s : State) (p : Fin 64) (r : Nat) (i : Nat) (k : Nat) (rest : List (Nat × Nat × Nat)) (j : MatJob) (e
      : Entry) (t : Tile) (q : Step), (s.plot p).requests = (r, i, k) :: rest ∧ s.job r i = some j ∧ s.entry r i
      = some e ∧ j.tiles[k]? = some t ∧ e.member = true ∧ (s.plot p).step = some q ∧ q.exhausted = false ∧ s.rd
      (CFG_ESC_BUDGET.MIN_REPEATS p) ≤ q.repeats ∧ s.rd (CFG_ESC_BUDGET.FRACTION p) * q.tiles < (q.repeats + 1)
      * 65536)
    ∧ (∃ (s : State) (p : Fin 64) (r : Nat) (i : Nat) (k : Nat) (rest : List (Nat × Nat × Nat)) (j : MatJob) (e
      : Entry) (t : Tile) (q : Step), (s.plot p).requests = (r, i, k) :: rest ∧ s.job r i = some j ∧ s.entry r i
      = some e ∧ j.tiles[k]? = some t ∧ e.member = true ∧ (s.plot p).step = some q ∧ q.exhausted = true)
    ∧ (∃ (s : State) (p : Fin 64), (s.plot p).requests = [])
    ∧ (∃ (s : State) (a : Fin 48) (r : Nat) (i : Nat) (k : Nat) (g : Nat) (j : MatJob) (t : Tile) (e : Entry),
      s.tileOn a = some (r, i, k, j, t, e) ∧ t.granted = some g ∧ s.runAllowed (s.runCodes (s.ringPlot r) e j (g
      % 16) (t.last || decide (16 ≤ g))) = true)
    ∧ (∃ (s : State) (a : Fin 48) (r : Nat) (i : Nat) (k : Nat) (g : Nat) (j : MatJob) (t : Tile) (e : Entry),
      s.tileOn a = some (r, i, k, j, t, e) ∧ t.granted = some g ∧ s.runAllowed (s.runCodes (s.ringPlot r) e j (g
      % 16) (t.last || decide (16 ≤ g))) = false)
    ∧ (∃ (s : State) (a : Fin 48), (∀ x, s.tileOn a = some x → x.2.2.2.2.1.granted = none))
    ∧ (∃ (s : State) (ring : Fin 1024) (i : Nat) (n : Nat) (g : Nat) (x : Nat) (y : List Word) (j : MatJob) (e :
      Entry), s.entry ring i = some e ∧ s.brownedOut (s.firstVe (s.ringPlot ring) / 4) = false ∧
      s.waitsForMemory (s.ringPlot ring) e = false ∧ s.job ring i = some j ∧ j.partials[n]? = some (g, x, y) ∧
      Tab.val j.arrived g + 1 < e.mShares)
    ∧ (∃ (s : State) (ring : Fin 1024) (i : Nat) (n : Nat) (g : Nat) (x : Nat) (y : List Word) (j : MatJob) (e :
      Entry), (s.entry ring i = some e ∧ s.brownedOut (s.firstVe (s.ringPlot ring) / 4) = false ∧
      s.waitsForMemory (s.ringPlot ring) e = false ∧ s.job ring i = some j ∧ j.partials[n]? = some (g, x, y) ∧
      e.mShares ≤ Tab.val j.arrived g + 1 ∧ e.stage = 2 ∧ (s.ringPlot ring) < 64) ∧ s.sound (s.ringPlot ring)
      (e.u16 12) ∧ (e.mAccum = true → ∃ y, s.oldTile (s.ringPlot ring) e j (j.tiles.getD (g * e.mShares) {}) =
      .ok y) ∧ (e.mFuse = true → s.sound (s.ringPlot ring) (e.u16 14) ∧ (s.tensorOf (s.ringPlot ring) (e.u16
      14)).fmt = 0xE ∧ 2 * (e.mM * ceilDiv e.mN 256) ≤ (s.tensorOf (s.ringPlot ring) (e.u16 14)).count ∧
      (j.tiles.getD (g * e.mShares) {}).row0 + (j.tiles.getD (g * e.mShares) {}).rows ≤ e.mM ∧ (j.tiles.getD (g
      * e.mShares) {}).col0 < e.mN))
    ∧ (∃ (s : State) (ring : Fin 1024) (i : Nat) (n : Nat) (x : Nat) (y : List Word) (j : VecJob) (e : Entry),
      s.entry ring i = some e ∧ s.brownedOut (s.firstVe (s.ringPlot ring) / 4) = false ∧ s.waitsForMemory
      (s.ringPlot ring) e = false ∧ s.job ring i = none ∧ s.vecJob ring i = some j ∧ j.shares[n]? = some (x, y)
      ∧ 1 < j.shares.length)
    ∧ (∃ (s : State) (ring : Fin 1024) (i : Nat) (x : Nat) (y : List Word) (j : VecJob) (e : Entry), (s.entry
      ring i = some e ∧ s.brownedOut (s.firstVe (s.ringPlot ring) / 4) = false ∧ s.waitsForMemory (s.ringPlot
      ring) e = false ∧ s.job ring i = none ∧ s.vecJob ring i = some j ∧ j.shares = [(x, y)] ∧ e.stage = 2 ∧
      (s.ringPlot ring) < 64) ∧ s.leaseSound (s.ringPlot ring) ∧ (e.opcode ≠ opREDUCE → e.flag 31 7 = true →
      (s.tensorOf (s.ringPlot ring) (e.u16 20)).fmt = 0xE ∧ (s.tensorOf (s.ringPlot ring) (e.u16 22)).fmt =
      0xE))
    ∧ (∃ (s : State) (ring : Fin 1024) (i : Nat) (n : Nat), (∀ e, s.entry ring i = some e → s.brownedOut
      (s.firstVe (s.ringPlot ring) / 4) = true ∨ s.waitsForMemory (s.ringPlot ring) e = true ∨ (s.job ring i =
      none ∧ s.vecJob ring i = none) ∨ (∃ j, s.job ring i = some j ∧ j.partials.length ≤ n) ∨ (s.job ring i =
      none ∧ ∃ j, s.vecJob ring i = some j ∧ j.shares.length ≤ n))) :=
  ⟨⟨(inMat (mat 0 4) { tiles := [tile] }).modPlot 0 (fun q => { q with requests := [(0, 0, 0)] }), 0, 0, 0, 0,
    [], { tiles := [tile] }, issued (mat 0 4), tile, by decide +kernel⟩,
   ⟨(inMat { mat 0 4 with member := true } { tiles := [tile] }).modPlot 0 (fun q =>
    { q with requests := [(0, 0, 0)], step := some ({ tiles := 1048576 }) }), 0, 0, 0, 0, [],
    { tiles := [tile] }, issued { mat 0 4 with member := true }, tile, { tiles := 1048576 }, by decide +kernel⟩,
   ⟨(inMat { mat 0 4 with member := true } { tiles := [tile] }).modPlot 0 (fun q =>
    { q with requests := [(0, 0, 0)], step := some ({ repeats := 100000 }) }), 0, 0, 0, 0, [],
    { tiles := [tile] }, issued { mat 0 4 with member := true }, tile, { repeats := 100000 }, by decide +kernel⟩,
   ⟨(inMat { mat 0 4 with member := true } { tiles := [tile] }).modPlot 0 (fun q =>
    { q with requests := [(0, 0, 0)], step := some ({ exhausted := true }) }), 0, 0, 0, 0, [],
    { tiles := [tile] }, issued { mat 0 4 with member := true }, tile, { exhausted := true }, by decide +kernel⟩,
   ⟨up, 0, by decide +kernel⟩,
   ⟨inMat (mat 0 4) ({ tiles := [({ tile with granted := some 0 })] }), 0, 0, 0, 0, 0,
    { tiles := [({ tile with granted := some 0 })] }, { tile with granted := some 0 }, issued (mat 0 4),
    by decide +kernel⟩,
   ⟨put (inMat (mat 10 4)
    ({ tiles := [({ tile with granted := some 0 })], widthA := BitVec.ofNat 128 (0xA * 2 ^ 80) }))
    [(CTL_BRINGUP_STS.PHASE, 1)], 0, 0, 0, 0, 0,
    { tiles := [({ tile with granted := some 0 })], widthA := BitVec.ofNat 128 (0xA * 2 ^ 80) },
    { tile with granted := some 0 }, issued (mat 10 4), by decide +kernel⟩,
   ⟨up, 0, by decide +kernel⟩,
   ⟨inMat (mat 0 1048577) ({ partials := [(0, 0, [])] }), 0, 0, 0, 0, 0, [], { partials := [(0, 0, [])] },
    issued (mat 0 1048577), by decide +kernel⟩,
   ⟨inMat (mat 0 1048577) ({ tiles := [tile, tile], partials := [(0, 0, [0])], arrived := [(0, 1)] }), 0, 0, 0,
    0, 0, [0], { tiles := [tile, tile], partials := [(0, 0, [0])], arrived := [(0, 1)] }, issued (mat 0
    1048577), by decide +kernel, leaseSound_of (by decide +kernel) _ _, fun h => absurd h (by decide +kernel),
    fun h => absurd h (by decide +kernel)⟩,
   ⟨fetched { up with vecJobs := [({ shares := [(0, [0]), (1, [0])], total := 2 })] }
    [(issued (desc opREDUCE 0 [(8, 1), (10, 2), (16, 1), (20, 4), (23, 0x9E)]))], 0, 0, 0, 0, [0],
    { shares := [(0, [0]), (1, [0])], total := 2 }, issued (desc opREDUCE 0
    [(8, 1), (10, 2), (16, 1), (20, 4), (23, 0x9E)]), by decide +kernel⟩,
   ⟨fetched { up with vecJobs := [({ shares := [(0, [0])], total := 2 })] }
    [(issued (desc opREDUCE 0 [(8, 1), (10, 2), (16, 1), (20, 4), (23, 0x9E)]))], 0, 0, 0, [0],
    { shares := [(0, [0])], total := 2 }, issued (desc opREDUCE 0
    [(8, 1), (10, 2), (16, 1), (20, 4), (23, 0x9E)]), by decide +kernel, leaseSound_of (by decide +kernel), fun
    h => absurd h (by decide +kernel)⟩,
   ⟨up, 0, 0, 0, by decide +kernel⟩⟩

/-- States and operands that meet the hypotheses of `ElementwiseAndReduceWriteTheirOutputs`. -/
theorem witness_elementwise_and_reduce_write_their_outputs :
    (∃ (s : State) (ring : Fin 1024) (idx : Nat) (e : Entry), (firstFail (elemFields e) = none ∧ e.u32 16 ≠ 0
      ∧ e.fld 20 23 0 ≠ 0 ∧ firstFail (s.elemHandles (s.ringPlot ring) e) = none) ∧ s.takes ring idx
      opELEMENTWISE e ∧ s.checkVe (s.ringPlot ring) = .ok () ∧ (∀ u ∈ elemUses e, s.readable (s.ringPlot ring)
      u.2.1 u.2.2) ∧ s.sound (s.ringPlot ring) (e.u16 14))
    ∧ (∃ (s : State) (ring : Fin 1024) (idx : Nat) (e : Entry), (firstFail (elemFields e) = none ∧ (e.u32 16 = 0
      ∨ e.fld 20 23 0 = 0)) ∧ s.takes ring idx opELEMENTWISE e)
    ∧ (∃ (s : State) (ring : Fin 1024) (idx : Nat) (v : Nat) (e : Entry), (firstFail (if e.u32 16 = 0 ∨ e.fld 20
      23 0 = 0 then elemFields e else elemFields e ++ s.elemHandles (s.ringPlot ring) e) = some v) ∧ s.takes
      ring idx opELEMENTWISE e)
    ∧ (∃ (s : State) (ring : Fin 1024) (idx : Nat) (e : Entry), (firstFail (reduceFields e) = none ∧
      (reduceShape e).1 ≠ 0 ∧ firstFail (s.reduceHandles (s.ringPlot ring) e) = none ∧ (e.rVe = false →
      s.arraysOf (s.ringPlot ring) ≠ [] ∧ (reduceShape e).2 ≤ kMax)) ∧ s.takes ring idx opREDUCE e ∧ (e.rVe =
      true → s.checkVe (s.ringPlot ring) = .ok ()) ∧ ((reduceShape e).2 = 0 ∨ (e.rVe = true ∧ s.readable
      (s.ringPlot ring) (e.u16 8) (e.u32 16 * e.fld 20 23 0)) ∨ ∃ o, e.rVe = false ∧ s.operand (s.ringPlot ring)
      (s.tensorOf (s.ringPlot ring) (e.u16 8)) false 0 (e.u32 16) 0 (e.fld 20 23 0) none none = .ok o) ∧ s.sound
      (s.ringPlot ring) (e.u16 10) ∧ (e.rWins = true → s.sound (s.ringPlot ring) (e.u16 12)))
    ∧ (∃ (s : State) (ring : Fin 1024) (idx : Nat) (e : Entry), (firstFail (reduceFields e) = none ∧
      (reduceShape e).1 = 0 ∧ (e.rVe = false → s.arraysOf (s.ringPlot ring) ≠ [])) ∧ s.takes ring idx opREDUCE
      e)
    ∧ (∃ (s : State) (ring : Fin 1024) (idx : Nat) (v : Nat) (e : Entry), ((e.rVe = false → s.arraysOf
      (s.ringPlot ring) ≠ []) ∧ firstFail (if (reduceShape e).1 = 0 then reduceFields e else reduceFields e ++
      s.reduceHandles (s.ringPlot ring) e) = some v) ∧ s.takes ring idx opREDUCE e)
    ∧ (∃ (s : State) (ring : Fin 1024) (idx : Nat) (e : Entry), s.mayIssue ring idx opREDUCE = some e ∧ e.rVe =
      false ∧ s.arraysOf (s.ringPlot ring) = [])
    ∧ (∃ (s : State) (ring : Fin 1024) (idx : Nat), s.mayIssue ring idx opREDUCE = none) :=
  ⟨⟨fetched up [(rowOp opELEMENTWISE [(8, 1), (14, 2)])], 0, 0, rowOp opELEMENTWISE [(8, 1), (14, 2)],
    by decide +kernel, takes_of (by decide +kernel), unit_ok (by decide +kernel), all_readable
    (by decide +kernel), leaseSound_of (by decide +kernel) _ _⟩,
   ⟨fetched up [(desc opELEMENTWISE 0 [(23, 0xE)])], 0, 0, desc opELEMENTWISE 0 [(23, 0xE)], by decide +kernel,
    takes_of (by decide +kernel)⟩,
   ⟨fetched up [(desc opELEMENTWISE 0 [])], 0, 0, 23, desc opELEMENTWISE 0 [], by decide +kernel, takes_of
    (by decide +kernel)⟩,
   ⟨fetched up [(desc opREDUCE 0 [(8, 1), (10, 2), (16, 1), (20, 4), (23, 0x9E)])], 0, 0, desc opREDUCE 0
    [(8, 1), (10, 2), (16, 1), (20, 4), (23, 0x9E)], by decide +kernel, takes_of (by decide +kernel), fun _ =>
    unit_ok (by decide +kernel), .inr (.inl ⟨by decide +kernel, ok_of (by decide +kernel)⟩), leaseSound_of
    (by decide +kernel) _ _, fun h => absurd h (by decide +kernel)⟩,
   ⟨fetched up [(desc opREDUCE 0 [(8, 1), (10, 2), (23, 0x9E)])], 0, 0, desc opREDUCE 0
    [(8, 1), (10, 2), (23, 0x9E)], by decide +kernel, takes_of (by decide +kernel)⟩,
   ⟨fetched up [(desc opREDUCE 0 [(8, 1), (10, 2), (16, 1), (20, 4), (23, 0xBE)])], 0, 0, 12, desc opREDUCE 0
    [(8, 1), (10, 2), (16, 1), (20, 4), (23, 0xBE)], by decide +kernel, takes_of (by decide +kernel)⟩,
   ⟨fetched (put up [(PLOT_ARRAYS_LO.ARRAYS_LO 0, 0)])
    [(desc opREDUCE 0 [(8, 1), (10, 2), (16, 1), (20, 4), (23, 0x1E)])], 0, 0, desc opREDUCE 0
    [(8, 1), (10, 2), (16, 1), (20, 4), (23, 0x1E)], by decide +kernel⟩,
   ⟨fetched up [(desc opELEMENTWISE 0 [])], 0, 0, by decide +kernel⟩⟩

/-- States and operands that meet the hypotheses of `NormsAndSoftmaxesWriteTheirOutputs`. -/
theorem witness_norms_and_softmaxes_write_their_outputs :
    (∃ (s : State) (ring : Fin 1024) (idx : Nat) (e : Entry), (firstFail (normFields e) = none ∧ e.u32 24 ≠ 0
      ∧ e.nCols ≠ 0 ∧ firstFail (s.fwdHandles (s.ringPlot ring) e) = none) ∧ s.takes ring idx opNORMFWD e ∧
      s.checkVe (s.ringPlot ring) = .ok () ∧ s.readable (s.ringPlot ring) (e.u16 8) (e.u32 24 * e.nCols) ∧
      (e.nGamma = true → s.readable (s.ringPlot ring) (e.u16 14) e.nCols) ∧ (e.nBeta = true → s.readable
      (s.ringPlot ring) (e.u16 16) e.nCols) ∧ s.sound (s.ringPlot ring) (e.u16 10) ∧ s.sound (s.ringPlot ring)
      (e.u16 12))
    ∧ (∃ (s : State) (ring : Fin 1024) (idx : Nat) (e : Entry), (firstFail (normFields e) = none ∧ e.u32 24 ≠ 0
      ∧ e.nCols ≠ 0 ∧ firstFail (s.bwdHandles (s.ringPlot ring) e) = none) ∧ s.takes ring idx opNORMBWD e ∧
      s.checkVe (s.ringPlot ring) = .ok () ∧ s.readable (s.ringPlot ring) (e.u16 8) (e.u32 24 * e.nCols) ∧
      s.readable (s.ringPlot ring) (e.u16 10) (e.u32 24 * e.nCols) ∧ s.readable (s.ringPlot ring) (e.u16 12) (2
      * e.u32 24) ∧ (e.nGamma = true → s.readable (s.ringPlot ring) (e.u16 14) e.nCols) ∧ s.sound (s.ringPlot
      ring) (e.u16 18) ∧ (e.nGamma = true → s.sound (s.ringPlot ring) (e.u16 20)) ∧ (e.nBeta = true → s.sound
      (s.ringPlot ring) (e.u16 22)))
    ∧ (∃ (s : State) (ring : Fin 1024) (idx : Nat) (e : Entry), (firstFail (softFields e) = none ∧ e.u32 16 ≠ 0
      ∧ e.fld 20 23 0 ≠ 0 ∧ firstFail (s.softHandles (s.ringPlot ring) e true) = none) ∧ s.takes ring idx
      opSOFTMAXFWD e ∧ s.checkVe (s.ringPlot ring) = .ok () ∧ s.readable (s.ringPlot ring) (e.u16 8) (e.u32 16 *
      e.fld 20 23 0) ∧ (e.flag 23 4 = true → s.readable (s.ringPlot ring) (e.u16 10) (2 * e.u32 16 * ceilDiv
      (e.fld 20 23 0) 256)) ∧ s.sound (s.ringPlot ring) (e.u16 12))
    ∧ (∃ (s : State) (ring : Fin 1024) (idx : Nat) (e : Entry), (firstFail (softFields e) = none ∧ e.u32 16 ≠ 0
      ∧ e.fld 20 23 0 ≠ 0 ∧ firstFail (s.softHandles (s.ringPlot ring) e false) = none) ∧ s.takes ring idx
      opSOFTMAXBWD e ∧ s.checkVe (s.ringPlot ring) = .ok () ∧ s.readable (s.ringPlot ring) (e.u16 8) (e.u32 16 *
      e.fld 20 23 0) ∧ s.readable (s.ringPlot ring) (e.u16 10) (e.u32 16 * e.fld 20 23 0) ∧ s.sound (s.ringPlot
      ring) (e.u16 12)) :=
  ⟨⟨fetched up [(desc opNORMFWD 0 [(8, 1), (10, 2), (12, 3), (24, 1), (28, 4), (31, 0xE)])], 0, 0, desc
    opNORMFWD 0 [(8, 1), (10, 2), (12, 3), (24, 1), (28, 4), (31, 0xE)], by decide +kernel, takes_of
    (by decide +kernel), unit_ok (by decide +kernel), ok_of (by decide +kernel), fun h => absurd h
    (by decide +kernel), fun h => absurd h (by decide +kernel), leaseSound_of (by decide +kernel) _ _,
    leaseSound_of (by decide +kernel) _ _⟩,
   ⟨fetched up [(desc opNORMBWD 0 [(8, 1), (10, 2), (12, 3), (18, 4), (24, 1), (28, 4), (31, 0xE)])], 0, 0,
    desc opNORMBWD 0 [(8, 1), (10, 2), (12, 3), (18, 4), (24, 1), (28, 4), (31, 0xE)], by decide +kernel,
    takes_of (by decide +kernel), unit_ok (by decide +kernel), ok_of (by decide +kernel), ok_of
    (by decide +kernel), ok_of (by decide +kernel), fun h => absurd h (by decide +kernel), leaseSound_of
    (by decide +kernel) _ _, fun h => absurd h (by decide +kernel), fun h => absurd h (by decide +kernel)⟩,
   ⟨fetched up [(rowOp opSOFTMAXFWD [(8, 1), (12, 2)])], 0, 0, rowOp opSOFTMAXFWD [(8, 1), (12, 2)],
    by decide +kernel, takes_of (by decide +kernel), unit_ok (by decide +kernel), ok_of (by decide +kernel), fun
    h => absurd h (by decide +kernel), leaseSound_of (by decide +kernel) _ _⟩,
   ⟨fetched up [(rowOp opSOFTMAXBWD [(8, 1), (10, 3), (12, 2)])], 0, 0, rowOp opSOFTMAXBWD
    [(8, 1), (10, 3), (12, 2)], by decide +kernel, takes_of (by decide +kernel), unit_ok (by decide +kernel),
    ok_of (by decide +kernel), ok_of (by decide +kernel), leaseSound_of (by decide +kernel) _ _⟩⟩

/-- States and operands that meet the hypotheses of `NopsOpenStepsAndDescriptorsReachTheHead`. -/
theorem witness_nops_open_steps_and_descriptors_reach_the_head :
    (∃ (s : State) (ring : Fin 1024) (idx : Nat) (e : Entry), e.stepOpen = false ∧ s.takes ring idx opNOP e)
    ∧ (∃ (s : State) (ring : Fin 1024) (idx : Nat) (st : Nat) (e : Entry), s.mayIssue ring idx opNOP = some e ∧
      e.stepOpen = false ∧ s.memberStop (s.ringPlot ring) e = some st)
    ∧ (∃ (s : State) (ring : Fin 1024) (idx : Nat), (s.mayIssue ring idx opNOP = none ∨ (∃ e, s.entry ring idx =
      some e ∧ e.stepOpen = true)))
    ∧ (∃ (s : State) (ring : Fin 1024) (idx : Nat) (e : Entry), (e.stepOpen = true ∧ (s.plot (s.ringPlot
      ring)).step = none ∧ firstFail (s.openFields (s.ringPlot ring) e) = none) ∧ s.takes ring idx opNOP e)
    ∧ (∃ (s : State) (ring : Fin 1024) (idx : Nat) (v : Nat) (e : Entry), (e.stepOpen = true ∧ (s.plot
      (s.ringPlot ring)).step = none ∧ firstFail (s.openFields (s.ringPlot ring) e) = some v) ∧ s.takes ring idx
      opNOP e)
    ∧ (∃ (s : State) (ring : Fin 1024) (idx : Nat), ((∀ e, s.entry ring idx = some e → e.stepOpen = false) ∨
      (s.plot (s.ringPlot ring)).step ≠ none ∨ s.mayIssue ring idx opNOP = none))
    ∧ (∃ (s : State) (ring : Fin 1024) (idx : Nat) (e : Entry), (s.entry ring idx = some e ∧ e.stage = 0 ∧ s.rd
      (RING_STS.STATE ring) = 1 ∧ s.plotState (s.ringPlot ring) = plotBOUND) ∧ (∀ f ∈ (s.ring
      ring).entries.takeWhile (fun f => decide (f.idx ≠ idx)), f.hasIssued = true))
    ∧ (∃ (s : State) (ring : Fin 1024) (idx : Nat), (∀ e, s.entry ring idx = some e → e.stage ≠ 0 ∨ (∃ f ∈
      (s.ring ring).entries.takeWhile (fun f => decide (f.idx ≠ idx)), f.hasIssued = false) ∨ s.rd
      (RING_STS.STATE ring) ≠ 1 ∨ s.plotState (s.ringPlot ring) ≠ plotBOUND)) :=
  ⟨⟨fetched up [(desc opNOP 0 [])], 0, 0, desc opNOP 0 [], by decide +kernel, takes_of (by decide +kernel)⟩,
   ⟨(fetched up [(desc opNOP 4 [])]).modPlot 0 (fun q => { q with step := some ({ refused := true }) }), 0, 0,
    0x20, desc opNOP 4 [], by decide +kernel⟩,
   ⟨up, 0, 0, .inl (by decide +kernel)⟩,
   ⟨fetched up [(desc opNOP 8 [])], 0, 0, desc opNOP 8 [], by decide +kernel, takes_of (by decide +kernel)⟩,
   ⟨fetched up [(desc opNOP 8 [(16, 1)])], 0, 0, 16, desc opNOP 8 [(16, 1)], by decide +kernel, takes_of
    (by decide +kernel)⟩,
   ⟨fetched up [(desc opNOP 0 [])], 0, 0, by decide +kernel⟩,
   ⟨fetched up [finished (desc opFENCE 0 []), ({ desc opNOP 0 [] with idx := 1, stage := 0 })], 0, 1,
    { desc opNOP 0 [] with idx := 1, stage := 0 }, by decide +kernel, all_later (by decide +kernel)⟩,
   ⟨up, 0, 0, none_all (by decide +kernel)⟩⟩

/-- States and operands that meet the hypotheses of `StepsCloseTimeOutAndReport`. -/
theorem witness_steps_close_time_out_and_report :
    (∃ (s : State) (ring : Fin 1024) (idx : Nat) (e : Entry) (k : Step), s.entry ring idx = some e ∧ e.stage =
      3 ∧ e.member = true ∧ e.stepClose = true ∧ (s.plot (s.ringPlot ring)).step = some k)
    ∧ (∃ (s : State) (ring : Fin 1024) (idx : Nat), (∀ e, s.entry ring idx = some e → e.stage ≠ 3 ∨ e.member =
      false ∨ e.stepClose = false ∨ (s.plot (s.ringPlot ring)).step = none))
    ∧ (∃ (s : State) (p : Fin 64) (k : Step) (g : Gate), (s.plot p).step = some k ∧ k.deadline ≤ s.now ∧
      k.timedOut = false ∧ bit k.flags.toNat 8 = false ∧ k.gate = some g ∧ g.begun = true)
    ∧ (∃ (s : State) (p : Fin 64) (k : Step), (s.plot p).step = some k ∧ k.deadline ≤ s.now ∧ k.timedOut = false
      ∧ bit k.flags.toNat 8 = false ∧ (∀ g, k.gate = some g → g.begun = false) ∧ (k.members ≠ k.admitted ∨
      k.closing = true))
    ∧ (∃ (s : State) (p : Fin 64) (k : Step), ((s.plot p).step = some k ∧ k.deadline ≤ s.now ∧ k.timedOut =
      false ∧ bit k.flags.toNat 8 = false ∧ k.members = k.admitted ∧ k.closing = false) ∧ (∀ g, k.gate = some g
      → g.begun = false))
    ∧ (∃ (s : State) (p : Fin 64), (∀ k, (s.plot p).step = some k → s.now < k.deadline ∨ k.timedOut = true ∨ bit
      k.flags.toNat 8 = true))
    ∧ (∃ (s : State) (node : Fin 1024) (n : Fin 1024) (lease : Nat), s.mgr.managerNode = some s.node ∧ n.val ∈
      Tab.val s.mgr.leases lease ∧ n ≠ node ∧ (∀ x ∈ Tab.val s.mgr.reports lease, x.node ≠ n.val))
    ∧ (∃ (s : State) (node : Fin 1024) (lease : Nat) (total : Nat) (failed : Bool), s.mgr.managerNode = some
      s.node ∧ (∀ n ∈ Tab.val s.mgr.leases lease, ∃ x ∈ ((Tab.val s.mgr.reports lease).filter (fun x => decide
      (x.node ≠ node.val)) ++ [{ node := node, total := total, failed := failed }]), x.node = n))
    ∧ (∃ (s : State), s.mgr.managerNode ≠ some s.node) :=
  ⟨⟨(fetched up [finished (desc opNOP 0x14 [])]).modPlot 0 (fun q => { q with step := some ({}) }), 0, 0,
    finished (desc opNOP 0x14 []), {}, by decide +kernel⟩,
   ⟨up, 0, 0, none_all (by decide +kernel)⟩,
   ⟨(fetched up [desc opNOP 0 []]).modPlot 0 (fun q =>
    { q with step := some ({ gate := some ({ begun := true }) }) }), 0, { gate := some ({ begun := true }) },
    { begun := true }, by decide +kernel⟩,
   ⟨(fetched up [desc opNOP 0 []]).modPlot 0 (fun q => { q with step := some ({ closing := true }) }), 0,
    { closing := true }, by decide +kernel⟩,
   ⟨(fetched up [(desc opNOP 0 [])]).modPlot 0 (fun q => { q with step := some ({}) }), 0, {},
    by decide +kernel, none_all (by decide +kernel)⟩,
   ⟨up, 0, none_all (by decide +kernel)⟩,
   ⟨{ up with mgr := { managerNode := some 1, leases := [(0, [2, 3])] } }, 3, 2, 0, by decide +kernel⟩,
   ⟨{ up with mgr := { managerNode := some 1, leases := [(0, [3])] } }, 3, 0, 0, false, by decide +kernel,
    by decide +kernel⟩,
   ⟨{ up with mgr := { managerNode := some 7 } }, by decide +kernel⟩⟩

/-- States and operands that meet the hypotheses of `TheUpdateGateOpensAndRegionsCommit`. -/
theorem witness_the_update_gate_opens_and_regions_commit :
    (∃ (s : State) (ring : Fin 1024) (idx : Nat) (e : Entry) (k : Step) (rs : List Region), (e.member = true ∧
      (s.plot (s.ringPlot ring)).step = some k ∧ k.gateAt = some e.order ∧ k.gate = none ∧ s.workPending
      (s.ringPlot ring) e.order = false ∧ k.memberFailed = false ∧ s.undrained k = false ∧ (k.barrier = true →
      k.report = true ∧ k.answer = some false) ∧ (k.skipNf = true → (if k.barrier = true then k.totalNf else
      k.nonfinite) = 0)) ∧ s.takes ring idx opUPDATE e ∧ s.gateRegions (s.ringPlot ring) e = .ok rs)
    ∧ (∃ (s : State) (ring : Fin 1024) (idx : Nat) (e : Entry) (k : Step), (e.member = true ∧ (s.plot
      (s.ringPlot ring)).step = some k ∧ k.gateAt = some e.order ∧ k.gate = none ∧ s.workPending (s.ringPlot
      ring) e.order = false ∧ (k.barrier = true → k.report = true ∧ k.answer ≠ none) ∧ (k.memberFailed = true ∨
      s.undrained k = true ∨ (k.barrier = true ∧ k.answer = some true))) ∧ s.takes ring idx opUPDATE e)
    ∧ (∃ (s : State) (ring : Fin 1024) (idx : Nat) (e : Entry) (k : Step), (e.member = true ∧ (s.plot
      (s.ringPlot ring)).step = some k ∧ k.gateAt = some e.order ∧ k.gate = none ∧ s.workPending (s.ringPlot
      ring) e.order = false ∧ (k.barrier = true → k.report = true ∧ k.answer = some false) ∧ k.memberFailed =
      false ∧ s.undrained k = false ∧ k.skipNf = true ∧ (if k.barrier = true then k.totalNf else k.nonfinite) ≠
      0) ∧ s.takes ring idx opUPDATE e)
    ∧ (∃ (s : State) (ring : Fin 1024) (idx : Nat) (e : Entry) (k : Step), (e.member = true ∧ (s.plot
      (s.ringPlot ring)).step = some k ∧ k.gateAt = some e.order ∧ k.gate = none ∧ s.workPending (s.ringPlot
      ring) e.order = false ∧ k.barrier = true ∧ k.report = true ∧ k.answer = none) ∧ s.takes ring idx opUPDATE
      e)
    ∧ (∃ (s : State) (ring : Fin 1024) (idx : Nat) (st : Nat) (e : Entry) (k : Step), s.mayIssue ring idx
      opUPDATE = some e ∧ s.memberStop (s.ringPlot ring) e = some st ∧ e.member = true ∧ (s.plot (s.ringPlot
      ring)).step = some k ∧ k.gateAt = some e.order ∧ k.gate = none ∧ (k.barrier = true → k.report = true))
    ∧ (∃ (s : State) (ring : Fin 1024) (idx : Nat), (∀ e, s.mayIssue ring idx opUPDATE = some e → e.member =
      false ∨ (s.stepOf (s.ringPlot ring)).gateAt ≠ some e.order ∨ (s.stepOf (s.ringPlot ring)).gate ≠ none ∨
      (s.memberStop (s.ringPlot ring) e = none ∧ s.workPending (s.ringPlot ring) e.order = true)))
    ∧ (∃ (s : State) (ring : Fin 1024) (idx : Nat) (e : Entry) (k : Step) (g : Gate) (st : BitVec 8), (e.member
      = true ∧ (s.plot (s.ringPlot ring)).step = some k ∧ k.gate = some g ∧ g.skip = some st) ∧ s.takes ring idx
      opUPDATE e)
    ∧ (∃ (s : State) (ring : Fin 1024) (idx : Nat) (e : Entry), (e.member = true ∧ (s.stepOf (s.ringPlot
      ring)).gate = none) ∧ s.takes ring idx opUPDATE e)
    ∧ (∃ (s : State) (ring : Fin 1024) (idx : Nat), s.mayIssue ring idx opUPDATE = none)
    ∧ (∃ (s : State) (ring : Fin 1024) (idx : Nat) (st : Nat) (e : Entry), s.mayIssue ring idx opUPDATE = some e
      ∧ s.memberStop (s.ringPlot ring) e = some st ∧ (s.stepOf (s.ringPlot ring)).gateAt ≠ some e.order)
    ∧ (∃ (s : State) (ring : Fin 1024) (idx : Nat) (e : Entry), (e.member = false ∧ firstFail
      [e.reserved updateUsed, (20, nonFinite e.gscale)] = none ∧ e.u16 12 = 0) ∧ s.takes ring idx opUPDATE e)
    ∧ (∃ (s : State) (ring : Fin 1024) (idx : Nat) (v : Nat) (e : Entry), (e.member = false ∧ firstFail
      ([e.reserved updateUsed, (20, nonFinite e.gscale)] ++ if e.u16 12 = 0 then [] else
      [(8, s.badTable (s.ringPlot ring) (e.u16 8) (e.u16 10 + e.u16 12))]) = some v) ∧ s.takes ring idx opUPDATE
      e)
    ∧ (∃ (s : State) (ring : Fin 1024) (idx : Nat) (e : Entry) (r : Region), (e.member = false ∧ firstFail
      [e.reserved updateUsed, (20, nonFinite e.gscale)] = none ∧ e.u16 12 = 1 ∧ s.badTable (s.ringPlot ring)
      (e.u16 8) (e.u16 10 + 1) = false ∧ e.regions = some [r] ∧ r.frozen = true) ∧ s.takes ring idx opUPDATE e)
    ∧ (∃ (s : State) (ring : Fin 1024) (idx : Nat) (e : Entry) (r : Region), (e.member = false ∧ firstFail
      [e.reserved updateUsed, (20, nonFinite e.gscale)] = none ∧ e.u16 12 = 1 ∧ s.badTable (s.ringPlot ring)
      (e.u16 8) (e.u16 10 + 1) = false ∧ e.regions = some [r] ∧ r.frozen = false ∧ (r.rule = 1 ∨ r.rule = 2) ∧
      r.lazy = false) ∧ s.takes ring idx opUPDATE e ∧ s.checkVe (s.ringPlot ring) = .ok () ∧ s.leaseSound
      (s.ringPlot ring) ∧ (∀ q ∈ regionPieces r none, (∃ l, s.elems (s.ringPlot ring) (s.tensorOf (s.ringPlot
      ring) (r.h 2)) q.idx = .ok l) ∧ (∃ l, s.elems (s.ringPlot ring) (s.tensorOf (s.ringPlot ring) (r.h 4))
      (q.idx.map (· + r.goff)) = .ok l) ∧ (r.hasM = true → ∃ l, s.elems (s.ringPlot ring) (s.tensorOf
      (s.ringPlot ring) (r.h 6)) q.idx = .ok l) ∧ (r.rule = 2 → ∃ l, s.elems (s.ringPlot ring) (s.tensorOf
      (s.ringPlot ring) (r.h 8)) q.idx = .ok l)))
    ∧ (∃ (s : State) (ring : Fin 1024) (idx : Nat) (e : Entry) (r : Region), (e.member = false ∧ firstFail
      [e.reserved updateUsed, (20, nonFinite e.gscale)] = none ∧ e.u16 12 = 1 ∧ s.badTable (s.ringPlot ring)
      (e.u16 8) (e.u16 10 + 1) = false ∧ e.regions = some [r] ∧ r.frozen = false ∧ (∀ h ∈
      [r.h 2, r.h 4, r.h 6, r.h 8, r.h 10, r.h 12], isNarrow (s.tensorOf (s.ringPlot ring) h).fmt = false)) ∧
      s.takes ring idx opUPDATE e ∧ s.checkVe (s.ringPlot ring) = .ok () ∧ s.leaseSound (s.ringPlot ring) ∧
      (r.lazy = true → ∃ l, s.touched (s.ringPlot ring) r = .ok l)) :=
  ⟨⟨{ (fetched up [{ desc opUPDATE 4 [(8, 11), (16, 1)] with order := 1 }]).modPlot 0 (fun q => { q with step := some ({ gateAt := some 1 }) }) with hbm := regionMem 0 },
    0, 0, { desc opUPDATE 4 [(8, 11), (16, 1)] with order := 1 }, { gateAt := some 1 }, [region 0],
    by decide +kernel, takes_of (by decide +kernel), ok_is (by decide +kernel)⟩,
   ⟨(fetched up [{ desc opUPDATE 4 [(8, 11), (16, 1)] with order := 1 }]).modPlot 0 (fun q =>
    { q with step := some ({ gateAt := some 1, flags := 1, failRing := 0 }) }), 0, 0,
    { desc opUPDATE 4 [(8, 11), (16, 1)] with order := 1 }, { gateAt := some 1, flags := 1, failRing := 0 },
    by decide +kernel, takes_of (by decide +kernel)⟩,
   ⟨{ (fetched up [({ desc opUPDATE 4 [(8, 11), (16, 1)] with order := 1 })]).modPlot 0 (fun q => { q with step := some ({ gateAt := some 1, skipNf := true, nonfinite := 1 }) }) with hbm := regionMem 0 },
    0, 0, { desc opUPDATE 4 [(8, 11), (16, 1)] with order := 1 },
    { gateAt := some 1, skipNf := true, nonfinite := 1 }, by decide +kernel, takes_of (by decide +kernel)⟩,
   ⟨(fetched up [({ desc opUPDATE 4 [(8, 11), (16, 1)] with order := 1 })]).modPlot 0 (fun q =>
    { q with step := some ({ gateAt := some 1, barrier := true, report := true }) }), 0, 0,
    { desc opUPDATE 4 [(8, 11), (16, 1)] with order := 1 },
    { gateAt := some 1, barrier := true, report := true }, by decide +kernel, takes_of (by decide +kernel)⟩,
   ⟨(fetched up [({ desc opUPDATE 4 [(8, 11), (16, 1)] with order := 1 })]).modPlot 0 (fun q =>
    { q with step := some ({ gateAt := some 1, refused := true }) }), 0, 0, 0x20,
    { desc opUPDATE 4 [(8, 11), (16, 1)] with order := 1 }, { gateAt := some 1, refused := true },
    by decide +kernel⟩,
   ⟨fetched up [(desc opUPDATE 0 [])], 0, 0, by decide +kernel⟩,
   ⟨(fetched up [desc opUPDATE 4 []]).modPlot 0 (fun q =>
    { q with step := some ({ gate := some ({ skip := some (0x22) }) }) }), 0, 0, desc opUPDATE 4 [],
    { gate := some ({ skip := some (0x22) }) }, { skip := some (0x22) }, 0x22, by decide +kernel, takes_of
    (by decide +kernel)⟩,
   ⟨(fetched up [({ desc opUPDATE 4 [(8, 11), (16, 1)] with order := 1 })]).modPlot 0 (fun q =>
    { q with step := some ({ gateAt := some 0 }) }), 0, 0,
    { desc opUPDATE 4 [(8, 11), (16, 1)] with order := 1 }, by decide +kernel, takes_of (by decide +kernel)⟩,
   ⟨up, 0, 0, by decide +kernel⟩,
   ⟨(fetched up [({ desc opUPDATE 4 [(8, 11), (16, 1)] with order := 1 })]).modPlot 0 (fun q =>
    { q with step := some ({ refused := true }) }), 0, 0, 0x20,
    { desc opUPDATE 4 [(8, 11), (16, 1)] with order := 1 }, by decide +kernel⟩,
   ⟨fetched up [(desc opUPDATE 0 [])], 0, 0, desc opUPDATE 0 [], by decide +kernel, takes_of
    (by decide +kernel)⟩,
   ⟨fetched up [(desc opUPDATE 0 [(8, 30), (12, 1)])], 0, 0, 8, desc opUPDATE 0 [(8, 30), (12, 1)],
    by decide +kernel, takes_of (by decide +kernel)⟩,
   ⟨fetched { up with hbm := regionMem 16 }
    [({ desc opUPDATE 0 [(8, 11), (12, 1)] with regions := some [(region 16)] })], 0, 0,
    { desc opUPDATE 0 [(8, 11), (12, 1)] with regions := some [(region 16)] }, region 16, by decide +kernel,
    takes_of (by decide +kernel)⟩,
   ⟨fetched { up with hbm := regionMem 0 }
    [({ desc opUPDATE 0 [(8, 11), (12, 1)] with regions := some [(region 0)] })], 0, 0,
    { desc opUPDATE 0 [(8, 11), (12, 1)] with regions := some [(region 0)] }, region 0, by decide +kernel,
    takes_of (by decide +kernel), unit_ok (by decide +kernel), leaseSound_of (by decide +kernel), pieces_read
    (by decide +kernel) (by decide +kernel) (by decide +kernel)⟩,
   ⟨fetched { up with hbm := regionMem 0 }
    [({ desc opUPDATE 0 [(8, 11), (12, 1)] with regions := some [(region 0)] })], 0, 0,
    { desc opUPDATE 0 [(8, 11), (12, 1)] with regions := some [(region 0)] }, region 0, by decide +kernel,
    takes_of (by decide +kernel), unit_ok (by decide +kernel), leaseSound_of (by decide +kernel), fun h =>
    absurd h (by decide +kernel)⟩⟩

/-- States and operands that meet the hypotheses of `StashPushesAndPops`. -/
theorem witness_stash_pushes_and_pops :
    (∃ (s : State) (ring : Fin 1024) (idx : Nat) (e : Entry) (rows : List Nat) (es : List StashEntry), (e.fld
      20 18 9 ≠ 0 ∧ (s.plot (s.ringPlot ring)).level + sumNat (es.map (fun x => x.size)) ≤ (if e.member then
      (s.stepOf (s.ringPlot ring)).budget * stashUnit else s.freeStash (s.ringPlot ring))) ∧ s.takes ring idx
      opPUSH e ∧ s.stashChecks (s.ringPlot ring) e = .ok rows ∧ s.pushEntries (s.ringPlot ring) e (s.tensorOf
      (s.ringPlot ring) (e.u16 8)) rows = .ok es)
    ∧ (∃ (s : State) (ring : Fin 1024) (idx : Nat) (e : Entry) (rows : List Nat) (es : List StashEntry) (es' :
      List StashEntry), (e.fld 20 18 9 ≠ 0 ∧ (if e.member then (s.stepOf (s.ringPlot ring)).budget * stashUnit
      else s.freeStash (s.ringPlot ring)) < (s.plot (s.ringPlot ring)).level + sumNat (es.map (fun x => x.size))
      ∧ s.rd (CFG_STASH_OVERFLOW.POLICY (s.ringPlot ring)) ≠ 0 ∧ s.spillEntries (s.ringPlot ring) (s.spillUsed
      (s.ringPlot ring)) es = some es') ∧ s.takes ring idx opPUSH e ∧ s.stashChecks (s.ringPlot ring) e = .ok
      rows ∧ s.pushEntries (s.ringPlot ring) e (s.tensorOf (s.ringPlot ring) (e.u16 8)) rows = .ok es)
    ∧ (∃ (s : State) (ring : Fin 1024) (idx : Nat) (e : Entry) (rows : List Nat) (es : List StashEntry), (e.fld
      20 18 9 ≠ 0 ∧ (if e.member then (s.stepOf (s.ringPlot ring)).budget * stashUnit else s.freeStash
      (s.ringPlot ring)) < (s.plot (s.ringPlot ring)).level + sumNat (es.map (fun x => x.size)) ∧ (s.rd
      (CFG_STASH_OVERFLOW.POLICY (s.ringPlot ring)) = 0 ∨ s.spillEntries (s.ringPlot ring) (s.spillUsed
      (s.ringPlot ring)) es = none)) ∧ s.takes ring idx opPUSH e ∧ s.stashChecks (s.ringPlot ring) e = .ok rows
      ∧ s.pushEntries (s.ringPlot ring) e (s.tensorOf (s.ringPlot ring) (e.u16 8)) rows = .ok es)
    ∧ (∃ (s : State) (ring : Fin 1024) (idx : Nat) (st : Nat) (v : Nat) (e : Entry), e.fld 20 18 9 ≠ 0 ∧ s.takes
      ring idx opPUSH e ∧ s.stashChecks (s.ringPlot ring) e = .error (.code st v))
    ∧ (∃ (s : State) (ring : Fin 1024) (idx : Nat) (e : Entry) (rows : List Nat) (tops : List StashEntry),
      (e.fld 20 18 9 ≠ 0 ∧ ((List.range (e.fld 20 18 9)).map (· + e.fld 20 8 0)).filterMap (fun k => (s.slot
      k).head?) = tops ∧ tops.length = ((List.range (e.fld 20 18 9)).map (· + e.fld 20 8 0)).length ∧ (∀ x ∈
      tops, x.tag = e.u16 10 ∧ x.fmt = (s.tensorOf (s.ringPlot ring) (e.u16 8)).fmt ∧ x.cols = (s.tensorOf
      (s.ringPlot ring) (e.u16 8)).cols ∧ (x.spilled = true ∨ s.fenced x.place = false)) ∧ tops.map (fun x =>
      x.rows) = rows ∧ (isNarrow (s.tensorOf (s.ringPlot ring) (e.u16 8)).fmt = true → ∀ x ∈ tops, x.sEnc =
      (tops.headD {}).sEnc)) ∧ s.takes ring idx opPOP e ∧ s.stashChecks (s.ringPlot ring) e = .ok rows ∧
      s.leaseSound (s.ringPlot ring))
    ∧ (∃ (s : State) (ring : Fin 1024) (idx : Nat) (e : Entry) (rows : List Nat), e.fld 20 18 9 ≠ 0 ∧ s.takes
      ring idx opPOP e ∧ s.stashChecks (s.ringPlot ring) e = .ok rows ∧ ((∃ k < e.fld 20 18 9, s.slot (e.fld 20
      8 0 + k) = []) ∨ ∃ k < e.fld 20 18 9, ∃ x l, s.slot (e.fld 20 8 0 + k) = x :: l ∧ x.tag ≠ e.u16 10))
    ∧ (∃ (s : State) (ring : Fin 1024) (idx : Nat) (st : Nat) (v : Nat) (e : Entry), e.fld 20 18 9 ≠ 0 ∧ s.takes
      ring idx opPOP e ∧ s.stashChecks (s.ringPlot ring) e = .error (.code st v))
    ∧ (∃ (s : State) (ring : Fin 1024) (idx : Nat) (e : Entry) (c : Instr) (op : Nat), e.fld 20 18 9 = 0 ∧ ((op
      = opPUSH ∧ c = .stashPush ring idx) ∨ (op = opPOP ∧ c = .stashPop ring idx)) ∧ s.takes ring idx op e) :=
  ⟨⟨fetched (put up
    [(PLOT_SLOTS.SLOT_FIRST 0, 0), (PLOT_SLOTS.SLOT_COUNT 0, 4), (CFG_STASH_SIZE.SIZE_MIB 0, 1)])
    [(desc opPUSH 0 [(8, 1), (16, 1), (20, 2 ^ 9)])], 0, 0, desc opPUSH 0 [(8, 1), (16, 1), (20, 2 ^ 9)], got
    ((fetched (put up
    [(PLOT_SLOTS.SLOT_FIRST 0, 0), (PLOT_SLOTS.SLOT_COUNT 0, 4), (CFG_STASH_SIZE.SIZE_MIB 0, 1)])
    [(desc opPUSH 0 [(8, 1), (16, 1), (20, 2 ^ 9)])] : State).stashChecks ((fetched (put up
    [(PLOT_SLOTS.SLOT_FIRST 0, 0), (PLOT_SLOTS.SLOT_COUNT 0, 4), (CFG_STASH_SIZE.SIZE_MIB 0, 1)])
    [(desc opPUSH 0 [(8, 1), (16, 1), (20, 2 ^ 9)])] : State).ringPlot (0 : Fin 1024)) (desc opPUSH 0
    [(8, 1), (16, 1), (20, 2 ^ 9)] : Entry)), got ((fetched (put up
    [(PLOT_SLOTS.SLOT_FIRST 0, 0), (PLOT_SLOTS.SLOT_COUNT 0, 4), (CFG_STASH_SIZE.SIZE_MIB 0, 1)])
    [(desc opPUSH 0 [(8, 1), (16, 1), (20, 2 ^ 9)])] : State).pushEntries ((fetched (put up
    [(PLOT_SLOTS.SLOT_FIRST 0, 0), (PLOT_SLOTS.SLOT_COUNT 0, 4), (CFG_STASH_SIZE.SIZE_MIB 0, 1)])
    [(desc opPUSH 0 [(8, 1), (16, 1), (20, 2 ^ 9)])] : State).ringPlot (0 : Fin 1024)) (desc opPUSH 0
    [(8, 1), (16, 1), (20, 2 ^ 9)] : Entry) ((fetched (put up
    [(PLOT_SLOTS.SLOT_FIRST 0, 0), (PLOT_SLOTS.SLOT_COUNT 0, 4), (CFG_STASH_SIZE.SIZE_MIB 0, 1)])
    [(desc opPUSH 0 [(8, 1), (16, 1), (20, 2 ^ 9)])] : State).tensorOf ((fetched (put up
    [(PLOT_SLOTS.SLOT_FIRST 0, 0), (PLOT_SLOTS.SLOT_COUNT 0, 4), (CFG_STASH_SIZE.SIZE_MIB 0, 1)])
    [(desc opPUSH 0 [(8, 1), (16, 1), (20, 2 ^ 9)])] : State).ringPlot (0 : Fin 1024)) ((desc opPUSH 0
    [(8, 1), (16, 1), (20, 2 ^ 9)] : Entry).u16 8)) (got ((fetched (put up
    [(PLOT_SLOTS.SLOT_FIRST 0, 0), (PLOT_SLOTS.SLOT_COUNT 0, 4), (CFG_STASH_SIZE.SIZE_MIB 0, 1)])
    [(desc opPUSH 0 [(8, 1), (16, 1), (20, 2 ^ 9)])] : State).stashChecks ((fetched (put up
    [(PLOT_SLOTS.SLOT_FIRST 0, 0), (PLOT_SLOTS.SLOT_COUNT 0, 4), (CFG_STASH_SIZE.SIZE_MIB 0, 1)])
    [(desc opPUSH 0 [(8, 1), (16, 1), (20, 2 ^ 9)])] : State).ringPlot (0 : Fin 1024)) (desc opPUSH 0
    [(8, 1), (16, 1), (20, 2 ^ 9)] : Entry)) : List Nat)), by decide +kernel, takes_of (by decide +kernel),
    eq_got (by decide +kernel), eq_got (by decide +kernel)⟩,
   ⟨fetched (put up
    [(PLOT_SLOTS.SLOT_FIRST 0, 0), (PLOT_SLOTS.SLOT_COUNT 0, 4), (CFG_STASH_SIZE.SIZE_MIB 0, 0), (CFG_STASH_OVERFLOW.POLICY 0, 1), (CFG_STASH_SPILL_SIZE.PAGES 0, 16)])
    [(desc opPUSH 0 [(8, 1), (16, 1), (20, 2 ^ 9)])], 0, 0, desc opPUSH 0 [(8, 1), (16, 1), (20, 2 ^ 9)], got
    ((fetched (put up
    [(PLOT_SLOTS.SLOT_FIRST 0, 0), (PLOT_SLOTS.SLOT_COUNT 0, 4), (CFG_STASH_SIZE.SIZE_MIB 0, 0), (CFG_STASH_OVERFLOW.POLICY 0, 1), (CFG_STASH_SPILL_SIZE.PAGES 0, 16)])
    [(desc opPUSH 0 [(8, 1), (16, 1), (20, 2 ^ 9)])] : State).stashChecks ((fetched (put up
    [(PLOT_SLOTS.SLOT_FIRST 0, 0), (PLOT_SLOTS.SLOT_COUNT 0, 4), (CFG_STASH_SIZE.SIZE_MIB 0, 0), (CFG_STASH_OVERFLOW.POLICY 0, 1), (CFG_STASH_SPILL_SIZE.PAGES 0, 16)])
    [(desc opPUSH 0 [(8, 1), (16, 1), (20, 2 ^ 9)])] : State).ringPlot (0 : Fin 1024)) (desc opPUSH 0
    [(8, 1), (16, 1), (20, 2 ^ 9)] : Entry)), got ((fetched (put up
    [(PLOT_SLOTS.SLOT_FIRST 0, 0), (PLOT_SLOTS.SLOT_COUNT 0, 4), (CFG_STASH_SIZE.SIZE_MIB 0, 0), (CFG_STASH_OVERFLOW.POLICY 0, 1), (CFG_STASH_SPILL_SIZE.PAGES 0, 16)])
    [(desc opPUSH 0 [(8, 1), (16, 1), (20, 2 ^ 9)])] : State).pushEntries ((fetched (put up
    [(PLOT_SLOTS.SLOT_FIRST 0, 0), (PLOT_SLOTS.SLOT_COUNT 0, 4), (CFG_STASH_SIZE.SIZE_MIB 0, 0), (CFG_STASH_OVERFLOW.POLICY 0, 1), (CFG_STASH_SPILL_SIZE.PAGES 0, 16)])
    [(desc opPUSH 0 [(8, 1), (16, 1), (20, 2 ^ 9)])] : State).ringPlot (0 : Fin 1024)) (desc opPUSH 0
    [(8, 1), (16, 1), (20, 2 ^ 9)] : Entry) ((fetched (put up
    [(PLOT_SLOTS.SLOT_FIRST 0, 0), (PLOT_SLOTS.SLOT_COUNT 0, 4), (CFG_STASH_SIZE.SIZE_MIB 0, 0), (CFG_STASH_OVERFLOW.POLICY 0, 1), (CFG_STASH_SPILL_SIZE.PAGES 0, 16)])
    [(desc opPUSH 0 [(8, 1), (16, 1), (20, 2 ^ 9)])] : State).tensorOf ((fetched (put up
    [(PLOT_SLOTS.SLOT_FIRST 0, 0), (PLOT_SLOTS.SLOT_COUNT 0, 4), (CFG_STASH_SIZE.SIZE_MIB 0, 0), (CFG_STASH_OVERFLOW.POLICY 0, 1), (CFG_STASH_SPILL_SIZE.PAGES 0, 16)])
    [(desc opPUSH 0 [(8, 1), (16, 1), (20, 2 ^ 9)])] : State).ringPlot (0 : Fin 1024)) ((desc opPUSH 0
    [(8, 1), (16, 1), (20, 2 ^ 9)] : Entry).u16 8)) (got ((fetched (put up
    [(PLOT_SLOTS.SLOT_FIRST 0, 0), (PLOT_SLOTS.SLOT_COUNT 0, 4), (CFG_STASH_SIZE.SIZE_MIB 0, 0), (CFG_STASH_OVERFLOW.POLICY 0, 1), (CFG_STASH_SPILL_SIZE.PAGES 0, 16)])
    [(desc opPUSH 0 [(8, 1), (16, 1), (20, 2 ^ 9)])] : State).stashChecks ((fetched (put up
    [(PLOT_SLOTS.SLOT_FIRST 0, 0), (PLOT_SLOTS.SLOT_COUNT 0, 4), (CFG_STASH_SIZE.SIZE_MIB 0, 0), (CFG_STASH_OVERFLOW.POLICY 0, 1), (CFG_STASH_SPILL_SIZE.PAGES 0, 16)])
    [(desc opPUSH 0 [(8, 1), (16, 1), (20, 2 ^ 9)])] : State).ringPlot (0 : Fin 1024)) (desc opPUSH 0
    [(8, 1), (16, 1), (20, 2 ^ 9)] : Entry)) : List Nat)), ((fetched (put up
    [(PLOT_SLOTS.SLOT_FIRST 0, 0), (PLOT_SLOTS.SLOT_COUNT 0, 4), (CFG_STASH_SIZE.SIZE_MIB 0, 0), (CFG_STASH_OVERFLOW.POLICY 0, 1), (CFG_STASH_SPILL_SIZE.PAGES 0, 16)])
    [(desc opPUSH 0 [(8, 1), (16, 1), (20, 2 ^ 9)])]).spillEntries 0 ((fetched (put up
    [(PLOT_SLOTS.SLOT_FIRST 0, 0), (PLOT_SLOTS.SLOT_COUNT 0, 4), (CFG_STASH_SIZE.SIZE_MIB 0, 0), (CFG_STASH_OVERFLOW.POLICY 0, 1), (CFG_STASH_SPILL_SIZE.PAGES 0, 16)])
    [(desc opPUSH 0 [(8, 1), (16, 1), (20, 2 ^ 9)])]).spillUsed 0) (got ((fetched (put up
    [(PLOT_SLOTS.SLOT_FIRST 0, 0), (PLOT_SLOTS.SLOT_COUNT 0, 4), (CFG_STASH_SIZE.SIZE_MIB 0, 0), (CFG_STASH_OVERFLOW.POLICY 0, 1), (CFG_STASH_SPILL_SIZE.PAGES 0, 16)])
    [(desc opPUSH 0 [(8, 1), (16, 1), (20, 2 ^ 9)])] : State).pushEntries ((fetched (put up
    [(PLOT_SLOTS.SLOT_FIRST 0, 0), (PLOT_SLOTS.SLOT_COUNT 0, 4), (CFG_STASH_SIZE.SIZE_MIB 0, 0), (CFG_STASH_OVERFLOW.POLICY 0, 1), (CFG_STASH_SPILL_SIZE.PAGES 0, 16)])
    [(desc opPUSH 0 [(8, 1), (16, 1), (20, 2 ^ 9)])] : State).ringPlot (0 : Fin 1024)) (desc opPUSH 0
    [(8, 1), (16, 1), (20, 2 ^ 9)] : Entry) ((fetched (put up
    [(PLOT_SLOTS.SLOT_FIRST 0, 0), (PLOT_SLOTS.SLOT_COUNT 0, 4), (CFG_STASH_SIZE.SIZE_MIB 0, 0), (CFG_STASH_OVERFLOW.POLICY 0, 1), (CFG_STASH_SPILL_SIZE.PAGES 0, 16)])
    [(desc opPUSH 0 [(8, 1), (16, 1), (20, 2 ^ 9)])] : State).tensorOf ((fetched (put up
    [(PLOT_SLOTS.SLOT_FIRST 0, 0), (PLOT_SLOTS.SLOT_COUNT 0, 4), (CFG_STASH_SIZE.SIZE_MIB 0, 0), (CFG_STASH_OVERFLOW.POLICY 0, 1), (CFG_STASH_SPILL_SIZE.PAGES 0, 16)])
    [(desc opPUSH 0 [(8, 1), (16, 1), (20, 2 ^ 9)])] : State).ringPlot (0 : Fin 1024)) ((desc opPUSH 0
    [(8, 1), (16, 1), (20, 2 ^ 9)] : Entry).u16 8)) (got ((fetched (put up
    [(PLOT_SLOTS.SLOT_FIRST 0, 0), (PLOT_SLOTS.SLOT_COUNT 0, 4), (CFG_STASH_SIZE.SIZE_MIB 0, 0), (CFG_STASH_OVERFLOW.POLICY 0, 1), (CFG_STASH_SPILL_SIZE.PAGES 0, 16)])
    [(desc opPUSH 0 [(8, 1), (16, 1), (20, 2 ^ 9)])] : State).stashChecks ((fetched (put up
    [(PLOT_SLOTS.SLOT_FIRST 0, 0), (PLOT_SLOTS.SLOT_COUNT 0, 4), (CFG_STASH_SIZE.SIZE_MIB 0, 0), (CFG_STASH_OVERFLOW.POLICY 0, 1), (CFG_STASH_SPILL_SIZE.PAGES 0, 16)])
    [(desc opPUSH 0 [(8, 1), (16, 1), (20, 2 ^ 9)])] : State).ringPlot (0 : Fin 1024)) (desc opPUSH 0
    [(8, 1), (16, 1), (20, 2 ^ 9)] : Entry)) : List Nat)))).getD [], by decide +kernel, takes_of
    (by decide +kernel), eq_got (by decide +kernel), eq_got (by decide +kernel)⟩,
   ⟨fetched (put up
    [(PLOT_SLOTS.SLOT_FIRST 0, 0), (PLOT_SLOTS.SLOT_COUNT 0, 4), (CFG_STASH_SIZE.SIZE_MIB 0, 0)])
    [(desc opPUSH 0 [(8, 1), (16, 1), (20, 2 ^ 9)])], 0, 0, desc opPUSH 0 [(8, 1), (16, 1), (20, 2 ^ 9)], got
    ((fetched (put up
    [(PLOT_SLOTS.SLOT_FIRST 0, 0), (PLOT_SLOTS.SLOT_COUNT 0, 4), (CFG_STASH_SIZE.SIZE_MIB 0, 0)])
    [(desc opPUSH 0 [(8, 1), (16, 1), (20, 2 ^ 9)])] : State).stashChecks ((fetched (put up
    [(PLOT_SLOTS.SLOT_FIRST 0, 0), (PLOT_SLOTS.SLOT_COUNT 0, 4), (CFG_STASH_SIZE.SIZE_MIB 0, 0)])
    [(desc opPUSH 0 [(8, 1), (16, 1), (20, 2 ^ 9)])] : State).ringPlot (0 : Fin 1024)) (desc opPUSH 0
    [(8, 1), (16, 1), (20, 2 ^ 9)] : Entry)), got ((fetched (put up
    [(PLOT_SLOTS.SLOT_FIRST 0, 0), (PLOT_SLOTS.SLOT_COUNT 0, 4), (CFG_STASH_SIZE.SIZE_MIB 0, 0)])
    [(desc opPUSH 0 [(8, 1), (16, 1), (20, 2 ^ 9)])] : State).pushEntries ((fetched (put up
    [(PLOT_SLOTS.SLOT_FIRST 0, 0), (PLOT_SLOTS.SLOT_COUNT 0, 4), (CFG_STASH_SIZE.SIZE_MIB 0, 0)])
    [(desc opPUSH 0 [(8, 1), (16, 1), (20, 2 ^ 9)])] : State).ringPlot (0 : Fin 1024)) (desc opPUSH 0
    [(8, 1), (16, 1), (20, 2 ^ 9)] : Entry) ((fetched (put up
    [(PLOT_SLOTS.SLOT_FIRST 0, 0), (PLOT_SLOTS.SLOT_COUNT 0, 4), (CFG_STASH_SIZE.SIZE_MIB 0, 0)])
    [(desc opPUSH 0 [(8, 1), (16, 1), (20, 2 ^ 9)])] : State).tensorOf ((fetched (put up
    [(PLOT_SLOTS.SLOT_FIRST 0, 0), (PLOT_SLOTS.SLOT_COUNT 0, 4), (CFG_STASH_SIZE.SIZE_MIB 0, 0)])
    [(desc opPUSH 0 [(8, 1), (16, 1), (20, 2 ^ 9)])] : State).ringPlot (0 : Fin 1024)) ((desc opPUSH 0
    [(8, 1), (16, 1), (20, 2 ^ 9)] : Entry).u16 8)) (got ((fetched (put up
    [(PLOT_SLOTS.SLOT_FIRST 0, 0), (PLOT_SLOTS.SLOT_COUNT 0, 4), (CFG_STASH_SIZE.SIZE_MIB 0, 0)])
    [(desc opPUSH 0 [(8, 1), (16, 1), (20, 2 ^ 9)])] : State).stashChecks ((fetched (put up
    [(PLOT_SLOTS.SLOT_FIRST 0, 0), (PLOT_SLOTS.SLOT_COUNT 0, 4), (CFG_STASH_SIZE.SIZE_MIB 0, 0)])
    [(desc opPUSH 0 [(8, 1), (16, 1), (20, 2 ^ 9)])] : State).ringPlot (0 : Fin 1024)) (desc opPUSH 0
    [(8, 1), (16, 1), (20, 2 ^ 9)] : Entry)) : List Nat)), by decide +kernel, takes_of (by decide +kernel),
    eq_got (by decide +kernel), eq_got (by decide +kernel)⟩,
   ⟨fetched (put up
    [(PLOT_SLOTS.SLOT_FIRST 0, 0), (PLOT_SLOTS.SLOT_COUNT 0, 4), (CFG_STASH_SIZE.SIZE_MIB 0, 1)])
    [(desc opPUSH 0 [(8, 30), (16, 1), (20, 2 ^ 9)])], 0, 0, 0x10, 8, desc opPUSH 0
    [(8, 30), (16, 1), (20, 2 ^ 9)], by decide +kernel, takes_of (by decide +kernel), err_is
    (by decide +kernel)⟩,
   ⟨{ fetched (put up [(PLOT_SLOTS.SLOT_FIRST 0, 0), (PLOT_SLOTS.SLOT_COUNT 0, 4), (CFG_STASH_SIZE.SIZE_MIB 0, 1)]) [(desc opPOP 0 [(8, 1), (16, 1), (20, 2 ^ 9)])] with stash := [(0, ([{ fmt := 0xE, rows := 1, cols := 4 }]))] },
    0, 0, desc opPOP 0 [(8, 1), (16, 1), (20, 2 ^ 9)], [1], [{ fmt := 0xE, rows := 1, cols := 4 }],
    by decide +kernel, takes_of (by decide +kernel), ok_is (by decide +kernel), leaseSound_of
    (by decide +kernel)⟩,
   ⟨fetched (put up
    [(PLOT_SLOTS.SLOT_FIRST 0, 0), (PLOT_SLOTS.SLOT_COUNT 0, 4), (CFG_STASH_SIZE.SIZE_MIB 0, 1)])
    [(desc opPOP 0 [(8, 1), (16, 1), (20, 2 ^ 9)])], 0, 0, desc opPOP 0 [(8, 1), (16, 1), (20, 2 ^ 9)], got
    ((fetched (put up
    [(PLOT_SLOTS.SLOT_FIRST 0, 0), (PLOT_SLOTS.SLOT_COUNT 0, 4), (CFG_STASH_SIZE.SIZE_MIB 0, 1)])
    [(desc opPOP 0 [(8, 1), (16, 1), (20, 2 ^ 9)])] : State).stashChecks ((fetched (put up
    [(PLOT_SLOTS.SLOT_FIRST 0, 0), (PLOT_SLOTS.SLOT_COUNT 0, 4), (CFG_STASH_SIZE.SIZE_MIB 0, 1)])
    [(desc opPOP 0 [(8, 1), (16, 1), (20, 2 ^ 9)])] : State).ringPlot (0 : Fin 1024)) (desc opPOP 0
    [(8, 1), (16, 1), (20, 2 ^ 9)] : Entry)), by decide +kernel, takes_of (by decide +kernel), eq_got
    (by decide +kernel), .inl ⟨0, by decide +kernel, by decide +kernel⟩⟩,
   ⟨fetched (put up
    [(PLOT_SLOTS.SLOT_FIRST 0, 0), (PLOT_SLOTS.SLOT_COUNT 0, 4), (CFG_STASH_SIZE.SIZE_MIB 0, 1)])
    [(desc opPOP 0 [(8, 30), (16, 1), (20, 2 ^ 9)])], 0, 0, 0x10, 8, desc opPOP 0
    [(8, 30), (16, 1), (20, 2 ^ 9)], by decide +kernel, takes_of (by decide +kernel), err_is
    (by decide +kernel)⟩,
   ⟨fetched up [(desc opPOP 0 [(8, 1), (16, 1)])], 0, 0, desc opPOP 0 [(8, 1), (16, 1)], .stashPop 0 0, opPOP,
    by decide +kernel, .inr ⟨rfl, rfl⟩, takes_of (by decide +kernel)⟩⟩

/-- States and operands that meet the hypotheses of `CallsRunRoutinesOnCores`. -/
theorem witness_calls_run_routines_on_cores :
    (∃ (s : State) (ring : Fin 1024) (idx : Nat) (e : Entry), (s.coresReady ring idx = true ∧ 1 < e.u16 8 ∧
      firstFail [e.reserved coreUsed, (18, decide ((s.coresOf (s.ringPlot ring)).length < e.cCores))] = none ∧
      e.cCores ≠ 0 ∧ firstFail ((8, (s.routine (s.ringPlot ring) (e.u16 8)).isNone) :: e.cArgs.map (fun a =>
      (a.2.1, s.badHandle (s.ringPlot ring) a.2.2 (fun t => !(e.flag 19 (4 + a.1) && isNarrow t.fmt))))) = none)
      ∧ s.takes ring idx opCORECALL e)
    ∧ (∃ (s : State) (ring : Fin 1024) (idx : Nat) (e : Entry), (s.coresReady ring idx = true ∧ 1 < e.u16 8) ∧
      s.takes ring idx opCORECALL e)
    ∧ (∃ (s : State) (ring : Fin 1024) (idx : Nat) (e : Entry), (s.coresReady ring idx = true ∧ e.u16 8 = 0 ∧
      (firstFail
      [e.reserved coreUsed, (18, decide (1 < e.cCores ∨ (s.coresOf (s.ringPlot ring)).length < e.cCores))] =
      none) ∧ e.cCores ≠ 0 ∧ e.u32 28 = 0 ∧ (s.slab (e.u16 24)).owned.toNat = (s.ringPlot ring) ∧ 0x100 ≤ e.u16
      26 ∧ e.u16 26 ≤ 0xFFFE ∧ ((s.plot (s.ringPlot ring)).routines.length < 64 ∨ (s.routine (s.ringPlot ring)
      (e.u16 26)).isSome = true) ∧ (s.slab (e.u16 24)).owner = ownDEVICE ∧ s.rd SEC_CFG.KERNEL_LOAD_EN ≠ 0 ∧
      s.gladeFail true (s.slab (e.u16 24)).start (s.slab (e.u16 24)).bytes = none ∧ (fun (n : Nat) => leNat
      (((s.readGlade (s.slab (e.u16 24)).start (s.slab (e.u16 24)).bytes).drop n).take 4)) 0 = 0x4B584C4B ∧ 64 +
      (fun (n : Nat) => leNat (((s.readGlade (s.slab (e.u16 24)).start (s.slab (e.u16 24)).bytes).drop n).take
      4)) 4 ≤ (s.slab (e.u16 24)).bytes ∧ (fun (n : Nat) => leNat (((s.readGlade (s.slab (e.u16 24)).start
      (s.slab (e.u16 24)).bytes).drop n).take 4)) 4 + (fun (n : Nat) => leNat (((s.readGlade (s.slab (e.u16
      24)).start (s.slab (e.u16 24)).bytes).drop n).take 4)) 8 ≤ 1920 * 1024) ∧ s.takes ring idx opCORECALL e)
    ∧ (∃ (s : State) (ring : Fin 1024) (idx : Nat) (e : Entry), (s.coresReady ring idx = true ∧ e.u16 8 = 0) ∧
      s.takes ring idx opCORECALL e)
    ∧ (∃ (s : State) (ring : Fin 1024) (idx : Nat) (e : Entry), (s.coresReady ring idx = true ∧ e.u16 8 = 1 ∧ (∀
      q ∈ s.cores, q.2.job = none ∨ q.2.resident ≠ some ((s.ringPlot ring), e.u16 26)) ∧ (firstFail
      [e.reserved coreUsed, (18, decide (1 < e.cCores ∨ (s.coresOf (s.ringPlot ring)).length < e.cCores))] =
      none) ∧ e.cCores ≠ 0) ∧ s.takes ring idx opCORECALL e)
    ∧ (∃ (s : State) (ring : Fin 1024) (idx : Nat) (e : Entry), (s.coresReady ring idx = true ∧ e.u16 8 = 1 ∧ (∀
      q ∈ s.cores, q.2.job = none ∨ q.2.resident ≠ some ((s.ringPlot ring), e.u16 26))) ∧ s.takes ring idx
      opCORECALL e)
    ∧ (∃ (s : State) (ring : Fin 1024) (idx : Nat) (e : Entry), e.u16 8 = 1 ∧ s.takes ring idx opCORECALL e ∧ (∃
      q ∈ s.cores, q.2.job ≠ none ∧ q.2.resident = some ((s.ringPlot ring), e.u16 26)))
    ∧ (∃ (s : State) (ring : Fin 1024) (idx : Nat), (s.mayIssue ring idx opCORECALL = none ∨ (s.stopped ring idx
      = false ∧ s.coresReady ring idx = false)))
    ∧ (∃ (s : State) (ring : Fin 1024) (idx : Nat) (e : Entry), s.entry ring idx = some e)
    ∧ (∃ (s : State) (ring : Fin 1024) (idx : Nat) (st : Nat) (e : Entry), s.mayIssue ring idx opCORECALL = some
      e ∧ s.memberStop (s.ringPlot ring) e = some st)
    ∧ (∃ (s : State) (core : Fin 28) (r : Nat) (i : Nat) (e : Entry), ((s.core (4 + core)).job = some (r, i) ∧
      s.entry r i = some e ∧ e.stage = 2 ∧ Tab.rises s.cores 0 = true) ∧ (∀ c, c ≠ 4 + core.val → (s.core c).job
      ≠ some (r, i)))
    ∧ (∃ (s : State) (core : Fin 28) (r : Nat) (i : Nat) (e : Entry), (s.core (4 + core)).job = some (r, i) ∧
      s.entry r i = some e ∧ e.stage = 2)
    ∧ (∃ (s : State) (core : Fin 28) (r : Nat) (i : Nat) (c : Nat), (s.core (4 + core)).job = some (r, i) ∧ c ≠
      4 + core.val ∧ (s.core c).job = some (r, i))
    ∧ (∃ (s : State) (core : Fin 28) (r : Nat) (i : Nat) (e : Entry), (s.core (4 + core)).job = some (r, i) ∧
      s.entry r i = some e ∧ e.stage = 2)
    ∧ (∃ (s : State) (core : Fin 28), (s.core (4 + core)).job = none) :=
  ⟨⟨fetched (up.modPlot 0 (fun q => { q with routines := [{ num := 0x100 }] }))
    [(desc opCORECALL 0 [(8, 0x100), (18, 1)])], 0, 0, desc opCORECALL 0 [(8, 0x100), (18, 1)],
    by decide +kernel, takes_of (by decide +kernel)⟩,
   ⟨fetched (up.modPlot 0 (fun q => { q with routines := [{ num := 0x100 }] }))
    [(desc opCORECALL 0 [(8, 2), (18, 1)])], 0, 0, desc opCORECALL 0 [(8, 2), (18, 1)], by decide +kernel,
    takes_of (by decide +kernel)⟩,
   ⟨fetched
    { up with hbm := { mem := [(97710571520, 0x4B), (97710571521, 0x4C), (97710571522, 0x58), (97710571523, 0x4B)], dirty := [23855120] } }
    [(desc opCORECALL 0 [(18, 1), (24, 1), (26, 0x100)])], 0, 0, desc opCORECALL 0
    [(18, 1), (24, 1), (26, 0x100)], by decide +kernel, takes_of (by decide +kernel)⟩,
   ⟨fetched (up.modPlot 0 (fun q => { q with routines := [{ num := 0x100 }] }))
    [(desc opCORECALL 0 [(18, 1), (24, 1), (26, 0x100)])], 0, 0, desc opCORECALL 0
    [(18, 1), (24, 1), (26, 0x100)], by decide +kernel, takes_of (by decide +kernel)⟩,
   ⟨fetched (up.modPlot 0 (fun q => { q with routines := [{ num := 0x100 }] }))
    [(desc opCORECALL 0 [(8, 1), (18, 1), (26, 0x100)])], 0, 0, desc opCORECALL 0
    [(8, 1), (18, 1), (26, 0x100)], by decide +kernel, takes_of (by decide +kernel)⟩,
   ⟨fetched (up.modPlot 0 (fun q => { q with routines := [{ num := 0x100 }] }))
    [(desc opCORECALL 0 [(8, 1), (18, 1), (26, 0x100)])], 0, 0, desc opCORECALL 0
    [(8, 1), (18, 1), (26, 0x100)], by decide +kernel, takes_of (by decide +kernel)⟩,
   ⟨fetched { up with cores := [(4, { job := some (0, 1), resident := some (0, 0x100) })] }
    [(desc opCORECALL 0 [(8, 1), (18, 1), (26, 0x100)])], 0, 0, desc opCORECALL 0
    [(8, 1), (18, 1), (26, 0x100)], by decide +kernel, takes_of (by decide +kernel), ⟨_, List.mem_cons_self ..,
    by decide +kernel, by decide +kernel⟩⟩,
   ⟨up, 0, 0, by decide +kernel⟩,
   ⟨fetched up [(desc opCORECALL 0 [(8, 0x100), (18, 1)])], 0, 0, desc opCORECALL 0 [(8, 0x100), (18, 1)],
    by decide +kernel⟩,
   ⟨(fetched up [(desc opCORECALL 4 [(8, 0x100)])]).modPlot 0 (fun q =>
    { q with step := some ({ refused := true }) }), 0, 0, 0x20, desc opCORECALL 4 [(8, 0x100)],
    by decide +kernel⟩,
   ⟨inCall (desc opCORECALL 0 []), 0, 0, 0, issued (desc opCORECALL 0 []), by decide +kernel, others_idle rfl
    _⟩,
   ⟨inCall (desc opCORECALL 0 []), 0, 0, 0, issued (desc opCORECALL 0 []), by decide +kernel⟩,
   ⟨{ inCall (desc opCORECALL 0 []) with cores := [(4, { job := some (0, 0) }), (5, { job := some (0, 0) })] },
    0, 0, 0, 5, by decide +kernel⟩,
   ⟨inCall (desc opCORECALL 0 []), 0, 0, 0, issued (desc opCORECALL 0 []), by decide +kernel⟩,
   ⟨up, 0, by decide +kernel⟩⟩

/-- States and operands that meet the hypotheses of `StreamsMoveElements`. -/
theorem witness_streams_move_elements :
    (∃ (s : State) (core : Fin 28) (target : Nat) (start : Nat) (count : Nat) (stride : Int) (tcm : Nat) (r :
      Nat) (i : Nat) (e : Entry) (l : List Nat) (a : Nat × Nat × Nat) (n : Nat) (q : Tensor) (vs : List Val),
      ((s.core (4 + core)).job = some (r, i) ∧ s.entry r i = some e ∧ streamIdx start count stride = some l ∧
      s.streamReady core target r = true ∧ tcm + 8 * count ≤ 1920 * 1024 ∧ e.cArgs.find? (fun a => decide (a.2.2
      = target)) = some a ∧ (s.core (4 + core)).args.find? (fun a => decide (a.1 = target)) = some (n, q) ∧
      streamFmt false q.fmt = true ∧ (∀ k ∈ l, k < q.count)) ∧ l.mapM (s.elemAt (s.ringPlot r) q) = .ok vs)
    ∧ (∃ (s : State) (core : Fin 28) (target : Nat) (start : Nat) (count : Nat) (stride : Int) (tcm : Nat) (data
      : List (BitVec 64)) (r : Nat) (i : Nat) (e : Entry) (l : List Nat) (a : Nat × Nat × Nat) (n : Nat) (q :
      Tensor), ((s.core (4 + core)).job = some (r, i) ∧ s.entry r i = some e ∧ streamIdx start count stride =
      some l ∧ s.streamReady core target r = true ∧ data.length = count ∧ tcm + 8 * count ≤ 1920 * 1024 ∧
      e.cArgs.find? (fun a => decide (a.2.2 = target)) = some a ∧ (s.core (4 + core)).args.find? (fun a =>
      decide (a.1 = target)) = some (n, q) ∧ streamFmt true q.fmt = true ∧ e.flag 19 (4 + a.1) = true ∧ (∀ k ∈
      l, k < q.count) ∧ s.ringPlot r < 64) ∧ s.leaseSound (s.ringPlot r))
    ∧ (∃ (s : State) (core : Fin 28) (target : Nat) (start : Nat) (count : Nat) (stride : Int) (tcm : Nat) (fmt
      : Fin 16) (r : Nat) (i : Nat) (e : Entry) (idx : List Nat), (s.core (4 + core)).job = some (r, i) ∧
      s.entry r i = some e ∧ streamIdx start count stride = some idx ∧ s.streamWaits (gladeElems fmt target idx)
      = false ∧ tcm + 8 * count ≤ 1920 * 1024 ∧ streamFmt false fmt = true ∧ isNarrow fmt = false ∧ fmt ≠ 13 ∧
      (∀ k ∈ idx, s.deviceSlab (s.ringPlot r) (target + elemBytes fmt * k) (elemBytes fmt) = true) ∧
      s.accessFail true (gladeElems fmt target idx) = none)
    ∧ (∃ (s : State) (core : Fin 28) (target : Nat) (start : Nat) (count : Nat) (stride : Int) (tcm : Nat) (fmt
      : Fin 16) (data : List (BitVec 64)) (r : Nat) (i : Nat) (e : Entry) (idx : List Nat), (s.core (4 +
      core)).job = some (r, i) ∧ s.entry r i = some e ∧ streamIdx start count stride = some idx ∧ s.streamWaits
      (gladeElems fmt target idx) = false ∧ data.length = count ∧ tcm + 8 * count ≤ 1920 * 1024 ∧ streamFmt true
      fmt = true ∧ (∀ k ∈ idx, s.deviceSlab (s.ringPlot r) (target + elemBytes fmt * k) (elemBytes fmt) = true)
      ∧ s.accessFail false (gladeElems fmt target idx) = none)
    ∧ (∃ (s : State) (core : Fin 28) (target : Nat) (start : Nat) (count : Nat) (stride : Int) (tcm : Nat)
      (write : Bool) (data : List (BitVec 64)) (r : Nat) (i : Nat) (e : Entry) (l : List Nat), ((s.core (4 +
      core)).job = some (r, i) ∧ s.entry r i = some e ∧ e.stage = 2 ∧ streamIdx start count stride = some l ∧
      s.streamReady core target r = true ∧ data.length = (if write then count else 0)) ∧ (1920 * 1024 < tcm + 8
      * count ∨ (∀ a ∈ e.cArgs, a.2.2 ≠ target) ∨ (∃ a n q, e.cArgs.find? (fun a => decide (a.2.2 = target)) =
      some a ∧ (s.core (4 + core)).args.find? (fun a => decide (a.1 = target)) = some (n, q) ∧ ((write = true ∧
      e.flag 19 (4 + a.1) = false) ∨ streamFmt write q.fmt = false ∨ ∃ k ∈ l, q.count ≤ k))))
    ∧ (∃ (s : State) (core : Fin 28) (target : Nat) (start : Nat) (count : Nat) (stride : Int) (tcm : Nat)
      (write : Bool) (fmt : Fin 16) (data : List (BitVec 64)) (r : Nat) (i : Nat) (e : Entry) (idx : List Nat),
      (s.core (4 + core)).job = some (r, i) ∧ s.entry r i = some e ∧ e.stage = 2 ∧ streamIdx start count stride
      = some idx ∧ s.streamWaits (gladeElems fmt target idx) = false ∧ data.length = (if write then count else
      0) ∧ (1920 * 1024 < tcm + 8 * count ∨ streamFmt write fmt = false ∨ isNarrow fmt = true ∨ fmt = 13 ∨ ∃ k ∈
      idx, s.deviceSlab (s.ringPlot r) (target + elemBytes fmt * k) (elemBytes fmt) = false))
    ∧ (∃ (s : State) (core : Fin 28) (start : Nat) (count : Nat) (stride : Int) (write : Bool) (data : List
      (BitVec 64)) (r : Nat) (i : Nat) (e : Entry) (idx : List Nat), (s.core (4 + core)).job = some (r, i) ∧
      s.entry r i = some e ∧ streamIdx start count stride = some idx ∧ data.length = (if write then count else
      0))
    ∧ (∃ (s : State) (core : Fin 28) (count : Nat) (write : Bool) (data : List (BitVec 64)), (s.core (4 +
      core)).job = none ∧ data.length = (if write then count else 0))
    ∧ (∃ (count : Nat) (write : Bool) (data : List (BitVec 64)), data.length ≠ (if write then count else 0))
    ∧ (∃ (core : Fin 28) (glade : Bool) (target : Nat) (start : Nat) (count : Nat) (stride : Int) (tcm : Nat)
      (write : Bool) (fmt : Fin 16) (data : List (BitVec 64)), (Instr.streamStart core glade target start count
      stride tcm write fmt data).wellFormed = true) :=
  ⟨⟨inCall (desc opCORECALL 0 [(10, 1), (19, 0x11)]), 0, 1, 0, 1, 0, 0, 0, 0, issued (desc opCORECALL 0
    [(10, 1), (19, 0x11)]), [0], (0, 10, 1), 1, up.tensorOf 0 1, got (([0] : List Nat).mapM ((inCall (desc
    opCORECALL 0 [(10, 1), (19, 0x11)]) : State).elemAt ((inCall (desc opCORECALL 0 [(10, 1), (19, 0x11)]) :
    State).ringPlot (0 : Nat)) (up.tensorOf 0 1 : Tensor))), by decide +kernel, eq_got (by decide +kernel)⟩,
   ⟨inCall (desc opCORECALL 0 [(10, 1), (19, 0x11)]), 0, 1, 0, 1, 0, 0, [0], 0, 0, issued (desc opCORECALL 0
    [(10, 1), (19, 0x11)]), [0], (0, 10, 1), 1, up.tensorOf 0 1, by decide +kernel, leaseSound_of
    (by decide +kernel)⟩,
   ⟨inCall (desc opCORECALL 0 [(10, 1), (19, 0x11)]), 0, 65536, 0, 1, 1, 0, 0xE, 0, 0, issued (desc opCORECALL
    0 [(10, 1), (19, 0x11)]), [0], by decide +kernel⟩,
   ⟨inCall (desc opCORECALL 0 [(10, 1), (19, 0x11)]), 0, 65536, 0, 1, 1, 0, 0xE, [0], 0, 0, issued (desc
    opCORECALL 0 [(10, 1), (19, 0x11)]), [0], by decide +kernel⟩,
   ⟨inCall (desc opCORECALL 0 [(10, 1), (19, 0x11)]), 0, 2, 0, 1, 1, 0, true, [0], 0, 0, issued (desc
    opCORECALL 0 [(10, 1), (19, 0x11)]), [0], by decide +kernel, .inr (.inl (by decide +kernel))⟩,
   ⟨inCall (desc opCORECALL 0 [(10, 1), (19, 0x11)]), 0, 65536, 0, 1, 1, 0, true, 0xD, [0], 0, 0, issued (desc
    opCORECALL 0 [(10, 1), (19, 0x11)]), [0], by decide +kernel⟩,
   ⟨inCall (desc opCORECALL 0 [(10, 1), (19, 0x11)]), 0, 0, 1, 1, true, [0], 0, 0, issued (desc opCORECALL 0
    [(10, 1), (19, 0x11)]), [0], by decide +kernel⟩,
   ⟨up, 0, 1, true, [0], by decide +kernel⟩,
   ⟨0, false, [0], by decide +kernel⟩,
   ⟨0, false, 0, 0, 1, 0, 0, true, 0, [0], by decide +kernel⟩⟩

/-- States and operands that meet the hypotheses of `EpochsRunAndPathsSwitch`. -/
theorem witness_epochs_run_and_paths_switch :
    (∃ (s : State) (ring : Fin 1024) (idx : Nat) (e : Entry), ((s.sched (e.u8 26)).job = none ∧ (s.sched (e.u8
      26)).held = [] ∧ (firstFail
      [e.reserved [(245, 64), (272, 256)], (27, decide (e.u8 27 = 0 ∨ e.u8 27 = 255)), (28, decide (e.fld 28 9 0 = 0 ∨ 512 < e.fld 28 9 0)), (29, decide ((e.fld 28 17 13) < 5 ∨ 16 < (e.fld 28 17 13))), (32, decide (2 ^ (e.fld 28 17 13) < e.fld 32 16 0))]
      = none) ∧ e.xLen ≠ 0 ∧ firstFail (s.exchangeChecks (s.ringPlot ring) e) = none ∧ 1 < (s.xNodes (e.u8
      26)).length ∧ (∀ n ∈ s.xNodes (e.u8 26), n ≠ s.node → ((s.routeOf n).filter (s.leasesPort (s.ringPlot
      ring))).any (s.reaches n) = true)) ∧ s.takes ring idx opEXCHANGE e ∧ s.checkVe (s.ringPlot ring) = .ok ()
      ∧ s.leaseSound (s.ringPlot ring) ∧ s.readable (s.ringPlot ring) (e.u16 8) e.xLen ∧ (e.flag 30 2 = false →
      e.fld 32 16 0 ≠ 2 ^ (e.fld 28 17 13) → s.readable (s.ringPlot ring) (e.u16 10) e.xLen))
    ∧ (∃ (s : State) (ring : Fin 1024) (idx : Nat) (e : Entry), (s.sched (e.u8 26)).job = none ∧ s.takes ring
      idx opEXCHANGE e)
    ∧ (∃ (s : State) (ring : Fin 1024) (idx : Nat), (s.mayIssue ring idx opEXCHANGE = none ∨ (s.stopped ring idx
      = false ∧ ∃ e, s.entry ring idx = some e ∧ (s.sched (e.u8 26)).job ≠ none)))
    ∧ (∃ (s : State) (ring : Fin 1024) (idx : Nat) (st : Nat) (e : Entry), s.mayIssue ring idx opEXCHANGE = some
      e ∧ s.memberStop (s.ringPlot ring) e = some st)
    ∧ (∃ (s : State) (k : Fin 256) (j : XJob) (e : Entry), ((s.sched k).job = some j ∧ s.entry j.ring j.idx =
      some e ∧ e.stage = 2 ∧ j.op = opEXCHANGE ∧ j.failed = none ∧ j.plot < 64 ∧ (∀ u ∈ s.xUnits k e, u ∈
      j.written) ∧ (∀ t ∈ s.tags.waiting, ¬ (t.kind = 2 ∧ t.ring = j.ring ∧ t.idx = j.idx))) ∧ s.leaseSound
      j.plot)
    ∧ (∃ (s : State) (k : Fin 256), (∀ j, (s.sched k).job = some j → j.op ≠ opEXCHANGE ∨ j.failed ≠ none ∨ (∃ t
      ∈ s.tags.waiting, t.kind = 2 ∧ t.ring = j.ring ∧ t.idx = j.idx) ∨ ∃ u ∈ s.xUnits k (s.xEntry j), u ∉
      j.written))
    ∧ (∃ (s : State) (k : Fin 256) (epoch : Fin 65536) (j : XJob), (s.sched k).job = some j ∧ j.epoch =
      epoch.val ∧ j.failed = none)
    ∧ (∃ (s : State) (k : Fin 256) (epoch : Fin 65536), (∀ j, (s.sched k).job = some j → j.epoch ≠ epoch.val ∨
      j.failed ≠ none))
    ∧ (∃ (s : State) (k : Fin 256) (j : XJob) (e : Entry) (f : Bool), (s.sched k).job = some j ∧ s.entry j.ring
      j.idx = some e ∧ e.stage = 2 ∧ j.failed = some f ∧ (f = true ∨ j.replayed = true) ∧ Tab.rises
      s.fabric.scheds 0 = true ∧ j.dstOld.length ≤ (s.tensorOf j.plot (e.u16 16)).bytes)
    ∧ (∃ (s : State) (k : Fin 256) (j : XJob) (e : Entry), ((s.sched k).job = some j ∧ s.entry j.ring j.idx =
      some e ∧ j.op = opEXCHANGE ∧ j.failed = some false ∧ j.replayed = false ∧ s.switchDue k = false ∧ (s.sched
      k).held = [] ∧ j.plot < 64 ∧ (∀ n ∈ s.xNodes k, n ≠ s.node → ((s.routeOf n).filter (s.leasesPort
      j.plot)).any (s.reaches n) = true)) ∧ s.leaseSound j.plot)
    ∧ (∃ (s : State) (k : Fin 256), (∀ j, (s.sched k).job = some j → j.failed = none ∨ (j.failed = some false ∧
      j.replayed = false ∧ s.switchDue k = true)))
    ∧ (∃ (s : State) (port : Fin 24) (way : Nat × Bool), s.fabric.pathWant.find? (fun w => decide (w.1 =
      port.val)) = some way ∧ (∀ q ∈ s.fabric.scheds, ∀ j, q.2.job = some j → j.failed ≠ none ∨ j.op ≠
      opEXCHANGE ∨ ∀ n ∈ q.2.nodes, port.val ∉ s.routeOf n))
    ∧ (∃ (s : State) (port : Fin 24) (q : Nat × Sched) (j : XJob), q ∈ s.fabric.scheds ∧ q.2.job = some j ∧ j.op
      = opEXCHANGE ∧ j.failed = none ∧ (∃ n ∈ q.2.nodes, port.val ∈ s.routeOf n))
    ∧ (∃ (s : State) (port : Fin 24), (∀ w ∈ s.fabric.pathWant, w.1 ≠ port.val))
    ∧ (∃ (s : State) (gd : Fin 16) (ve : Fin 4), s.groveUp gd = true ∧ 2 ^ 32 ≤ (s.engine gd (3 + ve)).drawn)
    ∧ (∃ (s : State) (gd : Fin 16) (ve : Fin 4), (s.groveUp gd = false ∨ (s.engine gd (3 + ve)).drawn < 2 ^ 32)) :=
  ⟨⟨fetched { up with fabric := { scheds := [(0, { nodes := [1, 2, 3] })], routes := [(2, [0]), (3, [0])] } }
    [(xchg 1 0)], 0, 0, xchg 1 0, by decide +kernel, takes_of (by decide +kernel), unit_ok (by decide +kernel),
    leaseSound_of (by decide +kernel), ok_of (by decide +kernel), fun _ h => absurd (by decide +kernel) h⟩,
   ⟨fetched { up with fabric := { scheds := [(0, { nodes := [1, 2, 3] })], routes := [(2, [0]), (3, [0])] } }
    [(desc opEXCHANGE 0 [(8, 1), (12, 2), (14, 3), (16, 4), (18, 22), (24, 5), (27, 127), (28, 3 + 5 * 2 ^ 13), (29, 4), (32, 32)])],
    0, 0, desc opEXCHANGE 0
    [(8, 1), (12, 2), (14, 3), (16, 4), (18, 22), (24, 5), (27, 127), (28, 3 + 5 * 2 ^ 13), (29, 4), (32, 32)],
    by decide +kernel, takes_of (by decide +kernel)⟩,
   ⟨up, 0, 0, by decide +kernel⟩,
   ⟨(fetched up [(desc opEXCHANGE 4 [])]).modPlot 0 (fun q => { q with step := some ({ refused := true }) }),
    0, 0, 0x20, desc opEXCHANGE 4 [], by decide +kernel⟩,
   ⟨inX [1, 2, 3] (xchg 1 0) ({ op := opEXCHANGE, epoch := 5, written := [0] }), 0,
    { op := opEXCHANGE, epoch := 5, written := [0] }, issued (xchg 1 0), by decide +kernel, leaseSound_of
    (by decide +kernel)⟩,
   ⟨up, 0, none_all (by decide +kernel)⟩,
   ⟨inX [1, 2, 3] (xchg 1 0) ({ op := opEXCHANGE, epoch := 5 }), 0, 5, { op := opEXCHANGE, epoch := 5 },
    by decide +kernel⟩,
   ⟨up, 0, 0, none_all (by decide +kernel)⟩,
   ⟨inX [1, 2, 3] (xchg 1 0) ({ op := opEXCHANGE, epoch := 5, failed := some true }), 0,
    { op := opEXCHANGE, epoch := 5, failed := some true }, issued (xchg 1 0), true, by decide +kernel⟩,
   ⟨inX [1, 2, 3] (xchg 1 0) ({ op := opEXCHANGE, epoch := 5, failed := some false }), 0,
    { op := opEXCHANGE, epoch := 5, failed := some false }, issued (xchg 1 0), by decide +kernel, leaseSound_of
    (by decide +kernel)⟩,
   ⟨up, 0, none_all (by decide +kernel)⟩,
   ⟨{ up with fabric := { pathWant := [(0, true)] } }, 0, (0, true), by decide +kernel⟩,
   ⟨{ up with fabric := { scheds := [((0, { nodes := [1, 2], job := some ({ op := opEXCHANGE }) }))], routes := [(2, [0])] } },
    0, (0, { nodes := [1, 2], job := some ({ op := opEXCHANGE }) }), { op := opEXCHANGE }, by decide +kernel⟩,
   ⟨{ up with fabric := { scheds := [((0, { nodes := [1, 2], job := some ({ op := opEXCHANGE }) }))], routes := [(2, [0])] } },
    0, by decide +kernel⟩,
   ⟨{ up with engines := [(3, { drawn := 2 ^ 32 })] }, 0, 0, by decide +kernel⟩,
   ⟨State.reset, 0, 0, by decide +kernel⟩⟩

/-- States and operands that meet the hypotheses of `ExchangeRecordsAreAddedHeldOrStale`. -/
theorem witness_exchange_records_are_added_held_or_stale :
    (∃ (s : State) (k : Fin 256) (src : Fin 1024) (epoch : Fin 65536) (block : Nat) (h : BitVec 16) (l : List
      (BitVec 32)) (j : XJob) (ws : List Word) (a : XAcc), (recordLength h l = true ∧ (s.sched k).cur = some
      epoch.val ∧ (s.sched k).job = some j ∧ j.failed = none ∧ j.op = opEXCHANGE ∧ (s.xEntry j).xSparse = false
      ∧ badRecord h.toNat l = false ∧
      (match Tab.look j.accs block with | some a => a | none => s.localAcc k (s.xEntry j) ws block) = a ∧
      ((s.xNodes k).idxOf src.val) < (s.xNodes k).length ∧ ((s.xNodes k).idxOf src.val) ∈ (s.xHop k (s.xEntry j)
      block (s.xPos k)).froms ∧ ((s.xNodes k).idxOf src.val) ∉ a.got ∧ a.got.length + 1 < (s.xHop k (s.xEntry j)
      block (s.xPos k)).froms.length) ∧ s.sendWords j.plot (s.xEntry j) = .ok ws)
    ∧ (∃ (s : State) (k : Fin 256) (src : Fin 1024) (epoch : Fin 65536) (chunk : Nat) (h : BitVec 64) (l : List
      (BitVec 32 × BitVec 16)) (j : XJob) (ws : List Word) (a : XAcc), (listLength h l = true ∧ (s.sched k).cur
      = some epoch.val ∧ (s.sched k).job = some j ∧ j.failed = none ∧ j.op = opEXCHANGE ∧ (s.xEntry j).xSparse =
      true ∧ badList h.toNat (s.unitElems k (s.xEntry j) chunk).1 (s.unitElems k (s.xEntry j) chunk).2 (pairsOf
      (listWords l)) = false ∧
      (match Tab.look j.accs chunk with | some a => a | none => s.localAcc k (s.xEntry j) ws chunk) = a ∧
      ((s.xNodes k).idxOf src.val) < (s.xNodes k).length ∧ ((s.xNodes k).idxOf src.val) ∈ (s.xHop k (s.xEntry j)
      chunk (s.xPos k)).froms ∧ ((s.xNodes k).idxOf src.val) ∉ a.got ∧ a.got.length + 1 < (s.xHop k (s.xEntry j)
      chunk (s.xPos k)).froms.length) ∧ s.sendWords j.plot (s.xEntry j) = .ok ws)
    ∧ (∃ (s : State) (k : Fin 256) (epoch : Fin 65536) (block : Nat) (h : BitVec 16) (l : List (BitVec 32)) (j :
      XJob) (ws : List Word) (a : XAcc), (recordLength h l = true ∧ (s.sched k).cur = some epoch.val ∧ (s.sched
      k).job = some j ∧ j.failed = none ∧ j.op = opEXCHANGE ∧
      (match Tab.look j.accs block with | some a => a | none => s.localAcc k (s.xEntry j) ws block) = a) ∧
      s.sendWords j.plot (s.xEntry j) = .ok ws)
    ∧ (∃ (s : State) (k : Fin 256) (src : Fin 1024) (epoch : Fin 65536) (n : Nat) (h : BitVec 16) (l : List
      (BitVec 32)) (j : XJob), (recordLength h l = true ∧ (s.sched k).cur = some epoch.val ∧ (s.sched k).job =
      some j ∧ j.failed = none ∧ j.op = opEXCHANGE ∧ (s.xEntry j).xSparse = false ∧ badRecord h.toNat l = false
      ∧ n ∉ j.written ∧ (s.xNodes k).idxOf src.val < (s.xNodes k).length ∧ s.xPos k ∈ (s.xHop k (s.xEntry j) n
      ((s.xNodes k).idxOf src.val)).gather ∧ j.plot < 64 ∧ (s.xHop k (s.xEntry j) n (s.xPos k)).gather = []) ∧
      s.leaseSound j.plot)
    ∧ (∃ (c : Instr) (k : Fin 256) (x : XRecord), arrivalOf c = some (k, x))
    ∧ (∃ (port : Fin 24) (sched : Fin 256) (src : Fin 1024) (epoch : Fin 65536) (head : Option (Nat × Nat))
      (block : Nat) (header : BitVec 16) (payload : List (BitVec 32)), (Instr.exchangeRecordArrive port sched
      src epoch head block header payload).wellFormed = true)
    ∧ (∃ (port : Fin 24) (sched : Fin 256) (src : Fin 1024) (epoch : Fin 65536) (head : Option (Nat × Nat))
      (chunk : Nat) (header : BitVec 64) (entries : List (BitVec 32 × BitVec 16)), (Instr.exchangeListArrive
      port sched src epoch head chunk header entries).wellFormed = true)
    ∧ (∃ (port : Fin 24) (sched : Fin 256) (src : Fin 1024) (epoch : Fin 65536) (head : Option (Nat × Nat))
      (final : FinalSums), (Instr.exchangeGatherRecord port sched src epoch head final).wellFormed = true) :=
  ⟨⟨inX [1, 2, 3] (xchg 1 0) ({ op := opEXCHANGE, epoch := 5 }), 0, 2, 5, 0, 127, List.replicate 32 0,
    { op := opEXCHANGE, epoch := 5 }, got ((inX [1, 2, 3] (xchg 1 0) ({ op := opEXCHANGE, epoch := 5 }) :
    State).sendWords ({ op := opEXCHANGE, epoch := 5 } : XJob).plot ((inX [1, 2, 3] (xchg 1 0)
    ({ op := opEXCHANGE, epoch := 5 }) : State).xEntry ({ op := opEXCHANGE, epoch := 5 } : XJob))), (inX
    [1, 2, 3] (xchg 1 0) ({ op := opEXCHANGE, epoch := 5 })).localAcc 0 ((inX [1, 2, 3] (xchg 1 0)
    ({ op := opEXCHANGE, epoch := 5 })).xEntry ({ op := opEXCHANGE, epoch := 5 })) (got ((inX [1, 2, 3] (xchg 1
    0) ({ op := opEXCHANGE, epoch := 5 }) : State).sendWords ({ op := opEXCHANGE, epoch := 5 } : XJob).plot
    ((inX [1, 2, 3] (xchg 1 0) ({ op := opEXCHANGE, epoch := 5 }) : State).xEntry
    ({ op := opEXCHANGE, epoch := 5 } : XJob)))) 0, by decide +kernel, eq_got (by decide +kernel)⟩,
   ⟨inX [1, 2, 3] (xchg 1 1) ({ op := opEXCHANGE, epoch := 5 }), 0, 2, 5, 0, 0, [],
    { op := opEXCHANGE, epoch := 5 }, got ((inX [1, 2, 3] (xchg 1 1) ({ op := opEXCHANGE, epoch := 5 }) :
    State).sendWords ({ op := opEXCHANGE, epoch := 5 } : XJob).plot ((inX [1, 2, 3] (xchg 1 1)
    ({ op := opEXCHANGE, epoch := 5 }) : State).xEntry ({ op := opEXCHANGE, epoch := 5 } : XJob))), (inX
    [1, 2, 3] (xchg 1 1) ({ op := opEXCHANGE, epoch := 5 })).localAcc 0 ((inX [1, 2, 3] (xchg 1 1)
    ({ op := opEXCHANGE, epoch := 5 })).xEntry ({ op := opEXCHANGE, epoch := 5 })) (got ((inX [1, 2, 3] (xchg 1
    1) ({ op := opEXCHANGE, epoch := 5 }) : State).sendWords ({ op := opEXCHANGE, epoch := 5 } : XJob).plot
    ((inX [1, 2, 3] (xchg 1 1) ({ op := opEXCHANGE, epoch := 5 }) : State).xEntry
    ({ op := opEXCHANGE, epoch := 5 } : XJob)))) 0, by decide +kernel, eq_got (by decide +kernel)⟩,
   ⟨inX [1, 2, 3] (xchg 1 0) ({ op := opEXCHANGE, epoch := 5 }), 0, 5, 0, 127, List.replicate 32 0,
    { op := opEXCHANGE, epoch := 5 }, got ((inX [1, 2, 3] (xchg 1 0) ({ op := opEXCHANGE, epoch := 5 }) :
    State).sendWords ({ op := opEXCHANGE, epoch := 5 } : XJob).plot ((inX [1, 2, 3] (xchg 1 0)
    ({ op := opEXCHANGE, epoch := 5 }) : State).xEntry ({ op := opEXCHANGE, epoch := 5 } : XJob))), (inX
    [1, 2, 3] (xchg 1 0) ({ op := opEXCHANGE, epoch := 5 })).localAcc 0 ((inX [1, 2, 3] (xchg 1 0)
    ({ op := opEXCHANGE, epoch := 5 })).xEntry ({ op := opEXCHANGE, epoch := 5 })) (got ((inX [1, 2, 3] (xchg 1
    0) ({ op := opEXCHANGE, epoch := 5 }) : State).sendWords ({ op := opEXCHANGE, epoch := 5 } : XJob).plot
    ((inX [1, 2, 3] (xchg 1 0) ({ op := opEXCHANGE, epoch := 5 }) : State).xEntry
    ({ op := opEXCHANGE, epoch := 5 } : XJob)))) 0, by decide +kernel, eq_got (by decide +kernel)⟩,
   ⟨inX [2, 1, 3] (xchg 1 0) ({ op := opEXCHANGE, epoch := 5 }), 0, 2, 5, 0, 127, List.replicate 32 0,
    { op := opEXCHANGE, epoch := 5 }, by decide +kernel, leaseSound_of (by decide +kernel)⟩,
   ⟨.exchangeRecordArrive 0 0 2 5 none 0 0x400 [], 0, { src := 2, epoch := 5, header := 0x400 },
    by decide +kernel⟩,
   ⟨0, 0, 0, 0, none, 0, 0x400, [], by decide +kernel⟩,
   ⟨0, 0, 0, 0, none, 0, 0, [], by decide +kernel⟩,
   ⟨0, 0, 0, 0, none, .block 0 0x400 [], by decide +kernel⟩⟩

/-- States and operands that meet the hypotheses of `DispatchAndCombineMoveRows`. -/
theorem witness_dispatch_and_combine_move_rows :
    (∃ (s : State) (ring : Fin 1024) (idx : Nat) (e : Entry) (route : List Word) (map : List Word), ((s.sched
      (e.u8 34)).job = none ∧ (s.sched (e.u8 34)).held = [] ∧ firstFail (s.dispatchChecks (s.ringPlot ring) e) =
      none ∧ isNarrow (s.tensorOf (s.ringPlot ring) (e.u16 8)).fmt = false ∧ s.routeInvalid e route map = false)
      ∧ s.takes ring idx opDISPATCH e ∧ s.leaseSound (s.ringPlot ring) ∧ s.rawWords (s.ringPlot ring) (e.u16 10)
      (2 * (e.tokens * e.tope)) = .ok route ∧ (e.tokens = 0 → map = []) ∧ (e.tokens ≠ 0 → s.rawWords (s.ringPlot
      ring) (e.u16 12) e.numExp = .ok map))
    ∧ (∃ (s : State) (ring : Fin 1024) (idx : Nat) (e : Entry), ((s.sched (e.u8 34)).job = none ∧ (s.sched (e.u8
      34)).held = [] ∧ firstFail (s.combineChecks (s.ringPlot ring) e) = none ∧ isNarrow (s.tensorOf (s.ringPlot
      ring) (e.u16 16)).fmt = false) ∧ s.takes ring idx opCOMBINE e ∧ s.leaseSound (s.ringPlot ring))
    ∧ (∃ (ring : Fin 1024) (idx : Nat) (op : Nat) (c : Instr), ((op = opDISPATCH ∧ c = .dispatch ring idx) ∨ (op
      = opCOMBINE ∧ c = .combine ring idx)))
    ∧ (∃ (s : State) (k : Fin 256) (epoch : Fin 65536) (row : Nat) (vals : List (BitVec 32)) (j : XJob),
      ((s.sched k).cur = some epoch.val ∧ (s.sched k).job = some j ∧ j.failed = none ∧ j.op = opDISPATCH ∧
      (s.xEntry j).localExp ≠ 0 ∧ row < (s.tensorOf j.plot ((s.xEntry j).u16 14)).rows ∧ vals.length =
      (s.tensorOf j.plot ((s.xEntry j).u16 14)).cols ∧ (s.tensorOf j.plot ((s.xEntry j).u16 18)).fmt = 0xE ∧ 2 *
      (s.tensorOf j.plot ((s.xEntry j).u16 14)).rows ≤ (s.tensorOf j.plot ((s.xEntry j).u16 18)).count ∧ j.plot
      < 64) ∧ s.leaseSound j.plot)
    ∧ (∃ (s : State) (k : Fin 256) (epoch : Fin 65536) (row : Nat) (vals : List (BitVec 32)) (j : XJob),
      (s.sched k).cur = some epoch.val ∧ (s.sched k).job = some j ∧ j.failed = none ∧ j.op = opDISPATCH ∧
      ((s.xEntry j).localExp = 0 ∨ (s.tensorOf j.plot ((s.xEntry j).u16 14)).rows ≤ row ∨ vals.length ≠
      (s.tensorOf j.plot ((s.xEntry j).u16 14)).cols))
    ∧ (∃ (s : State) (k : Fin 256) (src : Fin 1024) (n : Fin 1024) (epoch : Fin 65536) (j : XJob), (s.sched
      k).cur = some epoch.val ∧ (s.sched k).job = some j ∧ j.failed = none ∧ j.op = opDISPATCH ∧ n.val ∈
      s.xNodes k ∧ n.val ≠ s.node ∧ n ≠ src ∧ n.val ∉ j.closed)
    ∧ (∃ (s : State) (k : Fin 256) (src : Fin 1024) (epoch : Fin 65536) (j : XJob) (e : Entry), ((s.sched k).cur
      = some epoch.val ∧ (s.sched k).job = some j ∧ j.failed = none ∧ j.op = opDISPATCH ∧ s.entry j.ring j.idx =
      some e ∧ e.stage = 2 ∧ (∀ n ∈ s.xNodes k, n = s.node ∨ n = src.val ∨ n ∈ j.closed) ∧ (∀ t ∈
      s.tags.waiting, ¬ (t.kind = 2 ∧ t.ring = j.ring ∧ t.idx = j.idx))) ∧ (j.rows = [] ∨ (j.plot < 64 ∧
      s.leaseSound j.plot)))
    ∧ (∃ (s : State) (k : Fin 256) (epoch : Fin 65536) (rank : Fin 8) (token : BitVec 32) (vals : List (BitVec
      32)) (j : XJob) (route : List Word) (drec : List Word), ((s.sched k).cur = some epoch.val ∧ (s.sched
      k).job = some j ∧ j.failed = none ∧ j.op = opCOMBINE ∧ token.toNat < (s.xEntry j).tokens ∧ rank.val <
      (s.xEntry j).tope ∧ j.expect ≠ 0 ∧ vals.length = (s.tensorOf j.plot ((s.xEntry j).u16 22)).cols) ∧
      s.rawWords j.plot ((s.xEntry j).u16 10) (2 * (s.xEntry j).tokens * (s.xEntry j).tope) = .ok route ∧
      s.rawWords j.plot ((s.xEntry j).u16 20) ((s.xEntry j).tokens * (s.xEntry j).tope) = .ok drec)
    ∧ (∃ (s : State) (k : Fin 256) (epoch : Fin 65536) (rank : Fin 8) (token : BitVec 32) (vals : List (BitVec
      32)) (j : XJob), (s.sched k).cur = some epoch.val ∧ (s.sched k).job = some j ∧ j.failed = none ∧ j.op =
      opCOMBINE ∧ ((s.xEntry j).tokens ≤ token.toNat ∨ (s.xEntry j).tope ≤ rank.val ∨ j.expect = 0 ∨ vals.length
      ≠ (s.tensorOf j.plot ((s.xEntry j).u16 22)).cols)) :=
  ⟨⟨fetched
    { up with fabric := { scheds := [(0, { nodes := [1, 2, 3] })], routing := [(0, { node := 1, localExp := 1 })] } }
    [(rowsOp opDISPATCH)], 0, 0, rowsOp opDISPATCH, got ((fetched
    { up with fabric := { scheds := [(0, { nodes := [1, 2, 3] })], routing := [(0, { node := 1, localExp := 1 })] } }
    [(rowsOp opDISPATCH)] : State).rawWords ((fetched
    { up with fabric := { scheds := [(0, { nodes := [1, 2, 3] })], routing := [(0, { node := 1, localExp := 1 })] } }
    [(rowsOp opDISPATCH)] : State).ringPlot (0 : Fin 1024)) ((rowsOp opDISPATCH : Entry).u16 10) (2 * ((rowsOp
    opDISPATCH : Entry).tokens * (rowsOp opDISPATCH : Entry).tope))), got ((fetched
    { up with fabric := { scheds := [(0, { nodes := [1, 2, 3] })], routing := [(0, { node := 1, localExp := 1 })] } }
    [(rowsOp opDISPATCH)] : State).rawWords ((fetched
    { up with fabric := { scheds := [(0, { nodes := [1, 2, 3] })], routing := [(0, { node := 1, localExp := 1 })] } }
    [(rowsOp opDISPATCH)] : State).ringPlot (0 : Fin 1024)) ((rowsOp opDISPATCH : Entry).u16 12) (rowsOp
    opDISPATCH : Entry).numExp), by decide +kernel, takes_of (by decide +kernel), leaseSound_of
    (by decide +kernel), eq_got (by decide +kernel), fun h => absurd h (by decide +kernel), fun _ => eq_got
    (by decide +kernel)⟩,
   ⟨fetched { up with fabric := { scheds := [(0, { nodes := [1, 2, 3] })] } } [(rowsOp opCOMBINE)], 0, 0,
    rowsOp opCOMBINE, by decide +kernel, takes_of (by decide +kernel), leaseSound_of (by decide +kernel)⟩,
   ⟨0, 0, opDISPATCH, .dispatch 0 0, .inl ⟨rfl, rfl⟩⟩,
   ⟨inX [1, 2, 3] (rowsOp opDISPATCH) ({ op := opDISPATCH, epoch := 5 }), 0, 5, 0, [0, 0, 0, 0],
    { op := opDISPATCH, epoch := 5 }, by decide +kernel, leaseSound_of (by decide +kernel)⟩,
   ⟨inX [1, 2, 3] (rowsOp opDISPATCH) ({ op := opDISPATCH, epoch := 5 }), 0, 5, 0, [0],
    { op := opDISPATCH, epoch := 5 }, by decide +kernel⟩,
   ⟨inX [1, 2, 3] (rowsOp opDISPATCH) ({ op := opDISPATCH, epoch := 5 }), 0, 2, 3, 5,
    { op := opDISPATCH, epoch := 5 }, by decide +kernel⟩,
   ⟨inX [1, 2, 3] (rowsOp opDISPATCH) ({ op := opDISPATCH, epoch := 5, closed := [3] }), 0, 2, 5,
    { op := opDISPATCH, epoch := 5, closed := [3] }, issued (rowsOp opDISPATCH), by decide +kernel, .inl rfl⟩,
   ⟨inX [1, 2, 3] (rowsOp opCOMBINE) ({ op := opCOMBINE, epoch := 5, expect := 2 }), 0, 5, 0, 0, [0, 0, 0, 0],
    { op := opCOMBINE, epoch := 5, expect := 2 }, got ((inX [1, 2, 3] (rowsOp opCOMBINE)
    ({ op := opCOMBINE, epoch := 5, expect := 2 }) : State).rawWords
    ({ op := opCOMBINE, epoch := 5, expect := 2 } : XJob).plot (((inX [1, 2, 3] (rowsOp opCOMBINE)
    ({ op := opCOMBINE, epoch := 5, expect := 2 }) : State).xEntry ({ op := opCOMBINE, epoch := 5, expect := 2 }
    : XJob)).u16 10) (2 * ((inX [1, 2, 3] (rowsOp opCOMBINE) ({ op := opCOMBINE, epoch := 5, expect := 2 }) :
    State).xEntry ({ op := opCOMBINE, epoch := 5, expect := 2 } : XJob)).tokens * ((inX [1, 2, 3] (rowsOp
    opCOMBINE) ({ op := opCOMBINE, epoch := 5, expect := 2 }) : State).xEntry
    ({ op := opCOMBINE, epoch := 5, expect := 2 } : XJob)).tope)), got ((inX [1, 2, 3] (rowsOp opCOMBINE)
    ({ op := opCOMBINE, epoch := 5, expect := 2 }) : State).rawWords
    ({ op := opCOMBINE, epoch := 5, expect := 2 } : XJob).plot (((inX [1, 2, 3] (rowsOp opCOMBINE)
    ({ op := opCOMBINE, epoch := 5, expect := 2 }) : State).xEntry ({ op := opCOMBINE, epoch := 5, expect := 2 }
    : XJob)).u16 20) (((inX [1, 2, 3] (rowsOp opCOMBINE) ({ op := opCOMBINE, epoch := 5, expect := 2 }) :
    State).xEntry ({ op := opCOMBINE, epoch := 5, expect := 2 } : XJob)).tokens * ((inX [1, 2, 3] (rowsOp
    opCOMBINE) ({ op := opCOMBINE, epoch := 5, expect := 2 }) : State).xEntry
    ({ op := opCOMBINE, epoch := 5, expect := 2 } : XJob)).tope)), by decide +kernel, eq_got
    (by decide +kernel), eq_got (by decide +kernel)⟩,
   ⟨inX [1, 2, 3] (rowsOp opCOMBINE) ({ op := opCOMBINE, epoch := 5, expect := 2 }), 0, 5, 0, 0, [0],
    { op := opCOMBINE, epoch := 5, expect := 2 }, by decide +kernel⟩⟩

/-- States and operands that meet the hypotheses of `PortsChangeModeAndRequalify`. -/
theorem witness_ports_change_mode_and_requalify :
    (∃ (s : State) (path : Fin 6) (port : Fin 24), s.writeOpen path (portCtlAddr port) = true)
    ∧ (∃ (s : State) (path : Fin 6) (port : Fin 24), s.writeOpen path (portCtlAddr port) = false)
    ∧ (∃ (s : State) (port : Fin 24), s.fabricUp = true ∧ (s.port port).reduced = true ∧ s.portCarries port =
      true ∧ s.rd (LNK_PORT_CTL.MODE port) = 1)
    ∧ (∃ (s : State) (port : Fin 24), s.fabricUp = true ∧ (s.port port).reduced = true ∧ s.portState port ≠
      portRETIRED ∧ 5 ≤ s.rd (LNK_PORT_CTL.MODE port) ∧ s.rd (LNK_PORT_CTL.MODE port) < 7)
    ∧ (∃ (s : State) (port : Fin 24), (s.fabricUp = false ∨ (s.port port).reduced = false ∨ s.portState port =
      portRETIRED ∨ (s.rd (LNK_PORT_CTL.MODE port) = 1 ∧ s.portCarries port = false) ∨ (s.rd (LNK_PORT_CTL.MODE
      port) ≠ 1 ∧ ¬ (5 ≤ s.rd (LNK_PORT_CTL.MODE port) ∧ s.rd (LNK_PORT_CTL.MODE port) < 7))))
    ∧ (∃ (s : State) (path : Fin 6) (port : Fin 24) (v : BitVec 32), s.writeOpen path (portCtlAddr port) = true
      ∧ (s.storePortCtl port v.toNat).lockDropped (requalLock port) = false ∧ (s.storePortCtl port
      v.toNat).mayRequal port = true)
    ∧ (∃ (s : State) (port : Fin 24) (v : BitVec 32), ((s.storePortCtl port v.toNat).lockDropped (requalLock
      port) = true ∨ (s.storePortCtl port v.toNat).mayRequal port = false))
    ∧ (∃ (s : State) (port : Fin 24) (remote : Bool), (remote = true ∨ ((s.port port).requalWait = true ∧
      s.hasLock (requalLock port) = true)) ∧ s.mayRequal port = true ∧ (s.port port).requalRun = [])
    ∧ (∃ (s : State) (port : Fin 24), (s.port port).requalWait = true ∧ s.hasLock (requalLock port) = true ∧
      s.mayRequal port = false)
    ∧ (∃ (s : State) (port : Fin 24) (remote : Bool), (s.mayRequal port = true → (s.port port).requalRun ≠ [] ∨
      (remote = false ∧ ((s.port port).requalWait = false ∨ s.hasLock (requalLock port) = false))) ∧
      (s.mayRequal port = false → (s.port port).requalWait = false ∨ s.hasLock (requalLock port) = false))
    ∧ (∃ (s : State) (port : Fin 24) (errs : List Nat), (s.port port).requalRun ≠ [] ∧ s.hasLock
      { kind := 6, unit := port } = false ∧ s.portState port = portTEST ∧ (s.port port).requalAt + 10 * perS ≤
      s.now ∧ errs.length = 4)
    ∧ (∃ (s : State) (port : Fin 24) (errs : List Nat), (s.port port).requalRun ≠ [] ∧ s.hasLock
      { kind := 6, unit := port } = false ∧ s.portState port = portRETIRED ∧ (s.port port).requalAt + 10 * perS
      ≤ s.now ∧ errs.length = 4)
    ∧ (∃ (s : State) (port : Fin 24) (errs : List Nat), errs.length = 4 ∧ ((s.port port).requalRun = [] ∨
      s.hasLock { kind := 6, unit := port } = true ∨ s.now < (s.port port).requalAt + 10 * perS))
    ∧ (∃ (errs : List Nat), errs.length ≠ 4)
    ∧ (∃ (port : Fin 24) (errs : List Nat) (syms : Nat) (uncorr : List (Fin 4)), (Instr.requalComplete port errs
      syms uncorr).wellFormed = true) :=
  ⟨⟨onPort portRETIRED (fun q => { q with reduced := true }), 0, 0, by decide +kernel⟩,
   ⟨up, 5, 0, by decide +kernel⟩,
   ⟨{ onPort portUP (fun q => { q with requalWait := true, lanesRetired := [1] }) with maint := { active := [requalLock 0] } },
    0, by decide +kernel⟩,
   ⟨put (onPort portUP (fun q => { q with reduced := true })) [(LNK_PORT_CTL.MODE 0, 5)], 0, by decide +kernel⟩,
   ⟨State.reset, 0, by decide +kernel⟩,
   ⟨onPort portUP (fun q => { q with lanesRetired := [1] }), 0, 0, 15, by decide +kernel⟩,
   ⟨up, 0, 15, by decide +kernel⟩,
   ⟨{ onPort portUP (fun q => { q with requalWait := true, lanesRetired := [1] }) with maint := { active := [requalLock 0] } },
    0, false, by decide +kernel⟩,
   ⟨{ onPort portRETIRED (fun q => { q with requalWait := true, lanesRetired := [1] }) with maint := { active := [requalLock 0] } },
    0, by decide +kernel⟩,
   ⟨up, 0, false, by decide +kernel⟩,
   ⟨onPort portTEST (fun q => { q with requalRun := [1] }), 0, [0, 0, 0, 0], by decide +kernel⟩,
   ⟨onPort portRETIRED (fun q => { q with requalRun := [1] }), 0, [0, 0, 0, 0], by decide +kernel⟩,
   ⟨up, 0, [0, 0, 0, 0], by decide +kernel⟩,
   ⟨[], by decide +kernel⟩,
   ⟨0, [0, 0, 0, 0], 0, [], by decide +kernel⟩⟩

set_option maxRecDepth 100000 in
/-- States and operands that meet the hypotheses of `FlitsAreTakenInOrderOrSentAgain`. -/
theorem witness_flits_are_taken_in_order_or_sent_again :
    (∃ (s : State) (port : Fin 24) (bytes : List (BitVec 8)), bytes.length = 256 ∧ s.portTakes port = true ∧
      s.ethernet port = false)
    ∧ (∃ (s : State) (port : Fin 24) (node : Fin 1024) (seq : Fin 4096) (errs : List Nat), errs.length = 4 ∧
      s.portTakes port = true ∧ ((s.ackTo port node ((seq.val + 4095) % 4096)).link port node).unacked ≠ 0)
    ∧ (∃ (s : State) (port : Fin 24) (seq : Fin 4096), s.portTakes port = true ∧ s.ethernet port = false ∧
      (s.port port).link.queue = [] ∧ ((s.port port).link.acked ((seq.val + 4095) % 4096)).buffer ≠ [] ∧ (recent
      s.now s.retryWindow (s.port port).link.retryTimes).length < s.rd CFG_LNK_RETRY_MAX.MAX)
    ∧ (∃ (s : State) (port : Fin 24) (node : Fin 1024) (seq : Fin 4096) (errs : List Nat), errs.length = 4 ∧
      s.portTakes port = true ∧ ((s.ackTo port node ((seq.val + 4095) % 4096)).link port node).unacked = 0)
    ∧ (∃ (s : State) (port : Fin 24) (node : Fin 1024), s.portTakes port = true ∧ (s.link port node).unacked ≠ 0
      ∧ (s.link port node).retryDue ≤ s.now)
    ∧ (∃ (s : State) (port : Fin 24) (node : Fin 1024), (s.portTakes port = false ∨ (s.link port node).unacked =
      0 ∨ s.now < (s.link port node).retryDue))
    ∧ (∃ (s : State) (port : Fin 24), s.portTakes port = true ∧ s.ethernet port = false ∧ (s.port
      port).link.nakSent = true ∧ (s.port port).link.nakDue ≤ s.now)
    ∧ (∃ (s : State) (port : Fin 24) (node : Fin 1024), (s.portTakes port = false ∨ (s.link port node).nakSent =
      false ∨ s.now < (s.link port node).nakDue))
    ∧ (∃ (s : State) (port : Fin 24) (fcsOk : Bool) (unicast : Bool) (bytes : List (BitVec 8)), s.portTakes port
      = true ∧ s.ethernet port = true ∧ (fcsOk = false ∨ unicast = false ∨ frameFlits bytes = none))
    ∧ (∃ (s : State) (port : Fin 24) (node : Fin 1024) (bytes : List (BitVec 8)) (b : List (BitVec 8)),
      s.portTakes port = true ∧ s.ethernet port = true ∧ frameFlits bytes = some [b] ∧ flitCrcOk b = true ∧
      flitMisbehaves b = false ∧ 2 ≤ flitType b ∧ flitSeq b = (s.link port node).expected)
    ∧ (∃ (s : State) (port : Fin 24) (bytes : List (BitVec 8)) (b : List (BitVec 8)), s.portTakes port = true ∧
      s.ethernet port = true ∧ frameFlits bytes = some [b] ∧ flitCrcOk b = false)
    ∧ (∃ (port : Fin 24) (bytes : List (BitVec 8)) (word : List (Fin 544)) (tagOk : Bool), (Instr.flitReceive
      port bytes word tagOk).wellFormed = true)
    ∧ (∃ (port : Fin 24) (node : Fin 1024) (seq : Fin 4096) (errs : List Nat), (Instr.nakReceive port node seq
      errs).wellFormed = true) :=
  ⟨⟨up, 0, flit 2 0, by decide +kernel⟩,
   ⟨onPort portUP (fun q => { q with link := { buffer := [{}] } }), 0, 0, 0, [0, 0, 0, 0], by decide +kernel⟩,
   ⟨onPort portUP (fun q => { q with link := { buffer := [{}] } }), 0, 0, by decide +kernel⟩,
   ⟨up, 0, 0, 0, [0, 0, 0, 0], by decide +kernel⟩,
   ⟨onPort portUP (fun q => { q with link := { buffer := [{}] } }), 0, 0, by decide +kernel⟩,
   ⟨onPort portUP (fun q => { q with link := { nakSent := true } }), 0, 0, by decide +kernel⟩,
   ⟨onPort portUP (fun q => { q with link := { nakSent := true } }), 0, by decide +kernel⟩,
   ⟨up, 0, 0, by decide +kernel⟩,
   ⟨onPort portUP (fun q => { q with appliedMode := 3 }), 0, false, false, [], by decide +kernel⟩,
   ⟨onPort portUP (fun q => { q with appliedMode := 3 }), 0, 0, xasinFrame [flit 2 0], flit 2 0,
    by decide +kernel⟩,
   ⟨onPort portUP (fun q => { q with appliedMode := 3 }), 0, xasinFrame [(List.replicate 256 1)],
    List.replicate 256 1, by decide +kernel⟩,
   ⟨0, flit 2 0, [], false, by decide +kernel⟩,
   ⟨0, 0, 0, [0, 0, 0, 0], by decide +kernel⟩⟩

/-- States and operands that meet the hypotheses of `LanesAreMeasuredAndPortsIdle`. -/
theorem witness_lanes_are_measured_and_ports_idle :
    (∃ (s : State) (port : Fin 24), (s.fabricUp = true ∧ s.portCarries port = true ∧ s.ethernet port = false ∧
      (s.port port).serAt + 8192 ≤ s.now) ∧ (∀ i, i < 4 → i ∈ (s.port port).lanesRetired ∨ serAbove (Tab.val
      (s.port port).fecErrs i) (Tab.val (s.port port).fecSyms i) (s.rd CFG_LNK_BER_THRESH.THRESH) 1 = false))
    ∧ (∃ (s : State) (port : Fin 24) (i : Fin 4), (s.fabricUp = true ∧ s.portCarries port = true ∧ s.ethernet
      port = false ∧ (s.port port).serAt + 8192 ≤ s.now ∧ i.val ∉ (s.port port).lanesRetired ∧ 3 ≤ (s.lanesUp
      port).length ∧ Tab.val (s.port port).serHigh i ≠ 0 ∧ Tab.val (s.port port).serHigh i - 1 + s.rd
      CFG_LNK_BER_HOLD.HOLD_MS * perMs ≤ s.now) ∧ (∀ j, j < 4 → j ∉ (s.port port).lanesRetired → serAbove
      (Tab.val (s.port port).fecErrs j) (Tab.val (s.port port).fecSyms j) (s.rd CFG_LNK_BER_THRESH.THRESH) 1 =
      decide (j = i.val)))
    ∧ (∃ (s : State) (port : Fin 24), (s.fabricUp = false ∨ s.portCarries port = false ∨ s.ethernet port = true
      ∨ s.now < (s.port port).serAt + 8192))
    ∧ (∃ (s : State) (port : Fin 24) (lanes : List (Fin 4)), s.fabricUp = true ∧ s.portCarries port = true ∧
      s.ethernet port = false ∧ (2 ≤ ((s.lanesUp port).filter (fun i => decide (∀ l ∈ lanes, l.val ≠
      i))).length))
    ∧ (∃ (s : State) (port : Fin 24) (lanes : List (Fin 4)), s.fabricUp = true ∧ s.portCarries port = true ∧
      s.ethernet port = false ∧ (((s.lanesUp port).filter (fun i => decide (∀ l ∈ lanes, l.val ≠ i))).length <
      2) ∧ (∃ l ∈ lanes, l.val ∉ (s.port port).lanesRetired))
    ∧ (∃ (s : State) (port : Fin 24) (lanes : List (Fin 4)), (s.fabricUp = false ∨ s.portCarries port = false ∨
      s.ethernet port = true ∨ (∀ l ∈ lanes, l.val ∈ (s.port port).lanesRetired)))
    ∧ (∃ (s : State) (port : Fin 24), s.fabricUp = true ∧ s.portState port = portUP ∧ s.rd (LNK_PORT_CTL.LPI_EN
      port) = 1 ∧ s.idleLong port = true ∧ s.ethernet port = false ∧ (s.port port).link.quiet = true ∧ (s.port
      port).lpiOffer = false)
    ∧ (∃ (s : State) (port : Fin 24), (s.fabricUp = false ∨ s.portState port ≠ portUP ∨ s.rd
      (LNK_PORT_CTL.LPI_EN port) ≠ 1 ∨ s.idleLong port = false ∨ (s.ethernet port = false ∧ ((s.port
      port).link.quiet = false ∨ (s.port port).lpiOffer = true)) ∨ (s.ethernet port = true ∧ (Config.clause78
      (s.port port).appliedMode = false ∨ ∃ q ∈ (s.port port).paths, q.2.quiet = false))))
    ∧ (∃ (s : State) (port : Fin 24), s.fabricUp = true ∧ s.portState port = portUP ∧ s.rd (LNK_PORT_CTL.LPI_EN
      port) = 1 ∧ s.ethernet port = false ∧ (s.port port).link.quiet = true ∧ (s.port port).lpiOffer = true)
    ∧ (∃ (s : State) (port : Fin 24), s.fabricUp = true ∧ s.portState port = portUP ∧ s.rd (LNK_PORT_CTL.LPI_EN
      port) = 1 ∧ s.ethernet port = false ∧ (s.port port).link.calm = true ∧ ((s.port port).link.quiet = false ∨
      (s.port port).lpiOffer = false))
    ∧ (∃ (s : State) (port : Fin 24), s.fabricUp = true ∧ s.portState port = portUP ∧ s.rd (LNK_PORT_CTL.LPI_EN
      port) = 1 ∧ s.ethernet port = false ∧ (s.port port).link.calm = false)
    ∧ (∃ (s : State) (port : Fin 24), (s.fabricUp = false ∨ s.portState port ≠ portUP ∨ s.rd
      (LNK_PORT_CTL.LPI_EN port) ≠ 1 ∨ s.ethernet port = true))
    ∧ (∃ (s : State) (port : Fin 24), s.fabricUp = true ∧ s.portState port = portLPI)
    ∧ (∃ (s : State) (port : Fin 24), (s.fabricUp = false ∨ s.portState port ≠ portLPI))
    ∧ (∃ (s : State) (port : Fin 24), s.fabricUp = true ∧ s.portCarries port = true)
    ∧ (∃ (s : State) (port : Fin 24), (s.fabricUp = false ∨ s.portCarries port = false))
    ∧ (∃ (s : State) (port : Fin 24), s.fabricUp = true ∧ s.portState port = portDOWN ∧ s.rd (LNK_PORT_CTL.MODE
      port) ≠ 0 ∧ (s.port port).probeAt ≤ s.now ∧ (∀ t, (s.port port).lostAt = some t → s.now ≤ t + perS))
    ∧ (∃ (s : State) (port : Fin 24) (l : Nat), s.fabricUp = true ∧ s.portState port = portDOWN ∧ s.rd
      (LNK_PORT_CTL.MODE port) ≠ 0 ∧ (s.port port).probeAt ≤ s.now ∧ (s.port port).lostAt = some l ∧ l + perS <
      s.now ∧ 2 ≤ (recent s.now perHour (s.port port).losses).length)
    ∧ (∃ (s : State) (port : Fin 24), s.fabricUp = true ∧ s.portState port = portTRAINING)
    ∧ (∃ (s : State) (port : Fin 24) (found : Bool), (s.fabricUp = false ∨ (s.portState port ≠ portDOWN ∧
      (s.portState port ≠ portTRAINING ∨ found = true)) ∨ (s.portState port = portDOWN ∧ (s.rd
      (LNK_PORT_CTL.MODE port) = 0 ∨ s.now < (s.port port).probeAt)))) :=
  ⟨⟨up, 0, by decide +kernel, by decide +kernel⟩,
   ⟨onPort portUP (fun q => { q with serHigh := [(0, 1)], fecErrs := [(0, 1000)], fecSyms := [(0, 1000)] }), 0,
    0, by decide +kernel, by decide +kernel⟩,
   ⟨State.reset, 0, by decide +kernel⟩,
   ⟨put (onPort portUP (fun q => { q with reduced := true })) [(LNK_PORT_CTL.LPI_EN 0, 1)], 0, [],
    by decide +kernel⟩,
   ⟨up, 0, [0, 1, 2], by decide +kernel⟩,
   ⟨put (onPort portUP (fun q => { q with reduced := true })) [(LNK_PORT_CTL.LPI_EN 0, 1)], 0, [],
    by decide +kernel⟩,
   ⟨put (onPort portUP (fun q => { q with reduced := true })) [(LNK_PORT_CTL.LPI_EN 0, 1)], 0,
    by decide +kernel⟩,
   ⟨State.reset, 0, by decide +kernel⟩,
   ⟨put (onPort portUP (fun q => { q with lpiOffer := true })) [(LNK_PORT_CTL.LPI_EN 0, 1)], 0,
    by decide +kernel⟩,
   ⟨put up [(LNK_PORT_CTL.LPI_EN 0, 1)], 0, by decide +kernel⟩,
   ⟨put (onPort portUP (fun q => { q with link := { buffer := [{}] } })) [(LNK_PORT_CTL.LPI_EN 0, 1)], 0,
    by decide +kernel⟩,
   ⟨State.reset, 0, by decide +kernel⟩,
   ⟨onPort portLPI (fun q => { q with reduced := true }), 0, by decide +kernel⟩,
   ⟨State.reset, 0, by decide +kernel⟩,
   ⟨onPort portLPI (fun q => { q with reduced := true }), 0, by decide +kernel⟩,
   ⟨State.reset, 0, by decide +kernel⟩,
   ⟨onPort portDOWN (fun q => { q with reduced := true }), 0, by decide +kernel⟩,
   ⟨onPort portDOWN (fun q => { q with lostAt := some 0, losses := [up.now, up.now] }), 0, 0,
    by decide +kernel⟩,
   ⟨onPort portTRAINING (fun q => { q with reduced := true }), 0, by decide +kernel⟩,
   ⟨State.reset, 0, false, by decide +kernel⟩⟩

/-- States and operands that meet the hypotheses of `AdmissionGoesThroughItsMessages`. -/
theorem witness_admission_goes_through_its_messages :
    (∃ (s : State) (port : Fin 24), s.fabricUp = true ∧ s.portState port = portTRAINING)
    ∧ (∃ (s : State) (port : Fin 24) (node : Fin 1024), s.fabricUp = true ∧ s.ethernet port = true ∧
      (s.portCarries port = true ∨ s.portState port = portADMITTING) ∧ (s.link port node).keys = false ∧ (s.link
      port node).adm.since = none ∧ (s.link port node).adm.retryAt = none)
    ∧ (∃ (s : State) (port : Fin 24) (node : Fin 1024), (s.fabricUp = false ∨ (s.portState port ≠ portTRAINING ∧
      (s.ethernet port = false ∨ (s.portCarries port = false ∧ s.portState port ≠ portADMITTING) ∨ (s.link port
      node).keys = true ∨ (s.link port node).adm.since ≠ none ∨ (s.link port node).adm.retryAt ≠ none))))
    ∧ (∃ (s : State) (port : Fin 24) (node : Fin 1024), s.admitting port node = true ∧ (s.link port
      node).adm.seen = [])
    ∧ (∃ (s : State) (port : Fin 24) (node : Fin 1024), (s.admitting port node = false ∨ (s.link port
      node).adm.seen ≠ []))
    ∧ (∃ (s : State) (port : Fin 24) (node : Fin 1024) (chain : List (BitVec 8)) (id : BitVec 64), s.admitting
      port node = true ∧ (s.link port node).adm.seen.length = 1 ∧ chain.length ≤ 8192 ∧ s.flash.root.isSome =
      true ∧ id.toNat ∉ s.mgr.revoked ∧ ((s.link port node).adm.first = true → s.sec.identityRefused = false))
    ∧ (∃ (s : State) (port : Fin 24) (node : Fin 1024) (chain : List (BitVec 8)) (ok : Bool) (id : BitVec 64),
      s.admitting port node = true ∧ (s.link port node).adm.seen.length = 1 ∧ (ok = false ∨ 8192 < chain.length
      ∨ s.flash.root.isSome = false ∨ id.toNat ∈ s.mgr.revoked ∨ ((s.link port node).adm.first = true ∧
      s.sec.identityRefused = true)))
    ∧ (∃ (s : State) (port : Fin 24) (node : Fin 1024), (s.admitting port node = false ∨ (s.link port
      node).adm.seen.length ≠ 1))
    ∧ (∃ (s : State) (port : Fin 24) (node : Fin 1024), s.admitting port node = true ∧ (s.link port
      node).adm.seen.length = 2 ∧ ((s.link port node).adm.first = false → s.sec.identityRefused = false))
    ∧ (∃ (s : State) (port : Fin 24) (node : Fin 1024) (ok : Bool), s.admitting port node = true ∧ (s.link port
      node).adm.seen.length = 2 ∧ (ok = false ∨ ((s.link port node).adm.first = false ∧ s.sec.identityRefused =
      true)))
    ∧ (∃ (s : State) (port : Fin 24) (node : Fin 1024), (s.admitting port node = false ∨ (s.link port
      node).adm.seen.length ≠ 2))
    ∧ (∃ (s : State) (port : Fin 24) (node : Fin 1024), s.admitting port node = true ∧ (s.link port
      node).adm.seen.length = 3 ∧ (s.link port node).adm.certOk = true ∧ (s.link port node).adm.proofOk = true ∧
      s.admissionLate port node = false)
    ∧ (∃ (s : State) (port : Fin 24) (node : Fin 1024) (ok : Bool), s.admitting port node = true ∧ (s.link port
      node).adm.seen.length = 3 ∧ (ok = false ∨ (s.link port node).adm.certOk = false ∨ (s.link port
      node).adm.proofOk = false ∨ s.admissionLate port node = true))
    ∧ (∃ (s : State) (port : Fin 24) (node : Fin 1024), (s.admitting port node = false ∨ (s.link port
      node).adm.seen.length ≠ 3))
    ∧ (∃ (s : State) (port : Fin 24) (node : Fin 1024) (n : Nat), s.admitting port node = true ∧ (s.link port
      node).adm.since = some n ∧ n + 50 * perMs ≤ s.now)
    ∧ (∃ (s : State) (port : Fin 24) (node : Fin 1024), (∀ n, (s.link port node).adm.since = some n →
      s.admitting port node = false ∨ s.now < n + 50 * perMs))
    ∧ (∃ (s : State) (port : Fin 24) (node : Fin 1024) (n : Nat), s.fabricUp = true ∧ (s.portState port =
      portADMITFAILED ∨ s.portCarries port = true) ∧ (s.link port node).adm.retryAt = some n ∧ n ≤ s.now)
    ∧ (∃ (s : State) (port : Fin 24) (node : Fin 1024), (∀ n, (s.link port node).adm.retryAt = some n →
      s.fabricUp = false ∨ s.now < n ∨ (s.portState port ≠ portADMITFAILED ∧ s.portCarries port = false))) :=
  ⟨⟨onPort portTRAINING (fun q => { q with reduced := true }), 0, by decide +kernel⟩,
   ⟨onPort portUP (fun q => { q with appliedMode := 3, reduced := false }), 0, 0, by decide +kernel⟩,
   ⟨admits { seen := [1, 2, 3] }, 0, 0, by decide +kernel⟩,
   ⟨admits {}, 0, 0, by decide +kernel⟩,
   ⟨up, 0, 0, by decide +kernel⟩,
   ⟨{ admits { seen := [1] } with flash := { root := some [] } }, 0, 0, [], 0, by decide +kernel⟩,
   ⟨admits { seen := [1] }, 0, 0, [], false, 0, by decide +kernel⟩,
   ⟨admits {}, 0, 0, by decide +kernel⟩,
   ⟨admits { seen := [1, 2] }, 0, 0, by decide +kernel⟩,
   ⟨admits { seen := [1, 2] }, 0, 0, false, by decide +kernel⟩,
   ⟨up, 0, 0, by decide +kernel⟩,
   ⟨onPort portADMITTING (fun q =>
    { q with link := { adm := { seen := [1, 2, 3], certOk := true, proofOk := true, since := some up.now } } }),
    0, 0, by decide +kernel⟩,
   ⟨admits { seen := [1, 2, 3] }, 0, 0, false, by decide +kernel⟩,
   ⟨admits { seen := [1, 2] }, 0, 0, by decide +kernel⟩,
   ⟨admits {}, 0, 0, 0, by decide +kernel⟩,
   ⟨up, 0, 0, none_all (by decide +kernel)⟩,
   ⟨onPort portADMITFAILED (fun q => { q with link := { adm := { retryAt := some 0 } } }), 0, 0, 0,
    by decide +kernel⟩,
   ⟨up, 0, 0, none_all (by decide +kernel)⟩⟩

/-- States and operands that meet the hypotheses of `PeerTransfersLandWithTheirSeals`. -/
theorem witness_peer_transfers_land_with_their_seals :
    (∃ (s : State) (port : Fin 24) (src : Fin 1024) (a : BitVec 36) (len : Nat) (data : List (BitVec 8)) (k :
      Nat), data.length ≤ 208 ∧ s.peerOpen port src = true ∧ s.gladeWaits a.toNat len = false ∧ s.rd
      CTL_PSTATE.STATE = 0 ∧ s.peerSlab src a.toNat len = some k)
    ∧ (∃ (s : State) (port : Fin 24) (src : Fin 1024) (a : BitVec 36) (len : Nat) (data : List (BitVec 8)),
      data.length ≤ 208 ∧ s.peerOpen port src = true ∧ s.gladeWaits a.toNat len = false ∧ s.rd CTL_PSTATE.STATE
      = 0 ∧ s.peerSlab src a.toNat len = none)
    ∧ (∃ (s : State) (port : Fin 24) (src : Fin 1024) (a : BitVec 36) (len : Nat) (data : List (BitVec 8)),
      data.length ≤ 208 ∧ s.peerOpen port src = true ∧ s.gladeWaits a.toNat len = false ∧ s.rd CTL_PSTATE.STATE
      ≠ 0)
    ∧ (∃ (s : State) (port : Fin 24) (src : Fin 1024) (tag : Fin 8192) (u : Put), s.peerOpen port src = true ∧
      (s.puts.find? (fun u => decide (u.port = port.val ∧ u.src = src.val ∧ u.tag = tag.val ∧ u.data.length =
      u.len)) = some u) ∧ u.addr + u.len ≤ gladeBytes ∧ s.accessFail false (gladePieces u.addr u.len) = none)
    ∧ (∃ (s : State) (port : Fin 24) (src : Fin 1024) (tag : Fin 8192) (u : Put), s.peerOpen port src = true ∧
      (s.puts.find? (fun u => decide (u.port = port.val ∧ u.src = src.val ∧ u.tag = tag.val ∧ u.data.length =
      u.len)) = some u) ∧ s.accessFail false (gladePieces u.addr u.len) ≠ none)
    ∧ (∃ (s : State) (port : Fin 24) (src : Fin 1024) (tag : Fin 8192) (u : TagUse), s.peerOpen port src = true
      ∧ (∀ u ∈ s.puts, ¬ (u.port = port.val ∧ u.src = src.val ∧ u.tag = tag.val ∧ u.data.length = u.len)) ∧
      (s.tags.used.find? (fun t => decide (t.tag = tag.val ∧ t.kind = 1 ∧ t.peer = some src.val ∧ t.len ≤
      t.data.length)) = some u))
    ∧ (∃ (s : State) (port : Fin 24) (src : Fin 1024) (tag : Fin 8192), s.peerOpen port src = true ∧ (∀ u ∈
      s.puts, ¬ (u.port = port.val ∧ u.src = src.val ∧ u.tag = tag.val ∧ u.data.length = u.len)) ∧ (∀ t ∈
      s.tags.used, ¬ (t.tag = tag.val ∧ t.kind = 1 ∧ t.peer = some src.val ∧ t.len ≤ t.data.length)))
    ∧ (∃ (s : State) (port : Fin 24) (src : Fin 1024), s.peerOpen port src = true)
    ∧ (∃ (s : State) (port : Fin 24) (src : Fin 1024) (a : BitVec 36) (len : Nat) (k : Nat), s.peerOpen port src
      = true ∧ s.gladeWaits a.toNat len = false ∧ s.rd CTL_PSTATE.STATE = 0 ∧ s.peerSlab src a.toNat len = some
      k ∧ s.accessFail true (gladePieces a.toNat len) = none ∧ a.toNat + len ≤ gladeBytes)
    ∧ (∃ (s : State) (port : Fin 24) (src : Fin 1024) (a : BitVec 36) (len : Nat) (k : Nat) (f : Fail),
      s.peerOpen port src = true ∧ s.gladeWaits a.toNat len = false ∧ s.rd CTL_PSTATE.STATE = 0 ∧ s.peerSlab src
      a.toNat len = some k ∧ s.accessFail true (gladePieces a.toNat len) = some f)
    ∧ (∃ (s : State) (port : Fin 24) (src : Fin 1024) (a : BitVec 36) (len : Nat), s.peerOpen port src = true ∧
      s.gladeWaits a.toNat len = false ∧ (s.rd CTL_PSTATE.STATE ≠ 0 ∨ s.peerSlab src a.toNat len = none))
    ∧ (∃ (s : State) (port : Fin 24) (src : Fin 1024) (a : BitVec 36) (len : Nat), (s.peerOpen port src = false
      ∨ s.gladeWaits a.toNat len = true))
    ∧ (∃ (s : State) (port : Fin 24) (src : Fin 1024) (data : List (BitVec 8)), data.length ≤ 240 ∧ s.peerOpen
      port src = true)
    ∧ (∃ (s : State) (port : Fin 24) (src : Fin 1024) (tag : Fin 8192) (st : BitVec 8) (u : TagUse) (e : Entry),
      s.peerOpen port src = true ∧ (s.tags.used.find? (fun t => decide (t.tag = tag.val ∧ t.kind ≤ 1 ∧ t.peer =
      some src.val ∧ t.port = port.val)) = some u) ∧ st ≠ 0 ∧ s.entry u.ring u.idx = some e ∧ e.stage < 3)
    ∧ (∃ (s : State) (port : Fin 24) (src : Fin 1024) (tag : Fin 8192) (u : TagUse) (e : Entry), s.peerOpen port
      src = true ∧ (s.tags.used.find? (fun t => decide (t.tag = tag.val ∧ t.kind ≤ 1 ∧ t.peer = some src.val ∧
      t.port = port.val)) = some u) ∧ u.kind = 0 ∧ s.entry u.ring u.idx = some e ∧ e.stage < 3 ∧ (∀ w ∈
      s.tags.used, w.ring = u.ring → w.idx = u.idx → w.tag = tag.val) ∧ (∀ w ∈ s.tags.waiting, w.ring ≠ u.ring))
    ∧ (∃ (s : State) (port : Fin 24) (src : Fin 1024) (tag : Fin 8192), (s.peerOpen port src = false ∨ (∀ t ∈
      s.tags.used, ¬ (t.tag = tag.val ∧ t.kind ≤ 1 ∧ t.peer = some src.val ∧ t.port = port.val))))
    ∧ (∃ (s : State) (port : Fin 24) (src : Fin 1024) (tag : Fin 8192) (u : TagUse), s.peerOpen port src = true
      ∧ (s.tags.used.find? (fun t => decide (t.tag = tag.val ∧ t.kind ≤ 1 ∧ t.peer = some src.val ∧ t.port =
      port.val)) = some u) ∧ u.kind = 1)
    ∧ (∃ (s : State) (port : Fin 24) (src : Fin 1024), s.peerOpen port src = false)
    ∧ (∃ (s : State) (u : TagUse) (rest : List TagUse), s.firstWaiting [] s.tags.waiting = some (u, rest) ∧
      u.kind = 4)
    ∧ (∃ (s : State) (u : TagUse) (rest : List TagUse) (n : Nat) (p : Nat), s.firstWaiting [] s.tags.waiting =
      some (u, rest) ∧ u.kind ≤ 1 ∧ u.ctrl = none ∧ u.peer = some n ∧ s.pickPort n (s.portsFor u n) = some p)
    ∧ (∃ (s : State), s.firstWaiting [] s.tags.waiting = none)
    ∧ (∃ (port : Fin 24) (src : Fin 1024) (tag : Fin 8192) (addr : BitVec 36) (len : Nat) (flip : Option (Fin
      4)) (data : List (BitVec 8)), (Instr.putReceive port src tag addr len flip data).wellFormed = true)
    ∧ (∃ (port : Fin 24) (src : Fin 1024) (tag : Fin 8192) (data : List (BitVec 8)), (Instr.readData port src
      tag data).wellFormed = true) :=
  ⟨⟨{ up with fabric := { routes := [(2, [0])] } }, 0, 2, 131072, 32, [], 2, by decide +kernel⟩,
   ⟨{ up with fabric := { routes := [(2, [0])] } }, 0, 2, 0, 0, [], by decide +kernel⟩,
   ⟨put ({ up with fabric := { routes := [(2, [0])] } }) [(CTL_PSTATE.STATE, 1)], 0, 2, 0, 0, [],
    by decide +kernel⟩,
   ⟨{ up with fabric := { routes := [(2, [0])] }, puts := [({ src := 2, addr := 131072 })] }, 0, 2, 0,
    { src := 2, addr := 131072 }, by decide +kernel⟩,
   ⟨{ up with fabric := { routes := [(2, [0])] }, puts := [({ src := 2, addr := 131072, data := [0], len := 1 })], pkg := { fenced := List.range 16 } },
    0, 2, 0, { src := 2, addr := 131072, data := [0], len := 1 }, by decide +kernel⟩,
   ⟨{ up with fabric := { routes := [(2, [0])] }, tags := { used := [({ kind := 1, peer := some 2 })] } }, 0,
    2, 0, { kind := 1, peer := some 2 }, by decide +kernel⟩,
   ⟨{ up with fabric := { routes := [(2, [0])] } }, 0, 2, 0, by decide +kernel⟩,
   ⟨{ up with fabric := { routes := [(2, [0])] } }, 0, 2, by decide +kernel⟩,
   ⟨{ up with fabric := { routes := [(2, [0])] } }, 0, 2, 131072, 32, 2, by decide +kernel⟩,
   ⟨{ up with fabric := { routes := [(2, [0])] }, pkg := { fenced := List.range 16 } }, 0, 2, 131072, 32, 2,
    (({ up with fabric := { routes := [(2, [0])] }, pkg := { fenced := List.range 16 } }).accessFail true
    (gladePieces 131072 32)).getD (.poison 0), by decide +kernel⟩,
   ⟨{ up with fabric := { routes := [(2, [0])] } }, 0, 2, 0, 32, by decide +kernel⟩,
   ⟨State.reset, 0, 0, 0, 0, by decide +kernel⟩,
   ⟨{ up with fabric := { routes := [(2, [0])] } }, 0, 2, [], by decide +kernel⟩,
   ⟨fetched { up with fabric := { routes := [(2, [0])] }, tags := { used := [({ peer := some 2 })] } }
    [(issued (desc opCOPY 0 []))], 0, 2, 0, 1, { peer := some 2 }, issued (desc opCOPY 0 []), by decide +kernel⟩,
   ⟨fetched { up with fabric := { routes := [(2, [0])] }, tags := { used := [({ peer := some 2 })] } }
    [(issued (desc opCOPY 0 []))], 0, 2, 0, { peer := some 2 }, issued (desc opCOPY 0 []), by decide +kernel⟩,
   ⟨{ up with fabric := { routes := [(2, [0])] } }, 0, 2, 0, by decide +kernel⟩,
   ⟨{ up with fabric := { routes := [(2, [0])] }, tags := { used := [({ kind := 1, peer := some 2 })] } }, 0,
    2, 0, { kind := 1, peer := some 2 }, by decide +kernel⟩,
   ⟨State.reset, 0, 0, by decide +kernel⟩,
   ⟨{ up with tags := { waiting := [{ kind := 4 }] } }, { kind := 4 }, [], by decide +kernel⟩,
   ⟨{ up with fabric := { routes := [(2, [0])] }, tags := { waiting := [({ kind := 0, peer := some 2 })] } },
    { kind := 0, peer := some 2 }, [], 2, 0, by decide +kernel⟩,
   ⟨up, by decide +kernel⟩,
   ⟨0, 2, 0, 0, 0, none, [], by decide +kernel⟩,
   ⟨0, 2, 0, [], by decide +kernel⟩⟩

/-- States and operands that meet the hypotheses of `TheSegmentMacSendsAndReceives`. -/
theorem witness_the_segment_mac_sends_and_receives :
    (∃ (s : State) (aligned : Bool) (b : List (BitVec 8)), s.segmentUp = true ∧ badFlags (fcsOk b) aligned
      b.length ≠ 0)
    ∧ (∃ (s : State) (b : List (BitVec 8)), s.segmentUp = true ∧ badFlags (fcsOk b) true b.length = 0 ∧
      (s.mgtAddressOk b = false ∨ mgtHeaderOk b = false))
    ∧ (∃ (s : State) (b : List (BitVec 8)), s.segmentUp = true ∧ badFlags (fcsOk b) true b.length = 0 ∧
      s.mgtAddressOk b = true ∧ mgtHeaderOk b = true)
    ∧ (∃ (s : State) (tagOk : Bool) (src : Fin 1024) (b : List (BitVec 8)), s.segmentUp = true ∧ badFlags (fcsOk
      b) true b.length = 0 ∧ s.mgtAddressOk b = true ∧ mgtHeaderOk b = true ∧ (tagOk = false ∨ s.mgr.copseKey =
      none ∨ leNat ((b.drop 18).take 8) < Tab.val s.mac.ctrlRx src))
    ∧ (∃ (s : State) (src : Fin 1024) (b : List (BitVec 8)), s.segmentUp = true ∧ badFlags (fcsOk b) true
      b.length = 0 ∧ s.mgtAddressOk b = true ∧ mgtHeaderOk b = true ∧ s.mgr.copseKey.isSome = true ∧ Tab.val
      s.mac.ctrlRx src ≤ leNat ((b.drop 18).take 8))
    ∧ (∃ (s : State), s.segmentUp = false)
    ∧ (∃ (s : State) (late : Bool) (f : List Byte), s.mac.sending = some f ∧ s.mac.backoff = false ∧ s.now <
      s.mac.sendEnd ∧ (late = true ∨ 16 ≤ s.mac.attempts))
    ∧ (∃ (s : State) (f : List Byte), s.mac.sending = some f ∧ s.mac.backoff = false ∧ s.now < s.mac.sendEnd ∧
      s.mac.attempts < 16)
    ∧ (∃ (s : State), (s.mac.sending = none ∨ s.mac.backoff = true ∨ s.mac.sendEnd ≤ s.now))
    ∧ (∃ (s : State) (f : List Byte), s.mac.sending = some f ∧ s.mac.backoff = true ∧ s.mac.backoffEnd ≤ s.now ∧
      s.islandUp 13 = true)
    ∧ (∃ (s : State) (f : List Byte) (l : List (List Byte)), s.mac.backoff = false ∧ s.plcaRules = false ∧
      s.macBusy = false ∧ s.mac.queue = f :: l)
    ∧ (∃ (s : State), ((s.mac.backoff = true ∧ (s.now < s.mac.backoffEnd ∨ s.islandUp 13 = false)) ∨
      (s.mac.backoff = false ∧ (s.plcaRules = true ∨ s.macBusy = true ∨ s.mac.queue = []))))
    ∧ (∃ (s : State), s.segmentUp = true ∧ s.rd CFG_MGT_MAC.PLCA_EN = 1)
    ∧ (∃ (s : State), (s.segmentUp = false ∨ s.rd CFG_MGT_MAC.PLCA_EN ≠ 1))
    ∧ (∃ (s : State), (s.macBusy = true ∨ s.mac.queue = []))
    ∧ (∃ (s : State) (f : List Byte) (l : List (List Byte)), s.macBusy = false ∧ s.mac.queue = f :: l) :=
  ⟨⟨up, false, [], by decide +kernel⟩,
   ⟨up, mgtFrame broadcastMac 1 0, by decide +kernel⟩,
   ⟨up, mgtFrame broadcastMac 2 5, by decide +kernel⟩,
   ⟨{ up with mgr := { copseKey := some 0 } }, false, 0, mgtFrame broadcastMac 2 5, by decide +kernel⟩,
   ⟨{ up with mgr := { copseKey := some 0 } }, 0, mgtFrame broadcastMac 2 5, by decide +kernel⟩,
   ⟨State.reset, by decide +kernel⟩,
   ⟨{ up with mac := { sending := some [], sendEnd := up.now + 1, attempts := 16 } }, true, [],
    by decide +kernel⟩,
   ⟨{ up with mac := { sending := some [], sendEnd := up.now + 1, attempts := 15 } }, [], by decide +kernel⟩,
   ⟨{ up with mac := { sending := some [], backoff := true } }, by decide +kernel⟩,
   ⟨{ up with mac := { sending := some [], backoff := true } }, [], by decide +kernel⟩,
   ⟨{ up with mac := { queue := [[]] } }, [], [], by decide +kernel⟩,
   ⟨up, by decide +kernel⟩,
   ⟨put { up with mac := { queue := [[]] } } [(CFG_MGT_MAC.PLCA_EN, 1)], by decide +kernel⟩,
   ⟨up, by decide +kernel⟩,
   ⟨up, by decide +kernel⟩,
   ⟨put { up with mac := { queue := [[]] } } [(CFG_MGT_MAC.PLCA_EN, 1)], [], [], by decide +kernel⟩⟩

/-- States and operands that meet the hypotheses of `DevicesJoinAndLeave`. -/
theorem witness_devices_join_and_leave :
    (∃ (s : State), s.fabricUp = true)
    ∧ (∃ (s : State), s.fabricUp = false)
    ∧ (∃ (s : State), s.rd STS_MGT_ROLE.LEAD = 1 ∧ s.isManager = false)
    ∧ (∃ (s : State), s.rd STS_MGT_ROLE.LEAD = 1 ∧ s.isManager = true)
    ∧ (∃ (s : State), s.rd STS_MGT_ROLE.LEAD ≠ 1)
    ∧ (∃ (s : State) (id : BitVec 64) (copse : Nat) (l : List (Fin 1024)), (s.joinVerdict id.toNat copse (l.map
      (fun n => n.val))).1 = 0 ∧ s.quietManager)
    ∧ (∃ (s : State) (id : BitVec 64) (copse : Nat) (l : List (Fin 1024)), (s.joinVerdict id.toNat copse (l.map
      (fun n => n.val))).1 ≠ 0 ∧ s.quietManager)
    ∧ (∃ (s : State) (id : BitVec 64) (copse : Nat) (l : List (Fin 1024)), s.isManager = true ∧ blockedBy
      joinLock s.maint.active s.maint.waiting = true ∧ s.hasLock joinLock = false ∧ .join id.toNat copse (l.map
      (fun n => n.val)) ∉ s.mgr.queue)
    ∧ (∃ (s : State), s.isManager = false)
    ∧ (∃ (s : State) (id : BitVec 64), id.toNat = s.deviceId ∧ s.mgr.joining = true ∧ s.mgr.fencedSelf = false)
    ∧ (∃ (s : State) (id : BitVec 64), id.toNat = s.deviceId ∧ s.mgr.joining = true ∧ s.mgr.fencedSelf = true)
    ∧ (∃ (s : State) (id : BitVec 64) (status : Fin 7), id.toNat = s.deviceId ∧ s.mgr.joining = true ∧ status ≠
      0)
    ∧ (∃ (s : State) (id : BitVec 64), id.toNat ≠ s.deviceId ∧ s.rd STS_MGT_ROLE.LEAD = 1)
    ∧ (∃ (s : State) (id : BitVec 64), ((id.toNat = s.deviceId ∧ s.mgr.joining = false) ∨ (id.toNat ≠ s.deviceId
      ∧ s.rd STS_MGT_ROLE.LEAD ≠ 1)))
    ∧ (∃ (s : State) (epoch : BitVec 32) (w : TableWrite) (role : Fin 3) (me : BitVec 32), (s.fabricUp = true ∧
      s.rd STS_MGT_ROLE.ROLE ≠ 0 ∧ s.mgr.mgrEpoch = me.toNat ∧ s.maint.active.any (fun l => decide (l.kind = 7))
      = false ∧ s.fabric.waiting = [] ∧ s.mgr.epoch < epoch.toNat ∧ role ≠ 0 ∧ s.mgr.pending = none) ∧ (∀ l, w ≠
      .tagCaps l))
    ∧ (∃ (s : State) (epoch : BitVec 32) (role : Fin 3) (me : BitVec 32) (q : Nat × Nat), s.fabricUp = true ∧
      s.mgr.pending = some q ∧ s.mgr.mgrEpoch = me.toNat ∧ s.mgr.epoch < epoch.toNat ∧ role ≠ 0)
    ∧ (∃ (s : State) (epoch : BitVec 32) (me : BitVec 32), s.fabricUp = true ∧ s.rd STS_MGT_ROLE.ROLE ≠ 0 ∧
      s.mgr.mgrEpoch = me.toNat ∧ s.mgr.epoch < epoch.toNat)
    ∧ (∃ (s : State) (epoch : BitVec 32) (me : BitVec 32), s.fabricUp = true ∧ s.rd STS_MGT_ROLE.ROLE ≠ 0 ∧
      s.mgr.mgrEpoch ≤ me.toNat ∧ s.mgr.epoch < epoch.toNat)
    ∧ (∃ (s : State) (epoch : BitVec 32) (w : TableWrite) (me : BitVec 32), (s.fabricUp = true ∧ s.rd
      STS_MGT_ROLE.ROLE ≠ 0 ∧ s.mgr.mgrEpoch = me.toNat ∧ s.maint.active.any (fun l => decide (l.kind = 7)) =
      false ∧ s.fabric.waiting = [] ∧ epoch.toNat ≤ s.mgr.epoch) ∧ (∀ l, w ≠ .tagCaps l))
    ∧ (∃ (s : State) (w : TableWrite) (me : BitVec 32), (s.fabricUp = true ∧ s.rd STS_MGT_ROLE.ROLE ≠ 0 ∧
      s.mgr.mgrEpoch ≤ me.toNat ∧ s.maint.active.any (fun l => decide (l.kind = 7)) = true) ∧ (∀ l, w ≠ .tagCaps
      l))
    ∧ (∃ (s : State) (epoch : BitVec 32) (me : BitVec 32), s.fabricUp = true ∧ s.rd STS_MGT_ROLE.ROLE ≠ 0 ∧
      s.mgr.mgrEpoch = me.toNat ∧ epoch.toNat ≤ s.mgr.epoch)
    ∧ (∃ (s : State) (role : Fin 3) (me : BitVec 32), s.fabricUp = true ∧ s.rd STS_MGT_ROLE.ROLE ≠ 0 ∧
      s.mgr.mgrEpoch < me.toNat ∧ role ≠ 0)
    ∧ (∃ (s : State) (me : BitVec 32), (s.fabricUp = false ∨ (s.rd STS_MGT_ROLE.ROLE = 0 ∧ s.mgr.pending = none)
      ∨ me.toNat < s.mgr.mgrEpoch))
    ∧ (∃ (s : State) (node : Fin 1024) (m : Member), (Tab.look s.mgr.members node = some m ∧ node.val ≠ s.node ∧
      s.mayLeave node = true) ∧ s.quietManager)
    ∧ (∃ (s : State) (node : Fin 1024) (m : Member), (Tab.look s.mgr.members node = some m ∧ node.val ≠ s.node ∧
      s.mayLeave node = false) ∧ s.quietManager)
    ∧ (∃ (s : State) (node : Fin 1024), s.isManager = false ∧ s.rd STS_MGT_ROLE.ROLE ≠ 0 ∧ node.val = s.node)
    ∧ (∃ (s : State) (node : Fin 1024), ((s.isManager = true ∧ (Tab.look s.mgr.members node = none ∨ node.val =
      s.node)) ∨ (s.isManager = false ∧ (s.rd STS_MGT_ROLE.ROLE = 0 ∨ node.val ≠ s.node)))) :=
  ⟨⟨up, by decide +kernel⟩,
   ⟨State.reset, by decide +kernel⟩,
   ⟨up, by decide +kernel⟩,
   ⟨manager {}, by decide +kernel⟩,
   ⟨put up [(STS_MGT_ROLE.LEAD, 0)], by decide +kernel⟩,
   ⟨manager {}, 0, 0, [], by decide +kernel, by unfold State.quietManager; decide +kernel⟩,
   ⟨manager { revoked := [0] }, 0, 0, [], by decide +kernel, by unfold State.quietManager; decide +kernel⟩,
   ⟨{ manager {} with maint := { active := [substLock] } }, 0, 0, [], by decide +kernel⟩,
   ⟨up, by decide +kernel⟩,
   ⟨{ up with mgr := { joining := true } }, 0, by decide +kernel⟩,
   ⟨{ up with mgr := { joining := true, fencedSelf := true } }, 0, by decide +kernel⟩,
   ⟨{ up with mgr := { joining := true } }, 0, 1, by decide +kernel⟩,
   ⟨up, 1, by decide +kernel⟩,
   ⟨up, 0, by decide +kernel⟩,
   ⟨up, 1, .route [], 1, 0, by decide +kernel, fun l h => by cases h⟩,
   ⟨{ up with mgr := { pending := some ((1, 0)) } }, 1, 1, 0, (1, 0), by decide +kernel⟩,
   ⟨up, 1, 0, by decide +kernel⟩,
   ⟨up, 1, 0, by decide +kernel⟩,
   ⟨up, 0, .route [], 0, by decide +kernel, fun l h => by cases h⟩,
   ⟨{ up with maint := { active := [{ kind := 7 }] } }, .route [], 0, by decide +kernel, fun l h => by cases h⟩,
   ⟨up, 0, 0, by decide +kernel⟩,
   ⟨up, 1, 1, by decide +kernel⟩,
   ⟨State.reset, 0, by decide +kernel⟩,
   ⟨manager { members := [(0, {})] }, 0, default, by decide +kernel,
    by unfold State.quietManager; decide +kernel⟩,
   ⟨manager { members := [(0, {})], leases := [(0, [0])] }, 0, default, by decide +kernel,
    by unfold State.quietManager; decide +kernel⟩,
   ⟨up, 1, by decide +kernel⟩,
   ⟨up, 0, by decide +kernel⟩⟩

/-- States and operands that meet the hypotheses of `SilentDevicesAreFenced`. -/
theorem witness_silent_devices_are_fenced :
    (∃ (s : State) (m : Nat), s.mgr.managerNode = some m ∧ s.fabricUp = true ∧ s.rd STS_MGT_ROLE.ROLE ≠ 0 ∧ m
      ≠ s.node ∧ s.mgr.fencedSelf = false ∧ s.past s.mgr.hbAt s.hbPeriod = true)
    ∧ (∃ (s : State), (s.mgr.managerNode = none ∨ s.mgr.managerNode = some s.node ∨ s.fabricUp = false ∨ s.rd
      STS_MGT_ROLE.ROLE = 0 ∨ s.mgr.fencedSelf = true ∨ s.past s.mgr.hbAt s.hbPeriod = false))
    ∧ (∃ (s : State) (node : Fin 1024) (m : Member), s.isManager = true ∧ Tab.look s.mgr.members node = some m)
    ∧ (∃ (s : State) (node : Fin 1024), (s.isManager = false ∨ Tab.look s.mgr.members node = none))
    ∧ (∃ (s : State), s.isManager = true ∧ s.past s.mgr.windowAt (s.hbPeriod * 95 / 100) = true ∧ Tab.rises
      s.mgr.members 0 = true)
    ∧ (∃ (s : State), (s.isManager = false ∨ s.past s.mgr.windowAt (s.hbPeriod * 95 / 100) = false))
    ∧ (∃ (s : State) (node : Fin 1024) (m : Member), s.isManager = true ∧ Tab.look s.mgr.members node = some m ∧
      m.failed = false)
    ∧ (∃ (s : State) (node : Fin 1024), (s.isManager = false ∨ (∀ m, Tab.look s.mgr.members node = some m →
      m.failed = true)))
    ∧ (∃ (s : State) (node : Fin 1024), s.rd STS_MGT_ROLE.ROLE ≠ 0 ∧ node.val = s.node)
    ∧ (∃ (s : State) (node : Fin 1024), s.rd STS_MGT_ROLE.ROLE ≠ 0 ∧ node.val ≠ s.node ∧ s.rd STS_MGT_ROLE.LEAD
      = 1)
    ∧ (∃ (s : State) (node : Fin 1024), (s.rd STS_MGT_ROLE.ROLE = 0 ∨ (node.val ≠ s.node ∧ s.rd
      STS_MGT_ROLE.LEAD ≠ 1))) :=
  ⟨⟨up, 0, by decide +kernel⟩,
   ⟨{ up with mgr := { managerNode := none } }, by decide +kernel⟩,
   ⟨manager { members := [(2, ({}))] }, 2, {}, by decide +kernel⟩,
   ⟨up, 0, by decide +kernel⟩,
   ⟨manager {}, by decide +kernel⟩,
   ⟨up, by decide +kernel⟩,
   ⟨manager { members := [(2, ({}))] }, 2, {}, by decide +kernel⟩,
   ⟨up, 0, by decide +kernel⟩,
   ⟨up, 1, by decide +kernel⟩,
   ⟨up, 2, by decide +kernel⟩,
   ⟨State.reset, 0, by decide +kernel⟩⟩

/-- States and operands that meet the hypotheses of `TheStandbyTakesOver`. -/
theorem witness_the_standby_takes_over :
    (∃ (s : State) (n : Nat), s.mgr.standby = some n ∧ s.isManager = true ∧ s.past s.mgr.mgrHbAt s.mgrPeriod =
      true)
    ∧ (∃ (s : State), (s.mgr.standby = none ∨ s.isManager = false ∨ s.past s.mgr.mgrHbAt s.mgrPeriod = false))
    ∧ (∃ (s : State) (me : BitVec 32), s.isManager = false ∧ s.rd STS_MGT_ROLE.ROLE ≠ 0 ∧ s.mgr.mgrEpoch ≤
      me.toNat)
    ∧ (∃ (s : State) (me : BitVec 32), s.isManager = true ∧ s.mgr.mgrEpoch < me.toNat)
    ∧ (∃ (s : State) (me : BitVec 32), ((s.isManager = true ∧ me.toNat ≤ s.mgr.mgrEpoch) ∨ (s.isManager = false
      ∧ (s.rd STS_MGT_ROLE.ROLE = 0 ∨ me.toNat < s.mgr.mgrEpoch))))
    ∧ (∃ (s : State), s.rd STS_MGT_ROLE.MGR_ROLE = 2 ∧ s.mgr.polling = false ∧ s.past s.mgr.mgrWindowAt
      (s.mgrPeriod * 95 / 100) = true ∧ s.mgr.mgrWindow = true)
    ∧ (∃ (s : State), s.rd STS_MGT_ROLE.MGR_ROLE = 2 ∧ s.mgr.polling = false ∧ s.past s.mgr.mgrWindowAt
      (s.mgrPeriod * 95 / 100) = true ∧ s.mgr.mgrWindow = false ∧ s.mgr.mgrEmpty + 1 < 5)
    ∧ (∃ (s : State), s.rd STS_MGT_ROLE.MGR_ROLE = 2 ∧ s.mgr.polling = false ∧ s.past s.mgr.mgrWindowAt
      (s.mgrPeriod * 95 / 100) = true ∧ s.mgr.mgrWindow = false ∧ 5 ≤ s.mgr.mgrEmpty + 1)
    ∧ (∃ (s : State), (s.rd STS_MGT_ROLE.MGR_ROLE ≠ 2 ∨ s.mgr.polling = true ∨ s.past s.mgr.mgrWindowAt
      (s.mgrPeriod * 95 / 100) = false))
    ∧ (∃ (s : State) (node : Fin 1024) (p : Nat), s.rd STS_MGT_ROLE.LEAD = 1 ∧ s.mgr.fencedSelf = false ∧
      s.pickPort node (s.routeOf node) = some p)
    ∧ (∃ (s : State), s.rd STS_MGT_ROLE.LEAD ≠ 1)
    ∧ (∃ (s : State) (node : Fin 1024), s.mgr.polling = true ∧ node.val ∈ s.mgr.leads ∧ s.now ≤ s.mgr.pollAt + 5
      * perMs)
    ∧ (∃ (s : State) (node : Fin 1024) (silent : Bool), (s.mgr.polling = false ∨ node.val ∉ s.mgr.leads ∨ silent
      = false ∨ s.mgr.pollAt + 5 * perMs < s.now))
    ∧ (∃ (s : State), s.mgr.polling = true ∧ s.past s.mgr.pollAt (5 * perMs) = true ∧ s.mgr.leads.length < 2 *
      s.mgr.silent.length ∧ s.mgr.queue = [])
    ∧ (∃ (s : State), s.mgr.polling = true ∧ s.past s.mgr.pollAt (5 * perMs) = true ∧ 2 * s.mgr.silent.length ≤
      s.mgr.leads.length)
    ∧ (∃ (s : State), (s.mgr.polling = false ∨ s.past s.mgr.pollAt (5 * perMs) = false))
    ∧ (∃ (s : State) (e : BitVec 32) (id : BitVec 64), (s.mgr.mgrEpoch < e.toNat ∨ (e.toNat = s.mgr.mgrEpoch ∧
      (s.isManager = false ∨ id.toNat < s.deviceId))))
    ∧ (∃ (s : State) (e : BitVec 32) (id : BitVec 64), (e.toNat < s.mgr.mgrEpoch ∨ (e.toNat = s.mgr.mgrEpoch ∧
      s.isManager = true ∧ s.deviceId ≤ id.toNat)))
    ∧ (∃ (s : State) (port : Fin 24) (node : Fin 1024), s.rd (LNK_PORT_STS.CAUSE port) = 3 ∧ s.rd
      (LNK_PORT_STS.PARTNER port) = node.val)
    ∧ (∃ (s : State) (port : Fin 24) (node : Fin 1024), (s.rd (LNK_PORT_STS.CAUSE port) ≠ 3 ∨ s.rd
      (LNK_PORT_STS.PARTNER port) ≠ node.val))
    ∧ (∃ (s : State) (d : Fin 1024), s.isManager = true ∧ d.val = s.node)
    ∧ (∃ (s : State) (d : Fin 1024) (p : Nat), s.isManager = true ∧ d.val ≠ s.node ∧ s.pickPort d (s.routeOf d)
      = some p ∧ s.mgr.fencedSelf = false)
    ∧ (∃ (s : State), s.isManager = false)
    ∧ (∃ (s : State), s.rd STS_MGT_ROLE.MGR_ROLE = 2 ∧ s.mgr.queue = [])
    ∧ (∃ (s : State), s.rd STS_MGT_ROLE.MGR_ROLE ≠ 2)
    ∧ (∃ (s : State) (n : Nat) (k : Nat) (rest : List Nat) (m : Member), s.mgr.substituting = n :: rest ∧
      s.isManager = true ∧ s.hasLock substLock = true ∧ s.mgr.queue = [] ∧ Tab.rises s.mgr.members 0 = true ∧
      Tab.rises s.mgr.leases 0 = true ∧ Tab.look s.mgr.members n = some m ∧ m.role = 1 ∧ s.spareOf m.copse =
      some k)
    ∧ (∃ (s : State) (n : Nat) (rest : List Nat) (m : Member), s.mgr.substituting = n :: rest ∧ s.isManager =
      true ∧ s.hasLock substLock = true ∧ s.mgr.queue = [] ∧ Tab.look s.mgr.members n = some m ∧ (m.role ≠ 1 ∨
      s.spareOf m.copse = none))
    ∧ (∃ (s : State), (s.mgr.substituting = [] ∨ s.isManager = false ∨ s.hasLock substLock = false)) :=
  ⟨⟨manager { standby := some 2 }, 2, by decide +kernel⟩,
   ⟨up, by decide +kernel⟩,
   ⟨put { up with mgr := { mgrEpoch := 0 } } [(STS_MGT_ROLE.MGR_ROLE, 2)], 0, by decide +kernel⟩,
   ⟨manager {}, 1, by decide +kernel⟩,
   ⟨{ up with mgr := { mgrEpoch := 1 } }, 0, by decide +kernel⟩,
   ⟨put { up with mgr := { mgrWindow := true } } [(STS_MGT_ROLE.MGR_ROLE, 2)], by decide +kernel⟩,
   ⟨put { up with mgr := { mgrEmpty := 3 } } [(STS_MGT_ROLE.MGR_ROLE, 2)], by decide +kernel⟩,
   ⟨put { up with mgr := { mgrEmpty := 4 } } [(STS_MGT_ROLE.MGR_ROLE, 2)], by decide +kernel⟩,
   ⟨up, by decide +kernel⟩,
   ⟨{ up with fabric := { routes := [(2, [0])] } }, 2, 0, by decide +kernel⟩,
   ⟨put up [(STS_MGT_ROLE.LEAD, 0)], by decide +kernel⟩,
   ⟨{ up with mgr := { polling := true, leads := [2], pollAt := up.now } }, 2, by decide +kernel⟩,
   ⟨{ up with mgr := { polling := true, leads := [2] } }, 2, false, by decide +kernel⟩,
   ⟨{ up with mgr := { polling := true, leads := [2], silent := [2] } }, by decide +kernel⟩,
   ⟨{ up with mgr := { polling := true, leads := [2, 3], silent := [2] } }, by decide +kernel⟩,
   ⟨up, by decide +kernel⟩,
   ⟨up, 1, 0, by decide +kernel⟩,
   ⟨{ up with mgr := { mgrEpoch := 1 } }, 0, 0, by decide +kernel⟩,
   ⟨put up [(LNK_PORT_STS.CAUSE 0, 3)], 0, 0, by decide +kernel⟩,
   ⟨up, 0, 0, by decide +kernel⟩,
   ⟨manager {}, 1, by decide +kernel⟩,
   ⟨{ manager {} with fabric := { routes := [(2, [0])] } }, 2, 0, by decide +kernel⟩,
   ⟨put up [(LNK_PORT_STS.CAUSE 0, 3)], by decide +kernel⟩,
   ⟨put { up with mgr := { mgrEpoch := 0 } } [(STS_MGT_ROLE.MGR_ROLE, 2)], by decide +kernel⟩,
   ⟨up, by decide +kernel⟩,
   ⟨{ manager { substituting := [2], members := [(2, { role := 1, failed := true }), (3, { role := 2 })] } with maint := { active := [substLock] } },
    2, 3, [], { role := 1, failed := true }, by decide +kernel⟩,
   ⟨{ manager { substituting := [2], members := [(2, { role := 1, failed := true })] } with maint := { active := [substLock] } },
    2, [], { role := 1, failed := true }, by decide +kernel⟩,
   ⟨up, by decide +kernel⟩⟩

/-- States and operands that meet the hypotheses of `PcieResetsPlotsAndFunctions`. -/
theorem witness_pcie_resets_plots_and_functions :
    (∃ (s : State), (s.pcie.training = true ∨ s.rd STS_PCIE_LINK.UP = 1) ∧ s.glob.perstLow = false ∧
      s.loopLocked 0 = true)
    ∧ (∃ (s : State), ((s.pcie.training = false ∧ s.rd STS_PCIE_LINK.UP ≠ 1) ∨ s.glob.perstLow = true ∨
      s.loopLocked 0 = false))
    ∧ (∃ (s : State), 1 ≤ s.rd CTL_BRINGUP_STS.PHASE ∧ s.glob.perstLow = false)
    ∧ (∃ (s : State), (s.rd CTL_BRINGUP_STS.PHASE = 0 ∨ s.glob.perstLow = true))
    ∧ (∃ (s : State), s.rd STS_PCIE_LINK.UP = 1)
    ∧ (∃ (s : State), s.rd STS_PCIE_LINK.UP = 1)
    ∧ (∃ (s : State), s.rd STS_PCIE_LINK.UP ≠ 1)
    ∧ (∃ (s : State) (vf : Fin 64), s.configOpen = true ∧ s.pcie.vfEnable = true ∧ 1 ≤ vf.val ∧ vf.val ≤
      s.pcie.numVfs)
    ∧ (∃ (s : State) (vf : Fin 64), (s.configOpen = false ∨ s.pcie.vfEnable = false ∨ vf.val = 0 ∨ s.pcie.numVfs
      < vf.val))
    ∧ (∃ (s : State), s.configOpen = true)
    ∧ (∃ (s : State), s.configOpen = false)
    ∧ (∃ (s : State) (f : Fin 64), s.configOpen = true ∧ (f.val = 0 ∨ (s.pcie.vfEnable = true ∧ f.val ≤
      s.pcie.numVfs)) ∧ s.holdsWork f = false)
    ∧ (∃ (s : State) (f : Fin 64), s.configOpen = true ∧ s.pcie.vfEnable = true ∧ f.val ≤ s.pcie.numVfs ∧ f.val
      ≠ 0 ∧ s.holdsWork f = true)
    ∧ (∃ (s : State), s.configOpen = true ∧ s.holdsWork 0 = true)
    ∧ (∃ (s : State) (f : Fin 64), (s.configOpen = false ∨ (f.val ≠ 0 ∧ (s.pcie.vfEnable = false ∨ s.pcie.numVfs
      < f.val))))
    ∧ (∃ (s : State), s.configOpen = true)
    ∧ (∃ (s : State), s.configOpen = false) :=
  ⟨⟨{ up with pcie := { training := true } }, by decide +kernel⟩,
   ⟨{ up with glob := { poweredOn := true, perstLow := true } }, by decide +kernel⟩,
   ⟨up, by decide +kernel⟩,
   ⟨State.reset, by decide +kernel⟩,
   ⟨up, by decide +kernel⟩,
   ⟨up, by decide +kernel⟩,
   ⟨State.reset, by decide +kernel⟩,
   ⟨up, 63, by decide +kernel⟩,
   ⟨up, 0, by decide +kernel⟩,
   ⟨put up [(RING_CFG.FUNC 0, 1), (RING_TAIL.TAIL 0, 1)], by decide +kernel⟩,
   ⟨State.reset, by decide +kernel⟩,
   ⟨up, 0, by decide +kernel⟩,
   ⟨put up [(RING_CFG.FUNC 0, 1), (RING_TAIL.TAIL 0, 1)], 1, by decide +kernel⟩,
   ⟨put up [(RING_TAIL.TAIL 0, 1)], by decide +kernel⟩,
   ⟨State.reset, 0, by decide +kernel⟩,
   ⟨put up [(RING_CFG.FUNC 0, 1), (RING_TAIL.TAIL 0, 1)], by decide +kernel⟩,
   ⟨State.reset, by decide +kernel⟩⟩

/-- States and operands that meet the hypotheses of `VectorsAndTheMailboxAnswer`. -/
theorem witness_vectors_and_the_mailbox_answer :
    (∃ (s : State) (func : Fin 64) (v : Fin 2048), s.funcUp func = true ∧ v.val < vectorsOf func)
    ∧ (∃ (s : State) (func : Fin 64) (v : Fin 2048), (s.funcUp func = false ∨ vectorsOf func ≤ v.val))
    ∧ (∃ (s : State) (a : Doe), s.pending = [] ∧ s.glob.poweredOn = true ∧ s.pcie.doeObject = some a)
    ∧ (∃ (s : State), s.configOpen = true)
    ∧ (∃ (s : State), s.configOpen = false) :=
  ⟨⟨up, 0, 0, by decide +kernel⟩,
   ⟨State.reset, 0, 0, by decide +kernel⟩,
   ⟨{ up with pcie := { doeObject := some (.discovery) } }, .discovery, by decide +kernel⟩,
   ⟨up, by decide +kernel⟩,
   ⟨State.reset, by decide +kernel⟩⟩

/-- States and operands that meet the hypotheses of `RingsAreSetUpAndRung`. -/
theorem witness_rings_are_set_up_and_rung :
    (∃ (s : State) (func : Fin 64) (ring : Fin 1024) (value : BitVec 64) (q : Tlp), s.funcUp func = true ∧
      s.faults.windthrow = false ∧ s.rd SEC_STS.RECOVERY = 0 ∧ s.tlpBad q = false ∧ s.rd (RING_CFG.FUNC ring) =
      func.val ∧ s.funcBound func = true ∧ value.toNat < 2 ^ 32 ∧ s.rd (RING_CFG.ENABLE ring) = 1 ∧ s.rd
      (RING_STS.STATE ring) = 1 ∧ ahead value.toNat (s.rd (RING_RETIRED.RETIRED ring)) ≤ 2 ^ s.rd
      (RING_CFG.SIZE_LOG2 ring) ∧ ahead value.toNat (s.rd (RING_TAIL.TAIL ring)) ≤ 2 ^ s.rd (RING_CFG.SIZE_LOG2
      ring))
    ∧ (∃ (s : State) (func : Fin 64) (ring : Fin 1024) (q : Tlp), s.funcUp func = true ∧ s.faults.windthrow =
      false ∧ s.rd SEC_STS.RECOVERY = 0 ∧ s.tlpBad q = false ∧ (s.rd (RING_CFG.FUNC ring) ≠ func.val ∨
      s.funcBound func = false))
    ∧ (∃ (s : State) (func : Fin 64) (ring : Fin 1024) (value : BitVec 64) (q : Tlp), s.funcUp func = true ∧
      s.faults.windthrow = false ∧ s.rd SEC_STS.RECOVERY = 0 ∧ s.tlpBad q = false ∧ s.rd (RING_CFG.FUNC ring) =
      func.val ∧ s.funcBound func = true ∧ (2 ^ 32 ≤ value.toNat ∨ s.rd (RING_CFG.ENABLE ring) = 0 ∨ s.rd
      (RING_STS.STATE ring) ≠ 1 ∨ 2 ^ s.rd (RING_CFG.SIZE_LOG2 ring) < ahead (value.toNat % 2 ^ 32) (s.rd
      (RING_RETIRED.RETIRED ring)) ∨ 2 ^ s.rd (RING_CFG.SIZE_LOG2 ring) < ahead (value.toNat % 2 ^ 32) (s.rd
      (RING_TAIL.TAIL ring))))
    ∧ (∃ (s : State) (func : Fin 64) (q : Tlp), s.funcUp func = true ∧ s.faults.windthrow = false ∧ s.rd
      SEC_STS.RECOVERY = 0 ∧ s.tlpBad q = true)
    ∧ (∃ (s : State) (func : Fin 64), (s.funcUp func = false ∨ s.faults.windthrow = true ∨ s.rd SEC_STS.RECOVERY
      ≠ 0))
    ∧ (∃ (s : State) (path : Fin 6) (ring : Fin 1024) (v : BitVec 31), s.writeOpen path (ringCfgAddr ring) =
      true ∧ s.rd (RING_CFG.ENABLE ring) = 0 ∧ (s.storeRingCfg ring v.toNat).ringSuits ring = true)
    ∧ (∃ (s : State) (path : Fin 6) (ring : Fin 1024) (v : BitVec 31), s.writeOpen path (ringCfgAddr ring) =
      true ∧ s.rd (RING_CFG.ENABLE ring) = 0 ∧ (s.storeRingCfg ring v.toNat).ringSuits ring = false)
    ∧ (∃ (s : State) (path : Fin 6) (ring : Fin 1024), (s.writeOpen path (ringCfgAddr ring) = false ∨ s.rd
      (RING_CFG.ENABLE ring) ≠ 0))
    ∧ (∃ (s : State) (path : Fin 6) (ring : Fin 1024), s.writeOpen path (ringCfgAddr ring) = true ∧ s.rd
      (RING_CFG.ENABLE ring) = 0)
    ∧ (∃ (s : State) (path : Fin 6) (ring : Fin 1024), s.writeOpen path (ringCfgAddr ring) = true ∧ s.rd
      (RING_CFG.ENABLE ring) ≠ 0 ∧ s.rd (RING_RETIRED.RETIRED ring) = s.rd (RING_TAIL.TAIL ring))
    ∧ (∃ (s : State) (path : Fin 6) (ring : Fin 1024), (s.writeOpen path (ringCfgAddr ring) = false ∨ (s.rd
      (RING_CFG.ENABLE ring) ≠ 0 ∧ s.rd (RING_RETIRED.RETIRED ring) ≠ s.rd (RING_TAIL.TAIL ring)))) :=
  ⟨⟨up, 0, 0, 0, .good, by decide +kernel⟩,
   ⟨put up [(RING_CFG.FUNC 0, 1)], 0, 0, .good, by decide +kernel⟩,
   ⟨up, 0, 0, 2 ^ 32, .good, by decide +kernel⟩,
   ⟨up, 0, .poisoned, by decide +kernel⟩,
   ⟨State.reset, 0, by decide +kernel⟩,
   ⟨up, 0, 1, 0x80004, by decide +kernel⟩,
   ⟨up, 0, 1, 0, by decide +kernel⟩,
   ⟨put up [(RING_TAIL.TAIL 0, 1)], 0, 0, by decide +kernel⟩,
   ⟨up, 0, 1, by decide +kernel⟩,
   ⟨put up [(RING_TAIL.TAIL 0, 0)], 0, 0, by decide +kernel⟩,
   ⟨put up [(RING_TAIL.TAIL 0, 1)], 0, 0, by decide +kernel⟩⟩

/-- States and operands that meet the hypotheses of `DescriptorsAreFetchedRetiredAndTimed`. -/
theorem witness_descriptors_are_fetched_retired_and_timed :
    (∃ (s : State) (ring : Fin 1024) (raw : BitVec 512), s.mayFetch ring = true ∧ (Entry.headerError
      { idx := (s.ring ring).fetched, raw := raw } (s.ringPlot ring) = none ∨ Entry.inStep
      { idx := (s.ring ring).fetched, raw := raw } = true))
    ∧ (∃ (s : State) (ring : Fin 1024) (raw : BitVec 512) (v : Nat), s.mayFetch ring = true ∧ s.entry ring
      (s.ring ring).fetched = none ∧ Entry.inStep { idx := (s.ring ring).fetched, raw := raw } = false ∧
      Entry.headerError { idx := (s.ring ring).fetched, raw := raw } (s.ringPlot ring) = some v)
    ∧ (∃ (s : State) (ring : Fin 1024) (how : HostRead), s.mayFetch ring = true ∧ s.entry ring (s.ring
      ring).fetched = none ∧ how ≠ .data ∧ (how = .badEcrc → s.pcie.ecrcCheck = true))
    ∧ (∃ (s : State), s.pcie.ecrcCheck = false)
    ∧ (∃ (s : State) (ring : Fin 1024), s.mayFetch ring = false)
    ∧ (∃ (s : State) (ring : Fin 1024) (e : Entry) (rest : List Entry), (s.ring ring).entries = e :: rest ∧
      e.stage = 3 ∧ e.member = false ∧ s.idleEntry ring e.idx = true ∧ s.rd (RING_STS.STATE ring) = 1 ∧ s.funcUp
      (s.rd (RING_CFG.FUNC ring)) = true)
    ∧ (∃ (s : State) (ring : Fin 1024) (e : Entry) (rest : List Entry), (s.ring ring).entries = e :: rest ∧
      e.stage = 3 ∧ e.member = true ∧ (e.stepClose = false ∨ (s.plot (s.ringPlot ring)).step = none) ∧
      s.idleEntry ring e.idx = true ∧ s.rd (RING_STS.STATE ring) = 1 ∧ s.funcUp (s.rd (RING_CFG.FUNC ring)) =
      true)
    ∧ (∃ (s : State) (ring : Fin 1024), (∀ e rest, (s.ring ring).entries = e :: rest → e.stage ≠ 3 ∨ (e.member =
      true ∧ e.stepClose = true ∧ (s.plot (s.ringPlot ring)).step ≠ none) ∨ s.idleEntry ring e.idx = false ∨
      s.rd (RING_STS.STATE ring) ≠ 1 ∨ s.funcUp (s.rd (RING_CFG.FUNC ring)) = false))
    ∧ (∃ (s : State) (ring : Fin 1024) (idx : Nat) (d : Nat) (e : Entry), s.entry ring idx = some e ∧ (e.stage =
      1 ∨ e.stage = 2) ∧ e.deadline = some d ∧ d ≤ s.now ∧ (e.opcode ≠ opFLAGWAIT ∨ e.flag 10 3 = false))
    ∧ (∃ (s : State) (ring : Fin 1024) (idx : Nat), (∀ e, s.entry ring idx = some e → (e.stage ≠ 1 ∧ e.stage ≠
      2) ∨ (∀ d, e.deadline = some d → s.now < d) ∨ (e.opcode = opFLAGWAIT ∧ e.flag 10 3 = true))) :=
  ⟨⟨put up [(RING_TAIL.TAIL 0, 1)], 0, 0, by decide +kernel⟩,
   ⟨put up [(RING_TAIL.TAIL 0, 1)], 0, 0x13, 0, by decide +kernel⟩,
   ⟨put up [(RING_TAIL.TAIL 0, 1)], 0, .timedOut, by decide +kernel⟩,
   ⟨put up [(RING_TAIL.TAIL 0, 1)], by decide +kernel⟩,
   ⟨up, 0, by decide +kernel⟩,
   ⟨fetched up [(finished (desc opNOP 0 []))], 0, finished (desc opNOP 0 []), [], by decide +kernel⟩,
   ⟨fetched up [(finished (desc opNOP 4 []))], 0, finished (desc opNOP 4 []), [], by decide +kernel⟩,
   ⟨up, 0, fun e rest h => by cases h⟩,
   ⟨fetched up [({ desc opNOP 0 [] with deadline := some 0 })], 0, 0, 0,
    { desc opNOP 0 [] with deadline := some 0 }, by decide +kernel⟩,
   ⟨up, 0, 0, none_all (by decide +kernel)⟩⟩

/-- States and operands that meet the hypotheses of `CopiesMoveBytes`. -/
theorem witness_copies_move_bytes :
    (∃ (s : State) (ring : Fin 1024) (idx : Nat), s.mayIssue ring idx opCOPY = none)
    ∧ (∃ (s : State) (ring : Fin 1024) (idx : Nat) (e : Entry), s.entry ring idx = some e)
    ∧ (∃ (s : State) (ring : Fin 1024) (idx : Nat), s.flipWaits ring idx = true ∧ s.stopped ring idx = false)
    ∧ (∃ (s : State) (ring : Fin 1024) (idx : Nat) (st : Nat) (e : Entry), s.mayIssue ring idx opCOPY = some e ∧
      s.memberStop (s.ringPlot ring) e = some st)
    ∧ (∃ (s : State) (ring : Fin 1024) (idx : Nat) (v : Nat) (e : Entry), (s.flipWaits ring idx = false ∧
      firstFail (if e.copyLen = 0 then s.copyFields e else s.copyFields e ++ s.copyNames (s.ringPlot ring) e) =
      some v) ∧ s.takes ring idx opCOPY e)
    ∧ (∃ (s : State) (ring : Fin 1024) (idx : Nat) (e : Entry), (s.flipWaits ring idx = false ∧ firstFail
      (s.copyFields e) = none ∧ e.copyLen = 0) ∧ s.takes ring idx opCOPY e)
    ∧ (∃ (s : State) (ring : Fin 1024) (idx : Nat) (e : Entry), (s.flipWaits ring idx = false ∧ firstFail
      (s.copyFields e ++ s.copyNames (s.ringPlot ring) e) = none ∧ e.copyLen ≠ 0 ∧ e.srcKind = 2 ∧ e.dstKind = 2
      ∧ e.flipFlag = false ∧ s.gladeOpen (s.ringPlot ring) (e.u64 8) e.copyLen = true ∧ s.gladeOpen (s.ringPlot
      ring) (e.u64 16) e.copyLen = true ∧ s.accessFail true (gladePieces (e.u64 8) e.copyLen) = none ∧
      s.accessFail false (gladePieces (e.u64 16) e.copyLen) = none) ∧ s.takes ring idx opCOPY e)
    ∧ (∃ (s : State) (ring : Fin 1024) (idx : Nat) (e : Entry), (s.flipWaits ring idx = false ∧ firstFail
      (s.copyFields e ++ s.copyNames (s.ringPlot ring) e) = none ∧ e.copyLen ≠ 0 ∧ ((e.dstKind = 2 ∧ s.gladeOpen
      (s.ringPlot ring) (e.u64 16) e.copyLen = false) ∨ (e.srcKind = 2 ∧ s.gladeOpen (s.ringPlot ring) (e.u64 8)
      e.copyLen = false) ∨ (e.srcKind = 3 ∧ e.copyNode = s.node ∧ s.peerSlab s.node (e.u64 8) e.copyLen =
      none))) ∧ s.takes ring idx opCOPY e)
    ∧ (∃ (s : State) (ring : Fin 1024) (idx : Nat) (e : Entry), (s.flipWaits ring idx = false ∧ firstFail
      (s.copyFields e ++ s.copyNames (s.ringPlot ring) e) = none ∧ e.copyLen ≠ 0 ∧ e.srcKind = 0 ∧ e.dstKind = 0
      ∧ e.flag 30 6 = false ∧ isNarrow (s.tensorOf (s.ringPlot ring) (e.u16 16)).fmt = false ∧ (s.tensorOf
      (s.ringPlot ring) (e.u16 16)).fmt ≠ 0xD ∧ s.accessFail true (s.pieces (s.ringPlot ring) (s.tensorOf
      (s.ringPlot ring) (e.u16 8)).addr (elemBytes (s.tensorOf (s.ringPlot ring) (e.u16 16)).fmt * e.copyLen)) =
      none ∧ s.accessFail false (s.pieces (s.ringPlot ring) (s.tensorOf (s.ringPlot ring) (e.u16 16)).addr
      (s.readPieces (s.pieces (s.ringPlot ring) (s.tensorOf (s.ringPlot ring) (e.u16 8)).addr (elemBytes
      (s.tensorOf (s.ringPlot ring) (e.u16 16)).fmt * e.copyLen))).length) = none) ∧ s.takes ring idx opCOPY e)
    ∧ (∃ (s : State) (u : State) (ring : Fin 1024) (idx : Nat) (e : Entry) (b : List Byte), (s.flipWaits ring
      idx = false ∧ firstFail (s.copyFields e ++ s.copyNames (s.ringPlot ring) e) = none ∧ e.copyLen ≠ 0 ∧
      (e.dstKind = 2 → s.gladeOpen (s.ringPlot ring) (e.u64 16) e.copyLen = true) ∧ (e.srcKind = 2 → s.gladeOpen
      (s.ringPlot ring) (e.u64 8) e.copyLen = true) ∧ (e.srcKind = 3 → e.copyNode = s.node ∧ (s.peerSlab s.node
      (e.u64 8) e.copyLen).isSome = true) ∧ e.srcKind ≠ 1 ∧ (¬ (e.srcKind = 0 ∧ e.dstKind = 0))) ∧ s.takes ring
      idx opCOPY e ∧ (s.setStage ring idx 2).copySource (s.ringPlot ring) e = .ok b ∧ (s.setStage ring idx
      2).deliver (s.ringPlot ring) ring idx e b = .ok u)
    ∧ (∃ (s : State) (ring : Fin 1024) (idx : Nat) (e : Entry), (s.flipWaits ring idx = false ∧ firstFail
      (s.copyFields e ++ s.copyNames (s.ringPlot ring) e) = none ∧ e.copyLen ≠ 0 ∧ (e.dstKind = 2 → s.gladeOpen
      (s.ringPlot ring) (e.u64 16) e.copyLen = true) ∧ (e.srcKind = 1 ∨ (e.srcKind = 3 ∧ e.copyNode ≠ s.node ∧
      (s.routeOf e.copyNode).any (s.reaches e.copyNode) ∧ ∃ n ∈ s.routeOf e.copyNode, s.reaches e.copyNode n =
      true ∧ s.leasesPort (s.ringPlot ring) n = true))) ∧ s.takes ring idx opCOPY e)
    ∧ (∃ (s : State) (ring : Fin 1024) (idx : Nat) (e : Entry), (firstFail (s.copyFields e ++ s.copyNames
      (s.ringPlot ring) e) = none ∧ e.copyLen ≠ 0 ∧ e.srcKind = 2 ∧ e.dstKind = 4 ∧ s.gladeOpen (s.ringPlot
      ring) (e.u64 8) e.copyLen = true ∧ s.accessFail true (gladePieces (e.u64 8) e.copyLen) = none ∧
      ((List.range ((s.readPieces (gladePieces (e.u64 8) e.copyLen)).length / 64)).map (fun k => ((s.readPieces
      (gladePieces (e.u64 8) e.copyLen)).drop (64 * k)).take 64)).any badRecordBytes = false) ∧ s.takes ring idx
      opCOPY e)
    ∧ (∃ (s : State) (tag : Fin 8192) (data : List (BitVec 8)) (q : Tlp) (u : TagUse), s.pcieRuns = true ∧
      s.tlpBad q = false ∧ (s.tags.used.find? (fun t => decide (t.tag = tag.val ∧ t.kind = 4)) = some u) ∧
      (u.data ++ data).length < u.len)
    ∧ (∃ (s : State) (tag : Fin 8192) (data : List (BitVec 8)) (q : Tlp) (u : TagUse) (e : Entry), (s.pcieRuns =
      true ∧ s.tlpBad q = false ∧ (s.tags.used.find? (fun t => decide (t.tag = tag.val ∧ t.kind = 4)) = some u)
      ∧ u.data = [] ∧ data.length = u.len ∧ s.plotState (s.ringPlot u.ring) = plotBOUND ∧ s.entry u.ring u.idx =
      some e ∧ e.stage = 2 ∧ e.dstKind = 2 ∧ e.flipFlag = false ∧ e.buf = [] ∧ e.srcKind = 1 ∧ s.gladeOpen
      (s.ringPlot u.ring) (e.u64 16) u.len = true ∧ s.accessFail false (gladePieces (e.u64 16) u.len) = none) ∧
      (∀ w ∈ s.tags.used, w.ring = u.ring → w.idx = u.idx → w.tag = tag.val) ∧ (∀ w ∈ s.tags.waiting, w.ring ≠
      u.ring))
    ∧ (∃ (s : State) (tag : Fin 8192) (data : List (BitVec 8)) (q : Tlp) (u : TagUse), s.pcieRuns = true ∧
      (s.tags.used.find? (fun t => decide (t.tag = tag.val ∧ t.kind = 4)) = some u) ∧ s.plotState (s.ringPlot
      u.ring) ≠ plotBOUND ∧ (s.tlpBad q = true ∨ u.len ≤ (u.data ++ data).length))
    ∧ (∃ (s : State) (tag : Fin 8192) (q : Tlp) (u : TagUse) (e : Entry), s.pcieRuns = true ∧ s.tlpBad q = true
      ∧ (s.tags.used.find? (fun t => decide (t.tag = tag.val ∧ t.kind = 4)) = some u) ∧ s.plotState (s.ringPlot
      u.ring) = plotBOUND ∧ s.entry u.ring u.idx = some e ∧ e.stage < 3)
    ∧ (∃ (s : State) (tag : Fin 8192), s.pcieRuns = true ∧ (s.tags.used.find? (fun t => decide (t.tag = tag.val
      ∧ t.kind = 4)) = none))
    ∧ (∃ (s : State), s.pcieRuns = false)
    ∧ (∃ (s : State) (tag : Fin 8192) (u : TagUse) (e : Entry), (s.tags.used.find? (fun t => decide (t.tag =
      tag.val ∧ t.kind = 4)) = some u) ∧ s.pcie.cplOff = false ∧ s.past u.takenAt (cplTime s.pcie.cplValue) =
      true ∧ s.entry u.ring u.idx = some e ∧ e.stage < 3)
    ∧ (∃ (s : State) (tag : Fin 8192), (∀ u, s.tags.used.find? (fun t => decide (t.tag = tag.val ∧ t.kind = 4))
      = some u → s.pcie.cplOff = true ∨ s.past u.takenAt (cplTime s.pcie.cplValue) = false)) :=
  ⟨⟨up, 0, 0, by decide +kernel⟩,
   ⟨fetched up [(desc opCOPY 0 [])], 0, 0, desc opCOPY 0 [], by decide +kernel⟩,
   ⟨fetched up [desc opNOP 0 [], ({ desc opCOPY 0 [(28, 2), (30, 0x18), (31, 1)] with idx := 1 })], 0, 1,
    by decide +kernel⟩,
   ⟨(fetched up [(desc opCOPY 4 [])]).modPlot 0 (fun q => { q with step := some ({ refused := true }) }), 0, 0,
    0x20, desc opCOPY 4 [], by decide +kernel⟩,
   ⟨fetched up [(desc opCOPY 0 [(8, 0), (16, 65536), (24, 32), (30, 0xFF)])], 0, 0, 30, desc opCOPY 0
    [(8, 0), (16, 65536), (24, 32), (30, 0xFF)], by decide +kernel, takes_of (by decide +kernel)⟩,
   ⟨fetched up [(desc opCOPY 0 [])], 0, 0, desc opCOPY 0 [], by decide +kernel, takes_of (by decide +kernel)⟩,
   ⟨fetched up [(desc opCOPY 0 [(8, 65536), (16, 65536), (24, 32), (30, 18)])], 0, 0, desc opCOPY 0
    [(8, 65536), (16, 65536), (24, 32), (30, 18)], by decide +kernel, takes_of (by decide +kernel)⟩,
   ⟨fetched up [(desc opCOPY 0 [(8, 65536), (16, 196608), (24, 32), (30, 18)])], 0, 0, desc opCOPY 0
    [(8, 65536), (16, 196608), (24, 32), (30, 18)], by decide +kernel, takes_of (by decide +kernel)⟩,
   ⟨fetched up [(desc opCOPY 0 [(8, 1), (16, 2), (24, 4)])], 0, 0, desc opCOPY 0 [(8, 1), (16, 2), (24, 4)],
    by decide +kernel, takes_of (by decide +kernel)⟩,
   ⟨fetched up [(desc opCOPY 0 [(8, 65536), (16, 65536), (24, 32), (30, 18)])], got (((fetched up
    [(desc opCOPY 0 [(8, 65536), (16, 65536), (24, 32), (30, 18)])] : State).setStage (0 : Fin 1024) (0 : Nat)
    2).deliver ((fetched up [(desc opCOPY 0 [(8, 65536), (16, 65536), (24, 32), (30, 18)])] : State).ringPlot (0
    : Fin 1024)) (0 : Fin 1024) (0 : Nat) (desc opCOPY 0 [(8, 65536), (16, 65536), (24, 32), (30, 18)] : Entry)
    (got (((fetched up [(desc opCOPY 0 [(8, 65536), (16, 65536), (24, 32), (30, 18)])] : State).setStage (0 :
    Fin 1024) (0 : Nat) 2).copySource ((fetched up
    [(desc opCOPY 0 [(8, 65536), (16, 65536), (24, 32), (30, 18)])] : State).ringPlot (0 : Fin 1024)) (desc
    opCOPY 0 [(8, 65536), (16, 65536), (24, 32), (30, 18)] : Entry)) : List Byte)), 0, 0, desc opCOPY 0
    [(8, 65536), (16, 65536), (24, 32), (30, 18)], got (((fetched up
    [(desc opCOPY 0 [(8, 65536), (16, 65536), (24, 32), (30, 18)])] : State).setStage (0 : Fin 1024) (0 : Nat)
    2).copySource ((fetched up [(desc opCOPY 0 [(8, 65536), (16, 65536), (24, 32), (30, 18)])] : State).ringPlot
    (0 : Fin 1024)) (desc opCOPY 0 [(8, 65536), (16, 65536), (24, 32), (30, 18)] : Entry)), by decide +kernel,
    takes_of (by decide +kernel), eq_got (by decide +kernel), eq_got (by decide +kernel)⟩,
   ⟨fetched up [(desc opCOPY 0 [(8, 0), (16, 65536), (24, 32), (30, 17)])], 0, 0, desc opCOPY 0
    [(8, 0), (16, 65536), (24, 32), (30, 17)], by decide +kernel, takes_of (by decide +kernel)⟩,
   ⟨fetched up [(desc opCOPY 0 [(8, 65536), (16, 0), (24, 64), (30, 34)])], 0, 0, desc opCOPY 0
    [(8, 65536), (16, 0), (24, 64), (30, 34)], by decide +kernel, takes_of (by decide +kernel)⟩,
   ⟨fetched { up with tags := { used := [({ kind := 4, len := 2 })] } }
    [(issued (desc opCOPY 0 [(8, 0), (16, 65536), (24, 2), (30, 17)]))], 0, [1], .good, { kind := 4, len := 2 },
    by decide +kernel⟩,
   ⟨fetched { up with tags := { used := [({ kind := 4, len := 2 })] } }
    [(issued (desc opCOPY 0 [(8, 0), (16, 65536), (24, 2), (30, 17)]))], 0, [1, 2], .good,
    { kind := 4, len := 2 }, issued (desc opCOPY 0 [(8, 0), (16, 65536), (24, 2), (30, 17)]), by decide +kernel,
    by decide +kernel, by decide +kernel⟩,
   ⟨put { up with tags := { used := [({ kind := 4, len := 2 })] } } [(PLOT_STS.STATE 0, plotUNBOUND)], 0,
    [1, 2], .good, { kind := 4, len := 2 }, by decide +kernel⟩,
   ⟨fetched { up with tags := { used := [({ kind := 4, len := 2 })] } }
    [(issued (desc opCOPY 0 [(8, 0), (16, 65536), (24, 2), (30, 17)]))], 0, .poisoned, { kind := 4, len := 2 },
    issued (desc opCOPY 0 [(8, 0), (16, 65536), (24, 2), (30, 17)]), by decide +kernel⟩,
   ⟨up, 0, by decide +kernel⟩,
   ⟨State.reset, by decide +kernel⟩,
   ⟨fetched { up with tags := { used := [({ kind := 4, len := 2 })] } }
    [(issued (desc opCOPY 0 [(8, 0), (16, 65536), (24, 2), (30, 17)]))], 0, { kind := 4, len := 2 }, issued
    (desc opCOPY 0 [(8, 0), (16, 65536), (24, 2), (30, 17)]), by decide +kernel⟩,
   ⟨up, 0, none_all (by decide +kernel)⟩⟩

/-- States and operands that meet the hypotheses of `FencesFlagsAndSlabs`. -/
theorem witness_fences_flags_and_slabs :
    (∃ (s : State) (ring : Fin 1024) (idx : Nat) (e : Entry), firstFail [e.reserved []] = none ∧ s.takes ring
      idx opFENCE e)
    ∧ (∃ (s : State) (ring : Fin 1024) (idx : Nat) (e : Entry), (s.slabIs (e.u16 8) (s.ringPlot ring) = true ∧
      (s.slab (e.u16 8)).claimed = false ∧ firstFail [e.reserved [(81, 64), (105, 96)]] = none) ∧ s.takes ring
      idx opFLAGSET e)
    ∧ (∃ (s : State) (ring : Fin 1024) (idx : Nat) (e : Entry), (s.slabIs (e.u16 8) (s.ringPlot ring) = true ∧
      (s.slab (e.u16 8)).claimed = true) ∧ s.takes ring idx opFLAGSET e)
    ∧ (∃ (s : State) (ring : Fin 1024) (idx : Nat) (v : Nat) (e : Entry), ((s.slabIs (e.u16 8) (s.ringPlot ring)
      = false ∨ (s.slab (e.u16 8)).claimed = false) ∧ firstFail
      [e.reserved [(81, 64), (105, 96)], (8, !s.slabIs (e.u16 8) (s.ringPlot ring))] = some v) ∧ s.takes ring
      idx opFLAGSET e)
    ∧ (∃ (s : State) (ring : Fin 1024) (idx : Nat) (e : Entry), firstFail
      [e.reserved [(83, 64), (95, 88)], (8, !s.slabIs (e.u16 8) (s.ringPlot ring))] = none ∧ s.takes ring idx
      opFLAGWAIT e)
    ∧ (∃ (s : State) (ring : Fin 1024) (idx : Nat) (e : Entry), s.entry ring idx = some e ∧ e.stage = 2 ∧
      e.opcode = opFLAGWAIT ∧ s.flagMatches e = true)
    ∧ (∃ (s : State) (ring : Fin 1024) (idx : Nat), (∀ e, s.entry ring idx = some e → e.stage ≠ 2 ∨ e.opcode ≠
      opFLAGWAIT ∨ s.flagMatches e = false))
    ∧ (∃ (s : State) (path : Fin 6) (n : Fin 65536) (v : BitVec 64), s.writeOpen path (0x180000 + 8 * n) = true
      ∧ s.slabWriteOk n v.toNat = true)
    ∧ (∃ (s : State) (path : Fin 6) (n : Fin 65536) (v : BitVec 64) (whole : Bool), s.writeOpen path (0x180000 +
      8 * n) = true ∧ (whole = false ∨ s.slabWriteOk n v.toNat = false))
    ∧ (∃ (s : State) (path : Fin 6) (n : Fin 65536), s.writeOpen path (0x180000 + 8 * n) = false)
    ∧ (∃ (s : State) (a : BitVec 36) (l : List (BitVec 8)) (q : Tlp) (e : Slab), s.hostReaches = true ∧
      s.faults.windthrow = false ∧ (gladePieces a.toNat l.length).any (fun q => s.stalledAt q.1 q.2) = false ∧
      s.bar2Slab a.toNat l.length = some e ∧ s.tlpBad q = false ∧ s.accessFail false (gladePieces a.toNat
      l.length) = none)
    ∧ (∃ (s : State) (a : BitVec 36) (l : List (BitVec 8)) (e : Slab), s.hostReaches = true ∧ s.faults.windthrow
      = false ∧ (gladePieces a.toNat l.length).any (fun q => s.stalledAt q.1 q.2) = false ∧ s.bar2Slab a.toNat
      l.length = some e)
    ∧ (∃ (s : State) (a : BitVec 36) (n : Nat) (e : Slab), s.hostReaches = true ∧ s.faults.windthrow = false ∧
      (gladePieces a.toNat n).any (fun q => s.stalledAt q.1 q.2) = false ∧ s.bar2Slab a.toNat n = some e)
    ∧ (∃ (s : State) (a : BitVec 36) (w : Option (List (BitVec 8))) (n : Nat), s.hostReaches = true ∧
      s.faults.windthrow = false ∧ (gladePieces a.toNat (match w with | some l => l.length | none => n)).any
      (fun q => s.stalledAt q.1 q.2) = false ∧ s.bar2Slab a.toNat
      (match w with | some l => l.length | none => n) = none)
    ∧ (∃ (s : State) (a : BitVec 36) (w : Option (List (BitVec 8))) (n : Nat), (s.hostReaches = false ∨
      s.faults.windthrow = true ∨ (gladePieces a.toNat (match w with | some l => l.length | none => n)).any (fun
      q => s.stalledAt q.1 q.2) = true)) :=
  ⟨⟨fetched up [(desc opFENCE 0 [])], 0, 0, desc opFENCE 0 [], by decide +kernel, takes_of (by decide +kernel)⟩,
   ⟨fetched up [(desc opFLAGSET 0 [(8, 1)])], 0, 0, desc opFLAGSET 0 [(8, 1)], by decide +kernel, takes_of
    (by decide +kernel)⟩,
   ⟨fetched { up with slabs := [(1, { base := 16, owner := ownDEVICE, claimed := true })] }
    [(desc opFLAGSET 0 [(8, 1)])], 0, 0, desc opFLAGSET 0 [(8, 1)], by decide +kernel, takes_of
    (by decide +kernel)⟩,
   ⟨fetched { up with slabs := [(3, { base := 48, owner := ownDEVICE, plot := 1, plotB := 1, plotC := 1 })] }
    [(desc opFLAGSET 0 [(8, 3)])], 0, 0, 8, desc opFLAGSET 0 [(8, 3)], by decide +kernel, takes_of
    (by decide +kernel)⟩,
   ⟨fetched up [(desc opFLAGWAIT 0 [(8, 1)])], 0, 0, desc opFLAGWAIT 0 [(8, 1)], by decide +kernel, takes_of
    (by decide +kernel)⟩,
   ⟨fetched up [(issued (desc opFLAGWAIT 0 [(8, 1), (10, 2)]))], 0, 0, issued (desc opFLAGWAIT 0
    [(8, 1), (10, 2)]), by decide +kernel⟩,
   ⟨up, 0, 0, none_all (by decide +kernel)⟩,
   ⟨up, 0, 0, 0, by decide +kernel⟩,
   ⟨up, 0, 0, 0, false, by decide +kernel⟩,
   ⟨up, 5, 0, by decide +kernel⟩,
   ⟨up, 196608, [1, 2, 3, 4], .good, { base := 48, owner := ownHOST }, by decide +kernel⟩,
   ⟨up, 196608, [1, 2, 3, 4], { base := 48, owner := ownHOST }, by decide +kernel⟩,
   ⟨up, 196608, 4, { base := 48, owner := ownHOST }, by decide +kernel⟩,
   ⟨up, 0, none, 0, by decide +kernel⟩,
   ⟨State.reset, 0, none, 0, by decide +kernel⟩⟩

/-- States and operands that meet the hypotheses of `PlotsAreBoundReleasedAndLeased`. -/
theorem witness_plots_are_bound_released_and_leased :
    (∃ (s : State) (p : Fin 64) (path : Fin 6), s.writeOpen path (plotAddr p) = true ∧ s.plotState p =
      plotUNBOUND ∧ s.bindErr p = 0)
    ∧ (∃ (s : State) (p : Fin 64) (src : PlotSource), s.sourceOpen src (plotAddr p) = true ∧ s.plotState p ≠
      plotUNBOUND)
    ∧ (∃ (s : State) (p : Fin 64) (path : Fin 6), s.writeOpen path (plotAddr p) = true ∧ s.plotState p =
      plotUNBOUND ∧ s.bindErr p ≠ 0)
    ∧ (∃ (s : State) (p : Fin 64), s.fabricUp = true ∧ s.plotState p = plotUNBOUND)
    ∧ (∃ (s : State) (p : Fin 64) (src : PlotSource), s.sourceOpen src (plotAddr p) = false)
    ∧ (∃ (s : State) (p : Fin 64) (path : Fin 6), s.writeOpen path (plotAddr p) = true ∧ s.rd (PLOT_STS.MANAGED
      p) ≠ 1 ∧ s.plotState p = plotBOUND ∧ s.drained p = true)
    ∧ (∃ (s : State) (p : Fin 64) (path : Fin 6), s.writeOpen path (plotAddr p) = true ∧ s.rd (PLOT_STS.MANAGED
      p) ≠ 1 ∧ s.plotState p = plotBOUND ∧ s.drained p = false)
    ∧ (∃ (s : State) (p : Fin 64), s.fabricUp = true ∧ s.plotState p = plotBOUND)
    ∧ (∃ (s : State) (p : Fin 64) (src : PlotSource), s.sourceOpen src (plotAddr p) = true ∧ (s.managedFrom p
      src = true ∨ s.plotState p ≠ plotBOUND))
    ∧ (∃ (s : State) (p : Fin 64) (path : Fin 6), s.writeOpen path (plotAddr p + 0x10) = true ∧ s.rd
      (PLOT_STS.MANAGED p) ≠ 1 ∧ s.plotState p = plotUNBOUND)
    ∧ (∃ (s : State) (p : Fin 64) (src : PlotSource) (o : Fin 512), s.sourceOpen src (plotAddr p + o) = true ∧
      leaseOffset o = true ∧ s.managedFrom p src = false ∧ s.plotState p = plotUNBOUND)
    ∧ (∃ (s : State) (p : Fin 64) (src : PlotSource) (o : Fin 512), s.sourceOpen src (plotAddr p + o) = true ∧
      leaseOffset o = true ∧ (s.managedFrom p src = true ∨ s.plotState p ≠ plotUNBOUND))
    ∧ (∃ (s : State) (src : PlotSource) (a : BitVec 24), (a.toNat < 0x80000 ∨ 0x88000 ≤ a.toNat ∨ leaseOffset
      (a.toNat % 0x200) = false ∨ s.sourceOpen src a.toNat = false)) :=
  ⟨⟨put up [(PLOT_STS.STATE 0, plotUNBOUND)], 0, 0, by decide +kernel⟩,
   ⟨up, 0, .path 0, by decide +kernel⟩,
   ⟨{ put up [(PLOT_STS.STATE 0, plotUNBOUND)] with pkg := { fenced := [0] } }, 0, 0, by decide +kernel⟩,
   ⟨put up [(PLOT_STS.STATE 0, plotUNBOUND)], 0, by decide +kernel⟩,
   ⟨up, 0, .path 5, by decide +kernel⟩,
   ⟨up, 0, 0, by decide +kernel⟩,
   ⟨put up [(RING_TAIL.TAIL 0, 1)], 0, 0, by decide +kernel⟩,
   ⟨up, 0, by decide +kernel⟩,
   ⟨put up [(PLOT_STS.STATE 0, plotUNBOUND)], 0, .path 0, by decide +kernel⟩,
   ⟨put up [(PLOT_STS.STATE 0, plotUNBOUND)], 0, 0, by decide +kernel⟩,
   ⟨put up [(PLOT_STS.STATE 0, plotUNBOUND)], 0, .path 0, 8, by decide +kernel⟩,
   ⟨up, 0, .path 0, 8, by decide +kernel⟩,
   ⟨up, .path 0, 0, by decide +kernel⟩⟩

/-- States and operands that meet the hypotheses of `PlotsComeIntoServiceAndReset`. -/
theorem witness_plots_come_into_service_and_reset :
    (∃ (s : State) (p : Fin 64), s.plotState p = plotBINDING)
    ∧ (∃ (s : State) (p : Fin 64), s.plotState p ≠ plotBINDING)
    ∧ (∃ (s : State) (p : Fin 64) (src : PlotSource), s.sourceOpen src (plotAddr p) = true ∧ s.plotState p =
      plotBOUND)
    ∧ (∃ (s : State) (p : Fin 64) (src : PlotSource), s.sourceOpen src (plotAddr p) = true ∧ s.plotState p =
      plotRESETTING)
    ∧ (∃ (s : State) (p : Fin 64) (src : PlotSource), s.sourceOpen src (plotAddr p) = true ∧ s.plotState p ≠
      plotBOUND ∧ s.plotState p ≠ plotRESETTING)
    ∧ (∃ (s : State) (p : Fin 64) (src : PlotSource), s.sourceOpen src (plotAddr p) = false)
    ∧ (∃ (s : State) (p : Fin 64) (r : PlotReset), s.resetOf p = some r ∧ r.drained = false ∧ s.quietPlot p =
      true)
    ∧ (∃ (s : State) (p : Fin 64), (∀ r, s.resetOf p = some r → r.drained = true ∨ s.quietPlot p = false))
    ∧ (∃ (s : State) (p : Fin 64) (r : PlotReset), s.resetOf p = some r ∧ r.drained = false ∧ r.startedAt + s.rd
      FLT_TMO_DRAIN.MS * perMs ≤ s.now)
    ∧ (∃ (s : State) (p : Fin 64) (r : PlotReset), s.resetOf p = some r ∧ r.drained = false ∧ r.startedAt + s.rd
      FLT_TMO_DRAIN.MS * perMs ≤ s.now)
    ∧ (∃ (s : State) (p : Fin 64), (∀ r, s.resetOf p = some r → r.drained = true ∨ s.now < r.startedAt + s.rd
      FLT_TMO_DRAIN.MS * perMs))
    ∧ (∃ (s : State) (p : Fin 64) (r : PlotReset), s.resetOf p = some r ∧ r.drained = true ∧ r.release = false ∧
      r.clear = false)
    ∧ (∃ (s : State) (p : Fin 64) (r : PlotReset), s.resetOf p = some r ∧ r.drained = true ∧ r.clear = true)
    ∧ (∃ (s : State) (p : Fin 64) (r : PlotReset), s.resetOf p = some r ∧ r.drained = true ∧ r.release = true ∧
      r.clear = false)
    ∧ (∃ (s : State) (p : Fin 64), (∀ r, s.resetOf p = some r → r.drained = false)) :=
  ⟨⟨put up [(PLOT_STS.STATE 0, plotBINDING)], 0, by decide +kernel⟩,
   ⟨up, 0, by decide +kernel⟩,
   ⟨up, 0, .path 0, by decide +kernel⟩,
   ⟨resetting {}, 0, .path 0, by decide +kernel⟩,
   ⟨put up [(PLOT_STS.STATE 0, plotUNBOUND)], 0, .path 0, by decide +kernel⟩,
   ⟨up, 0, .path 5, by decide +kernel⟩,
   ⟨resetting ({ clear := true }), 0, { clear := true }, by decide +kernel⟩,
   ⟨resetting ({ drained := true, clear := true }), 0, by decide +kernel⟩,
   ⟨resetting ({ clear := true }), 0, { clear := true }, by decide +kernel⟩,
   ⟨resetting ({ clear := true }), 0, { clear := true }, by decide +kernel⟩,
   ⟨up, 0, none_all (by decide +kernel)⟩,
   ⟨resetting ({ drained := true }), 0, { drained := true }, by decide +kernel⟩,
   ⟨resetting ({ drained := true, clear := true }), 0, { drained := true, clear := true }, by decide +kernel⟩,
   ⟨resetting ({ drained := true, release := true }), 0, { drained := true, release := true },
    by decide +kernel⟩,
   ⟨up, 0, none_all (by decide +kernel)⟩⟩

/-- States and operands that meet the hypotheses of `ResetsBootAnImage`. -/
theorem witness_resets_boot_an_image :
    (∃ (s : State), s.glob.poweredOn = false ∧ s.imageA)
    ∧ (∃ (s : State), s.glob.poweredOn = false ∧ (s.flash.imgA.state = 0 ∨ 2 < s.flash.imgA.state) ∧
      (s.flash.imgB.state = 0 ∨ 2 < s.flash.imgB.state))
    ∧ (∃ (s : State), s.glob.poweredOn = false)
    ∧ (∃ (s : State), s.glob.poweredOn = true)
    ∧ (∃ (s : State), (s.glob.perstLow = false ∧ s.glob.poweredOn = true ∧ s.faults.windthrow = false ∧
      s.glob.dormant = false) ∧ s.imageA)
    ∧ (∃ (s : State), s.glob.perstLow = false ∧ s.glob.poweredOn = true ∧ (s.faults.windthrow = true ∨
      s.glob.dormant = true))
    ∧ (∃ (s : State), s.glob.perstLow = false ∧ s.glob.poweredOn = false)
    ∧ (∃ (s : State), s.glob.perstLow = true)
    ∧ (∃ (s : State), s.glob.perstLow = true ∧ s.glob.poweredOn = true ∧ s.glob.dormant = false)
    ∧ (∃ (s : State), (s.glob.perstLow = true ∧ s.glob.poweredOn = true ∧ s.glob.dormant = true) ∧ s.imageA)
    ∧ (∃ (s : State), s.glob.perstLow = true ∧ s.glob.poweredOn = false)
    ∧ (∃ (s : State), s.glob.perstLow = false)
    ∧ (∃ (s : State) (path : Fin 6) (v : BitVec 32), s.writeOpen path 0x110 = true ∧ bits v.toNat 31 16 = 0xA17E
      ∧ bits v.toNat 1 0 = 1 ∧ s.faults.windthrow = false ∧ s.glob.dormant = false)
    ∧ (∃ (s : State) (path : Fin 6) (v : BitVec 32), (s.writeOpen path 0x110 = false ∨ bits v.toNat 31 16 ≠
      0xA17E ∨ bits v.toNat 1 0 ≠ 1 ∨ s.faults.windthrow = true ∨ s.glob.dormant = true ∨ s.glob.warm = true))
    ∧ (∃ (s : State), s.sideband = true ∧ s.faults.windthrow = false)
    ∧ (∃ (s : State) (word : BitVec 16) (ok : Bool), (ok = false ∨ s.sideband = false ∨ word ≠ 0xA17E ∨
      s.faults.windthrow = true ∨ s.glob.warm = true))
    ∧ (∃ (s : State), (s.glob.warm = true ∧ s.faults.windthrow = false) ∧ s.imageA)
    ∧ (∃ (s : State), (s.glob.warm = false ∨ s.faults.windthrow = true))
    ∧ (∃ (s : State), s.glob.dormant = true ∧ s.imageA)
    ∧ (∃ (s : State) (good : Bool), (good = false ∨ s.glob.dormant = false))
    ∧ (∃ (s : State), s.glob.poweredOn = true ∧ s.faults.scanStop = false)
    ∧ (∃ (s : State), (s.glob.poweredOn = false ∨ s.faults.scanStop = true)) :=
  ⟨⟨{ State.reset with flash := { imgA := { state := 1, chainOk := true, digestsOk := true } } },
    by decide +kernel, by unfold State.imageA; decide +kernel⟩,
   ⟨State.reset, by decide +kernel⟩,
   ⟨State.reset, by decide +kernel⟩,
   ⟨{ State.reset with glob := { poweredOn := true }, flash := { imgA := { state := 1, chainOk := true, digestsOk := true } } },
    by decide +kernel⟩,
   ⟨{ State.reset with glob := { poweredOn := true, perstLow := false }, flash := { imgA := { state := 1, chainOk := true, digestsOk := true } } },
    by decide +kernel, by unfold State.imageA; decide +kernel⟩,
   ⟨{ State.reset with glob := { poweredOn := true, perstLow := false, dormant := true }, flash := { imgA := { state := 1, chainOk := true, digestsOk := true } } },
    by decide +kernel⟩,
   ⟨{ State.reset with glob := { perstLow := false }, flash := { imgA := { state := 1, chainOk := true, digestsOk := true } } },
    by decide +kernel⟩,
   ⟨{ State.reset with glob := { perstLow := true }, flash := { imgA := { state := 1, chainOk := true, digestsOk := true } } },
    by decide +kernel⟩,
   ⟨{ State.reset with glob := { poweredOn := true, perstLow := true }, flash := { imgA := { state := 1, chainOk := true, digestsOk := true } } },
    by decide +kernel⟩,
   ⟨{ State.reset with glob := { poweredOn := true, perstLow := true, dormant := true }, flash := { imgA := { state := 1, chainOk := true, digestsOk := true } } },
    by decide +kernel, by unfold State.imageA; decide +kernel⟩,
   ⟨{ State.reset with glob := { perstLow := true }, flash := { imgA := { state := 1, chainOk := true, digestsOk := true } } },
    by decide +kernel⟩,
   ⟨{ State.reset with glob := { perstLow := false }, flash := { imgA := { state := 1, chainOk := true, digestsOk := true } } },
    by decide +kernel⟩,
   ⟨up, 0, 0xA17E0001, by decide +kernel⟩,
   ⟨up, 0, 0, by decide +kernel⟩,
   ⟨up, by decide +kernel⟩,
   ⟨up, 0, false, by decide +kernel⟩,
   ⟨{ State.reset with glob := { poweredOn := true, warm := true }, flash := { imgA := { state := 1, chainOk := true, digestsOk := true } } },
    by decide +kernel, by unfold State.imageA; decide +kernel⟩,
   ⟨up, by decide +kernel⟩,
   ⟨{ State.reset with glob := { poweredOn := true, dormant := true }, flash := { imgA := { state := 1, chainOk := true, digestsOk := true } } },
    by decide +kernel, by unfold State.imageA; decide +kernel⟩,
   ⟨up, false, by decide +kernel⟩,
   ⟨up, by decide +kernel⟩,
   ⟨State.reset, by decide +kernel⟩⟩

/-- States and operands that meet the hypotheses of `BringUpJoinsDies`. -/
theorem witness_bring_up_joins_dies :
    (∃ (s : State) (n : Fin 16), s.bringing = true ∧ s.fenced n = false ∧ (s.stack n).trained = false ∧
      s.loopLocked (1 + n / 4) = true)
    ∧ (∃ (s : State) (n : Fin 16), s.bringing = true ∧ s.fenced n = false ∧ (s.stack n).trained = false ∧
      s.loopLocked (1 + n / 4) = true)
    ∧ (∃ (s : State) (n : Fin 16), (s.bringing = false ∨ s.fenced n = true ∨ (s.stack n).trained = true ∨
      s.loopLocked (1 + n / 4) = false))
    ∧ (∃ (s : State), s.bringing = true ∧ s.sec.extension = false ∧ (s.stack (if s.fenced 0 then 8 else
      0)).trained = true)
    ∧ (∃ (s : State) (b : Bool), s.bringing = true ∧ s.sec.extension = false ∧ (s.stack (if s.fenced 0 then 8
      else 0)).trained = true ∧ b = decide (s.rd SEC_STS.BOOT_IMAGE = 1))
    ∧ (∃ (s : State), (s.bringing = false ∨ s.sec.extension = true ∨ (s.stack (if s.fenced 0 then 8 else
      0)).trained = false))
    ∧ (∃ (s : State) (gd : Fin 16) (bad : List (Fin 32 × Fin 8 × Fin 32)), s.bringing = true ∧ s.sec.extension =
      true ∧ (s.stack gd).trained = true ∧ s.fenced gd = false ∧ s.groveUp gd = false ∧ s.power.hold = false ∧
      gd.val ∉ s.clocks.soscBad ∧ (s.qualifyLanes bad).routed gd = true)
    ∧ (∃ (s : State) (gd : Fin 16), s.bringing = true ∧ s.sec.extension = true ∧ (s.stack gd).trained = true ∧
      s.fenced gd = false ∧ s.groveUp gd = false ∧ s.power.hold = false ∧ gd.val ∉ s.clocks.soscBad ∧ s.routed
      gd = true)
    ∧ (∃ (s : State) (gd : Fin 16) (tileOk : Bool), s.bringing = true ∧ s.sec.extension = true ∧ (s.stack
      gd).trained = true ∧ s.fenced gd = false ∧ s.groveUp gd = false ∧ s.power.hold = false ∧ (tileOk = false ∨
      gd.val ∈ s.clocks.soscBad))
    ∧ (∃ (s : State) (gd : Fin 16) (bad : List (Fin 32 × Fin 8 × Fin 32)), s.bringing = true ∧ s.sec.extension =
      true ∧ (s.stack gd).trained = true ∧ s.fenced gd = false ∧ s.groveUp gd = false ∧ s.power.hold = false ∧
      gd.val ∉ s.clocks.soscBad ∧ (s.qualifyLanes bad).routed gd = false)
    ∧ (∃ (s : State) (gd : Fin 16), (s.bringing = false ∨ s.sec.extension = false ∨ (s.stack gd).trained = false
      ∨ s.fenced gd = true ∨ s.groveUp gd = true ∨ s.power.hold = true))
    ∧ (∃ (s : State), s.bringing = true ∧ s.rd CTL_BRINGUP_STS.PHASE = 2)
    ∧ (∃ (s : State), (s.bringing = true ∧ s.rd CTL_BRINGUP_STS.PHASE = 2) ∧ (∀ d, d < 16 → s.groveUp d =
      !s.fenced d))
    ∧ (∃ (s : State), (s.bringing = false ∨ s.rd CTL_BRINGUP_STS.PHASE ≠ 2)) :=
  ⟨⟨put { up with sec := { booted := true, extension := true } } [(CTL_BRINGUP_STS.PHASE, 1)], 0,
    by decide +kernel⟩,
   ⟨put { up with sec := { booted := true, extension := true } } [(CTL_BRINGUP_STS.PHASE, 1)], 0,
    by decide +kernel⟩,
   ⟨up, 0, by decide +kernel⟩,
   ⟨put
    { up with sec := { booted := true, extension := false }, hbm := { stackTab := [(0, { trained := true })] } }
    [(CTL_BRINGUP_STS.PHASE, 1)], by decide +kernel⟩,
   ⟨put
    { up with sec := { booted := true, extension := false }, hbm := { stackTab := [(0, { trained := true })] } }
    [(CTL_BRINGUP_STS.PHASE, 1)], false, by decide +kernel⟩,
   ⟨up, by decide +kernel⟩,
   ⟨put
    { up with sec := { booted := true, extension := true }, hbm := { stackTab := [(0, { trained := true })] } }
    [(CTL_BRINGUP_STS.PHASE, 1), (STS_INSERVICE.GROVE, 0)], 0, [], by decide +kernel⟩,
   ⟨put
    { up with sec := { booted := true, extension := true }, hbm := { stackTab := [(0, { trained := true })] } }
    [(CTL_BRINGUP_STS.PHASE, 1), (STS_INSERVICE.GROVE, 0)], 0, by decide +kernel⟩,
   ⟨put
    { up with sec := { booted := true, extension := true }, hbm := { stackTab := [(0, { trained := true })] } }
    [(CTL_BRINGUP_STS.PHASE, 1), (STS_INSERVICE.GROVE, 0)], 0, false, by decide +kernel⟩,
   ⟨put
    { up with sec := { booted := true, extension := true }, hbm := { stackTab := [(0, { trained := true }), (3, { trained := true })] } }
    [(CTL_BRINGUP_STS.PHASE, 1), (STS_INSERVICE.GROVE, 0)], 3, [], by decide +kernel⟩,
   ⟨up, 0, by decide +kernel⟩,
   ⟨put { up with sec := { booted := true, extension := true } } [(CTL_BRINGUP_STS.PHASE, 2)],
    by decide +kernel⟩,
   ⟨put { up with sec := { booted := true, extension := true } } [(CTL_BRINGUP_STS.PHASE, 2)],
    by decide +kernel, by decide +kernel⟩,
   ⟨up, by decide +kernel⟩⟩

/-- States and operands that meet the hypotheses of `PowerStatesAndSideband`. -/
theorem witness_power_states_and_sideband :
    (∃ (s : State) (path : Fin 6), s.writeOpen path 0x114 = true ∧ s.faults.windthrow = false ∧ s.rd
      CTL_PSTATE.STATE = 0 ∧ s.rd CTL_BRINGUP_STS.PHASE = 3 ∧ s.boundPlots.all s.drained = true)
    ∧ (∃ (s : State) (path : Fin 6), s.writeOpen path 0x114 = true ∧ s.faults.windthrow = false ∧ s.rd
      CTL_PSTATE.STATE = 0 ∧ (s.rd CTL_BRINGUP_STS.PHASE ≠ 3 ∨ s.boundPlots.all s.drained = false))
    ∧ (∃ (s : State) (path : Fin 6), s.writeOpen path 0x114 = true ∧ s.faults.windthrow = false)
    ∧ (∃ (s : State) (path : Fin 6), (s.writeOpen path 0x114 = false ∨ s.faults.windthrow = true))
    ∧ (∃ (s : State), s.rd CTL_PSTATE.STATE = 1)
    ∧ (∃ (s : State), s.rd CTL_PSTATE.STATE ≠ 1)
    ∧ (∃ (s : State) (path : Fin 6), s.writeOpen path 0x114 = true ∧ s.faults.windthrow = false ∧ s.rd
      CTL_PSTATE.STATE = 2)
    ∧ (∃ (s : State), s.rd CTL_PSTATE.STATE = 3)
    ∧ (∃ (s : State), s.rd CTL_PSTATE.STATE = 3)
    ∧ (∃ (s : State), s.rd CTL_PSTATE.STATE ≠ 3)
    ∧ (∃ (s : State) (path : Fin 6), (s.writeOpen path 0x114 = true ∧ s.faults.windthrow = false ∧ (s.rd
      CTL_PSTATE.STATE = 0 ∨ s.rd CTL_PSTATE.STATE = 2) ∧ s.rd STS_MGT_ROLE.ROLE = 0 ∧ s.flash.staging = none) ∧
      (∀ p, p < 64 → s.plotState p = plotUNBOUND))
    ∧ (∃ (s : State) (path : Fin 6) (e : Nat), (s.writeOpen path 0x114 = true ∧ s.faults.windthrow = false ∧
      (s.rd CTL_PSTATE.STATE = 0 ∨ s.rd CTL_PSTATE.STATE = 2)) ∧ ((e = 5 ∧ ∃ p, p < 64 ∧ s.plotState p ≠
      plotUNBOUND) ∨ ((∀ p, p < 64 → s.plotState p = plotUNBOUND) ∧ ((e = 3 ∧ s.rd STS_MGT_ROLE.ROLE ≠ 0) ∨ (e =
      4 ∧ s.rd STS_MGT_ROLE.ROLE = 0 ∧ s.flash.staging.isSome = true)))))
    ∧ (∃ (s : State), s.rd CTL_PSTATE.STATE = 4 ∧ s.glob.dormant = false)
    ∧ (∃ (s : State), (s.rd CTL_PSTATE.STATE ≠ 4 ∨ s.glob.dormant = true))
    ∧ (∃ (s : State), s.glob.poweredOn = true)
    ∧ (∃ (s : State) (ok : Bool), (ok = false ∨ s.glob.poweredOn = false))
    ∧ (∃ (s : State) (a : BitVec 32), s.sideband = true ∧ s.faults.windthrow = false ∧ a.toNat % 4 = 0)
    ∧ (∃ (s : State) (ok : Bool) (a : BitVec 32), (ok = false ∨ s.sideband = false ∨ s.faults.windthrow = true ∨
      a.toNat % 4 ≠ 0))
    ∧ (∃ (s : State), s.sideband = true ∧ sidebandBlock s.glob.smbAddr.toNat = true)
    ∧ (∃ (s : State), s.sideband = true ∧ sidebandBlock s.glob.smbAddr.toNat = false)
    ∧ (∃ (s : State) (ok : Bool), (ok = false ∨ s.sideband = false)) :=
  ⟨⟨put up [(PLOT_STS.STATE 0, plotUNBOUND)], 0, by decide +kernel⟩,
   ⟨put { up with sec := { booted := true, extension := true } } [(CTL_BRINGUP_STS.PHASE, 1)], 0,
    by decide +kernel⟩,
   ⟨put up [(CTL_PSTATE.STATE, 2)], 0, by decide +kernel⟩,
   ⟨up, 5, by decide +kernel⟩,
   ⟨put up [(CTL_PSTATE.STATE, 1)], by decide +kernel⟩,
   ⟨up, by decide +kernel⟩,
   ⟨put up [(CTL_PSTATE.STATE, 2)], 0, by decide +kernel⟩,
   ⟨put up [(CTL_PSTATE.STATE, 3)], by decide +kernel⟩,
   ⟨put up [(CTL_PSTATE.STATE, 3)], by decide +kernel⟩,
   ⟨up, by decide +kernel⟩,
   ⟨put up [(STS_MGT_ROLE.ROLE, 0), (PLOT_STS.STATE 0, plotUNBOUND)], 0, by decide +kernel, by decide +kernel⟩,
   ⟨up, 0, 5, by decide +kernel, .inl ⟨rfl, 0, by decide +kernel, by decide +kernel⟩⟩,
   ⟨put up [(CTL_PSTATE.STATE, 4)], by decide +kernel⟩,
   ⟨up, by decide +kernel⟩,
   ⟨{ up with glob := { poweredOn := true, perstLow := false, smbAddr := 0x10000 } }, by decide +kernel⟩,
   ⟨up, false, by decide +kernel⟩,
   ⟨{ up with glob := { poweredOn := true, perstLow := false, smbAddr := 0x10000 } }, 0, by decide +kernel⟩,
   ⟨up, false, 0, by decide +kernel⟩,
   ⟨{ up with glob := { poweredOn := true, perstLow := false, smbAddr := 0x100 } }, by decide +kernel⟩,
   ⟨{ up with glob := { poweredOn := true, perstLow := false, smbAddr := 0x10000 } }, by decide +kernel⟩,
   ⟨up, false, by decide +kernel⟩⟩

/-- States and operands that meet the hypotheses of `ImagesAreStaged`. -/
theorem witness_images_are_staged :
    (∃ (c : ImageCheck), c.measurement.length ≠ 32)
    ∧ (∃ (s : State) (path : Fin 6) (c : ImageCheck), s.fwOpen path = false ∧ c.measurement.length = 32)
    ∧ (∃ (s : State) (path : Fin 6) (c : ImageCheck), s.fwOpen path = true ∧ (s.rd SEC_CFG.STAGE_EN = 0 ∨
      s.flash.staging.isSome = true ∨ s.rd SEC_STS.TRIAL = 1 ∨ s.faults.windthrow = true ∨ (s.rd SEC_FW_LEN.LEN
      ≤ 24 * 2 ^ 20 ∧ s.fwPlot s.fwSource (s.rd SEC_FW_LEN.LEN) = false)) ∧ c.measurement.length = 32)
    ∧ (∃ (s : State) (path : Fin 6) (c : ImageCheck), s.fwOpen path = true ∧ s.rd SEC_CFG.STAGE_EN ≠ 0 ∧
      s.flash.staging = none ∧ s.rd SEC_STS.TRIAL ≠ 1 ∧ s.faults.windthrow = false ∧ 24 * 2 ^ 20 < s.rd
      SEC_FW_LEN.LEN ∧ c.measurement.length = 32)
    ∧ (∃ (s : State) (path : Fin 6) (c : ImageCheck), (s.rd CTL_PSTATE.STATE ≠ 0 ∧ c.measurement.length = 32) ∧
      s.stageTaken path)
    ∧ (∃ (s : State) (path : Fin 6) (c : ImageCheck) (r : Nat), (s.rd CTL_PSTATE.STATE = 0 ∧ s.fwVerdict
      (imageOf c (s.rd SEC_FW_LEN.LEN)) = some r ∧ c.measurement.length = 32) ∧ s.stageTaken path)
    ∧ (∃ (s : State) (path : Fin 6) (c : ImageCheck), (s.rd CTL_PSTATE.STATE = 0 ∧ s.inSystem = false ∧
      s.fwVerdict (imageOf c (s.rd SEC_FW_LEN.LEN)) = none ∧ c.measurement.length = 32) ∧ s.stageTaken path)
    ∧ (∃ (s : State) (path : Fin 6) (c : ImageCheck), (s.rd CTL_PSTATE.STATE = 0 ∧ s.inSystem = true ∧
      s.fwVerdict (imageOf c (s.rd SEC_FW_LEN.LEN)) = none ∧ c.measurement.length = 32) ∧ s.stageTaken path)
    ∧ (∃ (s : State) (g : Staging) (granted : Bool), (g.abort = false ∧ 1 < g.sectorsLeft) ∧ s.mayProgram g
      granted)
    ∧ (∃ (s : State) (g : Staging) (granted : Bool), (g.abort = false ∧ g.sectorsLeft ≤ 1) ∧ s.mayProgram g
      granted)
    ∧ (∃ (s : State) (g : Staging) (good : Bool) (granted : Bool), (good = false ∨ g.abort = true) ∧
      s.mayProgram g granted)
    ∧ (∃ (s : State) (g : Staging) (granted : Bool), s.flash.staging = some g ∧ s.flash.waits = false ∧
      s.sec.booted = true ∧ s.rd CTL_PSTATE.STATE = 0 ∧ s.fwVerdict g.image = none ∧ s.inSystem = true ∧
      ((s.isManager = false ∧ granted = false) ∨ (s.isManager = true ∧ (s.lockRequest stagingLock).hasLock
      stagingLock = false)))
    ∧ (∃ (s : State) (g : Staging) (r : Nat), s.flash.staging = some g ∧ s.flash.waits = false ∧ s.sec.booted =
      true ∧ s.rd CTL_PSTATE.STATE = 0 ∧ s.fwVerdict g.image = some r)
    ∧ (∃ (s : State), (s.flash.staging = none ∨ s.flash.waits = true ∨ s.sec.booted = false ∨ s.rd
      CTL_PSTATE.STATE ≠ 0))
    ∧ (∃ (s : State) (path : Fin 6), s.fwOpen path = true ∧ s.flash.staging = none)
    ∧ (∃ (s : State) (path : Fin 6) (g : Staging), s.fwOpen path = true ∧ s.flash.staging = some g ∧ s.rd
      SEC_FW_STS.STATE = 3)
    ∧ (∃ (s : State) (path : Fin 6) (g : Staging), s.fwOpen path = true ∧ s.flash.staging = some g ∧ s.rd
      SEC_FW_STS.STATE ≠ 3)
    ∧ (∃ (s : State) (path : Fin 6) (c : ImageCheck), (s.writeOpen path 0x400010 = false ∨ s.flash.waits = true)
      ∧ c.measurement.length = 32)
    ∧ (∃ (s : State) (path : Fin 6) (c : ImageCheck), s.writeOpen path 0x400010 = true ∧ s.flash.waits = false ∧
      (s.rd SEC_STS.RECOVERY = 0 ∨ s.faults.windthrow = true ∨ 24 * 2 ^ 20 < s.rd SEC_FW_LEN.LEN) ∧
      c.measurement.length = 32)
    ∧ (∃ (s : State) (path : Fin 6) (c : ImageCheck), s.writeOpen path 0x400010 = true ∧ s.flash.waits = false ∧
      s.rd SEC_STS.RECOVERY ≠ 0 ∧ s.faults.windthrow = false ∧ s.rd SEC_FW_LEN.LEN ≤ 24 * 2 ^ 20 ∧ 1 <
      (s.recoveryStaging (s.rd SEC_FW_LEN.LEN)).sectorsLeft ∧ c.measurement.length = 32)
    ∧ (∃ (s : State) (path : Fin 6) (c : ImageCheck), s.writeOpen path 0x400010 = true ∧ s.flash.waits = false ∧
      s.rd SEC_STS.RECOVERY ≠ 0 ∧ s.faults.windthrow = false ∧ s.rd SEC_FW_LEN.LEN ≤ 24 * 2 ^ 20 ∧
      (s.recoveryStaging (s.rd SEC_FW_LEN.LEN)).sectorsLeft ≤ 1 ∧ s.fwVerdict (imageOf c (s.rd SEC_FW_LEN.LEN))
      = none ∧ c.measurement.length = 32)
    ∧ (∃ (s : State) (path : Fin 6) (c : ImageCheck) (r : Nat), s.writeOpen path 0x400010 = true ∧ s.flash.waits
      = false ∧ s.rd SEC_STS.RECOVERY ≠ 0 ∧ s.faults.windthrow = false ∧ s.rd SEC_FW_LEN.LEN ≤ 24 * 2 ^ 20 ∧
      (s.recoveryStaging (s.rd SEC_FW_LEN.LEN)).sectorsLeft ≤ 1 ∧ s.fwVerdict (imageOf c (s.rd SEC_FW_LEN.LEN))
      = some r ∧ c.measurement.length = 32)
    ∧ (∃ (path : Fin 6) (image : ImageCheck), (Instr.stage path image).wellFormed = true)
    ∧ (∃ (path : Fin 6) (image : ImageCheck), (Instr.recoveryChunk path image).wellFormed = true) :=
  ⟨⟨{ chainOk := true, digestsOk := true, svn := 0, measurement := List.replicate 31 0 }, by decide +kernel⟩,
   ⟨up, 5, { chainOk := true, digestsOk := true, svn := 0, measurement := List.replicate 32 0 },
    by decide +kernel⟩,
   ⟨up, 0, { chainOk := true, digestsOk := true, svn := 0, measurement := List.replicate 32 0 },
    by decide +kernel⟩,
   ⟨put up
    [(SEC_CFG.STAGE_EN, 1), (SEC_FW_LEN.LEN, 24 * 2 ^ 20 + 1), (SEC_FW_SRC_LO.SRC_LO, 48), (STS_MGT_ROLE.ROLE, 0)],
    0, { chainOk := true, digestsOk := true, svn := 0, measurement := List.replicate 32 0 }, by decide +kernel⟩,
   ⟨put up
    [(SEC_CFG.STAGE_EN, 1), (SEC_FW_LEN.LEN, 4096), (SEC_FW_SRC_LO.SRC_LO, 48), (STS_MGT_ROLE.ROLE, 0), (CTL_PSTATE.STATE, 2)],
    0, { chainOk := true, digestsOk := true, svn := 0, measurement := List.replicate 32 0 }, by decide +kernel,
    by unfold State.stageTaken; decide +kernel⟩,
   ⟨put up [(SEC_CFG.STAGE_EN, 1), (SEC_FW_LEN.LEN, 4096), (SEC_FW_SRC_LO.SRC_LO, 48), (STS_MGT_ROLE.ROLE, 0)],
    0, { chainOk := true, digestsOk := false, svn := 0, measurement := List.replicate 32 0 }, 2,
    by decide +kernel, by unfold State.stageTaken; decide +kernel⟩,
   ⟨put up [(SEC_CFG.STAGE_EN, 1), (SEC_FW_LEN.LEN, 4096), (SEC_FW_SRC_LO.SRC_LO, 48), (STS_MGT_ROLE.ROLE, 0)],
    0, { chainOk := true, digestsOk := true, svn := 0, measurement := List.replicate 32 0 }, by decide +kernel,
    by unfold State.stageTaken; decide +kernel⟩,
   ⟨put up [(SEC_CFG.STAGE_EN, 1), (SEC_FW_LEN.LEN, 4096), (SEC_FW_SRC_LO.SRC_LO, 48), (STS_MGT_ROLE.ROLE, 1)],
    0, { chainOk := true, digestsOk := true, svn := 0, measurement := List.replicate 32 0 }, by decide +kernel,
    by unfold State.stageTaken; decide +kernel⟩,
   ⟨put
    { up with flash := { staging := some ({ slot := 1, image := { chainOk := true, digestsOk := true }, sectorsLeft := 5 }) } }
    [(STS_MGT_ROLE.ROLE, 0)], { slot := 1, image := { chainOk := true, digestsOk := true }, sectorsLeft := 5 },
    false, by decide +kernel, by unfold State.mayProgram; decide +kernel⟩,
   ⟨put
    { up with flash := { staging := some ({ slot := 1, image := { chainOk := true, digestsOk := true }, sectorsLeft := 1 }) } }
    [(STS_MGT_ROLE.ROLE, 0)], { slot := 1, image := { chainOk := true, digestsOk := true }, sectorsLeft := 1 },
    false, by decide +kernel, by unfold State.mayProgram; decide +kernel⟩,
   ⟨put
    { up with flash := { staging := some ({ slot := 1, image := { chainOk := true, digestsOk := true }, sectorsLeft := 5 }) } }
    [(STS_MGT_ROLE.ROLE, 0)], { slot := 1, image := { chainOk := true, digestsOk := true }, sectorsLeft := 5 },
    false, false, by decide +kernel, by unfold State.mayProgram; decide +kernel⟩,
   ⟨put
    { up with flash := { staging := some ({ slot := 1, image := { chainOk := true, digestsOk := true }, sectorsLeft := 5 }) } }
    [(STS_MGT_ROLE.ROLE, 1)], { slot := 1, image := { chainOk := true, digestsOk := true }, sectorsLeft := 5 },
    false, by decide +kernel⟩,
   ⟨put
    { up with flash := { staging := some ({ slot := 1, image := { chainOk := true, digestsOk := false }, sectorsLeft := 5 }) } }
    [(STS_MGT_ROLE.ROLE, 0)], { slot := 1, image := { chainOk := true, digestsOk := false }, sectorsLeft := 5 },
    2, by decide +kernel⟩,
   ⟨up, by decide +kernel⟩,
   ⟨up, 0, by decide +kernel⟩,
   ⟨put
    { up with flash := { staging := some ({ slot := 1, image := { chainOk := true, digestsOk := true }, sectorsLeft := 5 }) } }
    [(SEC_FW_STS.STATE, 3)], 0,
    { slot := 1, image := { chainOk := true, digestsOk := true }, sectorsLeft := 5 }, by decide +kernel⟩,
   ⟨put
    { up with flash := { staging := some ({ slot := 1, image := { chainOk := true, digestsOk := true }, sectorsLeft := 5 }) } }
    [(SEC_FW_STS.STATE, 1)], 0,
    { slot := 1, image := { chainOk := true, digestsOk := true }, sectorsLeft := 5 }, by decide +kernel⟩,
   ⟨up, 5, { chainOk := true, digestsOk := true, svn := 0, measurement := List.replicate 32 0 },
    by decide +kernel⟩,
   ⟨up, 0, { chainOk := true, digestsOk := true, svn := 0, measurement := List.replicate 32 0 },
    by decide +kernel⟩,
   ⟨put up [(SEC_STS.RECOVERY, 1), (SEC_FW_LEN.LEN, 200000)], 0,
    { chainOk := true, digestsOk := true, svn := 0, measurement := List.replicate 32 0 }, by decide +kernel⟩,
   ⟨put up [(SEC_STS.RECOVERY, 1), (SEC_FW_LEN.LEN, 4096)], 0,
    { chainOk := true, digestsOk := true, svn := 0, measurement := List.replicate 32 0 }, by decide +kernel⟩,
   ⟨put up [(SEC_STS.RECOVERY, 1), (SEC_FW_LEN.LEN, 4096)], 0,
    { chainOk := true, digestsOk := false, svn := 0, measurement := List.replicate 32 0 }, 2, by decide +kernel⟩,
   ⟨0, { chainOk := true, digestsOk := true, svn := 0, measurement := List.replicate 32 0 }, by decide +kernel⟩,
   ⟨0, { chainOk := true, digestsOk := true, svn := 0, measurement := List.replicate 32 0 }, by decide +kernel⟩⟩

/-- States and operands that meet the hypotheses of `TrialsAreConfirmedInTime`. -/
theorem witness_trials_are_confirmed_in_time :
    (∃ (s : State) (path : Fin 6), s.fwOpen path = true ∧ s.rd SEC_STS.TRIAL = 1 ∧ s.rd SEC_CFG.MANUAL_CONFIRM
      = 1 ∧ (s.flash.img s.runImage).svn ≤ 64)
    ∧ (∃ (s : State) (path : Fin 6), s.fwOpen path = true ∧ (s.rd SEC_STS.TRIAL ≠ 1 ∨ s.rd
      SEC_CFG.MANUAL_CONFIRM ≠ 1))
    ∧ (∃ (s : State) (path : Fin 6), s.fwOpen path = false)
    ∧ (∃ (s : State), s.sec.booted = true ∧ s.rd SEC_STS.TRIAL = 1 ∧ s.rd SEC_CFG.MANUAL_CONFIRM = 0 ∧ s.rd
      CTL_BRINGUP_STS.PHASE = 3 ∧ (s.flash.img s.runImage).svn ≤ 64)
    ∧ (∃ (s : State), (s.sec.booted = false ∨ s.rd SEC_STS.TRIAL ≠ 1 ∨ s.rd SEC_CFG.MANUAL_CONFIRM ≠ 0 ∨ s.rd
      CTL_BRINGUP_STS.PHASE ≠ 3))
    ∧ (∃ (s : State) (d : Nat), s.sec.trialDeadline = some d ∧ d ≤ s.now ∧ s.faults.windthrow = false ∧
      s.glob.dormant = false)
    ∧ (∃ (s : State), ((∀ d, s.sec.trialDeadline = some d → s.now < d) ∨ s.faults.windthrow = true ∨
      s.glob.dormant = true ∨ s.glob.warm = true)) :=
  ⟨⟨put up [(SEC_STS.TRIAL, 1), (SEC_CFG.MANUAL_CONFIRM, 1)], 0, by decide +kernel⟩,
   ⟨up, 0, by decide +kernel⟩,
   ⟨up, 5, by decide +kernel⟩,
   ⟨put up [(SEC_STS.TRIAL, 1)], by decide +kernel⟩,
   ⟨up, by decide +kernel⟩,
   ⟨{ up with sec := { booted := true, trialDeadline := some 5 } }, 5, by decide +kernel⟩,
   ⟨State.reset, by decide +kernel⟩⟩

/-- States and operands that meet the hypotheses of `IdentityCommandsAreAnswered`. -/
theorem witness_identity_commands_are_answered :
    (∃ (s : State) (r : BoxReq), 8192 < r.len ∧ s.boxWaits r)
    ∧ (∃ (s : State) (r : BoxReq), (r.len ≤ 8192 ∧ r.cmd = 1 ∧ s.keyRefused = false) ∧ s.boxWaits r)
    ∧ (∃ (s : State) (r : BoxReq), (r.len ≤ 8192 ∧ r.cmd = 1 ∧ s.keyRefused = true) ∧ s.boxWaits r)
    ∧ (∃ (s : State) (r : BoxReq), (r.len ≤ 8192 ∧ r.cmd = 2 ∧ (s.flash.root = none ∨ r.good = true)) ∧
      s.boxWaits r)
    ∧ (∃ (s : State) (r : BoxReq), (r.len ≤ 8192 ∧ r.cmd = 2 ∧ s.flash.root.isSome = true ∧ r.good = false) ∧
      s.boxWaits r)
    ∧ (∃ (s : State) (r : BoxReq), (r.len ≤ 8192 ∧ r.cmd = 3 ∧ s.flash.root.isSome = true ∧ r.good = true) ∧
      s.boxWaits r)
    ∧ (∃ (s : State) (r : BoxReq), (r.len ≤ 8192 ∧ r.cmd = 3 ∧ (s.flash.root = none ∨ r.good = false)) ∧
      s.boxWaits r)
    ∧ (∃ (s : State) (r : BoxReq), (r.len ≤ 8192 ∧ r.cmd = 4 ∧ s.sec.lifecycle = 3) ∧ s.boxWaits r)
    ∧ (∃ (s : State) (r : BoxReq), (r.len ≤ 8192 ∧ r.cmd = 4 ∧ s.sec.lifecycle ≠ 3) ∧ s.boxWaits r)
    ∧ (∃ (s : State) (r : BoxReq) (n : List Byte), (r.len ≤ 8192 ∧ r.cmd = 5 ∧ s.sec.nonce = some n ∧ n.length =
      32) ∧ s.boxWaits r)
    ∧ (∃ (s : State) (r : BoxReq), (r.len ≤ 8192 ∧ r.cmd = 5 ∧ s.sec.nonce = none) ∧ s.boxWaits r)
    ∧ (∃ (s : State) (r : BoxReq), (r.len ≤ 8192 ∧ r.cmd = 6 ∧ r.good = true ∧ s.sec.nonce.isSome = true) ∧
      s.boxWaits r)
    ∧ (∃ (s : State) (r : BoxReq), (r.len ≤ 8192 ∧ r.cmd = 6 ∧ (r.good = false ∨ s.sec.nonce = none)) ∧
      s.boxWaits r)
    ∧ (∃ (s : State) (r : BoxReq) (c : List Byte), (r.len = 1 ∧ r.cmd = 7 ∧ c ≠ [] ∧ ((s.boxBytes 1 = [0] ∧
      s.flash.manufChain = c) ∨ (s.boxBytes 1 = [1] ∧ s.flash.instChain = c))) ∧ s.boxWaits r)
    ∧ (∃ (s : State) (r : BoxReq), (r.len ≤ 8192 ∧ r.cmd = 7) ∧ s.boxWaits r ∧ (r.len ≠ 1 ∨ (∃ x, s.boxBytes 1 =
      [x] ∧ 1 < x.toNat) ∨ (s.boxBytes 1 = [0] ∧ s.flash.manufChain = []) ∨ (s.boxBytes 1 = [1] ∧
      s.flash.instChain = [])))
    ∧ (∃ (s : State) (path : Fin 6), s.writeOpen path 0x400038 = true ∧ s.sec.booted = true)
    ∧ (∃ (s : State) (path : Fin 6), (s.writeOpen path 0x400038 = false ∨ s.sec.booted = false)) :=
  ⟨⟨{ up with sec := { booted := true, box := some ({ cmd := 1, len := 8193, good := false }) } },
    { cmd := 1, len := 8193, good := false }, by decide +kernel, by unfold State.boxWaits; decide +kernel⟩,
   ⟨{ up with sec := { booted := true, box := some ({ cmd := 1, len := 0, good := false }) } },
    { cmd := 1, len := 0, good := false }, by decide +kernel, by unfold State.boxWaits; decide +kernel⟩,
   ⟨{ up with sec := { booted := true, box := some ({ cmd := 1, len := 0, good := false }), identityRefused := true } },
    { cmd := 1, len := 0, good := false }, by decide +kernel, by unfold State.boxWaits; decide +kernel⟩,
   ⟨{ up with sec := { booted := true, box := some ({ cmd := 2, len := 0, good := false }) } },
    { cmd := 2, len := 0, good := false }, by decide +kernel, by unfold State.boxWaits; decide +kernel⟩,
   ⟨{ up with sec := { booted := true, box := some ({ cmd := 2, len := 0, good := false }) }, flash := { root := some [] } },
    { cmd := 2, len := 0, good := false }, by decide +kernel, by unfold State.boxWaits; decide +kernel⟩,
   ⟨{ up with sec := { booted := true, box := some ({ cmd := 3, len := 0, good := true }) }, flash := { root := some [] } },
    { cmd := 3, len := 0, good := true }, by decide +kernel, by unfold State.boxWaits; decide +kernel⟩,
   ⟨{ up with sec := { booted := true, box := some ({ cmd := 3, len := 0, good := false }) }, flash := { root := some [] } },
    { cmd := 3, len := 0, good := false }, by decide +kernel, by unfold State.boxWaits; decide +kernel⟩,
   ⟨{ up with sec := { booted := true, box := some ({ cmd := 4, len := 0, good := false }), lifecycle := 3 } },
    { cmd := 4, len := 0, good := false }, by decide +kernel, by unfold State.boxWaits; decide +kernel⟩,
   ⟨{ up with sec := { booted := true, box := some ({ cmd := 4, len := 0, good := false }), lifecycle := 1 } },
    { cmd := 4, len := 0, good := false }, by decide +kernel, by unfold State.boxWaits; decide +kernel⟩,
   ⟨{ up with sec := { booted := true, box := some ({ cmd := 5, len := 0, good := false }), nonce := some (List.replicate 32 0) } },
    { cmd := 5, len := 0, good := false }, List.replicate 32 0, by decide +kernel,
    by unfold State.boxWaits; decide +kernel⟩,
   ⟨{ up with sec := { booted := true, box := some ({ cmd := 5, len := 0, good := false }) } },
    { cmd := 5, len := 0, good := false }, by decide +kernel, by unfold State.boxWaits; decide +kernel⟩,
   ⟨{ up with sec := { booted := true, box := some ({ cmd := 6, len := 0, good := true }), nonce := some (List.replicate 32 0) } },
    { cmd := 6, len := 0, good := true }, by decide +kernel, by unfold State.boxWaits; decide +kernel⟩,
   ⟨{ up with sec := { booted := true, box := some ({ cmd := 6, len := 0, good := false }) } },
    { cmd := 6, len := 0, good := false }, by decide +kernel, by unfold State.boxWaits; decide +kernel⟩,
   ⟨{ up with sec := { booted := true, box := some ({ cmd := 7, len := 1, good := false }) }, flash := { manufChain := ([1]) } },
    { cmd := 7, len := 1, good := false }, [1], by decide +kernel, by unfold State.boxWaits; decide +kernel⟩,
   ⟨{ up with sec := { booted := true, box := some ({ cmd := 7, len := 0, good := false }) } },
    { cmd := 7, len := 0, good := false }, by decide +kernel, by unfold State.boxWaits; decide +kernel, .inl
    (by decide +kernel)⟩,
   ⟨{ up with sec := { booted := true, identityRefused := true } }, 0, by decide +kernel⟩,
   ⟨up, 5, by decide +kernel⟩⟩

/-- States and operands that meet the hypotheses of `EnvelopeAndGatingHold`. -/
theorem witness_envelope_and_gating_hold :
    (∃ (s : State) (since : Nat), since + 10 * perMs ≤ s.now)
    ∧ (∃ (s : State) (since : Nat), s.now < since + 10 * perMs)
    ∧ (∃ (s : State) (since : Nat), since + 16 ≤ s.now)
    ∧ (∃ (s : State) (since : Nat), s.now < since + 16)
    ∧ (∃ (s : State) (since : Nat), since + 50 * perUs ≤ s.now)
    ∧ (∃ (s : State) (since : Nat), s.now < since + 50 * perUs)
    ∧ (∃ (s : State) (power : Nat), s.power.gateAt + 16 ≤ s.now ∧ 1000 * s.envelope < power)
    ∧ (∃ (s : State) (power : Nat), s.power.gateAt + 16 ≤ s.now ∧ 100 * power ≤ 97 * (1000 * s.envelope))
    ∧ (∃ (s : State) (power : Nat), s.power.gateAt + 16 ≤ s.now ∧ power ≤ 1000 * s.envelope ∧ 97 * (1000 *
      s.envelope) < 100 * power)
    ∧ (∃ (s : State), s.now < s.power.gateAt + 16) :=
  ⟨⟨up, 0, by decide +kernel⟩,
   ⟨up, up.now, by decide +kernel⟩,
   ⟨up, 0, by decide +kernel⟩,
   ⟨up, up.now, by decide +kernel⟩,
   ⟨up, 0, by decide +kernel⟩,
   ⟨up, up.now, by decide +kernel⟩,
   ⟨up, 2000000, by decide +kernel⟩,
   ⟨up, 0, by decide +kernel⟩,
   ⟨up, 1000 * up.envelope, by decide +kernel⟩,
   ⟨{ up with power := { gateAt := up.now } }, by decide +kernel⟩⟩

/-- States and operands that meet the hypotheses of `TheFollowerSetsSupplies`. -/
theorem witness_the_follower_sets_supplies :
    (∃ (compute : List Nat), compute.length ≠ 16)
    ∧ (∃ (s : State) (compute : List Nat), compute.length = 16 ∧ s.now < s.power.controlAt + 128)
    ∧ (∃ (s : State) (compute : List Nat), s.power.hold = false ∧ (∀ d ∈ s.supplied, s.rd (STS_GD_POWER.VOLT_MV
      d) = (s.die d).targetMv) ∧ compute.length = 16 ∧ s.power.controlAt + 128 ≤ s.now)
    ∧ (∃ (s : State) (compute : List Nat) (d : Nat), s.power.hold = false ∧ d ∈ s.supplied ∧ s.rd
      (STS_GD_POWER.VOLT_MV d) ≠ (s.die d).targetMv ∧ compute.length = 16 ∧ s.power.controlAt + 128 ≤ s.now)
    ∧ (∃ (s : State) (compute : List Nat), s.power.hold = true ∧ compute.length = 16 ∧ s.power.controlAt + 128 ≤
      s.now)
    ∧ (∃ (s : State) (compute : List Nat) (d : Nat), (s.die d).throttle = true ∧ compute.length = 16)
    ∧ (∃ (s : State) (gd : Fin 16), (s.die gd).supplyOn = true ∧ (s.die gd).droop = false)
    ∧ (∃ (s : State) (gd : Fin 16) (since : Nat), (s.die gd).droop = true ∧ since + 16 ≤ s.now)
    ∧ (∃ (s : State) (gd : Fin 16) (since : Nat), ((s.die gd).droop = false ∨ s.now < since + 16))
    ∧ (∃ (s : State) (gd : Fin 16), (s.die gd).supplyOn = true ∧ (s.die gd).brownout = none)
    ∧ (∃ (s : State) (gd : Fin 16) (b : Nat), (s.die gd).brownout = some b ∧ s.now < b + perMs)
    ∧ (∃ (s : State) (gd : Fin 16) (b : Nat), (s.die gd).brownout = some b ∧ b + perMs ≤ s.now)
    ∧ (∃ (s : State) (gd : Fin 16), (∀ b, (s.die gd).brownout = some b → b + perMs ≤ s.now))
    ∧ (∃ (s : State) (gd : Fin 16), (∀ b, (s.die gd).brownout = some b → s.now < b + perMs))
    ∧ (∃ (power : Nat) (compute : List Nat), (Instr.controlInterval power compute).wellFormed = true) :=
  ⟨⟨[], by decide +kernel⟩,
   ⟨{ up with power := { controlAt := up.now } }, List.replicate 16 0, by decide +kernel⟩,
   ⟨put { up with power := { dies := [(0, { supplyOn := true, targetMv := 450 })] } }
    [(STS_GD_POWER.VOLT_MV 0, 450)], List.replicate 16 0, by decide +kernel⟩,
   ⟨put up [(STS_GD_POWER.VOLT_MV 0, 400)], List.replicate 16 0, 0, by decide +kernel⟩,
   ⟨{ up with power := { hold := true } }, List.replicate 16 0, by decide +kernel⟩,
   ⟨{ up with power := { dies := [(0, { throttle := true })] } }, List.replicate 16 0, 0, by decide +kernel⟩,
   ⟨up, 0, by decide +kernel⟩,
   ⟨{ up with power := { dies := [(0, { droop := true })] } }, 0, 0, by decide +kernel⟩,
   ⟨{ up with power := { dies := [(0, { brownout := some up.now })] } }, 0, 0, by decide +kernel⟩,
   ⟨up, 0, by decide +kernel⟩,
   ⟨{ up with power := { dies := [(0, { brownout := some up.now })] } }, 0, up.now, by decide +kernel⟩,
   ⟨{ up with power := { dies := [(0, { brownout := some (0) })] } }, 0, 0, by decide +kernel⟩,
   ⟨{ up with power := { dies := [(0, { brownout := some (0) })] } }, 0, by decide +kernel⟩,
   ⟨{ up with power := { dies := [(0, { brownout := some up.now })] } }, 0, by decide +kernel⟩,
   ⟨0, List.replicate 16 0, by decide +kernel⟩⟩

/-- States and operands that meet the hypotheses of `EnergyIsAttributed`. -/
theorem witness_energy_is_attributed :
    (∃ (s : State) (grove : List Nat) (hbm : List Nat) (verge : List Nat), s.power.energyMode = 0 ∧
      s.power.attribAt + 1024 ≤ s.now ∧ grove.length = 16 ∧ hbm.length = 4 ∧ verge.length = 8)
    ∧ (∃ (s : State) (grove : List Nat) (hbm : List Nat) (verge : List Nat), s.power.energyMode ≠ 0 ∧
      s.power.attribAt + 1024 ≤ s.now ∧ grove.length = 16 ∧ hbm.length = 4 ∧ verge.length = 8)
    ∧ (∃ (s : State) (grove : List Nat) (hbm : List Nat) (verge : List Nat), s.power.attribAt + 1024 ≤ s.now ∧
      grove.length = 16 ∧ hbm.length = 4 ∧ verge.length = 8)
    ∧ (∃ (s : State) (grove : List Nat) (hbm : List Nat) (verge : List Nat), s.now < s.power.attribAt + 1024 ∧
      grove.length = 16 ∧ hbm.length = 4 ∧ verge.length = 8)
    ∧ (∃ (grove : List Nat) (hbm : List Nat) (verge : List Nat), (grove.length ≠ 16 ∨ hbm.length ≠ 4 ∨
      verge.length ≠ 8))
    ∧ (∃ (grove : List Nat) (hbm : List Nat) (verge : List Nat) (rest : Nat), (Instr.attributionInterval grove
      hbm verge rest).wellFormed = true) :=
  ⟨⟨up, List.replicate 16 0, List.replicate 4 0, List.replicate 8 0, by decide +kernel⟩,
   ⟨{ up with power := { energyMode := 1 } }, List.replicate 16 0, List.replicate 4 0, List.replicate 8 0,
    by decide +kernel⟩,
   ⟨{ up with power := { energyMode := 1 } }, List.replicate 16 0, List.replicate 4 0, List.replicate 8 0,
    by decide +kernel⟩,
   ⟨{ up with power := { attribAt := up.now } }, List.replicate 16 0, List.replicate 4 0, List.replicate 8 0,
    by decide +kernel⟩,
   ⟨[], [], [], by decide +kernel⟩,
   ⟨List.replicate 16 0, List.replicate 4 0, List.replicate 8 0, 0, by decide +kernel⟩⟩

/-- States and operands that meet the hypotheses of `TemperaturesActAtTheirLimits`. -/
theorem witness_temperatures_act_at_their_limits :
    (∃ (l : List (BitVec 8)), l.length ≠ 74)
    ∧ (∃ (s : State) (l : List (BitVec 8)), l.length = 74 ∧ s.now < s.power.tempAt + 1024)
    ∧ (∃ (s : State) (l : List (BitVec 8)) (d : Nat), l.length = 74 ∧ d < 25 ∧ s.power.tempAt + 1024 ≤ s.now)
    ∧ (∃ (s : State) (l : List (BitVec 8)) (d : Nat), l.length = 74 ∧ d < 16 ∧ s.power.tempAt + 1024 ≤ s.now ∧
      s.rd PWR_THERM_CFG.THROTTLE_C ≤ junction d l)
    ∧ (∃ (s : State) (l : List (BitVec 8)) (d : Nat), l.length = 74 ∧ d < 16 ∧ s.power.tempAt + 1024 ≤ s.now ∧
      junction d l < s.rd PWR_THERM_CFG.THROTTLE_C)
    ∧ (∃ (s : State) (l : List (BitVec 8)) (d : Nat), l.length = 74 ∧ d < 25 ∧ s.power.tempAt + 1024 ≤ s.now ∧
      (s.die d).started = true ∧ (s.die d).dirUp = true ∧ (junction d l : Int) + 5 ≤ (s.die d).ext ∧ 20 <
      ((s.die d).ext - (s.die d).tp).natAbs)
    ∧ (∃ (s : State), s.faults.windthrow = false)
    ∧ (∃ (s : State) (n : Fin 16), s.now < (s.stack n).tempAt + perMs)
    ∧ (∃ (s : State) (n : Fin 16) (c : BitVec 8), (s.stack n).tempAt + perMs ≤ s.now ∧ 95 ≤ c.toNat ∧ (s.stack
      n).halved = false)
    ∧ (∃ (s : State) (n : Fin 16) (c : BitVec 8), (s.stack n).tempAt + perMs ≤ s.now ∧ (c.toNat < 95 ∨ (s.stack
      n).halved = true))
    ∧ (∃ (sensors : List (BitVec 8)), (Instr.temperatureRead sensors).wellFormed = true) :=
  ⟨⟨[], by decide +kernel⟩,
   ⟨{ up with power := { tempAt := up.now } }, List.replicate 74 0, by decide +kernel⟩,
   ⟨up, List.replicate 74 0, 0, by decide +kernel⟩,
   ⟨up, List.replicate 74 110, 0, by decide +kernel⟩,
   ⟨up, List.replicate 74 30, 0, by decide +kernel⟩,
   ⟨{ up with power := { dies := [(0, { started := true, dirUp := true, ext := 50, tp := 10 })] } },
    List.replicate 74 10, 0, by decide +kernel⟩,
   ⟨up, by decide +kernel⟩,
   ⟨up.modStack 0 (fun k => { k with tempAt := up.now }), 0, by decide +kernel⟩,
   ⟨up, 0, 95, by decide +kernel⟩,
   ⟨up, 0, 90, by decide +kernel⟩,
   ⟨List.replicate 74 0, by decide +kernel⟩⟩

/-- States and operands that meet the hypotheses of `CoolantStopsAndReturns`. -/
theorem witness_coolant_stops_and_returns :
    (∃ (s : State), s.rd PWR_COOL_CFG.DP_NOM ≠ 0 ∧ s.power.coolAt + perMs ≤ s.now)
    ∧ (∃ (s : State), s.power.coolAt + perMs ≤ s.now)
    ∧ (∃ (s : State), s.power.coolAt + perMs ≤ s.now)
    ∧ (∃ (s : State), s.now < s.power.coolAt + perMs)
    ∧ (∃ (s : State) (e : Nat), e + s.rd PWR_COOL_CFG.TACH_LOSS_MS * perMs ≤ s.now ∧ s.power.hold = false ∧ s.rd
      CTL_PSTATE.STATE = 0)
    ∧ (∃ (s : State) (e : Nat), e + s.rd PWR_COOL_CFG.TACH_LOSS_MS * perMs ≤ s.now ∧ (s.power.hold = true ∨ s.rd
      CTL_PSTATE.STATE ≠ 0))
    ∧ (∃ (s : State) (e : Nat), s.now < e + s.rd PWR_COOL_CFG.TACH_LOSS_MS * perMs)
    ∧ (∃ (s : State), (20 ≤ s.power.lowFlow ∨ 20 ≤ s.power.badReads ∨ 60 < s.rd PWR_COOL_STS.INLET_C) ∧
      s.power.hold = false ∧ s.rd CTL_PSTATE.STATE = 0)
    ∧ (∃ (s : State), ((s.power.lowFlow < 20 ∧ s.power.badReads < 20 ∧ s.rd PWR_COOL_STS.INLET_C ≤ 60) ∨
      s.power.hold = true ∨ s.rd CTL_PSTATE.STATE ≠ 0))
    ∧ (∃ (s : State), s.power.hold = true ∧ s.power.holdAt.isSome = true ∧ 50 ≤ s.power.goodFlow ∧ 30 ≤ s.rd
      PWR_COOL_STS.FLOW_PCT ∧ s.rd PWR_COOL_STS.TACH_OK = 1 ∧ s.rd PWR_COOL_STS.INLET_C ≤ 60)
    ∧ (∃ (s : State), (s.power.hold = false ∨ s.power.holdAt = none ∨ s.power.goodFlow < 50 ∨ s.rd
      PWR_COOL_STS.FLOW_PCT < 30 ∨ s.rd PWR_COOL_STS.TACH_OK ≠ 1 ∨ 60 < s.rd PWR_COOL_STS.INLET_C))
    ∧ (∃ (s : State) (h : Nat), s.power.holdAt = some h ∧ h + 200 * perMs ≤ s.now)
    ∧ (∃ (s : State), (∀ h, s.power.holdAt = some h → s.now < h + 200 * perMs))
    ∧ (∃ (s : State), s.power.hold = true ∧ s.power.holdAt = none ∧ s.rd CTL_PSTATE.STATE = 0 ∧ (∀ e ∈
      s.faults.events, e.die ≠ 24 ∨ e.bit ≠ 24) ∧ (∀ p ∈ s.boundPlots, s.plotState p ≠ plotRESETTING))
    ∧ (∃ (s : State), (s.power.hold = false ∨ s.power.holdAt.isSome = true ∨ s.rd CTL_PSTATE.STATE ≠ 0 ∨ (∃ e ∈
      s.faults.events, e.die = 24 ∧ e.bit = 24) ∨ (∃ p ∈ s.boundPlots, s.plotState p = plotRESETTING))) :=
  ⟨⟨put up [(PWR_COOL_CFG.DP_NOM, 1)], by decide +kernel⟩,
   ⟨put up [(PWR_COOL_CFG.DP_NOM, 1)], by decide +kernel⟩,
   ⟨put up [(PWR_COOL_CFG.DP_NOM, 1)], by decide +kernel⟩,
   ⟨{ up with power := { coolAt := up.now } }, by decide +kernel⟩,
   ⟨{ up with power := { lowFlow := 20 } }, 0, by decide +kernel⟩,
   ⟨put up [(CTL_PSTATE.STATE, 2)], 0, by decide +kernel⟩,
   ⟨up, up.now, by decide +kernel⟩,
   ⟨{ up with power := { lowFlow := 20 } }, by decide +kernel⟩,
   ⟨up, by decide +kernel⟩,
   ⟨put { up with power := { hold := true, holdAt := some 0, goodFlow := 50 } }
    [(PWR_COOL_STS.FLOW_PCT, 30), (PWR_COOL_STS.TACH_OK, 1)], by decide +kernel⟩,
   ⟨put { up with power := { hold := true, holdAt := some 0 } }
    [(PWR_COOL_STS.FLOW_PCT, 30), (PWR_COOL_STS.TACH_OK, 1)], by decide +kernel⟩,
   ⟨{ up with power := { hold := true, holdAt := some 0 } }, 0, by decide +kernel⟩,
   ⟨{ up with power := { hold := true, holdAt := some up.now } }, by decide +kernel⟩,
   ⟨{ up with power := { hold := true } }, by decide +kernel⟩,
   ⟨up, .inl (by decide +kernel)⟩⟩

/-- States and operands that meet the hypotheses of `FaultWordsLatchTravelAndClear`. -/
theorem witness_fault_words_latch_travel_and_clear :
    (∃ (s : State) (die : Fin 25) (b : Fin 64), s.faults.started = true ∧ (die.val < 16 → b.val ≠ 22 →
      s.brownedOut die = false) ∧ faultClasses die b ≠ [])
    ∧ (∃ (s : State) (die : Fin 25) (b : Fin 64), s.faults.started = true ∧ (die.val < 16 → b.val ≠ 22 →
      s.brownedOut die = false) ∧ faultClasses die b ≠ [] ∧ topClass die b < 4 ∧ adderPort die b = none ∧ (16 ≤
      die.val → die.val < 24 → b.val ≠ 32))
    ∧ (∃ (s : State) (die : Fin 25) (b : Fin 64) (p : Nat), s.faults.started = true ∧ adderPort die b = some p)
    ∧ (∃ (s : State) (die : Fin 25) (u : BitVec 8), s.faults.started = true ∧ 16 ≤ die.val ∧ die.val < 24 ∧
      u.toNat < 24 ∧ dieOfPort u.toNat = die.val ∧ (s.portState u.toNat = portUP ∨ s.portState u.toNat =
      portLPI))
    ∧ (∃ (s : State) (die : Fin 25) (b : Fin 64), (s.faults.started = false ∨ faultClasses die b = [] ∨ (die.val
      < 16 ∧ b.val ≠ 22 ∧ s.brownedOut die = true)))
    ∧ (∃ (s : State) (die : Fin 25) (b : Fin 64), s.faults.started = true ∧ (die.val < 16 → s.brownedOut die =
      false) ∧ topClass die b = 4 ∧ s.faults.windthrow = false)
    ∧ (∃ (s : State) (die : Fin 24), s.faults.started = true ∧ (die.val ∈ s.faults.onWay ∨ s.faultWord die &&&
      ~~~(Tab.val s.faults.atClearing die) ≠ 0))
    ∧ (∃ (s : State) (die : Fin 24), (s.faults.started = false ∨ (die.val ∉ s.faults.onWay ∧ s.faultWord die &&&
      ~~~(Tab.val s.faults.atClearing die) = 0)))
    ∧ (∃ (s : State) (path : Fin 6) (v : BitVec 32), s.writeOpen path 0x40040 = true ∧ s.sec.lifecycle = 1 ∧ bit
      v.toNat 31 = true ∧ bits v.toNat 28 24 ≤ 24 ∧ faultClasses (bits v.toNat 28 24) (bits v.toNat 21 16) ≠ [])
    ∧ (∃ (s : State) (path : Fin 6) (v : BitVec 32), (s.writeOpen path 0x40040 = false ∨ s.sec.lifecycle ≠ 1 ∨
      bit v.toNat 31 = false ∨ 24 < bits v.toNat 28 24 ∨ faultClasses (bits v.toNat 28 24) (bits v.toNat 21 16)
      = []))
    ∧ (∃ (s : State) (path : Fin 6) (die : Fin 25) (q : BitVec 8), s.writeOpen path (0x40108 + 0x20 * die) =
      true ∧ q.toNat = s.rd (FLT_SEQ.SEQ die))
    ∧ (∃ (s : State) (path : Fin 6) (die : Fin 25) (q : BitVec 8), (s.writeOpen path (0x40108 + 0x20 * die) =
      false ∨ q.toNat ≠ s.rd (FLT_SEQ.SEQ die))) :=
  ⟨⟨up, 0, 27, by decide +kernel⟩,
   ⟨up, 0, 27, by decide +kernel⟩,
   ⟨up, 16, 7, 0, by decide +kernel⟩,
   ⟨up, 16, 0, by decide +kernel⟩,
   ⟨State.reset, 0, 0, by decide +kernel⟩,
   ⟨up, 24, 21, by decide +kernel⟩,
   ⟨{ up with faults := { started := true, onWay := [0] } }, 0, by decide +kernel⟩,
   ⟨State.reset, 0, by decide +kernel⟩,
   ⟨{ up with sec := { booted := true, lifecycle := 1 } }, 0, 0x80000000, by decide +kernel⟩,
   ⟨up, 5, 0, by decide +kernel⟩,
   ⟨up, 0, 0, 0, by decide +kernel⟩,
   ⟨up, 0, 0, 5, by decide +kernel⟩⟩

/-- States and operands that meet the hypotheses of `ClassesAreDecidedAndLogged`. -/
theorem witness_classes_are_decided_and_logged :
    (∃ (s : State) (pos : Nat) (cls : Fin 5) (e : Event), s.faults.events[pos]? = some e ∧ s.sec.booted = true
      ∧ s.mayDecide e cls = true ∧ cls.val ≤ 1)
    ∧ (∃ (s : State) (pos : Nat) (e : Event), s.faults.events[pos]? = some e ∧ s.sec.booted = true ∧ s.mayDecide
      e 2 = true ∧ s.faults.windthrow = false)
    ∧ (∃ (s : State) (pos : Nat) (e : Event), s.faults.events[pos]? = some e ∧ s.sec.booted = true ∧ s.mayDecide
      e 3 = true ∧ s.faults.windthrow = false)
    ∧ (∃ (s : State) (pos : Nat) (cls : Fin 5) (e : Event), s.faults.events[pos]? = some e ∧ s.sec.booted = true
      ∧ s.mayDecide e cls = true ∧ (cls.val = 4 ∨ (2 ≤ cls.val ∧ s.faults.windthrow = true)))
    ∧ (∃ (s : State) (pos : Nat) (cls : Fin 5), (s.sec.booted = false ∨ (∀ e, s.faults.events[pos]? = some e →
      s.mayDecide e cls = false)))
    ∧ (∃ (s : State) (e : Event) (cls : Nat), s.mayDecide e cls = true ∧ e.waits ≠ [])
    ∧ (∃ (s : State) (die : Fin 24), s.faults.started = true ∧ s.rdBit FLT_SILENT.SILENT die = false ∧ Tab.val
      s.faults.lastWord die + 12288 ≤ s.now)
    ∧ (∃ (s : State) (die : Fin 24), (s.faults.started = false ∨ s.rdBit FLT_SILENT.SILENT die = true ∨ s.now <
      Tab.val s.faults.lastWord die + 12288))
    ∧ (∃ (s : State) (path : Fin 6), s.writeOpen path 0x40050 = true)
    ∧ (∃ (s : State) (path : Fin 6), s.writeOpen path 0x40050 = false)
    ∧ (∃ (s : State), s.faults.logFetch = none)
    ∧ (∃ (s : State) (n : Nat), s.faults.logFetch = some n) :=
  ⟨⟨{ up with faults := { started := true, events := [({ die := 24, bit := 0 })] } }, 0, 0,
    { die := 24, bit := 0 }, by decide +kernel⟩,
   ⟨{ up with faults := { started := true, events := [({ die := 24, bit := 2 })] } }, 0,
    { die := 24, bit := 2 }, by decide +kernel⟩,
   ⟨{ up with faults := { started := true, events := [({ die := 24, bit := 3 })] } }, 0,
    { die := 24, bit := 3 }, by decide +kernel⟩,
   ⟨{ up with faults := { started := true, events := [({ die := 24, bit := 2 })], windthrow := true } }, 0, 2,
    { die := 24, bit := 2 }, by decide +kernel⟩,
   ⟨{ up with faults := { started := true, events := [({ die := 24, bit := 0 })] } }, 0, 4, by decide +kernel⟩,
   ⟨up, { die := 0, bit := 14, waits := [(0, 5)] }, 1, by decide +kernel⟩,
   ⟨up, 0, by decide +kernel⟩,
   ⟨State.reset, 0, by decide +kernel⟩,
   ⟨{ up with faults := { started := true, logFetch := some 0 } }, 0, by decide +kernel⟩,
   ⟨up, 5, by decide +kernel⟩,
   ⟨up, by decide +kernel⟩,
   ⟨{ up with faults := { started := true, logFetch := some 0 } }, 0, by decide +kernel⟩⟩

/-- States and operands that meet the hypotheses of `EnginesAndTransfersTimeOut`. -/
theorem witness_engines_and_transfers_time_out :
    (∃ (s : State) (gd : Fin 16) (since : Nat), s.groveUp gd = true ∧ s.brownedOut gd = false ∧ since + s.rd
      FLT_TMO_ENGINE.MS * perMs ≤ s.now)
    ∧ (∃ (s : State) (gd : Fin 16) (m : Fin 9) (since : Nat) (r : Nat) (i : Nat) (k : Nat) (j : MatJob) (tl :
      Tile) (e : Entry), s.groveUp gd = true ∧ s.brownedOut gd = false ∧ since + s.rd FLT_TMO_ENGINE.MS * perMs
      ≤ s.now ∧ m.val < 3 ∧ s.tileOn (3 * gd + m) = some (r, i, k, j, tl, e) ∧ (s.engine gd m).replaying = true
      ∧ e.stage < 3)
    ∧ (∃ (s : State) (gd : Fin 16) (m : Fin 9) (since : Nat) (r : Nat) (i : Nat) (k : Nat) (j : MatJob) (tl :
      Tile) (e : Entry), s.groveUp gd = true ∧ s.brownedOut gd = false ∧ since + s.rd FLT_TMO_ENGINE.MS * perMs
      ≤ s.now ∧ m.val < 3 ∧ s.tileOn (3 * gd + m) = some (r, i, k, j, tl, e) ∧ (s.engine gd m).replaying = false
      ∧ tl.demand = none ∧ tl.granted = none)
    ∧ (∃ (s : State) (gd : Fin 16) (c : Fin 28) (since : Nat) (r : Nat) (i : Nat) (x : Entry), s.groveUp gd =
      true ∧ s.brownedOut gd = false ∧ since + s.rd FLT_TMO_ENGINE.MS * perMs ≤ s.now ∧ (s.core (c.val + 4)).job
      = some (r, i) ∧ s.entry r i = some x ∧ x.stage < 3)
    ∧ (∃ (s : State) (gd : Fin 16) (c : Fin 28) (since : Nat), s.groveUp gd = true ∧ s.brownedOut gd = false ∧
      since + s.rd FLT_TMO_ENGINE.MS * perMs ≤ s.now ∧ (s.core (c.val + 4)).job = none)
    ∧ (∃ (s : State) (gd : Fin 16) (since : Nat), (s.groveUp gd = false ∨ s.brownedOut gd = true ∨ s.now < since
      + s.rd FLT_TMO_ENGINE.MS * perMs))
    ∧ (∃ (s : State) (k : Fin 8192), (∀ u, s.tags.used.find? (fun u => decide (u.tag = k.val)) = some u → u.kind
      = 3 ∨ s.now < u.deadline ∨ s.tagHeld u = true))
    ∧ (∃ (s : State) (k : Fin 8192) (u : TagUse), s.tags.used.find? (fun u => decide (u.tag = k.val)) = some u ∧
      u.kind ≠ 3 ∧ u.deadline ≤ s.now ∧ s.tagHeld u = false ∧ u.peer = none)
    ∧ (∃ (s : State) (k : Fin 8192) (u : TagUse) (node : Nat), s.tags.used.find? (fun u => decide (u.tag =
      k.val)) = some u ∧ u.peer = some node ∧ u.kind ≠ 2 ∧ u.kind ≠ 3 ∧ u.deadline ≤ s.now ∧ s.tagHeld u = false
      ∧ (s.link u.port node).unacked = 0)
    ∧ (∃ (s : State) (k : Fin 8192) (u : TagUse) (node : Nat), s.tags.used.find? (fun u => decide (u.tag =
      k.val)) = some u ∧ u.peer = some node ∧ u.kind = 2 ∧ u.deadline ≤ s.now ∧ s.tagHeld u = false ∧ (s.link
      u.port node).unacked = 0)
    ∧ (∃ (s : State) (k : Fin 8192) (u : TagUse) (node : Nat), s.tags.used.find? (fun u => decide (u.tag =
      k.val)) = some u ∧ u.peer = some node ∧ u.kind ≠ 3 ∧ u.deadline ≤ s.now ∧ s.tagHeld u = false ∧ (s.link
      u.port node).unacked ≠ 0 ∧ u.port < 24)
    ∧ (∃ (s : State) (k : Fin 256) (since : Nat) (j : XJob), (s.sched k).job = some j ∧ j.failed = none ∧ since
      + s.rd FLT_TMO_TRANSFER.UNITS * 100 * perUs ≤ s.now)
    ∧ (∃ (s : State) (k : Fin 256) (since : Nat), ((∀ j, (s.sched k).job = some j → j.failed.isSome = true) ∨
      s.now < since + s.rd FLT_TMO_TRANSFER.UNITS * 100 * perUs))
    ∧ (∃ (s : State) (r : Fin 1024) (i : Nat) (since : Nat) (e : Entry) (j : MatJob), s.entry r i = some e ∧
      s.job r i = some j ∧ since + s.rd FLT_TMO_TRANSFER.UNITS * 100 * perUs ≤ s.now ∧ (∃ q ∈ j.arrived, q.2 <
      e.mShares) ∧ e.replayed = false)
    ∧ (∃ (s : State) (r : Fin 1024) (i : Nat) (since : Nat) (e : Entry) (j : MatJob), s.entry r i = some e ∧
      s.job r i = some j ∧ since + s.rd FLT_TMO_TRANSFER.UNITS * 100 * perUs ≤ s.now ∧ (∃ q ∈ j.arrived, q.2 <
      e.mShares) ∧ e.replayed = true ∧ e.stage < 3)
    ∧ (∃ (s : State) (r : Fin 1024) (i : Nat) (since : Nat) (e : Entry) (j : VecJob), s.entry r i = some e ∧
      s.job r i = none ∧ s.vecJob r i = some j ∧ since + s.rd FLT_TMO_TRANSFER.UNITS * 100 * perUs ≤ s.now)
    ∧ (∃ (s : State) (r : Fin 1024) (i : Nat) (since : Nat), (s.entry r i = none ∨ (s.job r i = none ∧ s.vecJob
      r i = none) ∨ s.now < since + s.rd FLT_TMO_TRANSFER.UNITS * 100 * perUs)) :=
  ⟨⟨inCall (issued (desc opCORECALL 0 [])), 0, 0, by decide +kernel⟩,
   ⟨fetched
    { up with matJobs := [({ tiles := [tile] })], engines := [(0, { tile := some (0, 0, 0), replaying := true })] }
    [(issued (mat 0 4))], 0, 0, 0, 0, 0, 0, { tiles := [tile] }, tile, issued (mat 0 4),
    by and_intros <;> decide +kernel⟩,
   ⟨fetched
    { up with matJobs := [({ tiles := [tile] })], engines := [(0, { tile := some (0, 0, 0), replaying := false })] }
    [(issued (mat 0 4))], 0, 0, 0, 0, 0, 0, { tiles := [tile] }, tile, issued (mat 0 4),
    by and_intros <;> decide +kernel⟩,
   ⟨inCall (issued (desc opCORECALL 0 [])), 0, 0, 0, 0, 0, issued (desc opCORECALL 0 []), by decide +kernel⟩,
   ⟨up, 0, 0, 0, by decide +kernel⟩,
   ⟨State.reset, 0, 0, by decide +kernel⟩,
   ⟨up, 0, none_all (by decide +kernel)⟩,
   ⟨{ up with tags := { used := [({ kind := 4 })] } }, 0, { kind := 4 }, by decide +kernel⟩,
   ⟨{ up with tags := { used := [({ kind := 0, peer := some 2 })] } }, 0, { kind := 0, peer := some 2 }, 2,
    by decide +kernel⟩,
   ⟨{ up with tags := { used := [({ kind := 2, peer := some 2 })] } }, 0, { kind := 2, peer := some 2 }, 2,
    by decide +kernel⟩,
   ⟨{ up with tags := { used := [({ kind := 0, peer := some 2 })] }, ports := [(0, { link := { buffer := [{}] } })] },
    0, { kind := 0, peer := some 2 }, 2, by decide +kernel⟩,
   ⟨inX [1, 2] (issued (xchg 0 0)) (default), 0, 0, default, by decide +kernel⟩,
   ⟨up, 0, 0, .inl (none_all (by decide +kernel))⟩,
   ⟨fetched { up with matJobs := [({ arrived := [(0, 0)] })] } [(issued (mat 0 4))], 0, 0, 0, issued (mat 0 4),
    { arrived := [(0, 0)] }, by decide +kernel⟩,
   ⟨fetched { up with matJobs := [({ arrived := [(0, 0)] })] } [({ issued (mat 0 4) with replayed := true })],
    0, 0, 0, { issued (mat 0 4) with replayed := true }, { arrived := [(0, 0)] }, by decide +kernel⟩,
   ⟨fetched { up with vecJobs := [({})] } [(issued (desc opREDUCE 0 []))], 0, 0, 0, issued (desc opREDUCE 0
    []), {}, by decide +kernel⟩,
   ⟨up, 0, 0, 0, by decide +kernel⟩⟩

/-- States and operands that meet the hypotheses of `TimeoutsKeepTheirChain`. -/
theorem witness_timeouts_keep_their_chain :
    (∃ (s : State) (path : Fin 6), s.writeOpen path 0x40010 = true ∧ s.timeoutsOrdered)
    ∧ (∃ (s : State) (path : Fin 6), s.writeOpen path 0x40014 = true ∧ s.timeoutsOrdered)
    ∧ (∃ (s : State) (path : Fin 6), s.writeOpen path 0x40018 = true ∧ s.timeoutsOrdered)
    ∧ (∃ (s : State) (path : Fin 6), s.writeOpen path 0x4001C = true ∧ s.timeoutsOrdered)
    ∧ (∃ (s : State) (path : Fin 6), s.writeOpen path 0x40020 = true ∧ s.timeoutsOrdered)
    ∧ (∃ (s : State) (path : Fin 6), s.writeOpen path 0x40024 = true)
    ∧ (∃ (s : State) (path : Fin 6), s.writeOpen path 0x40028 = true)
    ∧ (∃ (s : State) (path : Fin 6) (reg : Fin 7), s.writeOpen path (0x40010 + 4 * reg) = false) :=
  ⟨⟨up, 0, by decide +kernel, by unfold State.timeoutsOrdered; decide +kernel⟩,
   ⟨up, 0, by decide +kernel, by unfold State.timeoutsOrdered; decide +kernel⟩,
   ⟨up, 0, by decide +kernel, by unfold State.timeoutsOrdered; decide +kernel⟩,
   ⟨up, 0, by decide +kernel, by unfold State.timeoutsOrdered; decide +kernel⟩,
   ⟨up, 0, by decide +kernel, by unfold State.timeoutsOrdered; decide +kernel⟩,
   ⟨up, 0, by decide +kernel⟩,
   ⟨up, 0, by decide +kernel⟩,
   ⟨up, 5, 0, by decide +kernel⟩⟩

/-- States and operands that meet the hypotheses of `RegisterAccessesFollowTheirRules`. -/
theorem witness_register_accesses_follow_their_rules :
    (∃ (s : State) (path : Fin 6) (a : BitVec 24) (v : BitVec 32) (row : RegRow), ((RegTarget.word a v).plain
      = true ∧ rowAt a.toNat = some row) ∧ s.storesPlainly path a.toNat)
    ∧ (∃ (a : BitVec 24) (v : BitVec 32), (RegTarget.word a v).plain = true ∧ a.toNat % 4 = 0 ∧ rowAt a.toNat =
      none ∧ (¬ (0xF00000 ≤ a.toNat ∧ a.toNat < 0xF08000)) ∧ (¬ (0x410000 ≤ a.toNat ∧ a.toNat < 0x420000)) ∧
      a.toNat ≠ 0x400 ∧ a.toNat ≠ 0x114)
    ∧ (∃ (s : State) (path : Fin 6) (a : BitVec 24) (v : BitVec 32), (RegTarget.word a v).plain = true ∧ a.toNat
      % 4 = 0 ∧ ((0x100000 ≤ a.toNat ∧ a.toNat < 0x108000 ∧ s.rd (RING_CFG.ENABLE ((a.toNat - 0x100000) / 0x20))
      = 1) ∨ (0x2000 ≤ a.toNat ∧ a.toNat < 0x4000 ∧ (path ≠ 0 ∨ s.sec.box.isSome = true)) ∨ (a.toNat = 0x400 ∧
      (path ≠ 0 ∨ s.sec.box.isSome = true)) ∨ (0x410000 ≤ a.toNat ∧ a.toNat < 0x420000 ∧ s.rd SEC_STS.RECOVERY ≠
      1)))
    ∧ (∃ (s : State) (v : BitVec 32), (RegTarget.word 0x400 v).plain = true ∧ s.boxOpen = true ∧ s.sec.box =
      none)
    ∧ (∃ (s : State) (path : Fin 6) (v : BitVec 32), (RegTarget.word 0x114 v).plain = true ∧ s.writeOpen path
      0x114 = true)
    ∧ (∃ (s : State) (path : Fin 6) (a : BitVec 24) (v : BitVec 32), (RegTarget.word a v).plain = true ∧
      s.writeOpen path a.toNat = true ∧ a.toNat % 4 = 0 ∧ 0x410000 ≤ a.toNat ∧ a.toNat < 0x420000 ∧ s.rd
      SEC_STS.RECOVERY = 1)
    ∧ (∃ (s : State) (path : Fin 6) (a : BitVec 24) (v : BitVec 32) (n : Nat), (RegTarget.word a v).plain = true
      ∧ s.writeOpen path a.toNat = true ∧ a.toNat % 4 = 0 ∧ 0xF00000 ≤ a.toNat ∧ a.toNat < 0xF08000 ∧ n =
      (a.toNat - 0xF00000) / 16)
    ∧ (∃ (s : State) (path : Fin 6) (a : BitVec 24) (v : BitVec 32), (RegTarget.word a v).plain = true ∧
      s.writeOpen path a.toNat = false ∧ a.toNat % 4 = 0)
    ∧ (∃ (s : State) (path : Fin 6) (die : Fin 25), s.writeOpen path (0x4010C + 0x20 * die) = true)
    ∧ (∃ (s : State) (path : Fin 6) (a : BitVec 24) (v : BitVec 32) (row : RegRow) (p : Nat), s.writeOpen path
      a.toNat = true ∧ a.toNat % 4 = 0 ∧ (RegTarget.word a v).plain = true ∧ rowAt a.toNat = some row ∧ latePlot
      a.toNat = some p ∧ (s.plot p).step.isSome = true)
    ∧ (∃ (s : State), s.hostReaches = true)
    ∧ (∃ (s : State) (path : Fin 6), (path ≠ 0 ∨ s.hostReaches = false))
    ∧ (∃ (s : State) (x : Tlp) (a : BitVec 24) (v : BitVec 32), (RegTarget.bad x a v).plain = true ∧
      s.hostReaches = true ∧ s.tlpBad x = true)
    ∧ (∃ (s : State) (x : Tlp) (a : BitVec 24) (v : BitVec 32), (RegTarget.bad x a v).plain = true ∧
      s.hostReaches = true ∧ s.tlpBad x = false)
    ∧ (∃ (s : State) (path : Fin 6) (vf : Fin 64), (path ≠ 0 ∨ vf = 0 ∨ s.funcUp vf = false ∨ s.faults.windthrow
      = true ∨ s.rd SEC_STS.RECOVERY ≠ 0))
    ∧ (∃ (s : State) (vf : Fin 64) (off : BitVec 9), vf ≠ 0 ∧ s.funcUp vf = true ∧ s.faults.windthrow = false ∧
      s.rd SEC_STS.RECOVERY = 0 ∧ off.toNat % 4 = 0)
    ∧ (∃ (s : State), s.configOpen = true)
    ∧ (∃ (s : State), s.configOpen = false)
    ∧ (∃ (g : RegTarget), g.plain = false)
    ∧ (∃ (s : State) (path : Fin 6) (a : BitVec 24) (row : RegRow), s.pathOpen path a.toNat = true ∧
      s.fencedWindow a.toNat = false ∧ rowAt a.toNat = some row ∧ row.role = .low)
    ∧ (∃ (s : State) (path : Fin 6) (a : BitVec 24) (row : RegRow), s.pathOpen path a.toNat = true ∧
      s.fencedWindow a.toNat = false ∧ rowAt a.toNat = some row ∧ row.role = .faultLow)
    ∧ (∃ (s : State) (path : Fin 6) (a : BitVec 24), (s.pathOpen path a.toNat = false ∨ s.fencedWindow a.toNat =
      true ∨ rowAt a.toNat = none ∨ (∃ row, rowAt a.toNat = some row ∧ (row.role = .plain ∨ row.role =
      .shadowed))))
    ∧ (∃ (s : State) (path : Fin 6) (a : BitVec 24) (q : BitVec 8) (f : Fld) (flags : List Fld), s.writeOpen
      path a.toNat = true ∧ wsqAt path a.toNat = some (f, flags) ∧ q.toNat = s.rd f)
    ∧ (∃ (s : State) (path : Fin 6) (a : BitVec 24) (q : BitVec 8), (s.writeOpen path a.toNat = false ∨ (∀ f
      flags, wsqAt path a.toNat = some (f, flags) → q.toNat ≠ s.rd f)))
    ∧ (∃ (s : State) (path : Fin 6) (gd : Fin 16), s.writeOpen path (0x800400 + 0x10000 * gd) = false)
    ∧ (∃ (s : State) (path : Fin 6) (gd : Fin 16), s.writeOpen path (0x800400 + 0x10000 * gd) = true)
    ∧ (∃ (path : Fin 6) (target : RegTarget), (Instr.registerWrite path target).wellFormed = true) :=
  ⟨⟨up, 0, 0x20008, 0, rowOf 0x20008, by decide +kernel, ⟨by decide +kernel, by decide +kernel,
    by decide +kernel, by decide +kernel, by decide +kernel, by decide +kernel, by decide +kernel,
    by decide +kernel, by decide +kernel, none_all (by decide +kernel)⟩⟩,
   ⟨4, 0, by decide +kernel⟩,
   ⟨up, 0, 0x100000, 0, by decide +kernel⟩,
   ⟨up, 0, by decide +kernel⟩,
   ⟨up, 0, 0, by decide +kernel⟩,
   ⟨put up [(SEC_STS.RECOVERY, 1)], 0, 0x410000, 0, by decide +kernel⟩,
   ⟨up, 0, 0xF00000, 0, 0, by decide +kernel⟩,
   ⟨State.reset, 0, 0x20008, 0, by decide +kernel⟩,
   ⟨up, 0, 0, by decide +kernel⟩,
   ⟨up.modPlot 0 (fun q => { q with step := some default }), 0, 0x89004, 0, rowOf 0x89004, 0,
    by decide +kernel⟩,
   ⟨up, by decide +kernel⟩,
   ⟨State.reset, 0, by decide +kernel⟩,
   ⟨up, .poisoned, 0, 0, by decide +kernel⟩,
   ⟨up, .good, 0, 0, by decide +kernel⟩,
   ⟨up, 0, 0, by decide +kernel⟩,
   ⟨up, 1, 0, by decide +kernel⟩,
   ⟨up, by decide +kernel⟩,
   ⟨State.reset, by decide +kernel⟩,
   ⟨.word 0x114 1, by decide +kernel⟩,
   ⟨up, 0, 8, rowOf 8, by decide +kernel⟩,
   ⟨up, 0, 0x40100, rowOf 0x40100, by decide +kernel⟩,
   ⟨up, 5, 0, by decide +kernel⟩,
   ⟨up, 0, 0x20034, 0, STS_THERM.SEQ, [STS_THERM.WARN, STS_THERM.THROTTLE, STS_THERM.HBM_HOT],
    by decide +kernel⟩,
   ⟨up, 5, 0, 0, .inl (by decide +kernel)⟩,
   ⟨State.reset, 0, 0, by decide +kernel⟩,
   ⟨up, 0, 0, by decide +kernel⟩,
   ⟨0, .word 4 0, by decide +kernel⟩⟩

/-- States and operands that meet the hypotheses of `TheScrubCorrectsTriplicatedFields`. -/
theorem witness_the_scrub_corrects_triplicated_fields :
    (∃ (s : State) (key : Nat) (v : Nat) (f : Fld), (s.glob.dormant = false ∧ s.regs.scrubAt + 4096 ≤ s.now ∧
      rwtField key = some f ∧ key / 32 ≠ 0x400004 ∧ v % 2 ^ f.width ≠ s.rd f) ∧ s.allAgree)
    ∧ (∃ (s : State) (key : Nat) (v : Nat) (f : Fld), (s.glob.dormant = false ∧ s.regs.scrubAt + 4096 ≤ s.now ∧
      rwtField key = some f ∧ key / 32 = 0x400004 ∧ v % 2 ^ f.width ≠ s.rd f) ∧ s.allAgree)
    ∧ (∃ (s : State) (key : Nat) (v : Nat) (w : Nat) (f : Fld), (s.glob.dormant = false ∧ s.regs.scrubAt + 4096
      ≤ s.now ∧ rwtField key = some f ∧ v % 2 ^ f.width ≠ s.rd f ∧ w % 2 ^ f.width ≠ s.rd f ∧ v % 2 ^ f.width ≠
      w % 2 ^ f.width) ∧ s.allAgree)
    ∧ (∃ (s : State) (n : Fin 65536) (p : BitVec 6), (s.glob.dormant = false ∧ s.regs.scrubAt + 4096 ≤ s.now ∧
      s.slab n ≠ default ∧ p ≠ (s.slab n).plot) ∧ s.allAgree)
    ∧ (∃ (s : State) (d : Fin 24), (s.glob.dormant = false ∧ s.regs.scrubAt + 4096 ≤ s.now ∧ s.fenced d = false)
      ∧ s.allAgree)
    ∧ (∃ (s : State), (s.glob.dormant = false ∧ s.regs.scrubAt + 4096 ≤ s.now) ∧ s.allAgree)
    ∧ (∃ (s : State), s.glob.dormant = false ∧ s.regs.scrubAt + 4096 ≤ s.now)
    ∧ (∃ (s : State), (s.glob.dormant = true ∨ s.now < s.regs.scrubAt + 4096)) :=
  ⟨⟨later, 4194560, 5, PWR_ENV_LIMIT.WATTS, by decide +kernel, fresh_agrees rfl (by decide +kernel)⟩,
   ⟨later, 134217856, 0, SEC_CFG.STAGE_EN, by decide +kernel, fresh_agrees rfl (by decide +kernel)⟩,
   ⟨later, 4194560, 5, 6, PWR_ENV_LIMIT.WATTS, by decide +kernel, fresh_agrees rfl (by decide +kernel)⟩,
   ⟨{ later with slabs := [(0, { base := 16, owner := ownDEVICE })] }, 0, 1, by decide +kernel, fresh_agrees
    rfl (by decide +kernel)⟩,
   ⟨later, 0, by decide +kernel, fresh_agrees rfl (by decide +kernel)⟩,
   ⟨later, by decide +kernel, fresh_agrees rfl (by decide +kernel)⟩,
   ⟨up, by decide +kernel⟩,
   ⟨{ up with glob := { poweredOn := true, dormant := true } }, by decide +kernel⟩⟩

/-- States and operands that meet the hypotheses of `AStepRunsTheFrontCommand`. -/
theorem witness_a_step_runs_the_front_command :
    (∃ (s : State) (c : Instr) (rest : List Instr), s.pending = c :: rest)
    ∧ (∃ (s : State), s.pending = [])
    ∧ (∃ (s : State), s.pending = [] ∧ s.glob.poweredOn = true)
    ∧ (∃ (s : State), s.pending = [] ∧ s.glob.poweredOn = false) :=
  ⟨⟨{ up with pending := [(.status true)] }, .status true, [], by decide +kernel⟩,
   ⟨up, by decide +kernel⟩,
   ⟨up, by decide +kernel⟩,
   ⟨State.reset, by decide +kernel⟩⟩

/-- States and operands that meet the hypotheses of `WellFormedCommandsComplete`. -/
theorem witness_well_formed_commands_complete :
    (∃ (c : Instr), c.wellFormed = true)
    ∧ (∃ (c : Instr), c.wellFormed = false) :=
  ⟨⟨.status true, by decide +kernel⟩,
   ⟨.registerWrite 0 (.word 0x114 1), by decide +kernel⟩⟩

/-- States and operands that meet the hypotheses of `StepsTakeOneCommandFromTheQueue`. -/
theorem witness_steps_take_one_command_from_the_queue :
    (∃ (s : State) (t : State), step s = .next t) :=
  ⟨up, after (step up), next_after (by decide +kernel)⟩

/-- States and operands that meet the hypotheses of `EveryStepKeepsTheTablesInForm`. -/
theorem witness_every_step_keeps_the_tables_in_form :
    (∃ (s : State) (t : State), s.tablesInForm ∧ step s = .next t) :=
  ⟨up, after (step up), by unfold State.tablesInForm; decide +kernel, next_after (by decide +kernel)⟩

/-- States and operands that meet the hypotheses of `RevertAndCommitWaitForStaging`. -/
theorem witness_revert_and_commit_wait_for_staging :
    (∃ (s : State) (path : Fin 6), s.fwOpen path = true ∧ s.flash.staging.isSome = true)
    ∧ (∃ (s : State) (path : Fin 6), s.fwOpen path = false)
    ∧ (∃ (s : State) (path : Fin 6), s.fwOpen path = true ∧ s.flash.staging = none ∧ s.rd SEC_STS.TRIAL = 1)
    ∧ (∃ (s : State) (path : Fin 6), s.fwOpen path = true ∧ s.flash.staging = none ∧ s.rd SEC_STS.TRIAL ≠ 1 ∧
      (s.flash.img (!s.runImage)).state = 2)
    ∧ (∃ (s : State) (path : Fin 6), s.fwOpen path = true ∧ s.flash.staging = none ∧ s.rd SEC_STS.TRIAL ≠ 1 ∧
      (s.flash.img (!s.runImage)).state ≠ 2)
    ∧ (∃ (s : State) (path : Fin 6), s.fwOpen path = true ∧ s.flash.staging = none ∧ (s.flash.img
      s.runImage).state = 1)
    ∧ (∃ (s : State) (path : Fin 6), s.fwOpen path = true ∧ s.flash.staging = none ∧ (s.flash.img
      s.runImage).state ≠ 1) :=
  ⟨⟨{ up with flash := { staging := some {} } }, 0, by decide +kernel⟩,
   ⟨up, 5, by decide +kernel⟩,
   ⟨put up [(SEC_STS.TRIAL, 1)], 0, by decide +kernel⟩,
   ⟨{ up with flash := { imgB := { state := 2 }, imgA := { state := 2 } } }, 0, by decide +kernel⟩,
   ⟨up, 0, by decide +kernel⟩,
   ⟨{ up with flash := { imgA := { state := 1 }, imgB := { state := 1 } } }, 0, by decide +kernel⟩,
   ⟨up, 0, by decide +kernel⟩⟩

/-- States and operands that meet the hypotheses of `AMatmulNeedsItsOwnOutput`. -/
theorem witness_a_matmul_needs_its_own_output :
    (∃ (s : State) (ring : Fin 1024) (idx : Nat) (e : Entry), (e.u16 12 = e.u16 8 ∨ e.u16 12 = e.u16 10) ∧
      s.takes ring idx opMATMUL e) :=
  ⟨fetched up [(desc opMATMUL 0 [])], 0, 0, desc opMATMUL 0 [], by decide +kernel, takes_of (by decide +kernel)⟩

end Sys2Proof.Tests
end

/-! The checks of a descriptor that fail: the lowest failing offset, the DESC_ERROR it ends with, and what that end
leaves as it was (R356, R519); with them, a MATMUL whose output is one of its operands (R87). -/

namespace Sys2Proof.Machine

/-! ### Failing checks -/

/-- A list with a check that fails has a lowest failing offset. -/
theorem firstFail_of_mem {l : List (Nat × Bool)} {k : Nat} (h : (k, true) ∈ l) : ∃ v, firstFail l = some v :=
  Option.ne_none_iff_exists'.mp fun hn => Bool.noConfusion (firstFail_eq_none.mp hn _ h)

theorem checks_error {l : List (Nat × Bool)} {v : Nat} (h : firstFail l = some v) :
    checks l = .error (descError v) := by
  unfold checks; rw [h]

/-- A field check that fails is a descriptor error whether or not there is anything to do. -/
theorem checkAll_error_of_field {fields : List (Nat × Bool)} {k : Nat} (h : (k, true) ∈ fields) (empty : Bool)
    (handles : List (Nat × Bool)) : ∃ v, checkAll empty fields handles = .error (descError v) := by
  have hmem : (k, true) ∈ (if empty then fields else fields ++ handles) := by
    cases empty with
    | true => exact h
    | false => exact List.mem_append_left _ h
  obtain ⟨v, hv⟩ := firstFail_of_mem hmem
  exact ⟨v, checks_error hv⟩

/-! ### Descriptors that end with an error -/

/-- A descriptor whose opcode's effect fails ends with that failure, as one that has issued. -/
theorem State.issue_error {s : State} {r i op : Nat} {e : Entry} (h : s.takes r i op e)
    {run : State → Nat → Entry → Except Fail State} {f : Fail}
    (hr : run (s.setStage r i 2) (s.ringPlot r) e = .error f) :
    s.issue r i op run = .next ((s.setStage r i 2).failDesc r i (s.ringPlot r) f) := by
  obtain ⟨hissue, hstop, -⟩ := h
  unfold State.issue
  simp only [hissue, hstop, hr]

/-- An issued descriptor that finishes has the outcome it is given. -/
theorem State.takes.ended_finish {s : State} {r i op : Nat} {e : Entry} (h : s.takes r i op e) (st v : Nat) :
    ((s.setStage r i 2).finish r i st v).ended r i st v :=
  State.ended_finish _ r i st v _ (State.entry_setStage s r i 2 e (State.mayIssue_entry h.1)) (by decide : 2 < 3)

/-- Issuing and finishing a descriptor changes no byte of memory. -/
theorem SameMemory.finish_setStage (s : State) (r i g st v : Nat) :
    SameMemory s ((s.setStage r i g).finish r i st v) := by
  apply SameMemory.of <;> simp

/-- Issuing and finishing a descriptor changes no other descriptor. -/
theorem OtherEntries.finish_setStage (s : State) (r i g st v : Nat) :
    OtherEntries s ((s.setStage r i g).finish r i st v) r i :=
  (OtherEntries.setStage s r i g).trans (OtherEntries.finish _ r i st v)

/-! ### MATMUL -/

/-- A MATMUL whose field checks fail is a descriptor error, before it reads or writes anything. -/
theorem matmul_error_of_field {e : Entry} {k : Nat} (h : (k, true) ∈ matFields e) (s : State) (p r i : Nat) :
    ∃ v, matmul s p e r i = .error (descError v) := by
  obtain ⟨v, hv⟩ := checkAll_error_of_field h (decide (e.mM = 0 ∨ e.mN = 0 ∨ e.mK = 0)) (s.matHandles p e)
  exact ⟨v, by simp only [matmul, hv]; rfl⟩

/-- R87 is among the field checks of a MATMUL: it fails at the operand that H_C equals. -/
theorem matFields_output_is_operand {e : Entry} (h : e.u16 12 = e.u16 8 ∨ e.u16 12 = e.u16 10) :
    ∃ k, (k, true) ∈ matFields e := by
  rcases h with hA | hB
  · exact ⟨8, by simp [matFields, hA]⟩
  · exact ⟨10, by simp [matFields, hB]⟩

/-- A MATMUL whose field checks fail ends with DESC_ERROR and has no other effect. -/
theorem execMatmul_of_field {s : State} {ring : Fin 1024} {idx : Nat} {e : Entry} (h : s.takes ring idx opMATMUL e)
    {k : Nat} (hk : (k, true) ∈ matFields e) :
    ∃ v, execMatmul ring idx s = .next ((s.setStage ring idx 2).finish ring idx 0x10 v) := by
  obtain ⟨v, hv⟩ := matmul_error_of_field hk (s.setStage ring idx 2) (s.ringPlot ring) ring idx
  exact ⟨v, State.issue_error (run := fun s p e => matmul s p e ring idx) h hv⟩

/-- Settles O59: equal handles fail a field check, so the descriptor only changes its own entry. -/
theorem aMatmulNeedsItsOwnOutput : Obligations.AMatmulNeedsItsOwnOutput := by
  unfold Obligations.AMatmulNeedsItsOwnOutput
  intro s ring idx e htakes hout
  obtain ⟨k, hk⟩ := matFields_output_is_operand hout
  obtain ⟨v, hexec⟩ := execMatmul_of_field htakes hk
  exact ⟨_, v, hexec, htakes.ended_finish 0x10 v, by simp, by simp, SameMemory.finish_setStage ..,
    OtherEntries.finish_setStage s ring idx 2 0x10 v⟩

end Sys2Proof.Machine

/-! The firmware commands REVERT and COMMIT_SVN (R414): what a result, a mark on an image slot and a warm reset change
of the state and what they leave, and one equation per case of each command. -/

namespace Sys2Proof.Machine

/-! ### Parts that a step leaves -/

theorem Part.kept_trans {s t u : State} {q : Part} (h1 : q.kept s t) (h2 : q.kept t u) : q.kept s u := by
  cases q with
  | bytes => exact fun a => (h2 a).trans (h1 a)
  | _ => exact Eq.trans h2 h1

theorem Rest.refl (s : State) (l : List Part) : Rest s s l := by
  intro q _
  cases q with
  | bytes => exact fun _ => rfl
  | _ => rfl

theorem Rest.trans {s t u : State} {l : List Part} (h1 : Rest s t l) (h2 : Rest t u l) : Rest s u l :=
  fun q hq => Part.kept_trans (h1 q hq) (h2 q hq)

theorem Rest.mono {s t : State} {l m : List Part} (h : Rest s t l) (hlm : l ⊆ m) : Rest s t m :=
  fun q hq => h q fun hl => hq (hlm hl)

/-- A state that differs in its registers and its flash only keeps every other part. -/
theorem Rest.of_regs_flash {s t : State} (h : t = { s with regs := t.regs, flash := t.flash }) :
    Rest s t [.regs, .flash] := by
  rw [h]
  intro q hq
  cases q with
  | regs | flash => simp at hq
  | bytes => exact fun _ => rfl
  | _ => rfl

theorem Rest.sameMemory {s t : State} {l : List Part} (h : Rest s t l) (hh : Part.hbm ∉ l) (ho : Part.host ∉ l)
    (hs : Part.stash ∉ l) : SameMemory s t := by
  have hhbm : t.hbm = s.hbm := h .hbm hh
  exact SameMemory.of (by rw [hhbm]) (by rw [hhbm]) (h .host ho) (h .stash hs)

theorem OnlyFields.rest {s t : State} {ks : List Nat} (h : OnlyFields s t ks) : Rest s t [.regs] := by
  have hflash : t.flash = s.flash := by rw [h.1]
  intro q hq
  by_cases hf : q = .flash
  · exact hf ▸ hflash
  · exact Rest.of_regs_flash (by rw [hflash]; exact h.1) q (by simp_all)

theorem OnlyFields.mono {s t : State} {ks ls : List Nat} (h : OnlyFields s t ks) (hkl : ks ⊆ ls) :
    OnlyFields s t ls :=
  ⟨h.1, fun f hf => h.2 f fun hk => hf (hkl hk)⟩

/-! ### The result of a firmware command -/

/-- A result changes RESULT and SEQ alone. -/
theorem OnlyFields.fwResult {s t : State} {ks : List Nat} (h : OnlyFields s t ks) (r : Nat)
    (hr : SEC_FW_STS.RESULT.key ∈ ks) (hq : SEC_FW_STS.SEQ.key ∈ ks) : OnlyFields s (t.fwResult r) ks :=
  (h.wr _ r hr).countWrap _ 1 hq

theorem State.rd_fwResult_other (s : State) (r : Nat) {f : Fld} (hr : f.key ≠ SEC_FW_STS.RESULT.key)
    (hq : f.key ≠ SEC_FW_STS.SEQ.key) : (s.fwResult r).rd f = s.rd f :=
  (State.rd_countWrap_other _ 1 hq).trans (State.rd_wr_other s r hr)

/-- A command that has left SEQ as it was shows its result and the next SEQ. -/
theorem Results.fwResult {s t : State} (h : t.rd SEC_FW_STS.SEQ = s.rd SEC_FW_STS.SEQ) {r : Nat} (hr : r < 16) :
    Results s (t.fwResult r) r := by
  constructor
  · calc (t.fwResult r).rd SEC_FW_STS.RESULT
        = (t.wr SEC_FW_STS.RESULT r).rd SEC_FW_STS.RESULT := State.rd_countWrap_other _ 1 (by decide)
      _ = r := (State.rd_wr_same t _ r).trans (Nat.mod_eq_of_lt hr)
  · calc (t.fwResult r).rd SEC_FW_STS.SEQ
        = ((t.wr SEC_FW_STS.RESULT r).rd SEC_FW_STS.SEQ + 1) % 2 ^ SEC_FW_STS.SEQ.width :=
          State.rd_countWrap_same _ _ 1
      _ = (s.rd SEC_FW_STS.SEQ + 1) % 2 ^ SEC_FW_STS.SEQ.width := by rw [State.rd_wr_other t r (by decide), h]

/-- A command that only answers has no other effect. -/
theorem OnlyResults.fwResult (s : State) {r : Nat} (hr : r < 16) : OnlyResults s (s.fwResult r) r :=
  ⟨Results.fwResult rfl hr, (OnlyFields.refl s _).fwResult r (by decide) (by decide)⟩

theorem State.fwResult_rest (s : State) (r : Nat) : Rest s (s.fwResult r) [.regs] :=
  ((OnlyFields.refl s imageKeys).fwResult r (by decide) (by decide)).rest

/-! ### A mark on an image slot -/

theorem Flash.img_setImg_same (f : Flash) (b : Bool) (i : ImageSlot) : (f.setImg b i).img b = i := by
  cases b <;> rfl

theorem Flash.img_setImg_not (f : Flash) (b : Bool) (i : ImageSlot) : (f.setImg b i).img (!b) = f.img (!b) := by
  cases b <;> rfl

/-- The state with slot `b` marked `st` in flash, before SEC_IMG_A and SEC_IMG_B show it. -/
def State.marked (s : State) (b : Bool) (st : Nat) : State :=
  { s with flash := s.flash.setImg b { s.flash.img b with state := st } }

/-- The fields of SEC_IMG_A and SEC_IMG_B. -/
def slotKeys : List Nat :=
  [SEC_IMG_A.STATE.key, SEC_IMG_A.SVN.key, SEC_IMG_A.CONFIRM_SEQ.key,
   SEC_IMG_B.STATE.key, SEC_IMG_B.SVN.key, SEC_IMG_B.CONFIRM_SEQ.key]

theorem State.showImages_onlyFields (s : State) : OnlyFields s s.showImages slotKeys :=
  ((((((OnlyFields.refl s slotKeys).wr _ _ (by decide)).wr _ _ (by decide)).wr _ _ (by decide)).wr _ _
    (by decide)).wr _ _ (by decide)).wr _ _ (by decide)

/-- A mark shows in the slots' registers and nowhere else. -/
theorem State.markImage_onlyFields (s : State) (b : Bool) (st : Nat) :
    OnlyFields (s.marked b st) (s.markImage b st) slotKeys :=
  State.showImages_onlyFields (s.marked b st)

section
variable {s t : State} {b : Bool} {st : Nat} {ks : List Nat} (h : OnlyFields (s.marked b st) t ks)
include h

theorem OnlyFields.flash_of_marked : t.flash = s.flash.setImg b { s.flash.img b with state := st } := by
  rw [h.1]; rfl

theorem OnlyFields.img_of_marked : t.flash.img b = { s.flash.img b with state := st } := by
  rw [h.flash_of_marked, Flash.img_setImg_same]

theorem OnlyFields.img_not_of_marked : t.flash.img (!b) = s.flash.img (!b) := by
  rw [h.flash_of_marked, Flash.img_setImg_not]

theorem OnlyFields.eq_of_marked : t = { s with regs := t.regs, flash := t.flash } := by
  rw [h.1]; rfl

theorem OnlyFields.fieldsKept_of_marked : FieldsKept s t ks := h.2

end

/-! ### A warm reset -/

theorem State.startWarm_warm {s : State} (hw : s.faults.windthrow = false) (hd : s.glob.dormant = false) :
    s.startWarm.glob.warm = true := by
  unfold State.startWarm
  cases hwarm : s.glob.warm <;> simp [hw, hd, hwarm]

/-- Windthrow and Dormant take no warm reset (R450, R484). -/
theorem State.startWarm_refused {s : State} (h : s.faults.windthrow = true ∨ s.glob.dormant = true) :
    s.startWarm = s := by
  unfold State.startWarm
  rcases h with h | h <;> simp [h]

/-- A warm reset is asked for in the global part, and told on the links and the segment. -/
theorem State.startWarm_rest (s : State) : Rest s s.startWarm [.out, .ports, .mac, .faults, .glob] := by
  intro q hq
  cases q with
  | out | ports | mac | faults | glob => simp at hq
  | bytes => exact fun a => by rw [(State.startWarm_frame s).2.2.2.1]
  | _ => simp [Part.kept]

/-! ### REVERT -/

theorem execRevert_of_closed {s : State} {path : Fin 6} (h : s.fwOpen path = false) : execRevert path s = .next s := by
  simp [execRevert, h]

theorem execRevert_of_staging {s : State} {path : Fin 6} (h : s.fwOpen path = true)
    (hg : s.flash.staging.isSome = true) : execRevert path s = .next (s.fwResult 1) := by
  simp [execRevert, h, hg]

/-- What REVERT of a running TRIAL image leaves before its warm reset: the image BAD and the result OK. -/
def State.trialReverted (s : State) : State := (s.markImage s.runImage 4).fwResult 0

/-- What REVERT of a PENDING image leaves: the image BAD, SEC_FW_STS.STATE with nothing staged, and the result OK. -/
def State.pendingReverted (s : State) : State :=
  let s1 := s.markImage (!s.runImage) 4
  (s1.wr SEC_FW_STS.STATE s1.fwIdle).fwResult 0

section
variable {s : State} {path : Fin 6} (h : s.fwOpen path = true) (hg : s.flash.staging = none)
include h hg

theorem execRevert_of_trial (ht : s.rd SEC_STS.TRIAL = 1) : execRevert path s = .next s.trialReverted.startWarm := by
  simp [execRevert, State.trialReverted, h, hg, ht]

theorem execRevert_of_pending (ht : s.rd SEC_STS.TRIAL ≠ 1) (hp : (s.flash.img (!s.runImage)).state = 2) :
    execRevert path s = .next s.pendingReverted := by
  simp [execRevert, State.pendingReverted, h, hg, ht, hp]

theorem execRevert_of_nothing (ht : s.rd SEC_STS.TRIAL ≠ 1) (hp : (s.flash.img (!s.runImage)).state ≠ 2) :
    execRevert path s = .next (s.fwResult 6) := by
  simp [execRevert, h, hg, ht, hp]

end

theorem State.trialReverted_onlyFields (s : State) :
    OnlyFields (s.marked s.runImage 4) s.trialReverted imageKeys :=
  ((s.markImage_onlyFields _ 4).mono (by decide)).fwResult 0 (by decide) (by decide)

theorem State.pendingReverted_onlyFields (s : State) :
    OnlyFields (s.marked (!s.runImage) 4) s.pendingReverted imageKeys :=
  (((s.markImage_onlyFields _ 4).mono (by decide)).wr _ _ (by decide)).fwResult 0 (by decide) (by decide)

/-- A mark leaves SEQ, which the result then advances. -/
theorem State.rd_seq_markImage (s : State) (b : Bool) (st : Nat) :
    (s.markImage b st).rd SEC_FW_STS.SEQ = s.rd SEC_FW_STS.SEQ :=
  (s.markImage_onlyFields b st).fieldsKept_of_marked SEC_FW_STS.SEQ (by decide)

theorem State.trialReverted_results (s : State) : Results s s.trialReverted 0 :=
  Results.fwResult (s.rd_seq_markImage _ 4) (by decide)

theorem State.pendingReverted_results (s : State) : Results s s.pendingReverted 0 :=
  Results.fwResult ((State.rd_wr_other _ _ (by decide)).trans (s.rd_seq_markImage _ 4)) (by decide)

theorem State.trialReverted_startWarm_rest (s : State) :
    Rest s s.trialReverted.startWarm [.out, .regs, .flash, .ports, .mac, .faults, .glob] :=
  ((Rest.of_regs_flash s.trialReverted_onlyFields.eq_of_marked).mono (by decide)).trans
    (s.trialReverted.startWarm_rest.mono (by decide))

/-- The warm reset that follows leaves the registers that REVERT has written. -/
theorem State.rd_trialReverted_startWarm (s : State) (f : Fld) :
    s.trialReverted.startWarm.rd f = s.trialReverted.rd f :=
  State.rd_of_regs (s.trialReverted.startWarm_rest .regs (by decide)) f

theorem State.trialReverted_startWarm_results (s : State) : Results s s.trialReverted.startWarm 0 := by
  unfold Results
  rw [s.rd_trialReverted_startWarm, s.rd_trialReverted_startWarm]
  exact s.trialReverted_results

theorem State.trialReverted_startWarm_warm {s : State} (hw : s.faults.windthrow = false)
    (hd : s.glob.dormant = false) : s.trialReverted.startWarm.glob.warm = true := by
  have heq := s.trialReverted_onlyFields.eq_of_marked
  exact State.startWarm_warm (by rw [heq, hw]) (by rw [heq, hd])

theorem State.trialReverted_startWarm_glob_of_refused {s : State}
    (h : s.faults.windthrow = true ∨ s.glob.dormant = true) : s.trialReverted.startWarm.glob = s.glob := by
  have heq := s.trialReverted_onlyFields.eq_of_marked
  rw [State.startWarm_refused (by rwa [heq]), heq]

/-- Every outcome of REVERT is a next state, and the parts it may change. -/
theorem execRevert_rest (s : State) (path : Fin 6) :
    ∃ t, execRevert path s = .next t ∧ Rest s t [.out, .regs, .flash, .ports, .mac, .faults, .glob] := by
  cases h : s.fwOpen path with
  | false => exact ⟨_, execRevert_of_closed h, Rest.refl s _⟩
  | true =>
    cases hg : s.flash.staging with
    | some g => exact ⟨_, execRevert_of_staging h (by simp [hg]), (s.fwResult_rest 1).mono (by decide)⟩
    | none =>
      by_cases ht : s.rd SEC_STS.TRIAL = 1
      · exact ⟨_, execRevert_of_trial h hg ht, s.trialReverted_startWarm_rest⟩
      · by_cases hp : (s.flash.img (!s.runImage)).state = 2
        · exact ⟨_, execRevert_of_pending h hg ht hp,
            (Rest.of_regs_flash s.pendingReverted_onlyFields.eq_of_marked).mono (by decide)⟩
        · exact ⟨_, execRevert_of_nothing h hg ht hp, (s.fwResult_rest 6).mono (by decide)⟩

/-! ### COMMIT_SVN -/

theorem execCommitSvn_of_closed {s : State} {path : Fin 6} (h : s.fwOpen path = false) :
    execCommitSvn path s = .next s := by
  simp [execCommitSvn, h]

theorem execCommitSvn_of_staging {s : State} {path : Fin 6} (h : s.fwOpen path = true)
    (hg : s.flash.staging.isSome = true) : execCommitSvn path s = .next (s.fwResult 1) := by
  simp [execCommitSvn, h, hg]

/-- The fuses blown up to the running image's SVN, and the result OK. -/
def State.svnCommitted (s : State) : State :=
  (s.wr SEC_STS.FUSE_SVN (max (s.rd SEC_STS.FUSE_SVN) (s.flash.img s.runImage).svn)).fwResult 0

section
variable {s : State} {path : Fin 6} (h : s.fwOpen path = true) (hg : s.flash.staging = none)
include h hg

theorem execCommitSvn_of_valid (hv : (s.flash.img s.runImage).state = 1) :
    execCommitSvn path s = .next s.svnCommitted := by
  simp [execCommitSvn, State.svnCommitted, h, hg, hv]

theorem execCommitSvn_of_not_valid (hv : (s.flash.img s.runImage).state ≠ 1) :
    execCommitSvn path s = .next (s.fwResult 6) := by
  simp [execCommitSvn, h, hg, hv]

end

theorem State.svnCommitted_onlyFields (s : State) :
    OnlyFields s s.svnCommitted [SEC_FW_STS.RESULT.key, SEC_FW_STS.SEQ.key, SEC_STS.FUSE_SVN.key] :=
  ((OnlyFields.refl s _).wr _ _ (by decide)).fwResult 0 (by decide) (by decide)

theorem State.svnCommitted_results (s : State) : Results s s.svnCommitted 0 :=
  Results.fwResult (State.rd_wr_other s _ (by decide)) (by decide)

theorem State.rd_fuseSvn_svnCommitted (s : State) :
    s.svnCommitted.rd SEC_STS.FUSE_SVN
      = max (s.rd SEC_STS.FUSE_SVN) (s.flash.img s.runImage).svn % 2 ^ SEC_STS.FUSE_SVN.width :=
  (State.rd_fwResult_other _ 0 (by decide) (by decide)).trans (State.rd_wr_same s _ _)

/-- Every outcome of COMMIT_SVN is a next state, and it changes registers alone. -/
theorem execCommitSvn_rest (s : State) (path : Fin 6) : ∃ t, execCommitSvn path s = .next t ∧ Rest s t [.regs] := by
  cases h : s.fwOpen path with
  | false => exact ⟨_, execCommitSvn_of_closed h, Rest.refl s _⟩
  | true =>
    cases hg : s.flash.staging with
    | some g => exact ⟨_, execCommitSvn_of_staging h (by simp [hg]), s.fwResult_rest 1⟩
    | none =>
      by_cases hv : (s.flash.img s.runImage).state = 1
      · exact ⟨_, execCommitSvn_of_valid h hg hv, s.svnCommitted_onlyFields.rest⟩
      · exact ⟨_, execCommitSvn_of_not_valid h hg hv, s.fwResult_rest 6⟩

/-! ### The obligation -/

/-- Settles O58: each case of the two commands is one of the equations above. -/
theorem revertAndCommitWaitForStaging : Obligations.RevertAndCommitWaitForStaging := by
  unfold Obligations.RevertAndCommitWaitForStaging
  refine ⟨fun s path h hg => ?staging, fun s path h => ?closed, fun s path h hg ht => ?trial,
    fun s path h hg ht hp => ?pending, fun s path h hg ht hp => ?nothingToRevert, fun s path h hg hv => ?valid,
    fun s path h hg hv => ?nothingToCommit, execRevert_rest, execCommitSvn_rest⟩
  case staging =>
    exact ⟨_, execRevert_of_staging h hg, execCommitSvn_of_staging h hg, OnlyResults.fwResult s (by decide)⟩
  case closed => exact ⟨execRevert_of_closed h, execCommitSvn_of_closed h⟩
  case trial =>
    have only := s.trialReverted_onlyFields
    have hflash : s.trialReverted.startWarm.flash = s.trialReverted.flash :=
      s.trialReverted.startWarm_rest .flash (by decide)
    have hrest := s.trialReverted_startWarm_rest
    exact ⟨_, execRevert_of_trial h hg ht, by rw [hflash, only.img_of_marked], by rw [hflash, only.img_not_of_marked],
      State.trialReverted_startWarm_warm, State.trialReverted_startWarm_glob_of_refused,
      s.trialReverted_startWarm_results, hrest.sameMemory (by decide) (by decide) (by decide),
      hrest .rings (by decide),
      fun f hf => (s.rd_trialReverted_startWarm f).trans (only.fieldsKept_of_marked f hf)⟩
  case pending =>
    have only := s.pendingReverted_onlyFields
    have hrun : s.pendingReverted.flash.img s.runImage = s.flash.img s.runImage := by
      simpa using only.img_not_of_marked
    exact ⟨_, execRevert_of_pending h hg ht hp, only.img_of_marked, hrun, s.pendingReverted_results,
      only.eq_of_marked, only.fieldsKept_of_marked⟩
  case nothingToRevert => exact ⟨_, execRevert_of_nothing h hg ht hp, OnlyResults.fwResult s (by decide)⟩
  case valid =>
    exact ⟨_, execCommitSvn_of_valid h hg hv, s.rd_fuseSvn_svnCommitted, s.svnCommitted_results,
      s.svnCommitted_onlyFields⟩
  case nothingToCommit => exact ⟨_, execCommitSvn_of_not_valid h hg hv, OnlyResults.fwResult s (by decide)⟩

end Sys2Proof.Machine
